-- ==== Sys2Proof/Word.lean ====
section
/-!
DEFINITION. The word types of the KR9560 model: bytes, 32-bit and 64-bit registers (R14), 64-byte units (R32), and
the sparse maps in which registers and memories are held.
-/
namespace Sys2Proof

/-- A byte of data (R7: byte 0 of a field holds bits [7:0]). -/
abbrev Byte := BitVec 8

/-- A 64-bit register or record word (R14). A register of 32 bits uses the low half. -/
abbrev Word := BitVec 64

/-- A 64-byte unit: byte i in bits [8i + 7 : 8i] (R7). -/
abbrev Line := BitVec 512

/-- A sparse map from natural keys, in ONE canonical form: keys strictly rising, no entry equal to what an unlisted key
reads as. -/
abbrev SMap (α : Type) := List (Nat × α)

/-- A memory of bytes in the same canonical form (`Host.Cell`); an unlisted byte reads 0. -/
abbrev Mem := List Host.Cell

/-- A 64-byte unit as it travels: its data, its CRC-32C check and its poison bit (R32, R283). -/
structure DUnit where
  data : Line
  check : BitVec 32
  pois : Bool
  deriving DecidableEq, Repr, Inhabited

end Sys2Proof
end

