-- ==== Sys2Proof/Syntax.lean ====
section
/-!
DEFINITION. The commands of the KR9560: one constructor per row of spec/opcode_table.json, with what the access, arrival or
event carries. What the device's state already holds is no operand.
-/
namespace Sys2Proof

/-- How a read of host memory ended (R249, R371, R375, R382): with data, with a completion timeout, with an unsuccessful
status, or with a poisoned completion. -/
inductive ReadResult
  | ok (data : List Byte)
  | timeout
  | unsuccessful
  | poisoned
  deriving DecidableEq, Repr

/-- What a SECDED-protected read found (R117, R206, R235, R270, R303): clean, one word corrected, one word uncorrectable, or
so many words of the access corrected and so many uncorrectable. -/
inductive Ecc
  | clean | corrected | uncorrectable
  | words (fixed bad : Nat)
  deriving DecidableEq, Repr

/-- Words corrected. -/
def Ecc.fixed : Ecc → Nat
  | .corrected => 1
  | .words f _ => f
  | _ => 0

/-- Words uncorrectable. -/
def Ecc.bad : Ecc → Nat
  | .uncorrectable => 1
  | .words _ b => b
  | _ => 0

/-- One HBM read of a translation walk (R247, R270): what SECDED found, what it found in the second reading of a unit that
failed, and the system-network clocks that the read took. -/
structure WalkRead where
  ecc : Ecc
  reread : Ecc
  clocks : Nat
  deriving DecidableEq, Repr

/-- Which halves of a 64-bit register a write covers (R14, R497). -/
inductive Half
  | low | high | both
  deriving DecidableEq, Repr

/-- A remote signal as it arrives: issuing device, target context and virtual id, increment, and fence as engine, thread
and byte count (R210, R211, R218). -/
structure SignalMsg where
  device : Nat
  ctx : Nat
  vid : Nat
  inc : Nat
  fence : Option (Nat × Nat × Nat)
  deriving DecidableEq, Repr

/-- How a stack's training went (R272): a short training verified; a short training that fell back to full; a full
training that reached its margins, or did not. -/
inductive TrainOutcome
  | verified | fellBack (margins : Bool) | margins (reached : Bool)
  deriving DecidableEq, Repr

/-- Why the converter is turned off (R453, R517): VIN below 41 V for 100 µs, VIN above 62 V for 10 µs, or current
limiting for 500 µs, or the 56 V input removed. -/
inductive TurnOff
  | under | over | limit | removed
  deriving DecidableEq, Repr

/-- Errors of the link and of received TLPs that have no command of their own (R382): a TLP that is discarded, a correctable error
that the link layer retries, or an unexpected completion. -/
inductive TlpError
  | ecrc | malformed | flowControl | overflow
  | receiver | badTlp | badDllp | rollover | replayTimeout
  | unexpectedCompletion
  deriving DecidableEq, Repr


/-- A system-network flit in a dynamic unit position of a link flit (R275, R322): payload, check and POISON, and the
header bits VCR (false: VC 2), HEAD and TAIL. -/
structure NetFlit where
  data : DUnit
  vcr : Bool
  head : Bool
  tail : Bool
  deriving DecidableEq, Repr

/-- What the unit positions of a link flit carry (R322, R325): nothing, up to four units for a LINK thread, network flits,
or control units as their TYPE and fields in order. -/
inductive FlitBody
  | idle
  | sched (eng thread : Nat) (units : List (Option DUnit))
  | dyn (units : List NetFlit)
  | ctrl (units : List (Nat × List Nat))
  deriving DecidableEq, Repr

/-- A link flit (R321, R322): slot, FRAME (mod 2,048), the slot it replays, and a NAK as frame (mod 2,048) and slot. -/
structure Flit where
  slot : Nat
  frame : Nat
  replay : Option Nat
  nak : Option (Nat × Nat)
  body : FlitBody
  deriving DecidableEq, Repr

/-- An EXCH control unit as it arrives (R317): X1, X2[31:0], TS, ECHO_TS and ECHO_HOLD. -/
structure ExchUnit where
  peer : Word
  epoch : Nat
  ts : Nat
  echoTs : Nat
  echoHold : Nat
  deriving DecidableEq, Repr

/-- What a PRBS checker reports (R338, R401): synchronisation gained or lost, or bits compared and errors found while it is
synchronised. -/
inductive PrbsEvent
  | gained | lost | counted (bits errors : Nat)
  deriving DecidableEq, Repr

/-- A REPORT control unit (R349, R352): STATUS, MX_FLAGS, VX_FLAGS, POISON_CAUSE, BAD_COUNT, FIRST_BAD where BAD_VALID is
set, and COVER. -/
structure ReportUnit where
  status : Nat
  mx : Nat
  vx : Nat
  cause : BitVec 8
  bad : Nat
  firstBad : Option Nat
  cover : Nat
  deriving DecidableEq, Repr

/-- What a word's accesses meet in a Spire: what SECDED found, as bus (0 X, 1 Y, 2 C), 64-bit word of the access and result,
and the tile-store banks that the Dome-network port uses beside what the device's own routes need, each with its dclk, counted
from the one from which the word's timing counts (R117, R118, R137). -/
structure VxEnv where
  ecc : List (Nat × Nat × Ecc)
  port : List (Nat × Nat)
  deriving DecidableEq, Repr

/-- A defect of a matrix cell in one K-group of a DOP (R73 - R76): what its first product, and its group sum alone, are
wrong by. -/
structure MxDefect where
  spire : Nat
  pass : Nat
  group : Nat
  row : Nat
  col : Nat
  product : Int
  sum : Int
  deriving DecidableEq, Repr

/-- What the memories meet while a DOP reads its operands: defects of cells, and what SECDED found in a line of the tile
stores or of the stream cache, by line number (R117, R235). [DESIGN CHOICE, safe: notes/assumptions/103] -/
structure DopEnv where
  defects : List MxDefect
  tile : List (Nat × Ecc)
  cache : List (Nat × Ecc)
  deriving DecidableEq, Repr

/-- How a request reaches the Keep (R449): through the mailbox, or over MCTP with its data. -/
inductive KeepPort
  | mailbox
  | mctp (data : List Byte)
  deriving DecidableEq, Repr

/-- What goes wrong while an UPDATE runs (R439): the card fails to read, or the flash fails, at a point of the image: 0 is
the header (the erase), b + 1 block b, and a later number the image trailer (the header that is written last). -/
structure UpdateEnv where
  card : Option Nat
  flash : Option Nat
  deriving DecidableEq, Repr

/-- A unit that user logic writes (R402, R403): its data, the check it supplies where CHKV is 1, and POISON. -/
structure ApUnit where
  data : Line
  chk : Option (BitVec 32)
  pois : Bool
  deriving DecidableEq, Repr

/-- A request of user logic to an access point (R402): RD, WR or WRP with its byte enables. -/
inductive ApRequest
  | rd (addr : Word) (len : Nat) (tag : Fin 256)
  | wr (addr : Word) (units : List ApUnit) (tag : Fin 256)
  | wrp (addr : Word) (unit : ApUnit) (be : Word) (tag : Fin 256)
  deriving DecidableEq, Repr

/-- A host access to the fabric user window (R405): a read of `len` bytes, or data with byte enables. -/
inductive UserAccess
  | read (len tag : Nat)
  | write (data : Word) (be : BitVec 8)
  deriving DecidableEq, Repr

/-- What one port of a block RAM does in a cycle (R389, R390): its address, the word that it writes, whether it reads. -/
structure RamAccess where
  addr : Nat
  write : Option Nat
  read : Bool
  deriving DecidableEq, Repr

/-- The commands of the device. Each constructor's text names its row of the table and the rule it follows. -/
inductive Instr
  /-- REGISTER_WRITE (R9): A BAR0 write to a register that has no row of its own sets its RW fields, clears W1C bits or
  sets W1S bits under the type rules. -/
  | registerWrite (func : Fin 64) (offset : Nat) (bytes : List (Option Byte))
  /-- DOORBELL (R368): A write to bytes 0–3 of a doorbell page replaces the enabled bits of the ring's TAIL, or is
  discarded and counted. -/
  | doorbell (func : Fin 64) (offset : Nat) (bytes : List (Option Byte))
  /-- RING_READ (R370): The endpoint serves the next ring with pending entries and issues one read of up to 8
  consecutive entries. -/
  | ringRead
  /-- RING_READ_COMPLETION (R370): Returned ring entries are checked and accepted in ring order, and HEAD advances past
  them. -/
  | ringReadCompletion (ring : Fin 256) (res : ReadResult)
  /-- FETCH_ERR_CLEAR (R371): Clearing FETCH_ERR lets the ring be read again from HEAD. -/
  | fetchErrClear (ring : Fin 256)
  /-- RING_DISABLE (R369): Writing EN = 0 stops fetching from the ring after any read in flight. -/
  | ringDisable (ring : Fin 256)
  /-- RING_ENABLE (R369): Writing EN = 1 to a disabled ring requests its enable, with EN_PEND set while records remain
  outstanding. -/
  | ringEnable (ring : Fin 256) (ctl : Word)
  /-- RING_ENABLE_EFFECTIVE (R369): Once no record of the ring lacks its completion record, the pending enable sets
  HEAD, TAIL and SEQ to 0. -/
  | ringEnableEffective (ring : Fin 256)
  /-- INPUT_READ_COMPLETION (R375): Input bytes read for a PUSH record are pushed into the context's queue, as poisoned
  zeros if the read failed. -/
  | inputReadCompletion (input : Nat) (res : ReadResult)
  /-- BAR2_READ (R365): A host read through BAR2 reaches local HBM through the interleave map and the prefetcher.
  `ecc`: what SECDED finds in units of the prefetch area, by unit of the read. -/
  | bar2Read (func : Fin 64) (offset len tag : Nat) (ecc : List (Nat × Ecc) := [])
  /-- BAR2_WRITE (R365): A host write through BAR2 travels to HBM as WRITE or WRITE_PARTIAL. -/
  | bar2Write (func : Fin 64) (offset : Nat) (bytes : List (Option Byte)) (ep : Bool)
  /-- HOST_READ_COMPLETION (R249): A completion for a device-issued host read delivers its data, or a task fault when
  its status is unsuccessful. -/
  | hostReadCompletion (txn : Nat) (res : ReadResult)
  /-- COMPLETION_TIMEOUT (R249): A host read that is not completed in time ends with a completion timeout and a task
  fault. -/
  | completionTimeout (txn : Nat)
  /-- FUNCTION_LEVEL_RESET (R381): An FLR disables the function's rings, aborts its contexts' tasks and resets its
  configuration space. -/
  | functionLevelReset (func : Fin 64)
  /-- PERST_N (R381): PERST_N acts as an FLR of the PF and holds the endpoint until the link retrains. -/
  | perstN
  /-- HOT_RESET (R381): A Hot Reset acts as an FLR of the PF and holds the endpoint until the link retrains. -/
  | hotReset
  /-- PCIE_LINK_DOWN (R379): Loss of the PCIe link completes outstanding reads as unsuccessful at once and discards
  further host-bound writes. -/
  | pcieLinkDown
  /-- L0P_REQUEST (R362): An L0p width request from the upstream port is accepted. -/
  | l0pRequest (width : Fin 32)
  /-- ASPM_L1_ENTRY (R362): After L1_IDLE µs of idle with no task holding the Dome, the link enters ASPM L1. -/
  | aspmL1Entry
  /-- ATS_TRANSLATION_COMPLETION (R380): A returned ATS translation lets the held request issue, or acts as an
  unsuccessful completion when it grants no permission. -/
  | atsTranslationCompletion (func : Fin 64) (page target : Nat) (read write : Bool)
  /-- ATS_INVALIDATION_REQUEST (R380): An Invalidation Request is completed once every request issued with the
  invalidated translation has completed. -/
  | atsInvalidationRequest (func : Fin 64) (page : Nat)
  /-- CONFIGURATION_REQUEST (R508): A PCIe Configuration Request is answered, or receives Retry Status before the 100 ms
  readiness point. -/
  | configurationRequest (func : Fin 64) (dword tag : Nat) (wr : Option (BitVec 32))
  /-- HIF_VF_ABORT (R384): A VF writes its abort register, which acts as LNT_ABORT for its own contexts. -/
  | hifVfAbort (vf : Fin 64) (data : BitVec 32)
  /-- HIF_VF_SIG (R384): A VF adds INC to a virtual tally of its own context as a host signal. -/
  | hifVfSig (vf : Fin 64) (data : Word)
  /-- HIF_VF_SOP (R384): A VF gives a start marker to one of its own queues. -/
  | hifVfSop (vf : Fin 64) (data : Word)
  /-- HIF_VF_FLUSH (R384): A VF flushes one of its own queues. -/
  | hifVfFlush (vf : Fin 64) (data : BitVec 32)
  /-- START_CONDITION_EVALUATION (R215): A head task in WAITING has its start conditions tested against the tallies and,
  if all are met, consumes them and becomes READY. `ecc`: contexts in whose W0 SECDED finds an error (R206), uncorrectable
  or not. -/
  | startConditionEvaluation (ecc : List (Fin 49152 × Bool) := [])
  /-- TASK_SELECTION (R185): The Lantern takes the READY task of the highest class, requests a wake and begins loading
  its private tallies. -/
  | taskSelection (ecc : List (Fin 16 × Bool))
  /-- TASK_START (R188): At the start cycle the Lantern clears flags and captures, resets VX registers, empties pack
  buffers and records S. -/
  | taskStart
  /-- DOP_STEP (R96): A DOP step at its stamp launches the DOP, which runs its passes, drains and programs at fixed
  dclk. -/
  | dopStep (env : DopEnv)
  /-- STREAM_STEP (R179): A STREAM step starts a stream thread on its descriptor, stopping it first if it is running. -/
  | streamStep (ecc : Ecc)
  /-- LINKTAB_STEP (R327): A LINKTAB step makes a slot table current on its links from the next frame. -/
  | linktabStep
  /-- SPLIT_STEP (R234): A SPLIT step loads the bandwidth wheel of every engine. -/
  | splitStep
  /-- SIGNAL_STEP (R211): A SIGNAL step issues a tally signal to its own, another or a remote context. -/
  | signalStep
  /-- END_STEP (R189): The END stamp issues the task's last result-buffer write and stops threads that are not DONE. -/
  | endStep
  /-- END_STATE_DECISION (R189): At E + 1 the Lantern decides the end state and issues the completion record or restarts
  the task. `ecc`: words of the context record in which SECDED finds an error, for a restart. -/
  | endStateDecision (ecc : List (Fin 16 × Bool) := [])
  /-- TALLY_SAVE_COMPLETE (R189): The private tallies of an OK task have been saved and the next task of the context
  leaves QUEUED. -/
  | tallySaveComplete
  /-- IDLE_TIMER_WARM (R460): The idle timer reaches WARM_AFTER and the device moves from Run to Warm. -/
  | idleTimerWarm
  /-- IDLE_TIMER_COLD (R460): The idle timer reaches WARM_AFTER + COLD_AFTER and the device begins entry to Cold. -/
  | idleTimerCold
  /-- LNT_ABORT (R190): A write of LNT_ABORT aborts a context's task according to its state, or requests the abort from
  the master. -/
  | lntAbort (data : BitVec 32)
  /-- ABORT_COMPLETION (R190): Once the last launched DOP's epilogue and every stopped thread have finished, the ABORTED
  record is issued. -/
  | abortCompletion
  /-- CONTEXT_RECORD_WRITE (R205): A host write to a context record sets its RW fields, or is discarded while STATUS
  reads 0x5. -/
  | contextRecordWrite (func : Fin 64) (ctx : Fin 49152) (word : Fin 16) (data : Word) (lanes : Half)
  /-- TALLY_WRITE (R221): A host write to the tally window sets a physical tally's value. -/
  | tallyWrite (tally : Fin 65536) (value : BitVec 32)
  /-- TRANSLATION_ENTRY_WRITE (R208): A host write sets translation-table entries and triggers re-evaluation of waiting
  tasks. -/
  | translationEntryWrite (table : Fin 480) (pair : Fin 128) (value : BitVec 32)
  /-- TLY_HOST_SIG (R211): A host write adds INC to a physical tally as an unfenced signal. -/
  | tlyHostSig (data : Word)
  /-- SIGNAL (R211): A remote signal arrives at the target device and is applied or parked. `headerOk`: the
  header of its packet passes its checks (R284). -/
  | remoteSignal (msg : SignalMsg) (headerOk : Bool := true)
  /-- SIGNAL_APPLY (R213): The signals applied in a gcyc are added to their tallies as one sum. `ecc`: as for
  START_CONDITION_EVALUATION. -/
  | signalApply (ecc : List (Fin 49152 × Bool) := [])
  /-- FENCE_RELEASE (R218): A parked signal whose fence is met by a commit is released for application. -/
  | fenceRelease
  /-- FENCE_EXPIRY (R219): A parked signal whose fence is unmet after FENCE_LIMIT gcyc expires and faults the task. -/
  | fenceExpiry
  /-- STREAM_REQUEST_ISSUE (R231): A thread with available units, credits and a wheel slot issues a request of 1 to 32
  units. -/
  | streamRequestIssue (engine : Fin 4) (cls : Fin 4) (units : Nat)
  /-- LAYER_DRAIN (R241): At the drain point after a LAYER_END DOP, the named threads issue their remaining units and
  enter DRAINING. -/
  | layerDrain
  /-- THREAD_DONE (R241): A draining thread whose units are all committed or discarded resets its ring quarter and
  enters DONE. -/
  | threadDone (engine : Fin 4) (thread : Fin 256)
  /-- THREAD_FINISHED (R243): A stopped thread with no issued writes left enters STOPPED and is judged for uncommitted
  units. -/
  | threadFinished (engine : Fin 4) (thread : Fin 256)
  /-- TRANSLATION_WALK (R247): A translation-cache miss walks the page tables and completes with a translation or a
  fault. `reads`: its reads of HBM, level by level; one not given is clean. -/
  | translationWalk (engine : Fin 4) (thread : Fin 256) (reads : List WalkRead)
  /-- STE_TLB_INV (R247): A write of STE_TLB_INV starts an invalidation of translations in all four engines. -/
  | steTlbInv (data : Word)
  /-- TLB_INVALIDATION_COMPLETE (R247): The invalidation ends and STE_TLB_STATUS.BUSY reads 0. -/
  | tlbInvalidationComplete
  /-- HBM_ACCESS_ISSUE (R262): A pseudo-channel issues its next scheduled or dynamic access, or a queued write, to its
  stack. -/
  | hbmAccessIssue (stack : Fin 12) (pc : Fin 32)
  /-- HBM_READ_COMPLETE (R270): Data returned by the stack is corrected, checked and delivered, or read once more. -/
  | hbmReadComplete (stack : Fin 12) (pc : Fin 32) (ecc : Ecc)
  /-- HBM_REFRESH (R263): At each multiple of the refresh interval every pseudo-channel refreshes one bank. -/
  | hbmRefresh
  /-- PARITY_ALERT (R268): A parity alert makes the controller replay every unconfirmed command, abandoning them after
  three failed replays. -/
  | parityAlert (stack : Fin 12) (pc : Fin 32) (writeData : Bool)
  /-- COMMAND_CONFIRMED (R268): A command whose alert latency has passed with no alert leaves the retry buffer. -/
  | commandConfirmed (stack : Fin 12) (pc : Fin 32)
  /-- HBC_SUSPECT_CLEAR (R269): Writing 1 to a SUSPECT bit clears it and empties the lost-write table. -/
  | hbcSuspectClear (stack : Fin 12) (data : BitVec 32)
  /-- HBC_CLR_RETAIN (R273): A write of CLR_RETAIN invalidates the stack's retained training record. -/
  | hbcClrRetain (stack : Fin 12)
  /-- HBM_TRAINING_COMPLETE (R272): A controller finishes short or full training at exit from reset. -/
  | hbmTrainingComplete (stack : Fin 12) (outcome : TrainOutcome)
  /-- READ (R277): A READ packet reaches its target, which returns READ_DATA. -/
  | netRead (txn : Nat) (headerOk : Bool) (ecc : List (Nat × Ecc))
  /-- READ_DATA (R277): Returned read data reaches its initiator and is delivered, or discarded if late. -/
  | netReadData (txn : Nat) (headerOk : Bool)
  /-- WRITE (R277): A WRITE packet reaches its target, which commits the units and returns WRITE_ACK. -/
  | netWrite (txn : Nat) (headerOk : Bool)
  /-- WRITE_PARTIAL (R266): A WRITE_PARTIAL is merged with the stored unit as a read, merge and whole-unit write.
  `ecc`, `reread`: what SECDED finds in the stored unit, and in its second reading. -/
  | netWritePartial (txn : Nat) (headerOk : Bool) (ecc : Ecc) (reread : Ecc := .clean)
  /-- WRITE_ACK (R277): A WRITE_ACK reaches its initiator, which counts the units as committed. -/
  | netWriteAck (txn : Nat) (headerOk : Bool)
  /-- PACKET_INJECTION (R289): A waiting dynamic packet is injected once its regulator holds enough tokens. -/
  | packetInjection (init : Fin 256)
  /-- RESPONSE_TIMEOUT (R285): A transaction without a response within RESP_LIMIT is completed by its initiator
  interface. -/
  | responseTimeout (txn : Nat)
  /-- SNC_REG_WRITE (R290): A write of SNC_REGi sets the regulator and refills its bucket. -/
  | sncRegWrite (init : Fin 256) (data : Word)
  /-- SNC_STAT_CLR (R293): A write of SNC_STAT_CLR clears the statistics of one or all initiators. -/
  | sncStatClr (data : BitVec 32)
  /-- SNC_STAT_CTL (R293): A write of FREEZE freezes or releases every statistic. -/
  | sncStatCtl (data : BitVec 32)
  /-- GATEWAY_HOLD_RELEASE (R288): A dynamic tile-store request held at a gateway is served once the Dome is free and in
  Run. -/
  | gatewayHoldRelease (txn : Nat) (ecc : List (Nat × Ecc))
  /-- QMG_SOP (R297): A start marker begins a packet on a queue, truncating any packet in assembly. -/
  | qmgSop (data : Word)
  /-- PUSH_PORT_WRITE (R298): Bytes written to a queue's push port are appended to its open cell. -/
  | pushPortWrite (func : Fin 64) (queue : Fin 65536) (bytes : List (Option Byte)) (ep : Bool)
  /-- QMG_FLUSH (R306): A flush frees every linked cell beyond the read position and discards the open cell. -/
  | qmgFlush (data : BitVec 32)
  /-- QMG_POP_STATUS (R308): A read moves the committed head cell into the pop latch and frees it, or returns EMPTY. -/
  | qmgPopStatus (ecc : Ecc)
  /-- QMG_POP_META (R308): A read returns the metadata and check of the latched cell once. -/
  | qmgPopMeta (lanes : Half)
  /-- QMG_POP_DATA (R308): A read returns the next data word of the latched cell. -/
  | qmgPopData (lanes : Half)
  /-- QMG_QCFG (R301): A write of a queue's configuration, with GATE applying at once and triggering re-evaluation. -/
  | qmgQcfg (data : Word)
  /-- LINK_ENABLE (R314): Writing EN = 1 moves a DOWN link to DETECT. -/
  | linkEnable (link : Fin 64)
  /-- LINK_DISABLE (R314): Writing EN = 0 moves the link to DOWN from any state. -/
  | linkDisable (link : Fin 64)
  /-- RETRAIN (R314): Writing RETRAIN moves an ACTIVE link to TRAIN and clears GEN2_FAIL. -/
  | linkRetrain (link : Fin 64)
  /-- TUR_CLR_RETAIN (R316): A write of CLR_RETAIN invalidates the link's retained training records. -/
  | turClrRetain (link : Fin 64)
  /-- TERMINATION_DETECT (R314): Every 10 µs in DETECT the link tests far-end termination and moves to TRAIN once the
  clock is stable. -/
  | terminationDetect (link : Fin 64) (present : Bool)
  /-- LOSS_OF_CLOCK (R315): No edge on the incoming clock lane for 100 ns sets ABSENT and moves the link to DETECT. -/
  | lossOfClock (link : Fin 64)
  /-- CLOCK_RESTORED (R315): An incoming clock stable for 1 µs clears ABSENT. -/
  | clockRestored (link : Fin 64)
  /-- TRAIN_COMPLETE (R316): Restored or full training ends and the link enters LOCK. -/
  | trainComplete (link : Fin 64) (verified : Bool)
  /-- SYMBOL_LOCK (R314): Bit and symbol lock and deskew complete and the link enters EXCHANGE. -/
  | symbolLock (link : Fin 64) (lanes : Fin 4)
  /-- BRING_UP_TIMEOUT (R314): A timeout in TRAIN, LOCK or EXCHANGE returns the link to DETECT. -/
  | bringUpTimeout (link : Fin 64)
  /-- EXCH (R317): An EXCH control unit is received and, once confirmed, completes the exchange. -/
  | exch (link : Fin 64) (unit : ExchUnit)
  /-- FRAME_START (R320): A transmitter begins a frame with its alignment marker every F gcyc. -/
  | frameStart (link : Fin 64)
  /-- FLIT_TRANSMIT (R330): A slot transmits a scheduled, replay, control, dynamic or idle flit. -/
  | flitTransmit (link : Fin 64)
  /-- FLIT_RECEIVE (R323): A received flit is decoded and checked, then delivered, held or NAKed. -/
  | flitReceive (link : Fin 64) (flit : Flit) (corrected : Nat) (corrupted : Bool)
  /-- REPLAY_DEADLINE (R332): At A(f + D, 31) a corrupted flit without an intact replay is dropped and held flits are
  released. -/
  | replayDeadline (link : Fin 64) (frame : Nat)
  /-- LINK_SLOT_DROP (R334): A current RX entry of a link that carries no scheduled traffic receives four poisoned zero
  units. -/
  | linkSlotDrop (link : Fin 64) (frame : Nat) (slot : Fin 31)
  /-- ALIGNMENT_MARKER_LOSS (R336): An ACTIVE link that misses its markers in four frames enters LOCK. -/
  | alignmentMarkerLoss (link : Fin 64)
  /-- WAKE (R335): A received WAKE control unit requests a wake of the device. -/
  | linkWake (link : Fin 64)
  /-- CREDIT (R325): A CREDIT control unit gives a PEER thread its cumulative credit total. `headerOk`: the
  header of its packet passes its checks (R284). -/
  | linkCredit (link : Fin 64) (engine : Fin 4) (thread : Fin 256) (total : Nat) (headerOk : Bool := true)
  /-- LOOPBACK (R337): Writing LOOP selects a loopback and moves the link to TEST, or back to DETECT. -/
  | loopback (link : Fin 64) (loop : Fin 8)
  /-- TUR_PRBS_CLR (R338): A write of CLR clears the link's PRBS counters. -/
  | turPrbsClr (link : Fin 64)
  /-- PRBS_INJECT (R338): A write of ONCE injects one bit error on each selected lane. -/
  | prbsInject (link : Fin 64)
  /-- ALIGN (R344): A child receives ALIGN from its parent and answers with ALIGN_ECHO. -/
  | cluAlign (link : Fin 64) (t1 : Nat)
  /-- ALIGN_ECHO (R344): A parent receives ALIGN_ECHO and sends ALIGN_RESULT. -/
  | cluAlignEcho (link : Fin 64) (t2 t3 : Nat)
  /-- ALIGN_RESULT (R346): A child computes its offset and trims, steps or declares alignment LOST. -/
  | cluAlignResult (link : Fin 64) (t4 : Nat)
  /-- ALIGNMENT_STEP (R345): An UNALIGNED member applies its counter correction once no task holds its Dome. -/
  | alignmentStep
  /-- ALIGN_CHECK (R346): Every CHECK_PERIOD an aligned parent repeats the handshake. -/
  | alignCheck
  /-- REALIGN (R345): A write of CLU_CTL.REALIGN makes the member UNALIGNED. -/
  | realign
  /-- FREQUENCY_LOCK (R343): A member in ACQUIRE whose error stays below 0.01 ppm for 1 ms becomes LOCKED. -/
  | frequencyLock
  /-- CDONE_FALL (R348): A fall of CDONE through the filter stops cluster selection and aborts a cluster task in
  progress. -/
  | cdoneFall
  /-- CDONE_RISE (R347): CDONE reading high ends the CDONE wait of start-up. -/
  | cdoneRise
  /-- START (R196): A member receives the START flood, forwards it and prepares the slot to start at S. -/
  | cluStart (link : Fin 64) (start : Nat) (slot : Fin 1024) (epoch : Nat) (ctx : Fin 65536) (restart : Bool) (seq : Fin 65536)
  /-- START_READINESS (R353): At S a member starts the cluster task or sends NOSTART with its reason. `ecc`: as for
  TASK_SELECTION. -/
  | startReadiness (ecc : List (Fin 16 × Bool) := [])
  /-- ABORT (R197): A member receives the ABORT flood, forwards it and applies the abort. -/
  | cluAbort (link : Fin 64) (ctx : Fin 65536) (seq : Fin 65536)
  /-- FINAL (R198): A member receives the final STATUS and saves its private tallies only on OK. -/
  | cluFinal (link : Fin 64) (status : Fin 16) (seq : Fin 65536)
  /-- REPORT (R352): A member receives a child's REPORT for combination into its own. -/
  | cluReport (link : Fin 64) (report : ReportUnit)
  /-- REPORT_SEND (R352): At E + 1 + REPORT_OFF a member sends its combined REPORT up the tree. -/
  | reportSend
  /-- REPORT_DEADLINE (R352): At E + 1 + REPORT_LAT the master issues the cluster's completion record and floods FINAL. `ecc`:
  as for END_STATE_DECISION. -/
  | reportDeadline (ecc : List (Fin 16 × Bool) := [])
  /-- NOSTART (R353): The master receives a NOSTART and aborts the cluster task. -/
  | cluNoStart (link : Fin 64) (device : Fin 1024) (reason : Fin 8)
  /-- ABORT_REQ (R355): The master receives an abort request from a member and floods ABORT. -/
  | cluAbortReq (link : Fin 64) (device : Fin 1024) (ctx : Fin 65536)
  /-- CLUSTER_ABORT_TIMEOUT (R197): 10,000 gcyc after an abort decision the master issues its record without the missing
  reports. -/
  | clusterAbortTimeout
  /-- MULTICAST_PORT_WRITE (R357): A unit written to a group's port is offered to every attached output. -/
  | multicastPortWrite (group : Fin 256) (full : Bool) (data : Line) (ep : Bool)
  /-- OUTPUT_DETACH (R358): An output that has not accepted its head copy for LIMIT gcyc is detached. -/
  | outputDetach (group : Fin 256) (output : Fin 65)
  /-- MC_DETACH (R358): A child receives MC_DETACH, poisons its task and marks the group detached. -/
  | mcDetach (group : Fin 256)
  /-- CLU_MC_ATTACH (R358): A write of CLU_MC_ATTACH re-attaches every detached output of a group. -/
  | cluMcAttach (data : BitVec 32)
  /-- CFG_START (R408): Writing CFG_CTL.START begins a load from the selected source. -/
  | cfgStart (data : BitVec 32)
  /-- CFG_ABORT (R410): Writing CFG_CTL.ABORT ends the load in progress with error 0x16. -/
  | cfgAbort (data : BitVec 32)
  /-- CFG_PORT (R408): Bytes written to CFG_PORT are appended to a PORT load, starting one if none runs. -/
  | cfgPort (bytes : List (Option Byte))
  /-- BITSTREAM_HEADER (R412): The 128-byte header is checked and the load is accepted, held or refused. -/
  | bitstreamHeader
  /-- LOAD_HOLD_RELEASE (R410): A held load or SLOT_BEGIN proceeds once the task holding the Dome has its completion
  record. -/
  | loadHoldRelease
  /-- FULL_CLEAR_COMPLETE (R410): The full clear of a FULL load ends and frame writing may begin. -/
  | fullClearComplete
  /-- BLOCK (R413): A received block is authenticated by its tag or CRC and its packets are processed. -/
  | cfgBlock
  /-- NOP_PACKET (R415): A NOP packet is skipped. -/
  | nopPacket
  /-- SETADDR (R415): SETADDR loads the current frame address. -/
  | cfgSetAddr
  /-- FRAMES (R415): FRAMES writes its decoded frames from the current frame address onward. -/
  | cfgFrames
  /-- REPLICATE (R415): REPLICATE writes the frame buffer to a run of frames. -/
  | cfgReplicate
  /-- STARTUP (R415): A STARTUP packet sets CFG_STARTUP. -/
  | cfgStartupPacket
  /-- SLOT_BEGIN (R426): SLOT_BEGIN makes a slot invalid and opens it for rewriting. -/
  | slotBegin
  /-- SLOT_END (R426): SLOT_END checks the open slot and makes it valid if it passes. -/
  | slotEnd
  /-- REGION_BEGIN (R425): REGION_BEGIN engages the boundary isolators and opens a fabric region. -/
  | regionBegin
  /-- REGION_END (R425): REGION_END checks the region, releases it and its isolators. -/
  | regionEnd
  /-- END_PACKET (R421): END compares the frame count and checks the planes and every slot. -/
  | endPacket
  /-- IDLE_LIMIT_EXPIRY (R408): A wait for source bytes longer than IDLE_LIMIT ends the load as incomplete. -/
  | idleLimitExpiry
  /-- LOCK_STAGE (R424): Every required PLL reports lock and the first start-up stage follows. -/
  | lockStage
  /-- LOCK_LIMIT_EXPIRY (R424): Lock not reached within LOCK_LIMIT ends the load with error 0x40. -/
  | lockLimitExpiry
  /-- OUT_REL (R424): The stage releases user I/O, fabric lanes, access points and isolators. -/
  | outRel
  /-- WR_EN (R424): The stage enables writes of fabric flip-flops and block RAMs. -/
  | wrEn
  /-- RST_REL (R424): The stage releases fabric resets, starts dividers and ends MAINT in every Spire. -/
  | rstRel
  /-- CDONE_STAGE (R424): The stage releases CDONE and sets CONFIGURED, waiting for CDONE high when required. -/
  | cdoneStage
  /-- READBACK (R428): Writing CFG_RB_ADDR.GO requests a frame readback, or is denied. -/
  | readback (data : Word)
  /-- READBACK_COMPLETE (R428): The frame is copied into CFG_RB_DATA and DONE is set. -/
  | readbackComplete
  /-- GET_INFO (R450): The Keep returns slot, version and SVN information. -/
  | getInfo (arg : BitVec 32) (port : KeepPort)
  /-- UPDATE (R439): The Keep copies and verifies an image from the card into the inactive slot. -/
  | keepUpdate (arg : BitVec 32) (port : KeepPort) (env : UpdateEnv)
  /-- ACTIVATE (R445): The Keep writes new boot pointer records and restarts into the staged images on trial. -/
  | keepActivate (arg : BitVec 32) (port : KeepPort)
  /-- COMMIT_SVN (R436): The Keep blows rollback fuses up to the SVN of the active image. -/
  | commitSvn (arg : BitVec 32) (port : KeepPort)
  /-- GET_ATTEST (R448): The Keep returns an attestation report signed by the alias key. -/
  | getAttest (arg : BitVec 32) (port : KeepPort)
  /-- GET_CERT (R450): The Keep returns the identity or alias certificate. -/
  | getCert (arg : BitVec 32) (port : KeepPort)
  /-- BBRAM_WRITE (R434): The Keep replaces the BBRAM key. -/
  | bbramWrite (arg : BitVec 32) (port : KeepPort)
  /-- BBRAM_ZEROISE (R434): The Keep erases the BBRAM key. -/
  | bbramZeroise (arg : BitVec 32) (port : KeepPort)
  /-- FUSE_PROGRAM (R450): The Keep blows KEY_EFUSE, POLICY or REVOKE bits. -/
  | fuseProgram (arg : BitVec 32) (port : KeepPort)
  /-- KEEP_RESTART (R443): The management core boots through the ROM, BOOT and MGMT stages. -/
  | keepRestart
  /-- CARD_INSERTION (R444): A card with BOOT, KEYS and MGMT images lets recovery restore slot A. -/
  | cardInsertion (extents : List (Nat × List Byte))
  /-- MGMT_READY (R445): The new MGMT reports ready, opening the mailbox and ending the trial. -/
  | mgmtReady
  /-- TRIAL_WATCHDOG (R445): MGMT not ready 100 ms after the restart makes the Keep revert to the previous firmware. -/
  | trialWatchdog
  /-- POWER_UP (R457): VIN rising through 43 V begins the power-up sequence. -/
  | powerUp
  /-- STANDBY_RAIL_GOOD (R457): The standby rail is good, the Belfry is released and the straps are sampled. -/
  | standbyRailGood (cmstr pucfgN : Bool) (vsel : BitVec 8)
  /-- REFERENCE_PLL_LOCK (R455): The reference PLL locks and the global cycle counter starts. -/
  | referencePllLock
  /-- TELEMETRY_SAMPLE (R465): Every 10 µs the Belfry samples input and temperatures and evaluates holds, alerts and
  trips. -/
  | telemetrySample (vin iin : BitVec 16) (tj : Word) (converter : BitVec 8)
  /-- INPUT_TURN_OFF (R453): VIN out of range for its filter time, or current limiting for 500 µs, turns the converter
  off. -/
  | inputTurnOff (cause : TurnOff)
  /-- MRST_N_ASSERT (R507): MRST_N low for 1.0 µs puts the device in module reset. -/
  | mrstNAssert
  /-- MRST_N_RELEASE (R458): MRST_N high for 1.0 µs resumes the sequence with the counter restarted. -/
  | mrstNRelease
  /-- REFCLK_LOSS (R456): No REFCLK edge for 10 µs moves the Belfry to its internal oscillator. -/
  | refclkLoss
  /-- REFCLK_RETURN (R456): REFCLK present for 100 µs returns the Belfry to it. -/
  | refclkReturn
  /-- STANDBY_REQ (R460): A write of STANDBY_REQ requests Standby. -/
  | standbyReq
  /-- STANDBY_ENTRY (R460): Once no task is accepted and no load runs, the device enters Standby. -/
  | standbyEntry
  /-- COLD_ENTRY_COMPLETE (R461): HBM write queues drain and the device reaches Cold. -/
  | coldEntryComplete
  /-- PWR_CTL_WAKE (R460): A write of PWR_CTL.WAKE wakes the device to Warm. -/
  | pwrCtlWake
  /-- PWR_CTL_HOLD (R462): A write of PWR_CTL.HOLD begins or ends the software hold. -/
  | pwrCtlHold (hold : Bool)
  /-- SMBUS_WAKE (R460): An SMBus wake moves the device from Cold or Standby to Warm. -/
  | smbusWake
  /-- WAKE_COMPLETE (R461): The clocks reach the requested state after a wake. -/
  | wakeComplete
  /-- ERR_INJ (R481): Arming ERR_INJ inverts a check bit of the next data flit of the named initiator. -/
  | errInj (data : BitVec 32)
  /-- TAP_RESET (R482): The TAP controller is reset and loads IDCODE. -/
  | tapReset
  /-- EXTEST (R487): The pins are driven from the boundary register. -/
  | tapExtest (scan : Option (BitVec 1016 × BitVec 1016))
  /-- IDCODE (R484): The device ID register is selected. -/
  | tapIdcode
  /-- SAMPLE_PRELOAD (R483): The boundary register samples the functional pins. -/
  | tapSamplePreload (scan : Option (BitVec 1016 × BitVec 1016))
  /-- EXTEST_PULSE (R486): AC pairs are tested with IEEE 1149.6 pulses. -/
  | tapExtestPulse (scan : Option (BitVec 1016 × BitVec 1016))
  /-- EXTEST_TRAIN (R486): AC pairs are tested with IEEE 1149.6 trains. -/
  | tapExtestTrain (scan : Option (BitVec 1016 × BitVec 1016))
  /-- CLAMP (R487): The pins are driven from the boundary register with bypass selected. -/
  | tapClamp
  /-- HIGHZ (R487): Every output goes high-Z and every AC transmitter idles. -/
  | tapHighz
  /-- BYPASS (R483): The one-bit bypass register is selected. -/
  | tapBypass
  /-- CFG_ACCESS (R492): The 96-bit configuration and register access register is selected. -/
  | cfgAccess
  /-- CFG_ACCESS_NOP (R492): A NOP operation captures the result of the last operation. -/
  | cfgAccessNop (early : Bool)
  /-- CFG_ACCESS_PORT (R492): A PORT operation appends bytes to the configuration byte stream. -/
  | cfgAccessPort (early : Bool) (count : Fin 8) (data : Word)
  /-- CFG_ACCESS_WRITE (R492): A WRITE operation writes a register or Spire test window through the TAP. -/
  | cfgAccessWrite (early w64 : Bool) (addr : BitVec 26) (data : Word)
  /-- CFG_ACCESS_READ (R492): A READ operation reads a register or Spire test window through the TAP. `ecc`: what SECDED finds
  in a word of the context store (R206). -/
  | cfgAccessRead (early w64 : Bool) (addr : BitVec 26) (ecc : Ecc := .clean)
  /-- BIST_RUN (R488): The 64-bit memory BIST register is selected. -/
  | bistRun
  /-- BIST_START (R489): A command with GO = 1 starts March C− on the target groups, or is refused. -/
  | bistStart (ret : Bool) (target : BitVec 9)
  /-- BIST_COMPLETE (R489): The BIST ends, memories are zeroed and DONE is set. -/
  | bistComplete (fail : BitVec 9) (words : BitVec 32)
  /-- MAINT_REQ (R129): A write of MAINT_REQ requests or ends MAINT for a Spire. -/
  | maintReq (spire : Fin 4096) (on : Bool)
  /-- MAINT_ENTRY (R129): A requested MAINT takes effect at the end of the task holding the Dome. -/
  | maintEntry
  /-- SPR_VX_CTL_START (R129): A write of START runs the VX program at START_PC in a Spire in MAINT. -/
  | sprVxCtlStart (spire : Fin 4096) (pc : Fin 2048)
  /-- RCK_INJ_ARM (R84): Arming SPR_RCK_INJ in MAINT injects a residue error into the next DOP. -/
  | rckInjArm (spire : Fin 4096) (row col : Fin 32)
  /-- NOP (R142): VX performs only the word's parallel accesses. -/
  | vxNop (spire : Fin 4096) (env : VxEnv)
  /-- HALT (R151): VX ends the program and empties the loop stack. -/
  | vxHalt (spire : Fin 4096) (env : VxEnv)
  /-- LOOP (R122): VX runs the following body a given number of times. -/
  | vxLoop (spire : Fin 4096) (env : VxEnv)
  /-- SETA (R151): VX writes an address pointer, base, length or offset register. -/
  | vxSeta (spire : Fin 4096) (env : VxEnv)
  /-- LDI (R151): VX writes an immediate into every lane of a D register. -/
  | vxLdi (spire : Fin 4096) (env : VxEnv)
  /-- DRN (R126): VX loads a drain-register row into an accumulator. -/
  | vxDrn (spire : Fin 4096) (env : VxEnv)
  /-- MOV (R142): VX moves a value into a D register or accumulator. -/
  | vxMov (spire : Fin 4096) (env : VxEnv)
  /-- ADD (R142): VX adds two sources into a D register. -/
  | vxAdd (spire : Fin 4096) (env : VxEnv)
  /-- SUB (R142): VX subtracts two sources into a D register. -/
  | vxSub (spire : Fin 4096) (env : VxEnv)
  /-- MAX (R141): VX writes the larger of two sources to a D register. -/
  | vxMax (spire : Fin 4096) (env : VxEnv)
  /-- MIN (R141): VX writes the smaller of two sources to a D register. -/
  | vxMin (spire : Fin 4096) (env : VxEnv)
  /-- ABS (R142): VX writes the absolute value of a source to a D register. -/
  | vxAbs (spire : Fin 4096) (env : VxEnv)
  /-- NEG (R142): VX writes the negation of a source to a D register. -/
  | vxNeg (spire : Fin 4096) (env : VxEnv)
  /-- CSEL (R142): VX selects per lane between a source and the old destination. -/
  | vxCsel (spire : Fin 4096) (env : VxEnv)
  /-- NRM (R143): VX writes floor(log2 |v|) of each lane. -/
  | vxNrm (spire : Fin 4096) (env : VxEnv)
  /-- MPY (R142): VX sets an accumulator to the product of two sources. -/
  | vxMpy (spire : Fin 4096) (env : VxEnv)
  /-- MAC (R142): VX adds a product into an accumulator. -/
  | vxMac (spire : Fin 4096) (env : VxEnv)
  /-- MSU (R142): VX subtracts a product from an accumulator. -/
  | vxMsu (spire : Fin 4096) (env : VxEnv)
  /-- ADDA (R142): VX adds a value into an accumulator. -/
  | vxAdda (spire : Fin 4096) (env : VxEnv)
  /-- SUBA (R142): VX subtracts a value from an accumulator. -/
  | vxSuba (spire : Fin 4096) (env : VxEnv)
  /-- MAXA (R141): VX keeps the larger of an accumulator and a value. -/
  | vxMaxa (spire : Fin 4096) (env : VxEnv)
  /-- CLR (R142): VX resets an accumulator to finite zero. -/
  | vxClr (spire : Fin 4096) (env : VxEnv)
  /-- SCL (R144): VX scales an accumulator by a power of two. -/
  | vxScl (spire : Fin 4096) (env : VxEnv)
  /-- TAPM (R127): VX accumulates a filter tap and moves the sample to the other bus. -/
  | vxTapm (spire : Fin 4096) (env : VxEnv)
  /-- NRW (R124): VX narrows a scaled accumulator into a D register. -/
  | vxNrw (spire : Fin 4096) (env : VxEnv)
  /-- LSUM (R145): VX writes the pairwise-tree lane sum to every lane. -/
  | vxLsum (spire : Fin 4096) (env : VxEnv)
  /-- LMAX (R145): VX writes the lane maximum to every lane. -/
  | vxLmax (spire : Fin 4096) (env : VxEnv)
  /-- PKST (R148): VX narrows D data into a packed or block format and stores it. -/
  | vxPkst (spire : Fin 4096) (env : VxEnv)
  /-- PKLD (R150): VX loads and unpacks half of a 4-bit granule. -/
  | vxPkld (spire : Fin 4096) (env : VxEnv)
  /-- PKFL (R149): VX writes a pack buffer's remaining bytes as one padded line. -/
  | vxPkfl (spire : Fin 4096) (env : VxEnv)
  /-- ILLEGAL_ENCODING (R156): An illegal word issues as a NOP without accesses and raises a fault. -/
  | vxIllegalEncoding (spire : Fin 4096) (env : VxEnv)
  /-- CLOCK_MUX_SWITCH (R393): A change of SEL switches a regional tree glitch-free to a new clock. -/
  | clockMuxSwitch (tree : Fin 768) (sel : Fin 4)
  /-- DIVIDER_CHANGE (R394): A DIVSEL change takes effect at the divider's next zero count. -/
  | dividerChange (tree : Fin 768) (ratio : Fin 4)
  /-- PLL_LOSS_OF_LOCK (R395): A fabric PLL that loses lock holds its outputs low and is counted. -/
  | pllLossOfLock (pll : Fin 24)
  /-- PLL_RELOCK (R395): A fabric PLL relocks and its outputs resume. -/
  | pllRelock (pll : Fin 24)
  /-- DELAY_STEP (R398): An INC or DEC moves an I/O delay line by one tap. -/
  | delayStep (line : Fin 192) (inc : Bool)
  /-- DELAY_LOAD (R398): A LOAD moves an I/O delay line towards its target with BUSY raised. -/
  | delayLoad (line : Fin 192) (target : Fin 512)
  /-- AP_REQUEST (R402): User logic issues an RD, WR or WRP request through an access point. -/
  | apRequest (ap : Fin 64) (request : ApRequest)
  /-- FABRIC_USER_WINDOW_ACCESS (R405): A host access to the fabric user window becomes a target request of an access
  point. -/
  | fabricUserWindowAccess (ap : Fin 64) (offset : Fin 1048576) (access : UserAccess)
  /-- FEC_CODEWORD_RECEIVE (R400): A fabric lane decodes a received codeword and delivers its 20 words. -/
  | fecCodewordReceive (lane : Fin 16) (corrected : Option Nat) (words : List (BitVec 257))
  /-- LANE_PRBS_CLR (R401): A write of CLR clears a fabric lane's PRBS counters. -/
  | lanePrbsClr (lane : Fin 16)
  /-- LANE_INJ_ONCE (R401): A write of INJ_ONCE injects one bit error on a fabric lane. -/
  | laneInjOnce (lane : Fin 16)
  /-- STANDBY_ENTRY_COMPLETE (R461): Entry to Standby, which takes up to 1 ms, completes and PWR_STATUS leaves 'entering
  Standby' for Standby. -/
  | standbyEntryComplete
  /-- PWRGD_HIGH (R457): The core, SRAM, Dome, HBM and I/O rails are up, PWRGD goes high, the Keep is released into its
  ROM stage and HBM training and link bring-up begin. -/
  | pwrgdHigh
  /-- PCIE_LINK_UP (R381): The PCIe link trains and DL_UP is set, which releases the endpoint that PERST_N, Hot Reset or
  link loss held. -/
  | pcieLinkUp (status : BitVec 32)
  /-- PERST_N_RELEASE (R508): PERST_N rises, the endpoint leaves reset (with MRST_N also high) and the 100 ms
  configuration-readiness count starts. -/
  | perstNRelease
  /-- UNSUPPORTED_REQUEST (R382): A request that no enabled BAR claims, or that Memory Space Enable, an AtomicOp, an I/O
  request or an unsupported message makes unserviceable, is answered as an Unsupported Request and logged in AER. -/
  | unsupportedRequest (func : Fin 64) (tag : Option Nat)
  /-- MALFORMED_TLP (R382): A received TLP that is malformed, fails ECRC or breaks flow control is discarded and
  reported through AER. -/
  | malformedTlp (func : Option (Fin 64)) (kind : TlpError)
  /-- AP_TARGET_RESPONSE (R405): User logic answers a pending target read of the fabric user window on the target
  response channel, and the answer is returned to the host. -/
  | apTargetResponse (ap : Fin 64) (data : Word) (pois : Bool)
  /-- BLOCK_RAM_ACCESS (R390): A port of a fabric block RAM is read or written, with the same-address, FIFO-flag and ECC
  rules that can count CFG_FAB_BRAM_CORR_CNT or CFG_FAB_BRAM_UNCORR_CNT. -/
  | blockRamAccess (block : Fin 4608) (a b : Option RamAccess) (near : Bool) (eccA eccB : Ecc)
  /-- PRBS_CHECKER_SYNCHRONISATION (R338): A lane's PRBS checker synchronises after 128 matching bits, or loses
  synchronisation after 64 errors in 1,024 bits, and counts bits and errors while synchronised. -/
  | prbsCheckerSynchronisation (lane : Fin 272) (event : PrbsEvent)
  /-- FABRIC_LANE_CDR_LOCK (R399): A fabric lane's receive CDR gains or loses lock on the incoming data, changing
  CDR_LOCK. -/
  | fabricLaneCdrLock (lane : Fin 16) (locked : Bool)
  /-- CARD_REMOVAL (R439): The microSD-format card is removed, clearing KEP_STATUS.CARD and failing an UPDATE that is
  reading it with result 0x03. -/
  | cardRemoval
  /-- VBAT_LOSS (R434): VBAT is removed while the standby rail is absent, so the BBRAM key and its CRC are lost and
  BBRAM_KEY_OK later reads 0. -/
  | vbatLoss
  /-- HBM_TEMPERATURE_READING (R263): A controller reads its stack's temperature sensor, updating HBC_STATUS.TEMP and
  the 81 or 40 gcyc refresh interval that the HBM hold uses. -/
  | hbmTemperatureReading (stack : Fin 12) (temp : BitVec 8)
  deriving DecidableEq, Repr

end Sys2Proof
end

