-- ==== Sys2Proof/Decode.lean ====
section
/-!
DEFINITION. The command that a word spells by the table's bits: spec/opcode_table.json gives no row any bits. And the
layout of the VX instruction words that a Spire's program store holds (R132, R151).
-/
namespace Sys2Proof

/-- The command spelled by a word of the table's bits: the table gives none. [DESIGN CHOICE, safe: notes/assumptions/141] -/
def decodeTableWord (_nbits _w : Nat) : Option Instr := none

/-- The fields of a vector-format word (R132), from bit 63 down to bit 0. -/
structure VxWord where
  opc : BitVec 8
  sa : BitVec 4
  sb : BitVec 4
  ds : BitVec 4
  sh : BitVec 7
  bkr : BitVec 1
  mfmt : BitVec 4
  mbk : BitVec 1
  xdir : BitVec 1
  xap : BitVec 3
  xmode : BitVec 3
  xreg : BitVec 4
  ydir : BitVec 1
  yap : BitVec 3
  ymode : BitVec 3
  yreg : BitVec 4
  ck : BitVec 2
  cap : BitVec 3
  cmode : BitVec 3
  cbk : BitVec 1
  deriving DecidableEq, Repr

/-- The vector-format word with these fields. -/
def encodeVx (x : VxWord) : Word :=
  x.opc ++ x.sa ++ x.sb ++ x.ds ++ x.sh ++ x.bkr ++ x.mfmt ++ x.mbk ++ x.xdir ++ x.xap ++ x.xmode ++ x.xreg ++ x.ydir ++
    x.yap ++ x.ymode ++ x.yreg ++ x.ck ++ x.cap ++ x.cmode ++ x.cbk

/-- The fields of a word in vector format. -/
def decodeVx (w : Word) : VxWord :=
  { opc := w.extractLsb' 56 8, sa := w.extractLsb' 52 4, sb := w.extractLsb' 48 4, ds := w.extractLsb' 44 4,
    sh := w.extractLsb' 37 7, bkr := w.extractLsb' 36 1, mfmt := w.extractLsb' 32 4, mbk := w.extractLsb' 31 1,
    xdir := w.extractLsb' 30 1, xap := w.extractLsb' 27 3, xmode := w.extractLsb' 24 3, xreg := w.extractLsb' 20 4,
    ydir := w.extractLsb' 19 1, yap := w.extractLsb' 16 3, ymode := w.extractLsb' 13 3, yreg := w.extractLsb' 9 4,
    ck := w.extractLsb' 7 2, cap := w.extractLsb' 4 3, cmode := w.extractLsb' 1 3, cbk := w.extractLsb' 0 1 }

/-- A control-format word (R151). -/
inductive VxControl
  | halt
  | loop (count : BitVec 16) (body : BitVec 11)
  | seta (kind : BitVec 2) (n : BitVec 3) (value : BitVec 12)
  | ldi (n : BitVec 3) (bk : BitVec 1) (de : BitVec 8) (imm : BitVec 24)
  deriving DecidableEq, Repr

def encodeControl : VxControl → Word
  | .halt => 0x0100000000000000
  | .loop c b => (2 : BitVec 8) ++ c ++ b ++ (0 : BitVec 29)
  | .seta k n v => (3 : BitVec 8) ++ k ++ n ++ v ++ (0 : BitVec 39)
  | .ldi n b e i => (4 : BitVec 8) ++ n ++ b ++ e ++ (0 : BitVec 20) ++ i

/-- The control word that a word spells; none where its opcode is no control word's or a bit outside its fields is set
(R151, R155). -/
def decodeControl (w : Word) : Option VxControl :=
  let opc := w.extractLsb' 56 8
  if opc = 1 then (if w.extractLsb' 0 56 = 0 then some .halt else none)
  else if opc = 2 then
    if w.extractLsb' 0 29 = 0 then some (.loop (w.extractLsb' 40 16) (w.extractLsb' 29 11)) else none
  else if opc = 3 then
    if w.extractLsb' 0 39 = 0 then some (.seta (w.extractLsb' 54 2) (w.extractLsb' 51 3) (w.extractLsb' 39 12)) else none
  else if opc = 4 then
    if w.extractLsb' 24 20 = 0 then
      some (.ldi (w.extractLsb' 53 3) (w.extractLsb' 52 1) (w.extractLsb' 44 8) (w.extractLsb' 0 24))
    else none
  else none

end Sys2Proof
end

