-- ==== Sys2Proof/Machine/Bits.lean ====
section
/-!
DEFINITION. Bit fields [msb:lsb] of words (R6), little-endian byte order (R7), and the CRC-32C check (R471).
-/
namespace Sys2Proof.Machine

/-- The field of `w` bits whose lowest bit is `lo` (R6). -/
def fld {n : Nat} (v : BitVec n) (lo w : Nat) : Nat := (v.toNat >>> lo) % 2 ^ w

/-- Bit `i` of a word. -/
def bit {n : Nat} (v : BitVec n) (i : Nat) : Bool := v.getLsbD i

/-- `v` with the field of `w` bits at `lo` set to `x`. -/
def putFld {n : Nat} (v : BitVec n) (lo w x : Nat) : BitVec n :=
  (v &&& ~~~(BitVec.ofNat n ((2 ^ w - 1) * 2 ^ lo))) ||| BitVec.ofNat n ((x % 2 ^ w) * 2 ^ lo)

/-- `1` for true, `0` for false, as a register bit shows it. -/
def b2n (b : Bool) : Nat := if b then 1 else 0

/-- A 64-bit word made of fields, each given as (lowest bit, value); the fields do not overlap. -/
def mkWord (fs : List (Nat × Nat)) : Word := BitVec.ofNat 64 (fs.foldl (fun a f => a + f.2 * 2 ^ f.1) 0)

/-- The `n` low bytes of a number, least significant first (R7). -/
def natBytes : Nat → Nat → List Byte
  | 0, _ => []
  | n + 1, v => BitVec.ofNat 8 v :: natBytes n (v / 256)

/-- The number that bytes spell, least significant first (R7). -/
def bytesNat : List Byte → Nat
  | [] => 0
  | b :: bs => b.toNat + 256 * bytesNat bs

/-- The 64 bytes of a unit, in ascending order. -/
def lineBytes (v : Line) : List Byte := natBytes 64 v.toNat

/-- The unit whose first bytes are `bs`, padded with zero bytes. -/
def bytesLine (bs : List Byte) : Line := BitVec.ofNat 512 (bytesNat (bs.take 64))

/-- A little-endian 64-bit word of a byte list, word number `i`. -/
def wordAt (bs : List Byte) (i : Nat) : Word := BitVec.ofNat 64 (bytesNat ((bs.drop (8 * i)).take 8))

/-- Word `i` of a list of words. -/
def wd (ws : List Word) (i : Nat) : Word := ws.getD i 0

/-- Words as bytes (R7). -/
def wordsBytes : List Word → List Byte
  | [] => []
  | w :: ws => natBytes 8 w.toNat ++ wordsBytes ws

/-- One bit of the reflected CRC-32C division by 0x1EDC_6F41 (R471). -/
def crcBit (c : Nat) : Nat := if c % 2 = 1 then (c / 2) ^^^ 0x82F63B78 else c / 2

/-- `n` bits of the division. -/
def crcBits : Nat → Nat → Nat
  | 0, c => c
  | n + 1, c => crcBits n (crcBit c)

/-- The CRC register after the bytes `bs`. -/
def crcBytes : Nat → List Byte → Nat
  | c, [] => c
  | c, b :: bs => crcBytes (crcBits 8 (c ^^^ b.toNat)) bs

/-- CRC-32C: reflected, initial value and final exclusive-OR 0xFFFF_FFFF (R471). -/
def crc32c (bs : List Byte) : BitVec 32 := BitVec.ofNat 32 (crcBytes 0xFFFFFFFF bs ^^^ 0xFFFFFFFF)

/-- The check of a 64-byte unit (R471). -/
def lineCheck (v : Line) : BitVec 32 := crc32c (lineBytes v)

/-- The check of 64 zero bytes, stored beside every poisoned unit (R471). -/
def zeroCheck : BitVec 32 := 0x03C8EB67

end Sys2Proof.Machine
end

