-- ==== Sys2Proof/Config.lean ====
section
/-!
DEFINITION. What the manual leaves open and what other standards define: constants with no body, about which nothing can be
proved but what holds for every value. notes/assumptions says where each is used.
-/
namespace Sys2Proof

/-- The free values: value number `n` that the manual leaves open (notes/assumptions/3).
[DESIGN CHOICE, safe: notes/assumptions/3] -/
opaque Config.freeValue : Nat → Nat

/-- The Vendor ID that PCI-SIG has assigned to Ohmuri Devices (R361). -/
opaque Config.vendorId : BitVec 16

/-- Dword `r` of the configuration space of function `f` as the Base Specification and the implementation leave it at
reset (R361), where the manual does not give it. -/
opaque Config.configSpace : Nat → Nat → BitVec 32

/-- The dword of a function's ATS control register in its configuration space (R361, R380). -/
opaque Config.atsControl : Nat

/-- The link on which a unit for a device that is no neighbour leaves (R325, R502): the manual gives no route.
[DESIGN CHOICE, safe: notes/assumptions/57] -/
opaque Config.linkToward : Nat → Nat

/-- DEST and PORT in the header of a packet that leaves on link `n` (R276, R278), as DEST + 1,024 x PORT: the position of an
interface on another device is not given. [DESIGN CHOICE, safe: notes/assumptions/56] -/
opaque Config.headerRoute : Nat → Nat

/-- An interface of the network of the die (R276, R279, R288): of an initiator, an HBM controller, a slice of the stream
cache, the edge gateway that serves a Spire, or the register space. -/
inductive Iface
  | init (i : Nat)
  | hbm (stack : Nat)
  | slice (k : Nat)
  | gateway (spire : Nat)
  | regs
  deriving DecidableEq, Repr

/-- The router, counted among the 192, and the local port at which an interface lies: the fixed table of positions is not
given. [DESIGN CHOICE, safe: notes/assumptions/150] -/
opaque Config.place : Iface → Nat × Nat

/-- ADDR in the header of a request to a stream-cache slice or to a queue, by kind and number (R276): neither has a system
address. [DESIGN CHOICE, safe: notes/assumptions/151] -/
opaque Config.innerAddr : Nat → Nat → Nat

/-- The message words of a control unit in the header of a SIGNAL, CTRL or CREDIT packet, as words N3-N7, and the control
unit that such words spell, as TYPE and fields (R276): their layout is not given. -/
opaque Config.messageArg : Nat → List Nat → List (BitVec 64)
opaque Config.messageUnit : List (BitVec 64) → Nat × List Nat

/-- gcyc for which a refresh keeps a bank, and an access its bank (R261, R263): set by the JEDEC standards.
[DESIGN CHOICE, safe: notes/assumptions/152] -/
opaque Config.refreshTime : Nat
opaque Config.bankTime : Nat

/-- The identity that HBM stack `s` reports (R272). -/
opaque Config.stackIdentity : Nat → Nat

/-- The SECDED code over 512 data bits, the check and the poison bit of a unit (R256): the code is not given.
[DESIGN CHOICE, safe: notes/assumptions/153] -/
opaque Config.secded : BitVec 512 → BitVec 32 → Bool → BitVec 11

/-- The PEER thread that feeds LINK thread `tk` (R325), as its link, engine and thread: no descriptor names it.
[DESIGN CHOICE, safe: notes/assumptions/47] -/
opaque Config.feederLink : Nat → Nat
opaque Config.feederThread : Nat → Nat

/-- ROLE in the EXCH units of link `n` (R317): the manual gives no code. EPOCH in EXCH: the manual does not say of which of
its schedules. [DESIGN CHOICE, safe: notes/assumptions/66] -/
opaque Config.exchRole : Nat → Nat
opaque Config.exchEpoch : Nat

/-- Fields of a control unit as words X0-X7, without TYPE (R325, R349); the 12 bytes of a lane's alignment marker for FRAME
(R320); the eight parity bytes of an RS(148,140) codeword of 140 message bytes; and what a unit position without a unit holds
(R321): their layout, field polynomial and filling are not given. [DESIGN CHOICE, safe: notes/assumptions/179] -/
opaque Config.controlFields : Nat → List Nat → List (BitVec 64)
opaque Config.markerBytes : Nat → Nat → List Byte
opaque Config.fecParity : List Byte → List Byte
opaque Config.emptyPosition : DUnit

/-! ### Routes of the Dome network and the B stream (R91, R162, R164, R165, R286): the Dome plane's route layouts, and the
place of the 16 columns' bytes in a slice's stream, are not given -/

/-- The directions of the Dome-network links, numbered as R287 numbers them. -/
inductive Dir
  | north | east | south | west
  deriving DecidableEq, Repr

/-- A move of a copy route (R162): source and destination Spire and line, the dclk of its read counted from the start of the
window, and the hops that it makes. -/
structure CopyMove where
  src : Nat
  srcLine : Nat
  dst : Nat
  dstLine : Nat
  at_ : Nat
  path : List Dir
  deriving DecidableEq, Repr

/-- What a gather route gives for one row band and one K-slice (R164): the source Spire, the line offset from A_LINE, and the
hops to the west edge. -/
structure GatherTile where
  src : Nat
  line : Nat
  path : List Dir
  deriving DecidableEq, Repr, Inhabited

/-- The moves of copy route `i`, as the frames of the Dome plane spell them. -/
opaque Config.copyRoute : Mem → Nat → List CopyMove
/-- Gather route `i` for row band `band` and K-slice `slice`. [DESIGN CHOICE, safe: notes/assumptions/100] -/
opaque Config.gatherTile : Mem → Nat → Nat → Nat → GatherTile
/-- The dclk by which line `u` of a row band, counted over its K-slices in ascending order, follows the line before at the west
edge. -/
opaque Config.gatherGap : Mem → Nat → Nat → Nat → Nat
/-- The hops of the units that a stream thread reads from Spire `n`, to the edge gateway; and, for those that it writes there,
the Spire at which they come in and the hops from it. -/
opaque Config.readPath : Mem → Nat → List Dir
opaque Config.writePath : Mem → Nat → Nat × List Dir

/-- First byte, in a slice's B stream for a descriptor, of run `r` of column `c` (0-15 of the slice) in pass `pass`: the bytes
of one band in one slot, or with B_XPOSE of one 32 x 32 block of one band. A run is contiguous (R91, R165). -/
opaque Config.northRun : List Word → Nat → Nat → Nat → Nat

/-- First byte, in the B stream, of the 32 exponent bytes of column `c`, pass `pass`, band `g` and K-group `k`. -/
opaque Config.northExp : List Word → Nat → Nat → Nat → Nat → Nat

/-! ### The membership record and the multicast groups (R340, R356) -/

/-- A link entry of the membership record (R319, R340). -/
structure LinkEntry where
  link : Nat
  peer : Nat
  cluster : Nat
  epoch : Nat
  gen : Nat
  width : Nat
  fec : Nat
  owl : Nat
  deriving DecidableEq, Repr

/-- A child in the cluster tree: its link, the members of its subtree and the lowest device number among them (R340). -/
structure Child where
  link : Nat
  subtree : Nat
  subMin : Nat
  deriving DecidableEq, Repr

/-- The membership record, as decoded from its frames (R340). -/
structure Member where
  clusterId : Nat
  device : Nat
  master : Nat
  membersM1 : Nat
  freqSrc : Bool
  upLink : Nat
  depth : Nat
  links : Word
  down : Word
  children : List Child
  reportOff : Nat
  floodBound : Nat
  entries : List LinkEntry
  deriving DecidableEq, Repr

/-- An entry of the multicast group table (R356). -/
structure McGroup where
  en : Bool
  root : Bool
  inLink : Nat
  toQueue : Bool
  queue : Nat
  outMask : Word
  deriving DecidableEq, Repr

/-! ### Frames of the fabric and schedule planes whose layouts are not given (R340, R356, R257, R278, R385 - R401) -/

/-- The membership record of the schedule plane, if it holds one, and whether its reserved bits are set.
[DESIGN CHOICE, safe: notes/assumptions/7] -/
opaque Config.membership : Mem → Option Member
opaque Config.membershipReserved : Mem → Bool

/-- The device numbers that belong to the cluster of the membership record (R210, R340): no field of it lists them.
[DESIGN CHOICE, safe: notes/assumptions/149] -/
opaque Config.isMember : Mem → Nat → Bool

/-- Entry `g` of the multicast group table. -/
opaque Config.groupEntry : Mem → Nat → Option McGroup

/-- The words of HBC_MAP0_A, HBC_MAP0_B, ... HBC_MAP3_B that the interleave map frame gives. -/
opaque Config.memoryMap : Mem → List Word

/-- The output port that the route table of router `r` gives for a destination and PATH, where it gives one; PATH and lane
of a stream thread in the route map. -/
opaque Config.routeEntry : Mem → Nat → Nat → Nat → Option Nat
opaque Config.routeMapEntry : Mem → Nat → Option (Nat × Nat)

/-- A fabric lane as the fabric plane sets it (R399): signalling, mode, line rate in kb/s and width of the raw user word. -/
structure LaneSetup where
  pam4 : Bool
  fec : Bool
  rate : Nat
  width : Nat
  deriving DecidableEq, Repr

/-- The fabric plane's settings: fabric PLLs in use, the VCCIO code that each bank's I/O standard needs, and the lanes. -/
opaque Config.pllUsed : Mem → BitVec 24
opaque Config.bankVccio : Mem → Nat → Option Nat
opaque Config.laneSetup : Mem → Nat → Option LaneSetup

/-- Initial SEL and ratio of a regional tree, and tap of a delay line (R392, R398), by their numbers. -/
opaque Config.treeInit : Mem → Nat → Nat × Nat
opaque Config.tapInit : Mem → Nat → Nat

/-- What a read returns when its own port writes the word (R390). -/
inductive WriteMode
  | newData | oldData | hold
  deriving DecidableEq, Repr, Inhabited

/-- How a block RAM is set up (R389, R390): bits a word at each port, ECC or FIFO mode, the FIFO's almost-full and
almost-empty levels in words of port A and of port B, whether its ports have independent clocks, and each port's write mode and output register. -/
structure RamSetup where
  widthA : Nat
  widthB : Nat
  ecc : Bool
  fifo : Bool
  almostFull : Nat
  almostEmpty : Nat
  independent : Bool
  modeA : WriteMode
  modeB : WriteMode
  regA : Bool
  regB : Bool
  deriving DecidableEq, Repr, Inhabited

opaque Config.ramSetup : Mem → Nat → RamSetup

/-! ### The fabric plane's logic, clocks and I/O cells (R386 - R397): the layout of its frames is not given -/

/-- A source of a global clock line (R391). -/
inductive ClockSource
  | pll (p k : Nat)
  | pin (n : Nat)
  | laneTx (l : Nat)
  | laneRx (l : Nat)
  | ref100
  | gref250
  deriving DecidableEq, Repr

/-- The source that drives global line `i`, if one does. -/
opaque Config.lineSource : Mem → Nat → Option ClockSource

/-- An input of a regional tree's mux (R392): a global line, or an output of the region's PLL. -/
inductive TreeInput
  | line (i : Nat)
  | pll (k : Nat)
  deriving DecidableEq, Repr, Inhabited

opaque Config.treeInput : Mem → Nat → Nat → TreeInput

/-- A fabric PLL (R395): its input REF100 or another, D, M, C of each output, ALIGN. -/
structure PllSetup where
  ref100 : Bool
  d : Nat
  m : Nat
  c : List Nat
  align : Bool
  deriving DecidableEq, Repr, Inhabited

opaque Config.pllSetup : Mem → Nat → PllSetup
/-- Phases, in gcyc, of REF100 and of the outputs of PLLs that are not aligned; and whether a clock whose frequency comes from
elsewhere rises in a gcyc: a PLL's output, a lane's transmit or recovered clock.
[DESIGN CHOICE, safe: notes/assumptions/175] -/
opaque Config.refPhase : Nat
opaque Config.pllPhase : Nat → Nat → Nat
opaque Config.pllEdge : Nat → Nat → Nat → Bool
opaque Config.laneEdge : Nat → Bool → Nat → Bool

/-- What the board drives at user pin `n` in the first half (2 x gcyc) and in the second of a gcyc; a signal that a hard block
gives to the fabric; and a signal of a loop of logic. -/
opaque Config.padLevel : Nat → Nat → Bool
opaque Config.hardSignal : Nat → Nat → Bool
opaque Config.loopSignal : Nat → Bool

/-- What an LE puts out: FA, FB, its flip-flops, the carry sum (R386). -/
inductive LeOut
  | fa | fb | q0 | q1 | sum
  deriving DecidableEq, Repr, Inhabited

/-- A signal of the fabric: a constant, an output of an LE (16 x LB + LE), a routing wire, a register of a stitch crossing (4,096
x (2 x place + direction) + wire), a user pin, Q1 or Q2 of its input register, a bit at a read port of a block RAM, an output
of another hard block, a flag of a FIFO: 0 empty, 1 full, 2 almost empty, 3 almost full (R386 - R390, R397). -/
inductive FabSignal
  | const (b : Bool)
  | le (n : Nat) (o : LeOut)
  | wire (i : Nat)
  | crossing (k : Nat)
  | pin (n : Nat)
  | io (n : Nat) (second : Bool)
  | ram (port b : Nat)
  | hard (n : Nat)
  | flag (block i : Nat)
  deriving DecidableEq, Repr, Inhabited

/-- Where a flip-flop's D input comes from: FA, FB, the carry sum, or its own input (R386). -/
inductive FlopInput
  | fa | fb | sum | own
  deriving DecidableEq, Repr, Inhabited

/-- A flip-flop (R386, R387): D, its own input, clock enable and reset as inputs of the LB's crossbar, its initial value, and
which of the two LB clocks it takes. -/
structure FlopSetup where
  d : FlopInput
  own : Nat
  enable : Option Nat
  reset : Option Nat
  init : Bool
  clock : Bool
  deriving DecidableEq, Repr, Inhabited

/-- An LE (R386): its table, split mode, the crossbar inputs of I0 - I5, the output that it feeds back, subtraction, and its
flip-flops, where they are used. -/
structure LeSetup where
  table : BitVec 64
  split : Bool
  ins : List Nat
  feedback : LeOut
  sub : Bool
  flops : List (Option FlopSetup)
  deriving DecidableEq, Repr, Inhabited

/-- An LB (R385 - R387): its region, the regional trees of its two clocks, whether its resets are asynchronous, its 48 routing
inputs, its 16 LEs, and the LB north of it in its column, whose carry it takes. -/
structure LbSetup where
  region : Nat
  clocks : Nat × Nat
  async : Bool
  inputs : List FabSignal
  les : List LeSetup
  north : Option Nat
  deriving DecidableEq, Repr, Inhabited

/-- A routing wire (R387): 1, 4 or 16 LBs long, horizontal or vertical, and what drives it. -/
structure WireSetup where
  len : Nat
  horizontal : Bool
  driver : FabSignal
  deriving DecidableEq, Repr

/-- A wire of a stitch crossing (R388): what drives it, and the tree, as 16 x region + tree, of its register. -/
structure CrossingSetup where
  driver : FabSignal
  tree : Nat
  deriving DecidableEq, Repr

/-- The register mode of a path of an I/O cell (R397). -/
inductive IoMode
  | direct | sdr | oppositeEdge | sameEdge
  deriving DecidableEq, Repr

/-- An I/O cell (R397): the regional tree of its registers, the modes of its input, output and output enable, and D1 and D2 of
the output and of the output enable. -/
structure IoSetup where
  tree : Nat
  input : IoMode
  output : IoMode
  enable : IoMode
  out : FabSignal × FabSignal
  oe : FabSignal × FabSignal
  deriving DecidableEq, Repr

/-- The design that the fabric plane holds: LBs, wires, crossing wires and I/O cells by number. -/
structure FabricDesign where
  lbs : List (Nat × LbSetup)
  wires : List (Nat × WireSetup)
  crossings : List (Nat × CrossingSetup)
  cells : List (Nat × IoSetup)
  deriving DecidableEq, Repr, Inhabited

/--  [DESIGN CHOICE, unsafe: notes/assumptions/140] -/
opaque Config.fabricDesign : Mem → FabricDesign

/-- What the boundary isolator of an LE's output holds while its region is isolated (R425): a constant, or the value at
engagement; and what one holds that has not been engaged since power-up. -/
opaque Config.isolator : Mem → Nat → LeOut → Option Bool
opaque Config.isolatorIdle : Nat → Bool

/-! ### Cryptography -/

/-- SHAKE256 with 64 bytes of output (FIPS 202; R435, R447). -/
opaque Config.shake256 : List Byte → List Byte

/-- AES-256-GCM decryption (R413): key, nonce, additional data, ciphertext and tag; none where the tag fails. -/
opaque Config.aesGcm : BitVec 256 → List Byte → List Byte → List Byte → List Byte → Option (List Byte)

/-- ML-DSA-65 (FIPS 204; R435, R446): verification of a signature over a message, the signature by the key of a seed. -/
opaque Config.mlDsaVerify : List Byte → List Byte → List Byte → Bool
opaque Config.mlDsaSign : List Byte → List Byte → List Byte

/-- A manifest key (R435): its public key, and its permissions for MGMT and for PHY. -/
structure ManifestKey where
  key : List Byte
  mgmt : Bool
  phy : Bool
  deriving DecidableEq, Repr

/-- The root public key in the body of a BOOT or KEYS image, and manifest key `id` in that of a KEYS image (R435): their
places are not given. -/
opaque Config.rootKey : List Byte → List Byte
opaque Config.manifestKey : List Byte → Nat → Option ManifestKey

/-- The alias certificate for the alias key of one seed, issued with the identity key of another (R446). -/
opaque Config.aliasCert : List Byte → List Byte → List Byte

/-- The response of GET_INFO made of its values, in the order of the command table (R450): the layout is not given. -/
opaque Config.infoLayout : List Nat → List Byte

end Sys2Proof
end

