-- ==== Sys2Proof/Machine/State.lean ====
section
/-!
DEFINITION. The state of the device, as plain data: every register, queue, buffer, mode and pin that the manual gives it,
and the queue of commands that are waiting. INVENTORY.md lists each piece with the rule that names it.
-/
namespace Sys2Proof.Machine

open Sys2Proof

/-- Reasons for which a command would stop the machine. The manual gives the device no error that stops it (R28, R468):
no meaning of this model raises a fault, and the type has no constructor. Safe: nothing is hidden by it. -/
inductive Fault
  deriving DecidableEq, Repr

/-- Reasons for which a command is turned away by the model. -/
inductive Refusal
  /-- Raised only by an arm of `exec` whose command has no meaning yet. Safe: the model stops where the device goes on. -/
  | notModelled (mnemonic : String)
  deriving DecidableEq, Repr

/-- What the device has sent to the outside, in the order of issue (the model's own record).
[DESIGN CHOICE, safe: notes/assumptions/6] -/
inductive Output
  /-- A posted write to host memory for function `func`, with the PASID it carries (R363, R377); `ep`: the write is marked
  poisoned (R472). -/
  | hostWrite (func : Nat) (pasid : Option Nat) (addr : Nat) (data : List Byte) (ep : Bool)
  /-- A read request to host memory (R370, R375, R408). -/
  | hostRead (func : Nat) (pasid : Option Nat) (addr len : Nat)
  /-- An MSI-X message: vector `vec` of function `func`. -/
  | msix (func vec : Nat)
  /-- A completion that the device returns to a request of the host: status 0 successful, 1 Unsupported Request,
  2 Configuration Request Retry Status. -/
  | completion (tag status : Nat) (data : List Byte) (ep : Bool)
  /-- The value that a read of a register returns to its reader. -/
  | value (v : Word)
  /-- An ATS Translation Request for the page that holds `addr` (R380). -/
  | atsRequest (func addr : Nat)
  /-- The completion of an ATS Invalidation Request (R380). -/
  | atsInvalidated (func addr : Nat)
  /-- An AER error message of a function: 0 correctable, 1 non-fatal, 2 fatal (R382). -/
  | aer (func severity : Nat)
  /-- A flit put on a Lomion link. -/
  | flit (link : Nat) (flit : Flit)
  /-- One bit of each lane of a mask inverted on a link or a fabric lane (R338, R401). -/
  | prbsError (link lanes : Nat)
  /-- A response of an access point to user logic: tag, status and data (R402, R405). -/
  | userData (ap tag status : Nat) (data : List DUnit)
  /-- The words of a codeword that a fabric lane delivers, with CW_ERR (R400). -/
  | laneWords (lane : Nat) (err : Bool) (words : List (BitVec 257))
  /-- A target request offered to user logic (R405). -/
  | userRequest (ap addr : Nat) (write : Bool) (data : List Byte) (be : Nat)
  /-- A result of the Keep's mailbox or MCTP transport (R449). -/
  | keepReply (transport result : Nat) (data : List Byte)
  /-- Bits shifted out of the TAP (R483). -/
  | tdo (bits : Nat) (value : Nat)
  deriving DecidableEq, Repr

/-- Supply state of the module (R453, R457). -/
inductive Rail
  | off | ramp | standby | up
  deriving DecidableEq, Repr

/-- A wake in progress (R460, R461): whether it goes on to Run, and its end, fixed once any entry in progress is over. -/
structure Wake where
  toRun : Bool
  done : Option Nat
  /-- The wake is from Standby. -/
  standby : Bool
  deriving DecidableEq, Repr

/-- A retained training record (R272): its results, their CRC-32C, the identity of the stack that was trained and
BFY_ID.VERSION at the training. -/
structure HbmRecord where
  results : Word
  crc : BitVec 32
  identity : Nat
  version : Nat
  deriving DecidableEq, Repr

/-- The Belfry: supply, clocks, counter, straps and pins (R453 - R467, R505 - R512). -/
structure Belfry where
  rail : Rail
  /-- The 64-bit global cycle counter (R455). -/
  gcyc : Nat
  /-- The reference PLL has locked and the counter counts. -/
  counting : Bool
  /-- Fraction of a gcyc, in 1/64 gcyc, by which alignment has moved the counter's edge (R345, R346). -/
  edge64 : Int
  /-- A trim in progress (R346): what it moves the edge by, in 1/64 gcyc, and the gcyc at which it began. -/
  trim : Int
  trimFrom : Nat
  /-- MRST_N is held low (R458, R507). -/
  inReset : Bool
  /-- THERMTRIP_N is driven low (R464). -/
  thermTrip : Bool
  /-- VIN is applied (R517). -/
  vin : Bool
  /-- Straps as sampled (R509): CMSTR, PUCFG_N, VSEL pins. -/
  cmstr : Bool
  pucfgN : Bool
  vsel : BitVec 8
  refclk : Bool
  vbat : Bool
  perstN : Bool
  /-- The level of the CDONE net after the filter (R348). -/
  cdone : Bool
  /-- This device pulls CDONE low (R347). -/
  cdoneLow : Bool
  /-- Start of the idle timer, when it runs (R22, R460). -/
  idleFrom : Option Nat
  wake : Option Wake
  /-- gcyc at which the entry in progress began (R461). -/
  enterFrom : Nat
  /-- Input-power samples of the averaging window of PWR_CAP, in 100 mW, newest first (R462, R465). -/
  power : List Nat
  /-- IIN samples of the last 100 µs, in 10 mA, newest first (R453). -/
  iin : List Nat
  /-- Retained training records by stack (R272). -/
  hbmRetain : SMap (Option HbmRecord)
  deriving DecidableEq, Repr

/-- Task states before an end state (R183). -/
inductive TaskState
  | queued | waiting | ready | starting | running | completing
  /-- The end state is decided; the completion record comes in a gcyc of its own (R183, R190). -/
  | ended
  deriving DecidableEq, Repr

/-- An accepted run record that has no completion record yet (R183, R370, R372). -/
structure Task where
  id : Nat
  ring : Nat
  /-- The record words Q0-Q7. -/
  words : List Word
  /-- gcyc of acceptance. -/
  accepted : Nat
  state : TaskState
  /-- gcyc from which the task is in its state. -/
  since : Nat
  /-- Thresholds consumed by its start conditions, as (physical tally, amount) (R217). -/
  consumed : List (Nat × Nat)
  /-- A cluster member's copy of the master's task (R196): it has no ring. -/
  remote : Bool
  deriving DecidableEq, Repr

/-- The task that holds the Dome or is taking it (R188 - R201). -/
structure Run where
  task : Nat
  ctx : Nat
  slot : Nat
  /-- Words H0-H7 of the slot header, as read at selection (R178). -/
  header : List Word
  cluster : Bool
  /-- Selection gcyc. -/
  sel : Nat
  /-- gcyc at which the clocks reach Run, once known. -/
  clocks : Option Nat
  /-- START_LEAD or CLU_LEAD x 16 as read at the selection. -/
  lead : Nat
  /-- Start cycle of the attempt, once chosen. -/
  start : Option Nat
  /-- Automatic restarts made (R194). -/
  retries : Nat
  /-- The private tally bank of the task (R207). -/
  bank : Nat
  /-- Next step record and next DOP ordinal (R179). -/
  nextStep : Nat
  nextOp : Nat
  poisoned : Bool
  /-- POISON_CAUSE bits [55:48] (R200). -/
  cause : BitVec 8
  fault : Bool
  aborted : Bool
  firstFault : Option Nat
  /-- Sources of configuration-integrity records already written (R474). -/
  cfgSeen : List Nat
  /-- FLAG_IRQ sent in this attempt (R373). -/
  flagSent : Bool
  /-- gcyc after which no step is issued (R190). -/
  stopAfter : Option Nat
  /-- Queues whose cells the task has taken, with the position after the last packet taken from (R304). -/
  queues : List Nat
  /-- End state decided, once it is (R189): the STATUS code. -/
  decided : Option Nat
  /-- A stream fault of the task has been recorded (R248). -/
  streamFault : Bool
  deriving DecidableEq, Repr

/-- A signal on its way to a tally (R211). -/
structure Sig where
  dev : Nat
  ctx : Nat
  vid : Nat
  inc : Nat
  /-- A host signal names a physical tally. -/
  phys : Option Nat
  /-- The signal crosses to another context or device, so REMOTE_EN is required. -/
  cross : Bool
  /-- A signal of a virtual function reaches no private tally (R384). -/
  host : Bool
  applyAt : Nat
  deriving DecidableEq, Repr

/-- An entry of the pending table (R218, R219). -/
structure Parked where
  sig : Sig
  engine : Nat
  thread : Nat
  bytes : Nat
  parkedAt : Nat
  limit : Nat
  /-- gcyc of the commit that met the fence (R218). -/
  metAt : Option Nat
  deriving DecidableEq, Repr

/-- A private-tally save in progress (R189): context and the end gcyc. -/
structure Save where
  ctx : Nat
  bank : Nat
  done : Nat
  deriving DecidableEq, Repr

/-- What a completion record says, beside what it copies from the run record (R200). -/
structure EndRecord where
  status : Nat
  /-- START_GCYC. -/
  start : Nat
  retries : Nat
  flags : Word
  cause : BitVec 8
  epoch : Nat
  firstFault : Option Nat
  bad : Nat
  firstBad : Option Nat
  deriving DecidableEq, Repr

/-- What the Lantern does by itself in a gcyc fixed before. -/
inductive DueAct
  /-- The completion record of the task with this number is issued (R183, R190). -/
  | record (task : Nat) (e : EndRecord)
  /-- The MSI-X message of a completion record (R189). -/
  | msix (func vec : Nat)
  /-- Thresholds consumed by a task that did not start are added back (R217). -/
  | counts (l : List (Nat × Nat))
  /-- The next task of a context becomes its head (R183, R189). -/
  | head (ctx : Nat)
  /-- The upper half of a 64-bit write to the tally window (R221). -/
  | tally (p : Nat) (v : BitVec 32)
  /-- The limit of the full drain of a thread, by number and stamp, has passed (R241). -/
  | drain (tk stamp : Nat)
  deriving DecidableEq, Repr

/-- Such an act, with its gcyc. -/
structure Due where
  at_ : Nat
  act : DueAct
  deriving DecidableEq, Repr

/-- What has been added to a tally in one gcyc, and whether the tally has saturated in it (R212, R213). -/
structure Applied where
  tally : Nat
  sum : Nat
  sat : Bool
  deriving DecidableEq, Repr

/-- A cluster start received and not yet decided (R196). -/
structure CluPending where
  start : Nat
  slot : Nat
  epoch : Nat
  ctx : Nat
  /-- Restarts of the task so far (R199, R202). -/
  retry : Nat
  /-- The start cycle had passed when START arrived (R353). -/
  late : Bool
  deriving DecidableEq, Repr

/-- A fault record of one gcyc: its KIND, the Spire, link, stack or thread that orders it within the KIND, its words, and the task
whose FIRST_FAULT it may be (R477, R478). -/
structure FaultEntry where
  kind : Nat
  unit : Nat
  words : List Word
  task : Option Nat
  deriving DecidableEq, Repr

/-- The fault records of the last gcyc with one, in their order in the array, and ERR_FR_CNT from before that gcyc (R477). -/
structure FaultLog where
  at_ : Nat
  base : Nat
  entries : List FaultEntry
  deriving DecidableEq, Repr

/-- The Lantern (R178 - R222). -/
structure Lantern where
  tasks : List Task
  nextId : Nat
  run : Option Run
  /-- Last selected context of each class, once there is one (R185). -/
  lastSel : SMap (Option Nat)
  bank : Nat
  /-- gcyc from which the Dome is free (R187). -/
  domeFree : Nat
  save : Option Save
  sigs : List Sig
  parked : List Parked
  /-- The last gcyc in which counts were added to tallies, with the sum of each tally (R213). -/
  applied : Nat × List Applied
  /-- The last gcyc with an event for TLY_LAST_ERR, the word from before that gcyc, and the events of that gcyc (R221). -/
  errs : Nat × Word × List Word
  faults : FaultLog
  /-- Evaluations to come, as context and gcyc (R215). -/
  evals : List (Nat × Nat)
  /-- Acts of the Lantern to come, in the order in which they were fixed. -/
  dues : List Due
  /-- The private bank of the task that ended last without a tally save, up to the gcyc at which a save would end (R220). -/
  oldBank : Option Save
  cluPend : Option CluPending
  /-- Slots under rewrite (R182). -/
  rewriting : List Nat
  deriving DecidableEq, Repr

/-- What a PCIe function holds of its own (R361, R364, R379 - R381). -/
structure Func where
  busMaster : Bool
  memSpace : Bool
  ats : Bool
  /-- Configuration-space dwords written by Configuration Requests. -/
  config : SMap (BitVec 32)
  /-- HIF_VF_CTXSEL (R384). -/
  ctxSel : Nat
  /-- AER status bits, of uncorrectable and of correctable errors (R382). -/
  aer : BitVec 32
  aerCor : BitVec 32
  deriving DecidableEq, Repr

/-- A ring read in flight (R370). -/
structure RingFetch where
  ring : Nat
  first : Nat
  count : Nat
  deriving DecidableEq, Repr

/-- The input of a PUSH record (R375). -/
structure Input where
  id : Nat
  func : Nat
  pasid : Option Nat
  queue : Nat
  record : List Word
  addr : Nat
  len : Nat
  started : Bool
  deriving DecidableEq, Repr

/-- A translation held by the endpoint (R380). -/
structure AtsEntry where
  func : Nat
  page : Nat
  target : Nat
  read : Bool
  write : Bool
  deriving DecidableEq, Repr

/-- What a read of host memory is for: entries of a ring, the input of a PUSH record, or a transaction of the network. -/
inductive HostReadFor
  | ring (r : Nat)
  | input (id : Nat)
  | txn (id : Nat)
  deriving DecidableEq, Repr

/-- A host-bound request: a posted write with its EP mark, a read with what it is for, or an MSI-X message. -/
inductive HostRequest
  | write (data : List Byte) (ep : Bool)
  | read (len : Nat) (what : HostReadFor)
  | msix (vec : Nat)
  deriving DecidableEq, Repr

/-- A host-bound request that waits for its ATS translation, or behind a posted one of its function that does
(R22, R380). -/
structure AtsHeld where
  func : Nat
  pasid : Option Nat
  addr : Nat
  request : HostRequest
  deriving DecidableEq, Repr

/-- The PCIe endpoint (R361 - R384, R508). -/
structure Hif where
  fetches : List RingFetch
  nextRing : Nat
  inputs : List Input
  nextInput : Nat
  funcs : SMap Func
  ats : List AtsEntry
  held : List AtsHeld
  /-- ATS invalidations that wait for requests issued with the old translation, as function and page (R380). -/
  invals : List (Nat × Nat)
  /-- gcyc at which PERST_N rose, while the 100 ms readiness count runs (R508). -/
  readyFrom : Option Nat
  /-- The endpoint is held until the link retrains (R381). -/
  hold : Bool
  /-- The link is in ASPM L1 (R362). -/
  l1 : Bool
  /-- gcyc since which no task has held the Dome and the link has been idle. -/
  idleSince : Nat
  deriving DecidableEq, Repr

/-- A queue cell (R295). -/
structure QCell where
  data : Line
  check : BitVec 32
  vbytes : Nat
  sop : Bool
  eop : Bool
  trunc : Bool
  pois : Bool
  chkOk : Bool
  init : Nat
  length : Nat
  /-- Its slot in the spill area, when it lies there: its data is then in HBM only (R300). -/
  spilled : Option Nat
  deriving DecidableEq, Repr

/-- The packet in assembly of a queue, with its open cell (R298, R299). -/
structure Assembly where
  init : Nat
  length : Nat
  /-- Bytes received. -/
  got : Nat
  /-- Bytes of the open cell. -/
  opened : List Byte
  /-- A piece of the open cell failed its check or was poisoned. -/
  bad : Bool
  checkBad : Bool
  /-- The open cell takes no pool cell but this slot of the spill area. -/
  spilled : Option Nat
  /-- A cell of the packet has been linked. -/
  linked : Bool
  deriving DecidableEq, Repr

/-- A queue of the queue manager (R295 - R306). -/
structure Queue where
  /-- Linked cells from the committed head on. -/
  cells : List QCell
  /-- Committed head, in cells since the queue was emptied by MRST_N (R302). -/
  head : Nat
  /-- Read position, in the same count. -/
  rd : Nat
  asm : Option Assembly
  /-- QCFG as written, and as in force since the last start marker. -/
  cfg : Word
  cfgNow : Word
  held : Bool
  /-- The cells that arrive are freed up to and including an EOP (R304). -/
  freeing : Bool
  /-- Cells linked to the packet whose end the head passes at the record (R304): position after the last cell taken. -/
  taken : Nat
  /-- The first gcyc in which an evaluation sees the gate open, when it is (R215, R301). -/
  openFrom : Nat
  deriving DecidableEq, Repr

/-- The pop latch (R308). -/
structure PopLatch where
  cell : QCell
  metaLeft : Bool
  /-- Next data word, 0-8. -/
  word : Nat
  deriving DecidableEq, Repr
/-- A memory of 64-byte units with the check and poison bit of each unit (R117, R235, R256). -/
structure UnitInfo where
  check : BitVec 32
  pois : Bool
  deriving DecidableEq, Repr

structure Store where
  bytes : Mem
  /-- Check and poison by unit number; an unlisted unit has the check of zero bytes and is not poisoned. -/
  info : SMap UnitInfo
  deriving DecidableEq, Repr

/-- Why a thread was stopped (R243): the END stamp or a STREAM step marks the task, an abort, restart or fault does not. -/
inductive StopCause
  | endOrStep | other
  deriving DecidableEq, Repr

/-- A translation walk that a thread waits for (R247): address and side of the request that missed, and its first unit; the
level that the walk has reached, its table and the rights so far (R245, R246). -/
structure WalkReq where
  addr : Nat
  dst : Bool
  unit : Nat
  level : Nat
  table : Nat
  read : Bool
  write : Bool
  deriving DecidableEq, Repr

/-- The fault of a thread, to be recorded when the thread has finished (R248, R251). -/
structure StreamFault where
  kind : Nat
  cause : Nat
  level : Nat
  dst : Bool
  addr : Nat
  unit : Nat
  gcyc : Nat
  entry : Word
  deriving DecidableEq, Repr

/-- A stream thread that a STREAM step has started (R223 - R243). Its state and committed count are in STE_THREADt. -/
structure Thread where
  desc : List Word
  /-- STREAM stamp T (R230). -/
  stamp : Nat
  func : Nat
  srcBase : Int
  dstBase : Int
  /-- Next unit to issue. -/
  next : Nat
  /-- Requests outstanding. -/
  reqs : Nat
  /-- Units committed, and units committed or discarded. -/
  committed : Nat
  settled : Nat
  /-- Writes issued and not yet committed. -/
  writes : Nat
  /-- Credits held; none: unlimited (R231). -/
  credits : Option Nat
  walk : Option WalkReq
  /-- Units that wait for a transmit slot of a PEER thread. -/
  outbox : List (Nat × DUnit)
  /-- Units that have come over a link for a LINK thread and that no request carries yet, in order (R226). -/
  inbox : List DUnit
  /-- TOTAL of the last CREDIT that a LINK thread has sent (R325). -/
  offered : Nat
  /-- The next unit to go on to a destination that takes units in order, and read data that is ahead of it, as first unit,
  number of units and the units: none for a read that has failed (R227, R249). -/
  onward : Nat
  early : List (Nat × Nat × List DUnit)
  /-- QUEUE source: the packet of the first unit has ended, and whether it was truncated (R303). -/
  pktEnd : Option Bool
  stop : Option StopCause
  fault : Option StreamFault
  /-- In a full drain (R241). -/
  draining : Bool
  deriving DecidableEq, Repr

/-- A ring quarter of a region (R236). -/
structure Quarter where
  wr : Nat
  rd : Nat
  /-- The thread that writes it, by number 256k + t and stamp. -/
  writer : Option (Nat × Nat)
  deriving DecidableEq, Repr

/-- A cached translation (R247). -/
structure TlbEntry where
  func : Nat
  /-- First device virtual address and size of the page. -/
  page : Nat
  size : Nat
  target : Nat
  host : Bool
  read : Bool
  write : Bool
  deriving DecidableEq, Repr

/-- A host-read prefetch detector (R240). -/
structure Detector where
  func : Nat
  window : Nat
  last : Nat
  stride : Int
  equal : Bool
  /-- Address up to which units have been fetched ahead. -/
  ahead : Nat
  deriving DecidableEq, Repr

/-- The stream engines and the stream cache (R223 - R254). -/
structure Streams where
  threads : SMap (Option Thread)
  /-- Threads that a STREAM step or a start cycle has replaced and that are not finished, with their numbers (R223, R243). -/
  left : List (Nat × Thread)
  cache : Store
  /-- FULL lines with their lap, by slice x 786,432 + line (R236). -/
  full : SMap (Option Nat)
  /-- By slice x 4,096 + region. -/
  quarters : SMap (Option Quarter)
  /-- Last thread served, by engine x 4 + class (R233). -/
  served : SMap (Option Nat)
  /-- First system-network clock in which the issue port of an engine is free (R233). -/
  port : SMap Nat
  /-- Layer drains to come: the drain point and the threads named (R241). -/
  drains : List (Nat × List Nat)
  /-- Translation caches of engines 0-3, newest first. -/
  tlb : SMap (List TlbEntry)
  /-- Invalidations in progress (R247): the written words. -/
  inval : List Word
  detectors : List Detector
  /-- Prefetched units by unit number (R240, R258), newest first, at most 65,536. -/
  prefetched : List (Nat × DUnit)
  deriving DecidableEq, Repr

/-- A write-queue entry (R264): the unit, the whole unit to be written, its metadata and the byte enables. -/
structure WrEntry where
  unit : Nat
  data : DUnit
  be : Word
  sched : Bool
  seq : Nat
  deriving DecidableEq, Repr

/-- A read that waits for the stack, or whose data is on its way (R262, R265, R270). -/
structure RdEntry where
  unit : Nat
  txn : Nat
  index : Nat
  sched : Bool
  seq : Nat
  /-- The second reading of a unit that could not be corrected. -/
  reread : Bool
  /-- What the stack held when the read was issued. -/
  data : DUnit
  deriving DecidableEq, Repr

/-- A write of transaction `txn` that waits at its controller's input for room in the write queue (R264): unit `index` of
it, with what the read of the stored unit finds when it is partial (R266, R270). -/
structure WrInput where
  unit : Nat
  data : DUnit
  be : Word
  sched : Bool
  txn : Nat
  index : Nat
  ecc : Ecc
  reread : Ecc
  deriving DecidableEq, Repr

/-- An issued command in the retry buffer (R268). -/
structure RetryEntry where
  unit : Nat
  /-- Bank, row and first column of the command (R258). -/
  bank : Nat
  row : Nat
  column : Nat
  /-- For a write: what the unit held before, and whether all bytes were enabled. -/
  old : Option DUnit
  full : Bool
  /-- For a read: its entry. -/
  rd : Option RdEntry
  deriving DecidableEq, Repr

/-- A pseudo-channel of a controller (R255 - R270). -/
structure PseudoChannel where
  writes : List WrEntry
  /-- Writes at the controller's input, oldest first (R264). -/
  input : List WrInput
  /-- Reads that arrived in the present gcyc: they are compared with the write queue at its end (R265). -/
  arriving : List RdEntry
  /-- gcyc in which each bank last opened a row (R261). -/
  opened : SMap (Option Nat)
  reads : List RdEntry
  flight : List RdEntry
  retry : List RetryEntry
  /-- Replays of the same commands so far. -/
  replays : Nat
  lost : List Nat
  /-- Scheduled accesses since the last dynamic one (R262). -/
  run : Nat
  /-- Scheduled writes take precedence until 24 or fewer remain (R264). -/
  writeFirst : Bool
  deriving DecidableEq, Repr

/-- The HBM stacks and their controllers (R255 - R273). Bytes and units are numbered by (32 x stack + pc) x 1.125 GiB. -/
structure Hbm where
  mem : Store
  pcs : SMap PseudoChannel
  seq : Nat
  /-- Last refresh of each stack, as its gcyc and the bank refreshed in pseudo-channel 0 (R263). -/
  refreshed : SMap (Option (Nat × Nat))
  /-- gcyc of the last refresh of any stack. -/
  lastRefresh : Nat
  /-- Stacks whose refresh interval is 40 gcyc, as last taken over. -/
  hot : BitVec 12
  /-- Stacks of which the last readings ask for 40 gcyc. -/
  wantHot : BitVec 12
  deriving DecidableEq, Repr

/-- A control unit that waits for a free slot of a link, or has come over it (R325, R330): its TYPE and its fields in
order. -/
structure CtrlUnit where
  link : Nat
  typ : Nat
  words : List Nat
  deriving DecidableEq, Repr

/-- Which end a network request addresses (R226, R501). -/
inductive NetTarget
  /-- Local HBM, tile store or register space, by local address (R501). -/
  | mem (addr : Nat)
  /-- Stream-cache lines of slice k from line `line` on, each taken or written in ring order when `ring` (R236, R237). -/
  | cache (slice region unit : Nat) (off : Nat) (ring : Bool)
  | queue (q : Nat)
  | host (func addr : Nat)
  /-- A remote device (R502). -/
  | remote (link device addr : Nat)
  /-- A tile-store access of a thread in the dclk that the schedule allots (R226). -/
  | tile (addr : Nat)
  /-- A transmit slot towards a LINK thread of another device (R226). -/
  | peer
  /-- The target side of an access point, at an offset of its window (R405). -/
  | user (ap off : Nat)
  deriving DecidableEq, Repr

/-- What a request is for. -/
inductive NetFor
  /-- Source read or destination write of the thread `number` started at `stamp`, from unit `unit` on; its units go to `dst`. -/
  | thread (number unit stamp : Nat) (dst : NetTarget)
  | bar2 (func tag off len : Nat)
  | prefetch (addr : Nat)
  | accessPoint (ap tag : Nat)
  /-- A request that came over a link, with the tag of its initiator: the response goes back on that link. -/
  | remote (link tag : Nat)
  /-- A copy of a multicast group for the member behind a link (R357). -/
  | multicast (group link : Nat)
  /-- A cell of queue `q` written to a slot of the spill area, and one read back for unit `i` of transaction `txn` (R300). -/
  | spill (slot : Nat)
  | spillRead (txn i : Nat)
  /-- Source bytes of a configuration load: `off` bytes into the first unit, `len` bytes (R408). -/
  | load (off len : Nat)
  /-- Completed by its interface at the response limit: the response will be discarded (R285). -/
  | nobody
  deriving DecidableEq, Repr

inductive NetCmd
  | read | write | partialWrite
  deriving DecidableEq, Repr

/-- Where a transaction stands (R277, R285, R288, R289). -/
inductive NetPhase
  /-- Waits at the injection regulator. -/
  | waiting
  | sent
  /-- At the target, until its units are there. -/
  | atTarget
  /-- Held at an edge gateway. -/
  | held
  /-- The response is on its way. -/
  | responded
  /-- Discarded for its header; only the timeout ends it. -/
  | lost
  deriving DecidableEq, Repr

/-- A transaction of the system network (R275 - R291). -/
structure Txn where
  id : Nat
  init : Nat
  sched : Bool
  cmd : NetCmd
  target : NetTarget
  /-- Units asked for or carried. -/
  len : Nat
  data : List DUnit
  be : Word
  /-- Read: units returned so far, by index. Write: the units discarded as late. -/
  got : SMap (Option DUnit)
  status : Nat
  phase : NetPhase
  /-- gcyc of header injection, and the response limit that applied. -/
  injected : Nat
  limit : Nat
  purpose : NetFor
  /-- System-network clocks of the injection of the header, and of the ejection of the response's TAIL flit (R291). -/
  sentAt : Nat
  backAt : Option Nat
  /-- Place of the response among the responses injected so far (R282). -/
  rank : Nat
  /-- Units of a write to HBM that its controllers have not taken yet (R264); of a read of a queue, the units whose cells have
  been taken and those that have gone on to the thread (R301, R302). -/
  todo : Nat
  passed : Nat
  deriving DecidableEq, Repr

/-- A packet on the network of the die: the request or the response of a transaction, or a control unit on its way to its
Turret (R275, R277). -/
inductive Packet
  | request (txn : Nat)
  | response (txn : Nat)
  | control (u : CtrlUnit)
  deriving DecidableEq, Repr

/-- Where a packet goes and how (R276, R278, R280): its virtual channel, lane and PATH, the router and the local port of
its destination, and those of the interface that injects it. -/
structure Way where
  vc : Nat
  lane : Nat
  path : Nat
  dest : Nat
  port : Nat
  source : Nat
  sourcePort : Nat
  deriving DecidableEq, Repr

/-- A flit of the network of the die (R275): payload with check and POISON, HEAD and TAIL, and the input buffer that holds
it, by router and input port 0-7. -/
structure DieFlit where
  packet : Packet
  way : Way
  unit : DUnit
  head : Bool
  tail : Bool
  router : Nat
  inPort : Nat
  /-- System-network clock in which it entered the buffer. -/
  since : Nat
  /-- Its present wait has been counted (R281). -/
  waited : Bool
  deriving DecidableEq, Repr

/-- The system network (R274 - R294) and its route tables. -/
structure Net where
  txns : List Txn
  nextId : Nat
  nextRank : Nat
  /-- System-network clocks that the routers have done. -/
  clock : Nat
  /-- Flits at their interfaces, in order of injection, and flits in the routers' input buffers, in order of entry. -/
  entering : List DieFlit
  flits : List DieFlit
  /-- The packet that holds a virtual channel of an output lane from its HEAD to its TAIL flit, and the input port that VC
  2, 3 or 4 of an output lane served last (R280), both by `laneKey`. -/
  owners : SMap (Option Packet)
  turns : SMap (Option Nat)
  /-- Token count of an initiator and the gcyc of its last update; unlisted: full (R289, R290). -/
  tokens : SMap (Option (Int × Nat))
  /-- Output port by (192 x 4) x router + 4 x destination + PATH, for loaded routes (R278). -/
  routes : SMap (Option Nat)
  /-- PATH and lane of each stream thread. -/
  routeMap : SMap (Option (Nat × Nat))
  deriving DecidableEq, Repr
/-- A unit held for the outputs of a multicast group that have not accepted it yet (R357, R358): output 0-63 is a link,
64 the local queue. -/
structure McCopy where
  group : Nat
  data : DUnit
  waiting : List Nat
  /-- gcyc at which the copy came to the head of its group. -/
  since : Nat
  /-- Initiator that wrote the unit, and the transaction that waits for its acknowledgement. -/
  init : Nat
  txn : Option Nat
  deriving DecidableEq, Repr

/-- The cluster logic (R340 - R360). -/
structure Cluster where
  member : Option Member
  groups : SMap (Option McGroup)
  copies : List McCopy
  /-- Units for groups that hold 32 already, oldest first: they wait for room (R357). -/
  waits : List McCopy
  /-- Outputs detached, by group x 128 + output (R358). -/
  detached : List Nat
  /-- Floods received: TYPE and FLOOD_SEQ (R350). -/
  seen : List (Nat × Nat)
  nextSeq : Nat
  /-- Reports received from children for the task in progress, by link (R352). -/
  reports : List (Nat × ReportUnit)
  /-- Handshake in progress on a child: T1, T2 and T3, in 1/64 gcyc (R344). -/
  t1 : Option Nat
  t2 : Option Nat
  t3 : Option Nat
  /-- Counter correction to apply, in 1/64 gcyc (R345). -/
  step : Option Int
  /-- gcyc at which an aligned parent last began handshakes with its children (R346). -/
  lastCheck : Nat
  /-- The master's abort decision for the running cluster task (R197). -/
  abortFrom : Option Nat
  /-- The member has sent its final report, and waits for FINAL (R198). -/
  reported : Bool
  deriving DecidableEq, Repr
/-- A slot table in use on a link (R326, R327). -/
structure SlotTable where
  mask : Word
  period : Nat
  /-- First byte of the entries in the schedule store. -/
  entries : Nat
  /-- First frame from which it applies. -/
  first : Nat
  deriving DecidableEq, Repr

/-- What was exchanged on a link in EXCHANGE, time stamps apart (R317). -/
structure Exchanged where
  peer : Word
  epoch : Nat
  deriving DecidableEq, Repr

/-- A flit sent in one of the slots 0-30 of a frame, kept for its replay (R331). -/
structure SentFlit where
  frame : Nat
  flit : Flit
  deriving DecidableEq, Repr

/-- A received flit that waits for its turn (R332, R333); `ok` is false for the place of a corrupted one, of which only
the kind of its units counts. `at_`: A(f, k), the gcyc of its receipt (R320, R344). -/
structure RxSlot where
  frame : Nat
  flit : Flit
  ok : Bool
  at_ : Nat
  deriving DecidableEq, Repr

/-- A retained training record of a link (R316): equaliser settings and receive phases, their CRC-32C, BFY_ID.VERSION at the
training, and the peer's DEVICE and CLUSTER_ID as last exchanged. -/
structure LinkRecord where
  settings : Word
  crc : BitVec 32
  version : Nat
  device : Nat
  cluster : Nat
  deriving DecidableEq, Repr

/-- One Lomion link, beside its registers (R314 - R338). -/
structure Link where
  /-- The link trains or runs at Lomion-2. -/
  gen2 : Bool
  /-- Data lanes in lock, as TUR_LINK_STATUS.WIDTH codes them. -/
  lanes : Nat
  /-- The last EXCH unit received and how many identical ones have come in a row; a unit has echoed one of this end's. -/
  last : Option Exchanged
  same : Nat
  echoed : Bool
  /-- TS of the EXCH units that this end has sent in this EXCHANGE, and the last RTT measured (R317). -/
  sentTs : List Nat
  rtt : Nat
  /-- The exchange that made the link ACTIVE. -/
  done : Option Exchanged
  /-- Last TS received, with the gcyc of its receipt. -/
  ts : Option (Nat × Nat)
  /-- Retained training records: Lomion-1, Lomion-2 (R316). -/
  retain1 : Option LinkRecord
  retain2 : Option LinkRecord
  /-- The link trains in full because its record named another peer. -/
  fullNext : Bool
  /-- Frame in transmission and its next slot; 32 when the frame has been sent. -/
  txFrame : Nat
  txSlot : Nat
  sent : List SentFlit
  /-- Frames of which a NAK has been received, with the slot to replay. -/
  naks : List (Nat × Nat)
  /-- NAK sent in every header: frame and slot, and the last frame of its own that carries it. -/
  nakTx : Option (Nat × Nat × Nat)
  /-- Corrupted flits that wait for a replay, and frames of which one has been found. -/
  bad : List (Nat × Nat)
  badFrames : List Nat
  /-- Received flits held behind a corrupted one, in order. -/
  held : List RxSlot
  /-- The next RX slot to be given poisoned units while the link carries no scheduled traffic, as 31 x frame + slot
  (R334). -/
  dropNext : Nat
  /-- The last 58 bits that the scrambler of each data lane has put out, newest in bit 0, and the bytes last put on each lane
  (R313). -/
  scramblers : List (BitVec 58)
  wire : List (List Byte)
  deriving DecidableEq, Repr

/-- The Lomion links (R311 - R339). -/
structure Links where
  link : SMap Link
  /-- Control units waiting, oldest first. -/
  ctrl : List CtrlUnit
  /-- Slot table current on each link, and the one it replaces until its first frame. -/
  tables : SMap (Option SlotTable)
  before : SMap (Option SlotTable)
  /-- Network flits that wait for free slots, by link (R330). -/
  dyn : SMap (List NetFlit)
  /-- Network packets in assembly, by 2 x link + VC (R332): none while units up to the next HEAD are discarded. -/
  asm : SMap (List NetFlit)
  deriving DecidableEq, Repr

/-- A change of SEL in progress (R393): its new value, the rising edges still to come of the old clock and of the new one, and
the gcyc of the last edge of the old one. -/
structure TreeTurn where
  dest : Nat
  old : Nat
  new : Nat
  since : Nat
  deriving DecidableEq, Repr

/-- A regional clock tree (R392 - R394): SEL and the ratio in effect, the ratio asked for by DIVSEL, the divider's /8 count, the
change of SEL in progress, and the SEL that waits for it. -/
structure ClockTree where
  sel : Nat
  ratio : Nat
  want : Nat
  count : Nat
  turn : Option TreeTurn
  next : Option Nat
  deriving DecidableEq, Repr

/-- The registers of an I/O cell (R397): what the input captured at the two edges and what it presents as Q1 and Q2; D1 and D2 of
the output register and of the output-enable register. -/
structure IoCell where
  c1 : Bool
  c2 : Bool
  q1 : Bool
  q2 : Bool
  o1 : Bool
  o2 : Bool
  e1 : Bool
  e2 : Bool
  deriving DecidableEq, Repr

/-- An I/O delay line (R398): its tap, and the target of a LOAD with the gcyc at which it began. -/
structure DelayLine where
  tap : Nat
  load : Option (Nat × Nat)
  deriving DecidableEq, Repr

/-- A word at a read port of a block RAM, with ECC_FIX and ECC_BAD (R390). -/
structure RamWord where
  word : Nat
  fix : Bool
  bad : Bool
  deriving DecidableEq, Repr

/-- A read port of a block RAM (R389, R390): the word last read, and the word at the port's output. -/
structure RamPort where
  latch : RamWord
  output : RamWord
  deriving DecidableEq, Repr

/-- A block RAM as a FIFO (R389): words written at port A and read at port B, the read pointer on its way to port A and the
write pointer on its way to port B through two stages, each with the word that the port sees now last. -/
structure Fifo where
  wr : Nat
  rd : Nat
  toA : List Nat
  toB : List Nat
  deriving DecidableEq, Repr

/-- The programmable fabric and its hard blocks, beside their registers (R385 - R406). -/
structure Fabric where
  /-- By 16 x region + tree, as changed at run time; unlisted: as the fabric plane gives it. -/
  trees : SMap (Option ClockTree)
  /-- Flip-flops by 2 x (16 x LB + LE) + flip-flop, as clocked; unlisted: the initial value of the fabric plane (R386). -/
  flops : SMap (Option Bool)
  /-- Registers of the stitch crossings, by 4,096 x (2 x place + direction) + wire (R388). -/
  crossings : SMap Bool
  /-- Registers of the I/O cells, by pin (R397). -/
  cells : SMap IoCell
  /-- What the boundary isolators took at engagement, by 5 x (16 x LB + LE) + output (R425). -/
  isolators : SMap (Option Bool)
  /-- By 2 x pin + path (0 input, 1 output), as changed at run time. -/
  delays : SMap (Option DelayLine)
  /-- By 2 x (96 x region + block) + port. -/
  ports : SMap RamPort
  /-- FIFOs, by 96 x region + block (R389). -/
  fifos : SMap Fifo
  /-- Codewords in a row that decoded, and that did not, by lane (R400). -/
  codewords : SMap (Nat × Nat)
  /-- Regions whose flip-flops and block RAMs may be written, and whose resets are released (R424, R425). -/
  writeEn : BitVec 48
  running : BitVec 48
  deriving DecidableEq, Repr

/-- Where a load stands (R408 - R426). -/
inductive LoadPhase
  /-- Waits for the 128 header bytes. -/
  | header
  /-- Held until the task that holds the Dome has its record (R410). -/
  | held
  /-- In the full clear of a FULL load. -/
  | clearing
  /-- Blocks and packets. -/
  | body
  /-- A refused bitstream is consumed and discarded (R412). -/
  | refused
  /-- Start-up (R424): LOCK, the stages still to run in order, and the CDONE stage. -/
  | lock
  | stages (left : List Nat)
  | cdone
  deriving DecidableEq, Repr

/-- A load in progress (R408 - R428). -/
structure Load where
  /-- 0 HOST, 1 HBM, 2 PORT. -/
  src : Nat
  phase : LoadPhase
  /-- CFG_STATUS.STATE before the header was accepted. -/
  before : Nat
  /-- CFG_SRC_ADDR and CFG_SRC_LEN at START. -/
  addr : Nat
  len : Nat
  header : List Byte
  /-- Bytes received and not yet taken, and bytes asked for from the source. -/
  buf : List Byte
  asked : Nat
  /-- The transaction that reads the source. -/
  reading : Option Nat
  /-- gcyc from which the engine waits for bytes, for lock, or for the next stage. -/
  waitFrom : Nat
  /-- Next block, and the trailers of the blocks so far (R413, R447). -/
  block : Nat
  trailers : List Byte
  /-- Authenticated body bytes not yet processed, and body bytes processed. -/
  body : List Byte
  done : Nat
  /-- Current frame address, which may have passed the last unit of its plane; the frame buffer; the last 8,192 bytes of
  output (R415, R416, R419). -/
  faddr : BitVec 40
  past : Bool
  frame : Option (List Byte)
  history : List Byte
  /-- Frames written by the bitstream. -/
  frames : Nat
  openSlot : Option Nat
  openRegion : Option Nat
  /-- The header frame of the open slot has been written. -/
  headerIn : Bool
  /-- A SLOT_BEGIN is held for the task of its slot (R426). -/
  slotHeld : Bool
  deriving DecidableEq, Repr

/-- One copy of the mirrored fields of the eFUSE array (R433). -/
structure FuseCopy where
  rootHash : BitVec 512
  serial : BitVec 128
  keySet : Bool
  policy : BitVec 32
  revoke : BitVec 8
  /-- SVN_BOOT, SVN_KEYS, SVN_MGMT, SVN_PHY. -/
  svn : List Word
  deriving DecidableEq, Repr

/-- The eFUSE array (R433): the two copies of the mirrored fields, and the two fields stored once, each with the verdict of its
SECDED. -/
structure Fuses where
  copyA : FuseCopy
  copyB : FuseCopy
  uds : BitVec 256
  udsValid : Bool
  key : BitVec 256
  keyValid : Bool
  deriving DecidableEq, Repr

/-! The value used of a mirrored field is the OR of its copies (R433). -/

def Fuses.rootHash (f : Fuses) : BitVec 512 := f.copyA.rootHash ||| f.copyB.rootHash
def Fuses.serial (f : Fuses) : BitVec 128 := f.copyA.serial ||| f.copyB.serial
def Fuses.keySet (f : Fuses) : Bool := f.copyA.keySet || f.copyB.keySet
def Fuses.policy (f : Fuses) : BitVec 32 := f.copyA.policy ||| f.copyB.policy
def Fuses.revoke (f : Fuses) : BitVec 8 := f.copyA.revoke ||| f.copyB.revoke
/-- The fused word of the rollback counter of type `t` (1-4). -/
def Fuses.svnWord (f : Fuses) (t : Nat) : Word := f.copyA.svn.getD (t - 1) 0 ||| f.copyB.svn.getD (t - 1) 0

/-- Fuses blown in both copies. -/
def Fuses.blow (f : Fuses) (g : FuseCopy → FuseCopy) : Fuses := { f with copyA := g f.copyA, copyB := g f.copyB }

/-- A firmware slot of the flash (R432, R439): its stored image, and the mark that it is staged. -/
structure FlashSlot where
  image : Option (List Byte)
  staged : Bool
  deriving DecidableEq, Repr

/-- An UPDATE in progress (R439, R449): how it came, the TYPE and directory entry, and what will go wrong. -/
structure UpdateJob where
  port : KeepPort
  type : Nat
  entry : Nat
  env : UpdateEnv
  deriving DecidableEq, Repr

/-- The Keep's own state, beside its registers (R431 - R452). -/
structure Keep where
  fuses : Fuses
  bbram : Option (BitVec 256)
  /-- Slot of type t (1-4): 2 (t - 1) for A, 2 (t - 1) + 1 for B. -/
  slots : SMap FlashSlot
  /-- Boot pointer record copies 0, 1 and 2 (R441). -/
  records : List (List Byte)
  /-- The identity certificate in flash. -/
  cert : List Byte
  /-- The card in the socket, as its written extents (R438). -/
  card : Option (List (Nat × List Byte))
  /-- Types whose image has been activated and has not reached ready since (R436). -/
  unproved : BitVec 4
  /-- CFG_STATUS.STATE before UPDATING, while an activation's restart runs (R445). -/
  cfgBefore : Option Nat
  /-- The restart runs the previous firmware after an expired trial (R445). -/
  reverting : Bool
  /-- gcyc at which the restart began. -/
  restartAt : Nat
  job : Option UpdateJob
  /-- Recovery has found no PHY slot that passes: training is skipped and links stay in DETECT (R444). -/
  noPhy : Bool
  /-- The configuration measurement M (R447). -/
  measure : List Byte
  deriving DecidableEq, Repr

/-- The result of the last CFG_ACCESS operation (R492). -/
structure TapResult where
  valid : Bool
  denied : Bool
  data : Word
  deriving DecidableEq, Repr

/-- The test access port (R482 - R493). -/
structure Tap where
  ir : BitVec 8
  /-- The boundary register, cell i in bit i. -/
  cells : BitVec 1016
  result : TapResult
  /-- Spires selected through their test windows (R493). -/
  selected : List Nat
  /-- TARGET of the BIST in progress, and of RET (R488). -/
  bist : Option (BitVec 9)
  bistRet : Bool
  deriving DecidableEq, Repr

/-- An exact value: `m` times 2 to the power `e`, an infinity with its sign, or NaN (R38, R40). -/
inductive Val
  | fin (m e : Int)
  | inf (neg : Bool)
  | nan
  deriving DecidableEq, Repr, Inhabited

/-- A D register over its 32 lanes, with its form, shared exponent and poison marks (R107, R108, R111).
[DEDUCED, unsafe: notes/assumptions/168] -/
structure DReg where
  lanes : List (BitVec 24)
  bk : Bool
  de : BitVec 8
  pois : BitVec 32
  /-- Lanes whose value comes from a drained result outside the rows and columns of its DOP: no store writes it (R106). -/
  out : BitVec 32 := 0
  deriving DecidableEq, Repr

/-- An accumulator over its 32 lanes, as ACC56 words, with its poison marks (R107, R109). -/
structure AReg where
  lanes : List Word
  pois : BitVec 32
  /-- As in a D register (R106). -/
  out : BitVec 32 := 0
  deriving DecidableEq, Repr

/-- An active loop (R122, R123): first and last index of its body, the runs left after this one, and whether its body was
placed in the loop cache. -/
structure Loop where
  first : Nat
  last : Nat
  left : Nat
  deriving DecidableEq, Repr

/-- What an accumulating instruction does with the accumulator that it reads one dclk before its result (R113, R138). -/
inductive AccOp
  | add | max | scale
  deriving DecidableEq, Repr

/-- An effect of an issued instruction that has not come yet (R113, R138). -/
inductive VxEffect
  | dreg (n : Nat) (v : DReg)
  | acc (n : Nat) (v : AReg)
  /-- An addition, a maximum or a scaling of each lane by its value. -/
  | accOp (n : Nat) (op : AccOp) (vals : List Val) (pois out : BitVec 32)
  | pointer (kind n : Nat) (value : BitVec 12)
  /-- Bytes for lines of the tile store, with the mark of each piece: an address in the Spire's store and at most 64 bytes. A
  byte that is none stays as it is (R106). -/
  | store (pieces : List (Nat × List (Option Byte) × Bool))
  /-- The access lost its bus or a bank: the fault comes in the dclk of the meeting (R118, R130). -/
  | conflict
  deriving DecidableEq, Repr

/-- A pending effect: its dclk, the instruction and program it belongs to, and the bus and dclk that it still needs. -/
structure VxPending where
  due : Nat
  seq : Nat
  pc : Nat
  prog : Nat
  op : Nat
  bus : Option (Nat × Nat)
  eff : VxEffect
  deriving DecidableEq, Repr

/-- Which program runs (R125, R129, R161, R171). -/
inductive ProgKind
  | prologue | epilogue | phase2 | maint
  deriving DecidableEq, Repr

/-- A running VX program (R112, R125): next index and its issue dclk, the DOP that it serves, and whether it has faulted. -/
structure Prog where
  id : Nat
  kind : ProgKind
  op : Nat
  pc : Nat
  issue : Nat
  faulted : Bool
  deriving DecidableEq, Repr

/-- A word with ACC56 accesses between its issue and the dclk in which its accesses and its operation take place (R137). -/
structure VxHeld where
  due : Nat
  prog : Prog
  env : VxEnv
  deriving DecidableEq, Repr

/-- The vector engine of a Spire (R107 - R157). -/
structure Vx where
  d : List DReg
  acc : List AReg
  ap : List (BitVec 12)
  ab : List (BitVec 12)
  al : List (BitVec 12)
  ao : List (BitVec 12)
  loops : List Loop
  /-- First and last index of the body in the loop cache. -/
  cache : Option (Nat × Nat)
  /-- Pack buffers of X and Y, each byte with its mark (R149); none is a byte that will not be written (R106). -/
  packX : List (Option (Byte × Bool))
  packY : List (Option (Byte × Bool))
  prog : Option Prog
  nextProg : Nat
  nextSeq : Nat
  /-- Index of the instruction issued last. -/
  pc : Nat
  pending : List VxPending
  /-- The word with ACC56 accesses that has issued and is yet to act (R137). -/
  held : Option VxHeld
  /-- dclk of the captured fault (R130). -/
  faultAt : Nat
  deriving DecidableEq, Repr

/-- The drain registers of a Spire (R65, R78 - R80, R126). -/
structure Drain where
  /-- Rows of ACC56 words, as loaded. -/
  rows : List (List Word)
  pois : Bool
  /-- The dclk of the load, once a DOP of the current task has loaded them. -/
  loaded : Option Nat
  /-- Rows still to be read while the registers are pending. -/
  unread : BitVec 32
  /-- The registers stay pending until phase two halts (R172). -/
  hold : Bool
  /-- Number of the DOP that has loaded them. -/
  op : Nat
  /-- Of each row, the columns outside the rows and columns of that DOP (R106). -/
  out : List (BitVec 32)
  deriving DecidableEq, Repr

/-- A byte lane of an operand bus: the byte, the mark of its unit, and whether it is valid (R66, R95, R106). -/
structure Lane where
  byte : Byte
  pois : Bool
  valid : Bool
  deriving DecidableEq, Repr

/-- What an operand bus carries in one dclk: its 64 byte lanes, and beside them the exponent bytes of blocks that open, by
band (R66, R94). -/
structure BusWord where
  lanes : List Lane
  side : List (Nat × List Lane)
  deriving DecidableEq, Repr

/-- What a cell holds of its open group (R60): the window G, the running exponent F, the class (finite, +inf, -inf, NaN), the
residue; and the flags and special event that wait for the close (R55), and whether no product was other than 0. -/
structure OpenCell where
  win : BitVec 40
  exp : BitVec 10
  cls : BitVec 2
  res : BitVec 3
  flags : BitVec 4
  event : Nat
  empty : Bool
  deriving DecidableEq, Repr

/-- A closed group on its way through the close stages (R64, R72): the dclk of its last product, its DOP, pass and K-group, what
each cell holds of it, the residue that the edges expect, and whether poisoned bytes were taken. -/
structure ClosedGroup where
  at_ : Nat
  op : Nat
  pass : Nat
  group : Nat
  cells : List OpenCell
  want : Nat
  bad : Bool
  deriving DecidableEq, Repr

/-- An operand side of a Spire (R66, R67): the bus word registered in this dclk and the one before, the decoded elements in the
32 registers, one or two of a slot, and of the open group the exponent bytes, the elements taken so far, the rows or columns
whose block has a poisoned byte (R59), and whether a poisoned byte was taken (R70). -/
structure Side where
  bus : BusWord
  prev : BusWord
  regs : List (List (Option Val))
  exps : List Lane
  taken : List (List (Option Val))
  blocks : BitVec 32
  bad : Bool
  deriving DecidableEq, Repr

/-- A Spire, beside its registers and its stores (R60, R107). -/
structure Spire where
  vx : Vx
  a : Side
  b : Side
  /-- The open group of the 1,024 cells, row after row. -/
  open_ : List OpenCell
  closing : List ClosedGroup
  /-- The accumulators of the 1,024 cells, row after row, as ACC56 words. -/
  cells : List Word
  drain : Drain
  /-- OPNUM of the last DOP. -/
  opnum : Nat
  /-- The DOP in progress has met poison, or a residue error, in this Spire. -/
  pois : Bool
  rck : Bool
  /-- The dclk up to which this Spire has run on its own, by a command of its instruction. -/
  ahead : Nat
  deriving DecidableEq, Repr

/-- One hop of a Dome-network route: its link, its dclk, whether the unit continues straight, and the direction from which
it arrives, 4 for a unit of the port itself (R286, R287). -/
structure Hop where
  link : Nat
  at_ : Nat
  straight : Bool
  dir : Nat
  deriving DecidableEq, Repr

/-- Where a unit of the Dome network comes from: a line of the tile stores; line `i` of an A tile of a DOP, which the port
transposes; or an edge gateway, which has put it in (R164, R226, R288). -/
inductive DomeSrc
  | line (l : Nat)
  | turned (op i : Nat)
  | gate
  deriving DecidableEq, Repr

/-- Where a unit of the Dome network goes: a line of the tile stores, as unit `i` of a write transaction or not; the port's
transposition, as line `i` of a tile of a DOP; line `i` of the A tiles at the west edge; or an edge gateway, as unit `i` of a
read transaction (R164, R226, R286). -/
inductive DomeDst
  | line (l : Nat) (back : Option (Nat × Nat))
  | port (op i : Nat)
  | west (op i : Nat)
  | gate (txn i : Nat)
  deriving DecidableEq, Repr

/-- A unit on the Dome network, or about to be read for it (R286): where it comes from and goes, the dclk of its read and of
its write, and its hops. -/
structure DomeUnit where
  src : DomeSrc
  read : Nat
  write : Nat
  dst : DomeDst
  hops : List Hop
  lost : Bool
  data : Option DUnit
  ecc : Ecc
  deriving DecidableEq, Repr

/-- A unit of a DOP's row statistics that has lost a link, and the dclk in which it did (R287): part `part` of what goes to
leaf pair `pair` of row band `band` in level `level` of the tree, or, in the broadcast, north from Spire row `pair` (level 0)
or west along it (level 99). -/
structure StatLoss where
  level : Nat
  band : Nat
  pair : Nat
  part : Nat
  at_ : Nat
  deriving DecidableEq, Repr

/-- A DOP of the running task, as its schedule places it (R96): its number, T0 and descriptor. -/
structure DopPlan where
  op : Nat
  t0 : Nat
  desc : List Word
  deriving DecidableEq, Repr

/-- A DOP launched by the running task (R96 - R98), and the Spires whose programs for it have still to end. -/
structure Dop where
  op : Nat
  desc : List Word
  t0 : Nat
  env : DopEnv
  left : Nat
  /-- dclk after the last program for it ended. -/
  ended : Nat
  /-- Partial statistics of the current level of the tree, by row band x 32 + cell row: one or two ACC56 words and the mark of
  each, and the final one at last (R170). -/
  stats : SMap (List (List Word × Bool))
  statLost : List StatLoss
  deriving DecidableEq, Repr

/-- A program start to come (R125, R161, R171): an epilogue starts at a dclk of its own in each Spire. -/
structure ProgStart where
  kind : ProgKind
  op : Nat
  pc : Nat
  /-- The dclk, for the programs that start everywhere at once. -/
  at_ : Nat
  deriving DecidableEq, Repr

/-- The Dome as a whole (R88 - R103, R158 - R172). -/
structure Dome where
  spires : SMap Spire
  /-- The dclk up to which the Dome has run. -/
  clock : Nat
  /-- Every DOP of the task that holds the Dome (R96, R165). -/
  plan : List DopPlan
  dops : List Dop
  starts : List ProgStart
  /-- The dclk up to which the Dome network, the edges and the matrix engines have run: at most one ahead of VX. -/
  head : Nat
  /-- Copy routes to run, as the dclk of the window and the route (R161, R162). -/
  copies : List (Nat × Nat)
  units : List DomeUnit
  /-- Lines of A tiles that ports have read for transposition, by DOP number and (131,072 x row band + K-slice) x 64 + line
  (R164). -/
  tiles : List (Nat × SMap (Option DUnit))
  /-- Lines of A tiles at the west edge, in K-vector layout, numbered in the same way (R164). -/
  west : List (Nat × SMap (Option DUnit))
  /-- Units of B taken by the injectors of each slice, in order, by DOP number (R91, R236). -/
  north : List (Nat × SMap (List DUnit))
  /-- Of each column group G0-G15: the dclk from which it is enabled and the one from which it is gated, of the last ramps
  (R100 - R103). -/
  groups : SMap (List (Nat × Option Nat))
  /-- RAMP of the last DOP launched (R102). -/
  ramp : Nat
  deriving DecidableEq, Repr

/-- The device: every piece of state the manual gives it, but the queue of waiting commands. -/
structure Device where
  /-- Every register of BAR0 by its offset (R495); an unlisted register has its reset value. -/
  regs : SMap Word
  /-- The MODEL'S OWN counter for free values: each open value is `Config.freeValue` of a number of its own. -/
  freeIx : Nat
  /-- The MODEL'S OWN record of what the device has sent. -/
  out : List Output
  /-- W1C bits that hardware events have set: the register, the clock of its block in which that was, and the bits (R16). -/
  justSet : List (Nat × Nat × Word)
  belfry : Belfry
  lantern : Lantern
  hif : Hif
  queues : SMap Queue
  pop : Option PopLatch
  streams : Streams
  hbm : Hbm
  net : Net
  cluster : Cluster
  links : Links
  /-- Every Spire is in MAINT, from the start of a load of the Dome plane until resets are released (R129, R410, R424). -/
  maintCfg : Bool
  /-- Tile stores, byte n x 0x2_0000 + i of Spire n (R115). -/
  tile : Store
  /-- Configuration memory, byte i of frame f at 1,024 x f + i, frames numbered by `frameIndex` (R417, R418). -/
  cfgMem : Mem
  dome : Dome
  fabric : Fabric
  load : Option Load
  keep : Keep
  tap : Tap
  deriving DecidableEq, Repr

/-- The block: the device and the queue of commands that are waiting, first in, first out. -/
structure State where
  dev : Device
  pending : List Instr
  deriving DecidableEq, Repr

/-- A queue as MRST_N and power-up leave it (R309). -/
def Queue.initial : Queue :=
  { cells := [], head := 0, rd := 0, asm := none, cfg := 0, cfgNow := 0, held := false, freeing := false, taken := 0,
    openFrom := 0 }

def PseudoChannel.initial : PseudoChannel :=
  { writes := [], input := [], arriving := [], opened := [], reads := [], flight := [], retry := [], replays := 0, lost := [], run := 0, writeFirst := false }

/-- A function right after its reset (R381). [PRESUMED, unsafe: notes/assumptions/8] -/
def Func.initial : Func :=
  { busMaster := false, memSpace := false, ats := false, config := [], ctxSel := 0, aer := 0, aerCor := 0 }

def Store.initial : Store := { bytes := [], info := [] }

/-- The Belfry at reset, its supply up (R457, R458). [DESIGN CHOICE, unsafe: notes/assumptions/9] -/
def Belfry.initial : Belfry :=
  { rail := .up, gcyc := 0, counting := true, edge64 := 0, trim := 0, trimFrom := 0, inReset := false, thermTrip := false, vin := true,
    cmstr := true, pucfgN := true, vsel := 0xFF, refclk := true, vbat := true, perstN := true, cdone := false,
    cdoneLow := true, idleFrom := some 0, wake := none, enterFrom := 0, power := [], iin := [], hbmRetain := [] }

def Lantern.initial : Lantern :=
  { tasks := [], nextId := 0, run := none, lastSel := [], bank := 0, domeFree := 0, save := none, sigs := [],
    parked := [], applied := (0, []), errs := (0, 0, []), faults := { at_ := 0, base := 0, entries := [] }, evals := [], dues := [], oldBank := none, cluPend := none,
    rewriting := [] }

def Hif.initial : Hif :=
  { fetches := [], nextRing := 0, inputs := [], nextInput := 0, funcs := [], ats := [], held := [], invals := [], readyFrom := some 0,
    hold := false, l1 := false, idleSince := 0 }

def Streams.initial : Streams :=
  { threads := [], left := [], cache := Store.initial, full := [], quarters := [], served := [], port := [], drains := [], tlb := [], inval := [],
    detectors := [], prefetched := [] }

def Hbm.initial : Hbm :=
  { mem := Store.initial, pcs := [], seq := 0, refreshed := [], lastRefresh := 0, hot := 0, wantHot := 0 }

def Net.initial : Net :=
  { txns := [], nextId := 0, nextRank := 0, clock := 0, entering := [], flits := [], owners := [], turns := [],
    tokens := [], routes := [], routeMap := [] }

def Links.initial : Links := { link := [], ctrl := [], tables := [], before := [], dyn := [], asm := [] }

/-- A link as power-up leaves it: no record, nothing sent or received. -/
def Link.initial : Link :=
  { gen2 := false, lanes := 3, last := none, same := 0, echoed := false, sentTs := [], rtt := 0, done := none, ts := none, retain1 := none,
    retain2 := none, fullNext := false, txFrame := 0, txSlot := 32, sent := [], naks := [], nakTx := none, bad := [],
    badFrames := [], held := [], dropNext := 0, scramblers := [0, 0, 0, 0], wire := [[], [], [], []] }

def Fifo.initial : Fifo := { wr := 0, rd := 0, toA := [0, 0], toB := [0, 0] }

def Cluster.initial : Cluster :=
  { member := none, groups := [], copies := [], waits := [], detached := [], seen := [], nextSeq := 0, reports := [], t1 := none,
    t2 := none, t3 := none, step := none, lastCheck := 0, abortFrom := none, reported := false }

def DReg.initial : DReg := { lanes := List.replicate 32 0, bk := false, de := 150, pois := 0 }

def AReg.initial : AReg := { lanes := List.replicate 32 0, pois := 0 }

/-- VX as a task's start finds it (R110, R149). -/
def Vx.initial : Vx :=
  { d := List.replicate 8 DReg.initial, acc := List.replicate 2 AReg.initial, ap := List.replicate 8 0,
    ab := List.replicate 8 0, al := List.replicate 8 0, ao := List.replicate 8 0, loops := [], cache := none, packX := [],
    packY := [], prog := none, nextProg := 0, nextSeq := 0, pc := 0, pending := [], held := none, faultAt := 0 }

def Drain.initial : Drain :=
  { rows := List.replicate 32 (List.replicate 32 0), pois := false, loaded := none, unread := 0, hold := false, op := 0, out := [] }

def BusWord.initial : BusWord := { lanes := [], side := [] }

def OpenCell.initial : OpenCell := { win := 0, exp := 0, cls := 0, res := 0, flags := 0, event := 0, empty := true }

def Side.initial : Side :=
  { bus := BusWord.initial, prev := BusWord.initial, regs := List.replicate 32 [], exps := [], taken := List.replicate 32 [],
    blocks := 0, bad := false }

def Spire.initial : Spire :=
  { vx := Vx.initial, a := Side.initial, b := Side.initial, open_ := List.replicate 1024 OpenCell.initial, closing := [],
    cells := List.replicate 1024 0, drain := Drain.initial, opnum := 0, pois := false, rck := false, ahead := 0 }

def Dome.initial : Dome :=
  { spires := [], clock := 0, plan := [], dops := [], starts := [], head := 0, copies := [], units := [], tiles := [], west := [],
    north := [], groups := [], ramp := 0 }

def RamPort.initial : RamPort :=
  { latch := { word := 0, fix := false, bad := false }, output := { word := 0, fix := false, bad := false } }

def IoCell.initial : IoCell :=
  { c1 := false, c2 := false, q1 := false, q2 := false, o1 := false, o2 := false, e1 := false, e2 := false }

def Fabric.initial : Fabric :=
  { trees := [], flops := [], crossings := [], cells := [], isolators := [], delays := [], ports := [], fifos := [], codewords := [], writeEn := 0, running := 0 }

/-- Nothing blown, no key (R433). -/
def FuseCopy.initial : FuseCopy := { rootHash := 0, serial := 0, keySet := false, policy := 0, revoke := 0, svn := [0, 0, 0, 0] }

def Fuses.initial : Fuses :=
  { copyA := FuseCopy.initial, copyB := FuseCopy.initial, uds := 0, udsValid := false, key := 0, keyValid := false }

def FlashSlot.initial : FlashSlot := { image := none, staged := false }

/-- The Keep of a fresh device (R431 - R441). [DESIGN CHOICE, unsafe: notes/assumptions/10] -/
def Keep.initial : Keep :=
  { fuses := Fuses.initial, bbram := none, slots := [], records := [[], [], []], cert := [], card := none, unproved := 0,
    cfgBefore := none, reverting := false, restartAt := 0, job := none, noPhy := false, measure := List.replicate 64 0 }

def Tap.initial : Tap :=
  { ir := 1, cells := 0, result := { valid := false, denied := false, data := 0 }, selected := [], bist := none,
    bistRet := false }

/-- The device right after module reset is released (R457, R458): State Warm, UNCONFIGURED, nothing held. -/
def Device.initial : Device :=
  { regs := [], freeIx := 0, out := [], justSet := [], belfry := Belfry.initial, lantern := Lantern.initial, hif := Hif.initial,
    queues := [], pop := none, streams := Streams.initial, hbm := Hbm.initial, net := Net.initial, cluster := Cluster.initial, links := Links.initial, maintCfg := false,
    tile := Store.initial, cfgMem := [], dome := Dome.initial, fabric := Fabric.initial, load := none, keep := Keep.initial,
    tap := Tap.initial }

/-- The block after reset: no command waits. [DESIGN CHOICE, safe: notes/assumptions/2]
[DESIGN CHOICE, unsafe: notes/assumptions/4] -/
def State.reset : State := { dev := Device.initial, pending := [] }

end Sys2Proof.Machine
end

