-- ==== Sys2Proof/Machine/Numbers.lean ====
section
/-!
DEFINITION. Number formats, exact values, rounding, narrowing and accumulation (R33 - R53).
-/
namespace Sys2Proof.Machine

open Sys2Proof

/-! ### Flags (R53): bit 0 IV, bit 1 IX, bit 2 UF, bit 3 OV -/

def fIV : BitVec 4 := 1
def fIX : BitVec 4 := 2
def fUF : BitVec 4 := 4
def fOV : BitVec 4 := 8

/-- The flag `f` when `c` holds. -/
def flagIf (c : Bool) (f : BitVec 4) : BitVec 4 := if c then f else 0

/-! ### Exact values -/

/-- Two to the power `e` for `e` not negative, else 1. -/
def pow2 (e : Int) : Int := 2 ^ e.toNat

/-- Round half to even, dropping `s` low bits (R50). -/
def roundConv (v : Int) (s : Nat) : Int :=
  let q := v / 2 ^ s
  let r := v % 2 ^ s
  if (2 ^ s : Int) < 2 * r ∨ (2 * r = 2 ^ s ∧ q % 2 = 1) then q + 1 else q

/-- `v` as a multiple of 2 to the power `w`, rounded once (R50); with whether it is inexact. -/
def roundAt (m e w : Int) : Int × Bool :=
  if w ≤ e then (m * pow2 (e - w), false)
  else
    let s := (w - e).toNat
    let q := roundConv m s
    (q, decide (q * 2 ^ s ≠ m))

/-- floor(log2 |v|) of a non-zero value (R143). -/
def log2Val (m e : Int) : Int := (Nat.log2 m.natAbs : Int) + e

/-- -1, 0 or 1 as `m 2^e` lies below, on or above `m' 2^e'` (R141). -/
def cmpFin (m e m' e' : Int) : Int :=
  let c := min e e'
  (m * pow2 (e - c) - m' * pow2 (e' - c)).sign

/-- The exact sum of two finite values. -/
def addFin (m e m' e' : Int) : Int × Int :=
  let c := min e e'
  (m * pow2 (e - c) + m' * pow2 (e' - c), c)

/-- Negation; of an infinity, the other infinity. -/
def Val.neg : Val → Val
  | .fin m e => .fin (-m) e
  | .inf s => .inf (!s)
  | .nan => .nan

/-- Absolute value. -/
def Val.abs : Val → Val
  | .fin m e => .fin m.natAbs e
  | .inf _ => .inf false
  | .nan => .nan

/-- The value times 2 to the power `s`. -/
def Val.scale (v : Val) (s : Int) : Val :=
  match v with
  | .fin m e => .fin m (e + s)
  | v => v

/-- A product (R49): with IV for a NaN input and for 0 times an infinity. -/
def Val.mul : Val → Val → Val × BitVec 4
  | .nan, _ => (.nan, fIV)
  | _, .nan => (.nan, fIV)
  | .fin m e, .fin m' e' => (.fin (m * m') (e + e'), 0)
  | .fin m _, .inf s => if m = 0 then (.nan, fIV) else (.inf (s != decide (m < 0)), 0)
  | .inf s, .fin m _ => if m = 0 then (.nan, fIV) else (.inf (s != decide (m < 0)), 0)
  | .inf s, .inf s' => (.inf (s != s'), 0)

/-- A sum (R49): IV for opposite infinities. -/
def Val.add : Val → Val → Val × BitVec 4
  | .nan, _ => (.nan, 0)
  | _, .nan => (.nan, 0)
  | .fin m e, .fin m' e' => let r := addFin m e m' e'; (.fin r.1 r.2, 0)
  | .fin _ _, .inf s => (.inf s, 0)
  | .inf s, .fin _ _ => (.inf s, 0)
  | .inf s, .inf s' => if s = s' then (.inf s, 0) else (.nan, fIV)

/-- `a` is less than `b`; the infinities order as usual and a NaN is less than nothing (R141). -/
def Val.lt : Val → Val → Bool
  | .fin m e, .fin m' e' => decide (cmpFin m e m' e' < 0)
  | .fin _ _, .inf s => !s
  | .inf s, .fin _ _ => s
  | .inf s, .inf s' => s && !s'
  | _, _ => false

def Val.isNan : Val → Bool
  | .nan => true
  | _ => false

/-- The larger (or, with `low`, the smaller) of two values; `a` when they are equal, NaN when either is (R141). -/
def Val.pick (low : Bool) (a b : Val) : Val :=
  if a.isNan || b.isNan then .nan
  else if low then (if b.lt a then b else a)
  else if a.lt b then b else a

/-! ### Format codes (R33) -/

/-- Fraction bits, bias, exponent bits and largest finite code of a floating format; `inf` tells whether it has
infinities and `nan` is its canonical NaN, if it has one (R33, R51). -/
structure FloatFmt where
  mb : Nat
  bias : Int
  eb : Nat
  maxCode : Nat
  inf : Bool
  nan : Option Nat
  deriving DecidableEq, Repr

def floatFmt (f : Nat) : Option FloatFmt :=
  if f = 6 then some { mb := 1, bias := 1, eb := 2, maxCode := 7, inf := false, nan := none }
  else if f = 7 then some { mb := 3, bias := 7, eb := 4, maxCode := 0x7E, inf := false, nan := some 0x7F }
  else if f = 8 then some { mb := 2, bias := 15, eb := 5, maxCode := 0x7B, inf := true, nan := some 0x7F }
  else if f = 9 then some { mb := 7, bias := 127, eb := 8, maxCode := 0x7F7F, inf := true, nan := some 0x7FC0 }
  else if f = 10 then some { mb := 10, bias := 15, eb := 5, maxCode := 0x7BFF, inf := true, nan := some 0x7E00 }
  else if f = 11 then some { mb := 23, bias := 127, eb := 8, maxCode := 0x7F7FFFFF, inf := true, nan := some 0x7FC00000 }
  else none

/-- Bits of an element of a format: 4, 8, 16, 32 or 64; of a block format, of its elements. -/
def fmtBits (f : Nat) : Nat :=
  if f = 0 ∨ f = 1 ∨ f = 4 ∨ f = 6 then 4
  else if f = 2 ∨ f = 3 ∨ f = 5 ∨ f = 7 ∨ f = 8 then 8
  else if f = 9 ∨ f = 10 then 16
  else if f = 14 then 64
  else 32

/-- Least and greatest value of an integer format. -/
def intRange (f : Nat) : Int × Int :=
  if f = 0 then (-8, 7) else if f = 1 then (0, 15) else if f = 2 then (-128, 127) else if f = 3 then (0, 255)
  else if f = 12 then (-8388608, 8388607) else (-2147483648, 2147483647)

/-- The two's-complement value of the low `w` bits of `n`. -/
def sext (n w : Nat) : Int :=
  let x := n % 2 ^ w
  if 2 * x < 2 ^ w then x else (x : Int) - 2 ^ w

/-- Decoding of a floating element (R38, R40): mantissa and exponent, or its class. -/
def decodeFloat (t : FloatFmt) (n : Nat) : Val :=
  let man := n % 2 ^ t.mb
  let ex := n / 2 ^ t.mb % 2 ^ t.eb
  let neg := decide (n / 2 ^ (t.mb + t.eb) % 2 = 1)
  let body := n % 2 ^ (t.mb + t.eb)
  if t.maxCode < body then (if t.inf && decide (man = 0) then .inf neg else .nan)
  else
    let m : Int := (if ex = 0 then 0 else 2 ^ t.mb) + man
    .fin (if neg then -m else m) (max (ex : Int) 1 - t.bias - t.mb)

/-- A plain element of a stored format: integers, and the floating formats (R33, R38, R39). -/
def decodeElem (f n : Nat) : Val :=
  match floatFmt f with
  | some t => decodeFloat t n
  | none => .fin (if f = 1 ∨ f = 3 then (n % 2 ^ fmtBits f : Nat) else sext n (if f = 12 then 24 else fmtBits f)) 0

/-- An element `s` of a block with shared exponent `x`, whose weight is `w` below that of the exponent (R33, R36). -/
def decodeBlock (x : Nat) (s w : Int) : Val := if x = 255 then .nan else .fin s ((x : Int) - 127 - w)

/-! ### ACC56 (R37) -/

/-- An accumulator: finite with its weight, an infinity, or NaN. -/
def accVal (a : Word) : Val :=
  let e := fld a 56 8
  let m := sext (fld a 0 56) 56
  if e = 255 then
    if m = 2 ^ 55 - 1 then .inf false else if m = -(2 ^ 55) then .inf true else .nan
  else .fin m ((e : Int) - 167)

/-- The encoding of an accumulator value with weight in range (R37). -/
def accWord : Val → Word
  | .fin m c => BitVec.ofNat 64 ((m % 2 ^ 56).toNat + 2 ^ 56 * ((c + 167) % 256).toNat)
  | .inf false => 0xFF7FFFFFFFFFFFFF
  | .inf true => 0xFF80000000000000
  | .nan => 0xFF00000000000000

/-- The accumulator that holds a value entered exactly (R136). -/
def enterAcc : Val → Val
  | .fin m e => if 87 < e then .fin (m * pow2 (e - 87)) 87 else .fin m e
  | v => v

/-- By how many bits a sum `m` beyond the 56 bits of M is rounded: 1 for the 57 bits of R47, more for the wider sums that
products of S32 bus values can give, which are narrowed once (R51). [DEDUCED, unsafe: notes/assumptions/142] -/
def accShift (m : Int) : Nat :=
  let s := Nat.log2 (if m < 0 then -m - 1 else m).toNat - 54
  if roundConv m s = 2 ^ 55 then s + 1 else s

/-- A finite group result `(g, w)` added to a finite accumulator `(m, c)` (R47). -/
def accumulate (m c g w : Int) : Val × BitVec 4 :=
  if g = 0 then (.fin m c, 0)
  else if 87 < w then
    let s := (addFin m c g w).1
    if s = 0 then (.fin 0 c, 0) else (.inf (decide (s < 0)), fOV)
  else
    let r := if c < w then
        let q := roundConv m (w - c).toNat
        (q, w, flagIf (decide (q * pow2 (w - c) ≠ m)) fIX ||| flagIf (decide (m ≠ 0) && decide (q = 0)) fUF)
      else (m, c, 0)
    let m := r.1
    let c := r.2.1
    let a := if w < c then
        let q := roundConv g (c - w).toNat
        (q, flagIf (decide (q * pow2 (c - w) ≠ g)) fIX ||| flagIf (decide (q = 0)) fUF)
      else (g, 0)
    let m := m + a.1
    let fl := r.2.2 ||| a.2
    if 2 ^ 55 ≤ m ∨ m < -(2 ^ 55) then
      let s := accShift m
      let q := roundConv m s
      let fl := fl ||| flagIf (decide (q * 2 ^ s ≠ m)) fIX
      if 87 < c + s then (.inf (decide (q < 0)), fl ||| fOV) else (.fin q (c + s), fl)
    else (.fin m c, fl)

/-- A value of any class added to an accumulator of any class (R47, R49). -/
def accAdd : Val → Val → Val × BitVec 4
  | .nan, _ => (.nan, 0)
  | _, .nan => (.nan, 0)
  | .inf s, .inf s' => if s = s' then (.inf s, 0) else (.nan, fIV)
  | .inf s, .fin _ _ => (.inf s, 0)
  | .fin _ _, .inf s => (.inf s, 0)
  | .fin m c, .fin g w => accumulate m c g w

/-- An accumulator with its weight changed by `d` (R144). -/
def accScale (v : Val) (d : Int) : Val × BitVec 4 :=
  match v with
  | .fin m c =>
    if m = 0 then (v, 0)
    else if 87 < c + d then (.inf (decide (m < 0)), fOV)
    else if c + d < -167 then
      let s := (-167 - (c + d)).toNat
      let q := roundConv m s
      (.fin q (-167), flagIf (decide (q * 2 ^ s ≠ m)) fIX ||| flagIf (decide (q = 0)) fUF)
    else (.fin m (c + d), 0)
  | v => (v, 0)

/-! ### Narrowing (R51, R52) -/

/-- Narrowing to an integer format: rounded at weight 1, then held to the range (R51).
[DEDUCED, unsafe: notes/assumptions/87] -/
def narrowInt (f : Nat) (v : Val) : Int × BitVec 4 :=
  let (lo, hi) := intRange f
  match v with
  | .nan => (0, fIV)
  | .inf s =>
    let r := if s then lo else hi
    (r, fOV ||| fIX ||| flagIf (decide (r = 0)) fUF)
  | .fin m e =>
    let (q, inex) := roundAt m e 0
    let r := if hi < q then hi else if q < lo then lo else q
    let sat := decide (r ≠ q)
    (r, flagIf sat fOV ||| flagIf (inex || sat) fIX ||| flagIf (decide (m ≠ 0) && decide (r = 0)) fUF)

/-- The code of a finite non-negative value in a floating format with the exponent unlimited above, and whether it is
inexact (R51). -/
def floatCode (t : FloatFmt) (m e : Int) : Nat × Bool :=
  if m = 0 then (0, false)
  else
    let w := max (log2Val m e) (1 - t.bias) - t.mb
    let (q, inex) := roundAt m e w
    ((q + (w + t.mb + t.bias - 1) * 2 ^ t.mb).toNat, inex)

/-- Narrowing to a floating format (R51). [DEDUCED, unsafe: notes/assumptions/88] -/
def narrowFloat (t : FloatFmt) (v : Val) : Nat × BitVec 4 :=
  let sign := 2 ^ (t.mb + t.eb)
  let infCode := (2 ^ t.eb - 1) * 2 ^ t.mb
  match v with
  | .nan => match t.nan with
    | some n => (n, 0)
    | none => (0, fIV)
  | .inf s =>
    if t.inf then (infCode + (if s then sign else 0), 0)
    else (t.maxCode + (if s then sign else 0), fOV ||| fIX)
  | .fin m e =>
    let neg := if m < 0 then sign else 0
    let (code, inex) := floatCode t m.natAbs e
    let uf := flagIf (decide (m ≠ 0) && decide (log2Val m e < 1 - t.bias)) fUF
    if t.maxCode < code then ((if t.inf then infCode else t.maxCode) + neg, fOV ||| fIX)
    else (code + neg, uf ||| flagIf inex fIX)

/-- Narrowing of one value to a stored element (R51): its bits. -/
def narrowElem (f : Nat) (v : Val) : Nat × BitVec 4 :=
  match floatFmt f with
  | some t => narrowFloat t v
  | none =>
    let (r, fl) := narrowInt f v
    ((r % 2 ^ (if f = 12 then 32 else fmtBits f)).toNat, fl)

/-- Elements of a block rounded at the weight of shared exponent `x` (R52). -/
def blockAt (w : Int) (lim : Int) (x : Int) (vs : List Val) : List (Int × Bool) :=
  vs.map (fun v => match v with
    | .fin m e =>
      let (q, inex) := roundAt m e (x - 127 - w)
      if lim < q then (lim, true) else if q < -lim then (-lim, true) else (q, inex)
    | .inf s => (if s then -lim else lim, true)
    | .nan => (0, false))

/-- Some element rounds beyond the limit at exponent `x`. -/
def blockOver (w lim x : Int) (vs : List Val) : Bool :=
  vs.any (fun v => match v with
    | .fin m e => decide (lim < ((roundAt m e (x - 127 - w)).1).natAbs)
    | _ => false)

/-- Narrowing of a vector to one shared exponent (R52): `t` of the rule, the weight `w` of an element below the exponent,
and the largest element `lim`. The exponent, the elements and the flags. [DEDUCED, unsafe: notes/assumptions/89] -/
def narrowBlock (t w lim : Int) (vs : List Val) : Nat × List Int × BitVec 4 :=
  let mags := vs.filterMap (fun v => match v with
    | .fin m e => if m = 0 then none else some (log2Val m e)
    | _ => none)
  if vs.any (·.isNan) then (255, vs.map (fun _ => 0), 0)
  else
    let anyInf := vs.any (fun v => match v with | .inf _ => true | _ => false)
    let x0 : Int := match mags with
      | [] => 0
      | e :: es => es.foldl max e - t + 127
    let x1 := if blockOver w lim x0 vs then x0 + 1 else x0
    let x2 := if blockOver w lim x1 vs then x1 + 1 else x1
    let top := anyInf || decide (254 < x2)
    let x : Int := if top then 254 else max 0 x2
    let es := blockAt w lim x vs
    let lostAny := (vs.zip es).any (fun p => match p.1 with
      | .fin m _ => decide (m ≠ 0) && decide (p.2.1 = 0)
      | _ => false)
    (x.toNat, es.map (·.1),
      flagIf top (fOV ||| fIX) ||| flagIf (es.any (·.2)) fIX ||| flagIf lostAny fUF)

/-- Block-24 narrowing: Q1.23 elements (R36, R52). -/
def narrow24 (vs : List Val) : Nat × List Int × BitVec 4 := narrowBlock 0 23 8388607 vs

/-! ### Residues (R73) -/

/-- The residue of an integer mod 7. -/
def residue (v : Int) : Nat := (v % 7).toNat

end Sys2Proof.Machine
end

