-- ==== Sys2Proof/Machine/Store.lean ====
section
/-!
DEFINITION. Sparse maps and byte memories: the named reads and writes that keep the canonical form.
-/
namespace Sys2Proof.Machine

/-- The value listed for key `k`, if any. -/
def mapFind {α : Type} : SMap α → Nat → Option α
  | [], _ => none
  | (k', v) :: m, k => if k' = k then some v else mapFind m k

/-- The value at key `k`, where an unlisted key reads as `dflt`. -/
def mapGet {α : Type} (dflt : α) (m : SMap α) (k : Nat) : α := (mapFind m k).getD dflt

/-- `m` with key `k` set to `v`; the value `dflt` that an unlisted key reads as removes the entry. -/
def mapPut {α : Type} [DecidableEq α] (dflt : α) (m : SMap α) (k : Nat) (v : α) : SMap α :=
  m.filter (fun e => decide (e.1 < k)) ++ (if v = dflt then [] else [(k, v)]) ++
    m.filter (fun e => decide (k < e.1))

/-- `m` without the keys from `lo` up to and excluding `hi`. -/
def mapClear {α : Type} (m : SMap α) (lo hi : Nat) : SMap α :=
  m.filter (fun e => decide (e.1 < lo ∨ hi ≤ e.1))

/-- The canonical form: keys strictly rising, no entry equal to the default of its key. -/
def mapWf {α : Type} [DecidableEq α] (dflt : Nat → α) (m : SMap α) : Bool :=
  decide (m.Pairwise (fun a b => a.1 < b.1)) && m.all (fun e => decide (e.2 ≠ dflt e.1))

/-- The byte at address `a`; an unlisted byte reads 0. [DESIGN CHOICE, unsafe: notes/assumptions/5] -/
def memByte (m : Mem) (a : Nat) : Byte := mapGet 0 m a

/-- The cells that hold the bytes `bs` from address `a` on. -/
def memCells : Nat → List Byte → Mem
  | _, [] => []
  | a, b :: bs => if b = 0 then memCells (a + 1) bs else (a, b) :: memCells (a + 1) bs

/-- `m` with the bytes `bs` written from address `a` on. -/
def memWrite (m : Mem) (a : Nat) (bs : List Byte) : Mem :=
  m.filter (fun e => decide (e.1 < a)) ++ memCells a bs ++ m.filter (fun e => decide (a + bs.length ≤ e.1))

/-- The `n` bytes from address `a` on. -/
def memRead (m : Mem) (a : Nat) : Nat → List Byte
  | 0 => []
  | n + 1 => memByte m a :: memRead m (a + 1) n

/-- The canonical form of a memory: addresses strictly rising, no listed byte 0. -/
def memWf (m : Mem) : Bool := mapWf (fun _ => (0 : Byte)) m

end Sys2Proof.Machine
end

