-- ==== Sys2Proof/Machine/Regs.lean ====
section
/-!
DEFINITION. The register index (R495, and the register tables of every chapter): the BAR0 offset of each register, its
reset value, and which of its bits a host write sets, clears, sets to 1 or acts on (R9).
-/
namespace Sys2Proof.Machine

open Sys2Proof

namespace Reg

/-- BFY_ID -/
def bfyId : Nat := 0x0
/-- BFY_GCYC -/
def bfyGcyc : Nat := 0x10
/-- KEP_STATUS -/
def kepStatus : Nat := 0x100000
/-- KEP_MB_CMD -/
def kepMbCmd : Nat := 0x100008
/-- KEP_MB_STATUS -/
def kepMbStatus : Nat := 0x100010
/-- KEP_FW_VERSION -/
def kepFwVersion : Nat := 0x100018
/-- KEP_CMD_CNT -/
def kepCmdCnt : Nat := 0x100020
/-- KEP_UPDATE_CNT -/
def kepUpdateCnt : Nat := 0x100028
/-- KEP_UPDATE_FAIL_CNT -/
def kepUpdateFailCnt : Nat := 0x100030
/-- KEP_ACTIVATE_CNT -/
def kepActivateCnt : Nat := 0x100038
/-- KEP_REVERT_CNT -/
def kepRevertCnt : Nat := 0x100040
/-- KEP_BPR_REPAIR_CNT -/
def kepBprRepairCnt : Nat := 0x100048
/-- KEP_MB_DATA -/
def kepMbData (i : Nat) : Nat := 0x101000 + 0x8 * i
/-- CFG_CTL -/
def cfgCtl : Nat := 0x180000
/-- CFG_STATUS -/
def cfgStatus : Nat := 0x180008
/-- CFG_SRC_ADDR -/
def cfgSrcAddr : Nat := 0x180010
/-- CFG_SRC_LEN -/
def cfgSrcLen : Nat := 0x180018
/-- CFG_STARTUP -/
def cfgStartup : Nat := 0x180020
/-- CFG_ERR -/
def cfgErr : Nat := 0x180028
/-- CFG_ERR_LOC -/
def cfgErrLoc : Nat := 0x180030
/-- CFG_SLOT_ERR -/
def cfgSlotErr : Nat := 0x180038
/-- CFG_DESIGN_ID -/
def cfgDesignId : Nat := 0x180040
/-- CFG_REGION_VALID -/
def cfgRegionValid : Nat := 0x180048
/-- CFG_RB_ADDR -/
def cfgRbAddr : Nat := 0x180050
/-- CFG_RB_STATUS -/
def cfgRbStatus : Nat := 0x180058
/-- CFG_LOAD_CNT -/
def cfgLoadCnt : Nat := 0x180080
/-- CFG_LOAD_FAIL_CNT -/
def cfgLoadFailCnt : Nat := 0x180088
/-- CFG_HDR_REFUSE_CNT -/
def cfgHdrRefuseCnt : Nat := 0x180090
/-- CFG_SLOT_REFUSE_CNT -/
def cfgSlotRefuseCnt : Nat := 0x180098
/-- CFG_FRAME_CNT -/
def cfgFrameCnt : Nat := 0x1800A0
/-- CFG_RB_DATA -/
def cfgRbData (i : Nat) : Nat := 0x190000 + 0x8 * i
/-- CFG_FAB_PLL_STATUS -/
def cfgFabPllStatus : Nat := 0x1C0000
/-- CFG_FAB_BANK_STATUS -/
def cfgFabBankStatus : Nat := 0x1C0008
/-- CFG_FAB_AP_STATUS -/
def cfgFabApStatus : Nat := 0x1C0010
/-- CFG_FAB_BRAM_CORR_CNT -/
def cfgFabBramCorrCnt : Nat := 0x1C0020
/-- CFG_FAB_BRAM_UNCORR_CNT -/
def cfgFabBramUncorrCnt : Nat := 0x1C0028
/-- CFG_FAB_PLL_UNLOCK_CNT -/
def cfgFabPllUnlockCnt : Nat := 0x1C0030
/-- CFG_FAB_AP_CHK_CNT -/
def cfgFabApChkCnt : Nat := 0x1C0038
/-- CFG_FAB_AP_REFUSE_CNT -/
def cfgFabApRefuseCnt : Nat := 0x1C0040
/-- CFG_FAB_LANEl_STATUS -/
def cfgFabLaneStatus (i : Nat) : Nat := 0x1C1000 + 0x40 * i
/-- CFG_FAB_LANEl_TEST -/
def cfgFabLaneTest (i : Nat) : Nat := 0x1C1008 + 0x40 * i
/-- CFG_FAB_LANEl_FEC_CORR_CNT -/
def cfgFabLaneFecCorrCnt (i : Nat) : Nat := 0x1C1010 + 0x40 * i
/-- CFG_FAB_LANEl_FEC_UNCORR_CNT -/
def cfgFabLaneFecUncorrCnt (i : Nat) : Nat := 0x1C1018 + 0x40 * i
/-- CFG_FAB_LANEl_PRBS_BITS -/
def cfgFabLanePrbsBits (i : Nat) : Nat := 0x1C1020 + 0x40 * i
/-- CFG_FAB_LANEl_PRBS_ERR -/
def cfgFabLanePrbsErr (i : Nat) : Nat := 0x1C1028 + 0x40 * i
/-- HIF_CTL -/
def hifCtl : Nat := 0x200000
/-- HIF_STATUS -/
def hifStatus : Nat := 0x200008
/-- HIF_BAR2_BASE -/
def hifBar2Base : Nat := 0x200010
/-- HIF_RR_ACCEPT_CNT -/
def hifRrAcceptCnt : Nat := 0x200040
/-- HIF_RR_REJECT_CNT -/
def hifRrRejectCnt : Nat := 0x200048
/-- HIF_DB_DROP_CNT -/
def hifDbDropCnt : Nat := 0x200050
/-- HIF_WR_DISCARD_CNT -/
def hifWrDiscardCnt : Nat := 0x200058
/-- HIF_IN_FAIL_CNT -/
def hifInFailCnt : Nat := 0x200060
/-- HIF_POIS_RX_CNT -/
def hifPoisRxCnt : Nat := 0x200068
/-- HIF_POIS_CPL_CNT -/
def hifPoisCplCnt : Nat := 0x200070
/-- HIF_VF_DENY_CNT -/
def hifVfDenyCnt : Nat := 0x200078
/-- HIF_VF_BAR2_BASEv -/
def hifVfBar2Base (i : Nat) : Nat := 0x201000 + 0x8 * i
/-- HIF_RINGr_BASE -/
def hifRingBase (i : Nat) : Nat := 0x210000 + 0x40 * i
/-- HIF_RINGr_CTL -/
def hifRingCtl (i : Nat) : Nat := 0x210008 + 0x40 * i
/-- HIF_RINGr_PTR -/
def hifRingPtr (i : Nat) : Nat := 0x210010 + 0x40 * i
/-- HIF_RINGr_STATUS -/
def hifRingStatus (i : Nat) : Nat := 0x210018 + 0x40 * i
/-- HIF_RINGr_SEQ -/
def hifRingSeq (i : Nat) : Nat := 0x210020 + 0x40 * i
/-- LNT_CTL -/
def lntCtl : Nat := 0x300000
/-- LNT_STATUS -/
def lntStatus : Nat := 0x300008
/-- LNT_ABORT -/
def lntAbort : Nat := 0x300010
/-- LNT_TASK_CNT -/
def lntTaskCnt : Nat := 0x300018
/-- LNT_POISON_CNT -/
def lntPoisonCnt : Nat := 0x300020
/-- LNT_RESTART_CNT -/
def lntRestartCnt : Nat := 0x300028
/-- LNT_ABORT_CNT -/
def lntAbortCnt : Nat := 0x300030
/-- LNT_FAULT_CNT -/
def lntFaultCnt : Nat := 0x300038
/-- LNT_REFUSE_CNT -/
def lntRefuseCnt : Nat := 0x300040
/-- LNT_DELAY_MAX -/
def lntDelayMax : Nat := 0x300048
/-- LNT_SLOT_VALIDk -/
def lntSlotValid (i : Nat) : Nat := 0x300100 + 0x8 * i
/-- QMG_CTL -/
def qmgCtl : Nat := 0x400000
/-- QMG_STATUS -/
def qmgStatus : Nat := 0x400008
/-- QMG_QSEL -/
def qmgQsel : Nat := 0x400010
/-- QMG_QCFG -/
def qmgQcfg : Nat := 0x400018
/-- QMG_QSTAT -/
def qmgQstat : Nat := 0x400020
/-- QMG_SOP -/
def qmgSop : Nat := 0x400028
/-- QMG_FLUSH -/
def qmgFlush : Nat := 0x400030
/-- QMG_POP_SEL -/
def qmgPopSel : Nat := 0x400038
/-- QMG_POP_STATUS -/
def qmgPopStatus : Nat := 0x400040
/-- QMG_POP_META -/
def qmgPopMeta : Nat := 0x400048
/-- QMG_POP_DATA -/
def qmgPopData : Nat := 0x400050
/-- QMG_SPILL -/
def qmgSpill : Nat := 0x400058
/-- QMG_CELLS_IN_CNT -/
def qmgCellsInCnt : Nat := 0x400080
/-- QMG_CELLS_OUT_CNT -/
def qmgCellsOutCnt : Nat := 0x400088
/-- QMG_CORR_CNT -/
def qmgCorrCnt : Nat := 0x400090
/-- QMG_UNCORR_CNT -/
def qmgUncorrCnt : Nat := 0x400098
/-- QMG_CHK_CNT -/
def qmgChkCnt : Nat := 0x4000A0
/-- QMG_TRUNC_CNT -/
def qmgTruncCnt : Nat := 0x4000A8
/-- QMG_NOSPACE_CNT -/
def qmgNospaceCnt : Nat := 0x4000B0
/-- QMG_DISC_BYTE_CNT -/
def qmgDiscByteCnt : Nat := 0x4000B8
/-- QMG_BADLEN_CNT -/
def qmgBadlenCnt : Nat := 0x4000C0
/-- QMG_POP_BUSY_CNT -/
def qmgPopBusyCnt : Nat := 0x4000C8
/-- STE_STATUS -/
def steStatus (i : Nat) : Nat := 0x500000 + 0x10000 * i
/-- STE_WHEEL -/
def steWheel (i : Nat) : Nat := 0x500008 + 0x10000 * i
/-- STE_IDLE_WHEEL -/
def steIdleWheel (i : Nat) : Nat := 0x500010 + 0x10000 * i
/-- STE_RD_UNIT_CNT -/
def steRdUnitCnt (i : Nat) : Nat := 0x500020 + 0x10000 * i
/-- STE_WR_UNIT_CNT -/
def steWrUnitCnt (i : Nat) : Nat := 0x500028 + 0x10000 * i
/-- STE_RM_UNIT_CNT -/
def steRmUnitCnt (i : Nat) : Nat := 0x500030 + 0x10000 * i
/-- STE_DEADLINE_CNT -/
def steDeadlineCnt (i : Nat) : Nat := 0x500038 + 0x10000 * i
/-- STE_TAG_MISS_CNT -/
def steTagMissCnt (i : Nat) : Nat := 0x500040 + 0x10000 * i
/-- STE_CHK_CNT -/
def steChkCnt (i : Nat) : Nat := 0x500048 + 0x10000 * i
/-- STE_PGFAULT_CNT -/
def stePgfaultCnt (i : Nat) : Nat := 0x500050 + 0x10000 * i
/-- STE_CPL_FAULT_CNT -/
def steCplFaultCnt (i : Nat) : Nat := 0x500058 + 0x10000 * i
/-- STE_XLAT_MISS_CNT -/
def steXlatMissCnt (i : Nat) : Nat := 0x500060 + 0x10000 * i
/-- STE_STOP_CNT -/
def steStopCnt (i : Nat) : Nat := 0x500068 + 0x10000 * i
/-- STE_LINK_DROP_CNT -/
def steLinkDropCnt (i : Nat) : Nat := 0x500070 + 0x10000 * i
/-- STE_SC_CORR_CNT -/
def steScCorrCnt (i : Nat) : Nat := 0x500078 + 0x10000 * i
/-- STE_SC_UNCORR_CNT -/
def steScUncorrCnt (i : Nat) : Nat := 0x500080 + 0x10000 * i
/-- STE_PF_CTL -/
def stePfCtl : Nat := 0x500100
/-- STE_PF_HIT_CNT -/
def stePfHitCnt : Nat := 0x500108
/-- STE_PF_MISS_CNT -/
def stePfMissCnt : Nat := 0x500110
/-- STE_TLB_INV -/
def steTlbInv : Nat := 0x500120
/-- STE_TLB_STATUS -/
def steTlbStatus : Nat := 0x500128
/-- STE_PTROOTf -/
def stePtroot (i : Nat) : Nat := 0x500200 + 0x8 * i
/-- STE_THREADt -/
def steThread (i j : Nat) : Nat := 0x501000 + 0x10000 * i + 0x8 * j
/-- HBC_STATUS -/
def hbcStatus (i : Nat) : Nat := 0x600000 + 0x10000 * i
/-- HBC_CTL -/
def hbcCtl (i : Nat) : Nat := 0x600008 + 0x10000 * i
/-- HBC_SUSPECT -/
def hbcSuspect (i : Nat) : Nat := 0x600010 + 0x10000 * i
/-- HBC_CORR_CNT -/
def hbcCorrCnt (i : Nat) : Nat := 0x600020 + 0x10000 * i
/-- HBC_REREAD_OK_CNT -/
def hbcRereadOkCnt (i : Nat) : Nat := 0x600028 + 0x10000 * i
/-- HBC_UNCORR_CNT -/
def hbcUncorrCnt (i : Nat) : Nat := 0x600030 + 0x10000 * i
/-- HBC_CAPAR_CNT -/
def hbcCaparCnt (i : Nat) : Nat := 0x600038 + 0x10000 * i
/-- HBC_WDPAR_CNT -/
def hbcWdparCnt (i : Nat) : Nat := 0x600040 + 0x10000 * i
/-- HBC_REPLAY_CNT -/
def hbcReplayCnt (i : Nat) : Nat := 0x600048 + 0x10000 * i
/-- HBC_LOST_WR_CNT -/
def hbcLostWrCnt (i : Nat) : Nat := 0x600050 + 0x10000 * i
/-- HBC_FWD_CNT -/
def hbcFwdCnt (i : Nat) : Nat := 0x600058 + 0x10000 * i
/-- HBC_PARTIAL_WAIT_CNT -/
def hbcPartialWaitCnt (i : Nat) : Nat := 0x600060 + 0x10000 * i
/-- HBC_MAPw_A -/
def hbcMapA (i : Nat) : Nat := 0x600100 + 0x10 * i
/-- HBC_MAPw_B -/
def hbcMapB (i : Nat) : Nat := 0x600108 + 0x10 * i
/-- HBC_UNMAPPED_CNT -/
def hbcUnmappedCnt : Nat := 0x600140
/-- SNC_CTL -/
def sncCtl : Nat := 0x700000
/-- SNC_STAT_CTL -/
def sncStatCtl : Nat := 0x700008
/-- SNC_STAT_CLR -/
def sncStatClr : Nat := 0x700010
/-- SNC_HDR_DROP_CNT -/
def sncHdrDropCnt : Nat := 0x700020
/-- SNC_RESP_TMO_CNT -/
def sncRespTmoCnt : Nat := 0x700028
/-- SNC_SCHED_CONFLICT_CNT -/
def sncSchedConflictCnt : Nat := 0x700030
/-- SNC_DOME_CONFLICT_CNT -/
def sncDomeConflictCnt : Nat := 0x700038
/-- SNC_GW_HOLD_CNT -/
def sncGwHoldCnt : Nat := 0x700040
/-- SNC_REGi -/
def sncReg (i : Nat) : Nat := 0x700800 + 0x8 * i
/-- SNC_STATi_BYTES -/
def sncStatBytes (i : Nat) : Nat := 0x710000 + 0x100 * i
/-- SNC_STATi_UNITS -/
def sncStatUnits (i : Nat) : Nat := 0x710008 + 0x100 * i
/-- SNC_STATi_LAT_N -/
def sncStatLatN (i : Nat) : Nat := 0x710010 + 0x100 * i
/-- SNC_STATi_LAT_MIN -/
def sncStatLatMin (i : Nat) : Nat := 0x710018 + 0x100 * i
/-- SNC_STATi_LAT_MAX -/
def sncStatLatMax (i : Nat) : Nat := 0x710020 + 0x100 * i
/-- SNC_STATi_LAT_SUM -/
def sncStatLatSum (i : Nat) : Nat := 0x710028 + 0x100 * i
/-- SNC_STATi_HISTb -/
def sncStatHist (i j : Nat) : Nat := 0x710030 + 0x100 * i + 0x8 * j
/-- TUR_LINK_CTL -/
def turLinkCtl (n : Nat) : Nat := 0x800000 + 0x10000 * (n / 8) + 0x1000 * (n % 8)
/-- TUR_LINK_STATUS -/
def turLinkStatus (n : Nat) : Nat := 0x800008 + 0x10000 * (n / 8) + 0x1000 * (n % 8)
/-- TUR_LINK_PEER -/
def turLinkPeer (n : Nat) : Nat := 0x800010 + 0x10000 * (n / 8) + 0x1000 * (n % 8)
/-- TUR_LINK_PEER_EPOCH -/
def turLinkPeerEpoch (n : Nat) : Nat := 0x800018 + 0x10000 * (n / 8) + 0x1000 * (n % 8)
/-- TUR_LINK_TEST -/
def turLinkTest (n : Nat) : Nat := 0x800020 + 0x10000 * (n / 8) + 0x1000 * (n % 8)
/-- TUR_PRBS_CTL -/
def turPrbsCtl (n : Nat) : Nat := 0x800028 + 0x10000 * (n / 8) + 0x1000 * (n % 8)
/-- TUR_PRBS_INJ -/
def turPrbsInj (n : Nat) : Nat := 0x800030 + 0x10000 * (n / 8) + 0x1000 * (n % 8)
/-- TUR_TX_FLIT_CNT -/
def turTxFlitCnt (n : Nat) : Nat := 0x800040 + 0x10000 * (n / 8) + 0x1000 * (n % 8)
/-- TUR_RX_FLIT_CNT -/
def turRxFlitCnt (n : Nat) : Nat := 0x800048 + 0x10000 * (n / 8) + 0x1000 * (n % 8)
/-- TUR_FEC_CORR_CNT -/
def turFecCorrCnt (n : Nat) : Nat := 0x800050 + 0x10000 * (n / 8) + 0x1000 * (n % 8)
/-- TUR_FLIT_BAD_CNT -/
def turFlitBadCnt (n : Nat) : Nat := 0x800058 + 0x10000 * (n / 8) + 0x1000 * (n % 8)
/-- TUR_REPLAY_TX_CNT -/
def turReplayTxCnt (n : Nat) : Nat := 0x800060 + 0x10000 * (n / 8) + 0x1000 * (n % 8)
/-- TUR_REPLAY_OK_CNT -/
def turReplayOkCnt (n : Nat) : Nat := 0x800068 + 0x10000 * (n / 8) + 0x1000 * (n % 8)
/-- TUR_DROP_SCHED_CNT -/
def turDropSchedCnt (n : Nat) : Nat := 0x800070 + 0x10000 * (n / 8) + 0x1000 * (n % 8)
/-- TUR_DROP_DYN_CNT -/
def turDropDynCnt (n : Nat) : Nat := 0x800078 + 0x10000 * (n / 8) + 0x1000 * (n % 8)
/-- TUR_SLOT_MISMATCH_CNT -/
def turSlotMismatchCnt (n : Nat) : Nat := 0x800080 + 0x10000 * (n / 8) + 0x1000 * (n % 8)
/-- TUR_CTRL_BAD_CNT -/
def turCtrlBadCnt (n : Nat) : Nat := 0x800088 + 0x10000 * (n / 8) + 0x1000 * (n % 8)
/-- TUR_ABSENT_CNT -/
def turAbsentCnt (n : Nat) : Nat := 0x800090 + 0x10000 * (n / 8) + 0x1000 * (n % 8)
/-- TUR_TRAIN_FAIL_CNT -/
def turTrainFailCnt (n : Nat) : Nat := 0x800098 + 0x10000 * (n / 8) + 0x1000 * (n % 8)
/-- TUR_LOCK_LOSS_CNT -/
def turLockLossCnt (n : Nat) : Nat := 0x8000A0 + 0x10000 * (n / 8) + 0x1000 * (n % 8)
/-- TUR_PRBS_BITSl -/
def turPrbsBits (n i : Nat) : Nat := 0x800100 + 0x10000 * (n / 8) + 0x1000 * (n % 8) + 0x10 * i
/-- TUR_PRBS_ERRl -/
def turPrbsErr (n i : Nat) : Nat := 0x800108 + 0x10000 * (n / 8) + 0x1000 * (n % 8) + 0x10 * i
/-- TUR_SUMMARY -/
def turSummary (i : Nat) : Nat := 0x808000 + 0x10000 * i
/-- CLU_CTL -/
def cluCtl : Nat := 0x900000
/-- CLU_STATUS -/
def cluStatus : Nat := 0x900008
/-- CLU_ALIGN -/
def cluAlign : Nat := 0x900010
/-- CLU_MC_CTL -/
def cluMcCtl : Nat := 0x900018
/-- CLU_MC_ATTACH -/
def cluMcAttach : Nat := 0x900020
/-- CLU_ALIGN_STEP_CNT -/
def cluAlignStepCnt : Nat := 0x900040
/-- CLU_ALIGN_LOST_CNT -/
def cluAlignLostCnt : Nat := 0x900048
/-- CLU_HOLDOVER_CNT -/
def cluHoldoverCnt : Nat := 0x900050
/-- CLU_CDONE_FALL_CNT -/
def cluCdoneFallCnt : Nat := 0x900058
/-- CLU_NOSTART_CNT -/
def cluNostartCnt : Nat := 0x900060
/-- CLU_MC_DETACH_CNT -/
def cluMcDetachCnt : Nat := 0x900068
/-- CLU_MC_DROP_CNT -/
def cluMcDropCnt : Nat := 0x900070
/-- CLU_MC_BADWR_CNT -/
def cluMcBadwrCnt : Nat := 0x900078
/-- CLU_MC_DETACHEDw -/
def cluMcDetached (i : Nat) : Nat := 0x900100 + 0x8 * i
/-- PWR_CTL -/
def pwrCtl : Nat := 0xA00000
/-- PWR_STATUS -/
def pwrStatus : Nat := 0xA00008
/-- PWR_IDLE -/
def pwrIdle : Nat := 0xA00010
/-- PWR_CAP -/
def pwrCap : Nat := 0xA00018
/-- PWR_ALERT -/
def pwrAlert : Nat := 0xA00020
/-- PWR_ALERT_EN -/
def pwrAlertEn : Nat := 0xA00028
/-- PWR_INPUT -/
def pwrInput : Nat := 0xA00030
/-- PWR_TJ -/
def pwrTj : Nat := 0xA00038
/-- PWR_ENERGY -/
def pwrEnergy : Nat := 0xA00040
/-- PWR_HOLD_GCYC -/
def pwrHoldGcyc : Nat := 0xA00048
/-- PWR_HOLD_CNT -/
def pwrHoldCnt : Nat := 0xA00050
/-- PWR_WAKE_CNT -/
def pwrWakeCnt : Nat := 0xA00058
/-- PWR_TJMAX_CNT -/
def pwrTjmaxCnt : Nat := 0xA00060
/-- PWR_REFCLK_LOST_CNT -/
def pwrRefclkLostCnt : Nat := 0xA00068
/-- ERR_CTL -/
def errCtl : Nat := 0xB00000
/-- ERR_INJ -/
def errInj : Nat := 0xB00008
/-- ERR_FR_CNT -/
def errFrCnt : Nat := 0xB00010
/-- ERR_FR_LAST -/
def errFrLast : Nat := 0xB00018
/-- ERR_RCK_CNT -/
def errRckCnt : Nat := 0xB00020
/-- ERR_POISON_CNT -/
def errPoisonCnt : Nat := 0xB00028
/-- ERR_CORR_CNT -/
def errCorrCnt : Nat := 0xB00030
/-- ERR_UNCORR_CNT -/
def errUncorrCnt : Nat := 0xB00038
/-- ERR_CFG_INTEG_CNT -/
def errCfgIntegCnt : Nat := 0xB00040
/-- ERR_FR -/
def errFr (i j : Nat) : Nat := 0xB40000 + 0x40 * i + 0x8 * j
/-- DBG_TAP_STATUS -/
def dbgTapStatus : Nat := 0xC00000
/-- DBG_BIST_STATUS -/
def dbgBistStatus : Nat := 0xC00008
/-- DBG_BIST_RUN_CNT -/
def dbgBistRunCnt : Nat := 0xC00010
/-- DBG_TAP_DENY_CNT -/
def dbgTapDenyCnt : Nat := 0xC00018
/-- SPR_STATE -/
def sprState (i : Nat) : Nat := 0x1000000 + 0x1000 * i
/-- SPR_FLAGS -/
def sprFlags (i : Nat) : Nat := 0x1000008 + 0x1000 * i
/-- SPR_MX_CAPT -/
def sprMxCapt (i : Nat) : Nat := 0x1000010 + 0x1000 * i
/-- SPR_RCK_CAPT -/
def sprRckCapt (i : Nat) : Nat := 0x1000018 + 0x1000 * i
/-- SPR_RCK_CNT -/
def sprRckCnt (i : Nat) : Nat := 0x1000020 + 0x1000 * i
/-- SPR_POISON_CNT -/
def sprPoisonCnt (i : Nat) : Nat := 0x1000028 + 0x1000 * i
/-- SPR_DRAIN_OVR_CNT -/
def sprDrainOvrCnt (i : Nat) : Nat := 0x1000030 + 0x1000 * i
/-- SPR_ACTIVE_DCLK -/
def sprActiveDclk (i : Nat) : Nat := 0x1000038 + 0x1000 * i
/-- SPR_RCK_INJ -/
def sprRckInj (i : Nat) : Nat := 0x1000040 + 0x1000 * i
/-- SPR_VX_CTL -/
def sprVxCtl (i : Nat) : Nat := 0x1000100 + 0x1000 * i
/-- SPR_VX_STATUS -/
def sprVxStatus (i : Nat) : Nat := 0x1000108 + 0x1000 * i
/-- SPR_VX_FAULT -/
def sprVxFault (i : Nat) : Nat := 0x1000110 + 0x1000 * i
/-- SPR_VX_FAULT_CNT -/
def sprVxFaultCnt (i : Nat) : Nat := 0x1000118 + 0x1000 * i
/-- SPR_TS_CORR_CNT -/
def sprTsCorrCnt (i : Nat) : Nat := 0x1000120 + 0x1000 * i
/-- SPR_TS_UNCORR_CNT -/
def sprTsUncorrCnt (i : Nat) : Nat := 0x1000128 + 0x1000 * i
/-- SPR_TS_CHK_CNT -/
def sprTsChkCnt (i : Nat) : Nat := 0x1000130 + 0x1000 * i
/-- SPR_TS_CONFLICT_CNT -/
def sprTsConflictCnt (i : Nat) : Nat := 0x1000138 + 0x1000 * i
/-- SPR_CS_CORR_CNT -/
def sprCsCorrCnt (i : Nat) : Nat := 0x1000140 + 0x1000 * i
/-- SPR_CS_UNCORR_CNT -/
def sprCsUncorrCnt (i : Nat) : Nat := 0x1000148 + 0x1000 * i
/-- CTX_W0 -/
def ctxW0 (i : Nat) : Nat := 0x2000000 + 0x80 * i
/-- CTX_W1 -/
def ctxW1 (i : Nat) : Nat := 0x2000008 + 0x80 * i
/-- CTX_W2 -/
def ctxW2 (i : Nat) : Nat := 0x2000010 + 0x80 * i
/-- CTX_W3 -/
def ctxW3 (i : Nat) : Nat := 0x2000018 + 0x80 * i
/-- CTX_W4 -/
def ctxW4 (i : Nat) : Nat := 0x2000020 + 0x80 * i
/-- CTX_PT -/
def ctxPt (i j : Nat) : Nat := 0x2000040 + 0x80 * i + 0x8 * j
/-- TLY_VALUE -/
def tlyValue (i : Nat) : Nat := 0x2800000 + 0x4 * i
/-- TLY_TMAP -/
def tlyTmap (i j : Nat) : Nat := 0x2840000 + 0x200 * i + 0x4 * j
/-- TLY_CTL -/
def tlyCtl : Nat := 0x287C000
/-- TLY_STATUS -/
def tlyStatus : Nat := 0x287C008
/-- TLY_HOST_SIG -/
def tlyHostSig : Nat := 0x287C010
/-- TLY_LAST_ERR -/
def tlyLastErr : Nat := 0x287C018
/-- TLY_SIG_CNT -/
def tlySigCnt : Nat := 0x287C020
/-- TLY_SAT_CNT -/
def tlySatCnt : Nat := 0x287C028
/-- TLY_UNMAP_CNT -/
def tlyUnmapCnt : Nat := 0x287C030
/-- TLY_REMOTE_DROP_CNT -/
def tlyRemoteDropCnt : Nat := 0x287C038
/-- TLY_PEND_FULL_CNT -/
def tlyPendFullCnt : Nat := 0x287C040
/-- TLY_FENCE_EXP_CNT -/
def tlyFenceExpCnt : Nat := 0x287C048
/-- TLY_CTX_WDROP_CNT -/
def tlyCtxWdropCnt : Nat := 0x287C050
/-- TLY_CTX_CORR_CNT -/
def tlyCtxCorrCnt : Nat := 0x287C058
/-- TLY_CTX_UNCORR_CNT -/
def tlyCtxUncorrCnt : Nat := 0x287C060

end Reg

/-- A register, or an array of registers, that a host write can act on: offset of the first, up to two array dimensions as
(stride, count), width in bits, and the masks of its RW, W1C, W1S and WO bits (R9). -/
structure RegRow where
  base : Nat
  dims : List (Nat × Nat)
  width : Nat
  rw : Word
  w1c : Word
  w1s : Word
  wo : Word
  deriving DecidableEq, Repr

/-- Registers with bits that a write acts on, part 0 (R9): KEP_MB_CMD, KEP_MB_DATA, CFG_CTL, CFG_SRC_ADDR, CFG_SRC_LEN, CFG_STARTUP, CFG_RB_ADDR, CFG_FAB_PLL_STATUS, CFG_FAB_LANEl_TEST, HIF_CTL, HIF_BAR2_BASE, HIF_VF_BAR2_BASEv, HIF_RINGr_BASE, HIF_RINGr_CTL, HIF_RINGr_STATUS, LNT_CTL, LNT_ABORT, QMG_CTL, QMG_QSEL, QMG_QCFG. -/
def regRows0 : List RegRow := [
  ⟨0x100008, [], 64, 0x0, 0x0, 0x0, 0x8000FFFFFFFFFFFF⟩,
  ⟨0x101000, [(0x8, 512)], 64, 0xFFFFFFFFFFFFFFFF, 0x0, 0x0, 0x0⟩,
  ⟨0x180000, [], 32, 0x30FFFFFF, 0x0, 0x0, 0xC0000000⟩,
  ⟨0x180010, [], 64, 0xFFFFFFFFFFFFFFFF, 0x0, 0x0, 0x0⟩,
  ⟨0x180018, [], 64, 0xFFFFFFFFFFFF, 0x0, 0x0, 0x0⟩,
  ⟨0x180020, [], 32, 0xFF01FF3F, 0x0, 0x0, 0x0⟩,
  ⟨0x180050, [], 64, 0xFFFFFFFFFF, 0x0, 0x0, 0x8000000000000000⟩,
  ⟨0x1C0000, [], 64, 0x0, 0xFFFFFF00000000, 0x0, 0x0⟩,
  ⟨0x1C1008, [(0x40, 16)], 32, 0xF1F80007, 0x0, 0x0, 0xA000000⟩,
  ⟨0x200000, [], 32, 0x8000FFFF, 0x0, 0x0, 0x0⟩,
  ⟨0x200010, [], 64, 0x7FFFFF0000, 0x0, 0x0, 0x0⟩,
  ⟨0x201008, [(0x8, 63)], 64, 0x7FFFFF0000, 0x0, 0x0, 0x0⟩,
  ⟨0x210000, [(0x40, 256)], 64, 0x3FFFFFFFFFFFF000, 0x0, 0x0, 0x0⟩,
  ⟨0x210008, [(0x40, 256)], 64, 0xBF1FFFFF00000000, 0x0, 0x0, 0x0⟩,
  ⟨0x210018, [(0x40, 256)], 64, 0x0, 0xC000000000000000, 0x0, 0x0⟩,
  ⟨0x300000, [], 32, 0xFFFF01FF, 0x0, 0x0, 0x0⟩,
  ⟨0x300010, [], 32, 0x0, 0x0, 0x0, 0xC000FFFF⟩,
  ⟨0x400000, [], 32, 0x7FFFF, 0x0, 0x0, 0x0⟩,
  ⟨0x400010, [], 32, 0xFFFF, 0x0, 0x0, 0x0⟩,
  ⟨0x400018, [], 64, 0xFF00003FFFF87FFF, 0x0, 0x0, 0x0⟩]

/-- Registers with bits that a write acts on, part 1 (R9): QMG_SOP, QMG_FLUSH, QMG_POP_SEL, QMG_SPILL, STE_IDLE_WHEEL, STE_PF_CTL, STE_TLB_INV, STE_PTROOTf, HBC_CTL, HBC_SUSPECT, SNC_CTL, SNC_STAT_CTL, SNC_STAT_CLR, SNC_REGi, TUR_LINK_CTL, TUR_LINK_TEST, TUR_PRBS_CTL, TUR_PRBS_INJ, CLU_CTL, CLU_MC_CTL. -/
def regRows1 : List RegRow := [
  ⟨0x400028, [], 64, 0x0, 0x0, 0x0, 0x8000001FFFFFFFFF⟩,
  ⟨0x400030, [], 32, 0x0, 0x0, 0x0, 0x8000FFFF⟩,
  ⟨0x400038, [], 32, 0xFFFF, 0x0, 0x0, 0x0⟩,
  ⟨0x400058, [], 64, 0x8000FFFFFFFFFFFF, 0x0, 0x0, 0x0⟩,
  ⟨0x500010, [(0x10000, 4)], 32, 0xFFFFFFFF, 0x0, 0x0, 0x0⟩,
  ⟨0x500100, [], 32, 0x800000FF, 0x0, 0x0, 0x0⟩,
  ⟨0x500120, [], 64, 0x0, 0x0, 0x0, 0xFF00FFFFFFFF0000⟩,
  ⟨0x500200, [(0x8, 64)], 64, 0x8000007FFFFFF000, 0x0, 0x0, 0x0⟩,
  ⟨0x600008, [(0x10000, 12)], 32, 0x1, 0x0, 0x0, 0x2⟩,
  ⟨0x600010, [(0x10000, 12)], 32, 0x0, 0xFFFFFFFF, 0x0, 0x0⟩,
  ⟨0x700000, [], 32, 0xFFFFFF, 0x0, 0x0, 0x0⟩,
  ⟨0x700008, [], 32, 0x1, 0x0, 0x0, 0x0⟩,
  ⟨0x700010, [], 32, 0x0, 0x0, 0x0, 0xC00000FF⟩,
  ⟨0x700800, [(0x8, 192)], 64, 0xFFFFFF00FFFFFF, 0x0, 0x0, 0x0⟩,
  ⟨0x800000, [(0x10000, 8), (0x1000, 8)], 32, 0xBD000000, 0x0, 0x0, 0x42000000⟩,
  ⟨0x800020, [(0x10000, 8), (0x1000, 8)], 32, 0x7, 0x0, 0x0, 0x0⟩,
  ⟨0x800028, [(0x10000, 8), (0x1000, 8)], 32, 0xFF000000, 0x0, 0x0, 0x800000⟩,
  ⟨0x800030, [(0x10000, 8), (0x1000, 8)], 32, 0x4000001F, 0x0, 0x0, 0x80000000⟩,
  ⟨0x900000, [], 32, 0xFFFF, 0x0, 0x0, 0x80000000⟩,
  ⟨0x900018, [], 32, 0xFFFFFF, 0x0, 0x0, 0x0⟩]

/-- Registers with bits that a write acts on, part 2 (R9): CLU_MC_ATTACH, PWR_CTL, PWR_IDLE, PWR_CAP, PWR_ALERT, PWR_ALERT_EN, ERR_CTL, ERR_INJ, SPR_RCK_INJ, SPR_VX_CTL, CTX_W0, CTX_PT, TLY_VALUE, TLY_TMAP, TLY_CTL, TLY_HOST_SIG. -/
def regRows2 : List RegRow := [
  ⟨0x900020, [], 32, 0x0, 0x0, 0x0, 0x800000FF⟩,
  ⟨0xA00000, [], 32, 0x2000000F, 0x0, 0x0, 0xC0000000⟩,
  ⟨0xA00010, [], 64, 0xFFFFFFFFFFFFFFFF, 0x0, 0x0, 0x0⟩,
  ⟨0xA00018, [], 32, 0x8007FFFF, 0x0, 0x0, 0x0⟩,
  ⟨0xA00020, [], 32, 0x0, 0x7F, 0x0, 0x0⟩,
  ⟨0xA00028, [], 32, 0x7F, 0x0, 0x0, 0x0⟩,
  ⟨0xB00000, [], 32, 0x8000001F, 0x0, 0x0, 0x0⟩,
  ⟨0xB00008, [], 32, 0xFF, 0x0, 0x80000000, 0x0⟩,
  ⟨0x1000040, [(0x1000, 4096)], 32, 0x3FF, 0x0, 0x80000000, 0x0⟩,
  ⟨0x1000100, [(0x1000, 4096)], 32, 0x800007FF, 0x0, 0x0, 0x40000000⟩,
  ⟨0x2000000, [(0x80, 49152)], 64, 0xFFFF0001FFFF, 0x0, 0x0, 0x0⟩,
  ⟨0x2000040, [(0x80, 49152), (0x8, 8)], 64, 0xFFFFFFFFFFFFFFFF, 0x0, 0x0, 0x0⟩,
  ⟨0x2800000, [(0x4, 65536)], 32, 0xFFFFFFFF, 0x0, 0x0, 0x0⟩,
  ⟨0x2840000, [(0x200, 480), (0x4, 128)], 32, 0xFFFFFFFF, 0x0, 0x0, 0x0⟩,
  ⟨0x287C000, [], 32, 0xFFFFFF, 0x0, 0x0, 0x0⟩,
  ⟨0x287C010, [], 64, 0x0, 0x0, 0x0, 0xFFFFFFFFFFFF⟩]

/-- Every register with bits that a write acts on. -/
def regRows : List RegRow := regRows0 ++ regRows1 ++ regRows2

/-- INIT values that name an initiator (R279). -/
def initAssigned (i : Nat) : Bool := decide (i < 0x50) || (decide (0x80 ≤ i) && decide (i < 0xC0))

/-- The reset value of the register at a BAR0 offset (the Reset columns; 0 where the column gives 0). -/
def regReset (a : Nat) : Word :=
  if a = 0x0 then 0x29560C4B else
  if a = 0x100010 then 0x100 else
  if a = 0x180000 then 0x2710 else
  if a = 0x180020 then 0xA011039 else
  if a = 0x200000 then 0x64 else
  if a = 0x300000 then 0x1770104 else
  if a = 0x400000 then 0x1000 else
  if a = 0x400008 then 0x40000 else
  if a = 0x400040 then 0xFFFFFFFF else
  if 0x500008 ≤ a ∧ a ≤ 0x530008 ∧ (a - 0x500008) % 0x10000 = 0 then 0xFFFFFFFF else
  if 0x500010 ≤ a ∧ a ≤ 0x530010 ∧ (a - 0x500010) % 0x10000 = 0 then 0xFFFFFFFF else
  if a = 0x500100 then 0x80000010 else
  if a = 0x600100 then 0x800D800000000000 else
  if a = 0x600108 then 0xFFF else
  if a = 0x700000 then 0x100000 else
  if 0x700800 ≤ a ∧ a ≤ 0x700DF8 ∧ (a - 0x700800) % 0x8 = 0 ∧ initAssigned ((a - 0x700800) / 0x8) = true then 0x200000000000 else
  if 0x710018 ≤ a ∧ a ≤ 0x71BF18 ∧ (a - 0x710018) % 0x100 = 0 ∧ initAssigned ((a - 0x710018) / 0x100) = true then 0xFFFFFFFFFFFFFFFF else
  if 0x800000 ≤ a ∧ a ≤ 0x877000 ∧ (a - 0x800000) % 0x1000 = 0 ∧ (a - 0x800000) % 0x10000 < 0x8000 then 0xA0000000 else
  if 0x800008 ≤ a ∧ a ≤ 0x877008 ∧ (a - 0x800008) % 0x1000 = 0 ∧ (a - 0x800008) % 0x10000 < 0x8000 then 0x10000000000000 else
  if 0x800028 ≤ a ∧ a ≤ 0x877028 ∧ (a - 0x800028) % 0x1000 = 0 ∧ (a - 0x800028) % 0x10000 < 0x8000 then 0xF000000 else
  if 0x808000 ≤ a ∧ a ≤ 0x878000 ∧ (a - 0x808000) % 0x10000 = 0 then 0xFF00 else
  if a = 0x900000 then 0x10 else
  if a = 0x900018 then 0xC350 else
  if a = 0xA00000 then 0x3 else
  if a = 0xA00008 then 0x1 else
  if a = 0xA00010 then 0x27100000C350 else
  if a = 0xA00018 then 0x960 else
  if a = 0xA00028 then 0x7F else
  if a = 0xB00018 then 0xFFFF else
  if a = 0xC00000 then 0x1000000 else
  if 0x1000000 ≤ a ∧ a ≤ 0x1FFF000 ∧ (a - 0x1000000) % 0x1000 = 0 then 0x3 else
  if a = 0x287C000 then 0x186A0 else
  0

end Sys2Proof.Machine
end

