-- ==== Sys2Proof/Machine/Ops.lean ====
section
/-!
DEFINITION. The operations that every block shares: reading and writing registers, time, power requests, what is sent to
the host, and the treatment of errors (R9, R15, R28, R455, R461, R468 - R478).
-/
namespace Sys2Proof.Machine

open Sys2Proof

/-- The register at BAR0 offset `a`. -/
def Device.reg (d : Device) (a : Nat) : Word := (mapFind d.regs a).getD (regReset a)

/-- The device with the register at `a` set to `v`. -/
def Device.setReg (d : Device) (a : Nat) (v : Word) : Device := { d with regs := mapPut (regReset a) d.regs a v }

/-- A field of the register at `a`. -/
def Device.regF (d : Device) (a lo w : Nat) : Nat := fld (d.reg a) lo w

/-- A bit of the register at `a`. -/
def Device.regBit (d : Device) (a i : Nat) : Bool := bit (d.reg a) i

/-- The device with a field of the register at `a` set. -/
def Device.setF (d : Device) (a lo w x : Nat) : Device := d.setReg a (putFld (d.reg a) lo w x)

/-- The device with `n` added to the counter at `a` (R15). -/
def Device.bump (d : Device) (a n : Nat) : Device := d.setReg a (d.reg a + BitVec.ofNat 64 n)

/-- The device with `o` added to what it has sent. -/
def Device.emit (d : Device) (o : Output) : Device := { d with out := d.out ++ [o] }

/-- The value of the global cycle counter (R455). -/
def Device.now (d : Device) : Nat := d.belfry.gcyc

/-- A free value of `w` bits, and the device that has taken it. -/
def Device.takeFree (d : Device) (w : Nat) : BitVec w × Device :=
  (BitVec.ofNat w (Config.freeValue d.freeIx), { d with freeIx := d.freeIx + 1 })

/-- The register with the fields of `fs` set, each given as lowest bit, width and value. -/
def Device.setFs (d : Device) (a : Nat) : List (Nat × Nat × Nat) → Device
  | [] => d
  | (lo, w, x) :: fs => (d.setF a lo w x).setFs a fs

/-- A 64-bit register after a write of one or both of its 32-bit halves (R14): bits of `mask` take the written value. -/
def mergeWord (old new mask : Word) (h : Half) : Word :=
  let lanes : Word := match h with
    | .low => 0x00000000FFFFFFFF
    | .high => 0xFFFFFFFF00000000
    | .both => 0xFFFFFFFFFFFFFFFF
  (old &&& ~~~(mask &&& lanes)) ||| (new &&& (mask &&& lanes))

/-! ### Time -/

/-- READY tasks that wait under a hold (R462): each gcyc of theirs is counted. [DEDUCED, unsafe: notes/assumptions/11] -/
def Device.heldTasks (d : Device) : Nat :=
  if d.regF Reg.pwrStatus 8 5 = 0 then 0 else (d.lantern.tasks.filter (fun t => t.state == .ready)).length

/-- The number of the present clock of the block that holds the register at `a`: the Belfry's is 20 gcyc long, every other
register with W1C bits is told apart by gcyc (R16, R19). [DESIGN CHOICE, unsafe: notes/assumptions/144] -/
def Device.blockClock (d : Device) (a : Nat) : Nat := if 0xA00000 ≤ a ∧ a < 0xA10000 then d.now / 20 else d.now

/-- A hardware event sets the bits `m` of the register at `a`, and they stay set through this clock (R16). -/
def Device.raise (d : Device) (a : Nat) (m : Word) : Device :=
  { d.setReg a (d.reg a ||| m) with
    justSet := (a, d.blockClock a, m) :: d.justSet.filter (fun e => e.2.1 == d.blockClock e.1) }

/-- Bits of the register at `a` that a hardware event has set in the present clock. -/
def Device.raised (d : Device) (a : Nat) : Word :=
  d.justSet.foldl (fun w e => if e.1 = a ∧ e.2.1 = d.blockClock a then w ||| e.2.2 else w) 0

/-- A write of 1s to W1C bits clears those that no event sets in the same clock (R9, R16). -/
def Device.clearBits (d : Device) (a : Nat) (m : Word) : Device := d.setReg a (d.reg a &&& ~~~(m &&& ~~~d.raised a))

/-! ### Power requests -/

/-- PWR_STATUS.STATE (R467). -/
def Device.power (d : Device) : Nat := d.regF Reg.pwrStatus 0 3

def Device.setPower (d : Device) (x : Nat) : Device := d.setF Reg.pwrStatus 0 3 x

/-- gcyc of a wake from a power state (R459). [DEDUCED, unsafe: notes/assumptions/18] -/
def wakeTime (from_ : Nat) : Nat :=
  if from_ = 1 then 100 else if from_ = 2 then 20000 else if from_ = 3 then 2000000 else 0

/-- A wake of the clocks to Run or to Warm is requested (R460, R461): it begins at once, or runs in full after an entry
to a lower state that is in progress. -/
def Device.requestWake (d : Device) (toRun : Bool) : Device :=
  let p := d.power
  if p = 0 then d
  else if p = 6 then
    { d with belfry := { d.belfry with wake := d.belfry.wake.map (fun w => { w with toRun := w.toRun || toRun }) } }
  else if p = 4 ∨ p = 5 then
    { d with belfry := { d.belfry with
        wake := some { toRun := toRun || (d.belfry.wake.elim false (·.toRun)), done := none, standby := false } } }
  else if p = 1 ∧ toRun = false then d
  else
    let d := (d.bump Reg.pwrWakeCnt 1).setPower 6
    { d with belfry := { d.belfry with wake := some { toRun := toRun, done := some (d.now + wakeTime p), standby := decide (p = 3) } } }

/-! ### What is sent to the host -/

/-- The state of PCIe function `f`. -/
def Device.func (d : Device) (f : Nat) : Func := mapGet Func.initial d.hif.funcs f

def Device.setFunc (d : Device) (f : Nat) (x : Func) : Device :=
  { d with hif := { d.hif with funcs := mapPut Func.initial d.hif.funcs f x } }

/-- The endpoint issues requests for function `f` (R379, R381). -/
def Device.canIssue (d : Device) (f : Nat) : Bool :=
  d.regBit Reg.hifStatus 31 && (d.func f).busMaster && !d.hif.hold

/-- Host addresses of function `f` are translated by ATS (R380). -/
def Device.usesAts (d : Device) (f : Nat) : Bool := d.regBit Reg.hifCtl 31 && (d.func f).ats

/-- The held translation for an access of function `f` to address `a` (R380; pages of 4 KiB).
[PRESUMED, unsafe: notes/assumptions/26] -/
def Device.atsFind (d : Device) (f a : Nat) : Option AtsEntry :=
  d.hif.ats.find? (fun e => e.func == f && e.page == a / 4096)

/-- The PASID that the requests for a ring's tasks carry (R363). -/
def Device.pasid (d : Device) (ring : Nat) : Option Nat :=
  if d.regBit (Reg.hifRingCtl ring) 52 then some (d.regF (Reg.hifRingCtl ring) 32 20) else none

/-- A request of function `f` to host address `a` can be issued now, or once its translation has come (R379, R380). -/
def Device.hostOk (d : Device) (f a : Nat) (write : Bool) : Bool :=
  d.canIssue f && (!d.usesAts f || (d.atsFind f a).elim true (fun e => if write then e.write else e.read))

/-- A posted request: no read. -/
def HostRequest.posted : HostRequest → Bool
  | .read _ _ => false
  | _ => true

/-- A posted request of function `f` is held for its translation: later posted ones of the function wait behind it (R22). -/
def Device.postedHeld (d : Device) (f : Nat) : Bool := d.hif.held.any (fun h => h.func == f && h.request.posted)

def Device.holdRequest (d : Device) (h : AtsHeld) : Device := { d with hif := { d.hif with held := d.hif.held ++ [h] } }

/-- A posted write of function `f` to host memory: issued, held for its translation or behind an earlier posted request, or
discarded and counted (R22, R363, R379, R380). -/
def Device.hostWrite (d : Device) (f : Nat) (pasid : Option Nat) (a : Nat) (bs : List Byte) (ep : Bool) : Device :=
  if d.hostOk f a true = false then d.bump Reg.hifWrDiscardCnt 1
  else if d.usesAts f then
    match d.atsFind f a with
    | some e =>
      if d.postedHeld f then d.holdRequest { func := f, pasid := pasid, addr := a, request := .write bs ep }
      else d.emit (.hostWrite f pasid (e.target * 4096 + a % 4096) bs ep)
    | none => (d.emit (.atsRequest f a)).holdRequest { func := f, pasid := pasid, addr := a, request := .write bs ep }
  else d.emit (.hostWrite f pasid a bs ep)

/-- A read of host memory is issued, or held for its translation; the answer is whether it could be (R379, R380). -/
def Device.hostRead (d : Device) (f : Nat) (pasid : Option Nat) (a n : Nat) (what : HostReadFor) : Device × Bool :=
  if d.hostOk f a false = false then (d, false)
  else if d.usesAts f then
    match d.atsFind f a with
    | some e => (d.emit (.hostRead f pasid (e.target * 4096 + a % 4096) n), true)
    | none => ((d.emit (.atsRequest f a)).holdRequest { func := f, pasid := pasid, addr := a, request := .read n what }, true)
  else (d.emit (.hostRead f pasid a n), true)

/-- An MSI-X message of function `f`, behind the posted requests of the function that are held (R22, R361, R379).
[DEDUCED, unsafe: notes/assumptions/25] -/
def Device.msix (d : Device) (f vec : Nat) : Device :=
  if d.canIssue f = false then d.bump Reg.hifWrDiscardCnt 1
  else if d.postedHeld f then d.holdRequest { func := f, pasid := none, addr := 0, request := .msix vec }
  else d.emit (.msix f vec)

/-- A control unit is given to a link, to be sent in a free slot or a TX_CTRL slot (R325, R330, R351). -/
def Device.sendControl (d : Device) (link typ : Nat) (words : List Nat) : Device :=
  { d with links := { d.links with ctrl := d.links.ctrl ++ [{ link := link, typ := typ, words := words }] } }

/-! ### Contexts and the task that holds the Dome -/

/-- The device number of this device in its cluster; 0 outside a cluster. -/
def Device.device (d : Device) : Nat := d.cluster.member.elim 0 (·.device)

/-- This device is the master of its cluster, or is in no cluster (R192). -/
def Device.isMaster (d : Device) : Bool := d.cluster.member.elim true (fun m => m.device == m.master)

/-- Context and slot that the record of a task names (R372). -/
def Task.ctx (t : Task) : Nat := fld (wd t.words 0) 0 16
def Task.slot (t : Task) : Nat := fld (wd t.words 0) 16 10

/-- Word `w` of context record `n` (R203). -/
def Device.ctx (d : Device) (n w : Nat) : Word := d.reg (Reg.ctxW0 n + 8 * w)

/-- The owning function of a context (R203). -/
def Device.ctxFunc (d : Device) (n : Nat) : Nat := fld (d.ctx n 0) 0 6

/-- The input queue of a context (R203). -/
def Device.ctxQueue (d : Device) (n : Nat) : Nat := fld (d.ctx n 0) 32 16

/-- The WAITING tasks that satisfy `p` are to be evaluated in gcyc `g` (R215). -/
def Device.noteEval (d : Device) (p : Task → Bool) (g : Nat) : Device :=
  let new := (d.lantern.tasks.filter (fun t => t.state == .waiting && p t)).map (fun t => (t.ctx, g))
  { d with lantern := { d.lantern with evals := d.lantern.evals ++ new.filter (fun e => !d.lantern.evals.contains e) } }

def Device.setRun (d : Device) (r : Option Run) : Device := { d with lantern := { d.lantern with run := r } }

/-- The running task with `f` applied, when there is one. -/
def Device.mapRun (d : Device) (f : Run → Run) : Device := d.setRun (d.lantern.run.map f)

/-- The task that holds the Dome is marked POISONED with a POISON_CAUSE bit 48-55 (R469, R200). -/
def Device.markPoison (d : Device) (causeBit : Nat) : Device :=
  d.mapRun (fun r => { r with poisoned := true, cause := r.cause ||| BitVec.ofNat 8 (2 ^ (causeBit - 48)) })

/-- The task that holds the Dome has consumed a unit made poisoned elsewhere: marked with no cause bit of its own (R469). -/
def Device.markConsumed (d : Device) : Device := d.mapRun (fun r => { r with poisoned := true })

/-- The task holds the Dome from its start cycle to its completion record (R20). -/
def Device.domeHeld (d : Device) : Bool := d.lantern.run.elim false (fun r => r.start.elim false (fun s => decide (s ≤ d.now)))

/-- Poison found in data that no task consumed before: the task is marked, with cause bit [49] when no bit is set (R469). -/
def causeOrDefault (r : Run) : BitVec 8 := if r.poisoned && r.cause == 0 then 2 else r.cause

/-! ### Errors -/

/-- A word or unit corrected: its block's counter and ERR_CORR_CNT (R473, R481). -/
def Device.corrected (d : Device) (cnt : Nat) : Device := (d.bump cnt 1).bump Reg.errCorrCnt 1

/-- A word or unit first made poisoned by a source of cause bit [49]: its counter and ERR_UNCORR_CNT (R473, R481). -/
def Device.uncorrected (d : Device) (cnt : Nat) : Device := (d.bump cnt 1).bump Reg.errUncorrCnt 1

/-- What SECDED found in an access is counted word by word: corrected words in the counter `corr`, uncorrectable ones in
`uncorr` (R117, R235, R303, R473, R481). -/
def Device.eccCount (d : Device) (corr uncorr : Nat) (e : Ecc) : Device :=
  let d := if e.fixed = 0 then d else (d.bump corr e.fixed).bump Reg.errCorrCnt e.fixed
  if e.bad = 0 then d else (d.bump uncorr e.bad).bump Reg.errUncorrCnt e.bad

/-- A unit of poisoned zeros, with the check of 64 zero bytes (R471). -/
def poisonUnit : DUnit := { data := 0, check := zeroCheck, pois := true }

/-- A unit of unpoisoned zeros. -/
def zeroUnit : DUnit := { data := 0, check := zeroCheck, pois := false }

/-- A unit whose check is computed here (R32). -/
def freshUnit (v : Line) : DUnit := { data := v, check := lineCheck v, pois := false }

/-- The check of a unit that is not poisoned holds (R283). -/
def unitOk (u : DUnit) : Bool := u.pois || lineCheck u.data == u.check

/-- Word `k` of fault record `i` (R475). -/
def faultWord (i k : Nat) : Nat := Reg.errFr i k

/-- The fault records of the gcyc in progress. -/
def Device.faultsNow (d : Device) : FaultLog :=
  let l := d.lantern.faults
  let n := (d.reg Reg.errFrCnt).toNat
  if l.at_ = d.now ∧ l.base + l.entries.length = n then l else { at_ := d.now, base := n, entries := [] }

/-- A record takes its place among those of its gcyc: ascending KIND, then ascending Spire, link, stack or thread (R477). -/
def insertFault (e : FaultEntry) (l : List FaultEntry) : List FaultEntry :=
  let early := l.takeWhile (fun x => decide (x.kind < e.kind ∨ (x.kind = e.kind ∧ x.unit ≤ e.unit)))
  early ++ e :: l.drop early.length

/-- The records of a gcyc stand in the array from index `base` on, modulo its size (R475, R477). -/
def Device.putFaults (d : Device) (l : FaultLog) : Device :=
  (List.range l.entries.length).foldl (fun d k =>
    (List.range 8).foldl (fun d w =>
      d.setReg (faultWord ((l.base + k) % 4096) w) (((l.entries[k]?).elim [] (·.words)).getD w 0)) d)
    { d with lantern := { d.lantern with faults := l } }

/-- FIRST_FAULT of the task that holds the Dome follows the order of the records of this gcyc (R478). -/
def Device.noteFirstFault (d : Device) : Device :=
  let l := d.lantern.faults
  d.mapRun (fun r => match l.entries.findIdx? (fun e => e.task == some r.task) with
    | some k => { r with firstFault := some ((l.base + k) % 4096) }
    | none => r)

/-- A fault record of KIND `kind` is written (R475 - R477): `f0` gives the kind's own fields of F0; CONTEXT, SLOT and NO_TASK
come from the task that holds the Dome, and F6 from `g`; `unit` orders it among the records of its kind and gcyc. It may be
FIRST_FAULT of the task unless an earlier gcyc gave one (R478). [DEDUCED, unsafe: notes/assumptions/183] -/
def Device.faultRecord (d : Device) (kind unit : Nat) (f0 : List (Nat × Nat)) (f1 f2 f3 f4 f5 : Word) (g : Nat) (f7 : Word) :
    Device :=
  let l := d.faultsNow
  let task := d.lantern.run.elim [(63, 1)] (fun r => [(32, r.ctx), (48, r.slot)])
  let first := d.lantern.run.bind (fun r =>
    let free := r.firstFault.isNone || l.entries.any (fun e => e.task == some r.task)
    if free && r.start.elim false (fun s => decide (s ≤ g)) then some r.task else none)
  let e : FaultEntry := {
    kind := kind, unit := unit, words := [mkWord ((0, kind) :: f0 ++ task), f1, f2, f3, f4, f5, BitVec.ofNat 64 g, f7],
    task := first }
  let d := (d.putFaults { l with entries := insertFault e l.entries }).noteFirstFault
  let d := (d.bump Reg.errFrCnt 1).setReg Reg.errFrLast (BitVec.ofNat 64 ((l.base + l.entries.length) % 4096))
  if d.regBit Reg.errCtl 31 then d.msix 0 (d.regF Reg.errCtl 0 5) else d

/-- A configuration-integrity event (R474): ERR_CFG_INTEG_CNT, the task marked with a cause bit, and one record of KIND
0x61 for the first event of each source in a task. [DEDUCED, unsafe: notes/assumptions/40] -/
def Device.cfgIntegrity (d : Device) (source where_ opnum causeBit : Nat) : Device :=
  let d := (d.bump Reg.errCfgIntegCnt 1).markPoison causeBit
  match d.lantern.run with
  | none => d
  | some r =>
    if r.cfgSeen.contains source then d
    else
      let d := d.faultRecord 0x61 where_ [(8, source)] (BitVec.ofNat 64 where_) (BitVec.ofNat 64 opnum) 0 0 0 d.now 0
      d.mapRun (fun r => { r with cfgSeen := source :: r.cfgSeen })

/-- The module is powered and not in module reset: its rails are up and MRST_N is high (R457, R458). -/
def Device.alive (d : Device) : Bool := d.belfry.rail == .up && !d.belfry.inReset

/-- A pin-controlling instruction is in force (R487): EXTEST, EXTEST_PULSE, EXTEST_TRAIN, CLAMP or HIGHZ. -/
def Tap.pinControl (t : Tap) : Bool := t.ir == 0 || t.ir == 4 || t.ir == 5 || t.ir == 6 || t.ir == 7

/-- The pins follow the TAP: the core does not see them (R487). -/
def Device.pinsTaken (d : Device) : Bool := d.belfry.rail == .up && d.tap.pinControl

/-- What the pins bring reaches the core, unless they follow the TAP (R487). -/
def Device.pinEvent (d : Device) (f : Device → Device) : Device := if d.pinsTaken then d else f d

/-- The outcome of a command that takes place whatever the state of the supply and of MRST_N: the device after it. -/
def tookAlways (s : State) (f : Device → Device) : Host.Outcome State Fault Refusal := .next { s with dev := f s.dev }

/-- The outcome of a command of the running module: the device after it. Without power, and in module reset, nothing takes
place (R458, R459). -/
def took (s : State) (f : Device → Device) : Host.Outcome State Fault Refusal :=
  tookAlways s (fun d => if d.alive then f d else d)

end Sys2Proof.Machine
end

