-- ==== Sys2Proof/Machine/Units.lean ====
section
/-!
DEFINITION. Memories of 64-byte units with check and poison (R117, R235, R256), where configuration frames lie in
configuration memory (R418), the parts of the schedule store (R178, R179, R420), the interleave map and the local
addresses (R255 - R258, R501).
-/
namespace Sys2Proof.Machine

open Sys2Proof

/-- What a unit that nothing has written holds beside its zero bytes: their check, no poison. -/
def UnitInfo.initial : UnitInfo := { check := zeroCheck, pois := false }

/-- Unit `u` of a store. -/
def Store.unit (m : Store) (u : Nat) : DUnit :=
  let i := mapGet UnitInfo.initial m.info u
  { data := bytesLine (memRead m.bytes (64 * u) 64), check := i.check, pois := i.pois }

/-- The store with unit `u` written. -/
def Store.putUnit (m : Store) (u : Nat) (x : DUnit) : Store :=
  { bytes := memWrite m.bytes (64 * u) (lineBytes x.data),
    info := mapPut UnitInfo.initial m.info u { check := x.check, pois := x.pois } }

/-- The store with units `u` up to `u + n` set to zeros with valid checks. -/
def Store.clearUnits (m : Store) (u n : Nat) : Store :=
  { bytes := mapClear m.bytes (64 * u) (64 * (u + n)), info := mapClear m.info u (u + n) }

/-- Frames of the fabric plane: 48 regions of 6,144 (R418). -/
def fabricFrames : Nat := 48 * 6144

/-- Frames of the Dome plane: 4,096 Spires of 32 (R418). -/
def domeFrames : Nat := 4096 * 32

/-- Frames of the schedule plane: INDEX 0-32,999 (R418). -/
def scheduleFrames : Nat := 33000

/-- Where a frame lies in configuration memory, in frames: fabric plane, Dome plane, schedule plane. -/
def frameIndex (faddr : BitVec 40) : Option Nat :=
  let plane := fld faddr 38 2
  if plane = 0 then
    if fld faddr 13 3 = 0 ∧ fld faddr 22 16 = 0 ∧ fld faddr 16 6 < 48 ∧ fld faddr 0 13 < 6144 then
      some (6144 * fld faddr 16 6 + fld faddr 0 13)
    else none
  else if plane = 1 then
    if fld faddr 5 11 = 0 ∧ fld faddr 28 10 = 0 then some (fabricFrames + 32 * fld faddr 16 12 + fld faddr 0 5)
    else none
  else if plane = 2 then
    if fld faddr 16 22 = 0 ∧ fld faddr 0 16 < scheduleFrames then
      some (fabricFrames + domeFrames + fld faddr 0 16)
    else none
  else none

/-- First byte of the schedule plane in configuration memory. -/
def scheduleBase : Nat := 1024 * (fabricFrames + domeFrames)

/-- `n` bytes of the schedule store from byte `off` on. -/
def Device.schedBytes (d : Device) (off n : Nat) : List Byte := memRead d.cfgMem (scheduleBase + off) n

/-- `n` little-endian words of the schedule store from byte `off` on. -/
def Device.schedWords (d : Device) (off n : Nat) : List Word :=
  let bs := d.schedBytes off (8 * n)
  (List.range n).map (wordAt bs)

/-- The header H0-H7 of slot `s` (R178, R420). -/
def Device.slotHeader (d : Device) (s : Nat) : List Word := d.schedWords (1024 * s) 8

/-- Slot `s` passed its checks and is not being rewritten (R181, R182). -/
def Device.slotValid (d : Device) (s : Nat) : Bool :=
  d.regBit (Reg.lntSlotValid (s / 64)) (s % 64) && !d.lantern.rewriting.contains s

/-- The step record number `i` of a slot whose header is `h`: its words S0 and S1 (R179). -/
def Device.stepRecord (d : Device) (h : List Word) (i : Nat) : Word × Word :=
  let ws := d.schedWords (16 * (fld (wd h 2) 0 21 + i)) 2
  (wd ws 0, wd ws 1)

/-- First byte of the allocation of slot `s` in the schedule store (R420). -/
def Device.allocBase (d : Device) (s : Nat) : Nat := 1024 * fld (wd (d.schedWords (1024 * s + 64) 1) 0) 0 16

/-! ### Where local HBM addresses lie (R255 - R258) -/

/-- Units of a pseudo-channel: 1.125 GiB of 64 bytes (R255). -/
def pcUnits : Nat := 18874368

/-- The stacks of a MASK, in ascending order (R257). -/
def maskStacks (m : Nat) : List Nat := (List.range 12).filter (fun s => m / 2 ^ s % 2 == 1)

/-- Window `w` of the interleave map decodes local address `a` to a unit number over all pseudo-channels, and the byte
within it (R257, R258). -/
def windowDecode (wa wb : Word) (a : Nat) : Option (Nat × Nat) :=
  let base := 65536 * fld wa 0 29
  let size := 65536 * fld wa 29 29
  if bit wa 63 = false ∨ a < base ∨ base + size ≤ a then none
  else
    let grain := 256 * 2 ^ fld wb 12 4
    let active := maskStacks (fld wb 0 12)
    let n := active.length
    let p := 32 * n
    let chunk := (a - base) / grain
    let off := (a - base) % grain
    let pcidx := chunk % p
    let line := chunk / p
    let stack := active.getD (pcidx % n) 0
    let pc := pcidx / n
    let b := 65536 * fld wb 16 14 + line * grain + off
    some ((32 * stack + pc) * pcUnits + b / 64, b % 64)

/-- A local HBM address as a unit number over all pseudo-channels, and the byte within it; none where no enabled window
covers it (R258, R260). -/
def Device.hbmDecode (d : Device) (a : Nat) : Option (Nat × Nat) :=
  (List.range 4).findSome? (fun w => windowDecode (d.reg (Reg.hbcMapA w)) (d.reg (Reg.hbcMapB w)) a)

/-! ### Local addresses (R501) -/

/-- What a local address reaches. -/
inductive LocalSpace
  | hbm (a : Nat) | tile (line : Nat) | regs (off : Nat) | nowhere
  deriving DecidableEq, Repr

/-- R501. -/
def localSpace (a : Nat) : LocalSpace :=
  if a < 0x10000000000 then .hbm a
  else if a < 0x10020000000 then .tile ((a - 0x10000000000) / 64)
  else if 0x20000000000 ≤ a ∧ a < 0x20010000000 then .regs (a - 0x20000000000)
  else .nowhere

/-! ### Tile-store lines at the Dome-network port (R117, R162, R283) -/

/-- Line `l` of the tile stores (2,048 lines a Spire) as the Dome-network port reads it, with what SECDED found word by word:
a line with an uncorrectable word is poisoned zeros, any other goes on with the check and the mark that it has. -/
def Device.domeRead (d : Device) (l : Nat) (e : Ecc) : DUnit × Device :=
  let n := l / 2048
  let d := d.eccCount (Reg.sprTsCorrCnt n) (Reg.sprTsUncorrCnt n) e
  if e.bad ≠ 0 then (poisonUnit, d.markPoison 49) else (d.tile.unit l, d)

/-- A unit that comes over the Dome network, its check verified: one that fails is poisoned zeros, and counts in ERR_UNCORR_CNT
alone. [DEDUCED, unsafe: notes/assumptions/160] -/
def Device.domeTake (d : Device) (u : DUnit) : DUnit × Device :=
  if unitOk u then (u, d) else (poisonUnit, (d.bump Reg.errUncorrCnt 1).markPoison 49)

/-- A unit that comes over the Dome network is stored with the check that it carries, once that has been verified (R117). -/
def Device.domeWrite (d : Device) (l : Nat) (u : DUnit) : Device :=
  let r := d.domeTake u
  { r.2 with tile := r.2.tile.putUnit l r.1 }

end Sys2Proof.Machine
end

