-- ==== Sys2Proof/Machine/SpireOps.lean ====
section
/-!
DEFINITION. Spires: their state, MAINT, the tile store and the coefficient store as VX reaches them, address generation, the
faults of VX, and the legality of its words (R107 - R131, R132 - R157).
-/
namespace Sys2Proof.Machine

open Sys2Proof

def Device.spire (d : Device) (n : Nat) : Spire := mapGet Spire.initial d.dome.spires n

def Device.setSpire (d : Device) (n : Nat) (x : Spire) : Device :=
  { d with dome := { d.dome with spires := mapPut Spire.initial d.dome.spires n x } }

def Device.mapSpire (d : Device) (n : Nat) (f : Spire → Spire) : Device := d.setSpire n (f (d.spire n))

def Device.mapVx (d : Device) (n : Nat) (f : Vx → Vx) : Device := d.mapSpire n (fun s => { s with vx := f s.vx })

def Device.vx (d : Device) (n : Nat) : Vx := (d.spire n).vx

/-- A BIST of a group 0-2 selects every Spire once no task holds the Dome (R489). [DEDUCED, unsafe: notes/assumptions/182] -/
def Device.bistMaint (d : Device) : Bool := d.lantern.run.isNone && d.tap.bist.elim false (fun t => decide (fld t 0 3 ≠ 0))

/-- Spire `n` is in MAINT: from a load of the Dome plane until resets are released, by MAINT_REQ, or selected by a TAP
instruction (R129). -/
def Device.spireMaint (d : Device) (n : Nat) : Bool :=
  d.maintCfg || d.regBit (Reg.sprVxStatus n) 16 || d.tap.selected.contains n || d.bistMaint

/-- Element `i` of a list, the last resort being `x`. -/
def nth {α : Type} (l : List α) (i : Nat) (x : α) : α := l.getD i x

def Vx.dreg (v : Vx) (i : Nat) : DReg := nth v.d i DReg.initial
def Vx.areg (v : Vx) (i : Nat) : AReg := nth v.acc i AReg.initial

/-! ### Values of registers (R108, R109) -/

/-- The values of a D register, lane by lane: d times 2 to the power DE - 150; all NaN where DE is 0xFF. -/
def DReg.vals (r : DReg) : List Val :=
  r.lanes.map (fun x => if r.de = 255 then .nan else .fin (sext x.toNat 24) ((r.de.toNat : Int) - 150))

def AReg.vals (r : AReg) : List Val := r.lanes.map accVal

/-- The bits of a 32-lane mark for which `f` holds. -/
def laneMask (f : Nat → Bool) : BitVec 32 :=
  BitVec.ofNat 32 ((List.range 32).foldl (fun a i => a + (if f i then 2 ^ i else 0)) 0)

/-- A plain or block-24 D register with the values `vs` narrowed into it, and the flags (R108, R124). -/
def toDReg (block : Bool) (vs : List Val) (pois : BitVec 32) : DReg × BitVec 4 :=
  if block then
    let (x, es, fl) := narrow24 vs
    ({ lanes := es.map (fun e => BitVec.ofInt 24 e), bk := true, de := BitVec.ofNat 8 x, pois := pois }, fl)
  else
    let rs := vs.map (narrowInt 12)
    ({ lanes := rs.map (fun r => BitVec.ofInt 24 r.1), bk := false, de := 150, pois := pois },
     rs.foldl (fun f r => f ||| r.2) 0)

/-! ### Flags and faults (R53, R54, R130) -/

/-- The VX flags of Spire `n` are set: bits [11:8] of SPR_FLAGS. -/
def Device.vxFlags (d : Device) (n : Nat) (f : BitVec 4) : Device :=
  if f = 0 then d else d.setF (Reg.sprFlags n) 8 4 ((d.regF (Reg.sprFlags n) 8 4) ||| f.toNat)

/-- The MX flags of Spire `n` are set: bits [3:0] of SPR_FLAGS. -/
def Device.mxFlags (d : Device) (n : Nat) (f : BitVec 4) : Device :=
  if f = 0 then d else d.setF (Reg.sprFlags n) 0 4 ((d.regF (Reg.sprFlags n) 0 4) ||| f.toNat)

/-- Every value that an effect writes is poisoned. -/
def VxEffect.poison : VxEffect → VxEffect
  | .dreg n v => .dreg n { v with pois := BitVec.allOnes 32 }
  | .acc n v => .acc n { v with pois := BitVec.allOnes 32 }
  | .accOp n op vs _ out => .accOp n op vs (BitVec.allOnes 32) out
  | .pointer k n v => .pointer k n v
  | .store ps => .store (ps.map (fun p => (p.1, p.2.1, true)))
  | .conflict => .conflict

/-- The effects of program `id` from dclk `x` on are poisoned (R130). -/
def Vx.poisonFrom (v : Vx) (id x : Nat) : Vx :=
  { v with
    pending := v.pending.map (fun p => if p.prog = id ∧ x ≤ p.due then { p with eff := p.eff.poison } else p),
    prog := v.prog.map (fun q => if q.id = id then { q with faulted := true } else q) }

/-- A fault of VX in Spire `n` at dclk `x`, charged to the instruction at `pc` of program `id` that served DOP `op` (R130). -/
def Device.vxFault (d : Device) (n x kind pc id op : Nat) : Device :=
  let d := (d.bump (Reg.sprVxFaultCnt n) 1).cfgIntegrity 1 n op 51
  let first := !d.regBit (Reg.sprVxFault n) 63
  let d := if first ∨ ((d.vx n).faultAt = x ∧ kind < d.regF (Reg.sprVxFault n) 59 4) then
      (d.setReg (Reg.sprVxFault n) (mkWord [(63, 1), (59, kind), (48, pc), (0, op)])).mapVx n (fun v => { v with faultAt := x })
    else d
  d.mapVx n (fun v => v.poisonFrom id x)

/-! ### The tile store and the coefficient store (R115 - R117) -/

/-- Lines of the tile store of a Spire, over all Spires. -/
def tileLine (n l : Nat) : Nat := 2048 * n + l

/-- What SECDED found in the words of a 64-byte line of an access, whose first word has number `w`. -/
def eccOf (ecc : List (Nat × Nat × Ecc)) (bus w : Nat) : Ecc :=
  match ecc.find? (fun e => e.1 == bus && e.2.1 == w) with
  | some e => e.2.2
  | none => .clean

/-- One 64-bit word of a line as VX reads it: its bytes and its mark (R117). -/
def Device.tileWord (d : Device) (n : Nat) (bs : List Byte) (pois : Bool) (e : Ecc) : (List Byte × Bool) × Device :=
  let d := d.eccCount (Reg.sprTsCorrCnt n) (Reg.sprTsUncorrCnt n) e
  if e.bad ≠ 0 then ((List.replicate bs.length 0, true), d.markPoison 49) else ((bs, pois), d)

/-- The bytes `[off, off + len)` of line `l` of Spire `n` as a VX load takes them, eight at a time, each with its mark. The
line's check is verified over what the line holds, whatever SECDED finds in its words: on a mismatch the whole line is
poisoned zeros (R117). `w` is the number of the first word of the access. [DEDUCED, unsafe: notes/assumptions/91]
[DEDUCED, unsafe: notes/assumptions/161] -/
def Device.loadLine (d : Device) (n l off len bus w : Nat) (ecc : List (Nat × Nat × Ecc)) :
    List (Byte × Bool) × Device :=
  let u := d.tile.unit (tileLine n l)
  let words := (List.range (len / 8))
  let d := if u.pois then d.markConsumed else d
  let bs := (lineBytes u.data).drop off |>.take len
  let r := words.foldl (fun acc i =>
    let (r, d) := acc.2.tileWord n ((bs.drop (8 * i)).take 8) u.pois (eccOf ecc bus (w + i))
    (acc.1 ++ r.1.map (fun b => (b, r.2)), d)) ([], d)
  if unitOk u then r
  else (List.replicate len (0, true), (r.2.uncorrected (Reg.sprTsChkCnt n)).markPoison 49)

/-- Pieces of at most one line of the bytes `[a, a + len)`: line, offset in it, length. -/
def linePieces (a : Nat) : Nat → Nat → List (Nat × Nat × Nat)
  | _, 0 => []
  | 0, _ => []
  | len, fuel + 1 =>
    let n := min len (64 - a % 64)
    (a / 64, a % 64, n) :: linePieces (a + n) (len - n) fuel

/-- `len` bytes from byte `a` of the tile store of Spire `n`, as a VX access over bus `bus` takes them; `w` is the number of their
first word in the access. -/
def Device.loadBytes (d : Device) (n a len bus w : Nat) (ecc : List (Nat × Nat × Ecc)) : List (Byte × Bool) × Device :=
  (linePieces a len 5).foldl (fun acc p =>
    let (bs, d) := acc.2.loadLine n p.1 p.2.1 p.2.2 bus (w + acc.1.length / 8) ecc
    (acc.1 ++ bs, d)) ([], d)

/-- The bytes `bs` over those of `old` from byte `off` on; where there is none, the old one stays. -/
def overlay (old : List Byte) (off : Nat) (bs : List (Option Byte)) : List Byte :=
  old.zipIdx.map (fun o => if o.2 < off then o.1 else (bs.getD (o.2 - off) none).getD o.1)

/-- A piece of at most one line is stored by VX: a computation point, so the check is written anew; what is not written keeps
its share of the line's mark (R32, R117). -/
def Device.storePiece (d : Device) (n a : Nat) (bs : List (Option Byte)) (pois : Bool) : Device :=
  let l := tileLine n (a / 64)
  let u := d.tile.unit l
  let p := pois || (u.pois && decide ((bs.filter (·.isSome)).length < 64))
  let v := bytesLine (overlay (lineBytes u.data) (a % 64) bs)
  if bs.all (·.isNone) then d
  else { d with tile := d.tile.putUnit l { data := v, check := if p then zeroCheck else lineCheck v, pois := p } }

/-- First byte of the coefficient store of Spire `n` in configuration memory: frames 24-31 of the Spire (R418). -/
def coefBase (n : Nat) : Nat := 1024 * (fabricFrames + 32 * n + 24)

/-- First byte of the program store of Spire `n`: frames 8-23 (R418). -/
def progBase (n : Nat) : Nat := 1024 * (fabricFrames + 32 * n + 8)

/-- The word at index `pc` of the program store of Spire `n`. -/
def Device.vxWord (d : Device) (n pc : Nat) : Word :=
  BitVec.ofNat 64 (bytesNat (memRead d.cfgMem (progBase n + 8 * pc) 8))

/-- `k` words of the coefficient store from word `a` on, each with its mark (R116, R117); two share a protected word. -/
def Device.coefWords (d : Device) (n a k : Nat) (ecc : List (Nat × Nat × Ecc)) : List (Nat × Bool) × Device :=
  let found := (ecc.filter (fun e => e.1 == 2 && decide (e.2.1 < (k + 1) / 2))).map (fun e => e.2)
  let d := found.foldl (fun d e =>
    let d := d.eccCount (Reg.sprCsCorrCnt n) (Reg.sprCsUncorrCnt n) e.2
    if e.2.bad ≠ 0 then d.markPoison 49 else d) d
  ((List.range k).map (fun i =>
    if found.any (fun e => e.1 == i / 2 && decide (e.2.bad ≠ 0)) then (0, true)
    else (bytesNat (memRead d.cfgMem (coefBase n + 4 * (a + i)) 4), false)), d)

/-! ### Address generation (R119, R120) -/

/-- The pointer `n` after a modification by `delta`, circular (R120). -/
def Vx.modified (v : Vx) (n : Nat) (delta : Int) (ap : List (BitVec 12)) : BitVec 12 :=
  let al := (nth v.al n 0).toNat
  let len : Int := if al = 0 then 4096 else al
  let ab : Int := (nth v.ab n 0).toNat
  BitVec.ofInt 12 ((ab + (((nth ap n 0).toNat - ab + delta) % len)) % 4096)

/-- The change of a pointer under a mode, for an access unit `z`; mode 0b110 adds AO (R119). -/
def modeDelta (v : Vx) (mode n z : Nat) : Int :=
  if mode = 1 then z else if mode = 2 then -(z : Int) else if mode = 3 then 2 * z else if mode = 4 then -(2 * z : Int)
  else if mode = 5 then 4 * z else if mode = 6 then sext (nth v.ao n 0).toNat 12 else 0

/-- Granules of an access in format `f` (R116). -/
def granules (f : Nat) : Nat := if fmtBits f = 4 then 1 else fmtBits f / 8

/-- First byte in a Spire's tile store of an access of `z` granules over bus 0 (X) or 1 (Y) at address `a` (R115, R116). -/
def busByte (bus z : Nat) (a : BitVec 12) : Nat := 32 * (2048 * bus + (a.toNat % 2048) / z * z)

/-! ### Words and their legality (R133 - R156) -/

/-- The opcode of a word. -/
def opcode (w : VxWord) : Nat := w.opc.toNat

def isD (c : Nat) : Bool := decide (c < 8)
def isAcc (c : Nat) : Bool := c == 8 || c == 9
def isBus (c : Nat) : Bool := c == 10 || c == 11 || c == 12

/-- A specifier that R142 calls Src. -/
def isSrc (c : Nat) : Bool := isD c || isBus c

/-- The word carries an X access, a Y access. -/
def hasX (w : VxWord) : Bool := w.xreg != 15
def hasY (w : VxWord) : Bool := w.yreg != 15

/-- An X or Y load, or store, with register code `c`. -/
def loadX (w : VxWord) (c : BitVec 4) : Bool := w.xreg == c && w.xdir == 0
def loadY (w : VxWord) (c : BitVec 4) : Bool := w.yreg == c && w.ydir == 0
def storeX (w : VxWord) (c : BitVec 4) : Bool := w.xreg == c && w.xdir == 1
def storeY (w : VxWord) (c : BitVec 4) : Bool := w.yreg == c && w.ydir == 1

/-- The word has an ACC56 access, and takes two dclk (R137). -/
def wide (w : VxWord) : Bool := w.mfmt == 14 && (hasX w || hasY w)

/-- The specifier names the value of a bus read in ACC56 form. -/
def accBus (w : VxWord) (c : Nat) : Bool := (c == 10 || c == 11) && w.mfmt == 14

/-- SA, SB and DS are ones that the operation allows (R142). -/
def specsOk (w : VxWord) : Bool :=
  let sa := w.sa.toNat
  let sb := w.sb.toNat
  let ds := w.ds.toNat
  let o := opcode w
  if o = 0x00 then sa == 15 && sb == 15 && ds == 15
  else if o = 0x05 then sa == 15 && sb == 15 && isAcc ds
  else if o = 0x10 then
    sb == 15 && (if isAcc ds then isSrc sa || isAcc sa else isD ds && isSrc sa && !accBus w sa)
  else if o = 0x11 ∨ o = 0x12 ∨ o = 0x13 ∨ o = 0x14 ∨ o = 0x17 then isSrc sa && isSrc sb && isD ds
  else if o = 0x15 ∨ o = 0x16 then isSrc sa && sb == 15 && isD ds
  else if o = 0x18 then (isSrc sa || isAcc sa) && sb == 15 && isD ds
  else if o = 0x20 ∨ o = 0x21 ∨ o = 0x22 then isSrc sa && isSrc sb && isAcc ds
  else if o = 0x23 ∨ o = 0x24 ∨ o = 0x25 then (isSrc sa || isAcc sa) && sb == 15 && isAcc ds
  else if o = 0x26 then sa == 15 && sb == 15 && isAcc ds
  else if o = 0x27 then isD sa && sb == 15 && isAcc ds
  else if o = 0x28 then (sa == 10 || sa == 11) && sb == 12 && isAcc ds
  else if o = 0x30 then isAcc sa && sb == 15 && isD ds
  else if o = 0x38 ∨ o = 0x39 then isAcc sa && sb == 15 && isAcc ds
  else if o = 0x40 then isD sa && (isD sb || sb == 15) && ds == 15
  else if o = 0x41 then sa == 15 && sb == 15 && isD ds
  else if o = 0x42 then sa == 15 && sb == 15 && ds == 15
  else false

/-- An access's register code, direction, pointer and mode are in order (R119, R134, R155). -/
def accessOk (reg dir ap mode : Nat) : Bool :=
  mode != 7 && !(decide (10 ≤ reg) && decide (reg ≤ 13)) &&
    (reg != 15 || (dir == 0 && ap == 0 && mode == 0))

def isPack (o : Nat) : Bool := o == 0x40 || o == 0x41 || o == 0x42

/-- A bus source of the operation has its load or C read (R155). -/
def sourceOk (w : VxWord) (c : Nat) : Bool :=
  if c = 10 then loadX w 14 else if c = 11 then loadY w 14 else if c = 12 then w.ck != 0 else true

/-- MFMT suits a register code of an access (R135, R155). [DEDUCED, unsafe: notes/assumptions/92] -/
def formatOk (w : VxWord) (reg : Nat) (load : Bool) (code : Nat) : Bool :=
  let f := w.mfmt.toNat
  let o := opcode w
  if reg = 15 then true
  else
    f != 15 && (isPack o || !(f == 0 || f == 1 || f == 4 || f == 5 || f == 6)) &&
    (f != 14 || isAcc reg ||
      (load && reg == 14 && (o == 0x10 || o == 0x23 || o == 0x24 || o == 0x25) && w.sa.toNat == code)) &&
    (!load || w.mbk == 0 || (if isD reg then f != 2 && f != 3 else !isAcc reg || f == 12))

/-- Exactly one access, of the direction and with register code 0xE, and none on the other bus (R148 - R150). -/
def soleAccess (w : VxWord) (store : Bool) : Bool :=
  if store then (storeX w 14 && !hasY w) || (storeY w 14 && !hasX w)
  else (loadX w 14 && !hasY w) || (loadY w 14 && !hasX w)

/-- The rules of single operations that R155 names: R139, R142 (MOV), R143, R147, R148, R149, R150 and the reserved bits. -/
def formOk (w : VxWord) : Bool :=
  let o := opcode w
  let f := w.mfmt.toNat
  let nib := f == 0 || f == 1 || f == 6
  !(hasX w && w.xdir == 0 && w.xreg == w.ds && w.xreg != 14) &&
  !(hasY w && w.ydir == 0 && w.yreg == w.ds && w.yreg != 14) &&
  !(hasX w && hasY w && w.xdir == 0 && w.ydir == 0 && w.xreg == w.yreg && w.xreg != 14) &&
  (if o = 0x05 then w.sh.toNat / 32 == 0
   else if o = 0x10 then !isAcc w.ds.toNat || w.sh == 0
   else if o = 0x18 then w.sh == 0 && w.bkr == 0
   else if o = 0x28 then
     (if w.sa = 10 then loadX w 14 && storeY w 14 else loadY w 14 && storeX w 14) &&
       (w.ck == 1 || w.ck == 2) && f == 12 && w.sh == 0 && w.bkr == 0
   else if o = 0x40 then
     soleAccess w true && ((nib && isD w.sb.toNat) || ((f == 4 || f == 5) && w.sb == 15))
   else if o = 0x41 then soleAccess w false && nib && w.mbk == 0 && w.bkr == 0 && w.sh.toNat / 2 == 0
   else if o = 0x42 then soleAccess w true
   else true)

/-- A vector-format word that VX can execute (R155). -/
def vectorLegal (w : VxWord) : Bool :=
  let o := opcode w
  specsOk w && accessOk w.xreg.toNat w.xdir.toNat w.xap.toNat w.xmode.toNat &&
    accessOk w.yreg.toNat w.ydir.toNat w.yap.toNat w.ymode.toNat && w.cmode != 7 && w.ck != 3 &&
    (w.cbk == 0 || w.ck != 0) && sourceOk w w.sa.toNat && sourceOk w w.sb.toNat &&
    !((storeX w 14 || storeY w 14) && !(o == 0x40 || o == 0x42 || o == 0x28)) &&
    formatOk w w.xreg.toNat (w.xdir == 0) 10 && formatOk w w.yreg.toNat (w.ydir == 0) 11 && formOk w

/-- A control-format word that VX can execute at index `pc` with the loops `ls` active (R151, R152). -/
def controlLegal (c : VxControl) (pc : Nat) (ls : List Loop) : Bool :=
  match c with
  | .halt => true
  | .loop _ b =>
    let e := pc + b.toNat + 1
    decide (e ≤ 2047) && (match ls with
      | [] => true
      | l :: _ => decide (e ≤ l.last))
  | .seta _ _ _ => true
  | .ldi _ bk de _ => bk == 1 || de == 0

/-- The word at index `pc` is legal (R155). -/
def vxLegal (w : Word) (pc : Nat) (ls : List Loop) : Bool :=
  match decodeControl w with
  | some c => controlLegal c pc ls
  | none => vectorLegal (decodeVx w)

end Sys2Proof.Machine
end

