-- ==== Sys2Proof/Machine/Flits.lean ====
section
/-!
DEFINITION. The system network itself: routers and routes, packets and their flits, what each output lane takes in a clock, and
the transactions and statistics of the initiators (R274 - R293).
-/
namespace Sys2Proof.Machine

open Sys2Proof

/-! ### Routers and routes (R274, R278) -/

/-- There is a router at position `r` = 16 Y + X. -/
def isRouter (r : Nat) : Bool :=
  decide (r < 256) && !(decide (4 ≤ r % 16) && decide (r % 16 ≤ 11) && decide (4 ≤ r / 16) && decide (r / 16 ≤ 11))

/-- The position of router `n` of the 192, counted in ascending position. -/
def routerAt (n : Nat) : Nat :=
  if n < 64 then n
  else if n < 128 then
    let m := n - 64
    16 * (4 + m / 8) + (if m % 8 < 4 then m % 8 else m % 8 + 8)
  else n - 128 + 192

/-- The router behind mesh port `p` (0 north, 1 east, 2 south, 3 west) of router `r`. -/
def neighbour (r p : Nat) : Option Nat :=
  let n := match p with
    | 0 => if 16 ≤ r then some (r - 16) else none
    | 1 => if r % 16 < 15 then some (r + 1) else none
    | 2 => if r < 240 then some (r + 16) else none
    | 3 => if 0 < r % 16 then some (r - 1) else none
    | _ => none
  n.filter isRouter

/-- Key of a route-table entry: router, destination and PATH. -/
def routeKey (r dst path : Nat) : Nat := 1024 * r + 4 * dst + path

/-- The difference of two coordinates. -/
def apart (a b : Nat) : Nat := (a - b) + (b - a)

/-- Routers on the shortest way between two positions along the ring: the Dome lies at X, Y = 4-11, and between opposite
sides of it the way leads past one of its corners. -/
def ringDistance (a b : Nat) : Nat :=
  let ax := a % 16
  let ay := a / 16
  let bx := b % 16
  let by_ := b / 16
  let inner := fun (v : Nat) => decide (4 ≤ v) && decide (v ≤ 11)
  let faces := fun (v w : Nat) => (decide (v < 4) && decide (11 < w)) || (decide (w < 4) && decide (11 < v))
  if inner ax && inner bx && faces ay by_ then
    apart ay by_ + min (apart ax 3 + apart bx 3) (apart ax 12 + apart bx 12)
  else if inner ay && inner by_ && faces ax bx then
    apart ax bx + min (apart ay 3 + apart by_ 3) (apart ay 12 + apart by_ 12)
  else apart ax bx + apart ay by_

/-- A step through mesh port `p` of router `r` goes round the ring clockwise. -/
def clockwise (r p : Nat) : Bool :=
  match p with
  | 0 => decide (r % 16 < 8)
  | 1 => decide (r / 16 < 8)
  | 2 => decide (8 ≤ r % 16)
  | _ => decide (8 ≤ r / 16)

/-- The mesh port that the built-in table gives at router `r` for destination `dst` (R278): of the ports on a shortest path
a clockwise one, and of those the lowest. [DEDUCED, unsafe: notes/assumptions/154] -/
def builtInPort (r dst : Nat) : Nat :=
  let near := (List.range 4).filter (fun p =>
    (neighbour r p).elim false (fun q => decide (ringDistance q dst < ringDistance r dst)))
  match near.find? (clockwise r) with
  | some p => p
  | none => near.headD 0

/-- The output port of router `r` for a destination and PATH: of the loaded table, or of the built-in one where that has no
entry (R278). -/
def Device.routePort (d : Device) (r dst path : Nat) : Nat :=
  (mapGet none d.net.routes (routeKey r dst path)).getD (builtInPort r dst)

/-! ### Interfaces and ways (R276, R278 - R280) -/

/-- Router and local port of an interface. -/
def placeOf (i : Iface) : Nat × Nat := (routerAt ((Config.place i).1 % 192), (Config.place i).2 % 4)

/-- The Turret of link `l`. -/
def turretIface (l : Nat) : Iface := .init (8 + l / 8)

/-- The interface of the target of a request: for a request of several HBM units, the controller of the first.
[DEDUCED, unsafe: notes/assumptions/155] -/
def Device.targetIface (d : Device) : NetTarget → Iface
  | .mem a =>
    match localSpace a with
    | .hbm a => .hbm ((d.hbmDecode a).elim 0 (fun r => r.1 / pcUnits / 32))
    | .tile l => .gateway (l / 2048)
    | _ => .regs
  | .cache k _ _ _ _ => .slice k
  | .queue _ => .init 5
  | .host _ _ => .init 0x80
  | .remote l _ _ => turretIface l
  | .tile a => .gateway ((a - 0x10000000000) / 64 / 2048)
  | .peer => .init 8
  | .user ap _ => .init (0x10 + ap)

/-- The interface that injects a transaction's request: its initiator's, or the Turret of the link over which it came. -/
def Txn.iface (t : Txn) : Iface := match t.purpose with
  | .remote l _ => turretIface l
  | _ => .init t.init

/-- The stream thread that issued a transaction, if one did. -/
def Txn.threadNo (t : Txn) : Option Nat := match t.purpose with
  | .thread tk _ _ _ => some tk
  | _ => none

/-- The lane of a dynamic packet (R278). -/
def dynamicLane (init dest port : Nat) : Nat := (init ^^^ dest ^^^ port) % 4

/-- The way of a packet of initiator `init` between two interfaces: a scheduled one takes the PATH and lane of its stream
thread, every other PATH 0 and the lane of R278. -/
def Device.wayOf (d : Device) (init vc : Nat) (thread : Option Nat) (a b : Iface) : Way :=
  let s := placeOf a
  let e := placeOf b
  let own := if vc ≤ 1 then thread.bind (fun tk => mapGet none d.net.routeMap tk) else none
  { vc := vc, lane := own.elim (dynamicLane init e.1 e.2) (fun p => p.2 % 4), path := own.elim 0 (fun p => p.1 % 4),
    dest := e.1, port := e.2, source := s.1, sourcePort := s.2 }

def Device.requestWay (d : Device) (t : Txn) : Way :=
  d.wayOf t.init (if t.sched then 0 else 2) t.threadNo t.iface (d.targetIface t.target)

def Device.responseWay (d : Device) (t : Txn) : Way :=
  d.wayOf t.init (if t.sched then 1 else 3) t.threadNo (d.targetIface t.target) t.iface

/-! ### Headers and flits (R275, R276) -/

/-- The header payload N0-N7 of a packet; `args`: the words from N3 on. -/
def headerLine (dest path port cmd len init tag addr : Nat) (be : Word) (args : List Word) : Line :=
  bytesLine (wordsBytes ([
    mkWord [(0, dest), (8, path), (10, port), (12, cmd), (16, len), (22, init), (30, tag % 65536)],
    BitVec.ofNat 64 addr, be] ++ args ++ List.replicate (5 - args.length) 0))

/-- CMD of a request (R277). -/
def NetCmd.code : NetCmd → Nat
  | .read => 1
  | .write => 3
  | .partialWrite => 4

/-- The system address of a target (R276, R500). -/
def NetTarget.addr : NetTarget → Nat
  | .mem a => a
  | .host _ a => 2 ^ 62 + a
  | .remote _ dev a => 2 ^ 63 + 2 ^ 52 * dev + a
  | .tile a => a
  | .cache k _ _ _ _ => Config.innerAddr 0 k
  | .queue q => Config.innerAddr 1 q
  | .user ap off => Config.innerAddr 2 ap + off
  | .peer => 0

/-- The flits of a packet at the interface that injects it: its header with the check made there, then its data units. -/
def packetFlits (p : Packet) (w : Way) (header : Line) (us : List DUnit) : List DieFlit :=
  let all := freshUnit header :: us
  (List.range all.length).map (fun i =>
    { packet := p, way := w, unit := all.getD i zeroUnit, head := decide (i = 0), tail := decide (i + 1 = all.length),
      router := w.source, inPort := 4 + w.sourcePort, since := 0, waited := false })

/-- A packet is given to the network. -/
def Device.enter (d : Device) (p : Packet) (w : Way) (header : Line) (us : List DUnit) : Device :=
  { d with net := { d.net with entering := d.net.entering ++ packetFlits p w header us } }

/-- The fast clocks run: in Cold and in Standby nothing moves on the network (R460). -/
def Device.netRuns (d : Device) : Bool := d.power != 2 && d.power != 3

/-- A control unit is sent by initiator `init` as a SIGNAL, CTRL or CREDIT packet (`cmd` 6, 7, 8) to the Turret of its link,
which sends it on (R277, R280, R325); while the network stands still the Turret has it at once.
[DEDUCED, unsafe: notes/assumptions/156] -/
def Device.sendMessage (d : Device) (init cmd link typ : Nat) (words : List Nat) : Device :=
  if d.netRuns then
    let w := d.wayOf init 4 none (.init init) (turretIface link)
    d.enter (.control { link := link, typ := typ, words := words }) w
      (headerLine w.dest w.path w.port cmd 0 init 0 0 0 ((Config.messageArg typ words).take 5)) []
  else d.sendControl link typ words

/-- Control units on their way to a Turret or waiting there, oldest first. -/
def Device.controls (d : Device) : List CtrlUnit :=
  d.links.ctrl ++ (d.net.flits ++ d.net.entering).filterMap (fun f => match f.packet with
    | .control u => some u
    | _ => none)

/-! ### Transactions -/

def Device.txn (d : Device) (id : Nat) : Option Txn := d.net.txns.find? (fun t => t.id == id)

def Device.mapTxn (d : Device) (id : Nat) (f : Txn → Txn) : Device :=
  { d with net := { d.net with txns := d.net.txns.map (fun t => if t.id = id then f t else t) } }

def Device.dropTxn (d : Device) (id : Nat) : Device :=
  { d with net := { d.net with txns := d.net.txns.filter (fun t => t.id != id) } }

/-- The units that a read returns, in order. -/
def Txn.units (t : Txn) : List DUnit := (List.range t.len).map (fun i => (mapGet none t.got i).getD poisonUnit)

/-- The response to transaction `id` is injected at the target's interface (R277). -/
def Device.answer (d : Device) (id : Nat) : Device :=
  match d.txn id with
  | none => d
  | some t =>
    let w := d.responseWay t
    let us := if t.cmd = .read then t.units else []
    let h := headerLine w.dest w.path w.port (if t.cmd = .read then 2 else 5) us.length t.init t.id 0 0
      [BitVec.ofNat 64 t.status]
    let d := d.mapTxn id (fun t => { t with phase := .responded, rank := d.net.nextRank })
    { d with net := { d.net with nextRank := d.net.nextRank + 1 } }.enter (.response id) w h us

/-- Unit `i` of a read is there; when the last one is, the response goes back (R277). -/
def Device.deliver (d : Device) (id i : Nat) (u : DUnit) : Device :=
  let d := d.mapTxn id (fun t => { t with got := mapPut none t.got i (some u) })
  if (d.txn id).elim false (fun t => t.got.length == t.len) then d.answer id else d

/-- A target answers with a status (R277). -/
def Device.respond (d : Device) (id status : Nat) : Device := (d.mapTxn id (fun t => { t with status := status })).answer id

/-! ### Statistics (R291 - R293) -/

/-- `n` added to a statistic of initiator `i`, unless the statistics are frozen (R293). -/
def Device.bumpStat (d : Device) (a n : Nat) : Device := if d.regBit Reg.sncStatCtl 0 then d else d.bump a n

/-- Bytes and data flits moved by or for initiator `i` (R291). -/
def Device.statMoved (d : Device) (i bytes units : Nat) : Device :=
  (d.bumpStat (Reg.sncStatBytes i) bytes).bumpStat (Reg.sncStatUnits i) units

/-- The latency bin of `v` system-network clocks (R292). -/
def latencyBin (v : Nat) : Nat := if v < 16 then 0 else min 15 (Nat.log2 v - 3)

/-- A transaction of initiator `i` measured with latency `v` (R291). -/
def Device.statLatency (d : Device) (i v : Nat) : Device :=
  if d.regBit Reg.sncStatCtl 0 then d
  else
    let d := (d.bump (Reg.sncStatLatN i) 1).bump (Reg.sncStatLatSum i) v
    let d := if v < d.regF (Reg.sncStatLatMin i) 0 64 then d.setReg (Reg.sncStatLatMin i) (BitVec.ofNat 64 v) else d
    let d := if d.regF (Reg.sncStatLatMax i) 0 64 < v then d.setReg (Reg.sncStatLatMax i) (BitVec.ofNat 64 v) else d
    d.bump (Reg.sncStatHist i (latencyBin v)) 1

/-! ### Injection (R280, R289, R481) -/

/-- Bytes that a byte-enable mask covers. -/
def popCount (w : Word) : Nat := ((List.range 64).filter (fun i => bit w i)).length

/-- An armed error injection inverts bit 0 of the check of the next data flit that the initiator injects (R481). -/
def Device.injectError (d : Device) (init : Nat) (us : List DUnit) : List DUnit × Device :=
  match us with
  | [] => ([], d)
  | u :: rest =>
    if d.regBit Reg.errInj 31 && d.regF Reg.errInj 0 8 == init then
      ({ u with check := u.check ^^^ 1 } :: rest, d.setF Reg.errInj 31 1 0)
    else (us, d)

/-- Token count of initiator `i` at gcyc `g`, in 1/256 byte (R289): two system-network clocks a gcyc. -/
def Device.tokensAt (d : Device) (i g : Nat) : Int :=
  let w := d.reg (Reg.sncReg i)
  let full : Int := 256 * (fld w 32 24 : Nat)
  match mapGet none d.net.tokens i with
  | none => full
  | some (t, last) => min (t + (fld w 0 24 * (2 * (g - last)) : Nat)) full

/-- The gcyc in which a packet of `b` bytes of initiator `i` can be injected (R289). -/
def Device.injectAt (d : Device) (i b : Nat) : Nat :=
  let w := d.reg (Reg.sncReg i)
  let rate := fld w 0 24
  let need : Int := 256 * (min b (fld w 32 24) : Nat)
  if rate = 0 ∨ need ≤ d.tokensAt i d.now then d.now
  else d.now + ((need - d.tokensAt i d.now).toNat + 2 * rate - 1) / (2 * rate)

/-- The bucket of initiator `i` gives the tokens of a packet of `b` bytes (R289). -/
def Device.takeTokens (d : Device) (i b : Nat) : Device :=
  if d.regF (Reg.sncReg i) 0 24 = 0 then d
  else
    let t := d.tokensAt i d.now - (256 * b : Nat)
    { d with net := { d.net with tokens := mapPut none d.net.tokens i (some (t, d.now)) } }

/-- The request packet of a transaction is given to the network at its interface. -/
def Device.launchRequest (d : Device) (t : Txn) : Device :=
  let w := d.requestWay t
  d.enter (.request t.id) w
    (headerLine w.dest w.path w.port t.cmd.code t.len t.init t.id t.target.addr (if t.cmd = .partialWrite then t.be else 0) [])
    t.data

/-- The header of a transaction is injected now (R285, R289): its data flits count for the initiator. -/
def Device.inject (d : Device) (id : Nat) : Device :=
  match d.txn id with
  | none => d
  | some t =>
    let (us, d) := d.injectError t.init t.data
    let t := { t with data := us, phase := .sent, injected := d.now, limit := d.regF Reg.sncCtl 0 24, sentAt := 2 * d.now }
    let d := (d.mapTxn id (fun _ => t)).launchRequest t
    match t.cmd with
    | .read => d
    | .write => d.statMoved t.init (64 * us.length) us.length
    | .partialWrite => d.statMoved t.init (popCount t.be) 1

/-- A transaction before its injection. -/
def Txn.fresh (id init : Nat) (sched : Bool) (cmd : NetCmd) (target : NetTarget) (len : Nat) (data : List DUnit) (be : Word)
    (purpose : NetFor) : Txn :=
  { id := id, init := init, sched := sched, cmd := cmd, target := target, len := len, data := data, be := be, got := [],
    status := 0, phase := .waiting, injected := 0, limit := 0, purpose := purpose, sentAt := 0, backAt := none, rank := 0,
    todo := 0, passed := 0 }

/-- A new transaction: a scheduled one is injected at once, a dynamic one waits at its regulator (R280, R289) and, in Cold
or Standby, for a wake to Warm (R460). -/
def Device.newTxn (d : Device) (init : Nat) (sched : Bool) (cmd : NetCmd) (target : NetTarget) (len : Nat)
    (data : List DUnit) (be : Word) (purpose : NetFor) : Device :=
  let id := d.net.nextId
  let d := { d with net := { d.net with
    txns := d.net.txns ++ [Txn.fresh id init sched cmd target len data be purpose], nextId := id + 1 } }
  if sched then d.inject id else d.requestWake false

/-! ### A clock of the network (R274, R278, R280, R281) -/

/-- A virtual channel of a lane of a port: of an output, or of an input and its buffer. -/
def laneKey (r port lane vc : Nat) : Nat := ((8 * r + port) * 4 + lane) * 5 + vc

/-- The buffer that holds a flit. -/
def DieFlit.buffer (f : DieFlit) : Nat := laneKey f.router f.inPort f.way.lane f.way.vc

/-- The flits that stand first in their buffers. -/
def bufferHeads : List DieFlit → List Nat → List DieFlit
  | [], _ => []
  | f :: fs, seen => if seen.contains f.buffer then bufferHeads fs seen else f :: bufferHeads fs (f.buffer :: seen)

/-- The output port that a flit asks for in its router. -/
def Device.outPort (d : Device) (f : DieFlit) : Nat :=
  if f.router = f.way.dest then 4 + f.way.port else d.routePort f.router f.way.dest f.way.path

/-- The input port at the other end of a mesh port. -/
def opposite (p : Nat) : Nat := (p + 2) % 4

/-- A step through mesh port `p` of router `r` crosses a stitch line (R18, R274). -/
def crossesStitch (r p : Nat) : Bool :=
  match p with
  | 0 => decide (r / 16 = 8)
  | 1 => decide (r % 16 = 7)
  | 2 => decide (r / 16 = 7)
  | _ => decide (r % 16 = 8)

/-- Place of a virtual channel in the order of precedence (R280). -/
def vcRank (vc : Nat) : Nat := ([1, 0, 4, 3, 2] : List Nat).getD vc 5

/-- A buffer has room for one more flit: it holds 8 (R274). -/
def Device.roomAt (d : Device) (r port lane vc : Nat) : Bool :=
  decide ((d.net.flits.filter (fun f => f.buffer == laneKey r port lane vc)).length < 8)

/-- A flit may leave its router through the port it asks for: the virtual channel of the lane is held by its packet, or by
none and the flit is a HEAD, and there is room downstream. -/
def Device.mayLeave (d : Device) (f : DieFlit) : Bool :=
  let o := d.outPort f
  let owner := mapGet none d.net.owners (laneKey f.router o f.way.lane f.way.vc)
  (owner == some f.packet || (owner.isNone && f.head)) &&
    (decide (4 ≤ o) || (neighbour f.router o).elim false (fun q => d.roomAt q (opposite o) f.way.lane f.way.vc))

/-- Of two flits that claim one output lane, `f` goes first (R280, R281). -/
def Device.goesFirst (d : Device) (f g : DieFlit) : Bool :=
  if f.way.vc ≠ g.way.vc then decide (vcRank f.way.vc < vcRank g.way.vc)
  else if f.way.vc ≤ 1 then decide (f.inPort < g.inPort)
  else
    let last := (mapGet none d.net.turns (laneKey f.router (d.outPort f) f.way.lane f.way.vc)).getD 7
    decide ((f.inPort + 7 - last) % 8 < (g.inPort + 7 - last) % 8)

/-- The flits that leave their routers in a clock, of those that may. -/
def Device.leaving (d : Device) (ready : List DieFlit) : List DieFlit :=
  ready.filter (fun f => !ready.any (fun g =>
    g.router == f.router && d.outPort g == d.outPort f && g.way.lane == f.way.lane && d.goesFirst g f))

/-- A scheduled flit waits: the wait is counted and is a configuration-integrity event (R281, R474). -/
def Device.scheduledWait (d : Device) (f : DieFlit) : Device :=
  ((d.bump Reg.sncSchedConflictCnt 1).cfgIntegrity 4 f.router 0 52)

/-- The TAIL flit of a packet leaves the network: a response is back at its initiator (R291), and a control unit is at its
Turret. -/
def Device.arrived (d : Device) (p : Packet) (c : Nat) : Device :=
  match p with
  | .request _ => d
  | .response id => d.mapTxn id (fun t => { t with backAt := some c })
  | .control u => { d with links := { d.links with ctrl := d.links.ctrl ++ [u] } }

/-- Flit `f` leaves its router in clock `c`. -/
def Device.moveFlit (d : Device) (c : Nat) (f : DieFlit) : Device :=
  let o := d.outPort f
  let k := laneKey f.router o f.way.lane f.way.vc
  let rest := d.net.flits.erase f
  let next := match if o < 4 then neighbour f.router o else none with
    | some q => [{ f with router := q, inPort := opposite o, since := c + b2n (crossesStitch f.router o), waited := false }]
    | none => []
  let d := { d with net := { d.net with
    flits := rest ++ next,
    owners := mapPut none d.net.owners k (if f.tail then none else some f.packet),
    turns := if f.way.vc ≤ 1 then d.net.turns else mapPut none d.net.turns k (some f.inPort) } }
  if next.isEmpty && f.tail then d.arrived f.packet c else d

/-- The header of a request has entered the network in clock `c` (R285, R291). -/
def Device.noteInjected (d : Device) (f : DieFlit) (c : Nat) : Device :=
  match f.packet with
  | .request id => if f.head then d.mapTxn id (fun t => { t with injected := c / 2, sentAt := c }) else d
  | _ => d

/-- The flits that their interfaces inject in a clock: one each, in the order of precedence (R280, R290). -/
def Device.injected (d : Device) : List DieFlit :=
  let first := (bufferHeads d.net.entering []).filter (fun f => d.roomAt f.router f.inPort f.way.lane f.way.vc)
  let order := [1, 0, 4, 3, 2].flatMap (fun v => first.filter (fun f => f.way.vc == v))
  order.foldl (fun l f => if l.any (fun g => g.router == f.router && g.inPort == f.inPort) then l else l ++ [f]) []

/-- One clock of the network: each output lane takes a flit that has passed its router, of those that could not go the
scheduled ones are counted, and each interface injects a flit. -/
def Device.netClock (d : Device) (c : Nat) : Device :=
  let new := d.injected
  let ready := (bufferHeads d.net.flits []).filter (fun f => decide (f.since + 2 ≤ c))
  let go := d.leaving (ready.filter d.mayLeave)
  let stay := ready.filter (fun f => decide (f.way.vc ≤ 1) && !f.waited && !go.contains f)
  let d := go.foldl (fun d f => d.moveFlit c f) d
  let d := stay.foldl (fun d f => d.scheduledWait f) d
  let d := { d with net := { d.net with
    flits := d.net.flits.map (fun f => if stay.contains f then { f with waited := true } else f) } }
  new.foldl (fun d f =>
    ({ d with net := { d.net with
      entering := d.net.entering.erase f, flits := d.net.flits ++ [{ f with since := c }] } }).noteInjected f c) d

/-- The network carries nothing. -/
def Device.netQuiet (d : Device) : Bool := d.net.entering.isEmpty && d.net.flits.isEmpty

/-- Flits of packet `p` are still on their way. -/
def Device.travels (d : Device) (p : Packet) : Bool :=
  d.net.entering.any (fun f => f.packet == p) || d.net.flits.any (fun f => f.packet == p)

/-- A packet is discarded with every flit of it (R284). -/
def Device.dropPacket (d : Device) (p : Packet) : Device :=
  { d with net := { d.net with
    entering := d.net.entering.filter (fun f => f.packet != p), flits := d.net.flits.filter (fun f => f.packet != p),
    owners := d.net.owners.filter (fun e => e.2 != some p) } }

end Sys2Proof.Machine
end

