-- ==== Sys2Proof/Machine/QueueOps.lean ====
section
/-!
DEFINITION. The operations of the queue manager that its commands, the endpoint, the links and the stream threads share:
start markers, pushing, truncation, readiness, taking cells, the release at a completion record, and flush
(R295 - R307).
-/
namespace Sys2Proof.Machine

open Sys2Proof

def Device.queue (d : Device) (q : Nat) : Queue := mapGet Queue.initial d.queues q

def Device.setQueue (d : Device) (q : Nat) (x : Queue) : Device :=
  { d with queues := mapPut Queue.initial d.queues q x }

/-- Cells of a queue in the pool, its open cell included. -/
def Queue.poolCells (x : Queue) : Nat :=
  (x.cells.filter (fun c => c.spilled.isNone)).length +
    x.asm.elim 0 (fun a => if a.opened.isEmpty || a.spilled.isSome then 0 else 1)

/-- Cells of a queue in the spill area. [DEDUCED, unsafe: notes/assumptions/59] -/
def Queue.spillCells (x : Queue) : Nat :=
  (x.cells.filter (·.spilled.isSome)).length +
    x.asm.elim 0 (fun a => if a.opened.isEmpty || a.spilled.isNone then 0 else 1)

/-- Free cells of the pool of 262,144 (R295, QMG_STATUS.FREE). -/
def Device.poolFree (d : Device) : Nat := 262144 - (d.queues.map (fun e => e.2.poolCells)).sum

/-- Cells in the spill area (R300). -/
def Device.spillUsed (d : Device) : Nat := (d.queues.map (fun e => e.2.spillCells)).sum

/-- Slots of the spill area in use. -/
def Queue.slots (x : Queue) : List Nat :=
  x.cells.filterMap (·.spilled) ++ (x.asm.bind (fun a => if a.opened.isEmpty then none else a.spilled)).toList

def Device.usedSlots (d : Device) : List Nat := d.queues.flatMap (fun e => e.2.slots)

/-- The lowest free slot of the spill area: a cell takes 64 bytes. -/
def Device.freeSlot (d : Device) : Option Nat :=
  (List.range (d.usedSlots.length + 1)).find? (fun i => !d.usedSlots.contains i)

/-- Local HBM address of a slot of the spill area, as QMG_SPILL places it now (R300, R310). -/
def Device.spillAddr (d : Device) (slot : Nat) : Nat := 65536 * d.regF Reg.qmgSpill 16 32 + 64 * slot

/-- A spilled cell's unit is written to HBM by the queue manager as dynamic traffic; the cell holds it no more (R262, R279,
R300). -/
def Device.spillCell (d : Device) (c : QCell) : QCell × Device :=
  match c.spilled with
  | none => (c, d)
  | some i =>
    ({ c with data := 0, check := zeroCheck },
     d.newTxn 5 false .write (.mem (d.spillAddr i)) 1
       [if c.pois then poisonUnit else { data := c.data, check := c.check, pois := false }] 0 (.spill i))

/-- Cells of a list up to the end of the packet in which it begins: through an EOP, or up to the next SOP; and whether
the end is there. The first cell is taken whatever it is. -/
def packetSpan : List QCell → Nat × Bool
  | [] => (0, false)
  | c :: cs =>
    if c.eop then (1, true)
    else match cs with
      | [] => (1, false)
      | c' :: _ => if c'.sop then (1, true) else let r := packetSpan cs; (r.1 + 1, r.2)

/-- The packet at the front of `cells` is ready (R301). A packet of which cells have been popped was ready before. -/
def packetReady (ct : Nat) (cells : List QCell) : Bool :=
  match cells with
  | [] => false
  | c :: _ =>
    let r := packetSpan cells
    ((cells.take r.1).any (·.eop)) || (decide (ct ≠ 0) && (decide (ct ≤ r.1) || !c.sop))

/-- HEAD_READY (R301). [DEDUCED, unsafe: notes/assumptions/60] -/
def Queue.headReady (x : Queue) : Bool := packetReady (fld x.cfgNow 0 15) x.cells

/-- The queue blocks head tasks: GATE is 1 and the read position is not at the first cell of a ready packet (R301). -/
def Queue.blocks (x : Queue) : Bool :=
  bit x.cfg 63 &&
    !(match x.cells.drop (x.rd - x.head) with
      | [] => false
      | c :: cs => c.sop && packetReady (fld x.cfgNow 0 15) (c :: cs))

/-- Queue `q` becomes `x`. Where that opens its gate, an evaluation `lag` gcyc later is the first to see it, and the tasks
that the gate held are evaluated then (R215, R301). -/
def Device.gateQueue (d : Device) (q lag : Nat) (x : Queue) : Device :=
  if (d.queue q).blocks && !x.blocks then
    (d.setQueue q { x with openFrom := d.now + lag }).noteEval (fun t => d.ctxQueue t.ctx == q) (d.now + lag)
  else d.setQueue q x

/-- A closed cell is linked at the tail, and an evaluation two gcyc later sees it (R298, R301). While the rest of a released
packet is still arriving, the cell is freed as it is linked, up to and including the EOP (R304). -/
def Device.linkCell (d : Device) (q : Nat) (c : QCell) : Device :=
  let x := d.queue q
  let d := d.bump Reg.qmgCellsInCnt 1
  if x.freeing then
    (d.setQueue q { x with head := x.head + 1, rd := x.rd + 1, freeing := !c.eop }).bump Reg.qmgCellsOutCnt 1
  else
    let r := d.spillCell c
    r.2.gateQueue q 2 { x with cells := x.cells ++ [r.1] }

/-- The cells of an input are linked in the gcyc after the one in which it returns (R375): an evaluation sees them a gcyc later
than cells of other sources. [DEDUCED, unsafe: notes/assumptions/147] -/
def Device.linkedLater (d : Device) (q : Nat) : Device :=
  let x := d.queue q
  if x.openFrom = d.now + 2 then
    (d.setQueue q { x with openFrom := d.now + 3 }).noteEval (fun t => d.ctxQueue t.ctx == q) (d.now + 3)
  else d

/-- The open cell of an assembly, closed (R295, R298): a cell with a failed or poisoned piece is POISON, with zeros. -/
def Assembly.close (a : Assembly) (eop trunc : Bool) (check : Option (BitVec 32)) : QCell :=
  let v := bytesLine a.opened
  { data := if a.bad then 0 else v,
    check := if a.bad then zeroCheck else check.getD (lineCheck v),
    vbytes := a.opened.length, sop := !a.linked, eop := eop, trunc := trunc, pois := a.bad, chkOk := !a.bad,
    init := a.init, length := a.length, spilled := a.spilled }

/-- The last linked cell marked EOP and TRUNC (R299). -/
def markLast : List QCell → List QCell
  | [] => []
  | [c] => [{ c with eop := true, trunc := true }]
  | c :: cs => c :: markLast cs

/-- The packet in assembly, if there is one, is truncated (R297, R299, R300). -/
def Device.truncatePacket (d : Device) (q : Nat) : Device :=
  let x := d.queue q
  match x.asm with
  | none => d
  | some a =>
    let d := (d.setQueue q { x with asm := none }).bump Reg.qmgTruncCnt 1
    if a.opened.isEmpty then
      let x := d.queue q
      if a.linked then
        if x.freeing then d.setQueue q { x with freeing := false }
        else d.gateQueue q 2 { x with cells := markLast x.cells }
      else d
    else d.linkCell q (a.close true true none)

/-- A start marker for queue `q` (R297): a refused LENGTH is counted, and in every case a packet in assembly is truncated.
QCFG applies from a valid marker on. -/
def Device.startMarker (d : Device) (q len init : Nat) : Device :=
  let d := d.truncatePacket q
  if len = 0 ∨ 1048576 < len then d.bump Reg.qmgBadlenCnt 1
  else
    let x := d.queue q
    d.setQueue q { x with
      cfgNow := x.cfg,
      asm := some { init := init, length := len, got := 0, opened := [], bad := false, checkBad := false,
                    spilled := none, linked := false } }

/-- A queue's QCFG.MAX_CELLS in force leaves no room for one more cell (R300). -/
def Queue.atLimit (x : Queue) : Bool :=
  let m := fld x.cfgNow 19 19
  decide (m ≠ 0 ∧ m ≤ x.poolCells + x.spillCells)

/-- The next cell is placed in the spill area (R300). -/
def Device.spills (d : Device) (q : Nat) : Bool :=
  d.regBit Reg.qmgSpill 63 && bit (d.queue q).cfgNow 62 && decide (d.poolFree < d.regF Reg.qmgCtl 0 19) &&
    decide (d.spillUsed < d.regF Reg.qmgSpill 0 16 * 1024)

/-- The packet is truncated for want of a cell (R300). -/
def Device.noSpace (d : Device) (q : Nat) : Device := (d.truncatePacket q).bump Reg.qmgNospaceCnt 1

/-- Bytes of one transaction are appended to queue `q`, cell by cell, `fuel` cells at most (R298, R299, R300).
`check`: the check that arrived with one whole 64-byte unit; `bad`: the bytes are poisoned or failed their check. -/
def Device.pushLoop (d : Device) (q : Nat) (check : Option (BitVec 32)) (bad : Bool) : Nat → List Byte → Device
  | 0, _ => d
  | fuel + 1, bs =>
    if bs.isEmpty then d
    else
      match (d.queue q).asm with
      | none => d.bump Reg.qmgDiscByteCnt bs.length
      | some a =>
        let opens := a.opened.isEmpty
        if opens && ((d.queue q).atLimit || (!d.spills q && d.poolFree == 0)) then
          (d.noSpace q).bump Reg.qmgDiscByteCnt bs.length
        else
          let n := min (64 - a.opened.length) (a.length - a.got)
          let a := { a with
            opened := a.opened ++ bs.take n, got := a.got + (bs.take n).length,
            bad := (if opens then false else a.bad) || bad,
            spilled := if opens then (if d.spills q then d.freeSlot else none) else a.spilled }
          let whole := opens && a.opened.length == 64 && bs.length == 64
          let x := d.queue q
          if a.opened.length = 64 ∨ a.got = a.length then
            let c := a.close (a.got == a.length) false (if whole then check else none)
            let d := d.setQueue q { x with
              asm := if a.got = a.length then none else some { a with opened := [], bad := false, linked := true } }
            (d.linkCell q c).pushLoop q check bad fuel (bs.drop n)
          else (d.setQueue q { x with asm := some a }).pushLoop q check bad fuel (bs.drop n)

/-- Bytes appended to a queue with no check of their own: the queue manager computes the check of each cell. -/
def Device.pushBytes (d : Device) (q : Nat) (bs : List Byte) (poisoned : Bool) : Device :=
  d.pushLoop q none poisoned (bs.length + 1) bs

/-- One whole unit pushed: its check is verified, and a failure is counted (R298). [DEDUCED, unsafe: notes/assumptions/58] -/
def Device.pushUnit (d : Device) (q : Nat) (u : DUnit) : Device :=
  if u.pois then d.pushLoop q none true 65 (lineBytes 0)
  else if unitOk u then d.pushLoop q (some u.check) false 65 (lineBytes u.data)
  else (d.uncorrected Reg.qmgChkCnt).pushLoop q none true 65 (lineBytes 0)

/-- The cell at the read position is taken by a task, and the read position advances (R302, R305). -/
def Device.takeCell (d : Device) (q : Nat) : Option QCell × Device :=
  let x := d.queue q
  match x.cells.drop (x.rd - x.head) with
  | [] => (none, d)
  | c :: _ =>
    let d := d.gateQueue q 1 { x with rd := x.rd + 1, held := true, taken := x.rd + 1 }
    (some c, d.mapRun (fun r => if r.queues.contains q then r else { r with queues := r.queues ++ [q] }))

/-- At the completion record the committed head passes the end of the last packet from which the task took a cell, and
every cell passed is freed; if that end is not linked yet, the cells still to come are freed as they are linked (R304). -/
def Device.releaseQueue (d : Device) (q : Nat) : Device :=
  let x := d.queue q
  if x.taken ≤ x.head then d.gateQueue q 1 { x with held := false, taken := 0, rd := x.head }
  else
    let r := packetSpan (x.cells.drop (x.taken - 1 - x.head))
    let n := x.taken - 1 - x.head + r.1
    let more := !r.2 && x.asm.elim false (·.linked)
    (d.gateQueue q 1 { x with
      cells := x.cells.drop n, head := x.head + n, rd := x.head + n, held := false, taken := 0, freeing := more }).bump
      Reg.qmgCellsOutCnt n

/-- For an automatic restart the read position returns to the committed head (R193, R304). -/
def Device.rewindQueue (d : Device) (q : Nat) : Device :=
  let x := d.queue q
  d.gateQueue q 1 { x with rd := x.head, taken := 0 }

/-- A flush of queue `q` (R306). -/
def Device.flushQueue (d : Device) (q : Nat) : Device :=
  let x := d.queue q
  let keep := x.cells.take (x.rd - x.head)
  let freed := x.cells.drop (x.rd - x.head)
  let bytes := (freed.map (·.vbytes)).sum + x.asm.elim 0 (fun a => a.opened.length)
  let d := d.gateQueue q 1 { x with cells := keep, asm := none, freeing := false }
  if bytes = 0 then d else d.bump Reg.qmgDiscByteCnt bytes

/-- Owning function of a queue: QCFG.FUNC (R310, R366). -/
def Device.queueFunc (d : Device) (q : Nat) : Nat := fld (d.queue q).cfg 56 6

end Sys2Proof.Machine
end

