-- ==== Sys2Proof/Machine/StreamOps.lean ====
section
/-!
DEFINITION. Stream threads: their descriptors, unit addresses and due times, commits and lateness, ring quarters, and
stopping (R223 - R243).
-/
namespace Sys2Proof.Machine

open Sys2Proof

/-- Thread (k, t) is number 256k + t (R223). -/
def Device.thread (d : Device) (tk : Nat) : Option Thread := mapGet none d.streams.threads tk

def Device.setThread (d : Device) (tk : Nat) (x : Option Thread) : Device :=
  { d with streams := { d.streams with threads := mapPut none d.streams.threads tk x } }

def Device.mapThread (d : Device) (tk : Nat) (f : Thread → Thread) : Device :=
  match d.thread tk with
  | some x => d.setThread tk (some (f x))
  | none => d

/-- Thread `tk` started at `stamp`: in its place, or replaced and not finished (R223, R243). -/
def Device.threadOf (d : Device) (tk stamp : Nat) : Option Thread :=
  match d.thread tk with
  | some x => if x.stamp = stamp then some x
      else (d.streams.left.find? (fun e => e.1 == tk && e.2.stamp == stamp)).map (·.2)
  | none => (d.streams.left.find? (fun e => e.1 == tk && e.2.stamp == stamp)).map (·.2)

def Device.mapThreadOf (d : Device) (tk stamp : Nat) (f : Thread → Thread) : Device :=
  if (d.thread tk).elim false (fun x => x.stamp == stamp) then d.mapThread tk f
  else
    let rest := d.streams.left.map (fun e => if e.1 = tk ∧ e.2.stamp = stamp then (e.1, f e.2) else e)
    { d with streams := { d.streams with left := rest } }

def threadReg (tk : Nat) : Nat := Reg.steThread (tk / 256) (tk % 256)

/-- STE_THREADt.STATE (R224). -/
def Device.threadState (d : Device) (tk : Nat) : Nat := d.regF (threadReg tk) 60 3

def Device.setThreadState (d : Device) (tk st : Nat) : Device := d.setF (threadReg tk) 60 3 st

/-- STE_THREADt.COMMITTED (R218, R230). -/
def Device.committedBytes (d : Device) (tk : Nat) : Nat := d.regF (threadReg tk) 0 48

def srcKind (e : List Word) : Nat := fld (wd e 0) 0 4
def dstKind (e : List Word) : Nat := fld (wd e 0) 4 4
def wheelClass (e : List Word) : Nat := fld (wd e 0) 8 2
def ndim (e : List Word) : Nat := fld (wd e 0) 10 3
def runUnits (e : List Word) : Nat := fld (wd e 0) 16 8 + 1

/-- COUNT of dimension `k` = 1-5 (R225): 1 for a dimension that is not used. -/
def dimCount (e : List Word) (k : Nat) : Nat := if k < ndim e then fld (wd e (6 + 2 * (k - 1))) 0 16 + 1 else 1

/-- A 32-bit field read as a signed number. -/
def signed32 (n : Nat) : Int := if n < 2 ^ 31 then n else (n : Int) - 2 ^ 32

def srcStride (e : List Word) (k : Nat) : Int := signed32 (fld (wd e (5 + 2 * (k - 1))) 0 32)
def dstStride (e : List Word) (k : Nat) : Int := signed32 (fld (wd e (5 + 2 * (k - 1))) 32 32)

/-- Units of a descriptor (R227). -/
def totalUnits (e : List Word) : Nat :=
  runUnits e * dimCount e 1 * dimCount e 2 * dimCount e 3 * dimCount e 4 * dimCount e 5

/-- Index i[k] of unit `n`, dimension 1 running fastest after the run (R227). -/
def unitIndex (e : List Word) (n k : Nat) : Nat :=
  let q := n / runUnits e
  let below := ((List.range (k - 1)).map (fun j => dimCount e (j + 1))).foldl (· * ·) 1
  (q / below) % dimCount e k

/-- Byte offset of unit `n` at one side, from the strides of that side (R227). -/
def unitOffset (e : List Word) (stride : Nat → Int) (n : Nat) : Int :=
  ((List.range 5).map (fun j => (unitIndex e n (j + 1) : Int) * stride (j + 1))).foldl (· + ·) 0 +
    64 * ((n % runUnits e : Nat) : Int)

/-- Source and destination of unit `n` as computed (R227). -/
def Thread.srcAt (x : Thread) (n : Nat) : Int := x.srcBase + unitOffset x.desc (srcStride x.desc) n
def Thread.dstAt (x : Thread) (n : Nat) : Int := x.dstBase + unitOffset x.desc (dstStride x.desc) n

/-- Source and destination address of unit `n`. -/
def Thread.srcAddr (x : Thread) (n : Nat) : Nat := (x.srcAt n % 2 ^ 64).toNat
def Thread.dstAddr (x : Thread) (n : Nat) : Nat := (x.dstAt n % 2 ^ 64).toNat

/-- floor(n x PACE / 65,536) (R230). -/
def Thread.pace (x : Thread) (n : Nat) : Nat := n * fld (wd x.desc 4) 0 32 / 65536

/-- Due time of unit `n` (R230). -/
def Thread.due (x : Thread) (n : Nat) : Nat := x.stamp + fld (wd x.desc 3) 0 32 + x.pace n

/-- gcyc from which unit `n` may be read (R230). -/
def Thread.avail (x : Thread) (n : Nat) : Nat :=
  if bit (wd x.desc 0) 35 then x.stamp + fld (wd x.desc 3) 32 32 + x.pace n else 0

/-- A thread started at `stamp` belongs to the task that holds the Dome now (R223). -/
def Device.ownStamp (d : Device) (stamp : Nat) : Bool :=
  d.lantern.run.elim false (fun r => r.start.elim false (fun s => decide (s ≤ stamp)))

def Device.ownThread (d : Device) (x : Thread) : Bool := d.ownStamp x.stamp

/-- The task that holds the Dome is marked, if the thread is its own. -/
def Device.markStamp (d : Device) (stamp causeBit : Nat) : Device :=
  if d.ownStamp stamp then d.markPoison causeBit else d

def Device.markOwner (d : Device) (x : Thread) (causeBit : Nat) : Device := d.markStamp x.stamp causeBit

/-- The fence of a parked signal is met (R218). -/
def Device.fenceMet (d : Device) (p : Parked) : Bool := decide (p.bytes ≤ d.committedBytes (256 * p.engine + p.thread))

/-- The parked signals whose fences a commit of thread `tk` has met have their commit gcyc (R218). -/
def Device.noteFences (d : Device) (tk : Nat) : Device :=
  let meets := fun (p : Parked) => decide (256 * p.engine + p.thread = tk) && p.metAt.isNone && d.fenceMet p
  if d.lantern.parked.any meets then
    let ps := d.lantern.parked.map (fun p => if meets p then { p with metAt := some d.now } else p)
    { d with lantern := { d.lantern with parked := ps } }
  else d

/-- One unit of thread `tk`, started at `stamp`, is committed (R230): the class's unit counter and, unless the number has been
started anew, the committed count. -/
def Device.commitUnit (d : Device) (tk stamp : Nat) : Device :=
  match d.threadOf tk stamp with
  | none => d
  | some x =>
    let k := tk / 256
    let d := if (d.thread tk).elim true (fun y => y.stamp == stamp) then
        (d.setF (threadReg tk) 0 48 (d.committedBytes tk + 64)).noteFences tk
      else d
    let cnt := match wheelClass x.desc with
      | 0 => Reg.steRdUnitCnt k
      | 1 => Reg.steWrUnitCnt k
      | _ => Reg.steRmUnitCnt k
    (d.bump cnt 1).mapThreadOf tk stamp (fun x => { x with committed := x.committed + 1, settled := x.settled + 1 })

/-- One unit of thread `tk`, started at `stamp`, is discarded as late (R232). -/
def Device.lateUnit (d : Device) (tk stamp : Nat) : Device :=
  match d.threadOf tk stamp with
  | none => d
  | some x =>
    ((d.bump (Reg.steDeadlineCnt (tk / 256)) 1).markOwner x 52).mapThreadOf tk stamp
      (fun x => { x with settled := x.settled + 1 })

/-! ### Regions and ring quarters (R235 - R237) -/

/-- Entry of the region table: frames 32,774 - 32,805, eight bytes each (R235, R418). -/
def Device.region (d : Device) (r : Nat) : Word :=
  BitVec.ofNat 64 (bytesNat (memRead d.cfgMem (scheduleBase + 1024 * 32774 + 8 * r) 8))

def regionBase (w : Word) : Nat := fld w 0 20
def regionLines (w : Word) : Nat := fld w 20 20
def regionResident (w : Word) : Bool := bit w 40

def cacheLines : Nat := 786432

def Device.quarter (d : Device) (k r : Nat) : Option Quarter := mapGet none d.streams.quarters (4096 * k + r)

def Device.setQuarter (d : Device) (k r : Nat) (x : Option Quarter) : Device :=
  { d with streams := { d.streams with quarters := mapPut none d.streams.quarters (4096 * k + r) x } }

/-- Line `i` of the quarter of region `r` in slice `k`, as a line number of the cache. -/
def Device.quarterLine (d : Device) (k r i : Nat) : Nat := cacheLines * k + regionBase (d.region r) + i

/-- The ring quarter is reset: both positions 0, every line EMPTY (R236). -/
def Device.resetQuarter (d : Device) (k r : Nat) (writer : Option (Nat × Nat)) : Device :=
  let w := d.region r
  let a := d.quarterLine k r 0
  let d := { d with streams := { d.streams with full := mapClear d.streams.full a (a + regionLines w) } }
  d.setQuarter k r (some { wr := 0, rd := 0, writer := writer })

/-- Every stream-cache line is zeros with a valid check and EMPTY, and the prefetch detectors are empty (R239, R240). -/
def Device.clearCache (d : Device) : Device :=
  { d with streams := { d.streams with cache := Store.initial, full := [], detectors := [], prefetched := [] } }

/-- A line of the cache is written; in a ring it becomes FULL with the lap of its unit (R236, R237). -/
def Device.writeCacheLine (d : Device) (line : Nat) (u : DUnit) (lap : Option Nat) : Device :=
  { d with streams := { d.streams with
      cache := d.streams.cache.putUnit line u,
      full := match lap with
        | some l => mapPut none d.streams.full line (some l)
        | none => d.streams.full } }

/-- A unit read from a cache line, with what its SECDED found word by word (R235): corrections and uncorrectable words are
counted in the slice's engine, and a unit with an uncorrectable word is poisoned zeros. -/
def Device.readCacheLine (d : Device) (line : Nat) (e : Ecc) : DUnit × Device :=
  let k := line / cacheLines
  let u := d.streams.cache.unit line
  let d := d.eccCount (Reg.steScCorrCnt k) (Reg.steScUncorrCnt k) e
  if e.bad ≠ 0 then (poisonUnit, d.markPoison 49) else if u.pois then (poisonUnit, d) else (u, d)

/-! ### Endpoints (R226, R227, R500) -/

/-- A system address of a stream thread of function `f` (R226, R500). -/
def sysTarget (f a : Nat) : NetTarget :=
  if a / 2 ^ 62 = 1 then .host f (a % 2 ^ 62)
  else if 0x10000000000 ≤ a ∧ a < 0x10020000000 then .tile a
  else .mem (a % 2 ^ 62)

/-- A cached translation of function `f` that covers `a` and allows the access (R244, R247). -/
def Device.tlbFind (d : Device) (k f a : Nat) (write : Bool) : Option TlbEntry :=
  (mapGet [] d.streams.tlb k).find? (fun e =>
    e.func == f && decide (e.page ≤ a) && decide (a < e.page + e.size) && (if write then e.write else e.read))

/-- Where unit `n` of a thread of engine `k` lies at its source or destination; none where the translation is not cached
(R226, R227, R244). -/
def Device.endTarget (d : Device) (k : Nat) (x : Thread) (dst : Bool) (n : Nat) : Option NetTarget :=
  let kind := if dst then dstKind x.desc else srcKind x.desc
  let a := if dst then x.dstAddr n else x.srcAddr n
  let at_ := if dst then x.dstAt n else x.srcAt n
  let w := wd x.desc (if dst then 2 else 1)
  let size := 64 * max 1 (regionLines (d.region (fld w 0 12)))
  match kind with
  | 0 => some (sysTarget x.func a)
  | 1 => (d.tlbFind k x.func (a % 2 ^ 48) dst).map (fun e =>
      let p := e.target + (a % 2 ^ 48 - e.page)
      if e.host then .host x.func p else .mem p)
  | 2 => some (.cache (fld w 12 2) (fld w 0 12) n (at_ % (size : Int)).toNat (!regionResident (d.region (fld w 0 12))))
  | 3 => some (.queue (if bit w 16 then d.lantern.run.elim 0 (fun r => d.ctxQueue r.ctx) else fld w 0 16))
  | _ => some .peer

/-! ### Credits (R231, R325) -/

/-- Units that may still come to a queue from the threads that feed it: issued, or offered to the feeder of a LINK thread, and
not settled. -/
def Device.toQueue (d : Device) (q : Option Nat) : Nat :=
  (d.streams.threads.filterMap (fun e => e.2.bind (fun x =>
    if dstKind x.desc = 3 ∧ q.elim true (fun q => d.endTarget 0 x true 0 = some (.queue q)) then
      some (max x.next x.offered - x.settled)
    else none))).sum

/-- Cells that the queue manager grants for queue `q` (R231, R300). -/
def Device.queueCredits (d : Device) (q : Nat) : Nat :=
  let x := d.queue q
  let m := fld x.cfg 19 19
  let free := d.poolFree - d.toQueue none
  if m = 0 then free else min free (m - (x.poolCells + x.spillCells) - d.toQueue (some q))

/-- The TOTAL that LINK thread `x` can offer (R325): the units that it has passed on or has credits for.
[DEDUCED, unsafe: notes/assumptions/157] -/
def Device.linkTotal (d : Device) (x : Thread) : Nat :=
  min (totalUnits x.desc) (match d.endTarget 0 x true 0 with
    | some (.queue q) => x.offered + d.queueCredits q
    | _ => x.credits.elim (totalUnits x.desc) (x.next + ·))

/-- A LINK thread whose space has grown sends a CREDIT unit to the thread that feeds it (R231, R325). -/
def Device.sendCredit (d : Device) (tk : Nat) : Device :=
  match d.thread tk with
  | none => d
  | some x =>
    let n := d.linkTotal x
    if srcKind x.desc ≠ 4 ∨ x.stop.isSome = true ∨ x.fault.isSome = true ∨ n ≤ x.offered then d
    else
      let p := Config.feederThread tk % 1024
      (d.setThread tk (some { x with offered := n })).sendMessage (tk / 256) 8 (Config.feederLink tk % 64) 2
        [p / 256, p % 256, n]

/-- LINK threads that fill queues offer the cells that have become free (R231). -/
def Device.offerCells (d : Device) : Device :=
  (d.streams.threads.filterMap (fun e =>
    if e.2.elim false (fun x => srcKind x.desc == 4 && dstKind x.desc == 3) then some e.1 else none)).foldl
    (fun d tk => d.sendCredit tk) d

/-! ### Taking from a ring (R236) -/

/-- The next unit of a ring quarter is taken by a reader (R236): a FULL line of the right lap is taken, becomes EMPTY and
returns a credit to its writer; otherwise the reader takes poisoned zeros and a tag miss is counted. -/
def Device.takeRing (d : Device) (k r : Nat) (e : Ecc) : DUnit × Device :=
  let w := d.region r
  let q := (d.quarter k r).getD { wr := 0, rd := 0, writer := none }
  let m := q.rd
  let line := d.quarterLine k r (m % max 1 (regionLines w))
  let d := d.setQuarter k r (some { q with rd := m + 1 })
  if mapGet none d.streams.full line = some (m / max 1 (regionLines w) % 256) then
    let (u, d) := d.readCacheLine line e
    let d := { d with streams := { d.streams with full := mapPut none d.streams.full line none } }
    let d := match q.writer with
      | some (tk, stamp) =>
        if (d.thread tk).elim false (fun x => x.stamp == stamp) then
          (d.mapThread tk (fun x => { x with credits := x.credits.map (· + 1) })).sendCredit tk
        else d
      | none => d
    (u, d)
  else (poisonUnit, (d.bump (Reg.steTagMissCnt k) 1).markPoison 52)

/-! ### The limit of a drain (R241) -/

/-- The gcyc by which a full drain must have ended (R241). -/
def Thread.drainLimit (x : Thread) : Nat := x.due (totalUnits x.desc - 1) + fld (wd x.desc 4) 32 32

/-- The limit of a drain has passed, and the thread is not DONE: one missed deadline (R241). -/
def Device.drainLate (d : Device) (tk stamp : Nat) : Device := (d.bump (Reg.steDeadlineCnt (tk / 256)) 1).markStamp stamp 52

/-! ### Stopping (R243) -/

/-- A thread as its stop leaves it: no further request, and read data and units that have not gone on are dropped. -/
def Thread.halted (x : Thread) (c : StopCause) : Thread :=
  { x with stop := some c, outbox := [], inbox := [], walk := none, early := [] }

/-- Thread `tk` is stopped, if it is neither IDLE, DONE nor stopped already: it issues no further request, and what waits
for a transmit slot is not sent. [DEDUCED, unsafe: notes/assumptions/45] -/
def Device.stopThread (d : Device) (tk : Nat) (c : StopCause) : Device :=
  let st := d.threadState tk
  if st = 1 ∨ st = 2 then d.mapThread tk (fun x => if x.stop.isSome then x else x.halted c) else d

/-- Every thread that is not DONE is stopped. -/
def Device.stopThreads (d : Device) (c : StopCause) : Device :=
  (d.streams.threads.map (·.1)).foldl (fun d tk => d.stopThread tk c) d

/-- A thread that is stopped or faulted and not finished, or has writes on their way. -/
def Thread.unfinished (x : Thread) : Bool := x.stop.isSome || x.fault.isSome || decide (x.writes ≠ 0)

/-- Some stopped or faulted thread of the task that holds the Dome has not finished yet. -/
def Device.threadsBusy (d : Device) : Bool :=
  d.streams.threads.any (fun e => e.2.elim false (fun x => x.stop.isSome || x.fault.isSome)) ||
    d.streams.left.any (fun e => d.ownThread e.2)

/-- The register of a stream thread lies at `a`. -/
def isThreadReg (a : Nat) : Bool :=
  decide (0x500000 ≤ a) && decide (a < 0x540000) && decide (0x1000 ≤ a % 0x10000) && decide (a % 0x10000 < 0x1800)

/-- At a start cycle every thread becomes IDLE; its committed count is kept, and what an unfinished one has issued goes on
(R223). -/
def Device.idleThreads (d : Device) : Device :=
  let d := (d.regs.filter (fun e => isThreadReg e.1)).foldl (fun d e => d.setF e.1 60 3 0) d
  { d with streams := { d.streams with
    threads := [],
    left := d.streams.left ++ d.streams.threads.filterMap (fun e => e.2.bind (fun x =>
      if x.unfinished then some (e.1, x) else none)) } }

/-- STE_STATUS.ACTIVE: threads RUNNING or DRAINING (R254). -/
def Device.activeThreads (d : Device) (k : Nat) : Nat :=
  (d.streams.threads.filter (fun e =>
    decide (e.1 / 256 = k) && (decide (d.threadState e.1 = 1) || decide (d.threadState e.1 = 2)))).length

/-- STE_STATUS.TASK_OWNED (R223, R254): a task has begun, and a thread of the engine has been started in it. -/
def Device.taskOwned (d : Device) (k : Nat) : Bool :=
  d.lantern.run.elim false (fun r => decide (r.retries ≠ 0) || r.start.elim false (fun s => decide (s ≤ d.now))) &&
    d.regs.any (fun e => isThreadReg e.1 && decide ((e.1 - 0x500000) / 0x10000 = k) && decide (fld e.2 60 3 ≠ 0))

end Sys2Proof.Machine
end

