-- ==== Sys2Proof/Machine/Tasks.lean ====
section
/-!
DEFINITION. The life of a task in the Lantern, as far as several commands share it: heads of contexts and refusals,
completion records, aborts and task faults, tallies and their signals, and the floods of a cluster master
(R183 - R221, R349, R350).
-/
namespace Sys2Proof.Machine

open Sys2Proof

/-- Tasks of a context, in acceptance order. -/
def Device.ctxTasks (d : Device) (n : Nat) : List Task := d.lantern.tasks.filter (fun t => t.ctx == n)

def Device.task (d : Device) (id : Nat) : Option Task := d.lantern.tasks.find? (fun t => t.id == id)

/-- The task with number `id` changed by `f`. -/
def Device.mapTask (d : Device) (id : Nat) (f : Task → Task) : Device :=
  { d with lantern := { d.lantern with tasks := d.lantern.tasks.map (fun t => if t.id = id then f t else t) } }

def Device.dropTask (d : Device) (id : Nat) : Device :=
  { d with lantern := { d.lantern with tasks := d.lantern.tasks.filter (fun t => t.id != id) } }

/-- Start conditions of every waiting task are to be evaluated again in the gcyc after this one (R215). -/
def Device.reevaluate (d : Device) : Device := d.noteEval (fun _ => true) (d.now + 1)

/-- W1.PEND of a context: records accepted and not started, the head excluded (R203). -/
def Device.refreshPend (d : Device) (n : Nat) : Device :=
  if n ≤ 49151 then d.setF (Reg.ctxW1 n) 16 15 ((d.ctxTasks n).filter (fun t => t.state == .queued)).length else d

/-- An act of the Lantern is fixed for gcyc `g`. -/
def Device.dueAt (d : Device) (g : Nat) (a : DueAct) : Device :=
  { d with lantern := { d.lantern with dues := d.lantern.dues ++ [{ at_ := g, act := a }] } }

/-! ### Cluster floods (R349, R350) -/

def linksOf (w : Word) : List Nat := (List.range 64).filter (fun i => bit w i)

/-- A control unit sent on every membership link except `from_` (R350): the Lantern's own as packets to the Turrets (R279), one
that is forwarded by the Turrets themselves. -/
def Device.sendFlood (d : Device) (typ : Nat) (words : List Nat) (from_ : Option Nat) : Device :=
  match d.cluster.member with
  | none => d
  | some m => ((linksOf m.links).filter (fun i => some i != from_)).foldl (fun d i =>
      if from_.isSome then d.sendControl i typ words else d.sendMessage 4 7 i typ words) d

/-- A flood is known from now on: the last 1,024 are remembered (R350). [DEDUCED, unsafe: notes/assumptions/81] -/
def Device.noteFlood (d : Device) (typ seq : Nat) : Device :=
  { d with cluster := { d.cluster with seen := (typ, seq) :: d.cluster.seen.take 1023 } }

/-- The master originates a flood: it takes the next FLOOD_SEQ (R350). -/
def Device.originate (d : Device) (typ : Nat) (words : List Nat) : Device :=
  let q := d.cluster.nextSeq
  let d := { d with cluster := { d.cluster with nextSeq := (q + 1) % 65536 } }.noteFlood typ q
  d.sendFlood typ (words ++ [q]) none

/-- A control unit that the Lantern sends up the cluster tree (R349), and one that is forwarded up (R350). -/
def Device.sendUp (d : Device) (typ : Nat) (words : List Nat) : Device :=
  d.cluster.member.elim d (fun m => d.sendMessage 4 7 m.upLink typ words)

def Device.relayUp (d : Device) (typ : Nat) (words : List Nat) : Device :=
  d.cluster.member.elim d (fun m => d.sendControl m.upLink typ words)

/-! ### Flags (R56, R200) -/

/-- SPR_FLAGS of Spire `n` lies at this offset of every Spire's page. -/
def isSpireReg (a off : Nat) : Bool :=
  decide (0x1000000 ≤ a) && decide (a < 0x2000000) && decide (a % 0x1000 = off)

/-- The OR of SPR_FLAGS over all Spires (R56). -/
def Device.spireFlags (d : Device) : Word :=
  d.regs.foldl (fun w e => if isSpireReg e.1 8 then w ||| e.2 else w) 0

/-! ### Completion records (R200 - R204) -/

/-- The words W0-W6 of a completion record issued in gcyc `fin` (R200). -/
def recordWords (t : Task) (e : EndRecord) (fin : Nat) : List Word :=
  [BitVec.ofNat 64 e.start, BitVec.ofNat 64 fin,
   mkWord [(0, t.ctx), (16, t.slot), (32, e.status), (36, e.retries), (40, fld e.flags 0 4), (44, fld e.flags 8 4),
           (48, e.cause.toNat)],
   mkWord [(0, e.epoch), (32, e.firstFault.getD 0xFFFF)],
   wd t.words 4,
   mkWord [(0, e.firstBad.getD 0), (10, b2n e.firstBad.isSome), (11, e.bad)],
   0]

/-- Counters of the end states (R202). -/
def Device.countEnd (d : Device) (status : Nat) : Device :=
  let d := d.bump Reg.lntTaskCnt 1
  if status = 0xA then d.bump Reg.lntAbortCnt 1
  else if status = 0xB then d.bump Reg.lntFaultCnt 1
  else if status = 0xC then d.bump Reg.lntRefuseCnt 1
  else d

/-- The context record after a completion record of gcyc `fin` (R203, R204). -/
def Device.endContext (d : Device) (t : Task) (status fin : Nat) : Device :=
  let n := t.ctx
  if n ≤ 49151 then
    let more := !(d.ctxTasks n).isEmpty
    let d := d.setF (Reg.ctxW0 n) 20 4 (if more then 5 else status)
    let d := d.setF (Reg.ctxW1 n) 0 10 t.slot
    let d := d.setReg (Reg.ctxW2 n) (BitVec.ofNat 64 fin)
    (d.setF (Reg.ctxW3 n) 0 48 (d.regF (Reg.ctxW3 n) 0 48 + 1)).refreshPend n
  else d

/-- The completion record of a task is issued in gcyc `fin`: bytes 0-55, then W7 with the ring's next SEQ; the MSI-X message
of the record follows in the next gcyc (R22, R189, R200, R377, R378). The task is gone. -/
def Device.putRecord (d : Device) (t : Task) (e : EndRecord) (fin : Nat) : Device :=
  let f := d.regF (Reg.hifRingCtl t.ring) 56 6
  let a := (wd t.words 1).toNat
  let d := (d.dropTask t.id).countEnd e.status
  let d := d.endContext t e.status fin
  let d := d.hostWrite f (d.pasid t.ring) a (wordsBytes (recordWords t e fin)) false
  let seq := d.reg (Reg.hifRingSeq t.ring) + 1
  let d := d.setReg (Reg.hifRingSeq t.ring) seq
  let d := d.hostWrite f (d.pasid t.ring) (a + 56) (natBytes 8 seq.toNat) false
  if bit (wd t.words 0) 30 then d.dueAt (fin + 1) (.msix f (fld (wd t.words 0) 32 5)) else d

/-- A task that never started has ended: its completion record is to be issued in gcyc `fin`, with that gcyc as START_GCYC
(R183, R190). -/
def Device.endUnstarted (d : Device) (t : Task) (e : EndRecord) (fin : Nat) : Device :=
  if t.remote then (d.dropTask t.id).countEnd e.status
  else ((d.mapTask t.id (fun t => { t with state := .ended, consumed := [] })).dueAt fin (.record t.id e)).refreshPend t.ctx

/-- The record of a task that ends before its selection: no flags, no cause; EPOCH of its slot, but 0 for REFUSED (R178,
R183, R190, R201). -/
def Device.recordUnstarted (d : Device) (t : Task) (status fin : Nat) : Device :=
  d.endUnstarted t
    { status := status, start := fin, retries := 0, flags := 0, cause := 0,
      epoch := if status = 0xC then 0 else fld (wd (d.slotHeader t.slot) 0) 32 32,
      firstFault := none, bad := 0, firstBad := none } fin

/-! ### Loads (R408 - R411) -/

/-- KIND and PLANES of the header of a load (R411). -/
def Load.kind (l : Load) : Nat := fld (wordAt l.header 1) 40 4
def Load.planes (l : Load) : Nat := fld (wordAt l.header 1) 44 3

/-- The header has been accepted (R412). -/
def Load.accepted (l : Load) : Bool := l.phase != .header && l.phase != .refused

/-- A FULL or RELOAD load has been accepted: the Lantern selects no task (R410). -/
def Device.reloading (d : Device) : Bool := d.load.elim false (fun l => l.accepted && decide (l.kind ≤ 2))

/-- The load in progress writes the schedule plane anew: records stay queued through it (R410). -/
def Device.reloadsSlots (d : Device) : Bool :=
  d.load.elim false (fun l => l.accepted && decide (l.kind ≤ 2) && decide (4 ≤ l.planes))

/-- A task whose slot or kind makes it end REFUSED when it becomes head (R183, R195). -/
def Device.refuses (d : Device) (t : Task) : Bool :=
  !t.remote && !d.lantern.rewriting.contains t.slot && !d.reloadsSlots &&
    (!d.slotValid t.slot || (bit (wd (d.slotHeader t.slot) 0) 23 && !d.isMaster))

/-- The first task of context `n` becomes its head in gcyc `g`, if it is still QUEUED and no tally save of the context is
in progress: it waits for its conditions, evaluated from the next gcyc on, or it is refused (R183, R215). -/
def Device.settleHead (d : Device) (n g : Nat) : Device :=
  if d.lantern.save.elim false (fun s => s.ctx == n) then d
  else match d.ctxTasks n with
    | [] => d
    | t :: _ =>
      if t.state ≠ .queued then d
      else if d.refuses t then d.recordUnstarted t 0xC (g + 1)
      else
        let d := (d.mapTask t.id (fun t => { t with state := .waiting, since := g })).refreshPend n
        d.noteEval (fun u => u.id == t.id) (g + 1)

/-- The next task of a context becomes head in gcyc `g`, at once or when that gcyc comes. -/
def Device.nextHead (d : Device) (n g : Nat) : Device :=
  if d.now < g then d.dueAt g (.head n) else d.settleHead n g

/-! ### Tallies (R207 - R213) -/

def Device.tally (d : Device) (p : Nat) : Nat := d.regF (Reg.tlyValue p) 0 32

def Device.setTally (d : Device) (p v : Nat) : Device := d.setReg (Reg.tlyValue p) (BitVec.ofNat 64 (v % 2 ^ 32))

/-- TLY_LAST_ERR after the events of one gcyc: the most recent of the lowest KIND among them, or what it was (R221). -/
def lastError (before : Word) (es : List Word) : Word :=
  (es.foldl (fun (a : Option Word) e => if a.elim false (fun x => decide (fld x 61 3 < fld e 61 3)) then a else some e)
    none).getD before

/-- Events for TLY_LAST_ERR in the present gcyc. -/
def Device.errsNow (d : Device) : List Word := if d.lantern.errs.1 = d.now then d.lantern.errs.2.2 else []

/-- The events of the present gcyc become `es`, and TLY_LAST_ERR follows them. -/
def Device.setErrs (d : Device) (es : List Word) : Device :=
  let before := if d.lantern.errs.1 = d.now then d.lantern.errs.2.1 else d.reg Reg.tlyLastErr
  { d.setReg Reg.tlyLastErr (lastError before es) with lantern := { d.lantern with errs := (d.now, before, es) } }

/-- TLY_LAST_ERR is written as one word (R221); of two events of one gcyc the lower KIND is kept. -/
def Device.tallyError (d : Device) (kind dev ctx vid phys : Nat) : Device :=
  d.setErrs (d.errsNow ++ [mkWord [(61, kind), (48, dev), (32, ctx), (24, vid), (0, phys)]])

/-- Entry `v` of translation table `t` (R208, R221). -/
def Device.tmapEntry (d : Device) (t v : Nat) : Nat :=
  if v < 16 then 0 else d.regF (Reg.tlyTmap t (v / 2)) (16 * (v % 2)) 16

/-- Physical tally of a shared virtual id 16-255 of a context, if it is mapped (R208).
[DEDUCED, safe: notes/assumptions/39] -/
def Device.translateVid (d : Device) (ctx v : Nat) : Option Nat :=
  let w := d.ctx ctx 0
  if v < 16 ∨ bit w 7 = false ∨ 480 ≤ fld w 8 9 then none
  else
    let p := d.tmapEntry (fld w 8 9) v
    if p < 32 then none else some p

/-- The private bank of context `n`: that of its running task up to its tally save (R207, R220).
[DEDUCED, unsafe: notes/assumptions/145] -/
def Device.privateBank (d : Device) (n : Nat) : Option Nat :=
  match d.lantern.run.filter (fun r => r.ctx == n), d.lantern.save.filter (fun v => v.ctx == n),
      d.lantern.oldBank.filter (fun v => v.ctx == n && decide (d.now ≤ v.done)) with
  | some r, _, _ => some r.bank
  | none, some v, _ => some v.bank
  | none, none, some v => some v.bank
  | none, none, none => none

/-- Physical tally that a signal reaches, if any (R208): private ids only from their own context. -/
def Device.resolveSig (d : Device) (s : Sig) : Option Nat :=
  match s.phys with
  | some p => some p
  | none =>
    if s.vid < 16 then
      if s.cross || s.host then none else (d.privateBank s.ctx).map (fun b => 16 * b + s.vid)
    else d.translateVid s.ctx s.vid

/-- A start condition of the task `t` names tally `p` (R215). -/
def Device.namesTally (d : Device) (p : Nat) (t : Task) : Bool :=
  (((d.slotHeader t.slot).drop 3).take 4).any (fun e => bit e 63 && d.translateVid t.ctx (fld e 48 8) == some p)

/-- Tally `p` has been written or signalled in this gcyc: tasks that wait on it are evaluated in the next (R215). -/
def Device.tallyTouched (d : Device) (p : Nat) : Device := d.noteEval (d.namesTally p) (d.now + 1)

/-- What has been added to tally `p` in this gcyc, if anything has (R213). -/
def Device.added (d : Device) (p : Nat) : Option Applied :=
  if d.lantern.applied.1 = d.now then d.lantern.applied.2.find? (fun e => e.tally == p) else none

def Device.appliedNow (d : Device) (p : Nat) : Nat := (d.added p).elim 0 (·.sum)

/-- Tally `p` has saturated in this gcyc (R212). -/
def Device.satNow (d : Device) (p : Nat) : Bool := (d.added p).elim false (·.sat)

/-- The sum added to tally `p` in this gcyc becomes `n`. -/
def Device.setAdded (d : Device) (p n : Nat) (sat : Bool) : Device :=
  let old := if d.lantern.applied.1 = d.now then d.lantern.applied.2.filter (fun e => e.tally != p) else []
  { d with lantern := { d.lantern with applied := (d.now, old ++ [{ tally := p, sum := n, sat := sat }]) } }

/-- One sum added to a tally by device `dev`, with saturation applied and counted once in a gcyc (R212, R213).
[DEDUCED, unsafe: notes/assumptions/146] -/
def Device.addTally (d : Device) (p n dev : Nat) : Device :=
  let was := d.satNow p
  let over_ := decide (2 ^ 32 ≤ d.tally p + n)
  let e := ((d.setAdded p (d.appliedNow p + n) (was || over_)).setTally p (min (2 ^ 32 - 1) (d.tally p + n))).tallyTouched p
  if over_ && !was then (e.bump Reg.tlySatCnt 1).tallyError 1 dev 0 0 p else e

/-- A saturation of tally `p` in this gcyc is undone by a host write, which comes before the signals of its gcyc (R213). -/
def Device.undoSaturation (d : Device) (p : Nat) : Device :=
  if d.satNow p = false then d
  else (d.setReg Reg.tlySatCnt (d.reg Reg.tlySatCnt - 1)).setErrs
    (d.errsNow.filter (fun w => !(fld w 61 3 == 1 && fld w 0 16 == p)))

/-- A host write of a tally value (R213, R221): the value is set, and counts added in the same gcyc stay added to it. The
private banks are out of reach. -/
def Device.writeTally (d : Device) (p : Nat) (v : BitVec 32) : Device :=
  if p < 32 then d.bump Reg.tlyUnmapCnt 1
  else
    let n := d.appliedNow p
    let d := ((d.undoSaturation p).setTally p v.toNat).tallyTouched p
    if n = 0 then d else (d.setAdded p 0 false).addTally p n d.device

/-- Thresholds that the task `t` consumed are to be returned in gcyc `g` (R217). -/
def Device.returnThresholds (d : Device) (t : Task) (g : Nat) : Device :=
  if t.consumed.isEmpty then d else d.dueAt g (.counts t.consumed)

/-! ### The end of holding the Dome -/

/-- The idle wheel is loaded in every engine (R234). -/
def Device.loadIdleWheels (d : Device) : Device :=
  (List.range 4).foldl (fun d k => d.setReg (Reg.steWheel k) (d.reg (Reg.steIdleWheel k))) d

/-- The idle timer is armed from gcyc `g` on, unless a task is READY or further on (R189).
[DEDUCED, safe: notes/assumptions/12] -/
def Device.armIdle (d : Device) (g : Nat) : Device :=
  if d.lantern.run.isSome || d.lantern.tasks.any (fun t => t.state == .ready) then d
  else { d with belfry := { d.belfry with idleFrom := some g } }

/-- The idle timer is armed from gcyc `g` on where it does not run: a task that has ended before its start kept it from
running (R22). -/
def Device.rearmIdle (d : Device) (g : Nat) : Device := if d.belfry.idleFrom.isSome then d else d.armIdle g

/-- The Dome is free from gcyc `g` on (R187); links idle for ASPM count from then (R362). -/
def Device.freeDome (d : Device) (g : Nat) : Device :=
  { d with lantern := { d.lantern with run := none, domeFree := g }, hif := { d.hif with idleSince := g } }

/-- What the completion record of the attempt `r` says, but for the flags and a cluster's members (R194, R200). -/
def Run.endRecord (r : Run) (status start : Nat) : EndRecord :=
  { status := status, start := start, retries := r.retries, flags := 0, cause := causeOrDefault r,
    epoch := fld (wd r.header 0) 32 32, firstFault := r.firstFault, bad := 0, firstBad := none }

/-- The start of a task in STARTING is cancelled (R190, R219): its record, which says `e`, is issued in gcyc `fin`, and the
clocks follow the idle timer. -/
def Device.cancelStart (d : Device) (r : Run) (e : EndRecord) (fin : Nat) : Device :=
  match d.task r.task with
  | none => d.freeDome (fin + 1)
  | some t => (((d.returnThresholds t fin).freeDome (fin + 1)).endUnstarted t e fin).armIdle fin

/-- In a cluster, the master's fault ends the task as an abort that it decides in gcyc `g` (R197). -/
def Device.floodAbort (d : Device) (ctx g : Nat) : Device :=
  if d.cluster.abortFrom.isSome then d
  else ({ d with cluster := { d.cluster with abortFrom := some g, reports := [] } }).originate 0x14 [ctx]

/-- The task that holds or is taking the Dome is ended by a fault seen in gcyc `g` (R219, R248): a start is cancelled, a
RUNNING task issues no step after g + 1, a COMPLETING task takes the end state FAULT. In a cluster, the master floods
ABORT and a member reports the fault (R197). -/
def Device.faultTask (d : Device) (g : Nat) : Device :=
  match d.lantern.run with
  | none => d
  | some r =>
    match d.task r.task with
    | none => d
    | some t =>
      match t.state with
      | .starting =>
        if r.cluster then
          let d := (d.returnThresholds t (g + 2)).mapTask t.id (fun t => { t with consumed := [] })
          (d.setRun (some { r with aborted := true, start := none, decided := some 0xA })).floodAbort r.ctx (g + 1)
        else d.cancelStart r (r.endRecord 0xB (g + 2)) (g + 2)
      | .running =>
        if r.stopAfter.isSome then d.setRun (some { r with fault := true })
        else
          let d := d.setRun (some { r with fault := true, stopAfter := some (g + 1) })
          let d := d.stopThreads .other
          if r.cluster = false then d
          else if d.isMaster then d.floodAbort r.ctx g
          else d.sendUp 0x16 [0xB, fld d.spireFlags 0 4, fld d.spireFlags 8 4, r.cause.toNat, 1, d.device, 1, 1]
      | .completing =>
        d.setRun (some { r with fault := true, decided := r.decided.map (fun x => if x = 0xA then x else 0xB) })
      | _ => d

/-- The head task of context `n` is aborted in gcyc `g`, and with `queuedToo` every later QUEUED task of it (R190). -/
def Device.abortContext (d : Device) (n g : Nat) (queuedToo : Bool) : Device :=
  let later := (d.ctxTasks n).drop 1
  let d := match d.ctxTasks n with
    | [] => d
    | t :: _ =>
      match t.state with
      | .queued | .waiting | .ready => ((d.returnThresholds t (g + 1)).recordUnstarted t 0xA (g + 1)).rearmIdle (g + 1)
      | .starting => d.lantern.run.elim d (fun r => d.cancelStart r (r.endRecord 0xA (g + 1)) (g + 1))
      | .running =>
        (d.mapRun (fun r => { r with aborted := true, stopAfter := some (r.stopAfter.elim g (min g)) })).stopThreads .other
      | .completing => d.mapRun (fun r => { r with aborted := true })
      | .ended => d
  if queuedToo then (later.filter (fun t => t.state == .queued)).foldl (fun d t => d.recordUnstarted t 0xA (g + 1)) d else d

/-- The master, or a member that an ABORT has reached, applies the abort to its own part of the cluster task of context `n`
in this gcyc (R190, R197): a start is cancelled, a RUNNING task issues no further step, a COMPLETING one ends ABORTED. -/
def Device.abortClusterLocal (d : Device) (n : Nat) : Device :=
  let d := { d with lantern := { d.lantern with
    cluPend := if d.lantern.cluPend.elim false (fun p => p.ctx == n) then none else d.lantern.cluPend } }
  match d.lantern.run with
  | none => d
  | some r =>
    if r.cluster = false ∨ r.ctx ≠ n then d
    else match (d.task r.task).map (fun (t : Task) => t.state) with
      | some .starting =>
        let d := ((d.task r.task).elim d (fun t => d.returnThresholds t (d.now + 1))).mapTask r.task
          (fun t => { t with consumed := [] })
        d.setRun (some { r with aborted := true, start := none, decided := some 0xA })
      | some .running =>
        (d.setRun (some { r with aborted := true, stopAfter := some (r.stopAfter.elim d.now (min d.now)) })).stopThreads .other
      | some .completing => d.setRun (some { r with aborted := true, decided := some 0xA })
      | _ => d

/-- At the end of a task no slot table is current on any link (R327). -/
def Device.dropTables (d : Device) : Device :=
  { d with links := { d.links with tables := [], before := [] } }

/-! ### SECDED of the context store (R206) -/

/-- What SECDED found when word `w` of record `n` was read by the Lantern for a task (`mark`) or by the host: a corrected
word is counted; an uncorrectable word is rewritten as zeros. -/
def Device.ctxEcc (d : Device) (n w : Nat) (e : Ecc) (mark : Bool) : Device :=
  if e.bad ≠ 0 then
    let d := (d.setReg (Reg.ctxW0 n + 8 * w) 0).uncorrected Reg.tlyCtxUncorrCnt
    if mark then d.markPoison 49 else d
  else if e.fixed ≠ 0 then d.corrected Reg.tlyCtxCorrCnt
  else d

/-! ### Acts whose gcyc was fixed before -/

/-- What becomes due in its gcyc `g` takes place. -/
def Device.act (d : Device) (g : Nat) : DueAct → Device
  | .record id e =>
    match d.task id with
    | some t => (d.putRecord t e g).nextHead t.ctx (g + 1)
    | none => d
  | .msix f v => d.msix f v
  | .counts l => l.foldl (fun d e => d.addTally e.1 e.2 d.device) d
  | .head n => d.settleHead n g
  | .tally p v => d.writeTally p v
  | .drain tk stamp => d.drainLate tk stamp

end Sys2Proof.Machine
end

