-- ==== Sys2Proof/Machine/HbmOps.lean ====
section
/-!
DEFINITION. The HBM controllers' shared operations: the write queue, the arrival of reads, and what a unit holds
(R255 - R270).
-/
namespace Sys2Proof.Machine

open Sys2Proof

def Device.pc (d : Device) (pk : Nat) : PseudoChannel := mapGet PseudoChannel.initial d.hbm.pcs pk

def Device.setPc (d : Device) (pk : Nat) (x : PseudoChannel) : Device :=
  { d with hbm := { d.hbm with pcs := mapPut PseudoChannel.initial d.hbm.pcs pk x } }

/-- Bank, first column and row of a unit of a pseudo-channel (R258). -/
def unitBank (u : Nat) : Nat := u % pcUnits % 48
def unitColumn (u : Nat) : Nat := 2 * (u % pcUnits / 48 % 16)
def unitRow (u : Nat) : Nat := u % pcUnits / 768

/-- The metadata word that the stack holds beside a unit (R256): check, poison bit, SECDED code and 20 zeros. -/
def unitMeta (u : DUnit) : Word :=
  mkWord [(0, u.check.toNat), (32, b2n u.pois), (33, (Config.secded u.data u.check u.pois).toNat)]

/-- A pseudo-channel is SUSPECT (R269). -/
def Device.suspect (d : Device) (pk : Nat) : Bool := d.regBit (Reg.hbcSuspect (pk / 32)) (pk % 32)

/-- The youngest write-queue entry for a unit (R265). -/
def youngest (u : Nat) (ws : List WrEntry) : Option WrEntry := (ws.filter (fun w => w.unit == u)).getLast?

/-- A read of unit `u` returns poisoned zeros without an access: its write was lost, or its pseudo-channel is SUSPECT
(R269). -/
def Device.hbmLost (d : Device) (u : Nat) : Bool := d.suspect (u / pcUnits) || (d.pc (u / pcUnits)).lost.contains u

/-- What unit `u` holds, write queue included: poisoned zeros where the write was lost or the pseudo-channel is SUSPECT
(R265, R269). -/
def Device.hbmUnit (d : Device) (u : Nat) : DUnit :=
  if d.hbmLost u then poisonUnit
  else match youngest u (d.pc (u / pcUnits)).writes with
    | some w => w.data
    | none => d.hbm.mem.unit u

/-- A stack read of unit `u`, as first found and as found again (R270): corrected words are counted, a unit that fails is
read once more, and one that fails again is poisoned zeros and counted. A unit stored poisoned is neither. -/
def Device.stackRead (d : Device) (u : Nat) (e1 e2 : Ecc) : DUnit × Device :=
  let s := u / pcUnits / 32
  let x := d.hbm.mem.unit u
  let fixed := fun (d : Device) (e : Ecc) => if e.bad = 0 ∧ e.fixed ≠ 0 then d.corrected (Reg.hbcCorrCnt s) else d
  let good := fun (e : Ecc) => decide (e.bad = 0) && unitOk x
  let d := fixed d e1
  if good e1 then (if x.pois then poisonUnit else x, d)
  else
    let d := fixed d e2
    if good e2 then (if x.pois then poisonUnit else x, d.bump (Reg.hbcRereadOkCnt s) 1)
    else (poisonUnit, d.uncorrected (Reg.hbcUncorrCnt s))

/-- A read of unit `u` that is over within one command, as R265, R269 and R270 treat it: forwarded from a whole queued write,
held behind a partial one, or read from the stack. -/
def Device.directRead (d : Device) (u : Nat) (e1 e2 : Ecc) : DUnit × Device :=
  if d.hbmLost u then (poisonUnit, d)
  else match youngest u (d.pc (u / pcUnits)).writes with
    | some w =>
      if w.be = -1 then (w.data, d.bump (Reg.hbcFwdCnt (u / pcUnits / 32)) 1)
      else (w.data, d.bump (Reg.hbcPartialWaitCnt (u / pcUnits / 32)) 1)
    | none => d.stackRead u e1 e2

/-- Bytes of the enabled lanes of `new` over `old` (R266). -/
def mergeLine (old new : Line) (be : Word) : Line :=
  let bs := (List.range 64).map (fun i => if bit be i then (lineBytes new).getD i 0 else (lineBytes old).getD i 0)
  bytesLine bs

/-- A partial write merged with what is stored (R266): poisoned if either check fails or either is poisoned; otherwise
with the combined check. -/
def mergeUnit (old new : DUnit) (be : Word) : DUnit :=
  if old.pois || new.pois || !unitOk old || !unitOk new then poisonUnit else freshUnit (mergeLine old.data new.data be)

/-- The write queue of a pseudo-channel has room in the part that a write belongs to (R264). -/
def PseudoChannel.room (x : PseudoChannel) (sched : Bool) : Nat :=
  (if sched then 48 else 16) - (x.writes.filter (fun w => w.sched == sched)).length

/-- A fill of the prefetch area for a unit that a write changes brings nothing: its transaction is given up (R240). -/
def Device.staleFills (d : Device) (u : Nat) : Device :=
  let stale := fun (t : Txn) => match t.purpose with
    | .prefetch a => (t.phase == .atTarget || t.phase == .responded) && (d.hbmDecode a).elim false (fun r => r.1 == u)
    | _ => false
  if d.net.txns.any stale then
    { d with net := { d.net with txns := d.net.txns.map (fun t => if stale t then { t with purpose := .nobody } else t) } }
  else d

/-- A write enters the write queue (R264, R267): a prefetched copy of the unit is invalidated in the same clock (R240). -/
def Device.queueWrite (d : Device) (u : Nat) (x : DUnit) (be : Word) (sched : Bool) : Device :=
  let pk := u / pcUnits
  let p := d.pc pk
  let x := if x.pois then poisonUnit else x
  let ws := p.writes ++ [{ unit := u, data := x, be := be, sched := sched, seq := d.hbm.seq }]
  let n := (ws.filter (·.sched)).length
  let d := d.setPc pk { p with writes := ws, writeFirst := p.writeFirst || decide (40 ≤ n) }
  { d with
    hbm := { d.hbm with seq := d.hbm.seq + 1 },
    streams := { d.streams with prefetched := d.streams.prefetched.filter (fun e => e.1 != u) } }.staleFills u

/-- An access to an address that no enabled window covers (R260). -/
def Device.unmapped (d : Device) : Device := (d.bump Reg.hbcUnmappedCnt 1).markPoison 49

/-! ### Reads that arrive (R265, R269) -/

/-- A read that has arrived is compared with the write queue: poisoned where its write was lost or the pseudo-channel is
SUSPECT, forwarded from a whole queued write, held behind a partial one, or queued for the stack. -/
def Device.compareRead (d : Device) (pk : Nat) (r : RdEntry) : Device :=
  if d.hbmLost r.unit then d.deliver r.txn r.index poisonUnit
  else
    let wait := fun (d : Device) => d.setPc pk { d.pc pk with reads := (d.pc pk).reads ++ [r] }
    match youngest r.unit (d.pc pk).writes with
    | none => wait d
    | some w =>
      if w.be = -1 then (d.bump (Reg.hbcFwdCnt (pk / 32)) 1).deliver r.txn r.index w.data
      else wait (d.bump (Reg.hbcPartialWaitCnt (pk / 32)) 1)

/-- The reads that arrived at pseudo-channel `pk` in the controller clock that ends are compared with its write queue: a
write of the same clock has been taken before them (R265). -/
def Device.comparePc (d : Device) (pk : Nat) : Device :=
  let rs := (d.pc pk).arriving
  if rs.isEmpty then d
  else rs.foldl (fun d r => d.compareRead pk r) (d.setPc pk { d.pc pk with arriving := [] })

/-- The controllers at the end of a gcyc, one of their clocks. [DEDUCED, unsafe: notes/assumptions/158] -/
def Device.compareReads (d : Device) : Device := (d.hbm.pcs.map (·.1)).foldl (fun d pk => d.comparePc pk) d

/-- Some read has arrived in the present gcyc. -/
def Device.readsArriving (d : Device) : Bool := d.hbm.pcs.any (fun e => !e.2.arriving.isEmpty)

/-! ### Late units of writes (R230, R232) -/

/-- Due time of unit `i` of a thread's write, while the thread has not finished (R230). -/
def Device.dueOf (d : Device) (t : Txn) (i : Nat) : Option Nat :=
  match t.purpose with
  | .thread tk n stamp _ => (d.threadOf tk stamp).map (fun x => x.due (n + i))
  | _ => none

def Device.isLate (d : Device) (t : Txn) (i : Nat) : Bool := (d.dueOf t i).elim false (fun g => decide (g < d.now))

/-- A late unit of a write is discarded (R232). -/
def Device.discardLate (d : Device) (t : Txn) (i : Nat) : Device :=
  match t.purpose with
  | .thread tk _ stamp _ =>
    (d.lateUnit tk stamp).mapTxn t.id (fun t => { t with got := mapPut none t.got i (some poisonUnit) })
  | _ => d

end Sys2Proof.Machine
end

