-- ==== Sys2Proof/Machine/Dops.lean ====
section
/-!
DEFINITION. The Dome as one array: the DOP descriptor and a schedule's DOP steps, shapes, passes and their timing, the times
of the row statistics, the activity ramp, and the hops of Dome-network routes (R88 - R104, R169 - R171, R176, R286).
-/
namespace Sys2Proof.Machine

open Sys2Proof

/-! ### The descriptor (R104, R176) -/

def dopShape (e : List Word) : Nat := fld (wd e 0) 0 4
def dopA (e : List Word) : Nat := fld (wd e 0) 4 4
def dopB (e : List Word) : Nat := fld (wd e 0) 8 4
def dopPhase (e : List Word) : Nat := fld (wd e 0) 16 2
def dopRamp (e : List Word) : Nat := fld (wd e 0) 18 2
def dopDest (e : List Word) : Nat := fld (wd e 0) 20 2
def dopLayerEnd (e : List Word) : Bool := bit (wd e 0) 22
def dopIvIrq (e : List Word) : Bool := bit (wd e 0) 23
def dopRows (e : List Word) : Nat := fld (wd e 1) 0 12 + 1
def dopCols (e : List Word) : Nat := fld (wd e 1) 14 17 + 1
def dopK (e : List Word) : Nat := fld (wd e 1) 32 22
def dopALine (e : List Word) : Nat := fld (wd e 2) 0 11
def dopGather (e : List Word) : Nat := fld (wd e 2) 16 12
def dopProPc (e : List Word) : Nat := fld (wd e 2) 32 11
def dopProEn (e : List Word) : Bool := bit (wd e 2) 43
def dopBThread (e : List Word) : Nat := fld (wd e 3) 0 8
def dopRegion (e : List Word) : Nat := fld (wd e 3) 8 12
def dopOutThread (e : List Word) : Nat := fld (wd e 4) 16 8
def dopEpiPc (e : List Word) : Nat := fld (wd e 4) 32 11
def dopRsKind (e : List Word) : Nat := fld (wd e 5) 0 3
def dopRsHold (e : List Word) : Bool := bit (wd e 5) 3
def dopRsGr (e : List Word) : Nat := fld (wd e 5) 4 12
def dopPh2 (e : List Word) : Nat := fld (wd e 5) 16 11
def dopRsDelay (e : List Word) : Nat := fld (wd e 5) 27 16
def dopLead (e : List Word) : Nat := fld (wd e 6) 0 16
def dopStage (e : List Word) : Nat := fld (wd e 6) 16 10
def dopATile (e : List Word) : Bool := bit (wd e 6) 26
def dopBXpose (e : List Word) : Bool := bit (wd e 6) 27
def dopCopy (e : List Word) : Nat := fld (wd e 6) 28 12
def dopCopyEn (e : List Word) : Bool := bit (wd e 6) 40

/-! ### Shapes, passes and timing (R42, R43, R71, R72, R88 - R98) -/

/-- Groups b and Spire rows per group q (R88). -/
def dopGroups (e : List Word) : Nat := 2 ^ dopShape e
def dopSpan (e : List Word) : Nat := 64 / dopGroups e

/-- A 16-bit format; a format with per-element exponents; a format with 4-bit mantissas (R38, R41). -/
def is16 (f : Nat) : Bool := f == 9 || f == 10
def perElem (f : Nat) : Bool := decide (6 ≤ f) && decide (f ≤ 10)
def mant4 (f : Nat) : Bool := f == 0 || f == 1 || f == 4 || f == 6

/-- A slice of an operand in a pass: the whole element, its high slice or its low slice (R41). -/
inductive Slice
  | whole | high | low
  deriving DecidableEq, Repr

/-- The slices of A and B in each pass, in order (R42). -/
def dopSlices (e : List Word) : List (Slice × Slice) :=
  let a := is16 (dopA e)
  let b := is16 (dopB e)
  if a && b then [(.high, .high), (.high, .low), (.low, .high), (.low, .low)]
  else if a then [(.high, .whole), (.low, .whole)]
  else if b then [(.whole, .high), (.whole, .low)]
  else [(.whole, .whole)]

/-- The mantissas of a slice are 4-bit ones. -/
def narrowSlice (f : Nat) (s : Slice) : Bool := s == .low || (s == .whole && mant4 f)

/-- A pass: its slices, slot length L, products per slot, B bytes per band and slot, slot period, first dclk and slots
(R61, R62, R92, R93). -/
structure Pass where
  sa : Slice
  sb : Slice
  len : Nat
  prods : Nat
  beta : Nat
  period : Nat
  base : Nat
  slots : Nat
  deriving DecidableEq, Repr

/-- K-groups (R93). -/
def dopKGroups (e : List Word) : Nat := (dopK e + 31) / 32

def passOf (e : List Word) (base : Nat) (s : Slice × Slice) : Pass :=
  let len := if perElem (dopA e) || perElem (dopB e) then 2 else 1
  let prods := if narrowSlice (dopA e) s.1 || narrowSlice (dopB e) s.2 then 2 else 1
  let beta := 4 * prods * fmtBits (dopB e)
  { sa := s.1, sb := s.2, len := len, prods := prods, beta := beta,
    period := max len (dopGroups e * beta / 64), base := base, slots := dopKGroups e * 32 / prods }

def passesFrom (e : List Word) : Nat → List (Slice × Slice) → List Pass
  | _, [] => []
  | base, s :: ss =>
    let p := passOf e base s
    p :: passesFrom e (base + p.slots * p.period) ss

def dopPasses (e : List Word) : List Pass := passesFrom e 0 (dopSlices e)

/-- The bus span W (R97). -/
def dopW (e : List Word) : Nat := ((dopPasses e).map (fun p => p.slots * p.period)).sum

/-- The phase of group `g` in a slot period (R93). -/
def Pass.phase (p : Pass) (b g : Nat) : Nat := g * p.period / b

def lastPass (e : List Word) : Pass :=
  (dopPasses e).getLast?.getD (passOf e 0 (.whole, .whole))

/-- delta of R98. -/
def dopDelta (e : List Word) : Nat :=
  let p := lastPass e
  p.phase (dopGroups e) (dopGroups e - 1) + p.len - p.period

/-- First slot of Spire `n` (R71). -/
def firstSlot (t0 n : Nat) : Nat :=
  let x := n % 64
  let y := n / 64
  t0 + 2 + x + y + (if 32 ≤ x then 1 else 0) + (if 32 ≤ y then 1 else 0)

/-- Group and local row of Spire `n` (R89). -/
def spireGroup (e : List Word) (n : Nat) : Nat := n / 64 / dopSpan e
def spireRow (e : List Word) (n : Nat) : Nat := n / 64 % dopSpan e

/-- t of Spire `n`: the dclk in which it takes its last product (R72, R93). -/
def lastProduct (e : List Word) (t0 n : Nat) : Nat :=
  let p := lastPass e
  firstSlot t0 n + p.base + p.phase (dopGroups e) (spireGroup e n) + (p.slots - 1) * p.period + p.len - 1

/-- The slot in whose first dclks, as many as a slot has, a Spire is in dclk `x` that takes its first slot of the DOP in dclk
`first` if its group's phase is left out, and whose group is `g`: number and data of the pass, slot, and dclk within it (R72,
R93). -/
def slotFrom (e : List Word) (first g x : Nat) : Option (Nat × Pass × Nat × Nat) :=
  ((dopPasses e).zipIdx).findSome? (fun q =>
    let p := q.1
    let t := first + p.base + p.phase (dopGroups e) g
    if x < t ∨ p.slots ≤ (x - t) / p.period ∨ p.len ≤ (x - t) % p.period then none
    else some (q.2, p, (x - t) / p.period, (x - t) % p.period))

/-- The slot of Spire `n` in dclk `x`. -/
def slotAt (e : List Word) (t0 n x : Nat) : Option (Nat × Pass × Nat × Nat) :=
  slotFrom e (firstSlot t0 n) (spireGroup e n) x

/-- Slots of a K-group (R64, R69). -/
def Pass.groupSlots (p : Pass) : Nat := 32 / p.prods

/-! ### The DOPs of a schedule (R96, R104, R179, R420) -/

/-- The DOP descriptor of index `i` (R104, R420). -/
def Device.dopDesc (d : Device) (i : Nat) : List Word := d.schedWords (64 * i) 8

/-- The DOP steps of a slot whose header is `h`: ordinal, OFFSET and descriptor (R179). -/
def Device.dopSteps (d : Device) (h : List Word) : List (Nat × Nat × List Word) :=
  (((List.range (fld (wd h 0) 0 16 + 1)).map (d.stepRecord h)).filter (fun s => fld s.1 40 4 = 1)).zipIdx.map
    (fun s => (s.2, fld s.1.1 0 40, d.dopDesc (fld s.1.2 0 24)))

/-- T0 of a DOP stamped in gcyc `g` (R96). -/
def dopT0 (e : List Word) (g : Nat) : Nat := 4 * g + dopPhase e

/-! ### The hops of Dome-network routes (R18, R99, R286, R287) -/

def dirCode : Dir → Nat
  | .north => 0
  | .east => 1
  | .south => 2
  | .west => 3

/-- The side of a Spire at which a unit arrives that moves in this direction. -/
def dirArrives : Dir → Nat
  | .north => 2
  | .east => 3
  | .south => 0
  | .west => 1

/-- The Spire that the link of Spire `n` in a direction reaches; at an edge, the Spire itself stands for the gateway. -/
def dirNext (n : Nat) : Dir → Nat
  | .north => if n < 64 then n else n - 64
  | .east => if n % 64 = 63 then n else n + 1
  | .south => if 4032 ≤ n then n else n + 64
  | .west => if n % 64 = 0 then n else n - 1

/-- The link of Spire `n` in a direction crosses a stitch line (R18). -/
def dirStitch (n : Nat) : Dir → Bool
  | .north => n / 64 == 32
  | .east => n % 64 == 31
  | .south => n / 64 == 31
  | .west => n % 64 == 32

/-- dclk of a hop: one, and one more at a stitch crossing (R286). -/
def hopDclk (n : Nat) (d : Dir) : Nat := if dirStitch n d then 2 else 1

/-- The hops of a unit that leaves Spire `n` in dclk `x`, having come in direction `from_`, and the dclk in which it is there. -/
def hopsFrom (n x : Nat) (from_ : Option Dir) : List Dir → List Hop × Nat
  | [] => ([], x)
  | d :: ds =>
    let r := hopsFrom (dirNext n d) (x + hopDclk n d) (some d) ds
    ({ link := 4 * n + dirCode d, at_ := x, straight := from_ == some d, dir := from_.elim 4 dirArrives } :: r.1, r.2)

/-- dclk that a path from Spire `n` takes. -/
def pathDclk (n : Nat) (ds : List Dir) : Nat := (hopsFrom n 0 none ds).2

/-! ### Row statistics (R169 - R172) -/

/-- T_P2 - T_RS by shape (R171). -/
def statTime (shape : Nat) : Nat := [196, 272, 314, 340, 358, 372, 384].getD shape 384

/-- T_RS of a DOP, and the start of its phase two (R170, R171). -/
def rsTime (e : List Word) (t0 : Nat) : Nat := t0 + dopW e + 165 + dopDelta e + dopRsDelay e
def ph2Time (e : List Word) (t0 : Nat) : Nat := rsTime e t0 + statTime (dopShape e)

/-- Byte of the vector of component `c` of cell row `i` in the statistic region (R169). -/
def statByte (e : List Word) (i c : Nat) : Nat := 32 * (dopRsGr e + 16 * i + 8 * c)

/-- Levels of the tree of a row. -/
def statLevels (e : List Word) : Nat := 6 + dopShape e

/-- The Spire that holds leaf `n` of the tree of row band `band` (R170). -/
def leafSpire (e : List Word) (band n : Nat) : Nat := 64 * (dopSpan e * (n / 64) + band) + n % 64

/-- Spires between the two holders of a level: within a Spire row, or down column 63 (R170). -/
def levelHops (e : List Word) (l : Nat) : Nat := if l ≤ 6 then 2 ^ (l - 1) else dopSpan e * 2 ^ (l - 7)

/-- The way of a level of the tree. -/
def levelPath (e : List Word) (l : Nat) : List Dir := List.replicate (levelHops e l) (if l ≤ 6 then .east else .south)

/-- dclk of a level: eight to move 512 bytes, two to combine, one a hop, and one at a stitch crossing (R171). -/
def levelDclk (e : List Word) (l : Nat) : Nat :=
  10 + levelHops e l + (if l = 6 ∨ (6 < l ∧ l = statLevels e) then 1 else 0)

/-- dclk from T_RS to the start of level `l` + 1 (R171). -/
def levelsDclk (e : List Word) : Nat → Nat
  | 0 => 0
  | l + 1 => levelsDclk e l + levelDclk e (l + 1)

/-! ### The activity ramp (R100 - R103) -/

/-- Ramp of a RAMP code in dclk (R104). -/
def rampDclk (c : Nat) : Nat := if c = 0 then 64 else if c = 1 then 32 else 128

/-- T_R of a first DOP (R100). -/
def rampStart (e : List Word) (t0 : Nat) : Nat := if rampDclk (dopRamp e) = 128 then t0 - 60 else t0

/-- When column group `g` was enabled, and gated, in the ramps so far. -/
def Device.rampGroup (d : Device) (g : Nat) : List (Nat × Option Nat) := mapGet [] d.dome.groups g

/-- A group is enabled in dclk `x`. -/
def spanOn (x : Nat) (r : Nat × Option Nat) : Bool := decide (r.1 ≤ x) && r.2.elim true (fun o => decide (x < o))

/-- Column group `g` is enabled in dclk `x`. -/
def Device.groupOn (d : Device) (g x : Nat) : Bool := (d.rampGroup g).any (spanOn x)

def Device.setGroups (d : Device) (f : Nat → List (Nat × Option Nat)) : Device :=
  { d with dome := { d.dome with groups := (List.range 16).foldl (fun m g => mapPut [] m g (f g)) d.dome.groups } }

/-- The ramp of a task's first DOP, whose T_R is `tr`: groups still enabled then stay so (R100, R103). -/
def Device.rampUp (d : Device) (tr code : Nat) : Device :=
  d.setGroups (fun g =>
    let rs := d.rampGroup g
    if rs.any (spanOn tr) then rs.map (fun r => if spanOn tr r then (r.1, none) else r)
    else ((tr + g * (rampDclk code / 16), none) :: rs).take 2)

/-- The ramp-down from T_D on, after the task's last DOP (R102). -/
def Device.rampDownFrom (d : Device) (td : Nat) : Device :=
  d.setGroups (fun g => (d.rampGroup g).map (fun r => (r.1, some (r.2.getD (td + g * (rampDclk d.dome.ramp / 16))))))

/-- T_D: the dclk after the last program of the launched DOPs has ended. -/
def Device.rampEnd (d : Device) : Nat := (d.dome.dops.map (·.ended)).foldl max 0

/-- The ramp-down of a task that leaves the Dome, if it has not begun (R102). -/
def Device.rampDown (d : Device) : Device :=
  d.rampDownFrom (if d.dome.dops.isEmpty then 4 * d.now else d.rampEnd)

end Sys2Proof.Machine
end

