-- ==== Sys2Proof/Machine/Matrix.lean ====
section
/-!
DEFINITION. The matrix engines: the operands that the edges present and the buses carry, the edge converters and operand
registers, the cells with their open groups, the close stages, the residue checks, and the drain registers (R59 - R84,
R89 - R95, R106, R164, R165).
-/
namespace Sys2Proof.Machine

open Sys2Proof

/-! ### Operand bytes at the edges (R35, R91, R94, R95, R106, R164, R165) -/

/-- A byte of an operand with the mark of its unit. -/
abbrev MByte := Byte × Bool

/-- Byte `i` of a unit; a poisoned unit carries zeros (R59). -/
def unitByte (u : DUnit) (i : Nat) : MByte :=
  if u.pois then (0, true) else (BitVec.ofNat 8 (u.data.toNat >>> (8 * i)), false)

/-- Byte `i` of the A tile of row band `l` and K-slice `s` of DOP `op`, as the gather has brought it; a line that has not come
is poisoned zeros. -/
def Device.aByte (d : Device) (op l s i : Nat) : MByte :=
  let lines := (d.dome.west.lookup op).getD []
  unitByte ((mapGet none lines ((131072 * l + s) * 64 + i / 64)).getD poisonUnit) (i % 64)

/-- Byte at place `i` of the B stream of slice `k` for DOP `op`, as the injectors have taken it. -/
def Device.bByte (d : Device) (op k i : Nat) : MByte :=
  unitByte ((mapGet [] ((d.dome.north.lookup op).getD []) k).getD (i / 64) poisonUnit) (i % 64)

/-- A nibble of a byte (R35). -/
def nibble (b : MByte) (hi : Bool) : Nat × Bool := (if hi then b.1.toNat / 16 else b.1.toNat % 16, b.2)

/-- Two bytes, low byte first. -/
def half16 (lo hi : MByte) : Nat × Bool := (lo.1.toNat + 256 * hi.1.toNat, lo.2 || hi.2)

/-- A byte as a lane. -/
def MByte.lane (b : MByte) (valid : Bool) : Lane := { byte := b.1, pois := b.2, valid := valid }

/-- A lane that carries nothing. -/
def Lane.idle : Lane := { byte := 0, pois := false, valid := false }

/-- Place, in a tile in K-vector layout, of the byte `o` of the element of row `i` and K offset `k` (R164). -/
def tilePlace (e : List Word) (i k o : Nat) : Nat :=
  let f := dopA e
  if f = 4 then 32 + 32 * (k / 2) + i
  else if f = 5 then 32 + 32 * k + i
  else if fmtBits f = 4 then 32 * (k / 2) + i
  else if fmtBits f = 8 then 32 * k + i
  else 64 * k + 2 * i + o

/-- Place, in a tile in row-tile layout, of the byte that is at place `j` in K-vector layout, where one is (R164). -/
def turnedPlace (f j : Nat) : Option Nat :=
  let i := j % 32
  let k := j / 32
  if f = 4 then (if k = 0 then some (17 * i) else if k < 17 then some (17 * i + k) else none)
  else if f = 5 then (if k = 0 then some (33 * i) else if k < 33 then some (33 * i + k) else none)
  else if fmtBits f = 4 then some (16 * i + k)
  else if fmtBits f = 8 then some (32 * i + k)
  else some (64 * (j % 64 / 2) + 2 * (j / 64) + j % 2)

/-- Lines of an A tile (R164). -/
def tileLines (f : Nat) : Nat :=
  if f = 4 then 9 else if f = 5 then 17 else if fmtBits f = 4 then 8 else if fmtBits f = 8 then 16 else 32

/-- A block format (R68). -/
def blockFmt (f : Nat) : Bool := f == 4 || f == 5

/-- What the west-edge injector of Spire row `y` presents for DOP `p`, so that Spire (0, y) registers it in dclk `x`: the bytes
of a slot in K-vector order, rows outside M and K indices from K on invalid, and at the start of a K-group the exponent bytes
(R90, R94, R95, R106, R164). [DEDUCED, unsafe: notes/assumptions/101] -/
def Device.westOut (d : Device) (p : Dop) (y x : Nat) : Option BusWord :=
  let e := p.desc
  match slotAt e p.t0 (64 * y) (x + 2) with
  | none => none
  | some (_, q, m, c) =>
    let l := spireRow e (64 * y)
    let k0 := q.prods * m
    let w := fmtBits (dopA e)
    let inside (i : Nat) : Bool := decide (32 * l + i < dopRows e)
    let lane (i k o : Nat) : Lane :=
      let b := d.aByte p.op l (k0 / 32) (tilePlace e i (k % 32) o)
      if inside i then b.lane (decide (k < dopK e)) else Lane.idle
    let size := if w = 4 then 32 else 32 * q.prods * (w / 8)
    let lanes := (List.range (min 64 (size - 64 * c))).map (fun o =>
      let o := 64 * c + o
      if w = 4 then lane o k0 0
      else if w = 8 then lane (o % 32) (k0 + o / 32) 0
      else lane (o % 64 / 2) (k0 + o / 64) (o % 2))
    let side := if blockFmt (dopA e) && decide (k0 % 32 = 0 ∧ c = 0) then
        [(0, (List.range 32).map (fun i =>
          if inside i then (d.aByte p.op l (k0 / 32) i).lane true else Lane.idle))]
      else []
    some { lanes := lanes, side := side }

/-- Byte `i` of the run of band `g` in slot `m` of pass `pass`, of column `c`'s stream; with B_XPOSE a run is a block of a
K-group, each column's K indices contiguous, and the injector transposes it into slot order (R91, R93, R165). -/
def northPlace (e : List Word) (c pass : Nat) (q : Pass) (g m i : Nat) : Nat :=
  let b := dopGroups e
  if dopBXpose e then
    let bits := fmtBits (dopB e)
    let per := q.beta / 32
    let o := i % per
    let k := q.prods * m % 32 + (if bits = 4 then 0 else o / (bits / 8))
    Config.northRun e (c % 16) pass (q.prods * m / 32 * b + g) + i / per * (4 * bits) + k * bits / 8 +
      (if bits = 16 then o % 2 else 0)
  else Config.northRun e (c % 16) pass (m * b + g) + i

/-- The byte lanes at which the bytes of band `g` begin: of two bands that share a dclk, the lower takes lanes 0-31 (R93). -/
def bandLane (e : List Word) (q : Pass) (g : Nat) : Nat :=
  if q.beta = 32 ∧ 0 < g ∧ q.phase (dopGroups e) g = q.phase (dopGroups e) (g - 1) then 32 else 0

/-- What the north-edge injector of Spire column `c` presents for band `g` of DOP `p`, so that Spire (c, 0) registers it in
dclk `x` (R91, R93, R94, R106, R165). The X bytes of a block are streamed again in each pass.
[DESIGN CHOICE, unsafe: notes/assumptions/185] -/
def Device.bandOut (d : Device) (p : Dop) (c g x : Nat) : Option BusWord :=
  let e := p.desc
  match slotFrom e (firstSlot p.t0 c) g (x + 2) with
  | none => none
  | some (pass, q, m, ch) =>
    let k0 := q.prods * m
    let w := fmtBits (dopB e)
    let inside (j : Nat) : Bool := decide (2048 * g + 32 * c + j < dopCols e)
    let per := q.beta / 32
    let lanes := (List.range (min 64 (q.beta - 64 * ch))).map (fun o =>
      let i := 64 * ch + o
      let k := k0 + (if w = 4 then 0 else i % per / (w / 8))
      if inside (i / per) then
        (d.bByte p.op (c / 16) (northPlace e c pass q g m i)).lane (decide (k < dopK e))
      else Lane.idle)
    let side := if blockFmt (dopB e) && decide (k0 % 32 = 0 ∧ ch = 0) then
        [(g, (List.range 32).map (fun j =>
          if inside j then (d.bByte p.op (c / 16) (Config.northExp e (c % 16) pass g (k0 / 32) + j)).lane true else Lane.idle))]
      else []
    some { lanes := List.replicate (bandLane e q g) Lane.idle ++ lanes, side := side }

/-- Two bands on one bus: each has its own lanes. -/
def BusWord.join (a b : BusWord) : BusWord :=
  { lanes := a.lanes ++ b.lanes.drop a.lanes.length, side := a.side ++ b.side }

/-- What Spire (c, 0) registers from the north in dclk `x`. -/
def Device.northOut (d : Device) (c x : Nat) : BusWord :=
  (d.dome.dops.flatMap (fun p => (List.range (dopGroups p.desc)).filterMap (fun g => d.bandOut p c g x))).foldl
    BusWord.join BusWord.initial

/-- What Spire (0, y) registers from the west in dclk `x`. -/
def Device.westIn (d : Device) (y x : Nat) : BusWord :=
  (d.dome.dops.findSome? (fun p => d.westOut p y x)).getD BusWord.initial

/-! ### Buses (R66) -/

/-- A Spire registers the A bus of its west neighbour and the B bus of its north neighbour a dclk later, and one more dclk later
across a stitch line; at an edge, what the injector presents (R18, R66). The neighbours have not gone on yet. -/
def Device.busClock (d : Device) (n x : Nat) : Device :=
  let ahead (s : Side) (stitch : Bool) : BusWord := if stitch then s.prev else s.bus
  let a := if n % 64 = 0 then d.westIn (n / 64) x else ahead (d.spire (n - 1)).a (n % 64 == 32)
  let b := if n < 64 then d.northOut n x else ahead (d.spire (n - 64)).b (n / 64 == 32)
  d.mapSpire n (fun s => { s with
    a := { s.a with bus := a, prev := s.a.bus }
    b := { s.b with bus := b, prev := s.b.bus } })

/-! ### Edge converters and operand registers (R41, R59, R67 - R70) -/

/-- An element of an operand in a pass: mantissa and exponent, or its class (R38 - R41). -/
def sliceVal (f : Nat) (s : Slice) (v : Val) : Val :=
  match s, v with
  | .whole, v => v
  | _, .inf n => .inf n
  | _, .nan => .nan
  | .high, .fin m e => if f = 10 then .fin (m / 16) (e + 4) else .fin (m * 8 / 16) (e + 1)
  | .low, .fin m e => if f = 10 then .fin (m % 16) e else .fin (m * 8 % 16) (e - 3)

/-- The decoded element: a poisoned byte decodes as zero; a block with any poisoned byte decodes as zeros with X = 0 (R59). -/
def elemVal (f : Nat) (s : Slice) (raw : Nat × Bool) (x : MByte) (blockBad : Bool) : Val :=
  if f = 4 ∨ f = 5 then
    if blockBad then .fin 0 (-127) else decodeBlock x.1.toNat (sext raw.1 (fmtBits f)) 0
  else sliceVal f s (decodeElem f (if raw.2 then 0 else raw.1))

/-- The raw elements of row or column `i` of a slot's bytes, in K order, as far as chunk `c` carries them, with their K offset
from the slot's first index: of A in K-vector order, of B with a column's K indices side by side (R69, R91, R164). -/
def slotElems (isA : Bool) (w : Nat) (q : Pass) (c : Nat) (lanes : List Lane) (i : Nat) :
    List (Nat × (Nat × Bool) × Bool) :=
  let at_ (o : Nat) : Lane := if 64 * c ≤ o then nth lanes (o - 64 * c) Lane.idle else Lane.idle
  let one (k o : Nat) : List (Nat × (Nat × Bool) × Bool) :=
    if o < 64 * c ∨ 64 * c + 64 ≤ o then [] else
      let b := at_ o
      [(k, (b.byte.toNat, b.pois), b.valid)]
  let two (k o : Nat) : List (Nat × (Nat × Bool) × Bool) :=
    if o < 64 * c ∨ 64 * c + 64 ≤ o then [] else
      let lo := at_ o
      let hi := at_ (o + 1)
      [(k, half16 (lo.byte, lo.pois) (hi.byte, hi.pois), lo.valid && hi.valid)]
  if w = 4 then
    let b := at_ i
    if c ≠ 0 then [] else (List.range 2).map (fun k => (k, nibble (b.byte, b.pois) (k == 1), b.valid))
  else (List.range q.prods).flatMap (fun k =>
    if w = 8 then one k (if isA then 32 * k + i else q.prods * i + k)
    else two k (if isA then 64 * k + 2 * i else 2 * (q.prods * i + k)))

/-- Marks of rows or columns `i` for which `f` holds, added to those before. -/
def addMask (old : BitVec 32) (f : Nat → Bool) : BitVec 32 := old ||| laneMask f

/-- The edge converter of one side decodes what its bus register holds of a slot into the operand registers (R59, R67). `exps`:
the X bytes that come with the first slot of a K-group. The block of a row or column with a poisoned byte is marked, and so is a
poisoned byte that is taken (R59, R70). -/
def Side.decode (s : Side) (isA : Bool) (f : Nat) (sl : Slice) (kmax : Nat) (q : Pass) (m c : Nat) (lanes : List Lane)
    (exps : List Lane) : Side :=
  let k0 := q.prods * m
  let opens := decide (k0 % 32 = 0 ∧ c = 0)
  let exps := if opens then exps else s.exps
  let x (i : Nat) : Lane := nth exps i Lane.idle
  let old := if opens then 0 else s.blocks
  let rows := (List.range 32).map (fun i => slotElems isA (fmtBits f) q c lanes i)
  let hurt (i : Nat) : Bool := (nth rows i []).any (fun r => r.2.1.2)
  let blocks := if blockFmt f then addMask old (fun i => hurt i || (x i).pois) else 0
  let val (i : Nat) (r : Nat × (Nat × Bool) × Bool) : Option Val :=
    if r.2.2 && decide (k0 + r.1 < kmax) then some (elemVal f sl r.2.1 ((x i).byte, (x i).pois) (bit blocks i)) else none
  { s with
    exps := exps, blocks := blocks,
    regs := (List.range 32).map (fun i =>
      (if c = 0 then [] else nth s.regs i []) ++ (nth rows i []).map (val i)),
    bad := s.bad || blocks != 0 || rows.any (fun r => r.any (fun r => r.2.2 && decide (k0 + r.1 < kmax) && r.2.1.2)) }

/-- What Spire `n` decodes in dclk `x`, for the slot whose bytes it registered in the dclk before (R67, R71, R93). -/
def Device.convert (d : Device) (p : Dop) (n x : Nat) : Device :=
  let e := p.desc
  match slotAt e p.t0 n (x + 1) with
  | none => d
  | some (_, q, m, c) =>
    let g := spireGroup e n
    d.mapSpire n (fun s => { s with
      a := s.a.decode true (dopA e) q.sa (dopK e) q m c s.a.bus.lanes ((s.a.bus.side.lookup 0).getD [])
      b := s.b.decode false (dopB e) q.sb (dopK e) q m c (s.b.bus.lanes.drop (bandLane e q g)) ((s.b.bus.side.lookup g).getD []) })

/-! ### The cells (R45 - R49, R60 - R65, R73 - R76) -/

/-- Pure integer mode; two block or integer operands (R45, R75). -/
def pureInt (e : List Word) : Bool := decide (dopA e < 4) && decide (dopB e < 4)
def blockMode (e : List Word) : Bool := decide (dopA e < 6) && decide (dopB e < 6)

/-- The products of a cell in a group, with a defect in the first of the finite ones (R46). -/
def products (a b : List (Option Val)) (wrong : Int) : List (Val × BitVec 4) :=
  let ps := (a.zip b).filterMap (fun r => match r with
    | (some x, some y) => some (x.mul y)
    | _ => none)
  let rec hurt : List (Val × BitVec 4) → List (Val × BitVec 4)
    | [] => []
    | (.fin m e, fl) :: rest => (.fin (m + wrong) e, fl) :: rest
    | p :: rest => p :: hurt rest
  if wrong = 0 then ps else hurt ps

/-- One product entered in the window whose exponent is `top` (R46). -/
def windowAdd (top : Int) (acc : Int × BitVec 4) (v : Val) : Int × BitVec 4 :=
  match v with
  | .fin m e =>
    let dist := top - e
    if dist ≤ 18 then (acc.1 + m * pow2 (18 - dist), acc.2)
    else
      let s := (dist - 18).toNat
      let q := roundConv m s
      (acc.1 + q, acc.2 ||| flagIf (decide (q * 2 ^ s ≠ m)) fIX ||| flagIf (decide (m ≠ 0) && decide (q = 0)) fUF)
  | _ => acc

/-- What a group gives in a cell (R46, R49): the window's sum, its exponent F and flags; the class, where it is special; the
residue of what the multiplier delivered; and the class code of its special event. -/
structure GroupSum where
  sum : Int
  exp : Int
  empty : Bool
  flags : BitVec 4
  cls : Option Val
  res : Nat
  event : Nat
  deriving DecidableEq, Repr

/-- The group sum of the products taken so far; `nanIn`: one of them has a NaN input (R81, R49). Of special events of one cell
and group the lowest class is the one captured. [DESIGN CHOICE, unsafe: notes/assumptions/171] -/
def groupSum (ps : List (Val × BitVec 4)) (integer nanIn : Bool) : GroupSum :=
  let vs := ps.map (·.1)
  let fins := vs.filterMap (fun v => match v with | .fin m e => if m = 0 then none else some e | _ => none)
  let iv := ps.any (fun p => p.2 != 0)
  let pinf := vs.any (fun v => v == .inf false)
  let ninf := vs.any (fun v => v == .inf true)
  let nan := vs.any (·.isNan)
  let cls := if nan then some Val.nan else if pinf && ninf then some Val.nan
    else if pinf then some (.inf false) else if ninf then some (.inf true) else none
  let clash := !nan && pinf && ninf
  let res := (vs.map (fun v => match v with | .fin m _ => residue m | _ => 0)).sum % 7
  let top := match fins with | [] => 0 | e :: es => es.foldl max e
  let w := if integer then ((vs.map (fun v => match v with | .fin m _ => m | _ => 0)).sum, (0 : BitVec 4))
    else vs.foldl (windowAdd top) (0, 0)
  { sum := w.1, exp := if integer then 0 else top, empty := fins.isEmpty, cls := cls, res := res,
    flags := (if cls.isSome then 0 else w.2) ||| flagIf (iv || clash) fIV,
    event := if nanIn then 1 else if iv then 2 else if clash then 3 else 0 }

/-- Class codes of R60. -/
def classCode : Option Val → BitVec 2
  | some (.inf false) => 1
  | some (.inf true) => 2
  | some .nan => 3
  | _ => 0

def codeClass (c : BitVec 2) : Option Val :=
  if c = 1 then some (.inf false) else if c = 2 then some (.inf true) else if c = 3 then some .nan else none

/-- A group sum as a cell holds it (R60). -/
def GroupSum.hold (g : GroupSum) : OpenCell :=
  { win := BitVec.ofInt 40 g.sum, exp := BitVec.ofInt 10 g.exp, cls := classCode g.cls, res := BitVec.ofNat 3 g.res,
    flags := g.flags, event := g.event, empty := g.empty }

/-- A group added to a cell's accumulator (R45, R47, R49): saturating in pure integer mode. The flags, and class 4 where
opposite infinities meet. -/
def cellAdd (integer : Bool) (acc : Word) (g : OpenCell) : Word × BitVec 4 × Nat :=
  match codeClass g.cls with
  | some c =>
    let (v, fl) := accAdd (accVal acc) c
    (accWord v, fl, if fl = 0 then 0 else 4)
  | none =>
    if integer then
      match accVal acc with
      | .fin m c =>
        let s := m + g.win.toInt
        let r := if (2 ^ 55 - 1 : Int) < s then 2 ^ 55 - 1 else if s < -(2 ^ 55) then -(2 ^ 55) else s
        (accWord (.fin r c), flagIf (decide (r ≠ s)) fOV, 0)
      | _ => (acc, 0, 0)
    else if g.empty then (acc, 0, 0)
    else
      let (v, fl) := accAdd (accVal acc) (.fin g.win.toInt (g.exp.toInt - 18))
      (accWord v, fl, 0)

/-- The part of a group sum whose residue the cell comparison takes (R75). -/
def checkedSum (e : List Word) (g : OpenCell) : Int := if pureInt e then g.win.toInt else g.win.toInt / 2 ^ 18

/-- The comparison of a cell's group sum with its residue passes (R75). -/
def cellCheck (e : List Word) (g : OpenCell) : Bool :=
  if pureInt e then residue g.win.toInt == g.res.toNat
  else if blockMode e then decide (g.win.toInt % 2 ^ 18 = 0) && residue (checkedSum e g) == g.res.toNat
  else true

/-- A capture word of a Spire (R85). -/
def captWord (head : List (Nat × Nat)) (pass row col g op : Nat) : Word :=
  mkWord ([(63, 1), (58, pass), (53, row), (48, col), (24, g), (0, op)] ++ head)

/-- The sum of the mantissas of elements at one K index, special classes and invalid ones as 0 (R74). -/
def mantSum (vs : List (Option Val)) : Int :=
  (vs.map (fun v => match v with | some (.fin m _) => m | _ => 0)).sum

/-- The residue that the edges expect for a group (R74). -/
def expected (as bs : List (List (Option Val))) : Nat :=
  ((List.range 32).map (fun k =>
    residue (mantSum (as.map (fun r => nth r k none))) * residue (mantSum (bs.map (fun c => nth c k none))))).sum % 7

/-- The block of a row or column with a poisoned byte is zeros with X = 0, the elements taken before included (R59). -/
def zeroBlock (bad : Bool) (vs : List (Option Val)) : List (Option Val) :=
  if bad then vs.map (fun v => v.map (fun _ => Val.fin 0 (-127))) else vs

/-- The elements of the open group once those of the slot have been taken. -/
def Side.takeSlot (s : Side) : Side :=
  { s with taken := (List.range 32).map (fun i => zeroBlock (bit s.blocks i) (nth s.taken i [] ++ nth s.regs i [])) }

/-- The group is over on this side. -/
def Side.close (s : Side) : Side := { s with taken := List.replicate 32 [], bad := false }

/-- A product has a NaN input (R81). -/
def nanInput (a b : List (Option Val)) : Bool :=
  (a.zip b).any (fun r => match r with
    | (some x, some y) => x.isNan || y.isNan
    | _ => false)

/-- The open group of a cell after the elements `a` and `b` have been taken (R46, R60, R63); `wrong`: a defect of the first
product. -/
def openCell (e : List Word) (wrong : Int) (a b : List (Option Val)) : OpenCell :=
  (groupSum (products a b wrong) (pureInt e) (nanInput a b)).hold

/-- Some cell takes a product of the slot. -/
def takesProduct (a b : Side) (prods : Nat) : Bool :=
  (List.range prods).any (fun k =>
    a.regs.any (fun r => (nth r k none).isSome) && b.regs.any (fun r => (nth r k none).isSome))

/-- The injection of a residue applies to the group: ARM in MAINT, K-group 0 of pass 0 (R84). -/
def Device.injects (d : Device) (n pass g : Nat) : Bool :=
  d.regBit (Reg.sprRckInj n) 31 && d.spireMaint n && decide (pass = 0 ∧ g = 0)

/-- Spire `n` takes the products of a slot in dclk `x`, the last of the slot (R63, R72): every cell enters them into its open
group; after the last slot of a K-group the group closes. [DEDUCED, unsafe: notes/assumptions/94] -/
def Device.takeProducts (d : Device) (p : Dop) (n x pass : Nat) (q : Pass) (m : Nat) : Device :=
  let e := p.desc
  let g := m / q.groupSlots
  let sp := d.spire n
  let a := sp.a.takeSlot
  let b := sp.b.takeSlot
  let defs := p.env.defects.filter (fun y => y.spire == n && y.pass == pass && y.group == g)
  let hurt (c : Nat) : List MxDefect := defs.filter (fun y => y.row == c / 32 && y.col == c % 32)
  let cells := (List.range 1024).map (fun c =>
    openCell e ((hurt c).map (·.product)).sum (nth a.taken (c / 32) []) (nth b.taken (c % 32) []))
  let d := if takesProduct sp.a sp.b q.prods then d.bump (Reg.sprActiveDclk n) 1 else d
  if (m + 1) % q.groupSlots ≠ 0 then d.mapSpire n (fun s => { s with a := a, b := b, open_ := cells })
  else
    let inj (c : Nat) : Bool :=
      d.injects n pass g && decide (c / 32 = d.regF (Reg.sprRckInj n) 5 5) && decide (c % 32 = d.regF (Reg.sprRckInj n) 0 5)
    let done := cells.zipIdx.map (fun r =>
      let w := ((hurt r.2).map (·.sum)).sum
      { r.1 with
        win := r.1.win + BitVec.ofInt 40 w, empty := r.1.empty && decide (w = 0),
        res := BitVec.ofNat 3 ((r.1.res.toNat + (if inj r.2 then 1 else 0)) % 7) })
    let cg : ClosedGroup :=
      { at_ := x, op := p.op, pass := pass, group := g, cells := done, want := expected a.taken b.taken, bad := a.bad || b.bad }
    d.mapSpire n (fun s => { s with
      a := a.close, b := b.close, open_ := List.replicate 1024 OpenCell.initial, closing := s.closing ++ [cg] })

/-- The first MX special event of a task in a Spire is captured (R55, R81). -/
def Device.mxCapture (d : Device) (n : Nat) (w : Word) : Device :=
  if d.regBit (Reg.sprMxCapt n) 63 then d else d.setReg (Reg.sprMxCapt n) w

/-- An RCK error of a DOP in Spire `n` (R76): counted once for the DOP, the first of the task captured, the task marked. -/
def Device.rckError (d : Device) (n : Nat) (w : Word) : Device :=
  let d := if d.regBit (Reg.sprRckCapt n) 63 then d else d.setReg (Reg.sprRckCapt n) w
  if (d.spire n).rck then d
  else (((d.bump (Reg.sprRckCnt n) 1).bump Reg.errRckCnt 1).markPoison 48).mapSpire n (fun s => { s with rck := true })

/-- The flag interrupt of the first MX IV (R56, R373). [DEDUCED, unsafe: notes/assumptions/104] -/
def Device.flagIrq (d : Device) (p : Dop) : Device :=
  match d.lantern.run with
  | none => d
  | some r =>
    match d.lantern.tasks.find? (fun t => t.id == r.task) with
    | none => d
    | some t =>
      if dopIvIrq p.desc && bit (wd t.words 0) 31 && !r.flagSent && !t.remote then
        (d.setRun (some { r with flagSent := true })).msix (d.regF (Reg.hifRingCtl t.ring) 56 6) (fld (wd t.words 0) 38 5)
      else d

/-- t_g + 1: in integer and block modes every cell compares its group sum with its residue (R72, R75, R76). -/
def Device.compareCells (d : Device) (p : Dop) (n : Nat) (c : ClosedGroup) : Device :=
  match c.cells.zipIdx.find? (fun r => !cellCheck p.desc r.1) with
  | some (g, i) =>
    d.rckError n (captWord [(62, 1), (45, residue (checkedSum p.desc g)), (42, g.res.toNat)] c.pass (i / 32) (i % 32) c.group p.op)
  | none => d

/-- t_g + 2: every cell adds its group to its accumulator, and the flags, the first special event and the poison of the group
are recorded (R55, R64, R70, R72). Before its first group of a DOP, a cell holds the DOP's starting weight (R65). -/
def Device.addGroup (d : Device) (p : Dop) (n : Nat) (c : ClosedGroup) : Device :=
  let e := p.desc
  let start : Word := if pureInt e then 0xA700000000000000 else 0
  let sp := d.spire n
  let cells := if c.pass = 0 ∧ c.group = 0 then List.replicate 1024 start else sp.cells
  let outs := (cells.zip c.cells).map (fun r => (cellAdd (pureInt e) r.1 r.2, r.2))
  let d := d.setSpire n { sp with cells := outs.map (·.1.1), pois := sp.pois || c.bad }
  let d := if c.bad then d.markConsumed else d
  let fl := outs.foldl (fun f o => f ||| o.2.flags ||| o.1.2.1) 0
  let d := d.mxFlags n fl
  let event (o : (Word × BitVec 4 × Nat) × OpenCell) : Nat := if o.2.event ≠ 0 then o.2.event else o.1.2.2
  let d := match outs.zipIdx.find? (fun o => event o.1 != 0) with
    | some (o, i) => d.mxCapture n (captWord [(60, event o)] c.pass (i / 32) (i % 32) c.group p.op)
    | none => d
  if fl &&& fIV = 0 then d else d.flagIrq p

/-- t_g + 3: the sum of the cell residues is compared with the residue of the edges, and a used injection is cleared (R74, R76,
R84). -/
def Device.compareSpire (d : Device) (p : Dop) (n : Nat) (c : ClosedGroup) : Device :=
  let got := (c.cells.map (fun g => g.res.toNat)).sum % 7
  let d := if c.want = got then d else d.rckError n (captWord [(45, c.want), (42, got)] c.pass 0 0 c.group p.op)
  if d.injects n c.pass c.group then d.setF (Reg.sprRckInj n) 31 1 0 else d

/-- The close stages of Spire `n` in dclk `x` (R72). -/
def Device.closeStages (d : Device) (n x : Nat) : Device :=
  let cs := (d.spire n).closing
  let d := d.mapSpire n (fun s => { s with closing := s.closing.filter (fun c => decide (x < c.at_ + 3)) })
  cs.foldl (fun d c =>
    match d.dome.dops.find? (fun p => p.op == c.op) with
    | none => d
    | some p =>
      if x = c.at_ + 1 then d.compareCells p n c
      else if x = c.at_ + 2 then d.addGroup p n c
      else if x = c.at_ + 3 then d.compareSpire p n c
      else d) d

/-! ### The drain registers (R65, R78 - R80, R126) -/

/-- The columns of cell row `r` of Spire `n` whose result lies outside the rows and columns of a DOP (R89, R106). -/
def outsideOf (e : List Word) (n r : Nat) : BitVec 32 :=
  if dopRows e ≤ 32 * spireRow e n + r then BitVec.allOnes 32
  else laneMask (fun j => decide (dopCols e ≤ 2048 * spireGroup e n + 32 * (n % 64) + j))

/-- At t + 3 the accumulators of Spire `n` are copied into its drain registers and reset (R65, R70, R76, R79, R80). -/
def Device.loadDrain (d : Device) (p : Dop) (n x : Nat) : Device :=
  let sp := d.spire n
  let overran := sp.drain.unread != 0 || sp.drain.hold
  let d := if overran then (d.bump (Reg.sprDrainOvrCnt n) 1).cfgIntegrity 2 n p.op 51 else d
  let pois := sp.pois || sp.rck || overran
  let d := if pois then
      ((d.bump (Reg.sprPoisonCnt n) 1).bump Reg.errPoisonCnt 1).setF (Reg.sprFlags n) 16 1 1
    else d
  d.setSpire n { sp with
    drain := {
      rows := (List.range 32).map (fun r => (sp.cells.drop (32 * r)).take 32), pois := pois, loaded := some x,
      unread := BitVec.allOnes 32, hold := decide (dopRsKind p.desc ≠ 0) && !dopRsHold p.desc, op := p.op,
      out := (List.range 32).map (outsideOf p.desc n) },
    cells := List.replicate 1024 0, pois := false, rck := false }

/-- Row `r` of the drain registers read in dclk `u`: early (R126). -/
def Drain.early (x : Drain) (r u : Nat) : Bool :=
  match x.loaded with
  | none => true
  | some t => decide (u < t + 1 + r)

/-- What the DOPs do in Spire `n` in dclk `x` (R63 - R72): the close stages; the drain at t + 3; OPNUM from the first slot on; the
products of a slot whose last dclk this is; and the decoding of the next. -/
def Device.mxClock (d : Device) (n x : Nat) : Device :=
  let d := d.closeStages n x
  d.dome.dops.foldl (fun d p =>
    let d := if x = lastProduct p.desc p.t0 n + 3 then d.loadDrain p n x else d
    let d := if x = firstSlot p.t0 n then d.mapSpire n (fun s => { s with opnum := p.op }) else d
    let d := match slotAt p.desc p.t0 n x with
      | some (i, q, m, c) => if c + 1 = q.len then d.takeProducts p n x i q m else d
      | none => d
    d.convert p n x) d

/-- The matrix engines in dclk `x`, from the last Spire to the first: each finds its neighbours' buses as they were. -/
def Device.mxAll (d : Device) (x : Nat) : Device :=
  if d.dome.dops.isEmpty then d
  else (List.range 4096).foldl (fun d i => (d.mxClock (4095 - i) x).busClock (4095 - i) x) d

end Sys2Proof.Machine
end

