-- ==== Sys2Proof/Machine/VxOps.lean ====
section
/-!
DEFINITION. The issue of VX instructions: accesses, operations, effects at their dclk, loops, and the start and end of
programs (R112 - R130, R132 - R156).
-/
namespace Sys2Proof.Machine

open Sys2Proof

/-- The value on a bus, or of the C access: 32 lane values and their marks, and the stored bytes (R133). -/
structure BusVal where
  vals : List Val
  pois : BitVec 32
  bytes : List MByte
  deriving DecidableEq, Repr

def BusVal.none : BusVal := { vals := List.replicate 32 (.fin 0 0), pois := 0, bytes := [] }

/-- Number of an element of `w` bytes in the bytes of an access. -/
def elemNat (bs : List MByte) (w j : Nat) : Nat := bytesNat (((bs.drop (w * j)).take w).map (·.1))

def elemBad (bs : List MByte) (w j : Nat) : Bool := ((bs.drop (w * j)).take w).any (·.2)

/-- The value that a load takes from its bytes (R116, R133, R135, R150). In a block-24 vector every lane uses the exponent
in element 0. -/
def busVal (f : Nat) (mbk : Bool) (half : Nat) (bs : List MByte) : BusVal :=
  if fmtBits f = 4 then
    let at_ (j : Nat) : MByte := nth bs (16 * half + j / 2) (0, false)
    { vals := (List.range 32).map (fun j => decodeElem f (nibble (at_ j) (j % 2 == 1)).1),
      pois := laneMask (fun j => (at_ j).2), bytes := bs }
  else
    let w := fmtBits f / 8
    let x := elemNat bs w 0 / 2 ^ 24 % 256
    let blk := mbk && f == 12
    { vals := (List.range 32).map (fun j =>
        let n := elemNat bs w j
        if f = 14 then accVal (BitVec.ofNat 64 n)
        else if blk then decodeBlock x (sext n 24) 23
        else decodeElem f n),
      pois := laneMask (fun j => elemBad bs w j || (blk && elemBad bs w 0)), bytes := bs }

/-- What a load writes into a D register (R135, R150), and its flags. [DEDUCED, unsafe: notes/assumptions/90] -/
def loadD (f : Nat) (mbk : Bool) (b : BusVal) : DReg × BitVec 4 :=
  if f = 12 then
    let raw := (List.range 32).map (fun j => BitVec.ofNat 24 (elemNat b.bytes 4 j))
    let x := elemNat b.bytes 4 0 / 2 ^ 24 % 256
    ({ lanes := raw, bk := mbk, de := if mbk then BitVec.ofNat 8 x else 150, pois := b.pois }, 0)
  else toDReg mbk b.vals b.pois

/-- What a load writes into an accumulator (R135, R136); a stored ACC56 word unchanged. -/
def loadA (f : Nat) (b : BusVal) : AReg :=
  { lanes := (List.range 32).map (fun j =>
      if f = 14 then BitVec.ofNat 64 (elemNat b.bytes 8 j) else accWord (enterAcc (nth b.vals j .nan))),
    pois := b.pois }

/-- A byte that a store writes with its mark; none leaves the byte as it is (R106). -/
abbrev SByte := Option MByte

/-- A byte that is written. -/
def MByte.put (b : MByte) : SByte := some b

/-- The `w` bytes of the element of lane `j`, with the lane's mark; nothing for a lane whose value is not written (R106, R111). -/
def laneBytes (pois out : BitVec 32) (j w n : Nat) : List SByte :=
  (natBytes w n).map (fun b => if bit out j then none else some (b, bit pois j))

/-- A vector in block-24 form: X in bits [31:24] of element 0 (R36). -/
def block24Bytes (x : Nat) (es : List Nat) (pois out : BitVec 32) : List SByte :=
  (es.zipIdx).flatMap (fun r =>
    laneBytes pois out r.2 3 r.1 ++
      (if r.2 = 0 then (if out = BitVec.allOnes 32 then [none] else [some (BitVec.ofNat 8 x, bit pois 0)])
       else laneBytes pois out r.2 1 0))

/-- The bytes that a store writes for values in format `f`, and the flags (R116, R135, R136). -/
def storeVals (f : Nat) (mbk : Bool) (vals : List Val) (pois out : BitVec 32) : List SByte × BitVec 4 :=
  if f = 12 ∧ mbk = true then
    let (x, es, fl) := narrow24 vals
    (block24Bytes x (es.map (fun e => (e % 2 ^ 24).toNat)) pois out, fl)
  else
    let rs := vals.map (narrowElem f)
    ((rs.zipIdx).flatMap (fun r => laneBytes pois out r.2 (fmtBits f / 8) r.1.1), rs.foldl (fun a r => a ||| r.2) 0)

/-- The bytes of a D register stored; a block-24 register in block-24 form is stored unchanged (R124, R135). -/
def storeD (f : Nat) (mbk : Bool) (r : DReg) : List SByte × BitVec 4 :=
  if f = 12 ∧ mbk = true ∧ r.bk = true then (block24Bytes r.de.toNat (r.lanes.map (·.toNat)) r.pois r.out, 0)
  else storeVals f mbk r.vals r.pois r.out

/-- The bytes of an accumulator stored; an ACC56 word is stored unchanged (R135). -/
def storeA (f : Nat) (mbk : Bool) (r : AReg) : List SByte × BitVec 4 :=
  if f = 14 then ((r.lanes.zipIdx).flatMap (fun q => laneBytes r.pois r.out q.2 8 q.1.toNat), 0)
  else storeVals f mbk r.vals r.pois r.out

/-- Bytes cut into pieces of at most a line from address `a` on, each with the OR of its marks. -/
def cutPieces (a : Nat) (bs : List SByte) : List (Nat × List (Option Byte) × Bool) :=
  ((linePieces a bs.length 5).foldl (fun acc p =>
    let part := (bs.drop acc.2).take p.2.2
    (acc.1 ++ [(64 * p.1 + p.2.1, part.map (fun b => b.map (·.1)), part.any (fun b => b.elim false (·.2)))], acc.2 + p.2.2))
    (([] : List (Nat × List (Option Byte) × Bool)), 0)).1

/-! ### Effects at their dclk (R113, R114) -/

/-- What an accumulating effect makes of a lane (R47, R49, R141, R144). -/
def accLane (op : AccOp) (old : Word) (v : Val) : Word × BitVec 4 :=
  match op with
  | .add => let (r, fl) := accAdd (accVal old) v; (accWord r, fl)
  | .max =>
    let a := accVal old
    if a.isNan then (old, 0)
    else if v.isNan then (accWord .nan, 0)
    else if a.lt v then (accWord (enterAcc v), 0) else (old, 0)
  | .scale =>
    match accVal old, v with
    | .fin m c, .fin s _ => let (r, fl) := accScale (.fin m c) s; (accWord r, fl)
    | _, _ => (old, 0)

/-- One effect that takes place now. `v0` is what the engine held before this dclk: an accumulation reads it there. -/
def Device.effect (d : Device) (n : Nat) (v0 : Vx) (e : VxEffect) : Device :=
  match e with
  | .dreg i r => d.mapVx n (fun v => { v with d := v.d.set i r })
  | .acc i r => d.mapVx n (fun v => { v with acc := v.acc.set i r })
  | .accOp i op vs p out =>
    let old := v0.areg i
    let rs := (old.lanes.zip vs).map (fun r => accLane op r.1 r.2)
    let d := d.vxFlags n (rs.foldl (fun f r => f ||| r.2) 0)
    d.mapVx n (fun v => { v with acc := v.acc.set i { lanes := rs.map (·.1), pois := old.pois ||| p, out := old.out ||| out } })
  | .pointer k i x => d.mapVx n (fun v =>
      if k = 0 then { v with ap := v.ap.set i x } else if k = 1 then { v with ab := v.ab.set i x }
      else if k = 2 then { v with al := v.al.set i x } else { v with ao := v.ao.set i x })
  | .store ps => ps.foldl (fun d p => d.storePiece n p.1 p.2.1 p.2.2) d
  | .conflict => d

/-- Every effect of dclk `x` in Spire `n`, in the order of issue: of two writes of one register the later-issued remains. -/
def Device.commitVx (d : Device) (n x : Nat) : Device :=
  let v0 := d.vx n
  let d := d.mapVx n (fun v => { v with pending := v.pending.filter (fun p => decide (x < p.due)) })
  (v0.pending.filter (fun p => decide (p.due ≤ x))).foldl (fun d p => d.effect n v0 p.eff) d

/-! ### Buses and banks (R118) -/

/-- Bank of a tile-store line of a Spire (R115). -/
def bankOf (l : Nat) : Nat := 2 * (l / 1024 % 2) + l % 2

/-- Banks of the lines of an access. -/
def banksOf (a len : Nat) : List Nat := (linePieces a len 5).map (fun p => bankOf p.1)

/-- The banks of Spire `n` that the Dome-network port uses in dclk `t`: for units read and written, for the partials of row
statistics at T_RS, and for the final ones at T_P2 (R118, R170, R171, R286). -/
def Device.portBanks (d : Device) (n t : Nat) : List Nat :=
  let use (l : Nat) : List Nat := if l / 2048 = n then [bankOf (l % 2048)] else []
  (d.dome.units.flatMap (fun u =>
    (match u.src with
      | .line l => if u.read = t then use l else []
      | _ => []) ++
    (match u.dst with
      | .line l _ => if u.write = t then use l else []
      | _ => []))) ++
  (d.dome.dops.flatMap (fun p =>
    let b := bankOf (statByte p.desc 0 0 / 64)
    if dopRsKind p.desc = 0 then []
    else if t = rsTime p.desc p.t0 then [b]
    else if t = ph2Time p.desc p.t0 then [b, b + 1]
    else []))

/-- An access to the bytes `[a, a + len)` in dclk `t` meets the port in a bank; `bs`: the dclk from which the word's timing
counts. -/
def Device.portMeets (d : Device) (n bs t a len : Nat) (env : VxEnv) : Bool :=
  let used := d.portBanks n t ++ (env.port.filter (fun e => e.1 == t - bs)).map (·.2)
  (banksOf a len).any (fun b => used.contains b)

/-- The access that has lost its bus: a store is discarded; of a load the second half is poisoned zeros. -/
def loseHalf : VxEffect → Option VxEffect
  | .store _ => none
  | .acc i r => some (.acc i { r with lanes := r.lanes.take 16 ++ List.replicate 16 0, pois := r.pois ||| 0xFFFF0000 })
  | .accOp i op vs p out => some (.accOp i op (vs.take 16 ++ List.replicate 16 (.fin 0 0)) (p ||| 0xFFFF0000) out)
  | e => some e.poison

/-- The fault of a lost access, charged to the instruction of pending effect `q`, waits for the dclk `t` of the meeting
(R118, R130). -/
def Vx.clash (v : Vx) (q : VxPending) (t : Nat) : Vx :=
  { v with pending := v.pending ++ [{ q with due := t, seq := v.nextSeq, bus := none, eff := .conflict }], nextSeq := v.nextSeq + 1 }

/-- Bus `b` is used in dclk `t` by a later instruction: an earlier one that still needs it then loses its access, and a
conflict fault is charged to it (R118, R125, R127). -/
def Device.claimBus (d : Device) (n b t : Nat) : Device :=
  match (d.vx n).pending.find? (fun p => p.bus == some (b, t)) with
  | none => d
  | some q => d.mapVx n (fun v =>
      let lost : List VxPending := v.pending.filterMap (fun (p : VxPending) =>
        if p.bus = some (b, t) then (loseHalf p.eff).map (fun e => { p with eff := e, bus := none }) else some p)
      Vx.clash { v with pending := lost } q t)

/-- The faults of lost accesses of dclk `x` come (R118, R130). -/
def Device.raiseClashes (d : Device) (n x : Nat) : Device :=
  let qs := (d.vx n).pending.filter (fun q => q.eff == .conflict && decide (q.due ≤ x))
  let d := d.mapVx n (fun v => { v with pending := v.pending.filter (fun q => !(q.eff == .conflict && decide (q.due ≤ x))) })
  qs.foldl (fun d q => (d.bump (Reg.sprTsConflictCnt n) 1).vxFault n x 4 q.pc q.prog q.op) d

/-- Stores of dclk `x` that meet the port in a bank are discarded (R118). -/
def Device.losePort (d : Device) (n x : Nat) : Device :=
  let used := d.portBanks n x
  let meets (q : VxPending) : Bool := match q.eff with
    | .store ps => decide (q.due = x) && ps.any (fun p => used.contains (bankOf (p.1 / 64)))
    | _ => false
  if used.isEmpty then d
  else d.mapVx n (fun v => { v with pending := v.pending.map (fun q => if meets q then { q with bus := none, eff := .conflict } else q) })

/-! ### Accesses -/

/-- An access of a word: bus, direction, pointer, mode, register. -/
structure VxAccess where
  bus : Nat
  store : Bool
  ap : Nat
  mode : Nat
  reg : Nat
  deriving DecidableEq, Repr

/-- The X and Y accesses of a word, in that order. -/
def accesses (w : VxWord) : List VxAccess :=
  (if hasX w then [{ bus := 0, store := w.xdir == 1, ap := w.xap.toNat, mode := w.xmode.toNat, reg := w.xreg.toNat }] else []) ++
  (if hasY w then [{ bus := 1, store := w.ydir == 1, ap := w.yap.toNat, mode := w.ymode.toNat, reg := w.yreg.toNat }] else [])

/-- The pack buffer of a bus, with what a word appends to it (R148, R149). -/
def Vx.pack (v : Vx) (bus : Nat) : List SByte := if bus = 0 then v.packX else v.packY

def Vx.setPack (v : Vx) (bus : Nat) (bs : List SByte) : Vx :=
  if bus = 0 then { v with packX := bs } else { v with packY := bs }

/-- The block that PKST appends: X, then the elements (R33, R35, R52, R148). Bytes that hold nothing but lanes outside the
rows and columns of the DOP are not written (R106). -/
def blockBytes (f : Nat) (vs : List Val) (pois out : BitVec 32) : List SByte × BitVec 4 :=
  let (x, es, fl) := if f = 4 then narrowBlock 2 0 7 vs else narrowBlock 6 0 127 vs
  let head : SByte := if out = BitVec.allOnes 32 then none else some (BitVec.ofNat 8 x, pois != 0)
  let body : List SByte :=
    if f = 4 then (List.range 16).map (fun i =>
      if bit out (2 * i) && bit out (2 * i + 1) then none
      else some (BitVec.ofNat 8 ((nth es (2 * i) 0 % 16).toNat + 16 * (nth es (2 * i + 1) 0 % 16).toNat),
        bit pois (2 * i) || bit pois (2 * i + 1)))
    else (List.range 32).map (fun i => if bit out i then none else some (BitVec.ofInt 8 (nth es i 0), bit pois i))
  (head :: body, fl)

/-- The granule that PKST writes for two vectors in a 4-bit format (R35, R148). -/
def nibbleBytes (f : Nat) (vs : List Val) (marks out : List Bool) : List SByte × BitVec 4 :=
  let rs := vs.map (narrowElem f)
  ((List.range 32).map (fun i =>
    if nth out (2 * i) false && nth out (2 * i + 1) false then none
    else some (BitVec.ofNat 8 ((nth rs (2 * i) (0, 0)).1 % 16 + 16 * ((nth rs (2 * i + 1) (0, 0)).1 % 16)),
      nth marks (2 * i) false || nth marks (2 * i + 1) false)),
   rs.foldl (fun a r => a ||| r.2) 0)

/-- Program `p` has faulted, or another has stopped it: what it writes is poisoned (R130). -/
def Vx.tainted (v : Vx) (p : Prog) : Bool := v.prog.elim false (fun q => q.faulted || q.id != p.id)

/-- An effect of program `p` that takes place at once. -/
def Device.effectOf (d : Device) (n : Nat) (p : Prog) (e : VxEffect) : Device :=
  d.effect n (d.vx n) (if (d.vx n).tainted p then e.poison else e)

/-- A pending effect of the instruction at `pc` of program `p`, due at dclk `due`. -/
def Device.pend (d : Device) (n : Nat) (p : Prog) (due : Nat) (bus : Option (Nat × Nat)) (e : VxEffect) : Device :=
  d.mapVx n (fun v =>
    { v with
      pending := v.pending ++ [{ due := due, seq := v.nextSeq, pc := p.pc, prog := p.id, op := p.op, bus := bus,
                                 eff := if v.tainted p then e.poison else e }],
      nextSeq := v.nextSeq + 1 })

/-- The vectors of a word's loads and of its C access. -/
structure Reads where
  x : BusVal
  y : BusVal
  c : BusVal
  /-- Pointers after the modifications so far. -/
  ap : List (BitVec 12)
  deriving DecidableEq, Repr

/-- The lanes of a source specifier whose value comes from outside the rows and columns of its DOP (R106). -/
def outOf (v : Vx) (c : Nat) : BitVec 32 :=
  if c < 8 then (v.dreg c).out else if c = 8 ∨ c = 9 then (v.areg (c - 8)).out else 0

/-- The values and marks of a source specifier (R133). -/
def sourceOf (v : Vx) (r : Reads) (c : Nat) : List Val × BitVec 32 :=
  if c < 8 then ((v.dreg c).vals, (v.dreg c).pois)
  else if c = 8 ∨ c = 9 then ((v.areg (c - 8)).vals, (v.areg (c - 8)).pois)
  else if c = 10 then (r.x.vals, r.x.pois)
  else if c = 11 then (r.y.vals, r.y.pois)
  else if c = 12 then (r.c.vals, r.c.pois)
  else (List.replicate 32 (.fin 0 0), 0)

/-- The fault of an access that is lost in dclk `t` by the instruction of program `p` (R118, R130). -/
def Device.clashAt (d : Device) (n t : Nat) (p : Prog) : Device :=
  d.mapVx n (fun v => v.clash { due := t, seq := 0, pc := p.pc, prog := p.id, op := p.op, bus := none, eff := .conflict } t)

/-- The dclk of an access and, of two for ACC56, which bytes move in each: offset, length and dclk (R116, R137). -/
def accessParts (w : VxWord) (bs len : Nat) : List (Nat × Nat × Nat) :=
  if wide w then [(0, 128, bs), (128, len - 128, bs + 1)] else [(0, len, bs + 1)]

/-- One load of a word (R113, R116, R117, R118): the vector read, and the register written two dclk after the issue. What the
port takes away in a dclk is poisoned zeros. [DEDUCED, unsafe: notes/assumptions/143] -/
def Device.doLoad (d : Device) (n bs : Nat) (w : VxWord) (env : VxEnv) (p : Prog) (a : VxAccess) (addr : BitVec 12) :
    BusVal × Device :=
  let f := w.mfmt.toNat
  let z := granules f
  let at_ := busByte a.bus z addr
  let (bytes, d) := (accessParts w bs (32 * z)).foldl (fun (acc : List MByte × Device) q =>
    if acc.2.portMeets n bs q.2.2 (at_ + q.1) q.2.1 env then
      (acc.1 ++ List.replicate q.2.1 ((0 : Byte), true), acc.2.clashAt n q.2.2 p)
    else
      let (bs, d) := acc.2.loadBytes n (at_ + q.1) q.2.1 a.bus (q.1 / 8) env.ecc
      (acc.1 ++ bs, d)) ([], d.claimBus n a.bus (bs + 1))
  let v := busVal f (w.mbk == 1) (if opcode w = 0x41 then w.sh.toNat % 2 else 0) bytes
  let use := if wide w then some (a.bus, bs + 1) else none
  let d :=
    if a.reg < 8 then
      let (r, fl) := loadD f (w.mbk == 1) v
      (d.vxFlags n fl).pend n p (bs + 2) use (.dreg a.reg r)
    else if a.reg < 10 then d.pend n p (bs + 2) use (.acc (a.reg - 8) (loadA f v))
    else d
  (v, d)

/-- The C access of a word (R116, R119, R132). -/
def Device.doCoef (d : Device) (n : Nat) (w : VxWord) (env : VxEnv) (addr : BitVec 12) : BusVal × Device :=
  let vec := w.ck == 1
  let a := if vec then addr.toNat % 2048 / 32 * 32 else addr.toNat % 2048
  let (ws, d) := d.coefWords n a (if vec then 32 else 1) env.ecc
  let w0 := nth ws 0 (0, false)
  let val (q : Nat × Bool) (x : Nat) : Val :=
    if w.cbk = 1 then decodeBlock (x / 2 ^ 24 % 256) (sext q.1 24) 23 else .fin (sext q.1 24) 0
  ({ vals := (List.range 32).map (fun j => if vec then val (nth ws j (0, false)) w0.1 else val w0 w0.1),
     pois := laneMask (fun j => if vec then (nth ws j (0, false)).2 || (w.cbk == 1 && w0.2) else w0.2), bytes := [] }, d)

/-- One store of a word (R113, R116, R118, R135): the register narrowed, the memory written a dclk after the dclk `bs` from
which the timing counts, of ACC56 the first half in `bs` itself (R137). -/
def Device.doStore (d : Device) (n bs : Nat) (w : VxWord) (env : VxEnv) (p : Prog) (a : VxAccess) (addr : BitVec 12)
    (bytes : List SByte) : Device :=
  let at_ := busByte a.bus (max 1 (bytes.length / 32)) addr
  (accessParts w bs bytes.length).foldl (fun d q =>
    let e := VxEffect.store (cutPieces (at_ + q.1) ((bytes.drop q.1).take q.2.1))
    let meets := d.portMeets n bs q.2.2 (at_ + q.1) q.2.1 env
    if q.2.2 = bs then (if meets then (d.clashAt n bs p).raiseClashes n bs else d.effectOf n p e)
    else if meets then d.clashAt n q.2.2 p
    else d.pend n p q.2.2 (if wide w then some (a.bus, q.2.2) else none) e) (d.claimBus n a.bus (bs + 1))

/-- The pointers after the modification of an access, which is circular also when it changes by 0; mode 0b110 outside MAINT
leaves its pointer (R119 - R121). -/
def Device.stepPointer (d : Device) (n : Nat) (ap : List (BitVec 12)) (i mode z : Nat) : List (BitVec 12) :=
  let v := d.vx n
  if mode = 6 ∧ d.spireMaint n = false then ap
  else ap.set i (v.modified i (modeDelta v mode i z) ap)

/-! ### Operations (R140 - R150) -/

/-- Lane by lane, with the OR of the flags. -/
def lanewise (f : Val → Val → Val × BitVec 4) (a b : List Val) : List Val × BitVec 4 :=
  let rs := (a.zip b).map (fun p => f p.1 p.2)
  (rs.map (·.1), rs.foldl (fun x r => x ||| r.2) 0)

/-- NRM of a lane (R143). -/
def nrmLane : Val → Val × BitVec 4
  | .fin m e => (if m = 0 then .fin (-8388608) 0 else .fin (log2Val m e) 0, 0)
  | .inf _ => (.fin 8388607 0, 0)
  | .nan => (.fin 0 0, fIV)

/-- One level of the pairwise tree (R145). -/
def treeLevel (f : Val → Val → Val × BitVec 4) : List Val → List Val × BitVec 4
  | a :: b :: rest =>
    let (r, fl) := f a b
    let (rs, fls) := treeLevel f rest
    (r :: rs, fl ||| fls)
  | l => (l, 0)

/-- The pairwise tree over up to 2^k values (R145, R170). -/
def treeReduce (f : Val → Val → Val × BitVec 4) : Nat → List Val → List Val × BitVec 4
  | 0, l => (l, 0)
  | k + 1, l =>
    let (r, fl) := treeLevel f l
    let (s, gl) := treeReduce f k r
    (s, fl ||| gl)

/-- The larger of two accumulators, the left one when they are equal (R141). -/
def accMax (a b : Val) : Val × BitVec 4 := (a.pick false b, 0)

/-- The lanes of a D-destination operation's result that come from outside the rows and columns of the DOP (R106). -/
def dOut (v : Vx) (r : Reads) (w : VxWord) : BitVec 32 :=
  let b := sourceOf v r w.sb.toNat
  if opcode w = 0x17 then
    laneMask (fun j => if (nth b.1 j .nan).lt (.fin 0 0) then bit (outOf v w.sa.toNat) j else bit (v.dreg w.ds.toNat).out j)
  else outOf v w.sa.toNat ||| outOf v w.sb.toNat

/-- A move of a block-24 vector to a block-24 register changes no format: the register is copied (R124). -/
def plainMove (v : Vx) (r : Reads) (w : VxWord) : Option DReg :=
  let c := w.sa.toNat
  if opcode w ≠ 0x10 ∨ w.sh ≠ 0 ∨ w.bkr = 0 then none
  else if c < 8 then (if (v.dreg c).bk then some (v.dreg c) else none)
  else if (c = 10 ∨ c = 11) ∧ w.mfmt = 12 ∧ w.mbk = 1 then some (loadD 12 true (if c = 10 then r.x else r.y)).1
  else none

/-- The exact result of a D-destination operation, before scaling and narrowing, with its flags and marks (R140, R142). -/
def dResult (v : Vx) (r : Reads) (w : VxWord) : List Val × BitVec 4 × BitVec 32 :=
  let a := sourceOf v r w.sa.toNat
  let b := sourceOf v r w.sb.toNat
  let o := opcode w
  if o = 0x11 then let x := lanewise Val.add a.1 b.1; (x.1, x.2, a.2 ||| b.2)
  else if o = 0x12 then let x := lanewise (fun p q => p.add q.neg) a.1 b.1; (x.1, x.2, a.2 ||| b.2)
  else if o = 0x13 then let x := lanewise (fun p q => (p.pick false q, 0)) a.1 b.1; (x.1, x.2, a.2 ||| b.2)
  else if o = 0x14 then let x := lanewise (fun p q => (p.pick true q, 0)) a.1 b.1; (x.1, x.2, a.2 ||| b.2)
  else if o = 0x15 then (a.1.map Val.abs, 0, a.2)
  else if o = 0x16 then (a.1.map Val.neg, 0, a.2)
  else if o = 0x17 then
    let old := v.dreg w.ds.toNat
    let neg (x : Val) : Bool := x.lt (.fin 0 0)
    ((List.range 32).map (fun j => if neg (nth b.1 j .nan) then nth a.1 j .nan else nth old.vals j .nan), 0,
     laneMask (fun j => bit b.2 j || (if neg (nth b.1 j .nan) then bit a.2 j else bit old.pois j)))
  else if o = 0x18 then
    let rs := a.1.map nrmLane
    (rs.map (·.1), rs.foldl (fun x q => x ||| q.2) 0, a.2)
  else (a.1, 0, a.2)

/-- The operation of a vector-format word: the effects it leaves pending (R138, R142 - R150). `bs` is the dclk from which
its timing counts. [DEDUCED, unsafe: notes/assumptions/104] -/
def Device.operate (d : Device) (n bs : Nat) (w : VxWord) (p : Prog) (r : Reads) : Device :=
  let v := d.vx n
  let o := opcode w
  let sa := w.sa.toNat
  let sb := w.sb.toNat
  let ds := w.ds.toNat
  let a := sourceOf v r sa
  let b := sourceOf v r sb
  let use := if wide w && (sa == 10 || sa == 11) then some (sa - 10, bs + 1) else none
  let ddue := if isBus sa || isBus sb || isAcc sa then bs + 2 else bs + 1
  let out := outOf v sa ||| outOf v sb
  let accPend (op : AccOp) (vs : List Val) (pois : BitVec 32) : Device :=
    d.pend n p (bs + 3) use (.accOp (ds - 8) op vs pois out)
  if o = 0x00 ∨ o = 0x40 ∨ o = 0x42 then d
  else if o = 0x05 then
    let row := w.sh.toNat % 32
    let q := (d.spire n).drain
    if q.early row bs then
      d.pend n p (bs + 2) none (.acc (ds - 8) { lanes := List.replicate 32 0, pois := BitVec.allOnes 32 })
    else
      let d := d.mapSpire n (fun s => { s with drain := { s.drain with unread := s.drain.unread &&& ~~~(BitVec.ofNat 32 (2 ^ row)) } })
      let d := if q.pois then d.markConsumed else d
      d.pend n p (bs + 2) none (.acc (ds - 8)
        { lanes := if q.pois then List.replicate 32 0 else nth q.rows row [], pois := if q.pois then BitVec.allOnes 32 else 0,
          out := nth q.out row 0 })
  else if o = 0x41 then
    let l := if w.xreg = 14 then r.x else r.y
    d.pend n p (bs + 2) none (.dreg ds (toDReg (w.mfmt == 6) l.vals l.pois).1)
  else if isD ds then
    match plainMove v r w with
    | some reg => d.pend n p ddue use (.dreg ds reg)
    | none =>
      let (vs, fl, pois) := dResult v r w
      let (reg, fl2) := toDReg (w.bkr == 1) (vs.map (fun q => q.scale (sext w.sh.toNat 7))) pois
      (d.vxFlags n (fl ||| fl2)).pend n p ddue use (.dreg ds { reg with out := dOut v r w })
  else if o = 0x10 then
    d.pend n p (bs + 3) use (.acc (ds - 8)
      { lanes := if isAcc sa then (v.areg (sa - 8)).lanes else a.1.map (fun q => accWord (enterAcc q)), pois := a.2, out := out })
  else if o = 0x20 then
    let ps := lanewise Val.mul a.1 b.1
    let rs := lanewise (fun q _ => accAdd (.fin 0 (-167)) q) ps.1 ps.1
    (d.vxFlags n (ps.2 ||| rs.2)).pend n p (bs + 3) none (.acc (ds - 8) { lanes := rs.1.map accWord, pois := a.2 ||| b.2, out := out })
  else if o = 0x21 ∨ o = 0x28 then
    let ps := lanewise Val.mul a.1 b.1
    (accPend .add ps.1 (a.2 ||| b.2)).vxFlags n ps.2
  else if o = 0x22 then
    let ps := lanewise Val.mul a.1 b.1
    (accPend .add (ps.1.map Val.neg) (a.2 ||| b.2)).vxFlags n ps.2
  else if o = 0x23 then accPend .add (a.1.map enterAcc) a.2
  else if o = 0x24 then accPend .add (a.1.map (fun q => (enterAcc q).neg)) a.2
  else if o = 0x25 then accPend .max a.1 a.2
  else if o = 0x26 then
    d.pend n p (bs + 3) none (.acc (ds - 8) { lanes := List.replicate 32 0, pois := 0 })
  else if o = 0x27 then
    accPend .scale ((v.dreg sa).lanes.map (fun q => .fin (sext q.toNat 24) 0)) a.2
  else if o = 0x38 ∨ o = 0x39 then
    let (rs, fl) := treeReduce (if o = 0x38 then accAdd else accMax) 5 a.1
    (d.vxFlags n fl).pend n p (bs + 6) none (.acc (ds - 8)
      { lanes := List.replicate 32 (accWord (nth rs 0 .nan)), pois := if a.2 = 0 then 0 else BitVec.allOnes 32 })
  else d

/-- The bytes that a store access of a word writes, and the engine after it: a register narrowed, the packed result, the
move of TAPM, or nothing while a pack buffer holds less than a line (R134, R135, R147 - R149). What a faulted program appends
to a pack buffer is poisoned, as all that it writes (R130). -/
def Device.storeData (d : Device) (n : Nat) (w : VxWord) (p : Prog) (a : VxAccess) (r : Reads) : Option (List SByte) × Device :=
  let v := d.vx n
  let f := w.mfmt.toNat
  let o := opcode w
  let sh := sext w.sh.toNat 7
  if a.reg < 8 then
    let (bs, fl) := storeD f (w.mbk == 1) (v.dreg a.reg)
    (some bs, d.vxFlags n fl)
  else if a.reg < 10 then
    let (bs, fl) := storeA f (w.mbk == 1) (v.areg (a.reg - 8))
    (some bs, d.vxFlags n fl)
  else if o = 0x28 then (some ((if a.bus = 0 then r.y.bytes else r.x.bytes).map MByte.put), d)
  else if o = 0x40 then
    let s := v.dreg w.sa.toNat
    let vs := s.vals.map (fun q => q.scale sh)
    if f = 4 ∨ f = 5 then
      let (bs, fl) := blockBytes f vs s.pois s.out
      let d := d.vxFlags n fl
      let buf := v.pack a.bus ++ bs.map (fun b => b.map (fun b => (b.1, b.2 || v.tainted p)))
      if 64 ≤ buf.length then (some (buf.take 64), d.mapVx n (fun v => v.setPack a.bus (buf.drop 64)))
      else (none, d.mapVx n (fun v => v.setPack a.bus buf))
    else
      let t := v.dreg w.sb.toNat
      let (bs, fl) := nibbleBytes f (vs ++ t.vals.map (fun q => q.scale sh))
        ((List.range 32).map (fun j => bit s.pois j) ++ (List.range 32).map (fun j => bit t.pois j))
        ((List.range 32).map (fun j => bit s.out j) ++ (List.range 32).map (fun j => bit t.out j))
      (some bs, d.vxFlags n fl)
  else
    let buf := v.pack a.bus
    if buf.isEmpty then (none, d)
    else (some (buf ++ List.replicate (64 - buf.length) (some ((0 : Byte), false))), d.mapVx n (fun v => v.setPack a.bus []))

/-- A vector-format word acts in dclk `bs`, from which its timing counts (R112 - R120, R137): its loads and its C access, its
operation, its stores, and the modifications of its pointers in the order X, Y, C. -/
def Device.issueVector (d : Device) (n bs : Nat) (w : VxWord) (env : VxEnv) (p : Prog) : Device :=
  let v := d.vx n
  let f := w.mfmt.toNat
  let r0 : Reads := { x := BusVal.none, y := BusVal.none, c := BusVal.none, ap := v.ap }
  let addr (i : Nat) : BitVec 12 := nth v.ap i 0
  let (r1, d) := (accesses w).foldl (fun (acc : Reads × Device) a =>
    if a.store then acc
    else
      let (b, d) := acc.2.doLoad n bs w env p a (addr a.ap)
      (if a.bus = 0 then { acc.1 with x := b } else { acc.1 with y := b }, d)) (r0, d)
  let (r2, d) := if w.ck = 0 then (r1, d) else
    let (b, d) := d.doCoef n w env (addr w.cap.toNat)
    ({ r1 with c := b }, d)
  let (ap, d) := (accesses w).foldl (fun (acc : List (BitVec 12) × Device) a =>
    if a.store then
      let (bytes, d) := acc.2.storeData n w p a r2
      match bytes with
      | none => (acc.1, d)
      | some bytes =>
        let d := if opcode w = 0x28 then
            let at_ := busByte a.bus 4 (addr a.ap)
            let d := d.claimBus n a.bus (bs + 2)
            if d.portMeets n bs (bs + 2) at_ 128 { env with ecc := [] } then d.clashAt n (bs + 2) p
            else d.pend n p (bs + 2) (some (a.bus, bs + 2)) (.store (cutPieces at_ bytes))
          else d.doStore n bs w env p a (addr a.ap) bytes
        (d.stepPointer n acc.1 a.ap a.mode (max 1 (bytes.length / 32)), d)
    else (acc.2.stepPointer n acc.1 a.ap a.mode (granules f), acc.2)) (v.ap, d)
  let ap := if w.ck = 0 then ap else d.stepPointer n ap w.cap.toNat w.cmode.toNat (if w.ck = 1 then 32 else 1)
  let d := d.operate n bs w p r2
  (List.range 8).foldl (fun d i =>
    if nth ap i 0 = nth v.ap i 0 then d else d.pend n p (bs + 1) none (.pointer 0 i (nth ap i 0))) d

/-! ### Loops and programs (R122, R123, R125, R151 - R153) -/

/-- The index issued after index `pc`, with the dclk that the jump back costs, and the loops after it (R123, R152). -/
def nextIndex (pc : Nat) (cache : Option (Nat × Nat)) : List Loop → Nat × Nat × List Loop
  | [] => (pc + 1, 0, [])
  | l :: ls =>
    if l.last ≠ pc then (pc + 1, 0, l :: ls)
    else if l.left = 0 then nextIndex pc cache ls
    else (l.first, if cache = some (l.first, l.last) then 0 else 2, { l with left := l.left - 1 } :: ls)

/-- The threads of a DOP with LAYER_END (R241). [DEDUCED, unsafe: notes/assumptions/98] -/
def drainThreads (e : List Word) : List Nat :=
  (List.range 4).flatMap (fun k => [256 * k + dopBThread e, 256 * k + dopOutThread e])

/-- The running task launches no further DOP: all of its steps have been launched, or it has been stopped (R190). -/
def Device.lastLaunched (d : Device) : Bool :=
  d.lantern.run.elim true (fun r => r.stopAfter.isSome || decide ((d.dopSteps r.header).length ≤ d.dome.dops.length))

/-- A Spire's last program for DOP `op` has ended with dclk `x - 1`; when it was the last Spire's, a layer's drain point
follows, and after the task's last DOP the ramp-down begins (R102, R241). [DEDUCED, unsafe: notes/assumptions/97] -/
def Device.dopEnded (d : Device) (op x : Nat) : Device :=
  let d := { d with dome := { d.dome with dops := d.dome.dops.map (fun (p : Dop) =>
    if p.op = op then { p with left := p.left - 1, ended := max p.ended x } else p) } }
  let d := if d.dome.dops.all (fun p => p.left == 0) && d.lastLaunched then d.rampDownFrom d.rampEnd else d
  match d.dome.dops.find? (fun p => p.op == op) with
  | some p =>
    if p.left = 0 ∧ dopLayerEnd p.desc = true then
      { d with streams := { d.streams with drains := d.streams.drains ++ [((p.ended - 1) / 4 + 1, drainThreads p.desc)] } }
    else d
  | none => d

/-- The running program of Spire `n` ends in dclk `x` (R125, R151). The HALT of phase two releases the drain registers, if they
still hold the results of its DOP (R172). -/
def Device.endProgram (d : Device) (n x : Nat) (p : Prog) (halted : Bool) : Device :=
  let v := d.vx n
  let ended := (v.pending.filter (fun q => q.prog == p.id)).foldl (fun a q => max a q.due) (x + 1)
  let d := d.mapVx n (fun v => { v with prog := none, loops := [] })
  let d := if p.kind = .phase2 ∧ halted = true ∧ (d.spire n).drain.op = p.op then
      d.mapSpire n (fun s => { s with drain := { s.drain with hold := false } })
    else d
  let last : Bool := match p.kind with
    | .epilogue => (d.dome.dops.find? (fun q => q.op == p.op)).elim false (fun q => decide (dopRsKind q.desc = 0))
    | .phase2 => true
    | _ => false
  if last then d.dopEnded p.op ended else d

/-- A program starts in Spire `n` at dclk `x`; one that still runs is stopped (R125, R161, R171).
[DEDUCED, unsafe: notes/assumptions/96] -/
def Device.startProgram (d : Device) (n x : Nat) (kind : ProgKind) (op pc : Nat) : Device :=
  let d := match (d.vx n).prog with
    | none => d
    | some p => (d.vxFault n x 5 (d.vx n).pc p.id p.op).endProgram n x p false
  d.mapVx n (fun v => { v with
    prog := some { id := v.nextProg, kind := kind, op := op, pc := pc, issue := x, faulted := false },
    nextProg := v.nextProg + 1, loops := [], cache := none })

/-- The faults that vector-format word `u` of program `p` raises in Spire `n` in the dclk `bs` in which it acts: mode 0b110
outside MAINT, by access; an early drain read (R121, R126, R130). [DEDUCED, unsafe: notes/assumptions/93] -/
def Device.vectorFaults (d : Device) (n bs : Nat) (p : Prog) (u : VxWord) : List (Nat × Nat) :=
  let v := d.vx n
  let idle (a : VxAccess) : Bool := a.store && a.reg == 14 &&
    ((opcode u == 0x42 && (v.pack a.bus).isEmpty) ||
     (opcode u == 0x40 && ((u.mfmt == 4 && decide ((v.pack a.bus).length + 17 < 64)) ||
        (u.mfmt == 5 && decide ((v.pack a.bus).length + 33 < 64)))))
  let modes := ((accesses u).filter (fun a => !idle a)).map (·.mode) ++ (if u.ck = 0 then [] else [u.cmode.toNat])
  (if d.spireMaint n then [] else (modes.filter (· == 6)).map (fun _ => (1, p.pc))) ++
  (if opcode u = 0x05 ∧ (d.spire n).drain.early (u.sh.toNat % 32) bs = true then [(3, p.pc)] else [])

/-- The faults that the word at index `pc` raises at its issue in dclk `x`: an illegal word; a fifth loop; those of a word that
acts in its issue dclk (R121, R122, R126, R130, R137, R153, R156). -/
def Device.wordFaults (d : Device) (n x : Nat) (p : Prog) : List (Nat × Nat) :=
  let v := d.vx n
  let w := d.vxWord n p.pc
  if p.pc = 2048 then [(2, 2047)]
  else if vxLegal w p.pc v.loops = false then [(2, p.pc)]
  else match decodeControl w with
    | some (.loop _ _) => if v.loops.length = 4 then [(6, p.pc)] else []
    | some _ => []
    | none => if wide (decodeVx w) then [] else d.vectorFaults n x p (decodeVx w)

/-- The held word whose dclk is `x`. -/
def Vx.heldAt (v : Vx) (x : Nat) : Option VxHeld := v.held.filter (fun h => h.due == x)

/-- The word at the program's index issues in dclk `x` (R112, R122, R151 - R153, R156). -/
def Device.issueWord (d : Device) (n x : Nat) (env : VxEnv) (p : Prog) : Device :=
  let v := d.vx n
  if p.pc = 2048 then d.endProgram n x p true
  else
    let w := d.vxWord n p.pc
    let legal := vxLegal w p.pc v.loops
    let d := d.mapVx n (fun v => { v with pc := p.pc })
    let go (d : Device) (len : Nat) : Device := d.mapVx n (fun v =>
      let (i, cost, ls) := nextIndex p.pc v.cache v.loops
      { v with loops := ls, prog := v.prog.map (fun q => { q with pc := i, issue := x + len + cost }) })
    if legal = false then go d 1
    else match decodeControl w with
      | some .halt => d.endProgram n x p true
      | some (.loop c b) =>
        if v.loops.length = 4 then go d 1
        else
          let l : Loop := { first := p.pc + 1, last := p.pc + b.toNat + 1, left := c.toNat }
          d.mapVx n (fun v => { v with
            loops := l :: v.loops, cache := if b.toNat < 32 then some (l.first, l.last) else v.cache,
            prog := v.prog.map (fun q => { q with pc := p.pc + 1, issue := x + 1 }) })
      | some (.seta k i val) => go (d.pend n p (x + 1) none (.pointer k.toNat i.toNat val)) 1
      | some (.ldi i bk de imm) =>
        go (d.pend n p (x + 1) none (.dreg i.toNat
          { lanes := List.replicate 32 imm, bk := bk == 1, de := if bk = 1 then de else 150, pois := 0 })) 1
      | none =>
        let u := decodeVx w
        if wide u then go (d.mapVx n (fun v => { v with held := some { due := x + 1, prog := p, env := env } })) 2
        else go (d.issueVector n x u env p) 1

/-- The word of the last dclk that has ACC56 accesses acts in dclk `x` (R137). -/
def Device.actHeld (d : Device) (n x : Nat) : Device :=
  match (d.vx n).heldAt x with
  | none => d
  | some h =>
    (d.mapVx n (fun v => { v with held := none })).issueVector n x (decodeVx (d.vxWord n h.prog.pc)) h.env h.prog

/-- The faults `fs` of program `p` in Spire `n` in dclk `x`. -/
def Device.vxFaults (d : Device) (n x : Nat) (p : Prog) (fs : List (Nat × Nat)) : Device :=
  fs.foldl (fun d f => d.vxFault n x f.1 f.2 p.id p.op) d

/-- What VX does in Spire `n` in dclk `x`: the first buses of the word held are claimed, stores that meet the port are lost, and
the faults come, of lost accesses and of the words that act or issue; then the effects due, the word held, and the issue. -/
def Device.vxClock (d : Device) (n x : Nat) (env : VxEnv) : Device :=
  let d : Device := match (d.vx n).heldAt x with
    | none => d
    | some h =>
      let u := decodeVx (d.vxWord n h.prog.pc)
      (accesses u).foldl (fun d a => d.claimBus n a.bus x) (d.vxFaults n x h.prog (d.vectorFaults n x h.prog u))
  let d := (d.losePort n x).raiseClashes n x
  match (d.vx n).prog with
  | none => (d.commitVx n x).actHeld n x
  | some p =>
    if p.issue ≠ x then (d.commitVx n x).actHeld n x
    else (((d.vxFaults n x p (d.wordFaults n x p)).commitVx n x).actHeld n x).issueWord n x env p

end Sys2Proof.Machine
end

