-- ==== Sys2Proof/Machine/DomeNet.lean ====
section
/-!
DEFINITION. The Dome in each dclk: the units of the Dome network and the links that they meet on, copy routes, the north-edge
injectors, the row statistics, and then the programs of the Spires (R91, R117, R125, R161 - R172, R236, R250, R286, R287).
-/
namespace Sys2Proof.Machine

open Sys2Proof

/-! ### Starts and windows (R125, R161, R190) -/

/-- The dclk at which a program start takes place in Spire `n` (R125). -/
def Device.startAt (d : Device) (s : ProgStart) (n : Nat) : Option Nat :=
  match s.kind with
  | .epilogue => (d.dome.dops.find? (fun p => p.op == s.op)).map (fun p => lastProduct p.desc p.t0 n + 4)
  | _ => some s.at_

/-- What a task does ahead of a DOP in dclk `x` - its window, its gather, its blocks of B - takes place: the task holds the Dome
and has not been aborted before (R161, R190). -/
def Device.windowOpens (d : Device) (x : Nat) : Bool :=
  d.lantern.run.elim false (fun r => r.stopAfter.elim true (fun a => decide (x / 4 ≤ a)))

/-- DOP `op` has been launched. -/
def Device.launched (d : Device) (op : Nat) : Bool := d.dome.dops.any (fun p => p.op == op)

/-- The starts that take place in Spire `n` in dclk `x`. -/
def Device.startsNow (d : Device) (n x : Nat) : List ProgStart :=
  d.dome.starts.filter (fun s => d.startAt s n == some x && (s.kind != .prologue || d.windowOpens x))

/-! ### Copy routes (R162) -/

/-- The unit of a move of a copy route whose window opens in dclk `w`. -/
def moveUnit (w : Nat) (m : CopyMove) : DomeUnit :=
  let r := hopsFrom m.src (w + m.at_) none m.path
  { src := .line (tileLine m.src m.srcLine), read := w + m.at_, write := r.2, dst := .line (tileLine m.dst m.dstLine) none,
    hops := r.1, lost := false, data := none, ecc := .clean }

/-- The windows that open by dclk `x` put the moves of their copy routes on the Dome network (R161, R162). -/
def Device.copyClock (d : Device) (x : Nat) : Device :=
  let now := d.dome.copies.filter (fun c => decide (c.1 ≤ x))
  if now.isEmpty then d
  else
    let open_ := now.filter (fun c => d.windowOpens c.1)
    { d with dome := { d.dome with
      copies := d.dome.copies.filter (fun c => decide (x < c.1)),
      units := d.dome.units ++ open_.flatMap (fun c => (Config.copyRoute d.cfgMem c.2).map (moveUnit c.1)) } }

/-! ### Links (R286, R287) -/

/-- A claim of a link in one dclk: its hop, and whose it is: a unit's, by its place, or a transfer's of a DOP's row
statistics. -/
structure Claim where
  hop : Hop
  unit : Option Nat
  stat : Option (Nat × StatLoss)
  deriving DecidableEq, Repr

/-- The claims of the units in dclk `x`; one that is lost claims nothing any more. -/
def Device.unitClaims (d : Device) (x : Nat) : List Claim :=
  d.dome.units.zipIdx.flatMap (fun u =>
    if u.1.lost then [] else (u.1.hops.filter (fun h => decide (h.at_ = x))).map (fun h => { hop := h, unit := some u.2, stat := none }))

/-- The broadcast of row statistics begins (R171). -/
def castStart (e : List Word) (t0 : Nat) : Nat := rsTime e t0 + levelsDclk e (statLevels e)

/-- The Spire row of the last holder of row band `band` (R170). -/
def castHolder (e : List Word) (band : Nat) : Nat := dopSpan e * (dopGroups e - 1) + band

/-- The dclk in which part `part` of the broadcast of row band `band` is in Spire (63, y). -/
def castRow (e : List Word) (t0 band y part : Nat) : Nat :=
  castStart e t0 + part + pathDclk (64 * castHolder e band + 63) (List.replicate (castHolder e band - y) .north)

/-- The dclk in which part `part` of the broadcast is in Spire (x, y). -/
def castAt (e : List Word) (t0 band x y part : Nat) : Nat :=
  castRow e t0 band y part + pathDclk (64 * y + 63) (List.replicate (63 - x) .west)

/-- The hops in dclk `x` of the transfers of a DOP's row statistics: eight units in each, of four cell rows each, one a dclk
(R170, R171). [DEDUCED, unsafe: notes/assumptions/169] -/
def statHops (e : List Word) (t0 x : Nat) : List (Hop × StatLoss) :=
  let bands := List.range (dopSpan e)
  let parts := List.range 8
  let now (r : List Hop × Nat) (s : StatLoss) : List (Hop × StatLoss) :=
    (r.1.filter (fun h => decide (h.at_ = x))).map (fun h => (h, s))
  let tree := (List.range (statLevels e)).flatMap (fun i =>
    let start := rsTime e t0 + levelsDclk e i
    if x < start ∨ start + levelDclk e (i + 1) ≤ x then []
    else bands.flatMap (fun l => (List.range (64 * dopGroups e / 2 ^ (i + 1))).flatMap (fun k => parts.flatMap (fun u =>
      now (hopsFrom (leafSpire e l ((2 * k + 1) * 2 ^ i - 1)) (start + u) none (levelPath e (i + 1)))
        { level := i + 1, band := l, pair := k, part := u, at_ := x }))))
  if x < castStart e t0 ∨ ph2Time e t0 ≤ x then tree
  else
    tree ++ bands.flatMap (fun l => parts.flatMap (fun u =>
      let top := castHolder e l
      let north := hopsFrom (64 * top + 63) (castStart e t0 + u) none (List.replicate (top - l) .north)
      (north.1.zipIdx.flatMap (fun h => now ([h.1], 0) { level := 0, band := l, pair := top - h.2, part := u, at_ := x })) ++
      (List.range (dopGroups e)).flatMap (fun g =>
        let y := dopSpan e * g + l
        now (hopsFrom (64 * y + 63) (castRow e t0 l y u) (if y = top then none else some .north) (List.replicate 63 .west))
          { level := 99, band := l, pair := y, part := u, at_ := x })))

/-- The unit of transfer `s` has been lost before, there or on its way there. -/
def statGone (lost : List StatLoss) (s : StatLoss) : Bool :=
  lost.any (fun t => t.band == s.band && t.part == s.part &&
    ((t.level == s.level && (t.level == 0 || t.pair == s.pair)) || (t.level == 0 && s.level == 99 && decide (s.pair < t.pair))))

/-- The claims of row statistics in dclk `x`. -/
def Device.statClaims (d : Device) (x : Nat) : List Claim :=
  d.dome.dops.flatMap (fun p =>
    if dopRsKind p.desc = 0 then []
    else ((statHops p.desc p.t0 x).filter (fun h => !statGone p.statLost h.2)).map
      (fun h => { hop := h.1, unit := none, stat := some (p.op, h.2) }))

/-- Of two claims of one link in one dclk, the first keeps it: straight on before turning, then the lower direction from which
they arrive, then the order of the list (R287). -/
def claimWins (a b : Claim × Nat) : Bool :=
  if a.1.hop.straight != b.1.hop.straight then a.1.hop.straight
  else if a.1.hop.dir ≠ b.1.hop.dir then decide (a.1.hop.dir < b.1.hop.dir)
  else decide (a.2 < b.2)

/-- A claim that has lost its link: the unit is discarded, and its destination takes poisoned zeros (R287). -/
def Device.loseClaim (d : Device) (c : Claim) : Device :=
  let d := match c.unit, c.stat with
    | some i, _ => { d with dome := { d.dome with units := d.dome.units.modify i (fun u => { u with lost := true }) } }
    | none, some s => { d with dome := { d.dome with dops := d.dome.dops.map (fun (p : Dop) =>
        if p.op = s.1 then { p with statLost := p.statLost ++ [s.2] } else p) } }
    | none, none => d
  ((d.bump Reg.sncDomeConflictCnt 1).bump Reg.errUncorrCnt 1).cfgIntegrity 3 (c.hop.link / 4) 0 49

/-- The meetings on the links of the Dome network in dclk `x` (R287). Row statistics do not meet each other. -/
def Device.meetings (d : Device) (x : Nat) : Device :=
  let us := d.unitClaims x
  if us.isEmpty then d
  else
    let all := (us ++ (d.statClaims x).filter (fun c => us.any (fun u => u.hop.link == c.hop.link))).zipIdx
    let loses (c : Claim × Nat) : Bool := all.any (fun b =>
      b.1.hop.link == c.1.hop.link && b.2 != c.2 && (b.1.unit.isSome || c.1.unit.isSome) && claimWins b c)
    (all.filter loses).foldl (fun d c => d.loseClaim c.1) d

/-! ### Reads and writes of units (R117, R162, R164, R286) -/

/-- A line of an A tile, transposed by its port (R164): poisoned when a line that it takes bytes from is poisoned or has not
come. -/
def Device.turnedUnit (d : Device) (op i : Nat) : DUnit :=
  let f := (d.dome.plan.find? (fun p => p.op == op)).elim 0 (fun p => dopA p.desc)
  let lines := (d.dome.tiles.lookup op).getD []
  let bs : List MByte := (List.range 64).map (fun o =>
    match turnedPlace f (64 * (i % 64) + o) with
    | some j => unitByte ((mapGet none lines (i / 64 * 64 + j / 64)).getD poisonUnit) (j % 64)
    | none => (0, false))
  if bs.any (·.2) then poisonUnit
  else
    let v := bytesLine (bs.map (·.1))
    { data := v, check := lineCheck v, pois := false }

/-- A unit is still wanted in dclk `x`: what goes to the A edge of a DOP that has not been launched is not, once the task is
over or aborted. -/
def Device.unitWanted (d : Device) (u : DomeUnit) (x : Nat) : Bool :=
  match u.dst with
  | .port op _ => d.launched op || d.windowOpens x
  | .west op _ => d.launched op || d.windowOpens x
  | _ => true

/-- A line put under its number among those of DOP `op`. -/
def putLine (m : List (Nat × SMap (Option DUnit))) (op i : Nat) (u : DUnit) : List (Nat × SMap (Option DUnit)) :=
  let old := (m.lookup op).getD []
  (op, mapPut none old i (some u)) :: m.filter (fun e => e.1 != op)

/-- Unit `i` of write transaction `id` comes to line `l`, written unless it is late; after the last one, the write is acknowledged
(R230, R232, R277). -/
def Device.tileArrives (d : Device) (id i l : Nat) (u : DUnit) : Device :=
  match d.txn id with
  | none => d
  | some t =>
    let d := if d.isLate t i then d.discardLate t i else d.domeWrite l u
    let d := d.mapTxn id (fun t => { t with todo := t.todo - 1 })
    if t.todo = 1 then d.respond id 0 else d

/-- A unit comes to where it goes (R117, R164, R286). -/
def Device.unitArrives (d : Device) (u : DomeUnit) (v : DUnit) : Device :=
  match u.dst with
  | .line l none => d.domeWrite l v
  | .line l (some b) => d.tileArrives b.1 b.2 l v
  | .port op i =>
    let r := d.domeTake v
    { r.2 with dome := { r.2.dome with tiles := putLine r.2.dome.tiles op i r.1 } }
  | .west op i =>
    let r := d.domeTake v
    { r.2 with dome := { r.2.dome with west := putLine r.2.dome.west op i r.1 } }
  | .gate txn i => d.deliver txn i v

/-- What a unit is when it leaves its source. -/
def Device.unitLeaves (d : Device) (u : DomeUnit) : DUnit × Device :=
  match u.src with
  | .line l => d.domeRead l u.ecc
  | .turned op i => (d.turnedUnit op i, d)
  | .gate => (u.data.getD poisonUnit, d)

/-- The units that leave in dclk `x`, and those that arrive (R286). A lost one arrives as poisoned zeros (R287). -/
def Device.networkClock (d : Device) (x : Nat) : Device :=
  if d.dome.units.isEmpty then d
  else
    let r := d.dome.units.foldl (fun (acc : List DomeUnit × Device) u =>
      if x < u.read ∨ u.data.isSome = true then (acc.1 ++ [u], acc.2)
      else if acc.2.unitWanted u x = false then acc
      else
        let r := acc.2.unitLeaves u
        (acc.1 ++ [{ u with data := some r.1 }], r.2)) ([], d)
    let here (u : DomeUnit) : Bool := u.data.isSome && decide (u.write ≤ x)
    let d := { r.2 with dome := { r.2.dome with units := r.1.filter (fun u => !here u) } }
    (r.1.filter here).foldl (fun d u => d.unitArrives u (if u.lost then poisonUnit else u.data.getD poisonUnit)) d

/-! ### The north-edge injectors (R17, R91, R93, R165, R236, R238, R250) -/

/-- The places, in a slice's stream, of the bytes that the injector of column `c` takes in dclk `x` for a DOP: those that it
presents, and with B_XPOSE the whole of a block, as many dclk before its first K index as 32 K indices take (R91, R93, R165). -/
def northTaken (p : DopPlan) (c x : Nat) : List Nat :=
  let e := p.desc
  let b := dopGroups e
  (dopPasses e).zipIdx.flatMap (fun r =>
    let q := r.1
    let lead := if dopBXpose e then q.groupSlots * q.period else 0
    (List.range b).flatMap (fun g =>
      match slotFrom e (firstSlot p.t0 c) g (x + 2 + lead) with
      | none => []
      | some (pass, _, m, ch) =>
        let opens := decide (q.prods * m % 32 = 0 ∧ ch = 0)
        let k := q.prods * m / 32
        if pass ≠ r.2 then []
        else
          (if dopBXpose e then
            (if opens then
              (List.range (128 * fmtBits (dopB e))).map (fun i => Config.northRun e (c % 16) pass (k * b + g) + i)
            else [])
           else (List.range (min 64 (q.beta - 64 * ch))).map (fun i => Config.northRun e (c % 16) pass (m * b + g) + 64 * ch + i)) ++
          (if opens && blockFmt (dopB e) then (List.range 32).map (fun j => Config.northExp e (c % 16) pass g k + j) else [])))

/-- One unit of B taken for DOP `p` from the quarter of slice `k` (R236, R238): from a ring in order, from a resident region
by address. The injector verifies its check, and a failure counts like a thread's (R250).
[DEDUCED, unsafe: notes/assumptions/101] -/
def Device.takeB (d : Device) (p : DopPlan) (k m : Nat) : DUnit × Device :=
  let r := dopRegion p.desc
  let w := d.region r
  let line := d.quarterLine k r (m % max 1 (regionLines w))
  let errs := (d.dome.dops.find? (fun q => q.op == p.op)).elim [] (fun q => q.env.cache)
  let ecc (l : Nat) : Ecc := (errs.lookup l).getD .clean
  let (u, d) := if regionResident w then d.readCacheLine line (ecc line)
    else
      let at_ := d.quarterLine k r (((d.quarter k r).elim 0 (·.rd)) % max 1 (regionLines w))
      d.takeRing k r (ecc at_)
  if unitOk u then (u, d) else (poisonUnit, (d.uncorrected (Reg.steChkCnt k)).markPoison 49)

/-- The units of B that slice `k` has taken for DOP `op`. -/
def Device.northUnits (d : Device) (op k : Nat) : List DUnit := mapGet [] ((d.dome.north.lookup op).getD []) k

/-- `fuel` more units taken for DOP `p`. -/
def Device.takeMore (d : Device) (p : DopPlan) (k : Nat) : Nat → Device
  | 0 => d
  | fuel + 1 =>
    let (u, d) := d.takeB p k (d.northUnits p.op k).length
    let m := (d.dome.north.lookup p.op).getD []
    let d := { d with dome := { d.dome with
      north := (p.op, mapPut [] m k (mapGet [] m k ++ [u])) :: d.dome.north.filter (fun e => e.1 != p.op) } }
    d.takeMore p k fuel

/-- The injectors in dclk `x`: each slice has taken the units of the bytes that its 16 columns take by then. -/
def Device.northClock (d : Device) (x : Nat) : Device :=
  d.dome.plan.foldl (fun d p =>
    if d.launched p.op || d.windowOpens x then
      (List.range 4).foldl (fun d k =>
        let want := ((List.range 16).flatMap (fun c => northTaken p (16 * k + c) x)).foldl (fun a i => max a (i / 64 + 1)) 0
        d.takeMore p k (want - (d.northUnits p.op k).length)) d
    else d) d

/-! ### Row statistics (R169 - R172) -/

/-- The partial that Spire `n` holds for cell row `i`: its components, from lane 0 (R169). -/
def Device.statPart (d : Device) (e : List Word) (n i : Nat) : List Word × Bool :=
  let us := (List.range (if dopRsKind e < 3 then 1 else 2)).map (fun c =>
    let a := statByte e i c
    let u := d.tile.unit (tileLine n (a / 64))
    if u.pois || !unitOk u then ((0 : Word), true) else (BitVec.ofNat 64 (u.data.toNat >>> (8 * (a % 64))), false))
  (us.map (·.1), us.any (·.2))

/-- An integer held in pure integer ACC56 form, as SCALED's m; of another value the nearest integer, of an infinity 0 (R170).
[DESIGN CHOICE, unsafe: notes/assumptions/172] -/
def intOf : Val → Int
  | .fin m e => if 0 ≤ e then m * pow2 e else roundConv m (-e).toNat
  | _ => 0

/-- combine(L, Q) of R170, with the flags. A side whose m is -∞ contributes nothing. -/
def combine (kind : Nat) (l q : List Val) : List Val × BitVec 4 :=
  let g (v : List Val) (i : Nat) : Val := nth v i (.fin 0 (-167))
  if kind = 1 then let r := accAdd (g l 0) (g q 0); ([r.1], r.2)
  else if kind = 2 then ([(g l 0).pick false (g q 0)], 0)
  else if kind = 3 then
    let r := accAdd (g l 0) (g q 0)
    let t := accAdd (g l 1) (g q 1)
    ([r.1, t.1], r.2 ||| t.2)
  else if (g l 0).isNan || (g q 0).isNan then ([.nan, .nan], 0)
  else
    let m := (g l 0).pick false (g q 0)
    let side (v : List Val) : Val × BitVec 4 :=
      if g v 0 = .inf true then (.fin 0 (-167), 0) else accScale (g v 1) (intOf (g v 0) - intOf m)
    let a := side l
    let b := side q
    let r := if g q 0 = .inf true then (a.1, 0) else if g l 0 = .inf true then accAdd (.fin 0 (-167)) b.1 else accAdd a.1 b.1
    ([m, r.1], a.2 ||| b.2 ||| r.2)

/-- The partials of DOP `op` for row band x 32 + cell row `j`. -/
def Device.putStats (d : Device) (op j : Nat) (l : List (List Word × Bool)) : Device :=
  { d with dome := { d.dome with dops := d.dome.dops.map (fun (q : Dop) =>
    if q.op = op then { q with stats := mapPut [] q.stats j l } else q) } }

/-- At T_RS every port reads its partials (R170). -/
def Device.readStats (d : Device) (p : Dop) : Device :=
  let e := p.desc
  (List.range (dopSpan e * 32)).foldl (fun d j =>
    let parts := (List.range (64 * dopGroups e)).map (fun n => d.statPart e (leafSpire e (j / 32) n) (j % 32))
    (if parts.any (·.2) then d.markConsumed else d).putStats p.op j parts) d

/-- The pairs of a level, by number. -/
def pairsOf : Nat → List (List Word × Bool) → List (Nat × (List Word × Bool) × (List Word × Bool))
  | k, a :: b :: rest => (k, a, b) :: pairsOf (k + 1) rest
  | _, _ => []

/-- Level `l` of the tree is combined, each pair in the port of the eastern or southern holder, whose Spire takes the flags
(R170); a left partial lost on its way is poisoned zeros (R287). [DEDUCED, unsafe: notes/assumptions/102] -/
def Device.combineLevel (d : Device) (p : Dop) (l : Nat) : Device :=
  let e := p.desc
  (List.range (dopSpan e * 32)).foldl (fun d j =>
    let band := j / 32
    let r := (pairsOf 0 (mapGet [] p.stats j)).foldl (fun (acc : List (List Word × Bool) × Device) c =>
      let gone := p.statLost.any (fun s => s.level == l && s.band == band && s.pair == c.1 && s.part == j % 32 / 4)
      let left : List Word × Bool := if gone then (c.2.1.1.map (fun _ => 0), true) else c.2.1
      let v := combine (dopRsKind e) (left.1.map accVal) (c.2.2.1.map accVal)
      (acc.1 ++ [(v.1.map accWord, left.2 || c.2.2.2)], acc.2.vxFlags (leafSpire e band ((c.1 + 1) * 2 ^ l - 1)) v.2)) ([], d)
    r.2.putStats p.op j r.1) d

/-- Whether the unit of cell row `i` of the broadcast has been lost on its way to Spire `n` (R287). -/
def castLost (p : Dop) (n i : Nat) : Bool :=
  let e := p.desc
  let y := n / 64
  let band := spireRow e n
  p.statLost.any (fun s => s.band == band && s.part == i / 4 &&
    ((s.level == 0 && decide (y < s.pair)) ||
     (s.level == 99 && s.pair == y && decide (s.at_ < castAt e p.t0 band (n % 64) y (i / 4)))))

/-- The final statistics are written into every Spire, each component in all 32 lanes of its vector (R171).
[DEDUCED, unsafe: notes/assumptions/102] -/
def Device.writeStats (d : Device) (p : Dop) : Device :=
  let e := p.desc
  (List.range 4096).foldl (fun d n =>
    (List.range 32).foldl (fun d i =>
      let fin := nth (mapGet [] p.stats (32 * spireRow e n + i)) 0 ([], true)
      let lost := castLost p n i
      fin.1.zipIdx.foldl (fun d w =>
        let bytes := (List.range 8).flatMap (fun _ => natBytes 8 (if fin.2 || lost then 0 else w.1.toNat))
        (List.range 4).foldl (fun d l => d.storePiece n (statByte e i w.2 + 64 * l) (bytes.map some) (fin.2 || lost)) d) d) d) d

/-- What the row statistics do in dclk `x`: the reads at T_RS, each level when its data is there, the writing at T_P2. -/
def Device.statClock (d : Device) (x : Nat) : Device :=
  d.dome.dops.foldl (fun d p =>
    let e := p.desc
    if dopRsKind e = 0 ∨ x < rsTime e p.t0 ∨ ph2Time e p.t0 < x then d
    else if x = rsTime e p.t0 then d.readStats p
    else if x = ph2Time e p.t0 then d.writeStats p
    else match (List.range (statLevels e)).find? (fun l => decide (x = rsTime e p.t0 + levelsDclk e (l + 1))) with
      | some l => d.combineLevel p (l + 1)
      | none => d) d

/-! ### Spires and the whole Dome -/

/-- What the Dome does in dclk `x` before its programs: copy windows, links, units, injectors, cells and row statistics. -/
def Device.domeHead (d : Device) (x : Nat) : Device :=
  if x < d.dome.head then d
  else
    let d := (((((d.copyClock (x + 1)).meetings x).networkClock x).northClock x).mxAll x).statClock x
    { d with dome := { d.dome with head := x + 1 } }

/-- The programs of Spire `n` in dclk `x`; of two that start there at once, the later in the list stops the earlier.
[DEDUCED, unsafe: notes/assumptions/95] -/
def Device.spireClock (d : Device) (n x : Nat) (env : VxEnv) : Device :=
  let d := (d.startsNow n x).foldl (fun d s => d.startProgram n x s.kind s.op s.pc) d
  d.vxClock n x env

/-- No error, no further use of the banks by the port. -/
def VxEnv.clean : VxEnv := { ecc := [], port := [] }

/-- Everything that the Dome does in dclk `x`. A Spire whose instruction of this dclk has been commanded is left out. -/
def Device.domeClock (d : Device) (x : Nat) : Device :=
  (List.range 4096).foldl (fun d n => if x < (d.spire n).ahead then d else d.spireClock n x VxEnv.clean) (d.domeHead x)

/-- Something goes on in the Dome. -/
def Device.domeBusy (d : Device) : Bool :=
  d.dome.dops.any (fun p => p.left != 0) || !d.dome.units.isEmpty || d.dome.plan.any (fun p => !d.launched p.op) ||
    d.dome.starts.any (fun s => decide (d.dome.clock ≤ s.at_)) || !d.dome.copies.isEmpty ||
    d.dome.spires.any (fun e => e.2.vx.prog.isSome || e.2.vx.held.isSome || !e.2.vx.pending.isEmpty)

/-- The Dome runs up to, and not including, dclk `x`. -/
def Device.domeRun (d : Device) : Nat → Device
  | 0 => d
  | k + 1 =>
    let d := d.domeClock d.dome.clock
    { d with dome := { d.dome with clock := d.dome.clock + 1 } }.domeRun k

def Device.domeTo (d : Device) (x : Nat) : Device :=
  if x ≤ d.dome.clock then d
  else if d.domeBusy then d.domeRun (x - d.dome.clock)
  else { d with dome := { d.dome with clock := x, head := max x d.dome.head } }

end Sys2Proof.Machine
end

