-- ==== Sys2Proof/Machine/FabricNet.lean ====
section
/-!
DEFINITION. The programmable logic of the fabric in each gcyc: clock lines and regional trees, logic elements and their carry
chains, flip-flops, the registers of the stitch crossings, and those of the I/O cells (R386 - R388, R391 - R397).
-/
namespace Sys2Proof.Machine

open Sys2Proof

def Device.mapFabric (d : Device) (f : Fabric → Fabric) : Device := { d with fabric := f d.fabric }

/-! ### Clocks (R391 - R395) -/

/-- Output `k` of fabric PLL `p` rises in gcyc `g`: a locked one, with REF100 at its input 100 MHz x M / (D x C) (R395). -/
def Device.pllRises (d : Device) (p k g : Nat) : Bool :=
  let x := Config.pllSetup d.cfgMem p
  let den := max 1 (10 * x.d * x.c.getD k 1)
  d.regBit Reg.cfgFabPllStatus p &&
    (if x.ref100 = false then Config.pllEdge p k g
     else if x.align then decide (g % 1000 * x.m % den < x.m)
     else decide ((g + Config.pllPhase p k) * x.m % den < x.m))

/-- A source of a global line rises in gcyc `g` (R391): REF100 is 100 MHz, GREF250 rises on gcyc counts that are multiples of 4. -/
def Device.sourceRises (d : Device) (c : ClockSource) (g : Nat) : Bool :=
  match c with
  | .pll p k => d.pllRises p k g
  | .pin n => Config.padLevel n (2 * g) && !Config.padLevel n (2 * g - 1)
  | .laneTx l => Config.laneEdge l true g
  | .laneRx l => Config.laneEdge l false g
  | .ref100 => decide ((g + Config.refPhase) % 10 = 0)
  | .gref250 => decide (g % 4 = 0)

/-- Input `i` of the mux of tree `n` rises in gcyc `g` (R392). -/
def Device.inputRises (d : Device) (n i g : Nat) : Bool :=
  match Config.treeInput d.cfgMem n i with
  | .line l => (Config.lineSource d.cfgMem l).elim false (fun c => d.sourceRises c g)
  | .pll k => d.pllRises (n / 32) k g

/-- Regional tree `n` (16 x region + tree): as changed at run time, else as the fabric plane gives it. -/
def Device.tree (d : Device) (n : Nat) : ClockTree :=
  (mapGet none d.fabric.trees n).getD
    { sel := (Config.treeInit d.cfgMem n).1 % 4, ratio := (Config.treeInit d.cfgMem n).2 % 4,
      want := (Config.treeInit d.cfgMem n).2 % 4, count := 7, turn := none, next := none }

/-- The mux of a tree in gcyc `g`: whether its output rises, and the tree after (R393). Two rising edges of the old clock, then two
of the new one while the output is low; an old clock without an edge for 1 µs is not waited for. `a`, `b`: the old clock and
the new one rise. -/
def ClockTree.muxed (t : ClockTree) (g : Nat) (a b : Bool) : Bool × ClockTree :=
  match t.turn with
  | none => (a, t)
  | some s =>
    if 0 < s.old then
      if s.since + 1000 ≤ g then (false, { t with turn := some { s with old := 0 } })
      else (a, if a then { t with turn := some { s with old := s.old - 1, since := g } } else t)
    else if b = false then (false, t)
    else if 1 < s.new then (false, { t with turn := some { s with new := s.new - 1 } })
    else (false, { t with sel := s.dest, turn := t.next.map (fun x => { dest := x, old := 2, new := 2, since := g }), next := none })

/-- The divider of a tree at a rising edge of its input: whether its output rises, and the tree after; a new ratio takes effect where
the /8 count is 0 (R392, R394). -/
def ClockTree.divided (t : ClockTree) : Bool × ClockTree :=
  let c := (t.count + 1) % 8
  let r := if c = 0 then t.want else t.ratio
  (decide (c % 2 ^ r = 0), { t with count := c, ratio := r })

/-- Tree `n` in gcyc `g`: whether it rises, and the tree after. -/
def Device.treeClock (d : Device) (n g : Nat) : Bool × ClockTree :=
  let t := d.tree n
  let r := t.muxed g (d.inputRises n t.sel g) (t.turn.elim false (fun s => d.inputRises n s.dest g))
  if r.1 then r.2.divided else (false, r.2)

/-! ### Logic (R386, R387) -/

/-- What is asked of the logic: a signal from within region `region`, an output of an LE, the carry out of an LE. -/
inductive FabAsk
  | signal (region : Nat) (s : FabSignal)
  | out (n : Nat) (o : LeOut)
  | carry (n : Nat)
  deriving DecidableEq, Repr

/-- LB `n / 16` and LE `n` of a design. -/
def leOf (x : FabricDesign) (n : Nat) : Option (LbSetup × LeSetup) :=
  (x.lbs.lookup (n / 16)).bind (fun b => (b.les[n % 16]?).map (fun l => (b, l)))

/-- Flip-flop `i` of LE `n`: as clocked, else its initial value (R386). -/
def Device.flop (d : Device) (x : FabricDesign) (n i : Nat) : Bool :=
  (mapGet none d.fabric.flops (2 * n + i)).getD
    (((leOf x n).bind (fun r => (r.2.flops.getD i none).map (·.init))).getD false)

/-- What crossbar input `c` of an LB is: one of its 48 routing inputs, or the feedback of one of its 16 LEs (R387). -/
def crossbarAsk (b : LbSetup) (lb c : Nat) : FabAsk :=
  if c < 48 then .signal b.region (b.inputs.getD c (.const false)) else .out (16 * lb + (c - 48) % 16) (b.les.getD (c - 48) default).feedback

/-- The table of an LE at inputs I0 - I5 as a number: in split mode the upper half gives FA and the lower FB, of I0 - I4 (R386). In
whole mode FB is what the lower half gives. [DEDUCED, unsafe: notes/assumptions/176] -/
def leFa (l : LeSetup) (i : Nat) : Bool := if l.split then bit l.table (32 + i % 32) else bit l.table (i % 64)
def leFb (l : LeSetup) (i : Nat) : Bool := bit l.table (i % 32)

/-- Flag `i` of a FIFO (R389): 0 empty and 2 almost empty as port B sees them, 1 full and 3 almost full as port A does; a port
knows its own pointer at once, and with independent clocks the other one through two stages. -/
def fifoFlag (c : RamSetup) (x : Fifo) (i : Nat) : Bool :=
  let wrB := if c.independent then x.toB.getD 1 0 else x.wr
  let rdA := if c.independent then x.toA.getD 1 0 else x.rd
  match i with
  | 0 => decide (wrB * c.widthA < (x.rd + 1) * c.widthB)
  | 1 => decide (73728 + rdA * c.widthB < (x.wr + 1) * c.widthA)
  | 2 => decide (wrB * c.widthA < (x.rd + c.almostEmpty + 1) * c.widthB)
  | _ => decide ((c.almostFull * c.widthA) + rdA * c.widthB ≤ x.wr * c.widthA)

/-- Place of an output of an LE among its isolators. -/
def leIndex : LeOut → Nat
  | .fa => 0
  | .fb => 1
  | .q0 => 2
  | .q1 => 3
  | .sum => 4

/-- What the boundary isolator of output `o` of LE `n` gives to region `r`, while it is engaged: until OUT_REL, and during a
partial reconfiguration of its region, every signal that leaves the region is held (R424, R425). -/
def Device.isolated (d : Device) (x : FabricDesign) (r n : Nat) (o : LeOut) : Option Bool :=
  (leOf x n).bind (fun c =>
    if c.1.region = r ∨ d.regBit Reg.cfgRegionValid c.1.region = true then none
    else
      let k := 5 * n + leIndex o
      some ((Config.isolator d.cfgMem n o).getD ((mapGet none d.fabric.isolators k).getD (Config.isolatorIdle k))))

/-- The value of what is asked, at half `h` (2 x gcyc + half), through at most `fuel` cells. The carry stage adds FA and FB, or
subtracts FB (R386). -/
def Device.fabValue (d : Device) (x : FabricDesign) (h : Nat) : Nat → FabAsk → Bool
  | 0, _ => Config.loopSignal h
  | fuel + 1, q =>
    let ask := d.fabValue x h fuel
    match q with
    | .signal r s =>
      match s with
      | .const b => b
      | .le n o => (d.isolated x r n o).getD (ask (.out n o))
      | .wire i => (x.wires.lookup i).elim false (fun w => ask (.signal r w.driver))
      | .crossing k => mapGet false d.fabric.crossings k
      | .pin n => Config.padLevel n h
      | .io n second =>
        let c := mapGet IoCell.initial d.fabric.cells n
        if second then c.q2 else c.q1
      | .ram p b => (mapGet RamPort.initial d.fabric.ports p).output.word / 2 ^ b % 2 == 1
      | .hard n => Config.hardSignal n h
      | .flag n i => fifoFlag (Config.ramSetup d.cfgMem n) (mapGet Fifo.initial d.fabric.fifos n) i
    | .out n o =>
      match leOf x n with
      | none => false
      | some (b, l) =>
        let ins := ((List.range 6).map (fun i => b2n (ask (crossbarAsk b (n / 16) (l.ins.getD i 0))) * 2 ^ i)).sum
        let carryIn := if n % 16 = 0 then b.north.elim l.sub (fun m => ask (.carry (16 * m + 15))) else ask (.carry (n - 1))
        match o with
        | .fa => leFa l ins
        | .fb => leFb l ins
        | .q0 => d.flop x n 0
        | .q1 => d.flop x n 1
        | .sum => (leFa l ins != (leFb l ins != l.sub)) != carryIn
    | .carry n =>
      match leOf x n with
      | none => false
      | some (b, l) =>
        let fa := ask (.out n .fa)
        let fb := ask (.out n .fb) != l.sub
        let carryIn := if n % 16 = 0 then b.north.elim l.sub (fun m => ask (.carry (16 * m + 15))) else ask (.carry (n - 1))
        (fa && fb) || (carryIn && (fa != fb))

/-- Enough for every path without a loop. -/
def designFuel (x : FabricDesign) : Nat := 48 * x.lbs.length + x.wires.length + 4

/-- A signal as region `r` sees it. -/
def Device.fabSignal (d : Device) (x : FabricDesign) (h r : Nat) (s : FabSignal) : Bool := d.fabValue x h (designFuel x) (.signal r s)

/-! ### Registers (R386 - R388, R397) -/

/-- A region's flip-flops may be written, and its resets are released (R424). -/
def Device.regionRuns (d : Device) (r : Nat) : Bool := bit d.fabric.running r && bit d.fabric.writeEn r

/-- What flip-flop `i` of LE `n` holds after gcyc `g`; `up`: the trees that rise. A reset puts the initial value, in an
asynchronous LB at once (R386). -/
def Device.flopNext (d : Device) (x : FabricDesign) (g : Nat) (up : List Nat) (b : LbSetup) (n i : Nat) (f : FlopSetup) : Bool :=
  let at_ (c : Nat) : Bool := d.fabValue x (2 * g) (designFuel x) (crossbarAsk b (n / 16) c)
  let out (o : LeOut) : Bool := d.fabValue x (2 * g) (designFuel x) (.out n o)
  let l := b.les.getD (n % 16) default
  let old := d.flop x n i
  let edge := up.contains (16 * b.region + (if f.clock then b.clocks.2 else b.clocks.1))
  if d.regionRuns b.region = false then old
  else if f.reset.elim false at_ && (edge || b.async) then f.init
  else if edge && f.enable.elim true at_ then
    match f.d with
    | .fa => out .fa
    | .fb => out .fb
    | .sum => out .sum
    | .own => at_ (if l.split ∧ i = 1 then l.ins.getD 5 0 else f.own)
  else old

/-- The isolators of region `r` engage in gcyc `g`: each takes the value that its signal has (R425). -/
def Device.engage (d : Device) (r g : Nat) : Device :=
  let x := Config.fabricDesign d.cfgMem
  let les := x.lbs.flatMap (fun b => if b.2.region = r then (List.range b.2.les.length).map (fun i => 16 * b.1 + i) else [])
  let keys := les.flatMap (fun n => [LeOut.fa, .fb, .q0, .q1, .sum].map (fun o => (n, o)))
  let v := fun (k : Nat × LeOut) => d.fabValue x (2 * g) (designFuel x) (.out k.1 k.2)
  d.mapFabric (fun f => { f with
    isolators := keys.foldl (fun m k => mapPut none m (5 * k.1 + leIndex k.2) (some (v k))) f.isolators })

/-- Every flip-flop of the design after gcyc `g`. -/
def Device.flopsNext (d : Device) (x : FabricDesign) (g : Nat) (up : List Nat) : SMap (Option Bool) :=
  x.lbs.foldl (fun m r =>
    r.2.les.zipIdx.foldl (fun m l =>
      l.1.flops.zipIdx.foldl (fun m f =>
        match f.1 with
        | none => m
        | some s =>
          let n := 16 * r.1 + l.2
          mapPut none m (2 * n + f.2) (some (d.flopNext x g up r.2 n f.2 s))) m) m) d.fabric.flops

/-- Every register of the stitch crossings after gcyc `g`: a signal arrives one cycle of its tree later (R18, R388). -/
def Device.crossingsNext (d : Device) (x : FabricDesign) (g : Nat) (up : List Nat) : SMap Bool :=
  x.crossings.foldl (fun m r =>
    if up.contains r.2.tree && d.regionRuns (r.2.tree / 16) then mapPut false m r.1 (d.fabSignal x (2 * g) (r.2.tree / 16) r.2.driver) else m)
    d.fabric.crossings

/-- An I/O cell after a rise of its tree (R397): the input takes the pin, the outputs their D1 and D2. -/
def IoCell.rise (c : IoCell) (s : IoSetup) (pin : Bool) (out oe : Bool × Bool) : IoCell :=
  let c := match s.input with
    | .sameEdge => { c with q1 := c.c1, q2 := c.c2, c1 := pin }
    | _ => { c with q1 := pin, c1 := pin }
  { c with o1 := out.1, o2 := out.2, e1 := oe.1, e2 := oe.2 }

/-- An I/O cell after a fall of its tree: a double-rate input takes the pin (R397). -/
def IoCell.fall (c : IoCell) (s : IoSetup) (pin : Bool) : IoCell :=
  match s.input with
  | .oppositeEdge => { c with q2 := pin, c2 := pin }
  | .sameEdge => { c with c2 := pin }
  | _ => c

/-- Every I/O cell after gcyc `g`. Bank q lies in region 12q (R385). -/
def Device.cellsNext (d : Device) (x : FabricDesign) (g : Nat) (up : List Nat) : SMap IoCell :=
  x.cells.foldl (fun m r =>
    let s := r.2
    if up.contains s.tree && d.regionRuns (12 * (r.1 / 24)) then
      let v (w : FabSignal) : Bool := d.fabSignal x (2 * g) (12 * (r.1 / 24)) w
      mapPut IoCell.initial m r.1 (((mapGet IoCell.initial m r.1).rise s (Config.padLevel r.1 (2 * g)) (v s.out.1, v s.out.2)
        (v s.oe.1, v s.oe.2)).fall s (Config.padLevel r.1 (2 * g + 1)))
    else m) d.fabric.cells

/-- What user pin `n` drives in half `h`: nothing before its bank is released, or without its output enable (R396, R397). In
double data rate D1 is driven in the high phase and D2 in the low phase. -/
def Device.userPad (d : Device) (n h : Nat) : Option Bool :=
  let x := Config.fabricDesign d.cfgMem
  match x.cells.lookup n with
  | none => none
  | some s =>
    let c := mapGet IoCell.initial d.fabric.cells n
    let low := decide (h % 2 = 1)
    let path (m : IoMode) (w : FabSignal) (a b : Bool) : Bool := match m with
      | .direct => d.fabSignal x h (12 * (n / 24)) w
      | .sdr => a
      | _ => if low then b else a
    if d.regBit Reg.cfgFabBankStatus (8 + n / 24) && path s.enable s.oe.1 c.e1 c.e2 then some (path s.output s.out.1 c.o1 c.o2)
    else none

/-! ### The fabric in a gcyc -/

/-- Nothing in the fabric moves by itself: no region runs, or there is no design and no tree has been changed; or the device is
in Standby, where fabric clocks stop (R459). -/
def Device.fabricStill (d : Device) : Bool :=
  let x := Config.fabricDesign d.cfgMem
  d.fabric.running == 0 || d.power == 3 ||
    (d.fabric.trees.isEmpty && x.lbs.isEmpty && x.crossings.isEmpty && x.cells.isEmpty)

/-- The fabric in gcyc `g`: the trees that rise, at most once in a gcyc each (R392), and then every register at once. -/
def Device.fabricClock (d : Device) (g : Nat) : Device :=
  if d.fabricStill then d
  else
    let x := Config.fabricDesign d.cfgMem
    let ts := ((List.range 768).filter (fun n => bit d.fabric.running (n / 16))).map (fun n => (n, d.treeClock n g))
    let up := (ts.filter (fun t => t.2.1)).map (·.1)
    d.mapFabric (fun f => { f with
      trees := ts.foldl (fun m t => if t.2.2 = d.tree t.1 then m else mapPut none m t.1 (some t.2.2)) f.trees,
      flops := d.flopsNext x g up, crossings := d.crossingsNext x g up, cells := d.cellsNext x g up })

end Sys2Proof.Machine
end

