-- ==== Sys2Proof/Machine/Time.lean ====
section
/-!
DEFINITION. Time: the clocks of the system network, of the HBM controllers and of the fabric, and the global cycle counter, with which the Dome
goes on (R17 - R19, R265, R280, R455).
-/
namespace Sys2Proof.Machine

open Sys2Proof

/-! ### The network, the controllers and the counter (R17 - R19, R455) -/

/-- READY tasks under a hold spend `n` gcyc (R462). -/
def Device.countHeld (d : Device) (n : Nat) : Device :=
  if d.heldTasks = 0 then d else d.bump Reg.pwrHoldGcyc (d.heldTasks * n)

/-- Nothing that the clocks move is on its way. -/
def Device.quiet (d : Device) : Bool := !d.domeBusy && !d.readsArriving && (d.netQuiet || !d.netRuns) && d.fabricStill

/-- The gcyc in progress ends: the Dome has run its 4 dclk, the system network its 2 clocks and the fabric its trees, the HBM controllers compare
the reads that have arrived, and LINK threads offer the cells that have become free. -/
def Device.gcycStep (d : Device) : Device :=
  let g := d.now
  let d := (d.countHeld 1).domeTo (4 * (g + 1))
  let d := if d.netQuiet || !d.netRuns then d else (d.netClock (2 * g)).netClock (2 * g + 1)
  let d := d.fabricClock g
  let d := { d with belfry := { d.belfry with gcyc := g + 1 }, net := { d.net with clock := 2 * (g + 1) } }
  d.compareReads.offerCells

/-- `n` gcyc pass: those in which nothing moves at once. -/
def Device.clockRun (d : Device) : Nat → Device
  | 0 => d
  | n + 1 =>
    if d.quiet then
      let g := d.now + (n + 1)
      let d := (d.countHeld (n + 1)).domeTo (4 * g)
      { d with belfry := { d.belfry with gcyc := g }, net := { d.net with clock := 2 * g } }
    else d.gcycStep.clockRun n

/-- The device at gcyc `g`, or as it is if that gcyc has passed, but for the acts of the Lantern: the counter counts, the
Dome, the network and the controllers run their clocks in each gcyc, and the gcyc that READY tasks spend under holds are
added to PWR_HOLD_GCYC (R19, R455, R462). -/
def Device.clockTo (d : Device) (g : Nat) : Device :=
  if d.now < g ∧ d.belfry.counting = true then d.offerCells.clockRun (g - d.now) else d

end Sys2Proof.Machine
end

