-- ==== Sys2Proof/Machine/Agenda.lean ====
section
/-!
DEFINITION. The passing of time: the clocks, and what the Lantern does by itself in gcyc fixed before - completion records
of tasks that did not start, their MSI-X messages, thresholds returned, heads of contexts (R183, R189, R190, R217, R455).
-/
namespace Sys2Proof.Machine

open Sys2Proof

/-- The act that comes first, of those in or before gcyc `g`; of one gcyc, the one fixed first. -/
def firstDue (g : Nat) : List Due → Option Due
  | [] => none
  | u :: us =>
    let r := firstDue g us
    if g < u.at_ then r else if r.elim true (fun v => decide (u.at_ ≤ v.at_)) then some u else r

/-- Every act up to gcyc `g` takes place in its gcyc, `fuel` of them at most. -/
def Device.runDues (d : Device) (g : Nat) : Nat → Device
  | 0 => d
  | fuel + 1 =>
    match firstDue g d.lantern.dues with
    | none => d
    | some u =>
      let d := d.clockTo u.at_
      (({ d with lantern := { d.lantern with dues := d.lantern.dues.erase u } }).act u.at_ u.act).runDues g fuel

/-- The device at gcyc `g`, or as it is if that gcyc has passed. Each task has at most a record, a message and a head still to
come beside the acts that are fixed. -/
def Device.advance (d : Device) (g : Nat) : Device :=
  if d.now < g ∧ d.belfry.counting = true then
    (d.runDues g (d.lantern.dues.length + 4 * d.lantern.tasks.length + 1)).clockTo g
  else d

end Sys2Proof.Machine
end

