-- ==== Sys2Proof/Machine/DomeOps.lean ====
section
/-!
DEFINITION. What the start and the steps of a task do to the Dome: registers reset, prologue windows, the gather of A, and the
launch of a DOP (R96, R100 - R103, R110, R149, R161, R164, R188).
-/
namespace Sys2Proof.Machine

open Sys2Proof

/-- VX of a Spire at a task's start cycle: every register at its reset value, pack buffers empty (R110, R149). A program
that still runs serves no DOP of the new task. -/
def Vx.restart (v : Vx) : Vx :=
  { Vx.initial with
    prog := v.prog.map (fun p => { p with kind := .maint }), nextProg := v.nextProg, nextSeq := v.nextSeq, pc := v.pc,
    pending := v.pending, held := v.held }

/-- The units that the gather of a DOP takes for row band `l` (R164): the lines of the tile of each K-slice, in ascending order,
one after the other at the west edge from T0 on. A tile in row-tile layout is read in the dclk before its first line leaves,
and its port sends it transposed. [DEDUCED, unsafe: notes/assumptions/170] -/
def Device.gatherBand (d : Device) (p : DopPlan) (l : Nat) : List DomeUnit :=
  let e := p.desc
  let n := tileLines (dopA e)
  ((List.range (dopKGroups e * n)).foldl (fun (acc : Nat × Nat × List DomeUnit) c =>
    let s := c / n
    let u := c % n
    let t := Config.gatherTile d.cfgMem (dopGather e) l s
    let there := acc.1 + (if c = 0 then 0 else Config.gatherGap d.cfgMem (dopGather e) l c)
    let go := there - pathDclk t.src t.path
    let first := if u = 0 then go else acc.2.1
    let i := (131072 * l + s) * 64 + u
    let line := DomeSrc.line (tileLine t.src ((dopALine e + t.line + u) % 2048))
    let sent (src : DomeSrc) : DomeUnit :=
      { src := src, read := go, write := there, dst := .west p.op i, hops := (hopsFrom t.src go none t.path).1, lost := false,
        data := none, ecc := .clean }
    let us : List DomeUnit :=
      if dopATile e then
        [{ src := line, read := first + u - n, write := first + u - n, dst := .port p.op i, hops := [], lost := false,
           data := none, ecc := .clean }, sent (.turned p.op i)]
      else [sent line]
    (there, first, acc.2.2 ++ us)) (p.t0, 0, [])).2.2

/-- The units of the gather of a DOP: for every row band with rows of A (R89, R106, R164). -/
def Device.gatherUnits (d : Device) (p : DopPlan) : List DomeUnit :=
  (List.range (min (dopSpan p.desc) ((dopRows p.desc + 31) / 32))).flatMap (fun l => d.gatherBand p l)

/-- A unit of the gather of a DOP. -/
def DomeUnit.gathers (u : DomeUnit) : Bool :=
  match u.dst with
  | .port _ _ => true
  | .west _ _ => true
  | _ => false

/-- At the start cycle: VX registers reset, pack buffers emptied, no DOP launched, the drain registers not loaded in this
task, and the task's DOPs known, with their prologue windows and what is gathered and ramped up ahead of them (R100, R110, R126,
R149, R161, R164, R188). -/
def Device.startSpires (d : Device) (h : List Word) (start : Nat) : Device :=
  let plan := (d.dopSteps h).map (fun s => { op := s.1, t0 := dopT0 s.2.2 (start + s.2.1), desc := s.2.2 : DopPlan })
  let starts := (plan.filter (fun p => dopProEn p.desc)).map
    (fun p => { kind := ProgKind.prologue, op := p.op, pc := dopProPc p.desc, at_ := p.t0 - dopLead p.desc : ProgStart })
  let copies := (plan.filter (fun p => dopCopyEn p.desc)).map (fun p => (p.t0 - dopLead p.desc, dopCopy p.desc))
  let spires := (d.dome.spires.map (·.1)).foldl (fun m n =>
    let s := mapGet Spire.initial m n
    mapPut Spire.initial m n { s with vx := s.vx.restart, drain := { s.drain with loaded := none } }) d.dome.spires
  let d := { d with dome := { d.dome with
    spires := spires, plan := plan, dops := [], starts := starts, copies := copies,
    units := d.dome.units.filter (fun u => !u.gathers) ++ plan.flatMap d.gatherUnits,
    tiles := [], west := [], north := [] } }
  match plan with
  | p :: _ => if rampDclk (dopRamp p.desc) = 128 then d.rampUp (rampStart p.desc p.t0) (dopRamp p.desc) else d
  | [] => d

/-! ### DOPs -/

/-- DOP number `op` of the task is launched with T0 = `t0` (R71, R96, R100, R125, R164, R171): its programs will start at their
dclk. -/
def Device.launch (d : Device) (op : Nat) (e : List Word) (t0 : Nat) (env : DopEnv) : Device :=
  let p : Dop := { op := op, desc := e, t0 := t0, env := env, left := 4096, ended := 0, stats := [], statLost := [] }
  let ph2 := if dopRsKind e = 0 then [] else
    [{ kind := ProgKind.phase2, op := op, pc := dopPh2 e, at_ := ph2Time e t0 : ProgStart }]
  let found (u : DomeUnit) : DomeUnit :=
    match u.src, u.dst with
    | .line l, .west o _ => if o = op then { u with ecc := (env.tile.lookup l).getD .clean } else u
    | .line l, .port o _ => if o = op then { u with ecc := (env.tile.lookup l).getD .clean } else u
    | _, _ => u
  let d := { d with dome := { d.dome with
    dops := d.dome.dops ++ [p],
    starts := d.dome.starts ++ ({ kind := ProgKind.epilogue, op := op, pc := dopEpiPc e, at_ := 0 : ProgStart } :: ph2),
    units := d.dome.units.map found,
    ramp := dopRamp e } }
  if op = 0 ∧ rampDclk (dopRamp e) ≠ 128 then d.rampUp (rampStart e t0) (dopRamp e) else d

/-- Every launched DOP is over in every Spire; the gcyc by which it is (R190). -/
def Device.dopsOver (d : Device) : Option Nat :=
  if d.dome.dops.all (fun p => p.left == 0) then some (((d.dome.dops.map (·.ended)).foldl max 0 + 3) / 4) else none

end Sys2Proof.Machine
end

