-- ==== Sys2Proof/Machine/Lantern.lean ====
section
/-!
DEFINITION. The Lantern's commands: start conditions, selection, start, steps, the END stamp and the end state, aborts and
the idle timer (R183 - R201, R215, R460).
-/
namespace Sys2Proof.Machine

open Sys2Proof

/-! ### Start conditions (R214 - R216) -/

/-- The start conditions H3-H6 tested in order against one working copy: the device with the consumed tallies, and what
was consumed; none if an enabled entry is not met or not mapped (R215). -/
def Device.testWaits (d : Device) (ctx : Nat) : List Word → List (Nat × Nat) → Option (Device × List (Nat × Nat))
  | [], acc => some (d, acc)
  | e :: es, acc =>
    if bit e 63 = false then d.testWaits ctx es acc
    else
      match d.translateVid ctx (fld e 48 8) with
      | none => none
      | some p =>
        if d.tally p < fld e 0 32 then none
        else if bit e 62 then
          (d.setTally p (d.tally p - fld e 0 32)).testWaits ctx es (acc ++ [(p, fld e 0 32)])
        else d.testWaits ctx es acc

/-- The gate of queue `q` is open to an evaluation in gcyc `g` (R301). -/
def Device.gateOpen (d : Device) (q g : Nat) : Bool := !(d.queue q).blocks && decide ((d.queue q).openFrom ≤ g)

/-- One WAITING head task is evaluated in gcyc `g` (R215): an unblocked queue, a valid slot and every enabled entry met
make it READY. -/
def Device.evaluateTask (d : Device) (g : Nat) (t : Task) : Device :=
  if d.slotValid t.slot = false ∨ d.gateOpen (d.ctxQueue t.ctx) g = false then d
  else
    match d.testWaits t.ctx ((d.slotHeader t.slot).drop 3 |>.take 4) [] with
    | none => d
    | some (d', used) =>
      let d' := d'.mapTask t.id (fun t => { t with state := .ready, since := g, consumed := used })
      { d' with belfry := { d'.belfry with idleFrom := none } }

/-- WAITING tasks in ascending context number (R216). -/
def Device.waitingTasks (d : Device) : List Task :=
  (d.lantern.tasks.filter (fun t => t.state == .waiting)).mergeSort (fun a b => decide (a.ctx ≤ b.ctx))

/-- The task `t` is to be evaluated in or before gcyc `g` (R215). -/
def Device.evalDue (d : Device) (g : Nat) (t : Task) : Bool :=
  decide (t.since + 1 ≤ g) && d.lantern.evals.any (fun e => e.1 == t.ctx && decide (e.2 ≤ g))

/-- The words of context record `n` that the Lantern reads for a task, with what SECDED found in them (R206). -/
def Device.ctxEccs (d : Device) (n : Nat) (mark : Bool) : List (Fin 16 × Bool) → Device
  | [] => d
  | e :: es => (d.ctxEcc n e.1.val (if e.2 then .uncorrectable else .corrected) mark).ctxEccs n mark es

/-- The head tasks that are to be evaluated in gcyc `g`, in ascending context number (R213, R215, R216). `ecc`: what SECDED
found in W0 of their context records, by context. -/
def Device.evaluateDue (d : Device) (g : Nat) (ecc : List (Fin 49152 × Bool)) : Device :=
  let due := d.waitingTasks.filter (d.evalDue g)
  let d := { d with lantern := { d.lantern with evals := d.lantern.evals.filter (fun e => decide (g < e.2)) } }
  due.foldl (fun d t =>
    (d.ctxEccs t.ctx false ((ecc.filter (fun e => e.1.val == t.ctx)).map (fun e => (0, e.2)))).evaluateTask g t) d

/-- START_CONDITION_EVALUATION: in the next gcyc in which head tasks are to be evaluated, every one of them is. -/
def Device.evaluateHeads (d : Device) (ecc : List (Fin 49152 × Bool)) : Device :=
  let gs := d.waitingTasks.flatMap (fun t =>
    (d.lantern.evals.filter (fun e => e.1 == t.ctx)).map (fun e => max e.2 (t.since + 1)))
  match gs with
  | [] => d
  | g :: rest =>
    let g := max d.now (rest.foldl min g)
    (d.advance g).evaluateDue g ecc

def execStartConditionEvaluation (s : State) (ecc : List (Fin 49152 × Bool) := []) : Host.Outcome State Fault Refusal :=
  took s (·.evaluateHeads ecc)

/-! ### Selection (R185 - R188, R196) -/

/-- The class of a task (R185). -/
def Device.taskClass (d : Device) (t : Task) : Nat :=
  if bit (wd t.words 0) 29 then fld (wd t.words 0) 26 3 else fld (wd (d.slotHeader t.slot) 0) 16 3

/-- Place of a context in the turn of its class: contexts after the one last selected come first, wrapping after 49,151;
the first selection of a class starts from context 0 (R185). -/
def Device.turn (d : Device) (t : Task) : Nat :=
  match mapGet none d.lantern.lastSel (d.taskClass t) with
  | none => t.ctx
  | some c => (t.ctx + 49152 - c - 1) % 49152

/-- `a` is taken before `b`: higher class, then the earlier turn (R185, R186). -/
def Device.before (d : Device) (a b : Task) : Bool :=
  decide (d.taskClass a < d.taskClass b) || (d.taskClass a == d.taskClass b && decide (d.turn a ≤ d.turn b))

def Device.pickTask (d : Device) : List Task → Option Task
  | [] => none
  | t :: ts => match d.pickTask ts with
    | none => some t
    | some u => if d.before t u then some t else some u

/-- Some Spire is in MAINT (R129, R187). -/
def Device.anyMaint (d : Device) : Bool :=
  d.maintCfg || !d.tap.selected.isEmpty || d.bistMaint || d.regs.any (fun e => isSpireReg e.1 0x108 && bit e.2 16)

/-- Every controller has finished training (R272). -/
def Device.hbmTrained (d : Device) : Bool := (List.range 12).all (fun s => decide (d.regF (Reg.hbcStatus s) 2 2 ≠ 0))

/-- With a cluster start pending, a local task whose END stamp would fall at or after S is not selected (R196).
[DEDUCED, unsafe: notes/assumptions/35] -/
def Device.endsBefore (d : Device) (t : Task) (g : Nat) : Bool :=
  match d.lantern.cluPend with
  | none => true
  | some p =>
    let start := max (g + 16) (g + wakeTime d.power) + d.regF Reg.lntCtl 0 8
    decide (start + fld (wd (d.slotHeader t.slot) 1) 0 40 < p.start)

/-- READY tasks that may be selected in gcyc `g`, or in the gcyc after they became READY where that is later. -/
def Device.eligible (d : Device) (g : Nat) : List Task :=
  d.lantern.tasks.filter (fun t =>
    t.state == .ready && d.slotValid t.slot && d.endsBefore t (max g (t.since + 1)) &&
      (!bit (wd (d.slotHeader t.slot) 0) 23 || d.belfry.cdone))

/-- The first gcyc from `g` on in which a task may be selected (R185). -/
def Device.selectAt (d : Device) (g : Nat) : Option Nat :=
  match d.eligible g with
  | [] => none
  | t :: ts => some (max g (ts.foldl (fun m u => min m (u.since + 1)) (t.since + 1)))

/-- READY tasks that may be selected in gcyc `g`: from the gcyc after they became READY on (R185). -/
def Device.candidates (d : Device) (g : Nat) : List Task := (d.eligible g).filter (fun t => decide (t.since + 1 ≤ g))

/-- Selection is withheld: a Spire in MAINT, pins that follow the TAP, a BIST, a FULL or RELOAD load, a hold in force, HBM not
trained, or the Dome is not free (R187, R272, R410, R487, R489). -/
def Device.mayselect (d : Device) : Bool :=
  d.lantern.run.isNone && !d.anyMaint && !d.pinsTaken && d.tap.bist.isNone && !d.reloading && decide (d.regF Reg.pwrStatus 8 5 = 0) && d.hbmTrained

/-- The 16 private tallies of a context are loaded into a bank (R188, R220). [DEDUCED, unsafe: notes/assumptions/41] -/
def Device.loadBank (d : Device) (ctx bank : Nat) : Device :=
  (List.range 16).foldl (fun d i => d.setTally (16 * bank + i) (d.regF (Reg.ctxPt ctx (i / 2)) (32 * (i % 2)) 32)) d

/-- The start cycle is chosen once the gcyc at which the clocks reach Run is known; a cluster master floods START with S,
slot, EPOCH, context and the RESTART flag (R188, R196, R199). -/
def Device.chooseStart (d : Device) (w : Nat) : Device :=
  match d.lantern.run with
  | none => d
  | some r =>
    if r.start.isSome ∨ r.aborted = true then d
    else
      let s := max (r.sel + 16) w + r.lead
      let d := d.setRun (some { r with clocks := some w, start := some s })
      if r.cluster && d.cluster.member.isSome && d.isMaster then
        d.originate 0x13 [s, r.slot, fld (wd r.header 0) 32 32, r.ctx, min r.retries 1]
      else d

/-- The holder of the Dome as a new attempt begins (R188, R193). A cluster task's lead is CLU_LEAD x 16 (R196); a device without
a membership is a cluster of one (R341). -/
def Device.newRun (d : Device) (t : Task) (g retries bank : Nat) (queues : List Nat) : Run :=
  let h := d.slotHeader t.slot
  let clu := bit (wd h 0) 23
  { task := t.id, ctx := t.ctx, slot := t.slot, header := h, cluster := clu, sel := g, clocks := none,
    lead := if clu then 16 * d.regF Reg.lntCtl 16 16 else d.regF Reg.lntCtl 0 8,
    start := none, retries := retries, bank := bank, nextStep := 0, nextOp := 0, poisoned := false, cause := 0,
    fault := false, aborted := false, firstFault := none, cfgSeen := [], flagSent := false, stopAfter := none,
    queues := queues, decided := none, streamFault := false }

/-- The attempt `r` of task `t` is selected (R188): the clocks are asked to wake and the private tallies are loaded. -/
def Device.beginRun (d : Device) (t : Task) (r : Run) (ecc : List (Fin 16 × Bool)) : Device :=
  let d := (d.mapTask t.id (fun t => { t with state := .starting, since := r.sel })).setRun (some r)
  let d := { d with belfry := { d.belfry with idleFrom := none } }
  let d := (d.ctxEccs t.ctx true ecc).loadBank t.ctx r.bank
  if d.power = 0 then d.chooseStart r.sel else d.requestWake true

/-- The first attempt of task `t` is selected in gcyc `g`: the class remembers the context, and the next task takes the
other private bank (R185, R207). -/
def Device.selectTask (d : Device) (t : Task) (g : Nat) (ecc : List (Fin 16 × Bool)) : Device :=
  let r := d.newRun t g 0 d.lantern.bank []
  let l := mapPut none d.lantern.lastSel (d.taskClass t) (some t.ctx)
  ({ d with lantern := { d.lantern with lastSel := l, bank := 1 - r.bank } }).beginRun t r ecc

/-- TASK_SELECTION: in the first gcyc in which the Lantern selects, the READY task of the highest class (R185 - R188). -/
def Device.selectNext (d : Device) (ecc : List (Fin 16 × Bool)) : Device :=
  if d.mayselect = false then d
  else
    match d.selectAt (max d.now d.lantern.domeFree) with
    | none => d
    | some g =>
      let d := d.advance g
      match d.pickTask (d.candidates g) with
      | none => d
      | some t => d.selectTask t g ecc

def execTaskSelection (ecc : List (Fin 16 × Bool)) (s : State) : Host.Outcome State Fault Refusal :=
  took s (·.selectNext ecc)

/-! ### The start cycle (R188) -/

/-- The flags and captures of every Spire are cleared: SPR_FLAGS, SPR_MX_CAPT, SPR_RCK_CAPT, SPR_VX_FAULT (R54, R82). -/
def Device.clearCaptures (d : Device) : Device :=
  { d with regs := d.regs.filter (fun e =>
      !(isSpireReg e.1 0x8 || isSpireReg e.1 0x10 || isSpireReg e.1 0x18 || isSpireReg e.1 0x110)) }

/-- LNT_DELAY_MAX (R202): acceptance to the start of the first attempt. -/
def Device.noteDelay (d : Device) (t : Task) (start retries : Nat) : Device :=
  if retries = 0 ∧ t.remote = false ∧ d.regF Reg.lntDelayMax 0 64 < start - t.accepted then
    d.setReg Reg.lntDelayMax (BitVec.ofNat 64 (start - t.accepted))
  else d

/-- At the start cycle (R188): captures cleared, VX registers reset, pack buffers emptied, threads IDLE, the queue read
position recorded in QPOS. -/
def Device.startTask (d : Device) (r : Run) (t : Task) (start : Nat) : Device :=
  let d := ((d.advance start).clearCaptures.startSpires r.header start).idleThreads
  let d := d.setReg (Reg.ctxW4 r.ctx) (BitVec.ofNat 64 (d.queue (d.ctxQueue r.ctx)).rd)
  (d.mapTask t.id (fun t => { t with state := .running, since := start, consumed := [] })).noteDelay t start r.retries

/-- TASK_START of a local task at its start cycle. While a Spire is in MAINT, the start is put off, gcyc by gcyc (R129).
[DEDUCED, unsafe: notes/assumptions/174] -/
def Device.startLocal (d : Device) : Device :=
  match d.lantern.run with
  | none => d
  | some r =>
    match d.task r.task, r.start with
    | some t, some start =>
      if t.state = .starting ∧ r.cluster = false then
        let d := d.advance start
        if d.anyMaint then d.setRun (some { r with start := some (d.now + 1) }) else d.startTask r t start
      else d
    | _, _ => d

def execTaskStart (s : State) : Host.Outcome State Fault Refusal := took s Device.startLocal

/-! ### Steps (R179, R180, R188, R190) -/

/-- The next step of the running task, if it has the KIND asked for and is issued: the task, the words S0 and S1, and the
stamp. A step with a stamp after an abort is not issued. -/
def Device.nextStep (d : Device) (kind : Nat) : Option (Run × Word × Nat) :=
  match d.lantern.run with
  | none => none
  | some r =>
    match d.task r.task, r.start with
    | some t, some start =>
      let rec_ := d.stepRecord r.header r.nextStep
      let stamp := start + fld rec_.1 0 40
      if t.state = .running ∧ fld rec_.1 40 4 = kind ∧ r.nextStep ≤ fld (wd r.header 0) 0 16 ∧
          r.stopAfter.elim true (fun a => decide (stamp ≤ a)) = true then some (r, rec_.2, stamp)
      else none
    | _, _ => none

/-- The step is issued at its stamp: time is there, and the next step follows. -/
def Device.issueStep (d : Device) (stamp : Nat) : Device :=
  (d.advance stamp).mapRun (fun r => { r with nextStep := r.nextStep + 1 })

/-- SPLIT_STEP: the bandwidth wheel of every engine is loaded (R234). -/
def Device.splitStep (d : Device) : Device :=
  match d.nextStep 4 with
  | none => d
  | some (r, s1, stamp) =>
    let d := d.issueStep stamp
    let ws := d.schedWords (d.allocBase r.slot + 16 * fld s1 0 16) 2
    let n := (wd ws 0).toNat + 2 ^ 64 * (wd ws 1).toNat
    (List.range 4).foldl (fun d k => d.setReg (Reg.steWheel k) (BitVec.ofNat 64 (n / 2 ^ (32 * k) % 2 ^ 32))) d

def execSplitStep (s : State) : Host.Outcome State Fault Refusal := took s Device.splitStep

/-- END_STEP: the last result-buffer write is issued, and threads that are not DONE are stopped (R189, R243). -/
def Device.endStep (d : Device) : Device :=
  match d.nextStep 0xF with
  | none => d
  | some (r, _, stamp) =>
    ((d.issueStep stamp).stopThreads .endOrStep).mapTask r.task
      (fun t => { t with state := .completing, since := stamp })

def execEndStep (s : State) : Host.Outcome State Fault Refusal := took s Device.endStep

/-! ### The end of a task (R184, R189, R193, R198) -/

/-- STATUS that the task has earned (R184): ABORTED, FAULT, POISONED or OK. -/
def Run.status (r : Run) : Nat := if r.aborted then 0xA else if r.fault then 0xB else if r.poisoned then 9 else 8

/-- A POISONED idempotent task is restarted (R192, R193). -/
def Device.mayRestart (d : Device) (r : Run) (status : Nat) : Bool :=
  decide (status = 9) && bit (wd r.header 0) 19 && d.regBit Reg.lntCtl 8 && decide (r.retries < fld (wd r.header 0) 20 3) &&
    d.isMaster

/-- What every end of holding the Dome does: idle wheels, threads stopped, links free of slot tables, the ramp-down (R102,
R234, R243, R327). -/
def Device.leaveDome (d : Device) (g : Nat) : Device :=
  ((d.stopThreads .other).loadIdleWheels.dropTables).rampDown.freeDome g

/-- The completion record of the task that holds the Dome, in gcyc `fin` (R189, R200, R304): queues released, the next task
of the context follows, private tallies saved only for OK. -/
def Device.finishTask (d : Device) (r : Run) (t : Task) (e : EndRecord) (fin : Nat) : Device :=
  let d := r.queues.foldl (fun d q => d.releaseQueue q) d
  let d := if t.remote then (d.dropTask t.id).countEnd e.status else d.putRecord t e fin
  let d := d.leaveDome (fin + 1)
  let v : Save := { ctx := r.ctx, bank := r.bank, done := fin + 15 }
  if e.status = 8 then { d with lantern := { d.lantern with save := some v } }
  else ({ d with lantern := { d.lantern with oldBank := some v } }.nextHead r.ctx (fin + 1)).armIdle (fin + 15)

/-- The record of a local task's attempt `r` that ends with `status` (R200). -/
def Device.localRecord (d : Device) (r : Run) (status fin : Nat) : EndRecord :=
  { r.endRecord status (r.start.getD fin) with flags := d.spireFlags }

/-- An automatic restart decided in gcyc `g` (R193): the queue read positions rewind, and the task is selected again. -/
def Device.restartTask (d : Device) (r : Run) (t : Task) (g : Nat) (ecc : List (Fin 16 × Bool)) : Device :=
  let d := r.queues.foldl (fun d q => d.rewindQueue q) d
  let d := ((d.stopThreads .other).bump Reg.lntRestartCnt 1).loadIdleWheels.dropTables
  d.beginRun t (d.newRun t g (r.retries + 1) r.bank r.queues) ecc

/-- The task that holds or is taking the Dome. -/
def Device.holder (d : Device) : Option (Run × Task) := d.lantern.run.bind (fun r => (d.task r.task).map (fun t => (r, t)))

/-- END_STATE_DECISION: at E + 1 the end state is decided. A local task gets its record or is restarted; a cluster task
waits for its report (R184, R189, R193, R198). -/
def Device.decideEnd (d : Device) (ecc : List (Fin 16 × Bool)) : Device :=
  match d.holder with
  | none => d
  | some (r, t) =>
    if t.state ≠ .completing ∨ r.decided.isSome then d
    else
      let g := t.since + 1
      let d := d.advance g
      let r := d.lantern.run.getD r
      let status := r.status
      let d := if status = 9 ∧ r.cluster = false then d.bump Reg.lntPoisonCnt 1 else d
      if r.cluster then d.setRun (some { r with decided := some status })
      else if d.mayRestart r status then d.restartTask r t g ecc
      else d.finishTask r t (d.localRecord r status g) g

/-- END_STATE_DECISION; `ecc`: what SECDED found in the words of the context record that a restart loads (R206). -/
def execEndStateDecision (s : State) (ecc : List (Fin 16 × Bool) := []) : Host.Outcome State Fault Refusal :=
  took s (·.decideEnd ecc)

/-- TALLY_SAVE_COMPLETE: the bank is in the context record, and the next task of the context leaves QUEUED (R189, R220). -/
def Device.saveDone (d : Device) : Device :=
  match d.lantern.save with
  | none => d
  | some v =>
    let d := d.advance v.done
    let d := (List.range 16).foldl
      (fun d i => d.setF (Reg.ctxPt v.ctx (i / 2)) (32 * (i % 2)) 32 (d.tally (16 * v.bank + i))) d
    let d := { d with lantern := { d.lantern with save := none } }
    (d.nextHead v.ctx v.done).armIdle v.done

def execTallySaveComplete (s : State) : Host.Outcome State Fault Refusal := took s Device.saveDone

/-! ### The idle timer (R23, R460) -/

/-- The idle timer runs: no task is READY or further on. -/
def Device.idleSince (d : Device) : Option Nat :=
  if d.lantern.run.isNone && !d.lantern.tasks.any (fun t => t.state == .ready) then d.belfry.idleFrom else none

/-- Time is gcyc `g`, and what becomes READY in that gcyc has done so: it is served before the idle timer (R23). -/
def Device.readyFirst (d : Device) (g : Nat) : Device :=
  let d := d.advance g
  d.evaluateDue d.now []

/-- IDLE_TIMER_WARM: the timer reaches WARM_AFTER in Run, and the Dome clock root is gated, unless a task becomes READY in
that gcyc. -/
def Device.idleWarm (d : Device) : Device :=
  match d.idleSince with
  | none => d
  | some g =>
    let w := d.regF Reg.pwrIdle 0 32
    if d.power = 0 ∧ w ≠ 0 then
      let d := d.readyFirst (g + w)
      if d.idleSince = some g then d.setPower 1 else d
    else d

def execIdleTimerWarm (s : State) : Host.Outcome State Fault Refusal := took s Device.idleWarm

/-- IDLE_TIMER_COLD: the timer reaches WARM_AFTER + COLD_AFTER in Warm, and entry to Cold begins.
[DEDUCED, safe: notes/assumptions/16] -/
def Device.idleCold (d : Device) : Device :=
  match d.idleSince with
  | none => d
  | some g =>
    let w := d.regF Reg.pwrIdle 0 32
    let c := d.regF Reg.pwrIdle 32 32
    if d.power = 1 ∧ c ≠ 0 then
      let d := d.readyFirst (g + w + 1000 * c)
      if d.idleSince = some g then { d.setPower 4 with belfry := { d.belfry with enterFrom := d.now } } else d
    else d

def execIdleTimerCold (s : State) : Host.Outcome State Fault Refusal := took s Device.idleCold

/-! ### Abort (R190, R197, R355) -/

/-- The worse of two STATUS codes: the first of FAULT, ABORTED, POISONED and OK (R198). -/
def worseStatus (a b : Nat) : Nat :=
  if a = 0xB ∨ b = 0xB then 0xB else if a = 0xA ∨ b = 0xA then 0xA else if a = 9 ∨ b = 9 then 9 else 8

/-- The lower of two device numbers, where there is one. -/
def lowerDevice : Option Nat → Option Nat → Option Nat
  | none, b => b
  | a, none => a
  | some a, some b => some (min a b)

/-- Two reports combined (R352). -/
def addReports (a b : ReportUnit) : ReportUnit :=
  { status := worseStatus a.status b.status, mx := a.mx ||| b.mx, vx := a.vx ||| b.vx, cause := a.cause ||| b.cause,
    bad := a.bad + b.bad, firstBad := lowerDevice a.firstBad b.firstBad, cover := a.cover + b.cover }

/-- A REPORT as the words of its control unit (R349). -/
def reportWords (r : ReportUnit) : List Nat :=
  [r.status, r.mx, r.vx, r.cause.toNat, r.bad, r.firstBad.getD 0, b2n r.firstBad.isSome, r.cover]

/-- This device's own report on the attempt `r` (R352). -/
def Device.ownReport (d : Device) (r : Run) (status : Nat) : ReportUnit :=
  { status := status, mx := fld d.spireFlags 0 4, vx := fld d.spireFlags 8 4, cause := causeOrDefault r,
    bad := b2n (decide (status ≠ 8)), firstBad := if status = 8 then none else some d.device, cover := 1 }

/-- The master's ABORTED record of a cluster task, in gcyc `fin`, with every report that has come; a member that has not
reported counts as bad, and is named where no lower one is (R197, R200). FINAL is flooded.
[DEDUCED, unsafe: notes/assumptions/84] -/
def Device.clusterAborted (d : Device) (r : Run) (t : Task) (fin : Nat) : Device :=
  let rep := (d.cluster.reports.map (·.2)).foldl addReports (d.ownReport r 0xA)
  let covered := fun (c : Child) => ((d.cluster.reports.filter (fun e => e.1 == c.link)).map (fun e => e.2.cover)).sum
  let silent := d.cluster.member.elim [] (fun m => m.children.filter (fun c => decide (covered c < c.subtree)))
  let missing := d.cluster.member.elim 0 (fun m => m.membersM1 + 1 - rep.cover)
  let first := silent.foldl (fun a c => lowerDevice a (some c.subMin)) rep.firstBad
  let e := { r.endRecord 0xA (r.start.getD (d.cluster.abortFrom.getD fin + 1)) with
    flags := mkWord [(0, rep.mx), (8, rep.vx)], cause := rep.cause, bad := rep.bad + missing, firstBad := first }
  let d := { d with cluster := { d.cluster with abortFrom := none, reports := [] } }
  let d := d.originate 0x15 [0xA]
  if t.state = .starting then ((d.putRecord t { e with flags := 0 } fin).freeDome (fin + 1) |>.nextHead r.ctx (fin + 1)).armIdle fin
  else d.finishTask r t e fin

/-- The ABORTED record is issued once this device has finished and every member has reported (R197). -/
def Device.tryClusterAborted (d : Device) : Device :=
  match d.holder with
  | some (r, t) =>
    if d.cluster.abortFrom.isSome ∧ r.decided.isSome ∧
        d.cluster.member.elim 0 (·.membersM1) ≤ (d.cluster.reports.map (fun e => e.2.cover)).sum then
      let d := d.advance (d.cluster.abortFrom.getD 0 + 1)
      let h := d.holder.getD (r, t)
      d.clusterAborted h.1 h.2 d.now
    else d
  | none => d

/-- The master decides to abort the cluster task of context `n`, floods ABORT and applies it (R197). -/
def Device.decideAbort (d : Device) (n : Nat) : Device :=
  if d.cluster.abortFrom.isSome then d
  else
    let d := { d with cluster := { d.cluster with abortFrom := some d.now, reports := [] } }
    ((d.originate 0x14 [n]).abortClusterLocal n).tryClusterAborted

/-- An abort of context `n` that reaches the device in this gcyc, from the host or a reset of a function: of a cluster task,
a member asks its master and the master decides the abort; any other task is aborted here (R190, R197, R355). -/
def Device.abortRequest (d : Device) (n : Nat) (queuedToo : Bool) : Device :=
  let clu := d.lantern.run.elim false (fun r => r.cluster && r.ctx == n) ||
    d.lantern.cluPend.elim false (fun p => p.ctx == n)
  if clu then
    let d := if d.isMaster then d.decideAbort n else d.sendUp 0x19 [d.device, n]
    if queuedToo then
      ((d.ctxTasks n).drop 1 |>.filter (fun t => t.state == .queued)).foldl (fun d t => d.recordUnstarted t 0xA (d.now + 1)) d
    else d
  else d.abortContext n d.now queuedToo

/-- A write of LNT_ABORT (R190, R202). [DEDUCED, unsafe: notes/assumptions/38] -/
def Device.lntAbort (d : Device) (w : BitVec 32) : Device :=
  if bit w 31 = false ∨ 49151 < fld w 0 16 then d else d.abortRequest (fld w 0 16) (bit w 30)

def execLntAbort (data : BitVec 32) (s : State) : Host.Outcome State Fault Refusal := took s (·.lntAbort data)

/-- ABORT_COMPLETION: the last launched DOP and every stopped thread have finished, and the record of the aborted or
faulted RUNNING task is issued (R190, R248). A cluster member reports instead; a cluster master waits for its members.
[DEDUCED, unsafe: notes/assumptions/99] -/
def Device.abortDone (d : Device) : Device :=
  match d.holder with
  | none => d
  | some (r, t) =>
    match r.stopAfter with
    | some a =>
      if t.state ≠ .running ∨ d.threadsBusy = true ∨ r.decided.isSome ∨ d.dopsOver = none then d
      else
        let fin := max d.now (max (a + 1) (d.dopsOver.getD 0))
        let d := d.advance fin
        let r := d.lantern.run.getD r
        let status := r.status
        if r.cluster then
          let d := d.setRun (some { r with decided := some status })
          if d.isMaster then d.tryClusterAborted
          else { d with cluster := { d.cluster with reported := true } }.sendUp 0x16 (reportWords (d.ownReport r status))
        else d.finishTask r t (d.localRecord r status fin) fin
    | none => if t.state = .starting ∧ r.cluster = true ∧ d.isMaster = true then d.tryClusterAborted else d

def execAbortCompletion (s : State) : Host.Outcome State Fault Refusal := took s Device.abortDone

end Sys2Proof.Machine
end

