-- ==== Sys2Proof/Machine/Tally.lean ====
section
/-!
DEFINITION. Contexts and tallies: record and tally writes, signals, fences and their expiry (R203 - R221).
-/
namespace Sys2Proof.Machine

open Sys2Proof

/-! ### Records, tallies and tables (R205, R208, R213, R221) -/

/-- A write to word `w` of context record `n` by function `f` (R205, R384): discarded and counted while STATUS reads 0x5; a
virtual function reaches only its own contexts, and of these only the private tallies. -/
def Device.writeContext (d : Device) (f n w : Nat) (v : Word) (h : Half) : Device :=
  if f ≠ 0 ∧ d.ctxFunc n ≠ f then d.bump Reg.hifVfDenyCnt 1
  else if fld (d.ctx n 0) 20 4 = 5 then d.bump Reg.tlyCtxWdropCnt 1
  else
    let mask : Word := if w = 0 ∧ f = 0 then 0xFFFF0001FFFF else if 8 ≤ w ∧ w ≤ 15 then 0xFFFFFFFFFFFFFFFF else 0
    d.setReg (Reg.ctxW0 n + 8 * w) (mergeWord (d.ctx n w) v mask h)

def execContextRecordWrite (func : Fin 64) (ctx : Fin 49152) (word : Fin 16) (data : Word) (lanes : Half) (s : State) :
    Host.Outcome State Fault Refusal := took s (·.writeContext func ctx word data lanes)

def execTallyWrite (tally : Fin 65536) (value : BitVec 32) (s : State) : Host.Outcome State Fault Refusal :=
  took s (·.writeTally tally value)

/-- The table of context `n` is table `t` (R203, R208). -/
def Device.usesTmap (d : Device) (n t : Nat) : Bool := bit (d.ctx n 0) 7 && fld (d.ctx n 0) 8 9 == t

/-- A write of two entries of a translation table (R208, R221): entries 0-15 ignore it. Tasks whose context uses the table are
evaluated in the next gcyc (R215). -/
def Device.writeTmap (d : Device) (t u : Nat) (v : BitVec 32) : Device :=
  if u < 8 then d
  else (d.setReg (Reg.tlyTmap t u) (v.setWidth 64)).noteEval (fun x => d.usesTmap x.ctx t) (d.now + 1)

def execTranslationEntryWrite (table : Fin 480) (pair : Fin 128) (value : BitVec 32) (s : State) :
    Host.Outcome State Fault Refusal := took s (·.writeTmap table pair value)

/-! ### Arrival of signals (R211, R218, R219) -/

/-- A signal is put on its way to its tally (R211). -/
def Device.scheduleSig (d : Device) (g : Sig) : Device :=
  { d with lantern := { d.lantern with sigs := d.lantern.sigs ++ [g] } }

/-- TLY_STATUS.PEND_HWM follows the occupancy of the pending table (R221). -/
def Device.notePending (d : Device) : Device :=
  if d.regF Reg.tlyStatus 16 9 < d.lantern.parked.length then d.setF Reg.tlyStatus 16 9 d.lantern.parked.length else d

/-- A full table or an expiry (R219): TLY_LAST_ERR, a fault record of KIND 0x11 or 0x12, and the task that holds the Dome
ends FAULT. -/
def Device.fenceFault (d : Device) (kind err : Nat) (p : Parked) (park : Nat) : Device :=
  let tk := 256 * p.engine + p.thread
  let d := d.tallyError err p.sig.dev p.sig.ctx p.sig.vid 0
  let d := d.faultRecord kind tk [(8, p.sig.dev)]
    (mkWord [(0, p.sig.ctx), (16, p.sig.vid), (24, p.engine), (26, p.thread)])
    (BitVec.ofNat 64 p.bytes) (BitVec.ofNat 64 (d.committedBytes tk)) (BitVec.ofNat 64 park) 0 d.now 0
  d.faultTask d.now

/-- A signal arrives in this gcyc (R211, R218): unfenced or with its fence met it is applied two gcyc later, otherwise it
is parked, or discarded when the pending table is full. -/
def Device.arrive (d : Device) (g : Sig) (fence : Option (Nat × Nat × Nat)) : Device :=
  let g := { g with applyAt := d.now + 2 }
  match fence with
  | none => d.scheduleSig g
  | some (e, t, n) =>
    if n ≤ d.committedBytes (256 * e + t) then d.scheduleSig g
    else
      let p : Parked :=
        { sig := g, engine := e, thread := t, bytes := n, parkedAt := d.now, limit := d.regF Reg.tlyCtl 0 24,
          metAt := none }
      if 256 ≤ d.lantern.parked.length then (d.bump Reg.tlyPendFullCnt 1).fenceFault 0x11 3 p 0
      else { d with lantern := { d.lantern with parked := d.lantern.parked ++ [p] } }.notePending

/-- A write of TLY_HOST_SIG (R211, R221). -/
def Device.hostSig (d : Device) (w : Word) : Device :=
  let inc := fld w 16 32
  let p := fld w 0 16
  if inc = 0 then d
  else if p < 32 then (d.bump Reg.tlyUnmapCnt 1).tallyError 2 d.device 0 0 p
  else d.arrive { dev := d.device, ctx := 0, vid := 0, inc := inc, phys := some p, cross := false, host := true,
                  applyAt := 0 } none

def execTlyHostSig (data : Word) (s : State) : Host.Outcome State Fault Refusal := took s (·.hostSig data)

/-- A remote signal arrives at this device (R211, R218). -/
def Device.remoteSignal (d : Device) (m : SignalMsg) : Device :=
  d.arrive { dev := m.device, ctx := m.ctx, vid := m.vid, inc := m.inc, phys := none, cross := true, host := false,
             applyAt := 0 } m.fence

/-- SIGNAL: a packet whose header fails on the way is discarded (R284). -/
def execRemoteSignal (msg : SignalMsg) (s : State) (headerOk : Bool := true) : Host.Outcome State Fault Refusal :=
  took s (fun d => if headerOk then d.remoteSignal msg else d.bump Reg.sncHdrDropCnt 1)

/-- The link on which a unit for device `n` leaves: a membership link to that device, or the one that the open routing
gives (R319, R340). -/
def Device.linkTo (d : Device) (n : Nat) : Nat :=
  match d.cluster.member.bind (fun m => m.entries.find? (fun e => e.peer == n)) with
  | some e => e.link
  | none => Config.linkToward n % 64

/-- SIGNAL_STEP: the signal of the descriptor is issued at the stamp, to its own context, to another or to a remote
device (R179, R210, R211). -/
def Device.signalStep (d : Device) : Device :=
  match d.nextStep 5 with
  | none => d
  | some (r, s1, stamp) =>
    let d := d.issueStep stamp
    let ws := d.schedWords (16 * fld s1 0 24) 2
    let g0 := wd ws 0
    let g1 := wd ws 1
    let scope := fld g0 0 2
    let fence := if bit g1 0 then some (fld g1 1 2, fld g1 3 8, fld g1 16 48) else none
    let ctx := if scope = 0 then r.ctx else fld g0 12 16
    if scope = 2 then
      d.sendMessage 4 6 (d.linkTo (fld g0 2 10)) 3
        [d.device, ctx, fld g0 28 8, fld g0 36 8 + 1, fld g1 0 1, fld g1 1 2, fld g1 3 8, fld g1 16 48, fld g0 2 10]
    else
      d.arrive { dev := d.device, ctx := ctx, vid := fld g0 28 8, inc := fld g0 36 8 + 1, phys := none,
                 cross := decide (scope ≠ 0), host := false, applyAt := 0 } fence

def execSignalStep (s : State) : Host.Outcome State Fault Refusal := took s Device.signalStep

/-! ### Application, release and expiry (R209, R211 - R213, R218, R219) -/

/-- `n` added to the sum of tally `p`, for a signal of device `dev`. -/
def addSum (p n dev : Nat) : List (Nat × Nat × Nat) → List (Nat × Nat × Nat)
  | [] => [(p, n, dev)]
  | (q, m, e) :: l => if q = p then (q, m + n, dev) :: l else (q, m, e) :: addSum p n dev l

/-- Each due signal is refused by REMOTE_EN, unmapped, or added to the sum of its tally (R209, R211, R213). -/
def Device.collectSigs (d : Device) : List Sig → List (Nat × Nat × Nat) → Device × List (Nat × Nat × Nat)
  | [], acc => (d, acc)
  | g :: gs, acc =>
    if g.cross && !bit (d.ctx g.ctx 0) 6 then (d.bump Reg.tlyRemoteDropCnt 1).collectSigs gs acc
    else match d.resolveSig g with
      | none =>
        ((d.bump Reg.tlyUnmapCnt 1).tallyError 2 g.dev (if g.host then 0 else g.ctx) g.vid 0).collectSigs gs acc
      | some p => (d.bump Reg.tlySigCnt 1).collectSigs gs (addSum p g.inc g.dev acc)

/-- SIGNAL_APPLY: all signals of the next gcyc of application are added to their tallies, as one sum each (R213). `ecc`: what
SECDED found in W0 of the context records that they name, by context (R206). -/
def Device.applySignals (d : Device) (ecc : List (Fin 49152 × Bool)) : Device :=
  match d.lantern.sigs with
  | [] => d
  | g :: gs =>
    let at_ := gs.foldl (fun m x => min m x.applyAt) g.applyAt
    let d := d.advance at_
    let due := d.lantern.sigs.filter (fun x => decide (x.applyAt ≤ at_))
    let d := { d with lantern := { d.lantern with sigs := d.lantern.sigs.filter (fun x => decide (at_ < x.applyAt)) } }
    let d := (ecc.filter (fun e => due.any (fun x => x.phys.isNone && x.ctx == e.1.val))).foldl
      (fun d e => d.ctxEccs e.1.val false [(0, e.2)]) d
    let r := d.collectSigs due []
    r.2.foldl (fun d e => d.addTally e.1 e.2.1 e.2.2) r.1

def execSignalApply (s : State) (ecc : List (Fin 49152 × Bool) := []) : Host.Outcome State Fault Refusal :=
  took s (·.applySignals ecc)

/-- `l` without its first element that satisfies `f`, and that element. -/
def takeFirst {α : Type} (f : α → Bool) : List α → Option α × List α
  | [] => (none, [])
  | x :: l => if f x then (some x, l) else let r := takeFirst f l; (r.1, x :: r.2)

/-- FENCE_RELEASE: after the commit of gcyc c that met its fence, a parked signal is released in c + 1 and applied at c + 3
(R218). -/
def Device.releaseFence (d : Device) : Device :=
  match (takeFirst (fun p => p.metAt.isSome || d.fenceMet p) d.lantern.parked).1 with
  | none => d
  | some p =>
    let c := p.metAt.getD d.now
    let d := d.advance (c + 1)
    { d with lantern := { d.lantern with parked := (takeFirst (· == p) d.lantern.parked).2 } }.scheduleSig
      { p.sig with applyAt := max d.now (c + 3) }

def execFenceRelease (s : State) : Host.Outcome State Fault Refusal := took s Device.releaseFence

/-- The parked signal that expires first. -/
def firstExpiry : List Parked → Option Parked
  | [] => none
  | p :: ps => match firstExpiry ps with
    | none => some p
    | some q => if p.parkedAt + p.limit ≤ q.parkedAt + q.limit then some p else some q

/-- FENCE_EXPIRY: the parked signal whose limit passes first, if its fence is still unmet, is removed and faults the task
(R219). -/
def Device.expireFence (d : Device) : Device :=
  match firstExpiry (d.lantern.parked.filter (fun p => p.metAt.isNone && !d.fenceMet p)) with
  | none => d
  | some p =>
    let d := d.advance (p.parkedAt + p.limit)
    let d := { d with lantern := { d.lantern with parked := (takeFirst (· == p) d.lantern.parked).2 } }
    (d.bump Reg.tlyFenceExpCnt 1).fenceFault 0x12 4 p p.parkedAt

def execFenceExpiry (s : State) : Host.Outcome State Fault Refusal := took s Device.expireFence

end Sys2Proof.Machine
end

