-- ==== Sys2Proof/Machine/NetOps.lean ====
section
/-!
DEFINITION. What the targets of the system network share: packets on links, units for a read, late units, and reads and
writes at the HBM controllers (R230, R232, R260 - R270, R275 - R277).
-/
namespace Sys2Proof.Machine

open Sys2Proof

/-! ### Packets on links (R275 - R277, R322, R330) -/

/-- A packet queued for the free slots of link `l` (R330): its header with its check, then its data units. -/
def Device.sendPacket (d : Device) (l : Nat) (response : Bool) (header : Line) (us : List DUnit) : Device :=
  let fs := freshUnit header :: us
  let n := fs.length
  let flits := (List.range n).map (fun i =>
    { data := fs.getD i zeroUnit, vcr := response, head := i == 0, tail := i + 1 == n : NetFlit })
  { d with links := { d.links with dyn := mapPut [] d.links.dyn l (mapGet [] d.links.dyn l ++ flits) } }

/-- The unit that a consumer takes from a flit: poisoned units are zeros (R283). -/
def carried (u : DUnit) : DUnit := if u.pois then poisonUnit else u

/-! ### Cells in the spill area (R300, R303) -/

/-- The unit of a cell in slot `i` of the spill area, read by the queue manager within a command: while its write is on the
way it has what the write carries. -/
def Device.spilledUnit (d : Device) (i : Nat) (e : Ecc) : DUnit × Device :=
  let writes := d.net.txns.filter (fun t => t.purpose == .spill i && (t.phase == .waiting || t.phase == .sent))
  match writes.getLast?, d.hbmDecode (d.spillAddr i) with
  | some t, _ => (t.data.headD poisonUnit, d)
  | none, none => (poisonUnit, d.unmapped)
  | none, some r => d.directRead r.1 e e

/-- The data of a cell, wherever it lies, with what SECDED found (R303, R308): words of the pool are counted in the queue
manager's counters, and a cell that is POISON or has an uncorrectable word is poisoned zeros. -/
def Device.cellUnit (d : Device) (c : QCell) (e : Ecc) : DUnit × Device :=
  match c.spilled with
  | some i => d.spilledUnit i e
  | none =>
    let d := d.eccCount Reg.qmgCorrCnt Reg.qmgUncorrCnt e
    (if c.pois || e.bad != 0 then poisonUnit else { data := c.data, check := c.check, pois := false }, d)

/-! ### What a request brings or takes (R230, R232, R277) -/

/-- Units for a read, from index `i` on. -/
def Device.deliverAll (d : Device) (id i : Nat) : List DUnit → Device
  | [] => d
  | u :: us => (d.deliver id i u).deliverAll id (i + 1) us

/-- A target refuses a read: poisoned zero units and STATUS 0x1 (R277). -/
def Device.refuseRead (d : Device) (t : Txn) : Device :=
  ((d.bump Reg.errUncorrCnt t.len).mapTxn t.id (fun t => { t with status := 1 })).deliverAll t.id 0
    (List.replicate t.len poisonUnit)

/-! ### Reads of HBM (R260, R265, R269) -/

/-- A read of unit `u` for unit `i` of transaction `id` arrives at its controller, which compares it with its write queue in
its next clock (R265). -/
def Device.hbmRead (d : Device) (id i u : Nat) (sched : Bool) : Device :=
  let pk := u / pcUnits
  let x := d.pc pk
  let r : RdEntry :=
    { unit := u, txn := id, index := i, sched := sched, seq := d.hbm.seq, reread := false, data := zeroUnit }
  { d with hbm := { d.hbm with seq := d.hbm.seq + 1 } }.setPc pk { x with arriving := x.arriving ++ [r] }

/-- A read of a transaction's units at local HBM addresses `as`: where no enabled window covers one of them it is counted for
each such unit, and the read is refused (R260, R277). [DEDUCED, unsafe: notes/assumptions/159] -/
def Device.hbmReads (d : Device) (t : Txn) (as : List Nat) : Device :=
  let out := (as.filter (fun a => (d.hbmDecode a).isNone)).length
  if out = 0 then
    (as.filterMap d.hbmDecode).zipIdx.foldl (fun d e => d.hbmRead t.id e.2 e.1.1 t.sched) d
  else ((List.range out).foldl (fun d _ => d.unmapped) d).refuseRead t

/-! ### Writes of HBM (R264 - R267) -/

/-- Unit `e.index` of a write leaves the controller's input: late it is discarded, otherwise it is in the write queue. A
partial one is merged with the stored unit, read as R270 reads it (R230, R232, R264, R266, R267). The last unit of the write
to leave acknowledges it. -/
def Device.takeWrite (d : Device) (e : WrInput) : Device :=
  match d.txn e.txn with
  | none => d.queueWrite e.unit e.data e.be e.sched
  | some t =>
    let d :=
      if d.isLate t e.index then d.discardLate t e.index
      else if e.be = -1 then d.queueWrite e.unit e.data (-1) e.sched
      else
        let r := d.directRead e.unit e.ecc e.reread
        r.2.queueWrite e.unit (mergeUnit r.1 e.data e.be) e.be false
    let d := d.mapTxn e.txn (fun t => { t with todo := t.todo - 1 })
    if t.todo = 1 then d.respond e.txn t.status else d

/-- The first write at the input of a pseudo-channel whose part of the write queue has room. -/
def PseudoChannel.nextInput (x : PseudoChannel) : Option WrInput := x.input.find? (fun e => decide (0 < x.room e.sched))

/-- The write queue of pseudo-channel `pk` takes writes from the input while it has room, `fuel` of them at most (R264). -/
def Device.takeInputs (d : Device) (pk : Nat) : Nat → Device
  | 0 => d
  | fuel + 1 =>
    match (d.pc pk).nextInput with
    | none => d
    | some e =>
      ((d.setPc pk { d.pc pk with input := (d.pc pk).input.erase e }).takeWrite e).takeInputs pk fuel

/-- A write of a transaction's units to local HBM arrives: a unit that no enabled window covers is discarded and counted, the
others go to the inputs of their pseudo-channels, which take what they have room for (R260, R264). -/
def Device.hbmWrites (d : Device) (t : Txn) (a : Nat) (be : Word) (ecc reread : Ecc) : Device :=
  let units := (List.range t.data.length).map (fun i => (i, d.hbmDecode (a + 64 * i)))
  let out := (units.filter (fun e => e.2.isNone)).length
  let ins : List WrInput := units.filterMap (fun e => e.2.map (fun r =>
    { unit := r.1, data := t.data.getD e.1 poisonUnit, be := be, sched := t.sched, txn := t.id, index := e.1, ecc := ecc,
      reread := reread }))
  let d := (List.range out).foldl (fun d _ => d.unmapped) d
  let d := d.mapTxn t.id (fun t => { t with status := b2n (decide (out ≠ 0)), todo := ins.length, phase := .atTarget })
  if ins.isEmpty then d.respond t.id 1
  else
    let d := ins.foldl (fun d e =>
      let pk := e.unit / pcUnits
      d.setPc pk { d.pc pk with input := (d.pc pk).input ++ [e] }) d
    (ins.map (fun e => e.unit / pcUnits)).eraseDups.foldl (fun d pk => d.takeInputs pk (d.pc pk).input.length) d

end Sys2Proof.Machine
end

