-- ==== Sys2Proof/Machine/Multicast.lean ====
section
/-!
DEFINITION. Multicast groups: writes to a group's port, the copies offered to its outputs, and the detachment of an output
that does not accept them (R356 - R359).
-/
namespace Sys2Proof.Machine

open Sys2Proof

def Device.group (d : Device) (g : Nat) : Option McGroup := mapGet none d.cluster.groups g

/-- Output 64 of a group is its local queue, outputs 0-63 are links (R357). -/
def groupOutputs (x : McGroup) : List Nat := linksOf x.outMask ++ (if x.toQueue then [64] else [])

def Device.isDetached (d : Device) (g o : Nat) : Bool := d.cluster.detached.contains (128 * g + o)

def Device.setCopies (d : Device) (cs : List McCopy) : Device := { d with cluster := { d.cluster with copies := cs } }

/-- Copies held for group `g`, oldest first. -/
def Device.groupCopies (d : Device) (g : Nat) : List McCopy := d.cluster.copies.filter (fun c => c.group == g)

/-- The first copy of group `g` for which output `o` waits, changed by `f`. -/
def mapFirstWaiting (g o : Nat) (f : McCopy → McCopy) : List McCopy → List McCopy
  | [] => []
  | c :: cs => if c.group == g && c.waiting.contains o then f c :: cs else c :: mapFirstWaiting g o f cs

/-- Copies that every output has accepted leave, their writer is acknowledged, and the next copy comes to the head
(R357). -/
def Device.finishCopies (d : Device) : Device :=
  let done := d.cluster.copies.filter (·.waiting.isEmpty)
  let rest := d.cluster.copies.filter (fun c => !c.waiting.isEmpty)
  let heads := rest.map (fun c => if done.any (fun e => e.group == c.group) then { c with since := d.now } else c)
  let d := d.setCopies heads
  done.foldl (fun d c => match c.txn with
    | some t => d.respond t 0
    | none => d) d

/-- BAR0 offset of the multicast port of group `g` (R357). -/
def mcPort (g : Nat) : Nat := 0x910000 + 64 * g

/-- A copy for the member behind link `l`: a dynamic WRITE to the same port there (R357). -/
def Device.sendCopy (d : Device) (g l : Nat) (u : DUnit) : Device :=
  let peer := fld (d.reg (Reg.turLinkPeer l)) 0 10
  d.newTxn (8 + l / 8) false .write (.remote l peer (0x20000000000 + mcPort g)) 1 [u] 0 (.multicast g l)

/-- A group holds 32 units (R357). -/
def Device.groupFull (d : Device) (g : Nat) : Bool := decide (32 ≤ (d.groupCopies g).length)

/-- An accepted unit is held, and a copy offered to every attached output of its group (R357, R358). -/
def Device.offerCopy (d : Device) (c : McCopy) : Device :=
  match d.group c.group with
  | none => d
  | some x =>
    let att := (groupOutputs x).filter (fun o => !d.isDetached c.group o)
    let d := d.bump Reg.cluMcDropCnt ((groupOutputs x).length - att.length)
    let d := d.setCopies (d.cluster.copies ++ [{ c with waiting := att, since := d.now }])
    (att.filter (· < 64)).foldl (fun d l => d.sendCopy c.group l c.data) d

/-- Units that wait for room are accepted while there is some, those of one group in order. -/
def Device.admitCopies (d : Device) : Nat → Device
  | 0 => d
  | fuel + 1 =>
    match d.cluster.waits.find? (fun c => !d.groupFull c.group) with
    | none => d
    | some c => (({ d with cluster := { d.cluster with waits := d.cluster.waits.erase c } }.offerCopy c).finishCopies).admitCopies fuel

/--  [DEDUCED, unsafe: notes/assumptions/63] -/
def Device.settleCopies (d : Device) : Device := d.finishCopies.admitCopies d.cluster.waits.length

/-- Output `o` of group `g` accepts its oldest copy. -/
def Device.acceptCopy (d : Device) (g o : Nat) : Device :=
  (d.setCopies (mapFirstWaiting g o (fun c => { c with waiting := c.waiting.filter (· != o) }) d.cluster.copies)).settleCopies

/-- The queue has a free cell for a copy within its limit (R300, R357). -/
def Device.copyFits (d : Device) (q : Nat) : Bool :=
  let x := d.queue q
  let x := { x with cfgNow := x.cfg }
  !x.atLimit && decide (0 < d.poolFree)

/-- The local queue of each group takes its oldest waiting copy as a packet of one cell, while there is room: one copy a
group at a time (R357). -/
def Device.serveCopies (d : Device) : Device :=
  (List.range 256).foldl (fun d g =>
    match d.group g, d.cluster.copies.find? (fun c => c.group == g && c.waiting.contains 64) with
    | some x, some c =>
      if d.copyFits x.queue then (((d.startMarker x.queue 64 c.init).pushUnit x.queue c.data).acceptCopy g 64) else d
    | _, _ => d) d

/-- A write to the port of group `g` by initiator `init`, over link `link` or from this device (R357): discarded and
counted, or accepted and offered to every attached output. While the group holds 32 units it waits. -/
def Device.portWrite (d : Device) (g init : Nat) (link : Option Nat) (full : Bool) (u : DUnit) (txn : Option Nat) : Device :=
  let allowed := full && (d.group g).elim false (fun x =>
    x.en && (match link with
      | none => x.root
      | some l => !x.root && x.inLink == l))
  let c : McCopy := { group := g, data := carried u, waiting := [], since := d.now, init := init, txn := txn }
  if allowed = false then
    let d := d.bump Reg.cluMcBadwrCnt 1
    txn.elim d (fun t => d.respond t 0)
  else if d.groupFull g || d.cluster.waits.any (fun x => x.group == g) then
    { d with cluster := { d.cluster with waits := d.cluster.waits ++ [c] } }
  else (d.offerCopy c).settleCopies.serveCopies

def execMulticastPortWrite (group : Fin 256) (full : Bool) (data : Line) (ep : Bool) (s : State) :
    Host.Outcome State Fault Refusal :=
  took s (·.portWrite group 0x80 none full (if ep then poisonUnit else freshUnit data) none)

def Device.setDetachedBit (d : Device) (g : Nat) : Device := d.setF (Reg.cluMcDetached (g / 64)) (g % 64) 1 1

/-- The copies of group `g` for output `o` are dropped and counted (R358). -/
def Device.dropCopies (d : Device) (g o : Nat) : Device :=
  let n := (d.cluster.copies.filter (fun c => c.group == g && c.waiting.contains o)).length
  let d := d.setCopies (d.cluster.copies.map (fun c =>
    if c.group == g then { c with waiting := c.waiting.filter (· != o) } else c))
  let d := { d with net := { d.net with txns := d.net.txns.map (fun (t : Txn) =>
    if t.purpose = NetFor.multicast g o then { t with purpose := .nobody } else t) } }
  (d.bump Reg.cluMcDropCnt n).settleCopies

/-- OUTPUT_DETACH: output `o` has not accepted the copy at the head of group `g` for CLU_MC_CTL.LIMIT gcyc (R358). -/
def Device.detachOutput (d : Device) (g o : Nat) : Device :=
  match (d.groupCopies g).head? with
  | none => d
  | some c =>
    if c.waiting.contains o = false then d
    else
      let d := d.advance (c.since + d.regF Reg.cluMcCtl 0 24)
      let d := { d with cluster := { d.cluster with detached := d.cluster.detached ++ [128 * g + o] } }
      let d := ((d.bump Reg.cluMcDetachCnt 1).setDetachedBit g).dropCopies g o
      if o = 64 then d.markPoison 53 else d.sendControl o 0x18 [g]

def execOutputDetach (group : Fin 256) (output : Fin 65) (s : State) : Host.Outcome State Fault Refusal :=
  took s (·.detachOutput group output)

/-- MC_DETACH: the parent has detached this member from the group (R358). -/
def Device.detachedBy (d : Device) (g : Nat) : Device := (d.markPoison 53).setDetachedBit g

def execMcDetach (group : Fin 256) (s : State) : Host.Outcome State Fault Refusal := took s (·.detachedBy group)

/-- A write of CLU_MC_ATTACH: every detached output of the group on this member is attached again (R358, R360).
[DEDUCED, unsafe: notes/assumptions/62] -/
def Device.attach (d : Device) (w : BitVec 32) : Device :=
  if bit w 31 = false then d
  else
    let g := fld w 0 8
    let d := { d with cluster := { d.cluster with detached := d.cluster.detached.filter (fun n => n / 128 != g) } }
    d.setF (Reg.cluMcDetached (g / 64)) (g % 64) 1 0

def execCluMcAttach (data : BitVec 32) (s : State) : Host.Outcome State Fault Refusal := took s (·.attach data)

end Sys2Proof.Machine
end

