-- ==== Sys2Proof/Machine/Streams.lean ====
section
/-!
DEFINITION. Stream threads at work: the STREAM step, requests, translation walks, what comes back to a thread, drains, stops
and faults (R223 - R252).
-/
namespace Sys2Proof.Machine

open Sys2Proof

/-- The PASID that requests for the running task carry (R363). -/
def Device.runPasid (d : Device) : Option Nat :=
  (d.lantern.run.bind (fun r => d.task r.task)).bind (fun t => if t.remote then none else d.pasid t.ring)

/-! ### Faults (R248, R249) -/

/-- The first stream fault of a task: the thread is FAULTED, the fault is counted and the task ended. Later ones change
nothing (R248). -/
def Device.streamFault (d : Device) (tk : Nat) (f : StreamFault) : Device :=
  if d.lantern.run.elim true (·.streamFault) then d
  else
    let d := d.mapRun (fun r => { r with streamFault := true })
    let d := d.bump (if f.kind = 0x21 then Reg.stePgfaultCnt (tk / 256) else Reg.steCplFaultCnt (tk / 256)) 1
    let d := (d.mapThread tk (fun x => { x with fault := some f, walk := none, inbox := [] })).setThreadState tk 5
    d.faultTask d.now

/-! ### Starting a thread (R218, R228, R236, R243) -/

/-- The index that the thread takes at its stamp (R228): none where no good cell lies at QPOS. -/
def Device.streamIndex (d : Device) (r : Run) (e : List Word) (ecc : Ecc) : Option Nat × Device :=
  let sel := fld (wd e 0) 26 4
  let m := fld (wd e 0) 48 16
  let cut := fun v => if m = 0 then v else v % m
  match fld (wd e 0) 24 2 with
  | 1 => (some (cut (d.tally (16 * r.bank + sel))), d)
  | 2 =>
    let x := d.queue (d.ctxQueue r.ctx)
    let pos := (d.reg (Reg.ctxW4 r.ctx)).toNat
    match if pos < x.head then [] else x.cells.drop (pos - x.head) with
    | [] => (none, d)
    | c :: _ =>
      let r := d.cellUnit c ecc
      if r.1.pois then (none, r.2) else (some (cut (fld r.1.data (32 * sel) 32)), r.2)
  | _ => (some 0, d)

/-- The stream fault record of thread `tk` (R251). -/
def Device.streamRecord (d : Device) (tk : Nat) (x : Thread) (f : StreamFault) : Device :=
  let n := f.unit
  let e := x.desc
  d.faultRecord f.kind tk
    [(8, tk / 256), (10, tk % 256), (18, f.cause), (22, f.level), (24, b2n f.dst), (25, b2n f.dst), (26, x.func)]
    (BitVec.ofNat 64 f.addr)
    (mkWord [(0, unitIndex e n 1), (16, unitIndex e n 2), (32, unitIndex e n 3), (48, unitIndex e n 4)])
    (mkWord [(0, unitIndex e n 5), (16, n % runUnits e)])
    (BitVec.ofNat 64 (64 * x.committed)) (BitVec.ofNat 64 n) f.gcyc f.entry

/-- No issued write of a stopped thread remains, or no request of a faulted one (R243, R248). -/
def Thread.mayFinish (x : Thread) : Bool :=
  (x.stop.isSome || x.fault.isSome) && decide (x.writes = 0) &&
    (x.stop.isSome || (decide (x.reqs = 0) && x.outbox.isEmpty))

/-- A thread has finished (R243, R248): units that it has not committed count as a stop, and a faulted thread writes its
record. `here`: the number has not been started anew, and shows STOPPED. -/
def Device.finish (d : Device) (tk : Nat) (x : Thread) (here : Bool) : Device :=
  let short := decide (x.committed < totalUnits x.desc)
  let d := if short then d.bump (Reg.steStopCnt (tk / 256)) 1 else d
  let d := if short && x.stop == some .endOrStep then d.markOwner x 52 else d
  match x.fault with
  | some f => d.streamRecord tk x f
  | none => if here then d.setThreadState tk 4 else d

/-- A STREAM step names thread `tk`: if it is neither IDLE nor DONE it is stopped. Finished by then it is judged at once, and
otherwise when its writes have committed (R243). -/
def Device.replaceOld (d : Device) (tk : Nat) : Device :=
  match d.thread tk with
  | none => d
  | some x =>
    let d := d.setThread tk none
    if d.threadState tk = 0 ∨ d.threadState tk = 3 then d
    else
      let x := if x.stop.isSome then x else x.halted .endOrStep
      if x.mayFinish then d.finish tk x false
      else { d with streams := { d.streams with left := d.streams.left ++ [(tk, x)] } }

/-- Thread `tk` begins to walk descriptor `e` with index `v` at `stamp` (R223, R228, R236). -/
def Device.startThread (d : Device) (tk stamp f v : Nat) (e : List Word) : Device :=
  let dim := fld (wd e 0) 30 3
  let base := fun (i : Nat) (kind : Nat) => if kind = 2 then fld (wd e i) 14 26 else (wd e i).toNat
  let src : Int := base 1 (srcKind e) + (if bit (wd e 0) 33 ∧ v ≠ 0 then (v : Int) * srcStride e dim else 0)
  let dst : Int := base 2 (dstKind e) + (if bit (wd e 0) 34 ∧ v ≠ 0 then (v : Int) * dstStride e dim else 0)
  let w := wd e 2
  let ring := decide (dstKind e = 2) && !regionResident (d.region (fld w 0 12))
  let x : Thread :=
    { desc := e, stamp := stamp, func := f, srcBase := src, dstBase := dst, next := 0, reqs := 0, committed := 0,
      settled := 0, writes := 0,
      credits := if ring then some (regionLines (d.region (fld w 0 12))) else if dstKind e = 5 then some 0 else none,
      walk := none, outbox := [], inbox := [], offered := 0, onward := 0, early := [], pktEnd := none, stop := none,
      fault := none, draining := false }
  let d := if ring then d.resetQuarter (fld w 12 2) (fld w 0 12) (some (tk, stamp)) else d
  let d := (d.setReg (threadReg tk) 0).setThreadState tk 1
  (d.setThread tk (some x)).sendCredit tk

/-- STREAM_STEP: the thread named by the step starts on its descriptor, or enters STOPPED for want of an index
(R179, R228). [DEDUCED, unsafe: notes/assumptions/36] -/
def Device.streamStep (d : Device) (ecc : Ecc) : Device :=
  match d.nextStep 2 with
  | none => d
  | some (r, s1, stamp) =>
    let d := d.issueStep stamp
    let tk := 256 * fld s1 0 2 + fld s1 2 8
    let e := d.schedWords (128 * fld s1 10 22) 16
    let d := d.replaceOld tk
    match d.streamIndex r e ecc with
    | (some v, d) => d.startThread tk stamp (d.ctxFunc r.ctx) v e
    | (none, d) => (((d.setReg (threadReg tk) 0).setThreadState tk 4).bump (Reg.steStopCnt (tk / 256)) 1).markPoison 52

def execStreamStep (ecc : Ecc) (s : State) : Host.Outcome State Fault Refusal := took s (·.streamStep ecc)

/-! ### Requests (R231, R233) -/

/-- Credits of a thread for its next units (R231). A LINK thread that fills a queue has the cells that it has offered to its
feeder. -/
def Device.creditsOf (d : Device) (k : Nat) (x : Thread) : Nat :=
  match d.endTarget k x true x.next with
  | some (.queue q) => if srcKind x.desc = 4 then x.offered - x.next else d.queueCredits q
  | _ => x.credits.getD 32

/-- Units, up to `n`, of a thread from unit `u` on that are available at gcyc `g` (R230). -/
def Thread.availUnits (x : Thread) (g u : Nat) : Nat → Nat
  | 0 => 0
  | n + 1 => if x.avail u ≤ g then x.availUnits g (u + 1) n + 1 else 0

/-- Units up to the next 64 KiB boundary of a DVA endpoint (R231). -/
def dvaUnits (kind a : Nat) : Nat := if kind = 1 then (65536 - a % 65536) / 64 else 32

/-- The most units that the next request of a thread may carry at gcyc `g` (R231). -/
def Device.requestMax (d : Device) (k : Nat) (x : Thread) (g units : Nat) : Nat :=
  let n := [units, 32, runUnits x.desc - x.next % runUnits x.desc, totalUnits x.desc - x.next, d.creditsOf k x,
    dvaUnits (srcKind x.desc) (x.srcAddr x.next), dvaUnits (dstKind x.desc) (x.dstAddr x.next),
    if srcKind x.desc = 4 then x.inbox.length else 32].foldl min 32
  x.availUnits g x.next n

/-- The thread may issue a request of its class at gcyc `g` (R231). -/
def Device.ready (d : Device) (tk cls g units : Nat) : Bool :=
  match d.thread tk with
  | none => false
  | some x =>
    (decide (d.threadState tk = 1) || (decide (d.threadState tk = 2) && x.draining)) && x.stop.isNone && x.fault.isNone &&
      x.walk.isNone && decide (x.reqs < 64) && decide (x.next < totalUnits x.desc) && decide (wheelClass x.desc = cls) &&
      decide (1 ≤ d.requestMax (tk / 256) x g units)

/-- The first system-network clock from now on in which the issue port of engine `k` is free in a slot of the class
(R233, R234). -/
def Device.portClock (d : Device) (k cls : Nat) : Option Nat :=
  let c := max (2 * d.now) (mapGet 0 d.streams.port k)
  ((List.range 16).find? (fun i => fld (d.reg (Reg.steWheel k)) (2 * ((c + i) % 16)) 2 == cls)).map (c + ·)

/-- The first ready thread of the class after the one served last, in ascending number, wrapping (R233). -/
def Device.pickThread (d : Device) (k cls g units : Nat) : Option Nat :=
  let last := (mapGet none d.streams.served (4 * k + cls)).elim 0 (· + 1)
  ((List.range 256).map (fun i => 256 * k + (last + i) % 256)).find? (fun tk => d.ready tk cls g units)

/-- The first system-network clock from now on in which the issue port of engine `k` is free for dynamic traffic: in a slot of
code 0b11, or of a class with no ready thread (R233). -/
def Device.dynamicClock (d : Device) (k : Nat) : Option Nat :=
  let c := max (2 * d.now) (mapGet 0 d.streams.port k)
  ((List.range 16).find? (fun i =>
    let cls := fld (d.reg (Reg.steWheel k)) (2 * ((c + i) % 16)) 2
    cls == 3 || (d.pickThread k cls ((c + i) / 2) 32).isNone)).map (c + ·)

/-- The issue port of engine `k` is taken in a clock. -/
def Device.takePort (d : Device) (k clock : Nat) : Device :=
  { d with streams := { d.streams with port := mapPut 0 d.streams.port k (clock + 1) } }

/-! ### Units that reach a thread and go on (R226, R230, R243, R250) -/

/-- One request of thread `tk`, started at `stamp`, is over. -/
def Device.requestOver (d : Device) (tk stamp : Nat) : Device := d.mapThreadOf tk stamp (fun x => { x with reqs := x.reqs - 1 })

/-- A unit as thread `tk` takes it (R250). -/
def Device.takeUnit (d : Device) (tk : Nat) (x : Thread) (u : DUnit) : DUnit × Device :=
  if u.pois then (poisonUnit, if d.ownThread x then d.markConsumed else d)
  else if unitOk u then (u, d)
  else (poisonUnit, (d.uncorrected (Reg.steChkCnt (tk / 256))).markOwner x 49)

/-- Units as thread `tk` takes them. -/
def Device.takeUnits (d : Device) (tk : Nat) (x : Thread) : List DUnit → List DUnit × Device
  | [] => ([], d)
  | u :: us =>
    let r := d.takeUnit tk x u
    let q := r.2.takeUnits tk x us
    (r.1 :: q.1, q.2)

/-- Units from unit `n` on go to the thread's destination: to its outbox for a PEER, otherwise as a write. -/
def Device.forward (d : Device) (tk n stamp : Nat) (us : List DUnit) (dst : NetTarget) : Device :=
  match dst with
  | .peer => d.mapThreadOf tk stamp (fun x => { x with
      outbox := x.outbox ++ (List.range us.length).map (fun i => (n + i, us.getD i poisonUnit)) })
  | _ => (d.mapThreadOf tk stamp (fun x => { x with writes := x.writes + 1 })).newTxn (tk / 256) true .write dst us.length us 0
      (.thread tk n stamp dst)

/-- A destination that takes units in order n: units that come back ahead wait for their turn (R227). -/
def inOrder : NetTarget → Bool
  | .queue _ => true
  | .peer => true
  | _ => false

/-- Read data that is ahead goes on as far as its turn has come, `fuel` reads at most. -/
def Device.sendOn (d : Device) (tk stamp : Nat) (dst : NetTarget) : Nat → Device
  | 0 => d
  | fuel + 1 =>
    match (d.threadOf tk stamp).bind (fun x => (x.early.find? (fun e => e.1 == x.onward)).map (fun e => (x, e))) with
    | none => d
    | some (x, e) =>
      let d := d.mapThreadOf tk stamp (fun x => { x with onward := e.1 + e.2.1, early := x.early.erase e })
      (if e.2.2.isEmpty then d else d.forward tk x.onward stamp e.2.2 dst).sendOn tk stamp dst fuel

/-- `count` units from unit `n` on go on, in order where the destination asks for it; none for a read that has failed
(R227, R249). -/
def Device.passOn (d : Device) (tk n count stamp : Nat) (us : List DUnit) (dst : NetTarget) : Device :=
  if inOrder dst then
    (d.mapThreadOf tk stamp (fun x => { x with early := x.early ++ [(n, count, us)] })).sendOn tk stamp dst
      ((d.threadOf tk stamp).elim 0 (fun x => x.early.length) + 1)
  else if us.isEmpty then d
  else d.forward tk n stamp us dst

/-- Read data from unit `n` on has come back to thread `tk`: after a stop it is dropped (R243). `last`: the request is over.
A request to a target in the device is over with its write; one to a PEER when its data is there. -/
def Device.threadData (d : Device) (tk n stamp : Nat) (dst : NetTarget) (us : List DUnit) (refused last : Bool) : Device :=
  match d.threadOf tk stamp with
  | none => d
  | some x =>
    let over_ := fun (d : Device) => if last then d.requestOver tk stamp else d
    if x.stop.isSome then over_ d
    else
      let d := if refused then d.markOwner x 49 else d
      let r := d.takeUnits tk x us
      let d := r.2.passOn tk n us.length stamp r.1 dst
      if dst = .peer then over_ d else d

/-- A read of thread `tk` from unit `n` on has failed, and its data is dropped (R248, R249). -/
def Device.threadLost (d : Device) (tk n count stamp : Nat) (dst : NetTarget) : Device :=
  let d := d.requestOver tk stamp
  if (d.threadOf tk stamp).elim true (·.stop.isSome) then d else d.passOn tk n count stamp [] dst

/-- A host read of thread `tk` from unit `n` on ends with a timeout or an unsuccessful status: a fault of the thread that
issued it, unless that has been stopped or replaced (R243, R249). -/
def Device.threadFails (d : Device) (tk n count stamp : Nat) (dst : NetTarget) (f : StreamFault) : Device :=
  let live := (d.thread tk).elim false (fun x => x.stamp == stamp && x.stop.isNone) && d.ownStamp stamp
  let d := d.threadLost tk n count stamp dst
  if live then d.streamFault tk f else d

/-- A write of thread `tk` is acknowledged (R230, R277): its units, but the late ones, are committed. -/
def Device.threadAck (d : Device) (tk stamp good : Nat) (refused : Bool) : Device :=
  match d.threadOf tk stamp with
  | none => d
  | some x =>
    let d := if refused then d.markOwner x 49 else d
    let d := (List.range good).foldl (fun d _ => d.commitUnit tk stamp) d
    d.mapThreadOf tk stamp (fun x => { x with reqs := x.reqs - 1, writes := x.writes - 1 })

/-- A unit for LINK thread `tk` comes over a link (R226, R250): it waits for the thread's request, or is dropped.
[DEDUCED, unsafe: notes/assumptions/46] -/
def Device.linkDeliver (d : Device) (tk : Nat) (u : DUnit) : Device :=
  match d.thread tk with
  | some x =>
    if d.threadState tk = 1 ∧ srcKind x.desc = 4 ∧ x.stop.isNone = true ∧ x.next + x.inbox.length < totalUnits x.desc then
      d.setThread tk (some { x with inbox := x.inbox ++ [u] })
    else (d.bump (Reg.steLinkDropCnt (tk / 256)) 1).markPoison 50
  | none => (d.bump (Reg.steLinkDropCnt (tk / 256)) 1).markPoison 50

/-! ### The issue of a request (R231, R247) -/

/-- The next request of thread `tk` goes out, or waits for a translation. A LINK thread takes the units that have come. -/
def Device.issueRequest (d : Device) (tk cls clock units : Nat) : Device :=
  match d.thread tk with
  | none => d
  | some x =>
    let k := tk / 256
    let miss := fun (dst : Bool) =>
      (d.bump (Reg.steXlatMissCnt k) 1).setThread tk (some { x with
        walk := some { addr := (if dst then x.dstAddr x.next else x.srcAddr x.next) % 2 ^ 48, dst := dst, unit := x.next,
                       level := 0, table := fld (d.reg (Reg.stePtroot x.func)) 12 27 * 4096, read := true,
                       write := true } })
    match d.endTarget k x false x.next, d.endTarget k x true x.next with
    | none, _ => miss false
    | some _, none => miss true
    | some src, some dst =>
      let n := d.requestMax k x d.now units
      let link := decide (srcKind x.desc = 4)
      let y := { x with
        next := x.next + n, reqs := x.reqs + 1, credits := x.credits.map (· - n),
        inbox := if link then x.inbox.drop n else x.inbox }
      let d := d.setThread tk (some y)
      let d := if y.next = totalUnits x.desc then d.setThreadState tk 2 else d
      let d := { d with streams := { d.streams with served := mapPut none d.streams.served (4 * k + cls) (some (tk % 256)) } }
      let d := d.takePort k clock
      if link then d.threadData tk x.next x.stamp dst (x.inbox.take n) false true
      else d.newTxn k true .read src n [] 0 (.thread tk x.next x.stamp dst)

/-- STREAM_REQUEST_ISSUE: in the next slot of the class, the port of the engine serves the next ready thread. -/
def Device.streamIssue (d : Device) (k cls units : Nat) : Device :=
  match d.portClock k cls with
  | none => d
  | some c =>
    match d.pickThread k cls (c / 2) units with
    | none => d
    | some tk => (d.advance (c / 2)).issueRequest tk cls c units

def execStreamRequestIssue (engine cls : Fin 4) (units : Nat) (s : State) : Host.Outcome State Fault Refusal :=
  took s (·.streamIssue engine cls units)

/-! ### Translation walks (R244 - R248) -/

/-- First DVA bit, entries as a power of two, and page size of a leaf at each level (R245). -/
def levelShift (l : Nat) : Nat := if l = 0 then 39 else if l = 1 then 30 else if l = 2 then 21 else 16

/-- Cause of a fault at an entry of level `l`, the lowest that applies (R246, R248).
[DEDUCED, unsafe: notes/assumptions/43] -/
def entryCause (l : Nat) (e : Word) (r w write : Bool) : Option Nat :=
  let leaf := bit e 1
  let a := fld e 8 44 * 256
  let space := fld e 62 2
  let size := 2 ^ levelShift l
  if bit e 0 = false then some 1
  else if (if write then w else r) = false then some 2
  else if fld e 4 4 ≠ 0 ∨ fld e 52 10 ≠ 0 then some 3
  else if a % (if leaf && decide (2 ≤ l) then size else if l = 2 then 256 else 4096) ≠ 0 then some 4
  else if (leaf && decide (l < 2)) || (!leaf && decide (l = 3)) || (!leaf && decide (space ≠ 0)) || (leaf && decide (2 ≤ space))
    then some 5
  else if leaf && decide (space = 0) && decide (432 * 2 ^ 30 < a + size) then some 6
  else none

/-- How a walk ends: with a translation, or with a fault as CAUSE, LEVEL and the entry. -/
inductive WalkEnd
  | page (e : TlbEntry)
  | fault (cause level : Nat) (entry : Word)
  deriving DecidableEq, Repr

/-- One read of a walk by engine `k` at local HBM address `a` (R233, R247, R260, R277, R279, R289, R291): a dynamic read that
takes a slot of the engine's port and tokens of its bucket, and is over when its clocks have passed. -/
def Device.walkRead (d : Device) (k a clock : Nat) (w : WalkRead) : DUnit × Device :=
  let d := d.advance (max (clock / 2) (d.injectAt k 64))
  let c := max clock (2 * d.now)
  let d := ((d.takePort k c).takeTokens k 64).advance ((c + w.clocks + 1) / 2)
  let r := match d.hbmDecode a with
    | none => (poisonUnit, d.unmapped.bump Reg.errUncorrCnt 1)
    | some (u, _) => d.directRead u w.ecc w.reread
  (r.1, (r.2.statMoved k 64 1).statLatency k w.clocks)

/-- How a walk goes on: it waits for a slot of the port, or it has ended. -/
inductive WalkStep
  | waits (q : WalkReq)
  | ended (e : WalkEnd)
  deriving DecidableEq, Repr

/-- The walk `q` of function `f` for a thread of engine `k`, from the level that it has reached on (R244 - R248). -/
def Device.walkFrom (d : Device) (k f : Nat) (q : WalkReq) : Nat → List WalkRead → WalkStep × Device
  | 0, _ => (.ended (.fault 5 3 0), d)
  | fuel + 1, reads =>
    match d.dynamicClock k with
    | none => (.waits q, d)
    | some clock =>
      let l := q.level
      let at_ := q.table + 8 * (q.addr / 2 ^ levelShift l % (if l = 3 then 32 else 512))
      let x := d.walkRead k at_ clock (reads.headD { ecc := .clean, reread := .clean, clocks := 0 })
      if x.1.pois || !unitOk x.1 then (.ended (.fault 7 l 0), x.2)
      else
        let e : Word := BitVec.ofNat 64 (fld x.1.data (8 * ((x.2.hbmDecode at_).elim 0 (·.2))) 64)
        let r := q.read && bit e 2
        let w := q.write && bit e 3
        match entryCause l e r w q.dst with
        | some c => (.ended (.fault c l e), x.2)
        | none =>
          if bit e 1 then
            (.ended (.page
              { func := f, page := q.addr / 2 ^ levelShift l * 2 ^ levelShift l, size := 2 ^ levelShift l,
                target := fld e 8 44 * 256, host := decide (fld e 62 2 = 1), read := r, write := w }), x.2)
          else x.2.walkFrom k f { q with level := l + 1, table := fld e 8 44 * 256, read := r, write := w } fuel (reads.drop 1)

/-- TRANSLATION_WALK: the walk that a thread waits for completes with a translation, kept among the engine's 2,048, or with
a fault. [DESIGN CHOICE, unsafe: notes/assumptions/44] -/
def Device.walk (d : Device) (tk : Nat) (reads : List WalkRead) : Device :=
  match (d.thread tk).bind (fun x => x.walk.map (fun q => (x, q))) with
  | none => d
  | some (x, q) =>
    let k := tk / 256
    let res := if d.regBit (Reg.stePtroot x.func) 63 then d.walkFrom k x.func q (4 - q.level) reads
      else (WalkStep.ended (.fault 8 0 0), d)
    let over_ := res.2.mapThread tk (fun x => { x with walk := none })
    match res.1 with
    | .waits q => res.2.mapThread tk (fun x => { x with walk := some q })
    | .ended (.page e) =>
      { over_ with streams := { over_.streams with
        tlb := mapPut [] over_.streams.tlb k ((e :: mapGet [] over_.streams.tlb k).take 2048) } }
    | .ended (.fault c l e) =>
      over_.streamFault tk { kind := 0x21, cause := c, level := l, dst := q.dst, addr := q.addr, unit := q.unit,
                             gcyc := over_.now, entry := e }

def execTranslationWalk (engine : Fin 4) (thread : Fin 256) (reads : List WalkRead) (s : State) :
    Host.Outcome State Fault Refusal := took s (·.walk (256 * engine + thread) reads)

/-- A write of STE_TLB_INV with GO = 1 (R247, R254): one that comes while another is in progress is carried out with it. -/
def Device.tlbInv (d : Device) (w : Word) : Device :=
  if bit w 63 = false then d
  else ({ d with streams := { d.streams with inval := d.streams.inval ++ [w] } }).setF Reg.steTlbStatus 0 1 1

def execSteTlbInv (data : Word) (s : State) : Host.Outcome State Fault Refusal := took s (·.tlbInv data)

/-- An invalidation names a translation (R254). -/
def invalidates (w : Word) (e : TlbEntry) : Bool :=
  let a := fld w 16 32 * 65536
  e.func == fld w 56 6 && (bit w 62 || (decide (e.page ≤ a) && decide (a < e.page + e.size)))

/-- TLB_INVALIDATION_COMPLETE: the translations named by the invalidations in progress are gone from every engine. -/
def Device.tlbInvDone (d : Device) : Device :=
  if d.streams.inval.isEmpty then d
  else
    let keep := fun (e : TlbEntry) => !d.streams.inval.any (fun w => invalidates w e)
    let t := (List.range 4).foldl (fun t k => mapPut [] t k ((mapGet [] t k).filter keep)) d.streams.tlb
    ({ d with streams := { d.streams with inval := [], tlb := t } }).setF Reg.steTlbStatus 0 1 0

def execTlbInvalidationComplete (s : State) : Host.Outcome State Fault Refusal := took s Device.tlbInvDone

/-! ### Drains, completion and stops (R241, R243) -/

/-- Thread `tk` begins a full drain, if it is RUNNING or DRAINING (R241): its limit is a gcyc in which the drain counts as late
unless it has ended. -/
def Device.beginDrain (d : Device) (tk : Nat) : Device :=
  match d.thread tk with
  | none => d
  | some x =>
    if d.threadState tk = 1 ∨ d.threadState tk = 2 then
      ((d.setThread tk (some { x with draining := true })).setThreadState tk 2).dueAt (x.drainLimit + 1) (.drain tk x.stamp)
    else d

/-- LAYER_DRAIN: at the next drain point the named threads begin a full drain. -/
def Device.layerDrain (d : Device) : Device :=
  match d.streams.drains with
  | [] => d
  | (g, tks) :: rest =>
    let d := d.advance g
    tks.foldl Device.beginDrain { d with streams := { d.streams with drains := rest } }

def execLayerDrain (s : State) : Host.Outcome State Fault Refusal := took s Device.layerDrain

/-- The drain of thread `tk`, started at `stamp`, has ended in DONE: its limit is no more. -/
def Device.drainOver (d : Device) (tk stamp : Nat) : Device :=
  { d with lantern := { d.lantern with dues := d.lantern.dues.filter (fun u => u.act != .drain tk stamp) } }

/-- THREAD_DONE: every unit is committed or discarded; a drain resets the ring quarter (R224, R241). -/
def Device.threadDone (d : Device) (tk : Nat) : Device :=
  match d.thread tk with
  | none => d
  | some x =>
    if d.threadState tk ≠ 2 ∨ x.stop.isSome = true ∨ x.settled < totalUnits x.desc then d
    else
      let d := d.drainOver tk x.stamp
      let w := wd x.desc 2
      let ring := decide (dstKind x.desc = 2) && !regionResident (d.region (fld w 0 12))
      let d := if x.draining && ring then d.resetQuarter (fld w 12 2) (fld w 0 12) none else d
      d.setThreadState tk 3

def execThreadDone (engine : Fin 4) (thread : Fin 256) (s : State) : Host.Outcome State Fault Refusal :=
  took s (·.threadDone (256 * engine + thread))

/-- THREAD_FINISHED: a stopped or faulted thread has finished; one that the number has left behind comes first. -/
def Device.threadFinished (d : Device) (tk : Nat) : Device :=
  match d.streams.left.find? (fun e => e.1 == tk && decide (e.2.writes = 0)) with
  | some e => ({ d with streams := { d.streams with left := d.streams.left.erase e } }).finish tk e.2 false
  | none =>
    match d.thread tk with
    | none => d
    | some x => if x.mayFinish then (d.finish tk x true).setThread tk none else d

def execThreadFinished (engine : Fin 4) (thread : Fin 256) (s : State) : Host.Outcome State Fault Refusal :=
  took s (·.threadFinished (256 * engine + thread))

end Sys2Proof.Machine
end

