-- ==== Sys2Proof/Machine/LinkOps.lean ====
section
/-!
DEFINITION. The states of the Lomion links and what follows from a change of state: fitness for the cluster, frequency
discipline and the end of keep-alive (R314 - R320, R335, R343).
-/
namespace Sys2Proof.Machine

open Sys2Proof

def Device.link (d : Device) (n : Nat) : Link := mapGet Link.initial d.links.link n

def Device.mapLink (d : Device) (n : Nat) (f : Link → Link) : Device :=
  { d with links := { d.links with link := mapPut Link.initial d.links.link n (f (d.link n)) } }

/-- TUR_LINK_STATUS.STATE (R314): 0 DOWN, 1 DETECT, 2 TRAIN, 3 LOCK, 4 EXCHANGE, 5 ACTIVE, 6 TEST. -/
def Device.linkState (d : Device) (n : Nat) : Nat := d.regF (Reg.turLinkStatus n) 0 4

/-- DEGRADED or MISMATCH (R319). -/
def Device.linkUnfit (d : Device) (n : Nat) : Bool :=
  d.regBit (Reg.turLinkStatus n) 51 || d.regBit (Reg.turLinkStatus n) 50

/-- The link carries scheduled traffic (R334). -/
def Device.carriesScheduled (d : Device) (n : Nat) : Bool := decide (d.linkState n = 5) && !d.linkUnfit n

/-- Frame length F in gcyc and bytes of all lanes in one gcyc, r (R312, R320). -/
def Device.frameLen (d : Device) (n : Nat) : Nat := if (d.link n).gen2 then 170 else 340
def Device.frameRate (d : Device) (n : Nat) : Nat := if (d.link n).gen2 then 56 else 28

/-- gcyc at which slot `k` of frame `f` begins on the transmitting lanes (R320). -/
def Device.slotBegin (d : Device) (n f k : Nat) : Nat :=
  f * d.frameLen n + (48 + 296 * k + d.frameRate n - 1) / d.frameRate n

/-- A(f, k) with one-way latency `owl` (R320). -/
def Device.arrival (d : Device) (n owl f k : Nat) : Nat :=
  f * d.frameLen n + owl + (48 + 296 * (k + 1) + d.frameRate n - 1) / d.frameRate n

/-- D, the frames until a replay (R317). -/
def Device.replayFrames (d : Device) (n : Nat) : Nat := d.regF (Reg.turLinkStatus n) 53 3

/-- CLU_STATUS.FREQ (R343) and CLU_STATUS.ALIGN (R344 - R346). -/
def Device.freq (d : Device) : Nat := d.regF Reg.cluStatus 2 3
def Device.alignState (d : Device) : Nat := d.regF Reg.cluStatus 5 2

/-- The entry of the membership that names link `n` (R319). -/
def Device.linkEntry (d : Device) (n : Nat) : Option LinkEntry :=
  d.cluster.member.bind (fun m => m.entries.find? (fun e => e.link == n))

/-- D as R317 computes it, before it is limited to 4. -/
def Device.wantedFrames (d : Device) (n : Nat) : Nat := ((d.link n).rtt + 12 + d.frameLen n - 1) / d.frameLen n

/-- MISMATCH and DEGRADED of an ACTIVE link that the membership names (R319). -/
def Device.judgeLink (d : Device) (n : Nat) : Device :=
  match d.linkState n, d.linkEntry n with
  | 5, some e =>
    let p := d.reg (Reg.turLinkPeer n)
    let st := d.reg (Reg.turLinkStatus n)
    let mismatch := decide (fld p 0 10 ≠ e.peer) || decide (fld p 32 32 ≠ e.cluster) ||
      decide (d.regF (Reg.turLinkPeerEpoch n) 0 32 ≠ e.epoch) || !bit p 19
    let degraded := decide (fld st 46 2 ≠ e.gen) || decide (fld st 44 2 ≠ e.width) || decide (fld st 43 1 ≠ e.fec) ||
      decide (e.owl < fld st 24 12) || decide (4 < d.wantedFrames n)
    d.setFs (Reg.turLinkStatus n) [(50, 1, b2n mismatch), (51, 1, b2n degraded)]
  | _, _ => d.setF (Reg.turLinkStatus n) 50 2 0

/-- Every link is judged again, when a schedule plane is loaded (R319). -/
def Device.judgeLinks (d : Device) : Device := (List.range 64).foldl (fun d n => d.judgeLink n) d

/-- The alignment handshake with the child behind link `n` begins: ALIGN, whose T1 is filled in as it is sent (R344). -/
def Device.sendAlign (d : Device) (n : Nat) : Device := d.sendControl n 0x10 [0]

/-- This device is ALIGNED and link `n` leads to a child (R340, R344). [DEDUCED, unsafe: notes/assumptions/77] -/
def Device.alignsChild (d : Device) (n : Nat) : Bool :=
  decide (d.alignState = 1) && d.cluster.member.elim false (fun m => bit m.down n) && decide (d.linkState n = 5)

/-- Handshakes with every child whose link is ACTIVE begin (R344, R346). -/
def Device.alignChildren (d : Device) : Device :=
  let d := (List.range 64).foldl (fun d n => if d.alignsChild n then d.sendAlign n else d) d
  { d with cluster := { d.cluster with lastCheck := d.now } }

/-- Link `n` is the member's UP_LINK (R340). -/
def Device.isUpLink (d : Device) (n : Nat) : Bool :=
  d.cluster.member.elim false (fun m => m.device != m.master && m.upLink == n)

/-- Link `n` is in state `st`. A link that leaves ACTIVE drops what it held, is neither DEGRADED nor MISMATCH and shows no D;
DOWN and DETECT show no generation and no width, and the next training is at Lomion-1 (R314, R317 - R319). -/
def Device.toLinkState (d : Device) (n st : Nat) : Device :=
  let d := if d.linkState n = 5 ∧ st ≠ 5 then
      let d := d.setFs (Reg.turLinkStatus n) [(48, 1, 0), (50, 2, 0), (53, 3, 0)]
      let d := { d with links := { d.links with
        asm := mapPut [] (mapPut [] d.links.asm (2 * n) []) (2 * n + 1) [] } }
      d.mapLink n (fun x => { x with sent := [], naks := [], nakTx := none, bad := [], badFrames := [], held := [] })
    else d
  let d := d.setF (Reg.turLinkStatus n) 0 4 st
  if st ≤ 1 then (d.setF (Reg.turLinkStatus n) 44 4 0).mapLink n (fun x => { x with gen2 := false })
  else if st = 4 then
    d.mapLink n (fun x => { x with last := none, same := 0, echoed := false, sentTs := [], ts := none })
  else d

/-- Link `n` becomes ACTIVE (R317): it is judged, an UP_LINK disciplines the reference PLL (R343), and an aligned parent
begins a handshake with its child (R344). -/
def Device.activate (d : Device) (n : Nat) : Device :=
  let d := (d.toLinkState n 5).judgeLink n
  let d := if d.isUpLink n && d.cluster.member.elim false (·.freqSrc) && (decide (d.freq = 0) || decide (d.freq = 3)) then
      d.setF Reg.cluStatus 2 3 1
    else d
  if d.alignsChild n then d.sendAlign n else d

/-- A DOWN link with EN = 1 enters DETECT, but not in Standby (R314, R335). -/
def Device.startLink (d : Device) (n : Nat) : Device :=
  if d.linkState n = 0 ∧ d.regBit (Reg.turLinkCtl n) 31 = true ∧ d.power ≠ 3 ∧ d.power ≠ 5 then d.toLinkState n 1 else d

/-- Link bring-up begins (R457, R461). -/
def Device.startLinks (d : Device) : Device := (List.range 64).foldl (fun d n => d.startLink n) d

/-- On entry to Standby every link goes to DOWN (R335). -/
def Device.downLinks (d : Device) : Device := (List.range 64).foldl (fun d n => d.toLinkState n 0) d

/-- In Cold an ACTIVE link is in keep-alive, until the return from it (R335). -/
def Device.keepAlive (d : Device) (on : Bool) : Device :=
  (List.range 64).foldl
    (fun d n => d.setF (Reg.turLinkStatus n) 48 1 (b2n (on && decide (d.linkState n = 5)))) d

end Sys2Proof.Machine
end

