-- ==== Sys2Proof/Machine/LoadOps.lean ====
section
/-!
DEFINITION. A configuration load's source bytes, and how a load ends with an error (R408, R410, R413, R422, R423).
-/
namespace Sys2Proof.Machine

open Sys2Proof

/-- BODY_LEN and BLOCKS of the header of a load (R411); bytes of block `b` (R413). -/
def Load.bodyLen (l : Load) : Nat := fld (wordAt l.header 4) 0 48
def Load.blocks (l : Load) : Nat := fld (wordAt l.header 5) 0 32
def Load.blockLen (l : Load) (b : Nat) : Nat := min 65536 (l.bodyLen - 65536 * b)

/-- Byte of the bitstream at which the packet to be processed begins (R413). [DEDUCED, unsafe: notes/assumptions/110] -/
def Load.offset (l : Load) : Nat := if l.accepted then 128 + l.done + 16 * (l.done / 65536) else 0

def Device.mapLoad (d : Device) (f : Load → Load) : Device := { d with load := d.load.map f }

/-- CFG_STATUS.STATE (R430). -/
def Device.cfgState (d : Device) : Nat := d.regF Reg.cfgStatus 0 4
def Device.setCfgState (d : Device) (x : Nat) : Device := d.setF Reg.cfgStatus 0 4 x

/-- CFG_STATUS.STAGE, HELD, SCHED_VALID and DOME_VALID. -/
def Device.setStage (d : Device) (x : Nat) : Device := d.setF Reg.cfgStatus 16 4 x

/-- The CDONE stage has been reached: CDONE would be released (R424). -/
def Device.cdoneDue (d : Device) : Bool := d.cfgState == 3 || d.cfgState == 4 || d.cfgState == 7

def Device.setHeld (d : Device) (b : Bool) : Device := d.setF Reg.cfgStatus 12 1 (b2n b)
def Device.setSchedValid (d : Device) (b : Bool) : Device := d.setF Reg.cfgStatus 6 1 (b2n b)
def Device.setDomeValid (d : Device) (b : Bool) : Device := d.setF Reg.cfgStatus 5 1 (b2n b)

/-- LNT_SLOT_VALID of a slot, and of all. -/
def Device.setSlotValid (d : Device) (s : Nat) (b : Bool) : Device := d.setF (Reg.lntSlotValid (s / 64)) (s % 64) 1 (b2n b)
def Device.dropSlots (d : Device) : Device := (List.range 16).foldl (fun d k => d.setReg (Reg.lntSlotValid k) 0) d

/-- The first error of a load is recorded (R422, R430). -/
def Device.loadError (d : Device) (code : Nat) : Device :=
  match d.load with
  | none => d
  | some l =>
    if d.regBit Reg.cfgErr 63 then d
    else
      (d.setReg Reg.cfgErr (mkWord [(63, 1), (48, code), (0, l.offset)])).setReg Reg.cfgErrLoc
        (mkWord [(50, l.openRegion.getD 0), (40, l.openSlot.getD 0), (0, l.faddr.toNat)])

/-- No load is in progress any more. -/
def Device.closeLoad (d : Device) : Device := { (d.setF Reg.cfgStatus 4 1 0).setHeld false with load := none }

/-- Accepted tasks that have not started and satisfy `p` end REFUSED (R183, R423). [DEDUCED, unsafe: notes/assumptions/42] -/
def Device.refuseWhere (d : Device) (p : Task → Bool) : Device :=
  let ts := d.lantern.tasks.filter (fun t =>
    (t.state == .queued || t.state == .waiting || t.state == .ready) && !t.remote && p t)
  let d := ts.foldl (fun d t => d.recordUnstarted t 0xC (d.now + 2)) d
  if ts.isEmpty then d else d.rearmIdle (d.now + 2)

/-- The rewrite of slot `s` has ended, with the slot valid or not: tasks that wait on an invalid one end REFUSED (R182). -/
def Device.slotRewritten (d : Device) (s : Nat) (ok : Bool) : Device :=
  let d := { d with lantern := { d.lantern with rewriting := d.lantern.rewriting.filter (fun x => x != s) } }
  if ok then (d.setSlotValid s true).noteEval (fun t => t.slot == s) (d.now + 1)
  else (d.setSlotValid s false).refuseWhere (fun t => t.slot == s && t.state != .queued)

/-- The fabric's outputs are held off, its isolators engaged and its writes and resets held (R396, R401, R406, R423). -/
def Device.fabricOff (d : Device) : Device :=
  let d := ((d.setReg Reg.cfgRegionValid 0).setReg Reg.cfgFabApStatus 0).setF Reg.cfgFabBankStatus 8 4 0
  let d := (List.range 16).foldl (fun d l => d.setReg (Reg.cfgFabLaneStatus l) 0) d
  { d with fabric := Fabric.initial }

/-- What a load of a kind leaves when it ends with an error (R423): after a FULL load outputs are held off, CDONE is low and every
Spire in MAINT, however far start-up had come. -/
def Device.failedKind (d : Device) (l : Load) (code : Nat) : Device :=
  match l.kind with
  | 1 =>
    let d := { d.fabricOff with maintCfg := true, belfry := { d.belfry with cdoneLow := true } }
    ((d.setCfgState (if code = 0x15 ∨ code = 0x16 then 5 else 6)).dropSlots).refuseWhere (fun _ => true)
  | 2 => (d.setCfgState 4).refuseWhere (fun _ => true)
  | 4 => l.openSlot.elim (d.setCfgState 4) (fun s => (d.setCfgState 4).slotRewritten s false)
  | _ => d.setCfgState 4

/-- The load in progress ends with an error. Before its header is accepted, and while it is held, it leaves the device as
it was (R410, R412, R423). [DEDUCED, unsafe: notes/assumptions/106] -/
def Device.loadFail (d : Device) (code : Nat) : Device :=
  match d.load with
  | none => d
  | some l =>
    match l.phase with
    | .refused => d.closeLoad
    | .header => (d.loadError code).closeLoad
    | .held => (((d.loadError code).bump Reg.cfgLoadFailCnt 1).closeLoad).setCfgState l.before
    | _ => (((d.loadError code).bump Reg.cfgLoadFailCnt 1).closeLoad).failedKind l code

/-- Source bytes that the load still needs for its header or its next block. -/
def Load.need (l : Load) : Nat :=
  match l.phase with
  | .header => 128 - l.buf.length
  | .body => if l.block < l.blocks then l.blockLen l.block + 16 - l.buf.length else 0
  | _ => 0

/-- The engine reads on: up to 32 units, one read at a time. A source that has no more bytes ends the load as incomplete.
[DEDUCED, unsafe: notes/assumptions/109] -/
def Device.loadFetch (d : Device) : Device :=
  match d.load with
  | none => d
  | some l =>
    if 2 ≤ l.src ∨ l.reading.isSome = true ∨ l.need = 0 then d
    else if l.len ≤ l.asked then d.loadFail 0x15
    else
      let a := l.addr + l.asked
      let off := a % 64
      let n := min (min l.need (l.len - l.asked)) (2048 - off)
      let units := (off + n + 63) / 64
      let id := d.net.nextId
      let d := d.mapLoad (fun l => { l with asked := l.asked + n, reading := some id, waitFrom := d.now })
      d.newTxn 6 false .read (if l.src = 0 then .host 0 (a - off) else .mem (a - off)) units [] 0 (.load off n)

/-- Source bytes arrive. A read refused, failed or with poisoned data ends the load (R408). -/
def Device.loadData (d : Device) (id : Nat) (us : List DUnit) (status off n : Nat) : Device :=
  match d.load with
  | none => d
  | some l =>
    if l.reading ≠ some id then d
    else
      let d := d.mapLoad (fun l => { l with reading := none })
      if status ≠ 0 ∨ us.any (fun u => u.pois || !unitOk u) = true then d.loadFail 0x17
      else
        let bs := (((us.map (fun u => lineBytes u.data)).flatten).drop off).take n
        (d.mapLoad (fun l => { l with buf := l.buf ++ bs, waitFrom := d.now })).loadFetch

end Sys2Proof.Machine
end

