-- ==== Sys2Proof/Machine/Network.lean ====
section
/-!
DEFINITION. The system network's commands: requests at their targets, responses at their initiators, injection, timeouts,
regulators, statistics and edge gateways (R274 - R294).
-/
namespace Sys2Proof.Machine

open Sys2Proof

/-- What SECDED found in item `i` of an access: clean unless named. -/
def eccAt (l : List (Nat × Ecc)) (i : Nat) : Ecc := (l.lookup i).getD .clean

/-- A packet whose header fails at a router or interface is discarded (R284); only the timeout ends its transaction. -/
def Device.loseTxn (d : Device) (id : Nat) (p : Packet) : Device :=
  ((d.bump Reg.sncHdrDropCnt 1).dropPacket p).mapTxn id (fun t => { t with phase := .lost })

/-! ### The arrival of packets (R274, R282) -/

/-- Time passes until packet `p` has come to the end of its way, `fuel` gcyc at most. -/
def Device.arriveBy (d : Device) (p : Packet) : Nat → Device
  | 0 => d
  | fuel + 1 => if d.travels p && d.netRuns then (d.advance (d.now + 1)).arriveBy p fuel else d

/-- gcyc that a command of an arrival waits for its packet at most. -/
def arrivalFuel : Nat := 4096

/-- Packets on one way arrive in the order of their injection (R282). -/
def Way.same (a b : Way) : Bool := a.vc == b.vc && a.lane == b.lane && a.dest == b.dest && a.port == b.port

/-- Request `u` was injected before request `t` on its way and has not arrived (R282). -/
def Device.requestBefore (d : Device) (t u : Txn) : Bool :=
  u.phase == .sent && u.init == t.init &&
    (decide (u.sentAt < t.sentAt) || (u.sentAt == t.sentAt && decide (u.id < t.id))) && (d.requestWay u).same (d.requestWay t)

/-- Response `u` was injected before response `t` on its way and has not been taken. -/
def Device.responseBefore (d : Device) (t u : Txn) : Bool :=
  u.phase == .responded && u.init == t.init && decide (u.rank < t.rank) && (d.responseWay u).same (d.responseWay t)

/-- The request of transaction `id` arrives, in its turn: what its target does with it. -/
def Device.onRequest (d : Device) (id : Nat) (f : Device → Txn → Device) : Device :=
  let d := d.arriveBy (.request id) arrivalFuel
  match d.txn id with
  | none => d
  | some t => if d.travels (.request id) || d.net.txns.any (d.requestBefore t) then d else f d t

/-- The response to transaction `id` arrives, in its turn: what its initiator does with it. -/
def Device.onResponse (d : Device) (id : Nat) (f : Device → Txn → Device) : Device :=
  let d := d.arriveBy (.response id) arrivalFuel
  match d.txn id with
  | none => d
  | some t => if d.travels (.response id) || d.net.txns.any (d.responseBefore t) then d else f d t

/-! ### Tile store behind the gateways (R117, R288) -/

/-- The Dome is free and in Run. -/
def Device.domeOpen (d : Device) : Bool := d.lantern.run.isNone && decide (d.power = 0) && decide (d.lantern.domeFree ≤ d.now)

/-- First line of the tile stores that a local address names. -/
def tileAddrLine (a : Nat) : Nat := (a - 0x10000000000) / 64

/-- A read of tile-store lines from line `l` on. -/
def Device.readTiles (d : Device) (t : Txn) (l : Nat) (ecc : List (Nat × Ecc)) : Device :=
  (List.range t.len).foldl (fun d i => let r := d.domeRead (l + i) (eccAt ecc i); r.2.deliver t.id i r.1) d

/-- A write of tile-store lines from line `l` on; a partial one is merged with what a read of the line finds. -/
def Device.writeTiles (d : Device) (t : Txn) (l : Nat) (ecc : List (Nat × Ecc)) : Device :=
  let d := (List.range t.data.length).foldl (fun d i =>
    let u := t.data.getD i poisonUnit
    if t.cmd = .partialWrite then
      let r := d.domeRead (l + i) (eccAt ecc i)
      r.2.domeWrite (l + i) (mergeUnit r.1 u t.be)
    else d.domeWrite (l + i) u) d
  d.respond t.id 0

/-- A dynamic tile-store request is served. -/
def Device.serveTile (d : Device) (t : Txn) (l : Nat) (ecc : List (Nat × Ecc)) : Device :=
  if t.cmd = .read then d.readTiles t l ecc else d.writeTiles t l ecc

/-- A dynamic tile-store request reaches its gateway (R288): served when the Dome is free and in Run, otherwise held, with a
wake asked for when the Dome is free and gated. [DEDUCED, unsafe: notes/assumptions/54] -/
def Device.gateway (d : Device) (t : Txn) (l : Nat) (ecc : List (Nat × Ecc)) : Device :=
  if d.domeOpen then d.serveTile t l ecc
  else
    let d := (d.bump Reg.sncGwHoldCnt 1).mapTxn t.id (fun t => { t with phase := .held })
    if d.lantern.run.isNone then d.requestWake true else d

/-- GATEWAY_HOLD_RELEASE: a held request is served once the Dome is free and in Run; a free, gated Dome is asked to wake. -/
def Device.gatewayRelease (d : Device) (id : Nat) (ecc : List (Nat × Ecc)) : Device :=
  match d.txn id with
  | none => d
  | some t =>
    if t.phase ≠ .held then d
    else match t.target with
      | .mem a =>
        if d.domeOpen then d.serveTile t (tileAddrLine a) ecc
        else if d.lantern.run.isNone ∧ d.power ≠ 0 then d.requestWake true else d
      | _ => d

def execGatewayHoldRelease (txn : Nat) (ecc : List (Nat × Ecc)) (s : State) : Host.Outcome State Fault Refusal :=
  took s (·.gatewayRelease txn ecc)

/-! ### Tile paths of stream threads (R118, R226, R286) -/

/-- Unit `i` of a stream thread's read of tile-store line `l`, or of its write there with `u`: on the path of the Spire, one
unit a dclk from the next dclk of the Dome on. [DEDUCED, unsafe: notes/assumptions/173] -/
def Device.pathUnit (d : Device) (id i l : Nat) (u : Option DUnit) (ecc : Ecc) : DomeUnit :=
  let n := l / 2048
  let at_ := max (4 * d.now) d.dome.head + i
  match u with
  | none =>
    let r := hopsFrom n at_ none (Config.readPath d.cfgMem n)
    { src := .line l, read := at_, write := r.2, dst := .gate id i, hops := r.1, lost := false, data := none, ecc := ecc }
  | some _ =>
    let way := Config.writePath d.cfgMem n
    let r := hopsFrom way.1 at_ none way.2
    { src := .gate, read := at_, write := r.2, dst := .line l (some (id, i)), hops := r.1, lost := false, data := u, ecc := ecc }

/-- The units of a transaction go on their paths. -/
def Device.sendPaths (d : Device) (us : List DomeUnit) : Device := { d with dome := { d.dome with units := d.dome.units ++ us } }

/-- A stream thread's read of tile-store lines from `l` on. -/
def Device.readPaths (d : Device) (t : Txn) (l : Nat) (ecc : List (Nat × Ecc)) : Device :=
  (d.sendPaths ((List.range t.len).map (fun i => d.pathUnit t.id i (l + i) none (eccAt ecc i)))).mapTxn t.id
    (fun t => { t with phase := .atTarget })

/-- A stream thread's write of tile-store lines from `l` on. -/
def Device.writePaths (d : Device) (t : Txn) (l : Nat) : Device :=
  (d.sendPaths (t.data.zipIdx.map (fun u => d.pathUnit t.id u.2 (l + u.2) (some u.1) .clean))).mapTxn t.id
    (fun t => { t with phase := .atTarget, todo := t.data.length })

/-! ### Registers reached over the network (R404, R501) -/

/-- The enabled bytes of a unit, in ascending order (R298). -/
def enabledBytes (u : DUnit) (be : Word) : List Byte :=
  ((List.range 64).filter (fun i => bit be i)).map (fun i => (lineBytes u.data).getD i 0)

/-- A write of QMG_SOP by initiator `init` (R297, R310). [DEDUCED, unsafe: notes/assumptions/31] -/
def Device.sopWrite (d : Device) (w : Word) (init : Nat) : Device :=
  if bit w 63 then d.startMarker (fld w 0 16) (fld w 16 21) init else d

/-- Offsets of the registers of R404. -/
def openRegister (o : Nat) : Bool :=
  decide (Reg.qmgSop ≤ o ∧ o < Reg.qmgSop + 8) || decide (0x480000 ≤ o ∧ o < 0x500000) ||
    decide (Reg.tlyHostSig ≤ o ∧ o < Reg.tlyHostSig + 8) || decide (0x910000 ≤ o ∧ o < 0x914000)

/-- The link over which a request came, if it did. -/
def Txn.link (t : Txn) : Option Nat := match t.purpose with
  | .remote l _ => some l
  | _ => none

/-- What an access point or a remote device writes to a push port (R298): the units of a WRITE one after the other, or the
enabled bytes of a WRITE_PARTIAL. -/
def Device.pushWrite (d : Device) (q : Nat) (t : Txn) (be : Word) : Device :=
  let u := t.data.headD poisonUnit
  if be = -1 then t.data.foldl (fun d u => d.pushUnit q u) d
  else if u.pois then d.pushBytes q (enabledBytes u be) true
  else if unitOk u then d.pushBytes q (enabledBytes u be) false
  else (d.uncorrected Reg.qmgChkCnt).pushBytes q (enabledBytes u be) true

/-- A write to register space at BAR0 offset `off` by an access point or a remote device (R404): the first enabled byte names
the register. A multicast port takes single whole units, and answers for itself when its copies are accepted (R357). -/
def Device.regSpaceWrite (d : Device) (t : Txn) (off : Nat) : Device :=
  let u := t.data.headD poisonUnit
  let be : Word := if t.cmd = .write then -1 else t.be
  let first := ((List.range 64).find? (fun i => bit be i)).getD 0
  let o := off + first
  let word := BitVec.ofNat 64 (fld u.data (8 * first) 64)
  let whole8 := decide (fld be first 8 = 255)
  if openRegister o = false then d.respond t.id 1
  else if 0x910000 ≤ o ∧ o < 0x914000 then
    d.portWrite ((o - 0x910000) / 64) t.init t.link (be == -1 && decide (off % 64 = 0) && decide (t.data.length ≤ 1)) u (some t.id)
  else
    let d := if 0x480000 ≤ o then
        if o < 0x500000 then d.pushWrite ((o - 0x480000) / 8) t be
        else if u.pois || !whole8 then d else d.hostSig word
      else if u.pois || !whole8 then d else d.sopWrite word t.init
    d.respond t.id 0

/-! ### Reads at their targets (R226, R277) -/

/-- The thread that waits for a read takes data: it has not been stopped, and is still known. -/
def Device.liveReader (d : Device) (t : Txn) : Bool :=
  match t.purpose with
  | .thread tk _ stamp _ => (d.threadOf tk stamp).elim false (·.stop.isNone)
  | _ => false

/-- The cell of unit `i` of a thread's read has been taken (R303): its data goes to the read, from the pool at once, from the
spill area when the queue manager's read of HBM has come back (R300). -/
def Device.giveCell (d : Device) (id i : Nat) (c : QCell) (e : Ecc) : Device :=
  match c.spilled with
  | some slot => d.newTxn 5 false .read (.mem (d.spillAddr slot)) 1 [] 0 (.spillRead id i)
  | none =>
    let r := d.cellUnit c e
    (if e.bad = 0 then r.2 else r.2.markPoison 49).deliver id i r.1

/-- Cells of queue `q` for the units of a thread's read from index `i` on, as far as they are linked (R302, R303). -/
def Device.readCells (d : Device) (id tk stamp q : Nat) (ecc : List (Nat × Ecc)) : Nat → Nat → Device
  | 0, _ => d
  | n + 1, i =>
    match d.threadOf tk stamp with
    | none => d
    | some x =>
      let next := fun (d : Device) => (d.mapTxn id (fun t => { t with todo := i + 1 }))
      match x.pktEnd with
      | some true => ((((next d).bump Reg.errUncorrCnt 1).markOwner x 49).deliver id i poisonUnit).readCells id tk stamp q ecc n (i + 1)
      | some false => ((next d).deliver id i zeroUnit).readCells id tk stamp q ecc n (i + 1)
      | none =>
        match d.takeCell q with
        | (none, _) => d
        | (some c, d) =>
          let d := next d
          let d := if c.eop then d.mapThreadOf tk stamp (fun x => { x with pktEnd := some c.trunc }) else d
          (d.giveCell id i c (eccAt ecc i)).readCells id tk stamp q ecc n (i + 1)

/-- An earlier read of the same queue, of a thread that goes on, has not taken all its cells (R302). -/
def Device.queueBusy (d : Device) (t : Txn) (q : Nat) : Bool :=
  d.net.txns.any (fun (u : Txn) => decide (u.id < t.id) && u.cmd == .read && u.target == .queue q &&
    (u.phase == .sent || u.phase == .atTarget) && decide (u.todo < u.len) && d.liveReader u)

/-- Units of a stream-cache quarter (R235 - R237). -/
def Device.readQuarter (d : Device) (t : Txn) (k r off : Nat) (ring : Bool) (ecc : List (Nat × Ecc)) : Device :=
  let n := max 1 (regionLines (d.region r))
  (List.range t.len).foldl (fun d i =>
    let x := if ring then d.takeRing k r (eccAt ecc i)
      else d.readCacheLine (d.quarterLine k r ((off / 64 + i) % n)) (eccAt ecc i)
    x.2.deliver t.id i x.1) d

/-- A host read of a thread or an access point goes out, or fails at once (R249, R379). -/
def Device.readHost (d : Device) (t : Txn) (f a : Nat) : Device :=
  let r := d.hostRead f (if t.sched then d.runPasid else none) a (64 * t.len) (.txn t.id)
  if r.2 then r.1
  else match t.purpose with
    | .thread tk n stamp dst =>
      (r.1.dropTxn t.id).threadFails tk n t.len stamp dst { kind := 0x23, cause := 0, level := 0, dst := false, addr := 2 ^ 62 + a, unit := n,
                                                            gcyc := d.now, entry := 0 }
    | _ => r.1.refuseRead t

/-- The user side of an access point is active (R406). -/
def Device.apActive (d : Device) (a : Nat) : Bool := d.regBit Reg.cfgFabApStatus a

/-- A read of the fabric user window reaches access point `ap` (R405): an active one offers it to user logic, which answers
in a command of its own; any other answers 0 at once. -/
def Device.userRead (d : Device) (t : Txn) (ap off : Nat) : Device :=
  if d.apActive ap then d.emit (.userRequest ap off false [] 0xFF)
  else d.deliverAll t.id 0 [zeroUnit]

/-- A write of the fabric user window: offered to user logic, or discarded (R405). -/
def Device.userWrite (d : Device) (t : Txn) (ap off : Nat) : Device :=
  let d := if d.apActive ap then
      d.emit (.userRequest ap off true ((lineBytes (t.data.headD zeroUnit).data).take 8) (fld t.be 0 8))
    else d
  d.respond t.id 0

/-- The header of a packet that leaves on link `l` (R276, R502): DEST and PORT are those of an interface of the other device. -/
def linkHeader (l cmd len init tag addr : Nat) (be : Word) (args : List Word) : Line :=
  headerLine (Config.headerRoute l % 256) 0 (Config.headerRoute l / 1024 % 4) cmd len init tag addr be args

/-- A READ is served by its target; `ecc`: what SECDED found in its units. -/
def Device.serveRead (d : Device) (t : Txn) (ecc : List (Nat × Ecc)) : Device :=
  let d := d.mapTxn t.id (fun t => { t with phase := .atTarget })
  match t.target with
  | .mem a =>
    match localSpace a with
    | .hbm a => d.hbmReads t ((List.range t.len).map (fun i => a + 64 * i))
    | .tile l => d.gateway t l ecc
    | .regs o => if openRegister o then d.deliverAll t.id 0 (List.replicate t.len zeroUnit) else d.refuseRead t
    | .nowhere => d.refuseRead t
  | .cache k r _ off ring => d.readQuarter t k r off ring ecc
  | .queue q =>
    match t.purpose with
    | .thread tk _ stamp _ =>
      if d.liveReader t = false then d.deliverAll t.id 0 (List.replicate t.len zeroUnit)
      else if d.queueBusy t q then d
      else d.readCells t.id tk stamp q ecc (t.len - t.todo) t.todo
    | _ => d.refuseRead t
  | .host f a => d.readHost t f a
  | .remote l dev a =>
    d.sendPacket l false (linkHeader l 1 t.len t.init t.id (2 ^ 63 + 2 ^ 52 * dev + a) 0 []) []
  | .tile a => d.readPaths t (tileAddrLine a) ecc
  | .user ap off => d.userRead t ap off
  | .peer => d

/-- READ: a read packet reaches its target, or its header fails on the way. A read of a queue goes on when further cells
have been linked. [DEDUCED, unsafe: notes/assumptions/51] -/
def Device.netRead (d : Device) (id : Nat) (ok : Bool) (ecc : List (Nat × Ecc)) : Device :=
  match d.txn id with
  | none => d
  | some t =>
    if t.cmd ≠ .read then d
    else match t.phase, t.target with
      | .sent, _ => if ok then d.onRequest id (fun d t => d.serveRead t ecc) else d.loseTxn id (.request id)
      | .atTarget, .queue _ => d.serveRead t ecc
      | _, _ => d

def execNetRead (txn : Nat) (headerOk : Bool) (ecc : List (Nat × Ecc)) (s : State) : Host.Outcome State Fault Refusal :=
  took s (·.netRead txn headerOk ecc)

/-! ### Read data at its initiator (R277, R365, R403) -/

/-- The answer to a BAR2 read (R365, R472): poisoned or failing data becomes zeros with EP set. -/
def Device.answerHost (d : Device) (tag off len : Nat) (us : List DUnit) : Device :=
  let bad := us.any (fun u => u.pois || !unitOk u)
  let bytes := ((us.map (fun u => lineBytes u.data)).flatten.drop off).take len
  if bad then (d.bump Reg.hifPoisCplCnt 1).emit (.completion tag 0 (List.replicate len 0) true)
  else d.emit (.completion tag 0 bytes false)

/-- A unit as an access point delivers it to user logic (R403). -/
def userUnit (u : DUnit) : DUnit := if u.pois || !unitOk u then poisonUnit else u

/-- A unit enters the prefetch area, and the oldest leaves a full one (R235, R240). -/
def Device.keepPrefetched (d : Device) (u : Nat) (x : DUnit) : Device :=
  let rest := d.streams.prefetched.filter (fun e => e.1 != u)
  { d with streams := { d.streams with prefetched := ((u, x) :: rest).take 65536 } }

/-- A read is over: its units go to what asked for them (R277). -/
def Device.finishRead (d : Device) (t : Txn) (us : List DUnit) (status : Nat) : Device :=
  let d := d.dropTxn t.id
  match t.purpose with
  | .thread tk n stamp dst => d.threadData tk (n + t.passed) stamp dst (us.drop t.passed) (decide (status ≠ 0)) true
  | .bar2 _ tag off len => d.answerHost tag off len us
  | .prefetch a =>
    match d.hbmDecode a, us with
    | some r, u :: _ => if status = 0 then d.keepPrefetched r.1 u else d
    | _, _ => d
  | .spillRead id i => d.deliver id i (us.headD poisonUnit)
  | .spill _ => d
  | .accessPoint ap tag => if d.apActive ap then d.emit (.userData ap tag status (us.map userUnit)) else d
  | .remote l tag => d.sendPacket l true (linkHeader l 2 us.length t.init tag 0 0 [BitVec.ofNat 64 status]) us
  | .load off n => d.loadData t.id us status off n
  | .multicast _ _ => d
  | .nobody => d

/-- Latency and volume are measured when the response has come (R291): not for a transaction that its interface has completed,
nor for one of another device. [DEDUCED, unsafe: notes/assumptions/164] -/
def Device.measure (d : Device) (t : Txn) (units : Nat) : Device :=
  match t.purpose with
  | .nobody => d
  | .remote _ _ => d
  | _ => (d.statMoved t.init (64 * units) units).statLatency t.init (t.backAt.getD (2 * d.now) - t.sentAt)

/-- Units of a queue read that are there go on before the response is complete: cells reach their thread as they are linked
(R301). [DEDUCED, unsafe: notes/assumptions/165] -/
def Device.passCells (d : Device) (t : Txn) : Device :=
  let there := ((List.range (t.len - t.passed)).map (fun i => mapGet none t.got (t.passed + i))).takeWhile (·.isSome)
  match t.purpose with
  | .thread tk n stamp dst =>
    if there.isEmpty then d
    else
      let d := d.mapTxn t.id (fun t => { t with passed := t.passed + there.length })
      d.threadData tk (n + t.passed) stamp dst (there.map (·.getD poisonUnit)) false false
  | _ => d

/-- READ_DATA: a response reaches its initiator, or its header fails on the way. -/
def Device.netReadData (d : Device) (id : Nat) (ok : Bool) : Device :=
  match d.txn id with
  | none => d
  | some t =>
    if t.cmd ≠ .read then d
    else match t.phase, t.target with
      | .responded, _ =>
        if ok then d.onResponse id (fun d t => (d.measure t t.len).finishRead t t.units t.status) else d.loseTxn id (.response id)
      | .atTarget, .queue _ => if ok then d.passCells t else d
      | _, _ => d

def execNetReadData (txn : Nat) (headerOk : Bool) (s : State) : Host.Outcome State Fault Refusal :=
  took s (·.netReadData txn headerOk)

/-! ### Writes at their targets (R230, R232, R277) -/

/-- Each unit of a write is written by `f` unless it is late, and the write is acknowledged. -/
def Device.writeUnits (d : Device) (t : Txn) (f : Device → Nat → DUnit → Device) : Device :=
  let d := (List.range t.data.length).foldl (fun d i =>
    if d.isLate t i then d.discardLate t i else f d i (t.data.getD i poisonUnit)) d
  d.respond t.id 0

/-- First unit number of a thread's write. -/
def Txn.first (t : Txn) : Nat := match t.purpose with
  | .thread _ n _ _ => n
  | _ => 0

/-- A unit for a line of a stream-cache quarter (R236, R237). -/
def Device.writeQuarter (d : Device) (k r n off i : Nat) (ring : Bool) (u : DUnit) : Device :=
  let l := max 1 (regionLines (d.region r))
  if ring then
    let q := (d.quarter k r).getD { wr := 0, rd := 0, writer := none }
    let d := d.setQuarter k r (some { q with wr := n + i + 1 })
    d.writeCacheLine (d.quarterLine k r ((n + i) % l)) (carried u) (some ((n + i) / l % 256))
  else d.writeCacheLine (d.quarterLine k r ((off / 64 + i) % l)) (carried u) none

/-- A thread's write to queue `q` brings the start marker with unit 0, whether or not that unit is late (R232, R297). -/
def Device.threadMarker (d : Device) (t : Txn) (q : Nat) : Device :=
  match t.purpose with
  | .thread tk 0 stamp _ =>
    (d.threadOf tk stamp).elim d (fun x => d.startMarker q (64 * totalUnits x.desc) (tk / 256))
  | _ => d

/-- A unit, or the enabled bytes of one, written to host memory (R379, R472): a unit that is poisoned or fails its check is
sent as zeros with EP set; a discarded write marks the task. -/
def Device.writeHost (d : Device) (t : Txn) (f a : Nat) (u : DUnit) (be : Word) : Device :=
  let bad := u.pois || !unitOk u
  let d := if bad then
      let d := d.bump Reg.hifPoisCplCnt 1
      if t.sched then d.markPoison 49 else d
    else d
  let d := if t.sched && !d.hostOk f a true then d.markPoison 49 else d
  let first := ((List.range 64).find? (fun i => bit be i)).getD 0
  let bs := enabledBytes u be
  d.hostWrite f (if t.sched then d.runPasid else none) (a + first) (if bad then bs.map (fun _ => 0) else bs) bad

/-- A host write waits for the translation of its page (R380). -/
def Device.waitsAts (d : Device) (f a : Nat) : Bool := d.canIssue f && d.usesAts f && (d.atsFind f a).isNone

/-- A WRITE or WRITE_PARTIAL is performed by its target; `ecc`, `reread`: what SECDED finds in the unit that a partial one
changes. -/
def Device.serveWrite (d : Device) (t : Txn) (ecc reread : Ecc) : Device :=
  let be : Word := if t.cmd = .write then -1 else t.be
  match t.target with
  | .mem a =>
    match localSpace a with
    | .hbm a => d.hbmWrites t a be ecc reread
    | .tile l => d.gateway t l [(0, ecc)]
    | .regs o => d.regSpaceWrite t o
    | .nowhere => d.respond t.id 1
  | .cache k r _ off ring => d.writeUnits t (fun d i u => d.writeQuarter k r t.first off i ring u)
  | .queue q => (d.threadMarker t q).writeUnits t (fun d _ u => d.pushUnit q u)
  | .host f a =>
    if d.waitsAts f a then
      if t.phase = .sent then (d.emit (.atsRequest f a)).mapTxn t.id (fun t => { t with phase := .atTarget }) else d
    else d.writeUnits t (fun d i u => d.writeHost t f (a + 64 * i) u be)
  | .remote l dev a =>
    let h := linkHeader l t.cmd.code t.data.length t.init t.id (2 ^ 63 + 2 ^ 52 * dev + a) t.be []
    (d.sendPacket l false h t.data).mapTxn t.id (fun t => { t with phase := .atTarget })
  | .tile a => d.writePaths t (tileAddrLine a)
  | .user ap off => d.userWrite t ap off
  | .peer => d

/-- A write packet reaches its target, or its header fails on the way. -/
def Device.arriveWrite (d : Device) (id : Nat) (cmd : NetCmd) (ok : Bool) (ecc reread : Ecc) : Device :=
  match d.txn id with
  | none => d
  | some t =>
    if t.cmd ≠ cmd then d
    else match t.phase, t.target with
      | .sent, _ => if ok then d.onRequest id (fun d t => d.serveWrite t ecc reread) else d.loseTxn id (.request id)
      | .atTarget, .host _ _ => d.serveWrite t ecc reread
      | _, _ => d

def execNetWrite (txn : Nat) (headerOk : Bool) (s : State) : Host.Outcome State Fault Refusal :=
  took s (·.arriveWrite txn .write headerOk .clean .clean)

def execNetWritePartial (txn : Nat) (headerOk : Bool) (ecc : Ecc) (s : State) (reread : Ecc := .clean) : Host.Outcome State Fault Refusal :=
  took s (·.arriveWrite txn .partialWrite headerOk ecc reread)

/-- A write is over (R277). -/
def Device.finishWrite (d : Device) (t : Txn) (status : Nat) : Device :=
  let d := d.dropTxn t.id
  match t.purpose with
  | .thread tk _ stamp _ => d.threadAck tk stamp (t.data.length - t.got.length) (decide (status ≠ 0))
  | .accessPoint ap tag => if d.apActive ap then d.emit (.userData ap tag status []) else d
  | .remote l tag => d.sendPacket l true (linkHeader l 5 0 t.init tag 0 0 [BitVec.ofNat 64 status]) []
  | .spill _ => d
  | .spillRead _ _ => d
  | .multicast g l => d.acceptCopy g l
  | .bar2 _ _ _ _ => d
  | .prefetch _ => d
  | .load _ _ => d
  | .nobody => d

/-- WRITE_ACK: an acknowledgement reaches its initiator, or its header fails on the way. -/
def Device.netWriteAck (d : Device) (id : Nat) (ok : Bool) : Device :=
  match d.txn id with
  | none => d
  | some t =>
    if t.cmd = .read ∨ t.phase ≠ .responded then d
    else if ok then d.onResponse id (fun d t => (d.measure t 0).finishWrite t t.status)
    else d.loseTxn id (.response id)

def execNetWriteAck (txn : Nat) (headerOk : Bool) (s : State) : Host.Outcome State Fault Refusal :=
  took s (·.netWriteAck txn headerOk)

/-! ### Injection, timeouts and regulators (R285, R289, R290) -/

/-- PACKET_INJECTION: the waiting packet at the head of the initiator's queue is injected once the bucket holds enough
tokens. It waits for the clocks in Cold and Standby (R460); a fill of the prefetcher takes a slot of the port of engine 0 for
dynamic traffic (R233). [DEDUCED, unsafe: notes/assumptions/166] -/
def Device.injectNext (d : Device) (i : Nat) : Device :=
  if 1 < d.power then d
  else match d.net.txns.find? (fun t => t.init == i && t.phase == .waiting) with
    | none => d
    | some t =>
      let b := 64 * max t.len 1
      let g := d.injectAt i b
      if i = 7 then
        match d.dynamicClock 0 with
        | none => d
        | some c =>
          let d := d.advance (max g (c / 2))
          ((d.takePort 0 (max c (2 * d.now))).takeTokens i b).inject t.id
      else ((d.advance g).takeTokens i b).inject t.id

def execPacketInjection (init : Fin 256) (s : State) : Host.Outcome State Fault Refusal := took s (·.injectNext init)

/-- RESPONSE_TIMEOUT: RESP_LIMIT gcyc after the header's injection the initiator's interface completes the transaction
itself (R285). A packet that is not lost still goes its way, and its response is discarded.
[DEDUCED, unsafe: notes/assumptions/52] -/
def Device.timeoutTxn (d : Device) (id : Nat) : Device :=
  match d.txn id with
  | none => d
  | some t =>
    match t.purpose, t.phase with
    | .nobody, _ => d
    | .remote _ _, _ => d
    | _, .waiting => d
    | _, _ =>
      let d := d.advance (t.injected + t.limit)
      let d := d.bump Reg.sncRespTmoCnt 1
      let d := if t.sched then d.markPoison 49 else d
      let d := if t.cmd = .read then (d.bump Reg.errUncorrCnt t.len).finishRead t (List.replicate t.len poisonUnit) 0
        else d.finishWrite t 1
      if t.phase = .lost ∨ t.phase = .responded then d
      else { d with net := { d.net with txns := { t with purpose := .nobody } :: d.net.txns } }

def execResponseTimeout (txn : Nat) (s : State) : Host.Outcome State Fault Refusal := took s (·.timeoutTxn txn)

/-- A write of SNC_REGi: the regulator is set and its bucket filled (R290, R294). -/
def Device.regulator (d : Device) (i : Nat) (w : Word) : Device :=
  if initAssigned i = false then d
  else
    let d := d.setReg (Reg.sncReg i) (w &&& 0x00FFFFFF00FFFFFF)
    { d with net := { d.net with tokens := mapPut none d.net.tokens i none } }

def execSncRegWrite (init : Fin 256) (data : Word) (s : State) : Host.Outcome State Fault Refusal :=
  took s (·.regulator init data)

/-- A write of SNC_STAT_CLR (R293): the statistics of one initiator, or of all, take their reset values; frozen ones do not
change. [DEDUCED, unsafe: notes/assumptions/53] -/
def Device.statClear (d : Device) (w : BitVec 32) : Device :=
  if bit w 31 = false ∨ d.regBit Reg.sncStatCtl 0 = true then d
  else
    let lo := if bit w 30 then 0x710000 else Reg.sncStatBytes (fld w 0 8)
    let hi := if bit w 30 then 0x720000 else lo + 0x100
    { d with regs := mapClear d.regs lo hi }

def execSncStatClr (data : BitVec 32) (s : State) : Host.Outcome State Fault Refusal := took s (·.statClear data)

/-- A write of SNC_STAT_CTL (R293). -/
def Device.statControl (d : Device) (w : BitVec 32) : Device := d.setReg Reg.sncStatCtl (BitVec.ofNat 64 (fld w 0 1))

def execSncStatCtl (data : BitVec 32) (s : State) : Host.Outcome State Fault Refusal := took s (·.statControl data)

end Sys2Proof.Machine
end

