-- ==== Sys2Proof/Machine/Slots.lean ====
section
/-!
DEFINITION. The checks that the configuration engine makes on schedule slots, the memory map, the route tables and the
membership record (R97, R101, R105, R177, R181, R210, R214, R229, R235, R259, R278, R326, R341, R420).
-/
namespace Sys2Proof.Machine

open Sys2Proof

/-- The first code of a list of checks, each given as whether it fails and the code it carries. -/
def firstCode : List (Bool × Nat) → Option Nat
  | [] => none
  | (bad, c) :: cs => if bad then some c else firstCode cs

/-- A field of reserved bits is not 0. -/
def resv (w : Word) (lo n : Nat) : Bool := decide (fld w lo n ≠ 0)

/-- Words as the bytes that a CRC covers, with the CRC in the high half of the last one (R178, R104, R225). -/
def crcBad (ws : List Word) (n : Nat) : Bool :=
  decide ((crc32c ((wordsBytes ws).take n)).toNat ≠ bytesNat (((wordsBytes ws).drop n).take 4))

/-! ### Allocations (R420) -/

/-- Word 8 of a header frame: ALLOC_BASE and ALLOC_FRAMES. -/
def Device.allocWord (d : Device) (s : Nat) : Word := wd (d.schedWords (1024 * s + 64) 1) 0

/-- First byte and length in bytes of the allocation of slot `s`. -/
def Device.alloc (d : Device) (s : Nat) : Nat × Nat :=
  (1024 * fld (d.allocWord s) 0 16, 1024 * fld (d.allocWord s) 16 16)

/-- `n` bytes from `a` on leave the allocation of slot `s`. -/
def Device.outside (d : Device) (s a n : Nat) : Bool :=
  decide (a < (d.alloc s).1) || decide ((d.alloc s).1 + (d.alloc s).2 < a + n)

/-- The step records of slot `s`. -/
def Device.slotSteps (d : Device) (s : Nat) : List (Word × Word) :=
  let h := d.slotHeader s
  (List.range (fld (wd h 0) 0 16 + 1)).map (d.stepRecord h)

def stepKind (r : Word × Word) : Nat := fld r.1 40 4
def stepOffset (r : Word × Word) : Nat := fld r.1 0 40

/-- What a step names: first byte in the schedule store and length (R420). -/
def Device.stepNames (d : Device) (s : Nat) (r : Word × Word) : List (Nat × Nat) :=
  match stepKind r with
  | 1 => [(64 * fld r.2 0 24, 64)]
  | 2 => [(128 * fld r.2 10 22, 128)]
  | 3 =>
    let a := (d.alloc s).1 + 16 * fld r.2 0 16
    let ws := d.schedWords a 2
    let n := (linksOf (wd ws 0)).length * (fld (wd ws 1) 0 6 + 1) * 31
    [(a, 16), ((d.alloc s).1 + 8 * fld (wd ws 1) 6 26, 8 * n)]
  | 4 => [((d.alloc s).1 + 16 * fld r.2 0 16, 16)]
  | 5 => [(16 * fld r.2 0 24, 16)]
  | _ => []

/-- Two allocations share a frame. [DEDUCED, unsafe: notes/assumptions/113] -/
def overlaps (a b : Nat × Nat) : Bool := decide (a.1 < b.1 + b.2) && decide (b.1 < a.1 + a.2)

/-- R420 is broken for slot `s`, where `valid` lists the valid slots. -/
def Device.allocBad (d : Device) (s : Nat) (valid : List Nat) : Bool :=
  let h := d.slotHeader s
  let steps := d.slotSteps s
  resv (d.allocWord s) 32 32 || (d.schedBytes (1024 * s + 72) 952).any (· != 0) ||
    d.outside s (16 * fld (wd h 2) 0 21) (16 * steps.length) ||
    steps.any (fun r => (d.stepNames s r).any (fun n => d.outside s n.1 n.2)) ||
    valid.any (fun v => v != s && overlaps (d.alloc s) (d.alloc v))

/-! ### DOP descriptors (R97, R105, R177) -/

/-- The cases of R105 on one descriptor, in their order, but for the stamps. -/
def dopCode (e : List Word) : Option Nat :=
  let h := dopShape e
  firstCode [
    (decide (10 < dopA e) || decide (10 < dopB e), 0x32),
    (decide (fld (wd e 0) 12 4 = 15), 0x32),
    (decide (6 < h), 0x31),
    (decide (dopRamp e = 3), 0x31),
    (decide (dopDest e = 3), 0x31),
    (decide (2048 / 2 ^ h < dopRows e) || decide (2048 * 2 ^ h < dopCols e), 0x31),
    (decide (dopK e = 0) || decide (2097152 < dopK e), 0x31),
    (resv (wd e 0) 24 40 || resv (wd e 1) 12 2 || resv (wd e 1) 31 1 || resv (wd e 1) 54 10 || resv (wd e 2) 11 5 ||
      resv (wd e 2) 28 4 || resv (wd e 2) 44 20 || resv (wd e 3) 20 44 || resv (wd e 4) 11 5 || resv (wd e 4) 24 8 ||
      resv (wd e 4) 43 21 || resv (wd e 5) 43 21 || resv (wd e 6) 41 23 || resv (wd e 7) 0 32, 0x31),
    (crcBad e 60, 0x31)]

/-- The cases of R177 on one descriptor named by a step at `offset`, but for the statistics of the DOP before it. -/
def Device.dopMore (d : Device) (e : List Word) (offset : Nat) : Bool :=
  let runs := dopProEn e || dopCopyEn e
  decide (5 ≤ dopRsKind e) || (decide (dopRsKind e ≠ 0) && decide (dopDest e ≠ 0)) || decide (dopRsGr e % 8 ≠ 0) ||
    decide (0x600 < dopRsGr e % 0x800) || (decide (dopLead e = 0) == runs) || decide (512 < dopStage e) ||
    decide (2048 < dopALine e + dopStage e) ||
    (dopCopyEn e && (Config.copyRoute d.cfgMem (dopCopy e)).any (fun m =>
      decide (m.dstLine < dopALine e) || decide (dopALine e + dopStage e ≤ m.dstLine))) ||
    (dopBXpose e && (dopB e == 4 || dopB e == 5 || decide (dopK e % 32 ≠ 0) || decide (dopCols e % 32 ≠ 0))) ||
    (runs && decide (4 * offset + dopPhase e < dopLead e))

/-- Stamps closer than W, and a reduction that begins before the one before it is over (R97, R177), over the slot's DOPs in
order, each with its T0 counted from the task's start. -/
def stampsBad : List (Nat × List Word) → Bool × Bool
  | [] => (false, false)
  | (t, e) :: rest =>
    let r := stampsBad rest
    let close := match rest with
      | [] => false
      | (t', _) :: _ => decide (t' < t + dopW e)
    let stat := match rest.find? (fun p => dopRsKind p.2 != 0) with
      | none => false
      | some (t', e') => decide (dopRsKind e ≠ 0) && decide (rsTime e' t' < ph2Time e t)
    (close || r.1, stat || r.2)

/-- The code of R105 and R177 for the DOPs of a slot: the earliest case in the lists decides. -/
def Device.dopsCode (d : Device) (s : Nat) : Option Nat :=
  let ds := d.dopSteps (d.slotHeader s)
  let codes := ds.map (fun p => dopCode p.2.2)
  let st := stampsBad (ds.map (fun p => (4 * p.2.1 + dopPhase p.2.2, p.2.2)))
  firstCode [
    (codes.contains (some 0x32), 0x32),
    (codes.any (·.isSome), 0x31),
    (st.1 || st.2 || ds.any (fun p => d.dopMore p.2.2 p.2.1), 0x31)]

/-! ### Steps and headers (R101, R178 - R181, R210, R214) -/

/-- Reserved bits of a header. -/
def headerResv (h : List Word) : Bool :=
  resv (wd h 0) 24 8 || resv (wd h 1) 40 24 || resv (wd h 2) 21 11 || resv (wd h 2) 48 16 || resv (wd h 7) 0 32

/-- Reserved bits of a step record. -/
def stepResv (r : Word × Word) : Bool :=
  resv r.1 44 20 || match stepKind r with
    | 1 => resv r.2 24 40
    | 2 => resv r.2 32 32
    | 3 | 4 => resv r.2 16 48
    | 5 => resv r.2 24 40
    | 15 => resv r.2 0 64
    | _ => false

def kindRefused (r : Word × Word) : Bool := !([1, 2, 3, 4, 5, 15].contains (stepKind r))

/-- Offsets decrease along the list. -/
def decreases : List Nat → Bool
  | a :: b :: l => decide (b < a) || decreases (b :: l)
  | _ => false

/-- The last record is the only END step, and its OFFSET is TASK_LEN. -/
def endOk (h : List Word) (rs : List (Word × Word)) : Bool :=
  match rs.getLast? with
  | none => false
  | some r => stepKind r == 15 && stepOffset r == fld (wd h 1) 0 40 && (rs.filter (fun r => stepKind r == 15)).length == 1

/-- A start condition is refused (R214). -/
def waitBad (w : Word) : Bool := bit w 63 && (decide (fld w 48 8 < 16) || resv w 32 16 || resv w 56 6)

/-- Device `n` belongs to the cluster of this device: its own number, or one that the membership of the plane names (R340);
a cluster of one has no other (R341). -/
def Device.inMembership (d : Device) (n : Nat) : Bool :=
  n == d.device || (d.cluster.member.isSome && Config.isMember d.cfgMem n)

/-- A signal descriptor of a slot with header word H0 `h0` is refused (R210). -/
def Device.signalBad (d : Device) (h0 : Word) (g : List Word) : Bool :=
  let scope := fld (wd g 0) 0 2
  scope == 3 || decide (49151 < fld (wd g 0) 12 16) || (scope != 0 && decide (fld (wd g 0) 28 8 < 16)) ||
    (scope == 2 && (!bit h0 23 || !d.inMembership (fld (wd g 0) 2 10))) || resv (wd g 0) 44 20 || resv (wd g 1) 11 5 || (scope != 2 && resv (wd g 0) 2 10) ||
    (scope == 0 && resv (wd g 0) 12 16)

/-! ### Stream descriptors (R226, R229, R235) -/

/-- An entry of the region table is refused, or is none (R235). -/
def regionBad (w : Word) : Bool :=
  decide (regionLines w = 0) || decide (770048 < regionBase w + regionLines w) || resv w 41 23

/-- An endpoint of kind `k` at address `a` is refused (R226). -/
def Device.endpointBad (d : Device) (k : Nat) (a : Word) (source : Bool) : Bool :=
  match k with
  | 0 => decide (2 ≤ fld a 62 2)
  | 1 => resv a 48 16
  | 2 =>
    let w := d.region (fld a 0 12)
    regionBad w || resv a 40 24 || (!regionResident w && resv a 14 26)
  | 3 => resv a 17 47
  | 4 => !source || a != 0
  | 5 => source || resv a 20 44
  | _ => true

/-- The strides of a used dimension are multiples of 64; the fields of an unused one are 0 (R229). -/
def dimBad (e : List Word) (k : Nat) : Bool :=
  let s := wd e (5 + 2 * (k - 1))
  let c := wd e (6 + 2 * (k - 1))
  resv c 16 48 || if k < ndim e then resv s 0 6 || resv s 32 6 else s != 0 || resv c 0 16

def Device.streamBad (d : Device) (e : List Word) : Bool :=
  let idx := fld (wd e 0) 24 2
  let dim := fld (wd e 0) 30 3
  crcBad e 124 || resv (wd e 0) 13 3 || resv (wd e 0) 36 12 || resv (wd e 15) 0 32 ||
    d.endpointBad (srcKind e) (wd e 1) true || d.endpointBad (dstKind e) (wd e 2) false ||
    wheelClass e == 3 || ndim e == 0 || ndim e == 7 || [1, 2, 3, 4, 5].any (dimBad e) ||
    idx == 3 || (idx != 0 && (dim == 0 || decide (ndim e ≤ dim))) || decide (2 ^ 48 ≤ 64 * totalUnits e)

/-- The descriptor of stream step `r`. -/
def Device.streamDesc (d : Device) (r : Word × Word) : List Word := d.schedWords (128 * fld r.2 10 22) 16

/-! ### Slot tables (R326) -/

def Device.tableBad (d : Device) (s : Nat) (r : Word × Word) : Bool :=
  let a := (d.alloc s).1 + 16 * fld r.2 0 16
  let ws := d.schedWords a 2
  let n := (linksOf (wd ws 0)).length * (fld (wd ws 1) 0 6 + 1) * 31
  let es := d.schedBytes ((d.alloc s).1 + 8 * fld (wd ws 1) 6 26) (8 * n)
  let links := d.cluster.member.elim 0 (·.links)
  decide ((crc32c (d.schedBytes a 12 ++ es)).toNat ≠ fld (wd ws 1) 32 32) ||
    (List.range n).any (fun i => resv (wordAt es i) 24 40) || decide (wd ws 0 &&& ~~~links ≠ 0)

/-! ### A slot (R181, R421) -/

/-- A header frame that is all zero: the slot is empty, invalid but not refused (R420). -/
def Device.slotEmpty (d : Device) (s : Nat) : Bool := (d.schedBytes (1024 * s) 1024).all (· == 0)

/-- The code with which slot `s` is refused, if it is: the list of R181 in order, then the other rules of R422's code 0x30. -/
def Device.slotCode (d : Device) (s : Nat) (valid : List Nat) : Option Nat :=
  let h := d.slotHeader s
  let rs := d.slotSteps s
  let ds := d.dopSteps h
  let first := [
    (crcBad h 60, 0x30),
    (headerResv h || rs.any stepResv, 0x30),
    (rs.any kindRefused, 0x30),
    (decreases (rs.map stepOffset), 0x30),
    (!endOk h rs, 0x30),
    (d.outside s (16 * fld (wd h 2) 0 21) (16 * rs.length), 0x30),
    ((ds.head?).elim false (fun p => dopRamp p.2.2 == 2 && decide (p.2.1 < 15)), 0x30)]
  let after := [
    (((h.drop 3).take 4).any waitBad, 0x30),
    (rs.any (fun r => stepKind r == 5 && d.signalBad (wd h 0) (d.schedWords (16 * fld r.2 0 24) 2)), 0x30),
    (rs.any (fun r => stepKind r == 2 && d.streamBad (d.streamDesc r)), 0x30),
    (ds.any (fun p => regionBad (d.region (dopRegion p.2.2))), 0x30),
    (rs.any (fun r => stepKind r == 3 && d.tableBad s r), 0x30),
    (d.allocBad s valid, 0x30)]
  match firstCode first with
  | some c => some c
  | none => match d.dopsCode s with
    | some c => some c
    | none => firstCode after

/-! ### The interleave map (R257, R259) -/

/-- Windows of a map, as their words A and B. -/
def mapWindows (ws : List Word) : List (Word × Word) := (List.range 4).map (fun w => (wd ws (2 * w), wd ws (2 * w + 1)))

/-- Bytes of a window, of each of its pseudo-channels, and the first byte in them. -/
def winSize (w : Word × Word) : Nat := 65536 * fld w.1 29 29
def winBase (w : Word × Word) : Nat := 65536 * fld w.1 0 29
def winPart (w : Word × Word) : Nat := winSize w / (32 * (maskStacks (fld w.2 0 12)).length)
def winFirst (w : Word × Word) : Nat := 65536 * fld w.2 16 14

/-- An enabled window breaks a rule of R257 or reaches beyond 1.125 GiB. -/
def windowBad (w : Word × Word) : Bool :=
  let n := (maskStacks (fld w.2 0 12)).length
  n == 0 || decide (8 < fld w.2 12 4) || decide (winSize w % (256 * 2 ^ fld w.2 12 4 * (32 * n)) ≠ 0) ||
    decide (1207959552 < winFirst w + winPart w)

/-- Two enabled windows overlap in local address, or in the bytes that they use in a stack they share. -/
def windowsClash (v w : Word × Word) : Bool :=
  overlaps (winBase v, winSize v) (winBase w, winSize w) ||
    (decide (fld v.2 0 12 &&& fld w.2 0 12 ≠ 0) && overlaps (winFirst v, winPart v) (winFirst w, winPart w))

def anyClash : List (Word × Word) → Bool
  | [] => false
  | w :: ws => ws.any (windowsClash w) || anyClash ws

/-- The map is refused (R259). -/
def mapBad (ws : List Word) : Bool :=
  let on := (mapWindows ws).filter (fun w => bit w.1 63)
  on.any windowBad || anyClash on

/-- The default map, as the words of HBC_MAP0-HBC_MAP3 (R260). -/
def defaultMap : List Word := [0x800D800000000000, 0xFFF, 0, 0, 0, 0, 0, 0]

/-- The map that a loaded plane puts in force: the default one where no window is enabled (R260). -/
def mapInForce (ws : List Word) : List Word := if (mapWindows ws).any (fun w => bit w.1 63) then ws else defaultMap

def Device.setMap (d : Device) (ws : List Word) : Device :=
  (List.range 4).foldl (fun d w =>
    (d.setReg (Reg.hbcMapA w) (wd ws (2 * w) &&& 0x83FFFFFFFFFFFFFF)).setReg (Reg.hbcMapB w)
      (wd ws (2 * w + 1) &&& 0x3FFFFFFF)) d

/-! ### Route tables (R274, R278) -/

/-- The channels, as 4 x router + mesh port, of the route from `r` to `dst` over `path`; none when it does not reach it
within `fuel` routers. -/
def routeFrom (t : Nat → Option Nat) (dst path : Nat) : Nat → Nat → Option (List Nat)
  | 0, r => if r = dst then some [] else none
  | fuel + 1, r =>
    if r = dst then some []
    else match t (routeKey r dst path) with
      | none => none
      | some p => match neighbour r p with
        | none => none
        | some r' => (routeFrom t dst path fuel r').map (fun cs => (4 * r + p) :: cs)

/-- The loaded routes of a PATH: start and destination of each. -/
def loadedRoutes (t : Nat → Option Nat) (path : Nat) : List (Nat × Nat) :=
  let rs := (List.range 256).filter isRouter
  rs.flatMap (fun r => (rs.filter (fun dst => dst != r && (t (routeKey r dst path)).isSome)).map (fun dst => (r, dst)))

/-- The pairs of successive channels of a route. -/
def channelPairs : List Nat → List (Nat × Nat)
  | a :: b :: l => (a, b) :: channelPairs (b :: l)
  | _ => []

/-- Channels that depend on another one are kept until none is left or nothing changes: a cycle remains. -/
def cyclic (deps : List (Nat × Nat)) : Nat → Bool
  | 0 => !deps.isEmpty
  | n + 1 =>
    let kept := deps.filter (fun e => deps.any (fun f => f.1 == e.2))
    if kept.length = deps.length then !deps.isEmpty else cyclic kept n

/-- Loaded route tables are refused (R278): a route that does not arrive, or a cycle among the routes of a class: PATH 0
for dynamic traffic, the PATHs of the route map for scheduled traffic. -/
def routesBad (t : Nat → Option Nat) (sched : List Nat) : Bool :=
  let paths := fun (ps : List Nat) => ps.flatMap (fun p =>
    (loadedRoutes t p).map (fun e => routeFrom t e.2 p 32 e.1))
  let deps := fun (ps : List Nat) => (paths ps).flatMap (fun c => channelPairs (c.getD []))
  (paths [0, 1, 2, 3]).any (·.isNone) || cyclic (deps [0]) 1024 || cyclic (deps sched) 1024

/-! ### The membership record (R341) -/

def Device.memberBad (d : Device) (m : Member) : Bool :=
  (if m.device = m.master then !d.belfry.cmstr || m.freqSrc || decide (m.depth ≠ 0)
    else decide (m.depth = 0) || decide (16 < m.depth) || !bit m.links m.upLink) ||
  decide (m.down &&& ~~~m.links ≠ 0) || (decide (m.device ≠ m.master) && bit m.down m.upLink) ||
  decide (5000 < m.floodBound) || Config.membershipReserved d.cfgMem

end Sys2Proof.Machine
end

