-- ==== Sys2Proof/Machine/CfgLoad.lean ====
section
/-!
DEFINITION. The configuration engine's commands: loads from START to their end, packets, checks, start-up, partial
reconfiguration and readback (R347, R408 - R430).
-/
namespace Sys2Proof.Machine

open Sys2Proof

/-! ### Clearing (R128, R239, R260, R278, R409, R410) -/

/-- CLU_STATUS shows the membership (R360). -/
def Device.showMember (d : Device) (m : Option Member) : Device :=
  match m with
  | none => d.setFs Reg.cluStatus [(32, 32, 0), (22, 10, 0), (12, 10, 0), (11, 1, 0), (10, 1, 0)]
  | some m => d.setFs Reg.cluStatus
      [(32, 32, m.clusterId), (22, 10, m.master), (12, 10, m.device), (11, 1, 1), (10, 1, b2n (m.device == m.master))]

/-- Every frame of the planes is zero, the stores are cleared, every Spire is in MAINT, the default map and the built-in
routes are in force, no membership is loaded, and CDONE is pulled low (R410). [DEDUCED, unsafe: notes/assumptions/114] -/
def Device.fullClear (d : Device) : Device :=
  let d := ((((d.dropSlots.setMap defaultMap).clearCache).fabricOff.setF Reg.cfgFabPllStatus 0 24 0).showMember none).setF Reg.cluStatus 2 5 0
  let d := (d.setDomeValid false).setSchedValid false
  let d := { d with
    cfgMem := [], tile := Store.initial, maintCfg := true,
    belfry := { d.belfry with cdoneLow := true },
    net := { d.net with routes := [], routeMap := [] },
    cluster := { d.cluster with member := none, groups := [] },
    streams := { d.streams with quarters := [] },
    lantern := { d.lantern with rewriting := [] } }
  d.judgeLinks

/-- A RELOAD clears the planes that it names: the Dome plane with tile and coefficient stores, every Spire in MAINT; the
schedule plane with the stream cache, every slot invalid (R409, R410). -/
def Device.reloadClear (d : Device) (planes : Nat) : Device :=
  let d := if planes / 2 % 2 = 1 then
      { d.setDomeValid false with
        cfgMem := mapClear d.cfgMem (1024 * fabricFrames) (1024 * (fabricFrames + domeFrames)),
        tile := Store.initial, maintCfg := true }
    else d
  if planes / 4 % 2 = 1 then
    let d := ((d.setSchedValid false).dropSlots).clearCache
    { d with cfgMem := mapClear d.cfgMem scheduleBase (scheduleBase + 1024 * scheduleFrames) }
  else d

/-! ### START, ABORT and the port (R408) -/

/-- A write of CFG_CTL sets SRC and IDLE_LIMIT (R430). -/
def Device.writeCfgCtl (d : Device) (v : BitVec 32) : Device :=
  (d.setF Reg.cfgCtl 28 2 (fld v 28 2)).setF Reg.cfgCtl 0 24 (fld v 0 24)

/-- A load that has just been started from source `src`. -/
def newLoad (src addr len now : Nat) : Load :=
  { src := src, phase := .header, before := 0, addr := addr, len := len, header := [], buf := [], asked := 0, reading := none,
    waitFrom := now, block := 0, trailers := [], body := [], done := 0, faddr := 0, past := false, frame := none,
    history := [], frames := 0, openSlot := none, openRegion := none, headerIn := false, slotHeld := false }

/-- A load starts, unless one is in progress, SRC is 0b11, the Keep restarts or is in recovery (R408, R444, R445).
[DEDUCED, unsafe: notes/assumptions/105] -/
def Device.startLoad (d : Device) (src : Nat) : Device :=
  if d.load.isSome ∨ src = 3 ∨ d.cfgState = 7 ∨ d.regF Reg.kepStatus 28 4 = 4 then d
  else
    let d := ((d.setReg Reg.cfgErr 0).setReg Reg.cfgErrLoc 0).setFs Reg.cfgStatus [(32, 32, 0), (4, 1, 1)]
    Device.loadFetch { d with load := some (newLoad src (d.reg Reg.cfgSrcAddr).toNat (d.regF Reg.cfgSrcLen 0 48) d.now) }

/-- CFG_START: a write of CFG_CTL with START. -/
def execCfgStart (data : BitVec 32) (s : State) : Host.Outcome State Fault Refusal :=
  took s (fun d => (d.writeCfgCtl data).startLoad (fld data 28 2))

/-- CFG_ABORT: a write of CFG_CTL with ABORT. -/
def execCfgAbort (data : BitVec 32) (s : State) : Host.Outcome State Fault Refusal :=
  took s (fun d => (d.writeCfgCtl data).loadFail 0x16)

/-- Bytes of the configuration byte stream: appended to a PORT load, otherwise discarded (R408). The bytes of a refused
bitstream are consumed (R412). [DEDUCED, unsafe: notes/assumptions/108] -/
def Device.portBytes (d : Device) (bs : List Byte) : Device :=
  match d.load with
  | none => d
  | some l =>
    if l.src ≠ 2 then d
    else d.mapLoad (fun l => { l with waitFrom := d.now, buf := if l.phase = .refused then [] else l.buf ++ bs })

/-- CFG_PORT: the enabled bytes of a write, in ascending address order. -/
def execCfgPort (bytes : List (Option Byte)) (s : State) : Host.Outcome State Fault Refusal :=
  took s (·.portBytes (bytes.filterMap id))

/-- IDLE_LIMIT_EXPIRY: the engine has waited IDLE_LIMIT µs for source bytes. -/
def Device.idleLimit (d : Device) : Device :=
  match d.load with
  | none => d
  | some l =>
    if (l.need = 0 ∧ l.phase ≠ .refused) ∨ l.slotHeld = true then d
    else (d.advance (l.waitFrom + 1000 * d.regF Reg.cfgCtl 0 24)).loadFail 0x15

def execIdleLimitExpiry (s : State) : Host.Outcome State Fault Refusal := took s Device.idleLimit

/-! ### The header (R411, R412) -/

/-- Reserved bits of a header. -/
def loadHeaderResv (g : List Word) : Bool :=
  resv (wd g 0) 48 16 || resv (wd g 1) 36 4 || resv (wd g 1) 47 1 || resv (wd g 1) 50 14 || resv (wd g 4) 48 16 ||
    resv (wd g 5) 32 32 || ((g.drop 6).take 9).any (· != 0) || resv (wd g 15) 0 32

/-- KIND and PLANES are refused, or not allowed in the current state, or DESIGN_ID differs (R409, R412 check 0x05). -/
def Device.kindBad (d : Device) (g : List Word) : Bool :=
  let kind := fld (wd g 1) 40 4
  let planes := fld (wd g 1) 44 3
  let st := d.cfgState
  (match kind with
    | 1 => planes != 7 || st == 1 || st == 2 || st == 3 || st == 7
    | 2 => !(planes == 2 || planes == 4 || planes == 6) || st != 4
    | 3 => planes != 1 || st != 4
    | 4 => planes != 4 || st != 4
    | _ => true) ||
  (kind != 1 && wd g 2 != d.reg Reg.cfgDesignId)

/-- The key that a header selects, if it is valid (R412, R433, R434). -/
def Device.loadKey (d : Device) (bbram : Bool) : Option (BitVec 256) :=
  if bbram then d.keep.bbram
  else if d.keep.fuses.keySet && d.keep.fuses.keyValid then some d.keep.fuses.key else none

/-- The first check of R412 that the header `bs` fails. -/
def Device.headerCode (d : Device) (bs : List Byte) : Option Nat :=
  let g := (List.range 16).map (wordAt bs)
  let enc := bit (wd g 1) 48
  let src := bit (wd g 1) 49
  let len := fld (wd g 4) 0 48
  firstCode [
    (fld (wd g 0) 0 32 != 0x5342524B || fld (wd g 0) 32 16 != 1 || loadHeaderResv g, 1),
    (crcBad g 124, 2),
    (fld (wd g 1) 0 16 != 0xA5 || fld (wd g 1) 16 16 != d.regF Reg.bfyId 12 16, 3),
    (!bit (wd g 1) (32 + d.regF Reg.bfyId 28 4 - 1), 4),
    (d.kindBad g, 5),
    ((!enc && bit d.keep.fuses.policy 0) || (src && bit d.keep.fuses.policy 1) || (src && !enc), 6),
    (enc && (d.loadKey src).isNone, 7),
    (len == 0 || fld (wd g 5) 0 32 != (len + 65535) / 65536, 8)]

/-- A load whose hold is over, or that was never held, goes on to its clear and its body (R410).
[DEDUCED, unsafe: notes/assumptions/107] -/
def Device.beginBody (d : Device) : Device :=
  match d.load with
  | none => d
  | some l =>
    let d := d.setHeld false
    match l.kind with
    | 1 =>
      let g := wordAt l.header 1
      let d := d.fullClear.setFs Reg.cfgStatus [(16, 4, 0), (8, 1, fld g 49 1), (7, 1, fld g 48 1)]
      d.mapLoad (fun l => { l with phase := .clearing })
    | 2 => ((d.reloadClear l.planes).mapLoad (fun l => { l with phase := .body, waitFrom := d.now })).loadFetch
    | _ => (d.mapLoad (fun l => { l with phase := .body, waitFrom := d.now })).loadFetch

/-- The header is accepted: a FULL or RELOAD load is held while a task holds or takes the Dome (R410). -/
def Device.acceptHeader (d : Device) (l : Load) : Device :=
  let d := (d.bump Reg.cfgLoadCnt 1).mapLoad (fun l => { l with
    before := d.cfgState, header := l.buf.take 128, buf := l.buf.drop 128, phase := .held })
  let d := d.setCfgState 1
  if decide (fld (wordAt l.buf 1) 40 4 ≤ 2) && d.lantern.run.isSome then d.setHeld true else d.beginBody

/-- The header is refused: nothing in the device changes (R412). -/
def Device.refuseHeader (d : Device) (l : Load) (code : Nat) : Device :=
  let d := (d.loadError code).bump Reg.cfgHdrRefuseCnt 1
  if l.src = 2 then d.mapLoad (fun l => { l with phase := .refused, buf := [], waitFrom := d.now }) else d.closeLoad

/-- BITSTREAM_HEADER: the 128 header bytes are there and are checked. -/
def Device.loadHeader (d : Device) : Device :=
  match d.load with
  | none => d
  | some l =>
    if l.phase ≠ .header ∨ l.buf.length < 128 then d
    else match d.headerCode (l.buf.take 128) with
      | some c => d.refuseHeader l c
      | none => d.acceptHeader l

def execBitstreamHeader (s : State) : Host.Outcome State Fault Refusal := took s Device.loadHeader

/-- FULL_CLEAR_COMPLETE. -/
def Device.clearDone (d : Device) : Device :=
  match d.load with
  | some l => if l.phase = .clearing then (d.mapLoad (fun l => { l with phase := .body, waitFrom := d.now })).loadFetch else d
  | none => d

def execFullClearComplete (s : State) : Host.Outcome State Fault Refusal := took s Device.clearDone

/-! ### Packets (R414, R415) -/

/-- The header words of the next packet, once they are there. -/
def Load.p0 (l : Load) : Word := wordAt l.body 0
def Load.p1 (l : Load) : Word := wordAt l.body 1
def Load.plen (l : Load) : Nat := fld l.p0 32 32
def Load.op (l : Load) : Nat := fld l.p0 0 8

/-- ARG, COMP or PLEN of the next packet break the table of R415, or the packet is not allowed. -/
def Load.packetBad (l : Load) : Bool :=
  let comp := bit l.p0 8
  let a := l.p1
  let bare := !comp && l.plen == 0
  resv l.p0 9 23 || decide (l.bodyLen < l.done + 16 + l.plen) || match l.op with
    | 0x00 => comp || a != 0
    | 0x01 => !bare || resv a 40 24
    | 0x02 =>
      if comp then a == 0 || decide (a.toNat % 1024 ≠ 0) else a != 0 || l.plen == 0 || decide (l.plen % 1024 ≠ 0)
    | 0x03 => !bare || decide (1 < fld a 56 8) || l.frame.isNone
    | 0x04 => !bare || l.kind != 1 || a &&& ~~~0xFF01FF3F#64 != 0
    | 0x05 => !bare || l.kind != 4 || resv a 10 54 || l.openSlot.isSome
    | 0x06 => !bare || l.kind != 4 || resv a 10 54 || l.openSlot != some (fld a 0 10)
    | 0x07 => !bare || l.kind != 3 || resv a 6 58 || l.openRegion.isSome || decide (48 ≤ a.toNat)
    | 0x08 => !bare || l.kind != 3 || resv a 6 58 || l.openRegion != some (fld a 0 6)
    | 0x0F => !bare || resv a 40 24 || l.done + 16 != l.bodyLen
    | _ => true

/-- The next packet is looked at: one that is invalid ends the load, and so does a body that ends without END (R415). -/
def Device.screen (d : Device) : Device :=
  match d.load with
  | none => d
  | some l =>
    if l.phase ≠ .body then d
    else if l.bodyLen < l.done + 16 then d.loadFail 0x11
    else if 16 ≤ l.body.length ∧ l.packetBad = true then d.loadFail 0x11
    else d

/-- The next packet, when it is whole and has operation `op` (R414). -/
def Device.packet (d : Device) (op : Nat) : Option Load :=
  match d.load with
  | none => none
  | some l =>
    if l.phase = .body ∧ l.slotHeld = false ∧ 16 ≤ l.body.length ∧ 16 + l.plen ≤ l.body.length ∧ l.op = op ∧
        l.packetBad = false then some l
    else none

/-- Packet `l.p0` has been processed. -/
def Device.consume (d : Device) (l : Load) : Device :=
  (d.mapLoad (fun x => { x with body := x.body.drop (16 + l.plen), done := x.done + 16 + l.plen })).screen

/-- BLOCK: the next block is authenticated by its tag or its CRC (R413). -/
def Device.takeBlock (d : Device) : Device :=
  match d.load with
  | none => d
  | some l =>
    let n := l.blockLen l.block
    if l.phase ≠ .body ∨ l.blocks ≤ l.block ∨ l.buf.length < n + 16 then d
    else
      let data := l.buf.take n
      let tr := (l.buf.drop n).take 16
      let g := (List.range 16).map (wordAt l.header)
      let plain := if bit (wd g 1) 48 then
          (d.loadKey (bit (wd g 1) 49)).bind (fun k =>
            Config.aesGcm k (natBytes 8 (wd g 3).toNat ++ natBytes 4 l.block) (l.header ++ natBytes 8 l.block) data tr)
        else if tr = natBytes 4 (crc32c data).toNat ++ List.replicate 12 0 then some data else none
      match plain with
      | none => d.loadFail 0x10
      | some bs =>
        ((d.mapLoad (fun l => { l with
          buf := l.buf.drop (n + 16), body := l.body ++ bs, block := l.block + 1, trailers := l.trailers ++ tr,
          waitFrom := d.now })).screen).loadFetch

def execCfgBlock (s : State) : Host.Outcome State Fault Refusal := took s Device.takeBlock

/-- NOP_PACKET. -/
def Device.nopPacket (d : Device) : Device := (d.packet 0x00).elim d (fun l => d.consume l)

def execNopPacket (s : State) : Host.Outcome State Fault Refusal := took s Device.nopPacket

/-! ### Frames (R415 - R420, R427) -/

/-- SETADDR. [DEDUCED, unsafe: notes/assumptions/111] -/
def Device.setAddr (d : Device) : Device :=
  match d.packet 0x01 with
  | none => d
  | some l =>
    let a : BitVec 40 := BitVec.ofNat 40 (fld l.p1 0 40)
    let d := d.mapLoad (fun x => { x with faddr := a, past := false })
    if (frameIndex a).isNone then d.loadFail 0x12 else d.consume l

def execCfgSetAddr (s : State) : Host.Outcome State Fault Refusal := took s Device.setAddr

/-- The address after `a`: INDEX + 1, or the first INDEX of the next unit; none past the last unit of the plane (R419). -/
def nextFrame (a : BitVec 40) : Option (BitVec 40) :=
  let plane := fld a 38 2
  if plane = 0 then
    if fld a 0 13 + 1 < 6144 then some (a + 1)
    else if fld a 16 6 + 1 < 48 then some (putFld (putFld a 0 13 0) 16 6 (fld a 16 6 + 1))
    else none
  else if plane = 1 then
    if fld a 0 5 + 1 < 32 then some (a + 1)
    else if fld a 16 12 + 1 < 4096 then some (putFld (putFld a 0 5 0) 16 12 (fld a 16 12 + 1))
    else none
  else if fld a 0 16 + 1 < scheduleFrames then some (a + 1)
  else none

/-- The load kind allows a write of the frame at `a` (R426, R427). -/
def Device.frameAllowed (d : Device) (l : Load) (a : BitVec 40) : Bool :=
  let plane := fld a 38 2
  match l.kind with
  | 1 => true
  | 2 => decide (l.planes / 2 ^ plane % 2 = 1)
  | 3 => plane == 0 && l.openRegion == some (fld a 16 6)
  | _ => plane == 2 && l.openSlot.elim false (fun s =>
      fld a 0 16 == s || (l.headerIn && decide (1024 ≤ fld a 0 16) && decide (fld a 0 16 < 32768) &&
        decide ((d.alloc s).1 ≤ 1024 * fld a 0 16) && decide (1024 * fld a 0 16 < (d.alloc s).1 + (d.alloc s).2)))

/-- One frame is written at `a` (R417); refused addresses end the load. -/
def Device.writeFrame (d : Device) (a : BitVec 40) (bs : List Byte) : Device :=
  match d.load with
  | none => d
  | some l =>
    match frameIndex a with
    | none => d.loadFail 0x12
    | some i =>
      if d.frameAllowed l a = false then d.loadFail 0x12
      else
        let d := { d with cfgMem := memWrite d.cfgMem (1024 * i) bs }
        let d := (d.setF Reg.cfgStatus 32 32 (l.frames + 1)).bump Reg.cfgFrameCnt 1
        d.mapLoad (fun l => { l with
          frames := l.frames + 1, headerIn := l.headerIn || (fld a 38 2 == 2 && some (fld a 0 16) == l.openSlot) })

/-- The frames of a FRAMES packet are written from the current frame address on; the last one becomes the frame buffer. -/
def Device.writeFrames (d : Device) : Nat → List Byte → Device
  | 0, _ => d
  | n + 1, bs =>
    match d.load with
    | none => d
    | some l =>
      if l.past then d.loadFail 0x12
      else
        let f := bs.take 1024
        let d := d.writeFrame l.faddr f
        let d := d.mapLoad (fun l => { l with
          frame := some f, faddr := (nextFrame l.faddr).getD l.faddr, past := (nextFrame l.faddr).isNone })
        d.writeFrames n (bs.drop 1024)

/-- `n` bytes copied from `dist` bytes back, over output held newest first (R416). -/
def copyBack (dist : Nat) : Nat → List Byte → List Byte
  | 0, out => out
  | n + 1, out => copyBack dist n (out.getD (dist - 1) 0 :: out)

/-- The commands of an encoded payload, over output held newest first; none where one is invalid (R416). -/
def expand : Nat → List Byte → List Byte → Option (List Byte)
  | _, [], out => some out
  | 0, _ :: _, _ => none
  | fuel + 1, c :: rest, out =>
    let n := c.toNat % 128
    if c.toNat < 128 then
      if rest.length < n + 1 then none else expand fuel (rest.drop (n + 1)) ((rest.take (n + 1)).reverse ++ out)
    else
      match rest with
      | q0 :: q1 :: rest =>
        let q := q0.toNat + 256 * q1.toNat
        let dist := q % 8192 + 1
        if 8192 ≤ q ∨ out.length < dist then none else expand fuel rest (copyBack dist (n + 3) out)
      | _ => none

/-- The payload of a FRAMES packet decoded after the history, oldest first in both (R416). -/
def decodeFrames (history payload : List Byte) (comp : Bool) (len : Nat) : Option (List Byte) :=
  if comp = false then some payload
  else
    match expand payload.length payload history.reverse with
    | none => none
    | some out => if out.length = history.length + len then some ((out.take len).reverse) else none

/-- FRAMES. -/
def Device.framesPacket (d : Device) : Device :=
  match d.packet 0x02 with
  | none => d
  | some l =>
    match decodeFrames l.history ((l.body.drop 16).take l.plen) (bit l.p0 8) l.p1.toNat with
    | none => d.loadFail 0x13
    | some bs =>
      let h := l.history ++ bs
      let d := d.mapLoad (fun l => { l with history := h.drop (h.length - 8192) })
      (d.writeFrames (bs.length / 1024) bs).consume l

def execCfgFrames (s : State) : Host.Outcome State Fault Refusal := took s Device.framesPacket

/-- The frame buffer written to `n` frames from `a` on, stepping INDEX or the unit. -/
def Device.replicate (d : Device) (bs : List Byte) (unit : Bool) : Nat → BitVec 40 → Device
  | 0, _ => d
  | n + 1, a => (d.writeFrame a bs).replicate bs unit n (if unit then a + 0x10000 else a + 1)

/-- REPLICATE. -/
def Device.replicatePacket (d : Device) : Device :=
  match d.packet 0x03 with
  | none => d
  | some l =>
    (d.replicate (l.frame.getD []) (fld l.p1 56 8 == 1) (fld l.p1 40 16 + 1) (BitVec.ofNat 40 (fld l.p1 0 40))).consume l

def execCfgReplicate (s : State) : Host.Outcome State Fault Refusal := took s Device.replicatePacket

/-- STARTUP. -/
def Device.startupPacket (d : Device) : Device :=
  (d.packet 0x04).elim d (fun l => (d.setReg Reg.cfgStartup l.p1).consume l)

def execCfgStartupPacket (s : State) : Host.Outcome State Fault Refusal := took s Device.startupPacket

/-! ### Slots (R182, R421, R426) -/

/-- The valid slots. -/
def Device.validSlots (d : Device) : List Nat := (List.range 1024).filter (fun s => d.regBit (Reg.lntSlotValid (s / 64)) (s % 64))

/-- A slot is checked and becomes valid, is refused, or is empty (R420, R421). -/
def Device.checkSlot (d : Device) (s : Nat) : Device :=
  if d.slotEmpty s then d.slotRewritten s false
  else match d.slotCode s d.validSlots with
    | none => d.slotRewritten s true
    | some c =>
      ((d.setReg Reg.cfgSlotErr (mkWord [(31, 1), (16, c), (0, s)])).bump Reg.cfgSlotRefuseCnt 1).slotRewritten s false

/-- The slot is invalid from now on, and open (R426). -/
def Device.openSlot (d : Device) (s : Nat) : Device :=
  let d := d.setSlotValid s false
  { d with lantern := { d.lantern with rewriting := s :: d.lantern.rewriting } }

/-- A task of slot `s` is due to be selected in this very gcyc: the selection goes before a SLOT_BEGIN (R426). -/
def Device.selectionDue (d : Device) (s : Nat) : Bool :=
  d.mayselect && d.selectAt (max d.now d.lantern.domeFree) == some d.now &&
    (d.pickTask (d.candidates d.now)).elim false (fun t => t.slot == s)

/-- SLOT_BEGIN, held while the slot's task holds or takes the Dome (R182, R426). -/
def Device.slotBegins (d : Device) : Device :=
  match d.packet 0x05 with
  | none => d
  | some l =>
    let s := fld l.p1 0 10
    let d := if d.selectionDue s then d.selectNext [] else d
    if d.lantern.run.elim false (fun r => r.slot == s) then (d.mapLoad (fun l => { l with slotHeld := true })).setHeld true
    else ((d.openSlot s).mapLoad (fun l => { l with openSlot := some s, headerIn := false })).consume l

def execSlotBegin (s : State) : Host.Outcome State Fault Refusal := took s Device.slotBegins

/-- SLOT_END. -/
def Device.slotEnds (d : Device) : Device :=
  match d.packet 0x06 with
  | none => d
  | some l => ((d.checkSlot (fld l.p1 0 10)).mapLoad (fun l => { l with openSlot := none })).consume l

def execSlotEnd (s : State) : Host.Outcome State Fault Refusal := took s Device.slotEnds

/-- LOAD_HOLD_RELEASE: the task that held the load, or the slot, has its completion record (R410, R426). -/
def Device.holdReleased (d : Device) : Device :=
  match d.load with
  | none => d
  | some l =>
    if l.phase = .held then (if d.lantern.run.isNone then d.beginBody else d)
    else if l.slotHeld = true ∧ (d.lantern.run.elim true (fun r => r.slot != fld l.p1 0 10)) = true then
      ((d.mapLoad (fun l => { l with slotHeld := false, waitFrom := d.now })).setHeld false).slotBegins
    else d

def execLoadHoldRelease (s : State) : Host.Outcome State Fault Refusal := took s Device.holdReleased

/-! ### Regions (R394, R396, R399, R406, R425) -/

/-- The region in which access point `a` lies (R385). -/
def apRegion (a : Nat) : Nat := 12 * (a / 16) + 2 + a % 16 / 2

/-- The user sides of the access points of region `r` become active or inactive (R406). -/
def Device.setAps (d : Device) (r : Nat) (b : Bool) : Device :=
  (List.range 64).foldl (fun d a => if apRegion a = r then d.setF Reg.cfgFabApStatus a 1 (b2n b) else d) d

/-- The region's flip-flops, block RAMs and trees run, or are held (R424, R425). -/
def Device.setRegion (d : Device) (r : Nat) (b : Bool) : Device :=
  { d with fabric := { d.fabric with
      writeEn := putFld d.fabric.writeEn r 1 (b2n b), running := putFld d.fabric.running r 1 (b2n b) } }

/-- REGION_BEGIN: the isolators engage. -/
def Device.regionBegins (d : Device) : Device :=
  match d.packet 0x07 with
  | none => d
  | some l =>
    let r := fld l.p1 0 6
    let d := (((d.engage r d.now).setF Reg.cfgRegionValid r 1 0).setAps r false).setRegion r false
    (d.mapLoad (fun l => { l with openRegion := some r })).consume l

def execRegionBegin (s : State) : Host.Outcome State Fault Refusal := took s Device.regionBegins

/-- The word rate of a lane exceeds 800 MHz (R399). -/
def laneBad (x : LaneSetup) : Bool :=
  if x.fec then decide (800000 * 257 * 544 < x.rate * 514) else decide (800000 * x.width < x.rate)

/-- The fabric-plane checks of the banks and lanes in the regions of `p` (R396, R399): bank q lies in CR12q, its lanes in
CR12q + 11. -/
def Device.fabricCode (d : Device) (p : Nat → Bool) : Option Nat :=
  firstCode [
    ((List.range 4).any (fun q => p (12 * q) &&
      (Config.bankVccio d.cfgMem q).elim false (fun v => v != fld d.belfry.vsel (2 * q) 2)), 0x23),
    ((List.range 16).any (fun l => p (12 * (l / 4) + 11) && (Config.laneSetup d.cfgMem l).elim false laneBad), 0x24)]

/-- The banks and lanes of the regions of `p` are released (R396, R401, R424). -/
def Device.releaseIo (d : Device) (p : Nat → Bool) : Device :=
  let d := (List.range 4).foldl (fun d q =>
    if p (12 * q) then d.setF Reg.cfgFabBankStatus (8 + q) 1 (b2n (Config.bankVccio d.cfgMem q).isSome) else d) d
  (List.range 16).foldl (fun d l =>
    if p (12 * (l / 4) + 11) then
      match Config.laneSetup d.cfgMem l with
      | none => d.setF (Reg.cfgFabLaneStatus l) 5 3 0
      | some x => d.setF (Reg.cfgFabLaneStatus l) 5 3 (4 + 2 * b2n x.pam4 + b2n x.fec)
    else d) d

/-- What a design has changed at run time in region `r` is as the fabric plane gives it. -/
def Device.restartRegion (d : Device) (r : Nat) : Device :=
  let x := Config.fabricDesign d.cfgMem
  let lbs := (x.lbs.filter (fun b => b.2.region == r)).map (·.1)
  let wires := (x.crossings.filter (fun c => c.2.tree / 16 == r)).map (·.1)
  { d with fabric := { d.fabric with
      flops := d.fabric.flops.filter (fun e => !lbs.contains (e.1 / 32)),
      crossings := d.fabric.crossings.filter (fun e => !wires.contains e.1),
      cells := if r % 12 = 0 then mapClear d.fabric.cells (24 * (r / 12)) (24 * (r / 12 + 1)) else d.fabric.cells,
      trees := mapClear d.fabric.trees (16 * r) (16 * (r + 1)),
      ports := mapClear d.fabric.ports (192 * r) (192 * (r + 1)),
      fifos := mapClear d.fabric.fifos (96 * r) (96 * (r + 1)),
      isolators := d.fabric.isolators.filter (fun e => !lbs.contains (e.1 / 80)),
      delays := if r % 12 = 0 then mapClear d.fabric.delays (48 * (r / 12)) (48 * (r / 12 + 1)) else d.fabric.delays } }

/-- REGION_END: the region is checked, its writes, resets and dividers are released, then its isolators. -/
def Device.regionEnds (d : Device) : Device :=
  match d.packet 0x08 with
  | none => d
  | some l =>
    let r := fld l.p1 0 6
    match d.fabricCode (· == r) with
    | some c => d.loadFail c
    | none =>
      let d := (((d.restartRegion r).setRegion r true).releaseIo (· == r)).setAps r true
      ((d.setF Reg.cfgRegionValid r 1 1).mapLoad (fun l => { l with openRegion := none })).consume l

def execRegionEnd (s : State) : Host.Outcome State Fault Refusal := took s Device.regionEnds

/-! ### END (R259, R278, R341, R421) -/

/-- The loaded route tables and route map. -/
def Device.loadedRoutes (d : Device) : SMap (Option Nat) :=
  let rs := (List.range 256).filter isRouter
  rs.flatMap (fun r => rs.flatMap (fun t => (List.range 4).filterMap (fun p =>
    (Config.routeEntry d.cfgMem r t p).map (fun x => (routeKey r t p, some x)))))

/-- The loaded route map: PATH and lane of each stream thread (R278). [DEDUCED, unsafe: notes/assumptions/117] -/
def Device.loadedMap (d : Device) : SMap (Option (Nat × Nat)) :=
  (List.range 1024).filterMap (fun t => (Config.routeMapEntry d.cfgMem t).map (fun x => (t, some x)))

/-- The checks of the schedule plane's special frames, in order. [DEDUCED, unsafe: notes/assumptions/112] -/
def Device.specialCode (d : Device) : Option Nat :=
  firstCode [
    (mapBad (Config.memoryMap d.cfgMem), 0x20),
    (routesBad (fun k => mapGet none d.loadedRoutes k) ((d.loadedMap.filterMap (·.2)).map (·.1)).eraseDups, 0x21),
    ((Config.membership d.cfgMem).elim false d.memberBad, 0x22)]

/-- Frequency and alignment states once a membership is loaded (R340, R343, R344): a master and a cluster of one are
ALIGNED; a member that stays in its cluster keeps its state. [DEDUCED, unsafe: notes/assumptions/116] -/
def Device.memberState (d : Device) (old new : Option Member) : Device :=
  let own := new.elim true (fun m => m.device == m.master)
  let same := match old, new with
    | some a, some b => a.clusterId == b.clusterId && a.master == b.master && a.device == b.device
    | _, _ => false
  let src := !own && new.elim false (·.freqSrc)
  let freq := if !src then 4
    else if decide (1 ≤ d.freq) && decide (d.freq ≤ 3) then d.freq
    else if new.elim false (fun m => decide (d.linkState m.upLink = 5)) then 1 else 0
  let d := d.setF Reg.cluStatus 2 3 freq
  d.setF Reg.cluStatus 5 2 (if own then 1 else if same then d.alignState else 0)

/-- Map, route tables, groups and membership of a schedule plane that has passed take effect; links are judged again and an
aligned parent aligns its children (R319, R344, R421). -/
def Device.installPlane (d : Device) : Device :=
  let old := d.cluster.member
  let new := Config.membership d.cfgMem
  let groups := (List.range 256).filterMap (fun g => (Config.groupEntry d.cfgMem g).map (fun x => (g, some x)))
  let d := d.setMap (mapInForce (Config.memoryMap d.cfgMem))
  let d := { d with
    net := { d.net with routes := d.loadedRoutes, routeMap := d.loadedMap },
    cluster := { d.cluster with member := new, groups := groups } }
  ((((d.showMember new).memberState old new).setF Reg.cluStatus 10 1 (b2n (new.elim true (fun m => m.device == m.master))))
    |>.judgeLinks).alignChildren

/-- Every slot is checked, in ascending order. -/
def Device.checkSlots (d : Device) : Device := (List.range 1024).foldl (fun d s => d.checkSlot s) d

/-- The schedule plane is checked and takes effect, or ends the load. -/
def Device.endSchedule (d : Device) : Device :=
  match d.specialCode with
  | some c => d.loadFail c
  | none => ((d.installPlane.setSchedValid true).checkSlots).reevaluate

/-- A load is complete: CONFIGURED, and the measurement M (R424, R447). Tasks that wait on a slot that is not valid end
REFUSED. -/
def Device.loadDone (d : Device) (l : Load) : Device :=
  let base := if l.kind = 1 then List.replicate 64 0 else d.keep.measure
  let m := Config.shake256 (base ++ l.header ++ l.trailers)
  let d := { (d.setCfgState 4).closeLoad with keep := { d.keep with measure := m } }
  let d := if l.kind = 1 then (d.setReg Reg.cfgDesignId (wordAt l.header 2)).setStage 6 else d
  let d := l.openSlot.elim d (fun s => d.slotRewritten s false)
  (d.refuseWhere (fun t => t.state != .queued && !d.slotValid t.slot && !d.lantern.rewriting.contains t.slot)).reevaluate

/-- END of a FULL load: every plane is checked, and start-up begins (R421, R424). -/
def Device.endFull (d : Device) : Device :=
  match d.fabricCode (fun _ => true) with
  | some c => d.loadFail c
  | none =>
    let d := (d.setDomeValid true).endSchedule
    match d.load with
    | none => d.setDomeValid false
    | some _ => ((d.setCfgState 2).setStage 1).mapLoad (fun l => { l with phase := .lock, waitFrom := d.now })

/-- END of a RELOAD: the planes named are checked; Spires of a reloaded Dome plane leave MAINT (R424). -/
def Device.endReload (d : Device) (l : Load) : Device :=
  let d := if l.planes / 4 % 2 = 1 then d.endSchedule else d
  match d.load with
  | none => d
  | some l =>
    let d := if l.planes / 2 % 2 = 1 then { d.setDomeValid true with maintCfg := false } else d
    d.loadDone l

/-- END_PACKET. -/
def Device.endPacket (d : Device) : Device :=
  match d.packet 0x0F with
  | none => d
  | some l =>
    if fld l.p1 0 40 ≠ l.frames then d.loadFail 0x14
    else
      let d := d.mapLoad (fun x => { x with body := x.body.drop 16, done := x.done + 16 })
      match l.kind with
      | 1 => d.endFull
      | 2 => d.endReload l
      | _ => d.loadDone l

def execEndPacket (s : State) : Host.Outcome State Fault Refusal := took s Device.endPacket

/-! ### Start-up (R347, R424) -/

/-- The order of the three stages that CFG_STARTUP gives. -/
def stageOrder (w : Word) : List Nat :=
  let l := [fld w 0 2, fld w 2 2, fld w 4 2]
  if l.contains 1 && l.contains 2 && l.contains 3 then l else [1, 2, 3]

/-- LOCK_STAGE: every required PLL reports lock, and CFG_STARTUP is taken. -/
def Device.lockStage (d : Device) : Device :=
  match d.load with
  | some l =>
    if l.phase = .lock then
      let used := (Config.pllUsed d.cfgMem).toNat
      (d.setF Reg.cfgFabPllStatus 0 24 (d.regF Reg.cfgFabPllStatus 0 24 ||| used)).mapLoad (fun l => { l with
        phase := .stages (stageOrder (d.reg Reg.cfgStartup)), waitFrom := d.now })
    else d
  | none => d

def execLockStage (s : State) : Host.Outcome State Fault Refusal := took s Device.lockStage

/-- LOCK_LIMIT_EXPIRY: lock has not been reached within LOCK_LIMIT. -/
def Device.lockLimit (d : Device) : Device :=
  match d.load with
  | some l =>
    if l.phase = .lock then (d.advance (l.waitFrom + 100000 * d.regF Reg.cfgStartup 24 8)).loadFail 0x40 else d
  | none => d

def execLockLimitExpiry (s : State) : Host.Outcome State Fault Refusal := took s Device.lockLimit

/-- GAP Belfry clocks after the stage before it (R424). -/
def Device.afterGap (d : Device) (l : Load) : Device := d.advance (l.waitFrom + 20 * d.regF Reg.cfgStartup 8 8)

/-- Stage `code` runs by `f`, when it is the next one. -/
def Device.stage (d : Device) (code : Nat) (f : Device → Device) : Device :=
  match d.load with
  | none => d
  | some l =>
    match l.phase with
    | .stages (c :: rest) =>
      if c = code then
        let d := f ((d.afterGap l).setStage (4 - rest.length))
        d.mapLoad (fun l => { l with phase := .stages rest, waitFrom := d.now })
      else d
    | _ => d

/-- OUT_REL. [DEDUCED, unsafe: notes/assumptions/115] -/
def Device.outRel (d : Device) : Device :=
  ((d.releaseIo (fun _ => true)).setReg Reg.cfgFabApStatus (-1)).setReg Reg.cfgRegionValid 0xFFFFFFFFFFFF

def execOutRel (s : State) : Host.Outcome State Fault Refusal := took s (·.stage 1 Device.outRel)

/-- WR_EN. -/
def Device.wrEn (d : Device) : Device := { d with fabric := { d.fabric with writeEn := -1 } }

def execWrEn (s : State) : Host.Outcome State Fault Refusal := took s (·.stage 2 Device.wrEn)

/-- RST_REL: resets are released, dividers start, and MAINT ends in every Spire (R394, R424). -/
def Device.rstRel (d : Device) : Device := { d with fabric := { d.fabric with running := -1, trees := [] }, maintCfg := false }

def execRstRel (s : State) : Host.Outcome State Fault Refusal := took s (·.stage 3 Device.rstRel)

/-- CDONE_STAGE: CDONE is released, unless a pin-controlling instruction holds the pins (R487); with CDONE_WAIT the engine waits until
CDONE reads high. -/
def Device.cdoneStage (d : Device) : Device :=
  match d.load with
  | none => d
  | some l =>
    if l.phase = .stages [] then
      let d := (d.afterGap l).setStage 5
      let d := { d with belfry := { d.belfry with cdoneLow := d.pinsTaken } }
      if d.regBit Reg.cfgStartup 16 = true ∧ d.belfry.cdone = false then
        (d.setCfgState 3).mapLoad (fun l => { l with phase := .cdone })
      else d.loadDone l
    else d

def execCdoneStage (s : State) : Host.Outcome State Fault Refusal := took s Device.cdoneStage

/-- CDONE_RISE: the net reads high through the filter, which it cannot while this device holds it low (R347, R348). -/
def Device.cdoneRose (d : Device) : Device :=
  if d.belfry.cdoneLow then d
  else
    let d := { d with belfry := { d.belfry with cdone := true } }
    match d.load with
    | some l => if l.phase = .cdone then d.loadDone l else d
    | none => d

def execCdoneRise (s : State) : Host.Outcome State Fault Refusal := took s (·.pinEvent Device.cdoneRose)

/-! ### Readback (R428) -/

/-- CFG_RB_DATA reads `bs`. -/
def Device.setRbData (d : Device) (bs : List Byte) : Device :=
  (List.range 128).foldl (fun d i => d.setReg (Reg.cfgRbData i) (wordAt bs i)) d

/-- READBACK: a write of CFG_RB_ADDR; GO requests the readback, which may be refused. -/
def Device.readback (d : Device) (w : Word) : Device :=
  let d := d.setReg Reg.cfgRbAddr (BitVec.ofNat 64 (fld w 0 40))
  if bit w 63 = false then d
  else if d.load.isSome || d.regBit Reg.cfgStatus 7 || bit d.keep.fuses.policy 2 ||
      (frameIndex (BitVec.ofNat 40 (fld w 0 40))).isNone then
    (d.setRbData []).setReg Reg.cfgRbStatus 2
  else d.setReg Reg.cfgRbStatus 1

def execReadback (data : Word) (s : State) : Host.Outcome State Fault Refusal := took s (·.readback data)

/-- READBACK_COMPLETE. [DEDUCED, unsafe: notes/assumptions/118] -/
def Device.readbackDone (d : Device) : Device :=
  if d.regBit Reg.cfgRbStatus 0 = false then d
  else match frameIndex (BitVec.ofNat 40 (d.regF Reg.cfgRbAddr 0 40)) with
    | none => d
    | some i => (d.setRbData (memRead d.cfgMem (1024 * i) 1024)).setReg Reg.cfgRbStatus 4

def execReadbackComplete (s : State) : Host.Outcome State Fault Refusal := took s Device.readbackDone

end Sys2Proof.Machine
end

