-- ==== Sys2Proof/Machine/Cluster.lean ====
section
/-!
DEFINITION. The cluster's commands: alignment of the global cycle counters, frequency lock, the fall of CDONE, cluster
starts, reports, aborts and their end (R340 - R355, R195 - R199).
-/
namespace Sys2Proof.Machine

open Sys2Proof

/-! ### Alignment (R344 - R346) -/

/-- What of the trim in progress is still to come at gcyc `g`: it moves the edge by 1/64 gcyc a gcyc (R346). -/
def Device.trimLeft (d : Device) (g : Nat) : Int :=
  let left : Int := (d.belfry.trim.natAbs - (g - d.belfry.trimFrom) : Nat)
  if d.belfry.trim < 0 then -left else left

/-- The counter at gcyc `g` in 1/64 gcyc, with the alignment of its edge (R344, R346). -/
def Device.at64 (d : Device) (g : Nat) : Int := 64 * (g : Int) + d.belfry.edge64 - d.trimLeft g

def Device.now64 (d : Device) : Int := d.at64 d.now

/-- A 64-bit counter value with six fractional bits, as a control unit carries it (R344). -/
def stamp64 (x : Int) : Nat := (x % 2 ^ 70).toNat

def Device.stampAt (d : Device) (g : Nat) : Nat := stamp64 (d.at64 g)

/-- The difference of two stamps, as a signed number. -/
def stampDiff (a b : Nat) : Int :=
  let n := ((a : Int) - b) % 2 ^ 70
  if n < 2 ^ 69 then n else n - 2 ^ 70

/-- A frequency state in which a member aligns itself (R344). -/
def Device.freqSettled (d : Device) : Bool := decide (d.freq = 2) || decide (d.freq = 4)

/-- ALIGN, received at gcyc `at_`: the child notes T1 and T2 and answers with ALIGN_ECHO, whose T3 is filled in as it is sent. -/
def Device.alignReceived (d : Device) (n t1 at_ : Nat) : Device :=
  if d.isUpLink n && d.freqSettled && decide (d.linkState n = 5) then
    { d with cluster := { d.cluster with t1 := some t1, t2 := some (d.stampAt at_), t3 := none } }.sendControl n 0x11
      [d.stampAt at_, 0]
  else d

def execCluAlign (link : Fin 64) (t1 : Nat) (s : State) : Host.Outcome State Fault Refusal :=
  took s (fun d => d.alignReceived link t1 d.now)

/-- ALIGN_ECHO, received at gcyc `at_`: the parent takes T4 and sends ALIGN_RESULT. -/
def Device.alignEcho (d : Device) (n at_ : Nat) : Device :=
  if d.alignsChild n then d.sendControl n 0x12 [d.stampAt at_] else d

def execCluAlignEcho (link : Fin 64) (_t2 _t3 : Nat) (s : State) : Host.Outcome State Fault Refusal :=
  took s (fun d => d.alignEcho link d.now)

/-- The offset of the child's counter from its parent's (R344), rounded towards minus infinity to 1/64 gcyc. -/
def offset64 (t1 t2 t3 t4 : Nat) : Int := (stampDiff t2 t1 - stampDiff t4 t3) / 2

/-- The last offset in CLU_ALIGN, saturated to 32 bits, with the link of the handshake (R360). -/
def Device.noteTheta (d : Device) (n : Nat) (theta : Int) : Device :=
  let v := max (-2 ^ 31) (min (2 ^ 31 - 1) theta)
  d.setReg Reg.cluAlign (mkWord [(32, n), (0, (v % 2 ^ 32).toNat)])

/-- The step of an UNALIGNED member is applied: the counter takes its integer correction and its edge moves by the
fraction; the member is ALIGNED and aligns its children (R345). -/
def Device.applyStep (d : Device) (c : Int) : Device :=
  let x := d.now64 + c
  let g := (max 0 (x / 64)).toNat
  let d := { d with belfry := { d.belfry with gcyc := g, edge64 := x % 64, trim := 0, trimFrom := 0 }, cluster := { d.cluster with step := none } }
  ((d.bump Reg.cluAlignStepCnt 1).setF Reg.cluStatus 5 2 1).alignChildren

/-- Alignment is LOST by an offset of `theta` on link `n` (R346): counted, and a cluster task that the member holds ends
FAULT with a fault record. [DEDUCED, unsafe: notes/assumptions/78] -/
def Device.alignLost (d : Device) (n : Nat) (theta : Int) : Device :=
  let d := (d.setF Reg.cluStatus 5 2 2).bump Reg.cluAlignLostCnt 1
  if d.lantern.run.elim false (·.cluster) then
    (d.faultRecord 0x41 n [(8, n)] (BitVec.ofInt 64 theta) 0 0 0 0 d.now 0).faultTask d.now
  else d

/-- ALIGN_RESULT: the child computes its offset. An UNALIGNED one steps, at once if no task holds its Dome; an ALIGNED one
trims its phase, or is LOST when the offset is above 1/2 gcyc (R344 - R346). -/
def Device.alignResult (d : Device) (n t4 : Nat) : Device :=
  match d.isUpLink n, d.cluster.t1, d.cluster.t2, d.cluster.t3 with
  | true, some t1, some t2, some t3 =>
    let theta := offset64 t1 t2 t3 t4
    let d := { d with cluster := { d.cluster with t1 := none, t2 := none, t3 := none } }.noteTheta n theta
    if d.alignState = 0 then
      if d.lantern.run.isSome then { d with cluster := { d.cluster with step := some (-theta) } } else d.applyStep (-theta)
    else if d.alignState = 1 then
      if theta.natAbs ≤ 32 then
        let left := d.trimLeft d.now
        { d with belfry := { d.belfry with edge64 := d.belfry.edge64 - left - theta, trim := -theta, trimFrom := d.now } }
      else d.alignLost n theta
    else d
  | _, _, _, _ => d

def execCluAlignResult (link : Fin 64) (t4 : Nat) (s : State) : Host.Outcome State Fault Refusal :=
  took s (·.alignResult link t4)

/-- ALIGNMENT_STEP: no task holds the Dome any more. A LOST member is UNALIGNED again, and a step that waited is applied
(R345, R346). -/
def Device.alignmentStep (d : Device) : Device :=
  if d.lantern.run.isSome then d
  else if d.alignState = 2 then d.setF Reg.cluStatus 5 2 0
  else match d.alignState, d.cluster.step with
    | 0, some c => d.applyStep c
    | _, _ => d

def execAlignmentStep (s : State) : Host.Outcome State Fault Refusal := took s Device.alignmentStep

/-- ALIGN_CHECK: CHECK_PERIOD after the last handshakes an aligned parent repeats them (R346). -/
def Device.alignCheck (d : Device) : Device :=
  if d.alignState = 1 ∧ d.cluster.member.isSome then
    (d.advance (d.cluster.lastCheck + 65536 * max 1 (d.regF Reg.cluCtl 0 16))).alignChildren
  else d

def execAlignCheck (s : State) : Host.Outcome State Fault Refusal := took s Device.alignCheck

/-- A write of CLU_CTL.REALIGN: the member is UNALIGNED (R360). The master has no parent and stays as it is.
[DEDUCED, unsafe: notes/assumptions/79] -/
def Device.realign (d : Device) : Device :=
  if d.isMaster then d
  else { d.setF Reg.cluStatus 5 2 0 with cluster := { d.cluster with step := none, t1 := none, t2 := none, t3 := none } }

def execRealign (s : State) : Host.Outcome State Fault Refusal := took s Device.realign

/-- FREQUENCY_LOCK: a member in ACQUIRE is LOCKED (R343). -/
def Device.frequencyLock (d : Device) : Device := if d.freq = 1 then d.setF Reg.cluStatus 2 3 2 else d

def execFrequencyLock (s : State) : Host.Outcome State Fault Refusal := took s Device.frequencyLock

/-! ### CDONE (R348) -/

/-- CDONE_FALL: counted; the master aborts a cluster task in progress. [DESIGN CHOICE, safe: notes/assumptions/23] -/
def Device.cdoneFell (d : Device) : Device :=
  if d.belfry.cdone = false then d
  else
    let d := { d with belfry := { d.belfry with cdone := false } }.bump Reg.cluCdoneFallCnt 1
    match d.lantern.run with
    | some r => if r.cluster && d.isMaster then d.decideAbort r.ctx else d
    | none => d

def execCdoneFall (s : State) : Host.Outcome State Fault Refusal := took s (·.pinEvent Device.cdoneFell)

/-! ### Start of a cluster task (R196, R199, R353) -/

/-- A flood that link `n` brings: the first copy is forwarded and acted on, later ones are discarded (R350). -/
def Device.flooded (d : Device) (n typ seq : Nat) (words : List Nat) (act : Device → Device) : Device :=
  if d.cluster.seen.contains (typ, seq) || d.cluster.member.isNone then d
  else act ((d.noteFlood typ seq).sendFlood typ (words ++ [seq]) (some n))

/-- The attempt that a member has reported on makes way for its restart: its queues are rewound (R193, R199). -/
def Device.dropAttempt (d : Device) (ctx : Nat) : Device :=
  match d.lantern.run with
  | none => d
  | some r =>
    if r.cluster && r.ctx == ctx then
      let d := r.queues.foldl (fun d q => d.rewindQueue q) d
      (((d.stopThreads .other).loadIdleWheels.dropTables).dropTask r.task).freeDome d.now
    else d

/-- START: the member forwards it, asks for its clocks and prepares the slot to start at S. -/
def Device.startReceived (d : Device) (n start slot epoch ctx : Nat) (restart : Bool) (seq : Nat) : Device :=
  d.flooded n 0x13 seq [start, slot, epoch, ctx, b2n restart] (fun d =>
    if d.isMaster then d
    else
      let made := (d.lantern.run.filter (fun r => r.cluster && r.ctx == ctx)).elim 0 (·.retries)
      let d := if restart then d.dropAttempt ctx else d
      let p : CluPending := { start := start, slot := slot, epoch := epoch, ctx := ctx, retry := if restart then made + 1 else 0,
                              late := decide (start < d.now) }
      { d with lantern := { d.lantern with cluPend := some p },
               cluster := { d.cluster with reports := [], reported := false } }.requestWake true)

def execCluStart (link : Fin 64) (start : Nat) (slot : Fin 1024) (epoch : Nat) (ctx : Fin 65536) (restart : Bool)
    (seq : Fin 65536) (s : State) : Host.Outcome State Fault Refusal :=
  took s (·.startReceived link start slot epoch ctx restart seq)

/-- The lowest of reasons 0x1 - 0x4 that applies (R353). -/
def Device.clusterReason (d : Device) : Option Nat :=
  if d.belfry.cdone = false then some 1
  else if d.freqSettled = false then some 2
  else if d.alignState ≠ 1 then some 3
  else if d.cluster.member.elim false (fun m => (linksOf m.links).any (fun n => !d.carriesScheduled n)) then some 4
  else none

/-- The lowest reason for which this device cannot start at S (R353). A tally save of the same context that is still in
progress counts as a Dome that is still held (R21). On the master, which holds its own Dome for the task
and whose holds delayed its selection, reason 0x6 arises from MAINT alone (R129, R462, R463).
[DEDUCED, unsafe: notes/assumptions/148] -/
def Device.startReason (d : Device) (slot epoch ctx : Nat) (late : Bool) : Option Nat :=
  match d.clusterReason with
  | some x => some x
  | none =>
    if d.slotValid slot = false ∨ fld (wd (d.slotHeader slot) 0) 32 32 ≠ epoch then some 5
    else if d.anyMaint then some 6
    else if d.isMaster = false ∧ (d.lantern.run.isSome = true ∨ d.now < d.lantern.domeFree ∨ d.mayselect = false ∨
        d.lantern.save.any (fun v => v.ctx == ctx) = true) then some 6
    else if d.power ≠ 0 ∨ late = true then some 7
    else none

/-- The NOSTART of device `dev` reaches the master: a fault record, and the abort (R197, R353).
[DEDUCED, unsafe: notes/assumptions/83] -/
def Device.noStart (d : Device) (dev reason : Nat) : Device :=
  match d.lantern.run with
  | some r =>
    if r.cluster then
      (d.faultRecord 0x52 dev [(8, dev), (18, reason)] 0 0 0 0 0 d.now 0).decideAbort r.ctx
    else d
  | none => d

/-- The task that a member runs for its master (R196): no ring, no record. -/
def remoteTask (id : Nat) (p : CluPending) : Task :=
  { id := id, ring := 0, words := [mkWord [(0, p.ctx), (16, p.slot)], 0, 0, 0, 0, 0, 0, 0], accepted := p.start,
    state := .starting, since := p.start, consumed := [], remote := true }

/-- A member starts its part of a cluster task at S: its private tallies are loaded and the start cycle is taken (R196). -/
def Device.startMember (d : Device) (p : CluPending) (ecc : List (Fin 16 × Bool)) : Device :=
  let t := remoteTask d.lantern.nextId p
  let bank := d.lantern.bank
  let d := { d with lantern := { d.lantern with tasks := d.lantern.tasks ++ [t], nextId := t.id + 1, bank := 1 - bank,
                                                cluPend := none } }
  let r := { d.newRun t p.start p.retry bank [] with cluster := true, clocks := some p.start, start := some p.start }
  let d := { ((d.setRun (some r)).ctxEccs p.ctx true ecc).loadBank p.ctx bank with belfry := { d.belfry with idleFrom := none } }
  d.startTask r t p.start

/-- START_READINESS: at S the cluster task starts, or NOSTART is sent with the lowest reason (R353). `ecc`: what SECDED found in
the words of the context record that a member loads (R206). -/
def Device.startReadiness (d : Device) (ecc : List (Fin 16 × Bool)) : Device :=
  match d.lantern.cluPend with
  | some p =>
    let d := d.advance p.start
    match d.startReason p.slot p.epoch p.ctx p.late with
    | none => d.startMember p ecc
    | some x =>
      let d := { d with lantern := { d.lantern with cluPend := none } }
      (d.bump Reg.cluNostartCnt 1).sendUp 0x17 [d.device, x]
  | none =>
    match d.lantern.run with
    | none => d
    | some r =>
      match d.task r.task, r.start with
      | some t, some start =>
        if r.cluster = false ∨ t.state ≠ .starting then d
        else
          let d := d.advance start
          match d.startReason r.slot (fld (wd r.header 0) 32 32) r.ctx false with
          | none => d.startTask r t start
          | some x => (d.bump Reg.cluNostartCnt 1).noStart d.device x
      | _, _ => d

def execStartReadiness (s : State) (ecc : List (Fin 16 × Bool) := []) : Host.Outcome State Fault Refusal :=
  took s (·.startReadiness ecc)

/-- NOSTART: the master aborts; a member forwards it up the tree (R350, R353). -/
def Device.noStartReceived (d : Device) (dev reason : Nat) : Device :=
  if d.isMaster then d.noStart dev reason else d.relayUp 0x17 [dev, reason]

def execCluNoStart (link : Fin 64) (device : Fin 1024) (reason : Fin 8) (s : State) : Host.Outcome State Fault Refusal :=
  took s (fun d => if d.isUpLink link then d else d.noStartReceived device reason)

/-! ### Aborts (R197, R355) -/

/-- A member that an ABORT has reached has nothing running for it: it reports at once (R197).
[DEDUCED, unsafe: notes/assumptions/85] -/
def Device.reportIdle (d : Device) : Device :=
  d.sendUp 0x16 (reportWords
    { status := 0xA, mx := 0, vx := 0, cause := 0, bad := 1, firstBad := some d.device, cover := 1 })

/-- ABORT: the member forwards it and applies the abort; it reports when it has finished, at once where its attempt is not
RUNNING (R197, R350). -/
def Device.abortReceived (d : Device) (n ctx seq : Nat) : Device :=
  d.flooded n 0x14 seq [ctx] (fun d =>
    if d.isMaster then d
    else
      let d := d.abortClusterLocal ctx
      match d.lantern.run with
      | some r =>
        if r.cluster = false ∨ r.ctx ≠ ctx then d.reportIdle
        else if (d.task r.task).elim false (fun t => t.state == .running) then d
        else { d with cluster := { d.cluster with reported := true } }.sendUp 0x16 (reportWords (d.ownReport r 0xA))
      | none => d.reportIdle)

def execCluAbort (link : Fin 64) (ctx : Fin 65536) (seq : Fin 65536) (s : State) : Host.Outcome State Fault Refusal :=
  took s (·.abortReceived link ctx seq)

/-- ABORT_REQ: the master decides the abort of a cluster task in progress; a member forwards the request (R355). -/
def Device.abortAsked (d : Device) (dev ctx : Nat) : Device :=
  if d.isMaster then
    if d.lantern.run.elim false (fun r => r.cluster && r.ctx == ctx) then d.decideAbort ctx else d
  else d.relayUp 0x19 [dev, ctx]

def execCluAbortReq (link : Fin 64) (device : Fin 1024) (ctx : Fin 65536) (s : State) : Host.Outcome State Fault Refusal :=
  took s (fun d => if d.isUpLink link then d else d.abortAsked device ctx)

/-- CLUSTER_ABORT_TIMEOUT: 10,000 gcyc after its decision the master issues its record without the missing reports
(R197). -/
def Device.abortTimeout (d : Device) : Device :=
  match d.holder, d.cluster.abortFrom with
  | some h, some g =>
    let d := d.advance (g + 10000)
    let h := d.holder.getD h
    d.clusterAborted h.1 h.2 d.now
  | _, _ => d

def execClusterAbortTimeout (s : State) : Host.Outcome State Fault Refusal := took s Device.abortTimeout

/-! ### Reports and the end (R198, R352) -/

/-- REPORT: a member keeps its child's report for its own while it is COMPLETING, and forwards the report of a fault or of
an abort; the master combines reports, and aborts on the report of a fault while RUNNING (R197, R350, R352). -/
def Device.reportReceived (d : Device) (n : Nat) (rep : ReportUnit) : Device :=
  let store := { d with cluster := { d.cluster with reports := d.cluster.reports.filter (fun e => e.1 != n) ++ [(n, rep)] } }
  let running := d.lantern.run.bind (fun r => if r.cluster then (d.task r.task).map (fun t => (r, t.state)) else none)
  if d.isMaster then
    match running with
    | none => d
    | some (r, st) =>
      if d.cluster.abortFrom.isSome then
        { d with cluster := { d.cluster with reports := d.cluster.reports ++ [(n, rep)] } }.tryClusterAborted
      else if st = .running then (if rep.status = 0xB then d.decideAbort r.ctx else d)
      else if st = .completing then store
      else d
  else
    match running with
    | some (r, .completing) =>
      if r.aborted then d.relayUp 0x16 (reportWords rep) else if d.cluster.reported then d else store
    | _ => d.relayUp 0x16 (reportWords rep)

def execCluReport (link : Fin 64) (report : ReportUnit) (s : State) : Host.Outcome State Fault Refusal :=
  took s (fun d => if d.isUpLink link then d else d.reportReceived link report)

/-- The report of the child `c`: what it delivered, or its subtree as members ending FAULT (R352). -/
def Device.childReport (d : Device) (c : Child) : ReportUnit :=
  match d.cluster.reports.find? (fun e => e.1 == c.link) with
  | some e => e.2
  | none => { status := 0xB, mx := 0, vx := 0, cause := 0, bad := c.subtree, firstBad := some c.subMin, cover := 0 }

/-- The combined report of this device and its children (R352). -/
def Device.combined (d : Device) (r : Run) (status : Nat) : ReportUnit :=
  d.cluster.member.elim (d.ownReport r status)
    (fun m => (m.children.map d.childReport).foldl addReports (d.ownReport r status))

/-- REPORT_SEND: at E + 1 + REPORT_OFF a member sends its one REPORT (R352). -/
def Device.reportSend (d : Device) : Device :=
  match d.lantern.run, d.cluster.member with
  | some r, some m =>
    match d.task r.task, r.decided with
    | some t, some status =>
      if r.cluster = false ∨ t.state ≠ .completing ∨ d.isMaster = true ∨ d.cluster.reported = true ∨ r.aborted = true then d
      else
        let d := d.advance (t.since + 1 + m.reportOff)
        { d with cluster := { d.cluster with reported := true } }.sendUp 0x16 (reportWords (d.combined r status))
    | _, _ => d
  | _, _ => d

def execReportSend (s : State) : Host.Outcome State Fault Refusal := took s Device.reportSend

/-- Children whose report has not arrived leave a fault record (R476). -/
def Device.noteMissing (d : Device) (rep : ReportUnit) : Device :=
  match d.cluster.member.bind (fun m => (m.children.find? (fun c => !d.cluster.reports.any (fun e => e.1 == c.link))).map (fun c => (m, c))) with
  | some (m, c) => d.faultRecord 0x51 c.link [(8, c.subMin)] (BitVec.ofNat 64 (m.membersM1 + 1 - rep.cover)) 0 0 0 0 d.now 0
  | none => d

/-- REPORT_DEADLINE: at E + 1 + REPORT_LAT the master restarts the POISONED cluster task, or issues the cluster's one
completion record and floods FINAL (R198, R199, R352). [DEDUCED, unsafe: notes/assumptions/82] -/
def Device.reportDeadline (d : Device) (ecc : List (Fin 16 × Bool)) : Device :=
  match d.holder with
  | none => d
  | some (r, t) =>
    if r.cluster = false ∨ t.state ≠ .completing ∨ r.decided = none ∨ d.isMaster = false ∨ d.cluster.abortFrom.isSome then d
    else
      let g := t.since + 1 + fld (wd r.header 2) 32 16
      let d := d.advance g
      let rep := d.combined r (r.decided.getD 8)
      let d := d.noteMissing rep
      let r := d.lantern.run.getD r
      let d := { d with cluster := { d.cluster with reports := [] } }
      let d := if rep.status = 9 then d.bump Reg.lntPoisonCnt 1 else d
      if d.mayRestart r rep.status then d.restartTask r t g ecc
      else
        (d.originate 0x15 [rep.status]).finishTask r t
          { r.endRecord rep.status (r.start.getD g) with
            flags := mkWord [(0, rep.mx), (8, rep.vx)], cause := rep.cause, bad := rep.bad, firstBad := rep.firstBad } g

/-- REPORT_DEADLINE; `ecc`: what SECDED found in the words of the context record that a restart loads (R206). -/
def execReportDeadline (s : State) (ecc : List (Fin 16 × Bool) := []) : Host.Outcome State Fault Refusal :=
  took s (·.reportDeadline ecc)

/-- FINAL: the member's part ends with the master's STATUS; its private tallies are saved only for OK (R198). -/
def Device.finalReceived (d : Device) (n status seq : Nat) : Device :=
  d.flooded n 0x15 seq [status] (fun d =>
    match d.lantern.run with
    | some r =>
      match d.task r.task with
      | some t =>
        if r.cluster = false ∨ d.isMaster = true then d
        else
          let d := if status = 9 then d.bump Reg.lntPoisonCnt 1 else d
          d.finishTask r t (r.endRecord status (r.start.getD d.now)) d.now
      | none => d
    | none => d)

def execCluFinal (link : Fin 64) (status : Fin 16) (seq : Fin 65536) (s : State) : Host.Outcome State Fault Refusal :=
  took s (·.finalReceived link status seq)

end Sys2Proof.Machine
end

