-- ==== Sys2Proof/Machine/Dome.lean ====
section
/-!
DEFINITION. The commands of the Dome: the DOP step, MAINT, and the residue injection (R84, R96, R129).
-/
namespace Sys2Proof.Machine

open Sys2Proof

/-- DOP_STEP: the next DOP of the running task is launched at its stamp (R96, R104, R179). -/
def Device.dopStep (d : Device) (env : DopEnv) : Device :=
  match d.nextStep 1 with
  | none => d
  | some (r, s1, stamp) =>
    let d := (d.issueStep stamp).mapRun (fun r => { r with nextOp := r.nextOp + 1 })
    let e := d.dopDesc (fld s1 0 24)
    d.launch r.nextOp e (dopT0 e stamp) env

def execDopStep (env : DopEnv) (s : State) : Host.Outcome State Fault Refusal := took s (·.dopStep env)

/-- MAINT by MAINT_REQ takes effect in Spire `n`, or ends. -/
def Device.setMaint (d : Device) (n : Nat) (on : Bool) : Device := d.setF (Reg.sprVxStatus n) 16 1 (b2n on)

/-- MAINT_REQ: a request takes effect at once when no task holds the Dome; a write of 0 ends MAINT at once (R129). -/
def Device.maintReq (d : Device) (n : Nat) (on : Bool) : Device :=
  let d := d.setF (Reg.sprVxCtl n) 31 1 (b2n on)
  if on = false then d.setMaint n false else if d.domeHeld then d else d.setMaint n true

def execMaintReq (spire : Fin 4096) (on : Bool) (s : State) : Host.Outcome State Fault Refusal := took s (·.maintReq spire on)

/-- The Spires that ask for MAINT. -/
def Device.maintAsked (d : Device) : List Nat :=
  (d.regs.filter (fun e => isSpireReg e.1 0x100 && bit e.2 31)).map (fun e => (e.1 - 0x1000000) / 0x1000)

/-- MAINT_ENTRY: with no task holding the Dome, every requested MAINT takes effect (R129). -/
def Device.maintEntry (d : Device) : Device :=
  if d.domeHeld then d else d.maintAsked.foldl (fun d n => d.setMaint n true) d

def execMaintEntry (s : State) : Host.Outcome State Fault Refusal := took s Device.maintEntry

/-- SPR_VX_CTL_START: START_PC is written; the program there runs if the Spire is in MAINT and VX is idle (R129, R131). -/
def Device.vxStart (d : Device) (n pc : Nat) : Device :=
  let d := d.setF (Reg.sprVxCtl n) 0 11 pc
  if d.spireMaint n = false ∨ (d.vx n).prog.isSome = true then d
  else
    let d := d.domeTo (4 * d.now)
    d.startProgram n d.dome.clock .maint 0 pc

def execSprVxCtlStart (spire : Fin 4096) (pc : Fin 2048) (s : State) : Host.Outcome State Fault Refusal :=
  took s (·.vxStart spire pc)

/-- RCK_INJ_ARM: ROW and COL are written; ARM is set only in MAINT (R84, R87). -/
def Device.armInjection (d : Device) (n row col : Nat) : Device :=
  let d := d.setFs (Reg.sprRckInj n) [(5, 5, row), (0, 5, col)]
  if d.spireMaint n then d.setF (Reg.sprRckInj n) 31 1 1 else d

def execRckInjArm (spire : Fin 4096) (row col : Fin 32) (s : State) : Host.Outcome State Fault Refusal :=
  took s (·.armInjection spire row col)

end Sys2Proof.Machine
end

