-- ==== Sys2Proof/Machine/HostIf.lean ====
section
/-!
DEFINITION. The PCI Express endpoint's commands: doorbells, rings and run records, inputs, BAR2 and its prefetcher, host
reads, resets, link power, translations, errors and the page of a virtual function (R240, R361 - R384, R508).
-/
namespace Sys2Proof.Machine

open Sys2Proof

def Device.mapHif (d : Device) (f : Hif → Hif) : Device := { d with hif := f d.hif }

/-- Traffic on the PCIe link ends ASPM L1 and restarts its idle count (R362). -/
def Device.linkUse (d : Device) : Device := d.mapHif (fun h => { h with l1 := false, idleSince := max h.idleSince d.now })

/-! ### Error reporting (R382) -/

/-- Functions that an unattributed error is logged in: the PF and the virtual functions in use. -/
def Device.liveFuncs (d : Device) : List Nat :=
  0 :: ((List.range 64).drop 1).filter (fun f => (d.func f).busMaster || (d.func f).memSpace)

/-- An error of a class of the AER status register of function `f`, with its message: 0 correctable, 1 non-fatal,
2 fatal. [PRESUMED, unsafe: notes/assumptions/28] -/
def Device.aerLog (d : Device) (f statusBit severity : Nat) : Device :=
  let x := d.func f
  (d.setFunc f { x with aer := x.aer ||| BitVec.ofNat 32 (2 ^ statusBit) }).emit (.aer f severity)

/-- A bit of the correctable status register of function `f` (R382). -/
def Device.aerCorrect (d : Device) (f statusBit : Nat) : Device :=
  let x := d.func f
  d.setFunc f { x with aerCor := x.aerCor ||| BitVec.ofNat 32 (2 ^ statusBit) }

/-- A poisoned TLP is received: advisory non-fatal (R382). -/
def Device.poisonedTlp (d : Device) (f : Nat) : Device := ((d.bump Reg.hifPoisRxCnt 1).aerCorrect f 13).aerLog f 12 0

/-- How a failed host read is logged. -/
def Device.logRead (d : Device) (f : Nat) : ReadResult → Device
  | .ok _ => d
  | .timeout => d.aerLog f 14 1
  | .unsuccessful => d.aerLog f 15 1
  | .poisoned => d.poisonedTlp f

/-- UNSUPPORTED_REQUEST: a request that no enabled BAR claims; a non-posted one is answered (R382). -/
def Device.unsupported (d : Device) (f : Nat) (tag : Option Nat) : Device :=
  let d := d.aerLog f 20 1
  tag.elim d (fun t => d.emit (.completion t 1 [] false))

def execUnsupportedRequest (func : Fin 64) (tag : Option Nat) (s : State) : Host.Outcome State Fault Refusal :=
  took s (·.unsupported func tag)

/-- An error of function `f`: an uncorrectable one with its class, or a correctable one, which the link layer has retried. -/
def Device.aerError (d : Device) (f : Nat) : TlpError → Device
  | .ecrc => d.aerLog f 19 1
  | .malformed => d.aerLog f 18 2
  | .flowControl => d.aerLog f 13 2
  | .overflow => d.aerLog f 17 2
  | .unexpectedCompletion => d.aerLog f 16 1
  | .receiver => (d.aerCorrect f 0).emit (.aer f 0)
  | .badTlp => (d.aerCorrect f 6).emit (.aer f 0)
  | .badDllp => (d.aerCorrect f 7).emit (.aer f 0)
  | .rollover => (d.aerCorrect f 8).emit (.aer f 0)
  | .replayTimeout => (d.aerCorrect f 12).emit (.aer f 0)

/-- MALFORMED_TLP: a TLP is discarded, or the link layer has seen an error, and it is reported. -/
def Device.badTlp (d : Device) (f : Option Nat) (k : TlpError) : Device :=
  (match f with
    | some f => [f]
    | none => d.liveFuncs).foldl (fun d f => d.aerError f k) d

def execMalformedTlp (func : Option (Fin 64)) (kind : TlpError) (s : State) : Host.Outcome State Fault Refusal :=
  took s (·.badTlp (func.map Fin.val) kind)

/-! ### Rings and doorbells (R366 - R371) -/

def ringEn (d : Device) (r : Nat) : Bool := d.regBit (Reg.hifRingCtl r) 63
def ringFunc (d : Device) (r : Nat) : Nat := d.regF (Reg.hifRingCtl r) 56 6
def ringHead (d : Device) (r : Nat) : Nat := d.regF (Reg.hifRingPtr r) 0 12
def ringTail (d : Device) (r : Nat) : Nat := d.regF (Reg.hifRingPtr r) 16 12

/-- The ring acts as enabled: EN = 1 and no enable is pending (R369). -/
def Device.ringLive (d : Device) (r : Nat) : Bool := ringEn d r && !d.regBit (Reg.hifRingStatus r) 61

/-- The `k`-th lowest-numbered ring of virtual function `v` (R368). -/
def Device.vfRing (d : Device) (v k : Nat) : Option Nat := ((List.range 256).filter (fun r => ringFunc d r == v))[k]?

/-- Ring of page `page` of a function's BAR4 (R364, R368). -/
def Device.pageRing (d : Device) (f page : Nat) : Option Nat :=
  if f = 0 then (if page < 256 then some page else none) else if page < 16 then d.vfRing f page else none

/-- A write to BAR4 at an offset (R368): the enabled bytes of TAIL replace its bits, or the write is discarded. -/
def Device.doorbell (d : Device) (f off : Nat) (bytes : List (Option Byte)) : Device :=
  let first := ((List.range bytes.length).find? (fun i => (bytes.getD i none).isSome)).getD 0
  let o := (off + first) % 4096
  let at_ := fun (i : Nat) => if off % 4096 ≤ i then bytes.getD (i - off % 4096) none else none
  match if o < 4 then d.pageRing f (off / 4096) else none with
  | none => d.bump Reg.hifDbDropCnt 1
  | some r =>
    if d.ringLive r = false then d.bump Reg.hifDbDropCnt 1
    else
      let t := ringTail d r
      let lo := (at_ 0).elim (t % 256) BitVec.toNat
      let hi := (at_ 1).elim (t / 256) (fun b => b.toNat % 16)
      d.setF (Reg.hifRingPtr r) 16 12 (lo + 256 * hi)

def execDoorbell (func : Fin 64) (offset : Nat) (bytes : List (Option Byte)) (s : State) :
    Host.Outcome State Fault Refusal := took s (fun d => d.linkUse.doorbell func offset bytes)

/-- Entries of ring `r` already asked for and not yet returned. -/
def Device.inFlight (d : Device) (r : Nat) : Nat := ((d.hif.fetches.filter (fun f => f.ring == r)).map (·.count)).sum

/-- Pending entries of ring `r` that no read in flight covers (R367). -/
def Device.ringPending (d : Device) (r : Nat) : Nat := (ringTail d r + 4096 - ringHead d r) % 4096 - d.inFlight r

/-- Accepted records that the Lantern's store holds, with those on their way (R370). -/
def Device.stored (d : Device) : Nat :=
  (d.lantern.tasks.filter (fun t => !t.remote)).length + (d.hif.fetches.map (·.count)).sum

/-- A ring read has failed: FETCH_ERR, and later reads of the ring in flight are dropped (R371). -/
def Device.fetchError (d : Device) (r : Nat) : Device :=
  (d.raise (Reg.hifRingStatus r) 0x8000000000000000).mapHif (fun h => { h with fetches := h.fetches.filter (fun f => f.ring != r) })

/-- RING_READ: the next ring with pending entries is read, up to 8 entries, while fewer than 16 ring reads are outstanding
and the store has room (R370). -/
def Device.ringRead (d : Device) : Device :=
  if 16 ≤ d.hif.fetches.length ∨ 16384 ≤ d.stored then d
  else
    let order := (List.range 256).map (fun i => (d.hif.nextRing + i) % 256)
    match order.find? (fun r => d.ringLive r && !d.regBit (Reg.hifRingStatus r) 63 && decide (0 < d.ringPending r)) with
    | none => d
    | some r =>
      let first := (ringHead d r + d.inFlight r) % 4096
      let n := min (min 8 (d.ringPending r)) (min (4096 - first) (16384 - d.stored))
      let base := d.regF (Reg.hifRingBase r) 12 50 * 4096
      let d := d.mapHif (fun h => { h with
        nextRing := (r + 1) % 256, fetches := h.fetches ++ [{ ring := r, first := first, count := n }] })
      let (d, ok) := d.hostRead (ringFunc d r) (d.pasid r) (base + 64 * first) (64 * n) (.ring r)
      if ok then d else d.fetchError r

def execRingRead (s : State) : Host.Outcome State Fault Refusal := took s (fun d => d.linkUse.ringRead)

/-! ### Inputs (R375) -/

/-- The input reads of a queue go one after the other: the first that has not begun begins, if none is under way. -/
def Device.nextInput (d : Device) (q : Nat) : Nat → Device
  | 0 => d
  | fuel + 1 =>
    match d.hif.inputs.find? (fun i => i.queue == q) with
    | none => d
    | some x =>
      if x.started then d
      else
        let d := ((d.startMarker q (64 + x.len) (0x80 + x.func)).pushUnit q (freshUnit (bytesLine (wordsBytes x.record)))).linkedLater q
        let drop := fun (d : Device) =>
          d.mapHif (fun h => { h with inputs := h.inputs.filter (fun i => i.id != x.id) })
        if x.len = 0 then (drop d).nextInput q fuel
        else
          let (d, ok) := d.hostRead x.func x.pasid x.addr x.len (.input x.id)
          if ok then
            d.mapHif (fun h => { h with inputs := h.inputs.map (fun i => if i.id = x.id then { i with started := true } else i) })
          else ((drop d).bump Reg.hifInFailCnt 1 |>.pushBytes q (List.replicate x.len 0) true |>.linkedLater q).nextInput q fuel

/-- The input of a PUSH record is over: its bytes, or poisoned zeros, go into the packet. -/
def Device.finishInput (d : Device) (x : Input) (res : ReadResult) : Device :=
  let d := d.mapHif (fun h => { h with inputs := h.inputs.filter (fun i => i.id != x.id) })
  let d := match res with
    | .ok bs => d.pushBytes x.queue ((bs ++ List.replicate x.len 0).take x.len) false
    | r => ((d.logRead x.func r).bump Reg.hifInFailCnt 1).pushBytes x.queue (List.replicate x.len 0) true
  (d.linkedLater x.queue).nextInput x.queue (d.hif.inputs.length + 1)

/-! ### Acceptance (R372, R374) -/

/-- The first check of R374 that a record of ring `r` fails. -/
def Device.recordCause (d : Device) (r : Nat) (q : List Word) : Option Nat :=
  let ctx := fld (wd q 0) 0 16
  let len := fld (wd q 3) 0 21
  let push := bit (wd q 0) 37
  if fld (wd q 0) 43 21 ≠ 0 ∨ fld (wd q 3) 21 43 ≠ 0 then some 1
  else if fld (wd q 1) 0 6 ≠ 0 ∨ fld (wd q 1) 62 2 ≠ 0 ∨ (0 < len ∧ fld (wd q 2) 62 2 ≠ 0) then some 2
  else if 1048512 < len ∨ (len ≠ 0 ∧ push = false) then some 3
  else if ctx ≤ 49151 ∧ d.ctxFunc ctx ≠ ringFunc d r then some 4
  else if push = true ∧ ctx ≤ 49151 ∧ d.queueFunc (d.ctxQueue ctx) ≠ ringFunc d r then some 5
  else none

/-- A record is rejected (R374). -/
def Device.reject (d : Device) (r idx cause : Nat) : Device :=
  let d := d.bump Reg.hifRrRejectCnt 1
  if d.regBit (Reg.hifRingStatus r) 62 then d
  else (d.setFs (Reg.hifRingStatus r) [(32, 12, idx), (0, 4, cause)]).raise (Reg.hifRingStatus r) 0x4000000000000000

/-- A record is accepted by the Lantern (R183, R203, R370, R375). -/
def Device.accept (d : Device) (r : Nat) (q : List Word) : Device :=
  let ctx := fld (wd q 0) 0 16
  let t : Task :=
    { id := d.lantern.nextId, ring := r, words := q, accepted := d.now, state := .queued, since := d.now, consumed := [],
      remote := false }
  let d := d.bump Reg.hifRrAcceptCnt 1
  let d := { d with lantern := { d.lantern with tasks := d.lantern.tasks ++ [t], nextId := t.id + 1 } }
  if 49151 < ctx then d.recordUnstarted t 0xC (d.now + 2)
  else
    let d := (d.setF (Reg.ctxW0 ctx) 20 4 5).refreshPend ctx
    let d := if bit (wd q 0) 37 then
        let qn := d.ctxQueue ctx
        let x : Input :=
          { id := d.hif.nextInput, func := ringFunc d r, pasid := d.pasid r, queue := qn, record := q,
            addr := (wd q 2).toNat, len := fld (wd q 3) 0 21, started := false }
        let d := d.mapHif (fun h => { h with inputs := h.inputs ++ [x], nextInput := x.id + 1 })
        d.nextInput qn (d.hif.inputs.length + 1)
      else d
    d.nextHead ctx d.now

/-- One entry of ring `r` is judged, and HEAD moves past it (R370, R374). -/
def Device.takeEntry (d : Device) (r : Nat) (q : List Word) : Device :=
  let idx := ringHead d r
  let d := d.setF (Reg.hifRingPtr r) 0 12 ((idx + 1) % 4096)
  match d.recordCause r q with
  | some c => d.reject r idx c
  | none => d.accept r q

/-- The entries of a ring read, in ring order. -/
def Device.takeEntries (d : Device) (r : Nat) : Nat → List Word → Device
  | 0, _ => d
  | n + 1, ws => (d.takeEntry r (ws.take 8)).takeEntries r n (ws.drop 8)

/-- RING_READ_COMPLETION: the oldest read of ring `r` returns (R370, R371). -/
def Device.ringData (d : Device) (r : Nat) (res : ReadResult) : Device :=
  match d.hif.fetches.find? (fun f => f.ring == r) with
  | none => d
  | some f =>
    match res with
    | .ok bs =>
      let d := d.mapHif (fun h => { h with fetches := (takeFirst (fun f => f.ring == r) h.fetches).2 })
      d.takeEntries r f.count ((List.range (8 * f.count)).map (wordAt bs))
    | e => (d.logRead (ringFunc d r) e).fetchError r

/-- Invalidations of a function are complete once no read that it issued is outstanding (R380). -/
def Device.reading (d : Device) (f : Nat) : Bool :=
  d.hif.fetches.any (fun x => ringFunc d x.ring == f) || d.hif.inputs.any (fun x => x.func == f && x.started) ||
    d.net.txns.any (fun (t : Txn) => t.cmd == .read && t.phase == .atTarget && (match t.target with
      | .host g _ => g == f
      | _ => false))

def Device.settleInvals (d : Device) : Device :=
  let done := d.hif.invals.filter (fun e => !d.reading e.1)
  let d := d.mapHif (fun h => { h with invals := h.invals.filter (fun e => !done.contains e) })
  done.foldl (fun d e => d.emit (.atsInvalidated e.1 (4096 * e.2))) d

def execRingReadCompletion (ring : Fin 256) (res : ReadResult) (s : State) : Host.Outcome State Fault Refusal :=
  took s (fun d => (d.linkUse.ringData ring res).settleInvals)

/-- FETCH_ERR_CLEAR: software has written 1 to FETCH_ERR (R371); a ring read that fails in the same clock keeps it set (R16). -/
def execFetchErrClear (ring : Fin 256) (s : State) : Host.Outcome State Fault Refusal :=
  took s (·.clearBits (Reg.hifRingStatus ring) 0x8000000000000000)

/-- RING_DISABLE: EN = 0 (R369). -/
def Device.ringOff (d : Device) (r : Nat) : Device := (d.setF (Reg.hifRingCtl r) 63 1 0).setF (Reg.hifRingStatus r) 61 1 0

def execRingDisable (ring : Fin 256) (s : State) : Host.Outcome State Fault Refusal := took s (·.ringOff ring)

/-- RING_ENABLE: HIF_RINGr_CTL is written with EN = 1; on a disabled ring the enable is pending (R369, R383). -/
def Device.ringOn (d : Device) (r : Nat) (w : Word) : Device :=
  let was := ringEn d r
  let d := d.setReg (Reg.hifRingCtl r) (putFld (w &&& 0xBF1FFFFF00000000) 63 1 1)
  if was then d else d.setF (Reg.hifRingStatus r) 61 1 1

def execRingEnable (ring : Fin 256) (ctl : Word) (s : State) : Host.Outcome State Fault Refusal := took s (·.ringOn ring ctl)

/-- RING_ENABLE_EFFECTIVE: no record of the ring lacks its completion record, and the enable clears the ring (R369). -/
def Device.ringReady (d : Device) (r : Nat) : Device :=
  if d.regBit (Reg.hifRingStatus r) 61 = false ∨ d.lantern.tasks.any (fun t => !t.remote && t.ring == r) = true ∨
      d.inFlight r ≠ 0 then d
  else ((d.setReg (Reg.hifRingPtr r) 0).setReg (Reg.hifRingSeq r) 0).setReg (Reg.hifRingStatus r) 0

def execRingEnableEffective (ring : Fin 256) (s : State) : Host.Outcome State Fault Refusal := took s (·.ringReady ring)

/-- INPUT_READ_COMPLETION. -/
def Device.inputData (d : Device) (id : Nat) (res : ReadResult) : Device :=
  match d.hif.inputs.find? (fun i => i.id == id && i.started) with
  | none => d
  | some x => d.finishInput x res

def execInputReadCompletion (input : Nat) (res : ReadResult) (s : State) : Host.Outcome State Fault Refusal :=
  took s (fun d => (d.linkUse.inputData input res).settleInvals)

/-! ### BAR2 (R240, R365) -/

/-- Local HBM address of offset `o` of a function's BAR2 (R364, R365). -/
def Device.bar2Addr (d : Device) (f o : Nat) : Nat :=
  d.regF (if f = 0 then Reg.hifBar2Base else Reg.hifVfBar2Base f) 16 23 * 65536 + o

/-- A unit of the prefetch area, if it is held. -/
def Device.prefetchHeld (d : Device) (a : Nat) : Option (Nat × DUnit) :=
  (d.hbmDecode a).bind (fun r => (d.streams.prefetched.lookup r.1).map (fun u => (r.1, u)))

/-- A prefetch of the unit at HBM address `a`, unless it is held already. [DEDUCED, unsafe: notes/assumptions/34] -/
def Device.prefetch (d : Device) (a : Int) : Device :=
  if a < 0 ∨ 2 ^ 40 ≤ a ∨ (d.prefetchHeld a.toNat).isSome = true then d
  else d.newTxn 7 false .read (.mem a.toNat) 1 [] 0 (.prefetch a.toNat)

/-- The detectors see a read of function `f` at unit address `a` (R240): the least recently used of 16 is replaced, and two
equal strides in a row fetch ahead. -/
def Device.detect (d : Device) (f a : Nat) : Device :=
  let w := a / 2 ^ 21
  let depth := d.regF Reg.stePfCtl 0 8
  let rest := d.streams.detectors.filter (fun x => !(x.func == f && x.window == w))
  let put := fun (d : Device) (x : Detector) => { d with streams := { d.streams with detectors := (x :: rest).take 16 } }
  match d.streams.detectors.find? (fun x => x.func == f && x.window == w) with
  | none => put d { func := f, window := w, last := a, stride := 0, equal := false, ahead := 0 }
  | some x =>
    let s : Int := (a : Int) - x.last
    let same := decide (s = x.stride ∧ s ≠ 0)
    let d := put d { x with last := a, stride := s, equal := same, ahead := if same then depth else 0 }
    if same = false ∨ depth = 0 then d
    else if x.equal then d.prefetch (a + s * depth)
    else (List.range depth).foldl (fun d i => d.prefetch (a + s * (i + 1 : Nat))) d

/-- Units held by the prefetcher for a read of `n` units at `a`, with their numbers, if all of them are. -/
def Device.prefetchedUnits (d : Device) (a n : Nat) : Option (List (Nat × DUnit)) :=
  (List.range n).mapM (fun i => d.prefetchHeld (a + 64 * i))

/-- A unit read from its line of the prefetch area, with what SECDED finds there (R235): unit u lies in slice u mod 4.
[DEDUCED, unsafe: notes/assumptions/163] -/
def Device.readPrefetched (d : Device) (u : Nat) (x : DUnit) (e : Ecc) : DUnit × Device :=
  (if e.bad = 0 then x else poisonUnit, d.eccCount (Reg.steScCorrCnt (u % 4)) (Reg.steScUncorrCnt (u % 4)) e)

def Device.readPrefetcheds (d : Device) (ecc : List (Nat × Ecc)) (i : Nat) : List (Nat × DUnit) → List DUnit × Device
  | [] => ([], d)
  | (u, x) :: us =>
    let r := d.readPrefetched u x (eccAt ecc i)
    let q := r.2.readPrefetcheds ecc (i + 1) us
    (r.1 :: q.1, q.2)

/-- BAR2_READ of `len` bytes at an offset (R240, R365): served from the prefetch area, or read on demand. -/
def Device.bar2Read (d : Device) (f off len tag : Nat) (ecc : List (Nat × Ecc)) : Device :=
  let a := d.bar2Addr f off
  let u := a / 64 * 64
  let n := (a + len + 63) / 64 - a / 64
  let run := d.regBit Reg.stePfCtl 31
  match if run then d.prefetchedUnits u n else none with
  | some us =>
    let r := (d.bump Reg.stePfHitCnt 1).readPrefetcheds ecc 0 us
    (r.2.detect f u).answerHost tag (a % 64) len r.1
  | none =>
    let d := d.bump Reg.stePfMissCnt 1
    let d := if run then d.detect f u else d
    d.newTxn (0x80 + f) false .read (.mem u) n [] 0 (.bar2 f tag (a % 64) len)

def execBar2Read (func : Fin 64) (offset len tag : Nat) (s : State) (ecc : List (Nat × Ecc) := []) :
    Host.Outcome State Fault Refusal :=
  took s (fun d => d.linkUse.bar2Read func offset len tag ecc)

/-- A write cut into 64-byte lines: the line's address and its bytes with their enables. -/
def cutLines : Nat → Nat → List (Option Byte) → List (Nat × List (Option Byte))
  | 0, _, _ => []
  | fuel + 1, a, bs =>
    if bs.isEmpty then []
    else
      let n := 64 - a % 64
      (a / 64 * 64, List.replicate (a % 64) none ++ bs.take n) :: cutLines fuel (a + n) (bs.drop n)

def lineEnables (bs : List (Option Byte)) : Word :=
  BitVec.ofNat 64 (((List.range 64).map (fun i => if (bs.getD i none).isSome then 2 ^ i else 0)).sum)

/-- Whole lines in a row form one WRITE of up to 32 units; any other line is a WRITE_PARTIAL (R365). -/
def Device.bar2Lines (d : Device) (f : Nat) (ep : Bool) : Nat → List (Nat × List (Option Byte)) → Device
  | 0, _ => d
  | fuel + 1, ls =>
    let unit := fun (bs : List (Option Byte)) => if ep then poisonUnit else freshUnit (bytesLine (bs.map (·.getD 0)))
    match ls with
    | [] => d
    | (a, bs) :: rest =>
      if lineEnables bs = -1 then
        let run := (ls.takeWhile (fun l => lineEnables l.2 == -1)).take 32
        (d.newTxn (0x80 + f) false .write (.mem a) run.length (run.map (fun l => unit l.2)) 0 (.bar2 f 0 0 0)).bar2Lines f ep
          fuel (ls.drop run.length)
      else if lineEnables bs = 0 then d.bar2Lines f ep fuel rest
      else (d.newTxn (0x80 + f) false .partialWrite (.mem a) 1 [unit bs] (lineEnables bs) (.bar2 f 0 0 0)).bar2Lines f ep fuel
        rest

/-- BAR2_WRITE (R365). A poisoned TLP enters as poisoned units (R382). -/
def Device.bar2Write (d : Device) (f off : Nat) (bytes : List (Option Byte)) (ep : Bool) : Device :=
  let d := if ep then d.poisonedTlp f else d
  let ls := cutLines (bytes.length + 1) (d.bar2Addr f off) bytes
  d.bar2Lines f ep (ls.length + 1) ls

def execBar2Write (func : Fin 64) (offset : Nat) (bytes : List (Option Byte)) (ep : Bool) (s : State) :
    Host.Outcome State Fault Refusal := took s (fun d => d.linkUse.bar2Write func offset bytes ep)

/-! ### Host reads of the network (R249, R250, R472) -/

/-- A host read for transaction `id` ends: with data that receives its check here, or with a failure, a poisoned completion
among them, that faults the task of the thread that issued it and refuses any other initiator's read.
[DEDUCED, unsafe: notes/assumptions/167] -/
def Device.hostData (d : Device) (id : Nat) (res : ReadResult) : Device :=
  match d.txn id with
  | none => d
  | some t =>
    match t.target, t.phase, t.cmd with
    | .host f a, .atTarget, .read =>
      match res with
      | .ok bs => d.deliverAll id 0 ((List.range t.len).map (fun i => freshUnit (bytesLine (bs.drop (64 * i)))))
      | e =>
        let d := d.logRead f e
        match t.purpose with
        | .thread tk n stamp dst =>
          (d.dropTxn id).threadFails tk n t.len stamp dst
            { kind := if e = .timeout then 0x22 else 0x23, cause := 0, level := 0, dst := false, addr := 2 ^ 62 + a,
              unit := n, gcyc := d.now, entry := 0 }
        | _ => d.refuseRead t
    | _, _, _ => d

def execHostReadCompletion (txn : Nat) (res : ReadResult) (s : State) : Host.Outcome State Fault Refusal :=
  took s (fun d => (d.linkUse.hostData txn res).settleInvals)

def execCompletionTimeout (txn : Nat) (s : State) : Host.Outcome State Fault Refusal :=
  took s (fun d => (d.hostData txn .timeout).settleInvals)

/-! ### Translations (R380) -/

/-- What a held request becomes once its translation `e` is there. -/
def Device.releaseAts (d : Device) (e : AtsEntry) (h : AtsHeld) : Device :=
  let a := e.target * 4096 + h.addr % 4096
  match h.request with
  | .write bs ep => if e.write then d.emit (.hostWrite h.func h.pasid a bs ep) else d.bump Reg.hifWrDiscardCnt 1
  | .read n what =>
    if e.read then d.emit (.hostRead h.func h.pasid a n)
    else match what with
      | .ring r => d.fetchError r
      | .input id => d.inputData id .unsuccessful
      | .txn id => d.hostData id .unsuccessful
  | .msix v => d.emit (.msix h.func v)

/-- Requests that can go on now, and those that stay held: a read once its translation is there, a posted request once no
earlier one of its function stays held either, in order (R22, R380). -/
def Device.splitHeld (d : Device) : List AtsHeld → List Nat → List (AtsEntry × AtsHeld) × List AtsHeld
  | [], _ => ([], [])
  | h :: hs, waiting =>
    let e := match h.request with
      | .msix _ => some { func := h.func, page := 0, target := 0, read := true, write := true }
      | _ => d.atsFind h.func h.addr
    match e with
    | some e =>
      if h.request.posted && waiting.contains h.func then
        let r := d.splitHeld hs waiting
        (r.1, h :: r.2)
      else
        let r := d.splitHeld hs waiting
        ((e, h) :: r.1, r.2)
    | none =>
      let r := d.splitHeld hs (if h.request.posted then h.func :: waiting else waiting)
      (r.1, h :: r.2)

/-- ATS_TRANSLATION_COMPLETION: the translation is kept, one of 512, and the requests that waited for it go on. -/
def Device.atsDone (d : Device) (e : AtsEntry) : Device :=
  let d := d.mapHif (fun h => { h with
    ats := (e :: h.ats.filter (fun x => !(x.func == e.func && x.page == e.page))).take 512 })
  let r := d.splitHeld d.hif.held []
  r.1.foldl (fun d x => d.releaseAts x.1 x.2) (d.mapHif (fun h => { h with held := r.2 }))

def execAtsTranslationCompletion (func : Fin 64) (page target : Nat) (read write : Bool) (s : State) :
    Host.Outcome State Fault Refusal :=
  took s (fun d => d.linkUse.atsDone { func := func, page := page, target := target, read := read, write := write })

/-- ATS_INVALIDATION_REQUEST: the translation is dropped; the request is completed once the function's reads are. A request
still held that would have used it asks for a new one. -/
def Device.atsInvalidate (d : Device) (f page : Nat) : Device :=
  let again := (d.atsFind f (4096 * page)).isSome && d.hif.held.any (fun h => h.func == f && h.addr / 4096 == page)
  let d := if again then d.emit (.atsRequest f (4096 * page)) else d
  (d.mapHif (fun h => { h with
    ats := h.ats.filter (fun e => !(e.func == f && e.page == page)), invals := h.invals ++ [(f, page)] })).settleInvals

def execAtsInvalidationRequest (func : Fin 64) (page : Nat) (s : State) : Host.Outcome State Fault Refusal :=
  took s (·.atsInvalidate func page)

/-! ### Resets (R379, R381) -/

/-- Outstanding reads of function `f` complete as unsuccessful at once (R379). -/
def Device.failReads (d : Device) (f : Nat) : Device :=
  let ids := d.net.txns.filterMap (fun t => match t.target, t.phase with
    | .host g _, .atTarget => if g = f ∧ t.cmd = .read then some t.id else none
    | _, _ => none)
  let d := ids.foldl (fun d id => d.hostData id .unsuccessful) d
  let ins := d.hif.inputs.filter (fun i => i.func == f && i.started)
  let d := ins.foldl (fun d i => d.finishInput i .unsuccessful) d
  (d.hif.fetches.filter (fun x => ringFunc d x.ring == f)).foldl (fun d x => d.fetchError x.ring) d

/-- Contexts of function `f` that have tasks. -/
def Device.funcContexts (d : Device) (f : Nat) : List Nat :=
  ((d.lantern.tasks.map Task.ctx).eraseDups.filter (fun n => decide (n ≤ 49151) && d.ctxFunc n == f))

/-- A reset of one function (R381): its configuration space, its reads (R379), its rings, and the tasks of its contexts. -/
def Device.resetFunc (d : Device) (f : Nat) : Device :=
  let posted := (d.hif.held.filter (fun x => x.func == f && x.request.posted)).length
  let d := if posted = 0 then d else d.bump Reg.hifWrDiscardCnt posted
  let d := (d.setFunc f Func.initial).mapHif (fun h => { h with
    held := h.held.filter (fun x => x.func != f), ats := h.ats.filter (fun x => x.func != f),
    invals := h.invals.filter (fun x => x.1 != f) })
  let d := (d.failReads f).setFunc f Func.initial
  let d := (List.range 256).foldl (fun d r => if ringFunc d r = f then d.ringOff r else d) d
  (d.funcContexts f).foldl (fun d n => d.abortRequest n true) d

/-- HIF registers that a reset of the PF resets: all but the counters; HIF_STATUS stays with the link (R383). -/
def hifResets (a : Nat) : Bool :=
  decide (a = Reg.hifCtl) || decide (a = Reg.hifBar2Base) || decide (0x201000 ≤ a ∧ a < 0x300000)

/-- A reset of the physical function resets every function and the HIF registers (R381). -/
def Device.resetPf (d : Device) : Device :=
  let d := (List.range 64).foldl (fun d f => d.resetFunc f) d
  { d with regs := d.regs.filter (fun e => !hifResets e.1) }

/-- FUNCTION_LEVEL_RESET (R381): of the physical function it resets every function.
[DEDUCED, unsafe: notes/assumptions/27] -/
def Device.flr (d : Device) (f : Nat) : Device := if f = 0 then d.resetPf else d.resetFunc f

def execFunctionLevelReset (func : Fin 64) (s : State) : Host.Outcome State Fault Refusal := took s (·.flr func)

/-- The link is lost or reset: HIF_STATUS clears, every function is reset, and the endpoint is held until the link retrains
(R379, R381). -/
def Device.loseLink (d : Device) : Device :=
  ((d.setReg Reg.hifStatus 0).resetPf).mapHif (fun h => { h with hold := true, l1 := false })

/-- PERST_N low (R381, R507). -/
def Device.perst (d : Device) : Device :=
  let d := d.loseLink.mapHif (fun h => { h with readyFrom := none })
  { d with belfry := { d.belfry with perstN := false } }

def execPerstN (s : State) : Host.Outcome State Fault Refusal := took s (·.pinEvent Device.perst)
def execHotReset (s : State) : Host.Outcome State Fault Refusal := took s Device.loseLink
def execPcieLinkDown (s : State) : Host.Outcome State Fault Refusal := took s (fun d => d.loseLink)

/-- PERST_N rises: the 100 ms readiness count runs from now, or from the rise of PWRGD (R508). -/
def Device.perstRise (d : Device) : Device :=
  let d := { d with belfry := { d.belfry with perstN := true } }
  if d.belfry.rail = .up ∧ d.belfry.inReset = false then d.mapHif (fun h => { h with readyFrom := some d.now }) else d

def execPerstNRelease (s : State) : Host.Outcome State Fault Refusal := took s (·.pinEvent Device.perstRise)

/-- PCIE_LINK_UP: the link has trained; the endpoint is released (R381). `st` gives FLIT, RATE, WIDTH, L0P_WIDTH and
REVERSED as HIF_STATUS lays them out. -/
def Device.linkUp (d : Device) (st : BitVec 32) : Device :=
  if d.belfry.perstN = false ∨ d.belfry.inReset = true ∨ d.belfry.rail ≠ .up then d
  else ((d.setReg Reg.hifStatus (BitVec.ofNat 64 (2 ^ 31 + fld st 16 15 * 65536))).mapHif (fun h => { h with hold := false })).linkUse

def execPcieLinkUp (status : BitVec 32) (s : State) : Host.Outcome State Fault Refusal := took s (·.pinEvent (·.linkUp status))

/-! ### Link power and configuration requests (R361, R362, R508) -/

/-- L0P_REQUEST: the upstream port's width is accepted at 64.0 GT/s. -/
def Device.l0p (d : Device) (w : Nat) : Device :=
  if d.regBit Reg.hifStatus 31 ∧ d.regF Reg.hifStatus 27 3 = 6 ∧ [1, 2, 4, 8, 16].contains w = true ∧
      w ≤ d.regF Reg.hifStatus 22 5 then d.setF Reg.hifStatus 17 5 w
  else d

def execL0pRequest (width : Fin 32) (s : State) : Host.Outcome State Fault Refusal := took s (·.l0p width)

/-- ASPM_L1_ENTRY: L1_IDLE microseconds of idle with no task holding the Dome (R362). -/
def Device.aspm (d : Device) : Device :=
  if d.lantern.run.isSome ∨ d.regBit Reg.hifStatus 31 = false ∨ d.hif.l1 = true then d
  else
    (d.advance (max d.hif.idleSince d.lantern.domeFree + 1000 * d.regF Reg.hifCtl 0 16)).mapHif (fun h => { h with l1 := true })

def execAspmL1Entry (s : State) : Host.Outcome State Fault Refusal := took s Device.aspm

/-- What a function's configuration space reads at a dword (R361). -/
def Device.configRead (d : Device) (f r : Nat) : BitVec 32 :=
  let x := d.func f
  if r = 0 then (if f = 0 then 0x9560#16 else 0x9561#16) ++ Config.vendorId
  else if r = 2 then 0x120000#24 ++ (Config.configSpace f 2).extractLsb' 0 8
  else if r = 1 then
    putFld (putFld ((mapFind x.config r).getD (Config.configSpace f r)) 1 1 (b2n x.memSpace)) 2 1 (b2n x.busMaster)
  else (mapFind x.config r).getD (Config.configSpace f r)

/-- A configuration write is kept; the Command register and the ATS control register act. -/
def Device.configWrite (d : Device) (f r : Nat) (v : BitVec 32) : Device :=
  let x := d.func f
  let x := { x with config := x.config.filter (fun e => e.1 < r) ++ [(r, v)] ++ x.config.filter (fun e => r < e.1) }
  let x := if r = 1 then { x with memSpace := bit v 1, busMaster := bit v 2 } else x
  let x := if r = Config.atsControl then { x with ats := bit v 31 } else x
  d.setFunc f x

/-- CONFIGURATION_REQUEST: answered, or Retry Status before the 100 ms readiness point (R508). -/
def Device.configRequest (d : Device) (f r tag : Nat) (wr : Option (BitVec 32)) : Device :=
  match d.hif.readyFrom with
  | none => d
  | some g =>
    if d.now < g + 100000000 then d.emit (.completion tag 2 [] false)
    else match wr with
      | some v => (d.configWrite f r v).emit (.completion tag 0 [] false)
      | none => d.emit (.completion tag 0 (natBytes 4 (d.configRead f r).toNat) false)

def execConfigurationRequest (func : Fin 64) (dword tag : Nat) (wr : Option (BitVec 32)) (s : State) :
    Host.Outcome State Fault Refusal := took s (·.configRequest func dword tag wr)

/-! ### The page of a virtual function (R384) -/

def Device.deny (d : Device) : Device := d.bump Reg.hifVfDenyCnt 1

/-- HIF_VF_ABORT. -/
def Device.vfAbort (d : Device) (v : Nat) (w : BitVec 32) : Device :=
  if bit w 31 = false then d
  else if 49151 < fld w 0 16 ∨ d.ctxFunc (fld w 0 16) ≠ v then d.deny
  else d.lntAbort w

def execHifVfAbort (vf : Fin 64) (data : BitVec 32) (s : State) : Host.Outcome State Fault Refusal := took s (·.vfAbort vf data)

/-- HIF_VF_SIG: INC is added to a virtual tally of an own context, as a host signal (R209, R211). -/
def Device.vfSig (d : Device) (v : Nat) (w : Word) : Device :=
  let ctx := fld w 40 16
  if 49151 < ctx ∨ d.ctxFunc ctx ≠ v then d.deny
  else if fld w 8 32 = 0 then d
  else d.arrive { dev := d.device, ctx := ctx, vid := fld w 56 8, inc := fld w 8 32, phys := none, cross := false,
                  host := true, applyAt := 0 } none

def execHifVfSig (vf : Fin 64) (data : Word) (s : State) : Host.Outcome State Fault Refusal := took s (·.vfSig vf data)

/-- HIF_VF_SOP. -/
def Device.vfSop (d : Device) (v : Nat) (w : Word) : Device :=
  if d.queueFunc (fld w 0 16) ≠ v then d.deny else (d.requestWake false).sopWrite w (0x80 + v)

def execHifVfSop (vf : Fin 64) (data : Word) (s : State) : Host.Outcome State Fault Refusal := took s (·.vfSop vf data)

/-- A write of QMG_FLUSH (R306). -/
def Device.flushWrite (d : Device) (w : BitVec 32) : Device :=
  if bit w 31 then (d.flushQueue (fld w 0 16)).serveCopies else d

/-- HIF_VF_FLUSH. -/
def Device.vfFlush (d : Device) (v : Nat) (w : BitVec 32) : Device :=
  if d.queueFunc (fld w 0 16) ≠ v then d.deny else d.flushWrite w

def execHifVfFlush (vf : Fin 64) (data : BitVec 32) (s : State) : Host.Outcome State Fault Refusal := took s (·.vfFlush vf data)

end Sys2Proof.Machine
end

