-- ==== Sys2Proof/Machine/Keep.lean ====
section
/-!
DEFINITION. The Keep: images and their checks, boot pointer records, boot and recovery, the mailbox and its commands,
activation, attestation, and the card (R431 - R452).
-/
namespace Sys2Proof.Machine

open Sys2Proof

/-! ### Images (R432, R435 - R437) -/

/-- Size of a slot of type `t` (R432). -/
def slotBytes (t : Nat) : Nat :=
  if t ≤ 2 then 0x100000 else if t = 3 then 0x1000000 else 0x400000

/-- The number in `n` bytes from byte `off` on. -/
def fieldOf (bs : List Byte) (off n : Nat) : Nat := bytesNat ((bs.drop off).take n)

def imageLength (im : List Byte) : Nat := fieldOf im 16 8
def imageBlocks (im : List Byte) : Nat := fieldOf im 12 4
def imageSvn (im : List Byte) : Nat := fieldOf im 8 1
def imageVersion (im : List Byte) : Nat := fieldOf im 24 8
def imageSigner (im : List Byte) : Nat := fieldOf im 32 1

/-- Bytes of an image of type `t` with a body of `len` bytes, as stored (R437). -/
def imageStored (t len : Nat) : Nat := 4096 + len + 16 * ((len + 65535) / 65536) + (if t ≤ 2 then 0 else 4096)

/-- Check 2 of R439: MAGIC, FORMAT, TYPE, LENGTH, BLOCKS and the slot size. -/
def imageHeaderOk (t : Nat) (im : List Byte) : Bool :=
  fieldOf im 0 4 == 0x474D4B4B && fieldOf im 4 2 == 1 && fieldOf im 6 1 == t && decide (1 ≤ imageLength im) &&
    imageBlocks im == (imageLength im + 65535) / 65536 && decide (imageStored t (imageLength im) ≤ slotBytes t)

/-- Body bytes of block `b`, and its trailer. -/
def imageBlock (im : List Byte) (b : Nat) : List Byte :=
  (im.drop (4096 + 65552 * b)).take (min 65536 (imageLength im - 65536 * b))
def imageBlockTrailer (im : List Byte) (b : Nat) : List Byte :=
  (im.drop (4096 + 65552 * b + min 65536 (imageLength im - 65536 * b))).take 16

/-- The body, without block trailers. -/
def imageBody (im : List Byte) : List Byte := (List.range (imageBlocks im)).flatMap (imageBlock im)

/-- DIGEST as SHAKE256 of the body gives it. -/
def imageDigest (im : List Byte) : List Byte := Config.shake256 (imageBody im)

/-- The image trailer of MGMT and PHY: DIGEST and signature. -/
def imageTrailer (im : List Byte) : List Byte := im.drop (4096 + imageLength im + 16 * imageBlocks im)

/-- Check 3 of R439 for BOOT and KEYS: the root key, whose digest is ROOT_HASH, has signed header bytes 0-127.
[DEDUCED, unsafe: notes/assumptions/122] -/
def rootSigned (rootHash : BitVec 512) (im : List Byte) : Bool :=
  let key := Config.rootKey (imageBody im)
  imageSigner im == 0 && Config.shake256 key == natBytes 64 rootHash.toNat &&
    Config.mlDsaVerify key (im.take 128) ((im.drop 128).take 3309)

/-- The signature of a MGMT or PHY image by a manifest key, and its DIGEST (R437). -/
def manifestSigned (key : List Byte) (im : List Byte) : Bool :=
  let tr := imageTrailer im
  tr.take 64 == imageDigest im && Config.mlDsaVerify key (im.take 64 ++ tr.take 64) ((tr.drop 64).take 3309)

/-- The SVN that fuses give (R436): the index of the highest bit set, plus 1. -/
def fuseSvn (w : Word) : Nat := if w = 0 then 0 else w.toNat.log2 + 1

def Fuses.svnOf (f : Fuses) (t : Nat) : Nat := fuseSvn (f.svnWord t)

/-- Key `id` of the manifest in the KEYS image `keys`, if it may sign type `t` and is not revoked (R435). -/
def Fuses.signer (f : Fuses) (keys : List Byte) (t id : Nat) : Option (List Byte) :=
  match Config.manifestKey (imageBody keys) id with
  | some k => if 1 ≤ id ∧ id ≤ 8 ∧ bit f.revoke (id - 1) = false ∧ (if t = 3 then k.mgmt else k.phy) = true then some k.key else none
  | none => none

/-- Checks 3, 4 and 7 of R439 of an image whose header has passed, with the KEYS image that holds the manifest. -/
def Fuses.imageOk (f : Fuses) (keys : List Byte) (t : Nat) (im : List Byte) : Bool :=
  decide (f.svnOf t ≤ imageSvn im) &&
    if t ≤ 2 then rootSigned f.rootHash im && (im.drop 64).take 64 == imageDigest im
    else (f.signer keys t (imageSigner im)).elim false (manifestSigned · im)

/-! ### Slots and boot pointer records (R440 - R442) -/

def slotKey (t : Nat) (b : Bool) : Nat := 2 * (t - 1) + b2n b

def Keep.slot (k : Keep) (t : Nat) (b : Bool) : FlashSlot := mapGet FlashSlot.initial k.slots (slotKey t b)

def Keep.setSlot (k : Keep) (t : Nat) (b : Bool) (x : FlashSlot) : Keep :=
  { k with slots := mapPut FlashSlot.initial k.slots (slotKey t b) x }

/-- The image of a slot; an empty slot has none. -/
def Keep.image (k : Keep) (t : Nat) (b : Bool) : List Byte := (k.slot t b).image.getD []

/-- A slot is usable for boot, with the manifest in KEYS slot `kb` (R440). -/
def Keep.usable (k : Keep) (kb : Bool) (t : Nat) (b : Bool) : Bool :=
  imageHeaderOk t (k.image t b) && k.fuses.imageOk (k.image 2 kb) t (k.image t b)

/-- Every slot that SLOTS names is usable. -/
def Keep.allUsable (k : Keep) (slots : Nat) : Bool :=
  [1, 2, 3, 4].all (fun t => k.usable (slots.testBit 1) t (slots.testBit (t - 1)))

/-- A record with its CRC (R441). -/
def makeRecord (gen slots trial prev : Nat) : List Byte :=
  let body := natBytes 4 0x52504B4B ++ natBytes 8 gen ++ natBytes 1 slots ++ natBytes 1 trial ++ natBytes 1 prev ++
    List.replicate 45 0
  body ++ natBytes 4 (crc32c body).toNat

def recordGen (r : List Byte) : Nat := fieldOf r 4 8
def recordSlots (r : List Byte) : Nat := fieldOf r 12 1 % 16
def recordTrial (r : List Byte) : Nat := fieldOf r 13 1 % 16
def recordPrev (r : List Byte) : Nat := fieldOf r 14 1 % 16

/-- MAGIC and CRC of a copy pass. -/
def recordValid (r : List Byte) : Bool :=
  decide (r.length = 64) && fieldOf r 0 4 == 0x52504B4B && fieldOf r 60 4 == (crc32c (r.take 60)).toNat

/-- `r` after the records of a higher or the same generation. -/
def insertRecord (r : List Byte) : List (List Byte) → List (List Byte)
  | [] => [r]
  | x :: xs => if recordGen x < recordGen r then r :: x :: xs else x :: insertRecord r xs

/-- Valid copies by GEN descending, then by copy number (R442). -/
def Keep.candidates (k : Keep) : List (List Byte) :=
  (k.records.filter recordValid).foldl (fun l r => insertRecord r l) []

/-- The record in force: the first candidate. -/
def Keep.record (k : Keep) : List Byte := k.candidates.headD []

/-- All three records are written (R441). -/
def Device.writeRecords (d : Device) (r : List Byte) : Device := { d with keep := { d.keep with records := [r, r, r] } }

/-! ### The card (R438, R439) -/

/-- Byte `a` of the card, as its extents give it. -/
def cardByte : List (Nat × List Byte) → Nat → Byte
  | [], _ => 0
  | (off, bs) :: es, a => if off ≤ a ∧ a < off + bs.length then bs.getD (a - off) 0 else cardByte es a

/-- `n` bytes of the card from `a` on. -/
def cardRead (es : List (Nat × List Byte)) (a n : Nat) : List Byte := (List.range n).map (fun i => cardByte es (a + i))

/-- A directory whose magic and CRC pass. -/
def directoryOk (dir : List Byte) : Bool :=
  fieldOf dir 0 4 == 0x52444B4B && fieldOf dir 4092 4 == (crc32c (dir.take 4092)).toNat

/-- The first directory that passes. -/
def cardDirectory (es : List (Nat × List Byte)) : Option (List Byte) :=
  [cardRead es 0x100000 4096, cardRead es 0x200000 4096].find? directoryOk

/-- Directory entry `e`: TYPE, first byte of the image and stored bytes. -/
def directoryEntry (dir : List Byte) (e : Nat) : Option (Nat × Nat × Nat) :=
  if e < fieldOf dir 4 1 ∧ e < 8 then
    some (fieldOf dir (32 + 32 * e) 1, 512 * fieldOf dir (36 + 32 * e) 4, fieldOf dir (40 + 32 * e) 8)
  else none

/-- The first failure while blocks are copied: a read of the card, a block's CRC, or the flash (R439 step 6). -/
def copyFailure (im : List Byte) (env : UpdateEnv) : Nat → Nat → Option Nat
  | 0, _ => none
  | n + 1, b =>
    if env.card = some (b + 1) then some 0x03
    else if fieldOf (imageBlockTrailer im b) 0 4 ≠ (crc32c (imageBlock im b)).toNat then some 0x06
    else if env.flash = some (b + 1) then some 0x0A
    else copyFailure im env n (b + 1)

/-- Steps 2 to 8 of R439 for the image `im` of type `t`, with the manifest in the KEYS image `keys`. -/
def Fuses.updateResult (f : Fuses) (keys : List Byte) (t : Nat) (im : List Byte) (env : UpdateEnv) : Nat :=
  let after := imageBlocks im + 1
  if imageHeaderOk t im = false then 0x05
  else if t ≤ 2 ∧ rootSigned f.rootHash im = false then 0x05
  else if imageSvn im < f.svnOf t then 0x08
  else if 3 ≤ t ∧ (f.signer keys t (imageSigner im)).isNone then 0x09
  else if env.flash = some 0 then 0x0A
  else match copyFailure im env (imageBlocks im) 0 with
    | some r => r
    | none =>
      if env.card.elim false (fun b => decide (after ≤ b)) then 0x03
      else if f.imageOk keys t im = false then 0x07
      else if env.flash.elim false (fun b => decide (after ≤ b)) then 0x0A
      else 0

/-- UPDATE of type `t` from directory entry `e` into slot `b`: the Keep after it, and the result (R439). A failure leaves
the slot empty. [DEDUCED, unsafe: notes/assumptions/120] -/
def Keep.update (k : Keep) (keysB : Bool) (t e : Nat) (b : Bool) (env : UpdateEnv) : Keep × Nat :=
  let fail := fun r => (k.setSlot t b FlashSlot.initial, r)
  match k.card with
  | none => fail 0x03
  | some es =>
    if env.card = some 0 then fail 0x03
    else match (cardDirectory es).bind (directoryEntry · e) with
      | none => fail 0x04
      | some (ty, at_, size) =>
        if ty ≠ t then fail 0x04
        else
          let im := cardRead es at_ (min size (slotBytes t))
          let r := k.fuses.updateResult (k.image 2 keysB) t im env
          if r = 0 then (k.setSlot t b { image := some (im.take (imageStored t (imageLength im))), staged := true }, 0)
          else fail r

/-! ### Boot, restart and recovery (R442 - R445) -/

/-- KEP_STATUS.PHASE. -/
def Device.keepPhase (d : Device) : Nat := d.regF Reg.kepStatus 28 4
def Device.setPhase (d : Device) (x : Nat) : Device := d.setF Reg.kepStatus 28 4 x

/-- KEP_STATUS.SLOT_B as slots in use. -/
def Device.slotB (d : Device) (t : Nat) : Bool := d.regBit Reg.kepStatus (t - 1)

/-- The management core restarts: the mailbox reads BUSY, and a command in progress is lost (R445). -/
def Device.keepDown (d : Device) (phase : Nat) : Device :=
  let d := (d.setPhase phase).setFs Reg.kepMbStatus [(31, 1, 0), (8, 8, 1)]
  { d with keep := { d.keep with job := none, restartAt := d.now } }

/-- A UPDATE of a lost command leaves its slot empty (R439). -/
def Device.loseJob (d : Device) : Device :=
  match d.keep.job with
  | none => d
  | some j => { d with keep := { d.keep.setSlot j.type (!d.slotB j.type) FlashSlot.initial with job := none } }

/-- The card gives recovery its images: slot A of BOOT, KEYS and MGMT is written, then the records (R444). -/
def Device.recoverFromCard (d : Device) : Device :=
  match d.keep.card.bind cardDirectory with
  | none => d
  | some dir =>
    let entry := fun t => (List.range 8).find? (fun e => (directoryEntry dir e).elim false (fun x => x.1 == t))
    match entry 1, entry 2, entry 3 with
    | some e1, some e2, some e3 =>
      let ok := UpdateEnv.mk none none
      let (k, r1) := d.keep.update false 1 e1 false ok
      let (k, r2) := k.update false 2 e2 false ok
      let (k, r3) := k.update false 3 e3 false ok
      let d := { d with keep := k }
      if r1 = 0 ∧ r2 = 0 ∧ r3 = 0 then
        let gen := (k.candidates.map recordGen).foldl max 0
        (d.writeRecords (makeRecord (gen + 1) 0 0 0)).keepDown 3
      else d
    | _, _, _ => d

/-- Recovery: with no PHY slot that passes, training is skipped and every stack is SUSPECT (R444). -/
def Device.enterRecovery (d : Device) : Device :=
  let phy := [false, true].any (fun b => [false, true].any (fun kb => d.keep.usable kb 4 b))
  let d := d.setPhase 4
  let d := if phy then d
    else (List.range 12).foldl (fun d s => d.raise (Reg.hbcSuspect s) 0xFFFFFFFF) { d with keep := { d.keep with noPhy := true } }
  d.recoverFromCard

/-- BOOT runs with the slots that SLOTS names; TRIAL shows the types on trial (R443). -/
def Device.bootWith (d : Device) (slots trial : Nat) : Device :=
  let d := (d.setPhase 1).setFs Reg.kepStatus [(0, 4, slots), (4, 4, trial)]
  { d with keep := { d.keep with noPhy := false } }

/-- PREV of the types on trial, and the slots of the others (R445). -/
def revertSlots (r : List Byte) : Nat :=
  (recordSlots r &&& (15 - recordTrial r)) ||| (recordPrev r &&& recordTrial r)

/-- KEEP_RESTART: the ROM stage resolves the records, or finds the trial expired, and BOOT is started; with nothing to boot
the Keep is in recovery. The Keep in recovery waits for a card. [DEDUCED, unsafe: notes/assumptions/124]
[DEDUCED, unsafe: notes/assumptions/125] [DEDUCED, unsafe: notes/assumptions/126] -/
def Device.keepBoot (d : Device) : Device :=
  if d.keepPhase = 4 then d
  else
    let d := if d.keepPhase = 3 then d else (d.loseJob).keepDown 0
    let d := d.setF Reg.kepStatus 8 1 (b2n d.keep.card.isSome)
    if d.keep.reverting then
      if d.keep.allUsable (revertSlots d.keep.record) then d.bootWith (revertSlots d.keep.record) 0 else d.enterRecovery
    else match d.keep.candidates.find? (fun c => d.keep.allUsable (recordSlots c)) with
      | none => d.enterRecovery
      | some c =>
        let d := if d.keep.records.any (· != c) then (d.writeRecords c).bump Reg.kepBprRepairCnt 1 else d
        d.bootWith (recordSlots c) (recordTrial c)

def execKeepRestart (s : State) : Host.Outcome State Fault Refusal := took s Device.keepBoot

/-- The state that the configuration engine held before the restart comes back (R445).
[DEDUCED, unsafe: notes/assumptions/128] -/
def Device.restoreCfg (d : Device) : Device :=
  match d.keep.cfgBefore with
  | none => d
  | some x => { d.setCfgState x with keep := { d.keep with cfgBefore := none } }

/-- MGMT_READY: mailbox and MCTP open; a revert writes the restoring records, a trial ends by a further generation. -/
def Device.mgmtReady (d : Device) : Device :=
  if d.keepPhase ≠ 1 then d
  else
    let r := d.keep.record
    let active := d.keep.cfgBefore.isSome
    let d := (d.setPhase 2).setFs Reg.kepMbStatus [(8, 8, 0)]
    let d := d.setReg Reg.kepFwVersion (BitVec.ofNat 64 (imageVersion (d.keep.image 3 (d.slotB 3))))
    let d := if d.keep.reverting then
        (d.writeRecords (makeRecord (recordGen r + 1) (revertSlots r) 0 (recordPrev r))).bump Reg.kepRevertCnt 1
      else
        let d := if recordTrial r ≠ 0 then d.writeRecords (makeRecord (recordGen r + 1) (recordSlots r) 0 (recordPrev r)) else d
        if active ∨ recordTrial r ≠ 0 then d.bump Reg.kepActivateCnt 1 else d
    let d := (d.setF Reg.kepStatus 4 4 0).restoreCfg
    { d with keep := { d.keep with reverting := false, unproved := 0 } }

def execMgmtReady (s : State) : Host.Outcome State Fault Refusal := took s Device.mgmtReady

/-- TRIAL_WATCHDOG: MGMT on trial is not ready 100 ms after the restart began. -/
def Device.trialExpires (d : Device) : Device :=
  if (d.keepPhase = 0 ∨ d.keepPhase = 1 ∨ d.keepPhase = 3) ∧ d.keep.reverting = false ∧ recordTrial d.keep.record ≠ 0 then
    let d := (d.advance (d.keep.restartAt + 100000000)).keepDown 3
    { d with keep := { d.keep with reverting := true } }
  else d

def execTrialWatchdog (s : State) : Host.Outcome State Fault Refusal := took s Device.trialExpires

/-- CARD_INSERTION: a card whose written extents are `extents`. -/
def Device.cardIn (d : Device) (extents : List (Nat × List Byte)) : Device :=
  let d := { d.setF Reg.kepStatus 8 1 1 with keep := { d.keep with card := some extents } }
  if d.keepPhase = 4 then d.recoverFromCard else d

def execCardInsertion (extents : List (Nat × List Byte)) (s : State) : Host.Outcome State Fault Refusal :=
  took s (·.cardIn extents)

/-! ### The mailbox and MCTP (R449, R451) -/

/-- The data window as bytes. -/
def Device.mailData (d : Device) : List Byte := wordsBytes ((List.range 512).map (fun i => d.reg (Reg.kepMbData i)))

/-- Bytes `bs` are written into the data window from its start. -/
def Device.setMailData (d : Device) (bs : List Byte) : Device :=
  let all := bs.take 4096 ++ (d.mailData).drop bs.length
  (List.range ((bs.length + 7) / 8)).foldl (fun d i => if i < 512 then d.setReg (Reg.kepMbData i) (wordAt all i) else d) d

/-- A command is completed: the result and its data go to the port that sent it. -/
def Device.keepAnswer (d : Device) (p : KeepPort) (r : Nat) (out : List Byte) : Device :=
  let d := d.bump Reg.kepCmdCnt 1
  match p with
  | .mailbox => (d.setMailData out).setFs Reg.kepMbStatus [(31, 1, 0), (30, 1, 1), (8, 8, r)]
  | .mctp _ => d.emit (.keepReply 1 r out)

/-- A command that arrives while another is in progress, or while the Keep restarts, is not queued. -/
def Device.keepBusy (d : Device) (p : KeepPort) : Device :=
  match p with
  | .mailbox => d.setF Reg.kepMbStatus 8 8 1
  | .mctp _ => d.emit (.keepReply 1 1 [])

/-- The data that come with a command. -/
def Device.keepInput (d : Device) (p : KeepPort) : List Byte :=
  match p with
  | .mailbox => d.mailData
  | .mctp bs => bs ++ List.replicate (4096 - bs.length) 0

/-- The Keep takes a command and completes it by `f`, which gives the device, the result and the data (R444, R445, R449). -/
def Device.keepCommand (d : Device) (p : KeepPort) (f : Device → Device × Nat × List Byte) : Device :=
  if d.keepPhase = 4 then d.keepAnswer p 0x0D []
  else if d.keepPhase ≠ 2 ∨ d.keep.job.isSome then d.keepBusy p
  else
    let (d, r, out) := f d
    d.keepAnswer p r out

/-! ### Commands (R434, R436, R445 - R450) -/

/-- GET_INFO. -/
def Device.getInfo (d : Device) (p : KeepPort) (arg : Nat) : Device :=
  d.keepCommand p (fun d =>
    if arg ≠ 0 then (d, 0x02, [])
    else
      let types := [1, 2, 3, 4].flatMap (fun t =>
        [b2n (d.slotB t), b2n (d.keep.slot t false).staged, b2n (d.keep.slot t true).staged,
          imageVersion (d.keep.image t false), imageVersion (d.keep.image t true),
          imageSvn (d.keep.image t false), imageSvn (d.keep.image t true)])
      (d, 0, Config.infoLayout (types ++ [1, 2, 3, 4].map d.keep.fuses.svnOf ++ [(d.reg Reg.kepStatus).toNat])))

def execGetInfo (arg : BitVec 32) (port : KeepPort) (s : State) : Host.Outcome State Fault Refusal :=
  took s (·.getInfo port arg.toNat)

/-- UPDATE begins; it is in progress until `keepWork` or the removal of the card ends it (R439).
[DEDUCED, unsafe: notes/assumptions/121] -/
def Device.startUpdate (d : Device) (p : KeepPort) (arg : BitVec 32) (env : UpdateEnv) : Device :=
  if d.keepPhase = 4 then d.keepAnswer p 0x0D []
  else if d.keepPhase ≠ 2 ∨ d.keep.job.isSome then d.keepBusy p
  else
    let d := d.bump Reg.kepUpdateCnt 1
    if fld arg 0 8 = 0 ∨ 4 < fld arg 0 8 ∨ 8 ≤ fld arg 8 24 then (d.bump Reg.kepUpdateFailCnt 1).keepAnswer p 0x02 []
    else
      let d := match p with
        | .mailbox => d.setFs Reg.kepMbStatus [(31, 1, 1), (30, 1, 0)]
        | .mctp _ => d
      { d with keep := { d.keep with job := some { port := p, type := fld arg 0 8, entry := fld arg 8 8, env := env } } }

def execKeepUpdate (arg : BitVec 32) (port : KeepPort) (env : UpdateEnv) (s : State) : Host.Outcome State Fault Refusal :=
  took s (·.startUpdate port arg env)

/-- The UPDATE in progress ends with the result of its steps. [DEDUCED, unsafe: notes/assumptions/119] -/
def Device.keepWork (d : Device) : Device :=
  match d.keep.job with
  | none => d
  | some j =>
    let (k, r) := d.keep.update (d.slotB 2) j.type j.entry (!d.slotB j.type) j.env
    let d := { d with keep := { k with job := none } }
    (if r = 0 then d else d.bump Reg.kepUpdateFailCnt 1).keepAnswer j.port r []

/-- CARD_REMOVAL: an UPDATE that reads the card fails with 0x03 (R439). -/
def Device.cardOut (d : Device) : Device :=
  ({ d.setF Reg.kepStatus 8 1 0 with keep := { d.keep with card := none } } : Device).keepWork

def execCardRemoval (s : State) : Host.Outcome State Fault Refusal := took s Device.cardOut

/-- ACTIVATE: new records, and a restart into the staged images on trial (R445). [DEDUCED, unsafe: notes/assumptions/123] -/
def Device.activateTrial (d : Device) (p : KeepPort) (arg : BitVec 32) : Device :=
  let bad := if 16 ≤ arg.toNat then some 0x02
    else if d.load.isSome then some 0x0C
    else if [1, 2, 3, 4].any (fun t => bit arg (t - 1) && !(d.keep.slot t (!d.slotB t)).staged) then some 0x0B
    else none
  match bad with
  | some r => d.keepCommand p (fun d => (d, r, []))
  | none =>
    if d.keepPhase ≠ 2 ∨ d.keep.job.isSome then d.keepCommand p (fun d => (d, 0, []))
    else
      let old := d.regF Reg.kepStatus 0 4
      let gen := recordGen d.keep.record
      let k := [1, 2, 3, 4].foldl (fun k t =>
        if bit arg (t - 1) then k.setSlot t (!d.slotB t) { k.slot t (!d.slotB t) with staged := false } else k) d.keep
      let k := { k with unproved := k.unproved ||| BitVec.ofNat 4 arg.toNat, cfgBefore := some d.cfgState, reverting := false }
      let d := (Device.writeRecords { d with keep := k } (makeRecord (gen + 1) (old ^^^ arg.toNat) arg.toNat old)).keepAnswer p 0 []
      (d.setCfgState 7).keepDown 3

def execKeepActivate (arg : BitVec 32) (port : KeepPort) (s : State) : Host.Outcome State Fault Refusal :=
  took s (·.activateTrial port arg)

/-- COMMIT_SVN: fuse bits are blown until the fused SVN is that of the active image (R436).
[DEDUCED, unsafe: notes/assumptions/127] -/
def Device.commitSvn (d : Device) (p : KeepPort) (arg : BitVec 32) : Device :=
  d.keepCommand p (fun d =>
    let t := arg.toNat
    if t = 0 ∨ 4 < t then (d, 0x02, [])
    else if bit d.keep.unproved (t - 1) then (d, 0x0B, [])
    else
      let v := imageSvn (d.keep.image t (d.slotB t))
      let f := d.keep.fuses
      let f := if v ≤ f.svnOf t then f
        else f.blow (fun c => { c with svn := c.svn.set (t - 1) (c.svn.getD (t - 1) 0 ||| BitVec.ofNat 64 (2 ^ v - 1)) })
      ({ d with keep := { d.keep with fuses := f } }, 0, natBytes 8 (f.svnOf t)))

def execCommitSvn (arg : BitVec 32) (port : KeepPort) (s : State) : Host.Outcome State Fault Refusal :=
  took s (·.commitSvn port arg)

/-- Bytes of a text. -/
def textBytes (l : List Char) : List Byte := l.map (fun c => BitVec.ofNat 8 c.toNat)

/-- The seed of the device identity key (R446). -/
def Keep.identitySeed (k : Keep) : List Byte :=
  (Config.shake256 (textBytes ['K', 'R', '9', '5', '6', '0', '-', 'D', 'I', 'K'] ++ natBytes 32 k.fuses.uds.toNat)).take 32

/-- Digests of the active images, in the order of their types. -/
def Device.activeDigests (d : Device) : List Byte := [1, 2, 3, 4].flatMap (fun t => imageDigest (d.keep.image t (d.slotB t)))

/-- The seed of the alias key (R446). -/
def Device.aliasSeed (d : Device) : List Byte :=
  (Config.shake256 (textBytes ['K', 'R', '9', '5', '6', '0', '-', 'A', 'L', 'I', 'A', 'S'] ++
    natBytes 32 d.keep.fuses.uds.toNat ++ d.activeDigests)).take 32

/-- Bytes 0-511 of the attestation report (R448). -/
def Device.reportBody (d : Device) (nonce : List Byte) : List Byte :=
  natBytes 4 0x54414B4B ++ natBytes 2 1 ++
    natBytes 2 (d.regF Reg.cfgStatus 7 1 + 2 * d.regF Reg.cfgStatus 8 1 + 4 * b2n (d.keepPhase == 4)) ++
    natBytes 4 (d.reg Reg.bfyId).toNat ++
    natBytes 4 (d.cfgState + 16 * d.regF Reg.cfgStatus 5 1 + 32 * d.regF Reg.cfgStatus 6 1) ++
    natBytes 16 d.keep.fuses.serial.toNat ++ nonce ++ natBytes 8 d.now ++ natBytes 8 (d.reg Reg.cfgDesignId).toNat ++
    natBytes 4 d.keep.fuses.policy.toNat ++ [1, 2, 3, 4].map (fun t => BitVec.ofNat 8 (d.keep.fuses.svnOf t)) ++
    List.replicate 40 0 ++ d.activeDigests ++ d.keep.measure ++ List.replicate 64 0

/-- GET_ATTEST. -/
def Device.getAttest (d : Device) (p : KeepPort) (arg : Nat) : Device :=
  let input := d.keepInput p
  d.keepCommand p (fun d =>
    if arg ≠ 0 then (d, 0x02, [])
    else if d.keep.fuses.udsValid = false then (d, 0x0D, [])
    else
      let body := d.reportBody (input.take 32)
      (d, 0, body ++ Config.mlDsaSign d.aliasSeed body))

def execGetAttest (arg : BitVec 32) (port : KeepPort) (s : State) : Host.Outcome State Fault Refusal :=
  took s (·.getAttest port arg.toNat)

/-- GET_CERT. -/
def Device.getCert (d : Device) (p : KeepPort) (arg : Nat) : Device :=
  d.keepCommand p (fun d =>
    if 2 ≤ arg then (d, 0x02, [])
    else if d.keep.fuses.udsValid = false then (d, 0x0D, [])
    else
      let cert := if arg = 0 then d.keep.cert else Config.aliasCert d.keep.identitySeed d.aliasSeed
      (d, 0, natBytes 4 cert.length ++ cert))

def execGetCert (arg : BitVec 32) (port : KeepPort) (s : State) : Host.Outcome State Fault Refusal :=
  took s (·.getCert port arg.toNat)

/-- BBRAM_WRITE: the key is replaced, and bytes 0-31 of the window are cleared. -/
def Device.bbramWrite (d : Device) (p : KeepPort) (arg : Nat) : Device :=
  let input := d.keepInput p
  d.keepCommand p (fun d =>
    if arg ≠ 0 then (d, 0x02, [])
    else if bit d.keep.fuses.policy 3 then (d, 0x0D, [])
    else
      let d := { d with keep := { d.keep with bbram := some (BitVec.ofNat 256 (bytesNat (input.take 32))) } }
      (d, 0, match p with
        | .mailbox => List.replicate 32 0
        | .mctp _ => []))

def execBbramWrite (arg : BitVec 32) (port : KeepPort) (s : State) : Host.Outcome State Fault Refusal :=
  took s (·.bbramWrite port arg.toNat)

/-- BBRAM_ZEROISE. -/
def Device.bbramErase (d : Device) (p : KeepPort) (arg : Nat) : Device :=
  d.keepCommand p (fun d =>
    if arg ≠ 0 then (d, 0x02, []) else ({ d with keep := { d.keep with bbram := none } }, 0, []))

def execBbramZeroise (arg : BitVec 32) (port : KeepPort) (s : State) : Host.Outcome State Fault Refusal :=
  took s (·.bbramErase port arg.toNat)

/-- FUSE_PROGRAM: KEY_EFUSE once, or bits of POLICY or REVOKE (R433, R450). -/
def Device.fuseProgram (d : Device) (p : KeepPort) (arg : Nat) : Device :=
  let input := d.keepInput p
  d.keepCommand p (fun d =>
    let f := d.keep.fuses
    let blow := fun (f : Fuses) => ({ d with keep := { d.keep with fuses := f } }, 0, [])
    if bit f.policy 5 then (d, 0x0D, [])
    else if arg = 0 then
      if f.keySet then (d, 0x0E, [])
      else blow { f.blow ({ · with keySet := true }) with key := BitVec.ofNat 256 (bytesNat (input.take 32)), keyValid := true }
    else if arg = 1 then
      blow (f.blow (fun c => { c with policy := c.policy ||| BitVec.ofNat 32 (bytesNat (input.take 4)) }))
    else if arg = 2 then
      blow (f.blow (fun c => { c with revoke := c.revoke ||| BitVec.ofNat 8 (bytesNat (input.take 1)) }))
    else (d, 0x02, []))

def execFuseProgram (arg : BitVec 32) (port : KeepPort) (s : State) : Host.Outcome State Fault Refusal :=
  took s (·.fuseProgram port arg.toNat)

/-- A write of KEP_MB_CMD (R449): GO issues the command of OPCODE. -/
def Device.mailCommand (d : Device) (w : Word) : Device :=
  let arg : BitVec 32 := BitVec.ofNat 32 (fld w 16 32)
  if bit w 63 = false then d
  else match fld w 0 16 with
    | 1 => d.getInfo .mailbox arg.toNat
    | 2 => d.startUpdate .mailbox arg { card := none, flash := none }
    | 3 => d.activateTrial .mailbox arg
    | 4 => d.commitSvn .mailbox arg
    | 5 => d.getAttest .mailbox arg.toNat
    | 6 => d.getCert .mailbox arg.toNat
    | 7 => d.bbramWrite .mailbox arg.toNat
    | 8 => d.bbramErase .mailbox arg.toNat
    | 9 => d.fuseProgram .mailbox arg.toNat
    | _ => d.keepCommand .mailbox (fun d => (d, 0x02, []))

/-- One gcyc passes with no command waiting (notes/assumptions/1): the counter counts (R455), copies of multicast units go to
outputs that have room (R357), and an UPDATE in progress is completed (R439).
[DESIGN CHOICE, unsafe: notes/assumptions/1] -/
def Device.tick (d : Device) : Device :=
  let d := (d.advance (d.now + 1)).serveCopies
  if d.alive then d.keepWork else d

end Sys2Proof.Machine
end

