-- ==== Sys2Proof/Machine/Fabric.lean ====
section
/-!
DEFINITION. The commands of the programmable fabric's hard blocks: clock trees, PLLs, delay lines, block RAM, fabric lanes and
access points (R385 - R407).
-/
namespace Sys2Proof.Machine

open Sys2Proof

/-! ### Clocks (R392 - R395) -/

/-- A tree of a region whose resets are released is changed by the design. [DEDUCED, unsafe: notes/assumptions/129] -/
def Device.setTree (d : Device) (n : Nat) (f : ClockTree → ClockTree) : Device :=
  if bit d.fabric.running (n / 16) then
    d.mapFabric (fun x => { x with trees := mapPut none x.trees n (some (f (d.tree n))) })
  else d

/-- A change of SEL begins, or waits for the one in progress (R393). -/
def ClockTree.switchTo (t : ClockTree) (sel g : Nat) : ClockTree :=
  match t.turn with
  | some _ => { t with next := some sel }
  | none => if sel = t.sel then t else { t with turn := some { dest := sel, old := 2, new := 2, since := g } }

/-- CLOCK_MUX_SWITCH: SEL of a tree changes (R393). -/
def execClockMuxSwitch (tree : Fin 768) (sel : Fin 4) (s : State) : Host.Outcome State Fault Refusal :=
  took s (fun d => d.setTree tree (fun t => t.switchTo sel d.now))

/-- DIVIDER_CHANGE: DIVSEL of a tree asks for division by 2^`ratio` (R394). -/
def execDividerChange (tree : Fin 768) (ratio : Fin 4) (s : State) : Host.Outcome State Fault Refusal :=
  took s (·.setTree tree (fun t => { t with want := ratio }))

/-- PLL_LOSS_OF_LOCK: LOCKED falls, LOSS is set and the loss counted (R395). -/
def Device.pllLoses (d : Device) (p : Nat) : Device :=
  if d.regBit Reg.cfgFabPllStatus p then
    ((d.setF Reg.cfgFabPllStatus p 1 0).raise Reg.cfgFabPllStatus (BitVec.ofNat 64 (2 ^ (32 + p)))).bump Reg.cfgFabPllUnlockCnt 1
  else d

def execPllLossOfLock (pll : Fin 24) (s : State) : Host.Outcome State Fault Refusal := took s (·.pllLoses pll)

/-- PLL_RELOCK: a PLL of a device that is starting up or configured locks (R395, R424). -/
def Device.pllLocks (d : Device) (p : Nat) : Device :=
  if 2 ≤ d.cfgState ∧ d.cfgState ≤ 4 then d.setF Reg.cfgFabPllStatus p 1 1 else d

def execPllRelock (pll : Fin 24) (s : State) : Host.Outcome State Fault Refusal := took s (·.pllLocks pll)

/-! ### Delay lines (R398) -/

/-- The tap that a line has reached at gcyc `g`, and whether it is BUSY: a LOAD moves one tap in 4 gcyc. -/
def DelayLine.at_ (x : DelayLine) (g : Nat) : Nat × Bool :=
  match x.load with
  | none => (x.tap, false)
  | some (t, s) =>
    let n := (g - s) / 4
    if x.tap ≤ t then (min t (x.tap + n), decide (x.tap + n < t)) else (max t (x.tap - n), decide (t + n < x.tap))

/-- Delay line `n` (2 x pin + path). -/
def Device.delayLine (d : Device) (n : Nat) : DelayLine :=
  (mapGet none d.fabric.delays n).getD { tap := Config.tapInit d.cfgMem n % 512, load := none }

def Device.setDelay (d : Device) (n : Nat) (x : DelayLine) : Device :=
  d.mapFabric (fun f => { f with delays := mapPut none f.delays n (some x) })

/-- DELAY_STEP: INC or DEC by one tap; ignored during BUSY. Past the last tap of the line the manual names no tap. -/
def Device.stepDelay (d : Device) (n : Nat) (inc : Bool) : Device :=
  let (tap, busy) := (d.delayLine n).at_ d.now
  if busy then d
  else if inc = true ∧ tap < 511 then d.setDelay n { tap := tap + 1, load := none }
  else if inc = false ∧ 0 < tap then d.setDelay n { tap := tap - 1, load := none }
  else
    let (v, d) := d.takeFree 9
    d.setDelay n { tap := v.toNat, load := none }

def execDelayStep (line : Fin 192) (inc : Bool) (s : State) : Host.Outcome State Fault Refusal :=
  took s (·.stepDelay line inc)

/-- DELAY_LOAD: the line begins to move towards its target. [DEDUCED, unsafe: notes/assumptions/130] -/
def Device.loadDelay (d : Device) (n t : Nat) : Device :=
  d.setDelay n { tap := ((d.delayLine n).at_ d.now).1, load := some (t, d.now) }

def execDelayLoad (line : Fin 192) (target : Fin 512) (s : State) : Host.Outcome State Fault Refusal :=
  took s (·.loadDelay line target)

/-! ### Access points (R402 - R406) -/

/-- A unit as it enters the device (R403): its check is computed or verified; a poisoned or failing one is poisoned zeros.
[DEDUCED, unsafe: notes/assumptions/132] -/
def Device.apEntry (d : Device) (u : ApUnit) (be : Word) : DUnit × Device :=
  let raw : DUnit := { data := u.data, check := 0, pois := false }
  let kept := bytesLine ((List.range 64).map (fun i => if bit be i then (lineBytes u.data).getD i 0 else 0))
  if u.pois then (poisonUnit, d)
  else match u.chk with
    | none => (freshUnit kept, d)
    | some c =>
      if crc32c (enabledBytes raw be) = c then (freshUnit kept, d) else (poisonUnit, d.bump Reg.cfgFabApChkCnt 1)

/-- The units of a write, in order. -/
def Device.apEntries (d : Device) (be : Word) : List ApUnit → List DUnit × Device
  | [] => ([], d)
  | u :: us =>
    let (x, d) := d.apEntry u be
    let (xs, d) := d.apEntries be us
    (x :: xs, d)

/-- The end that a system address of an access point names (R404, R500 - R502); none: refused at the access point. A
register is named by the first enabled byte. -/
def Device.apTarget (d : Device) (a first : Nat) : Option NetTarget :=
  let here := fun (l : Nat) => match localSpace l with
    | .regs o => if openRegister (o + first) then some (NetTarget.mem l) else none
    | _ => some (.mem l)
  match a / 2 ^ 62 with
  | 0 => here (a % 2 ^ 62)
  | 1 => some (.host 0 (a % 2 ^ 62))
  | 2 =>
    let dev := a / 2 ^ 52 % 1024
    if dev = d.device then here (a % 2 ^ 52) else some (.remote (d.linkTo dev) dev (a % 2 ^ 52))
  | _ => none

/-- TAG, ADDR and the first enabled byte of a request. -/
def apTag : ApRequest → Nat
  | .rd _ _ t => t
  | .wr _ _ t => t
  | .wrp _ _ _ t => t

def apAddr : ApRequest → Nat
  | .rd a _ _ => a.toNat
  | .wr a _ _ => a.toNat
  | .wrp a _ _ _ => a.toNat

def apFirst : ApRequest → Nat
  | .rd _ _ _ => 0
  | .wr _ _ _ => 0
  | .wrp _ _ be _ => ((List.range 64).find? (fun i => bit be i)).getD 0

/-- AP_REQUEST: a request of active user logic whose TAG is free goes to the network; one to a refused address is completed
by the access point with STATUS 0x1. -/
def Device.apIssue (d : Device) (ap : Nat) (q : ApRequest) : Device :=
  let busy := d.net.txns.any (fun t => t.purpose == .accessPoint ap (apTag q))
  if d.apActive ap = false ∨ busy = true then d
  else match d.apTarget (apAddr q) (apFirst q) with
    | none =>
      let us := match q with
        | .rd _ n _ => List.replicate n poisonUnit
        | _ => []
      (d.bump Reg.cfgFabApRefuseCnt 1).emit (.userData ap (apTag q) 1 us)
    | some target =>
      match q with
      | .rd _ n t => d.newTxn (0x10 + ap) false .read target n [] 0 (.accessPoint ap t)
      | .wr _ us t =>
        let (xs, d) := d.apEntries (-1) us
        d.newTxn (0x10 + ap) false .write target xs.length xs 0 (.accessPoint ap t)
      | .wrp _ u be t =>
        let (x, d) := d.apEntry u be
        d.newTxn (0x10 + ap) false .partialWrite target 1 [x] be (.accessPoint ap t)

/-- AP_REQUEST (R402): user logic hands an access point a request. -/
def execApRequest (ap : Fin 64) (request : ApRequest) (s : State) : Host.Outcome State Fault Refusal :=
  took s (·.apIssue ap request)

/-- FABRIC_USER_WINDOW_ACCESS: a host access becomes a target request, as dynamic traffic of the physical function. -/
def Device.userWindow (d : Device) (ap off : Nat) (x : UserAccess) : Device :=
  match x with
  | .read len tag => d.newTxn 0x80 false .read (.user ap off) 1 [] 0 (.bar2 0 tag (off % 8) len)
  | .write data be =>
    d.newTxn 0x80 false .partialWrite (.user ap off) 1 [freshUnit (bytesLine (natBytes 8 data.toNat))]
      (BitVec.ofNat 64 be.toNat) (.bar2 0 0 0 0)

def execFabricUserWindowAccess (ap : Fin 64) (offset : Fin 1048576) (access : UserAccess) (s : State) :
    Host.Outcome State Fault Refusal :=
  took s (fun d => d.linkUse.userWindow ap offset access)

/-- AP_TARGET_RESPONSE: user logic answers the oldest read that waits at the access point. -/
def Device.userAnswer (d : Device) (ap : Nat) (data : Word) (pois : Bool) : Device :=
  match d.net.txns.find? (fun t => t.phase == .atTarget && (match t.target with
    | .user a _ => a == ap
    | _ => false)) with
  | none => d
  | some t =>
    if d.apActive ap then
      d.deliver t.id 0 (if pois then poisonUnit else freshUnit (bytesLine (natBytes 8 data.toNat)))
    else d

def execApTargetResponse (ap : Fin 64) (data : Word) (pois : Bool) (s : State) : Host.Outcome State Fault Refusal :=
  took s (·.userAnswer ap data pois)

/-! ### Fabric lanes (R399 - R401) -/

/-- FEC_CODEWORD_RECEIVE on a configured lane in FEC mode: `corrected` symbols, or uncorrectable. Three good codewords in a
row give lock, three bad ones lose it; a locked lane delivers the words unless a loopback disconnects the design.
[DEDUCED, unsafe: notes/assumptions/131] -/
def Device.codeword (d : Device) (l : Nat) (corrected : Option Nat) (words : List (BitVec 257)) : Device :=
  if d.regBit (Reg.cfgFabLaneStatus l) 7 = false ∨ d.regBit (Reg.cfgFabLaneStatus l) 5 = false then d
  else
    let locked := d.regBit (Reg.cfgFabLaneStatus l) 3
    let (good, bad) := mapGet (0, 0) d.fabric.codewords l
    let run := if corrected.isSome then (min 3 (good + 1), 0) else (0, min 3 (bad + 1))
    let d := d.mapFabric (fun f => { f with codewords := mapPut (0, 0) f.codewords l run })
    let d := d.setF (Reg.cfgFabLaneStatus l) 3 1 (b2n (if locked then decide (run.2 < 3) else decide (run.1 = 3)))
    let d := match corrected with
      | some n => d.bump (Reg.cfgFabLaneFecCorrCnt l) n
      | none => if locked then d.bump (Reg.cfgFabLaneFecUncorrCnt l) 1 else d
    if locked && decide (d.regF (Reg.cfgFabLaneTest l) 0 3 = 0) then d.emit (.laneWords l corrected.isNone words) else d

def execFecCodewordReceive (lane : Fin 16) (corrected : Option Nat) (words : List (BitVec 257)) (s : State) :
    Host.Outcome State Fault Refusal :=
  took s (·.codeword lane corrected words)

/-- LANE_PRBS_CLR. -/
def Device.clearLanePrbs (d : Device) (l : Nat) : Device :=
  (d.setReg (Reg.cfgFabLanePrbsBits l) 0).setReg (Reg.cfgFabLanePrbsErr l) 0

def execLanePrbsClr (lane : Fin 16) (s : State) : Host.Outcome State Fault Refusal := took s (·.clearLanePrbs lane)

/-- LANE_INJ_ONCE: one bit of what the lane transmits is inverted. -/
def execLaneInjOnce (lane : Fin 16) (s : State) : Host.Outcome State Fault Refusal :=
  took s (·.emit (.prbsError (64 + lane) 1))

/-- FABRIC_LANE_CDR_LOCK on a configured lane. -/
def Device.cdrLock (d : Device) (l : Nat) (b : Bool) : Device :=
  if d.regBit (Reg.cfgFabLaneStatus l) 7 then d.setF (Reg.cfgFabLaneStatus l) 4 1 (b2n b) else d

def execFabricLaneCdrLock (lane : Fin 16) (locked : Bool) (s : State) : Host.Outcome State Fault Refusal :=
  took s (·.cdrLock lane locked)

/-! ### Block RAM (R389, R390) -/

/-- First byte of the contents of block `n` (96 x region + block) in the configuration memory (R418). -/
def ramBase (n : Nat) : Nat := 1024 * (6144 * (n / 96) + 5280 + 9 * (n % 96))

/-- The 73,728 bits of a block. [DEDUCED, unsafe: notes/assumptions/133] -/
def Device.ramBits (d : Device) (n : Nat) : Nat := bytesNat (memRead d.cfgMem (ramBase n) 9216)

/-- Word `a` of `w` bits among `bits`. -/
def ramWord (bits w a : Nat) : Nat := bits / 2 ^ (w * a) % 2 ^ w

/-- `bits` with word `a` of `w` bits replaced. -/
def ramPut (bits w a v : Nat) : Nat := bits - ramWord bits w a * 2 ^ (w * a) + v % 2 ^ w * 2 ^ (w * a)

/-- A word is one of the block: shapes of 4 bits and fewer use 64 Kib of it (R389). -/
def ramIn (w a : Nat) : Bool := decide (w * (a + 1) ≤ (if w ≤ 4 then 65536 else 73728)) && decide (0 < w)

/-- A port takes a word that it has read; the output register shows the word of the read before (R389). -/
def RamPort.take (p : RamPort) (reg : Bool) (x : RamWord) : RamPort := { latch := x, output := if reg then p.latch else x }

/-- The two accesses name bits in common. -/
def ramMeet (wa wb : Nat) (a b : RamAccess) : Bool :=
  decide (wa * a.addr < wb * (b.addr + 1)) && decide (wb * b.addr < wa * (a.addr + 1))

/-- One port's read: by its own write, the other port's write less than 300 ps away, or what the word held (R390). Marked
reads are counted. -/
def Device.ramRead (d : Device) (n port w : Nat) (mode : WriteMode) (reg ecc undef : Bool) (old : Nat) (x : RamAccess)
    (e : Ecc) : Device :=
  let p := mapGet RamPort.initial d.fabric.ports (2 * n + port)
  let put := fun (d : Device) (v : RamWord) =>
    d.mapFabric (fun f => { f with ports := mapPut RamPort.initial f.ports (2 * n + port) (p.take reg v) })
  if ramIn w x.addr = false then d
  else if undef then
    let (v, d) := d.takeFree 144
    put d { word := v.toNat % 2 ^ w, fix := false, bad := false }
  else match x.write, mode with
    | some _, .hold => put d p.latch
    | some v, .newData => put d { word := v % 2 ^ w, fix := false, bad := false }
    | _, _ =>
      let d := if ecc && e == .corrected then d.bump Reg.cfgFabBramCorrCnt 1
        else if ecc && e == .uncorrectable then d.bump Reg.cfgFabBramUncorrCnt 1 else d
      put d { word := ramWord old w x.addr, fix := ecc && e == .corrected, bad := ecc && e == .uncorrectable }

/-- One port's write, where the region's writes are enabled (R424). -/
def Device.ramWrite (d : Device) (n w : Nat) (x : RamAccess) : Device :=
  match x.write with
  | none => d
  | some v =>
    if bit d.fabric.writeEn (n / 96) && ramIn w x.addr then
      { d with cfgMem := memWrite d.cfgMem (ramBase n) (natBytes 9216 (ramPut (d.ramBits n) w x.addr v)) }
    else d

/-- The FIFO pointers replace the addresses: a write of a FIFO that port A sees full and a read of one that port B sees empty do
nothing. A cycle of a port moves the other port's pointer on by one stage. [DEDUCED, unsafe: notes/assumptions/180] -/
def Device.fifoTurn (d : Device) (n : Nat) (c : RamSetup) (a b : Option RamAccess) :
    Option RamAccess × Option RamAccess × Device :=
  if c.fifo = false then (a, b, d)
  else
    let x := mapGet Fifo.initial d.fabric.fifos n
    let full := fifoFlag c x 1
    let empty := fifoFlag c x 0
    let depthA := max 1 (73728 / max 1 c.widthA)
    let depthB := max 1 (73728 / max 1 c.widthB)
    let wa := a.bind (fun p => if p.write.isSome ∧ full = false then some { p with addr := x.wr % depthA, read := false } else none)
    let rb := b.bind (fun p => if p.read = true ∧ empty = false then some { p with addr := x.rd % depthB, write := none } else none)
    let y : Fifo :=
      { wr := x.wr + b2n wa.isSome, rd := x.rd + b2n rb.isSome,
        toA := if a.isSome then [x.rd, x.toA.headD 0] else x.toA,
        toB := if b.isSome then [x.wr, x.toB.headD 0] else x.toB }
    (wa, rb, d.mapFabric (fun f => { f with fifos := mapPut Fifo.initial f.fifos n y }))

/-- BLOCK_RAM_ACCESS: what ports A and B of block `n` do in one cycle, or, with `near`, on edges of different clocks less than
300 ps apart. Both reads see the block as it was; of two writes to one address, port A's is stored. -/
def Device.ramAccess (d : Device) (n : Nat) (a b : Option RamAccess) (near : Bool) (ea eb : Ecc) : Device :=
  let c := Config.ramSetup d.cfgMem n
  let (a, b, d) := d.fifoTurn n c a b
  let old := d.ramBits n
  let undef := fun (w w' : Nat) (x : RamAccess) (o : Option RamAccess) =>
    near && o.elim false (fun y => y.write.isSome && ramMeet w w' x y)
  let reads := fun (o : Option RamAccess) => o.filter (·.read)
  let d := (reads a).elim d (fun x => d.ramRead n 0 c.widthA c.modeA c.regA c.ecc (undef c.widthA c.widthB x b) old x ea)
  let d := (reads b).elim d (fun x => d.ramRead n 1 c.widthB c.modeB c.regB c.ecc (undef c.widthB c.widthA x a) old x eb)
  let d := b.elim d (fun x => d.ramWrite n c.widthB x)
  a.elim d (fun x => d.ramWrite n c.widthA x)

def execBlockRamAccess (block : Fin 4608) (a b : Option RamAccess) (near : Bool) (eccA eccB : Ecc) (s : State) :
    Host.Outcome State Fault Refusal :=
  took s (·.ramAccess block a b near eccA eccB)

end Sys2Proof.Machine
end

