-- ==== Sys2Proof/Machine/Hbm.lean ====
section
/-!
DEFINITION. The HBM controllers' commands: issue, read completion, refresh, parity alerts and replay, suspect
pseudo-channels and training (R261 - R273).
-/
namespace Sys2Proof.Machine

open Sys2Proof

/-- HBC_STATUS.TRAIN shows a finished training and the stack is not in self-refresh (R271, R272). -/
def Device.stackReady (d : Device) (s : Nat) : Bool :=
  decide (d.regF (Reg.hbcStatus s) 2 2 ≠ 0) && !d.regBit (Reg.hbcStatus s) 8

/-! ### Issue (R262, R264, R265, R270) -/

/-- What a pseudo-channel may issue. -/
inductive Access
  | rd (r : RdEntry) | wr (w : WrEntry)
  deriving DecidableEq, Repr

def Access.sched : Access → Bool
  | .rd r => r.sched
  | .wr w => w.sched

def Access.seq : Access → Nat
  | .rd r => r.seq
  | .wr w => w.seq

def Access.unit : Access → Nat
  | .rd r => r.unit
  | .wr w => w.unit

/-- The bank of unit `u` is free: it is not refreshing, and its last access is over (R261, R263). -/
def Device.bankFree (d : Device) (u : Nat) : Bool :=
  let pk := u / pcUnits
  let b := unitBank u
  let refreshing := (mapGet none d.hbm.refreshed (pk / 32)).elim false (fun e =>
    decide ((e.2 + 3 * (pk % 32)) % 48 = b) && decide (d.now < e.1 + Config.refreshTime))
  let busy := (mapGet none (d.pc pk).opened b).elim false (fun g => decide (d.now < g + Config.bankTime))
  !refreshing && !busy

/-- A read waits behind an older write of its unit (R265); a write behind an older one of its unit (R264). -/
def PseudoChannel.eligible (x : PseudoChannel) : Access → Bool
  | .rd r => !x.writes.any (fun w => w.unit == r.unit && decide (w.seq < r.seq))
  | .wr v => !x.writes.any (fun w => w.unit == v.unit && decide (w.seq < v.seq))

/-- The oldest of the accesses. -/
def oldest : List Access → Option Access
  | [] => none
  | a :: l => match oldest l with
    | none => some a
    | some b => if a.seq ≤ b.seq then some a else some b

def Access.isWrite : Access → Bool
  | .wr _ => true
  | .rd _ => false

/-- The next access of a pseudo-channel, of those whose banks are free by `free` (R262 - R264, R270): a re-read first, which
nothing of its bank passes; then scheduled requests oldest first, with a dynamic one after every 15 of them, and scheduled
writes before scheduled reads while they take precedence. -/
def PseudoChannel.next (x : PseudoChannel) (free : Nat → Bool) : Option Access :=
  match x.reads.find? (fun r => r.reread && free r.unit) with
  | some r => some (.rd r)
  | none =>
    let held := (x.reads.filter (·.reread)).map (fun r => unitBank r.unit)
    let all := (x.reads.map Access.rd ++ x.writes.map Access.wr).filter (fun a =>
      x.eligible a && free a.unit && !held.contains (unitBank a.unit))
    let sched := all.filter Access.sched
    let dyn := all.filter (fun a => !a.sched)
    let sched := if x.writeFirst && sched.any Access.isWrite then sched.filter Access.isWrite else sched
    let waiting := (x.reads.map Access.rd ++ x.writes.map Access.wr).any Access.sched
    if sched.isEmpty then (if waiting && decide (x.run < 15) then none else oldest dyn)
    else if decide (15 ≤ x.run) && !dyn.isEmpty then oldest dyn
    else oldest sched

/-- The last 32 commands stay in the retry buffer (R268). -/
def pushRetry (l : List RetryEntry) (e : RetryEntry) : List RetryEntry := (l ++ [e]).drop (l.length + 1 - 32)

/-- A unit made poisoned by the controller for transaction `id`: a scheduled read's task is marked (R250, R270). -/
def Device.markReader (d : Device) (id : Nat) : Device :=
  if (d.txn id).elim false (·.sched) then d.markPoison 49 else d

/-- The command of a unit, as the retry buffer keeps it (R258, R268). -/
def retryOf (u : Nat) (old : Option DUnit) (full : Bool) (rd : Option RdEntry) : RetryEntry :=
  { unit := u, bank := unitBank u, row := unitRow u, column := unitColumn u, old := old, full := full, rd := rd }

/-- Access `a` of pseudo-channel `pk` is issued and opens its bank: a write reaches the stack and leaves the queue, which takes
the next one that waits (R264), a read takes what the stack holds. A read whose write was lost meanwhile returns poisoned
zeros without an access (R269). -/
def Device.issueAccess (d : Device) (pk : Nat) (a : Access) : Device :=
  let x := d.pc pk
  let x := { x with run := if a.sched then x.run + 1 else 0 }
  let opened := mapPut none x.opened (unitBank a.unit) (some d.now)
  match a with
  | .wr w =>
    let old := d.hbm.mem.unit w.unit
    let ws := x.writes.filter (fun v => v.seq != w.seq)
    let d := { d with hbm := { d.hbm with mem := d.hbm.mem.putUnit w.unit w.data } }
    let d := d.setPc pk { x with
      writes := ws, writeFirst := x.writeFirst && decide (24 < (ws.filter (·.sched)).length), opened := opened,
      retry := pushRetry x.retry (retryOf w.unit (some old) (w.be == -1) none) }
    d.takeInputs pk (d.pc pk).input.length
  | .rd r =>
    let reads := x.reads.filter (fun v => v.seq != r.seq)
    if d.hbmLost r.unit then (d.setPc pk { d.pc pk with reads := reads }).deliver r.txn r.index poisonUnit
    else
      let r := { r with data := d.hbm.mem.unit r.unit }
      d.setPc pk { x with
        reads := reads, flight := x.flight ++ [r], opened := opened,
        retry := pushRetry x.retry (retryOf r.unit none false (some r)) }

/-- HBM_ACCESS_ISSUE. Reads that have arrived in this gcyc are compared with the write queue before, at its end (R265). -/
def Device.hbmIssue (d : Device) (s pc : Nat) : Device :=
  let pk := 32 * s + pc
  let d := if (d.pc pk).arriving.isEmpty then d else d.advance (d.now + 1)
  if d.stackReady s = false then d
  else match (d.pc pk).next d.bankFree with
    | none => d
    | some a => d.issueAccess pk a

def execHbmAccessIssue (stack : Fin 12) (pc : Fin 32) (s : State) : Host.Outcome State Fault Refusal :=
  took s (·.hbmIssue stack pc)

/-! ### Read completion (R270) -/

/-- HBM_READ_COMPLETE: the oldest read in flight returns; `e` is what SECDED found.
[DEDUCED, unsafe: notes/assumptions/49] -/
def Device.hbmComplete (d : Device) (s pc : Nat) (e : Ecc) : Device :=
  let pk := 32 * s + pc
  let x := d.pc pk
  match x.flight with
  | [] => d
  | r :: rest =>
    let d := d.setPc pk { x with flight := rest }
    let d := if e.bad = 0 ∧ e.fixed ≠ 0 then d.corrected (Reg.hbcCorrCnt s) else d
    if d.suspect pk then d.deliver r.txn r.index poisonUnit
    else if e.bad = 0 ∧ r.data.pois = true then d.deliver r.txn r.index poisonUnit
    else if e.bad = 0 ∧ unitOk r.data = true then
      (if r.reread then d.bump (Reg.hbcRereadOkCnt s) 1 else d).deliver r.txn r.index r.data
    else if r.reread then ((d.uncorrected (Reg.hbcUncorrCnt s)).markReader r.txn).deliver r.txn r.index poisonUnit
    else
      let x := d.pc pk
      d.setPc pk { x with reads := { r with reread := true } :: x.reads }

def execHbmReadComplete (stack : Fin 12) (pc : Fin 32) (ecc : Ecc) (s : State) : Host.Outcome State Fault Refusal :=
  took s (·.hbmComplete stack pc ecc)

/-! ### Refresh (R263) -/

/-- The first multiple of `i` after gcyc `g`. -/
def nextMultiple (i g : Nat) : Nat := (g / i + 1) * i

/-- HBM_REFRESH: at the next multiple of a refresh interval in force, every pseudo-channel of the stacks with that interval
refreshes one bank; at multiples of 48 x 81 gcyc the intervals that the temperatures ask for are taken over. -/
def Device.hbmRefresh (d : Device) : Device :=
  if d.belfry.counting = false then d
  else
    let last := max d.hbm.lastRefresh (d.now - 1)
    let cold := d.hbm.hot != 0xFFF || d.hbm.wantHot != d.hbm.hot
    let a := if cold then [nextMultiple 81 last] else []
    let b := if d.hbm.hot != 0 then [nextMultiple 40 last] else []
    let g := (a ++ b).foldl min (nextMultiple 3888 last)
    let d := d.advance g
    let hot := if g % 3888 = 0 then d.hbm.wantHot else d.hbm.hot
    let d := (List.range 12).foldl (fun d s => d.setF (Reg.hbcStatus s) 9 1 (b2n (bit hot s))) d
    let done := (List.range 12).foldl (fun m s =>
      let i := if bit hot s then 40 else 81
      if g % i = 0 ∧ d.stackReady s = true then mapPut none m s (some (g, g / i % 48)) else m) d.hbm.refreshed
    { d with hbm := { d.hbm with hot := hot, refreshed := done, lastRefresh := g } }

def execHbmRefresh (s : State) : Host.Outcome State Fault Refusal := took s Device.hbmRefresh

/-! ### Parity alerts (R268, R269) -/

/-- A lost write enters the table of its pseudo-channel; a full table makes it SUSPECT (R269). -/
def Device.loseWrite (d : Device) (pk u : Nat) : Device :=
  let x := d.pc pk
  if x.lost.contains u then d
  else if 64 ≤ x.lost.length then d.raise (Reg.hbcSuspect (pk / 32)) (BitVec.ofNat 64 (2 ^ (pk % 32)))
  else d.setPc pk { x with lost := x.lost ++ [u] }

/-- The unconfirmed commands are abandoned (R268): reads deliver poisoned zeros, writes are lost and the stack keeps what
it held. [DEDUCED, unsafe: notes/assumptions/48] -/
def Device.abandon (d : Device) (pk : Nat) : Device :=
  let s := pk / 32
  let x := d.pc pk
  let reads := x.retry.filterMap (·.rd)
  let writes := x.retry.filter (·.old.isSome)
  let flying := reads.filter (fun r => x.flight.any (fun f => f.seq == r.seq))
  let d := d.setPc pk { x with
    retry := [], replays := 0, flight := x.flight.filter (fun f => !reads.any (fun r => r.seq == f.seq)) }
  let d := flying.foldl (fun d r => (d.bump Reg.errUncorrCnt 1).deliver r.txn r.index poisonUnit) d
  let d := writes.reverse.foldl (fun d w =>
    { d with hbm := { d.hbm with mem := d.hbm.mem.putUnit w.unit (w.old.getD zeroUnit) } }) d
  let full := decide (64 < (x.lost ++ (writes.map (·.unit)).eraseDups.filter (fun u => !x.lost.contains u)).length)
  let d := writes.foldl (fun d w => (d.loseWrite pk w.unit).bump (Reg.hbcLostWrCnt s) 1) d
  let d := d.markPoison 49
  d.faultRecord 0x31 s [(8, s), (12, pk % 32)]
    (BitVec.ofNat 64 (64 * (x.retry.head?.elim 0 (fun e => e.unit % pcUnits))))
    (mkWord [(0, flying.length), (8, writes.length), (16, b2n full)]) 0 0 0 d.now 0

/-- PARITY_ALERT: every unconfirmed command is replayed; after three failed replays they are abandoned. -/
def Device.parityAlert (d : Device) (s pc : Nat) (writeData : Bool) : Device :=
  let pk := 32 * s + pc
  let x := d.pc pk
  if x.retry.isEmpty then d
  else
    let d := d.bump (if writeData then Reg.hbcWdparCnt s else Reg.hbcCaparCnt s) 1
    if 3 ≤ x.replays then d.abandon pk
    else (d.bump (Reg.hbcReplayCnt s) 1).setPc pk { x with replays := x.replays + 1 }

def execParityAlert (stack : Fin 12) (pc : Fin 32) (writeData : Bool) (s : State) : Host.Outcome State Fault Refusal :=
  took s (·.parityAlert stack pc writeData)

/-- COMMAND_CONFIRMED: the oldest unconfirmed command leaves the retry buffer; a full-unit write removes its unit from the
lost-write table (R268, R269). -/
def Device.confirm (d : Device) (s pc : Nat) : Device :=
  let pk := 32 * s + pc
  let x := d.pc pk
  match x.retry with
  | [] => d
  | e :: rest =>
    d.setPc pk { x with
      retry := rest, replays := 0,
      lost := if e.full && e.old.isSome then x.lost.filter (fun u => u != e.unit) else x.lost }

def execCommandConfirmed (stack : Fin 12) (pc : Fin 32) (s : State) : Host.Outcome State Fault Refusal :=
  took s (·.confirm stack pc)

/-- A write to HBC_SUSPECT: every bit written 1 is cleared, and the lost-write table of its pseudo-channel is emptied
(R269). -/
def Device.clearSuspect (d : Device) (s : Nat) (v : BitVec 32) : Device :=
  let v := v &&& ~~~((d.raised (Reg.hbcSuspect s)).setWidth 32)
  let d := d.clearBits (Reg.hbcSuspect s) (v.setWidth 64)
  (List.range 32).foldl (fun d p => if bit v p then d.setPc (32 * s + p) { d.pc (32 * s + p) with lost := [] } else d) d

def execHbcSuspectClear (stack : Fin 12) (data : BitVec 32) (s : State) : Host.Outcome State Fault Refusal :=
  took s (·.clearSuspect stack data)

/-! ### Training (R272, R273) -/

/-- HBC_CTL.CLR_RETAIN: the stack's retained training record is invalid at once. -/
def Device.clrRetain (d : Device) (s : Nat) : Device :=
  { d with belfry := { d.belfry with hbmRetain := mapPut none d.belfry.hbmRetain s none } }

/-- BFY_ID.VERSION (R506). -/
def Device.chipVersion (d : Device) : Nat := d.regF Reg.bfyId 28 4

/-- The CRC-32C that a retained record of these results, identity and version carries (R272). -/
def recordCrc (results : Word) (identity version : Nat) : BitVec 32 :=
  crc32c (natBytes 8 results.toNat ++ natBytes 4 identity ++ natBytes 1 version)

/-- The record retained for stack `s` is valid: its CRC holds, and its identity and version are those of the stack and of the
device now (R272). -/
def Device.recordValid (d : Device) (s : Nat) : Bool :=
  (mapGet none d.belfry.hbmRetain s).elim false (fun r =>
    r.crc == recordCrc r.results r.identity r.version && r.identity == Config.stackIdentity s && r.version == d.chipVersion)

/-- A full training of stack `s` keeps its results (R272): they are a free value. -/
def Device.retainRecord (d : Device) (s : Nat) : Device :=
  let r := d.takeFree 64
  let id := Config.stackIdentity s
  let rec_ : HbmRecord :=
    { results := r.1, crc := recordCrc r.1 id d.chipVersion, identity := id, version := d.chipVersion }
  { r.2 with belfry := { r.2.belfry with hbmRetain := mapPut none r.2.belfry.hbmRetain s (some rec_) } }

def execHbcClrRetain (stack : Fin 12) (s : State) : Host.Outcome State Fault Refusal := took s (·.clrRetain stack)

/-- HBM_TRAINING_COMPLETE: short training where a valid record is retained and FULL_TRAIN is 0, otherwise full; a short
training that fails its verification falls back to full. Without training code it is skipped (R444).
[DEDUCED, unsafe: notes/assumptions/50] -/
def Device.trained (d : Device) (s : Nat) (o : TrainOutcome) : Device :=
  if d.keep.noPhy = true ∨ d.regF (Reg.hbcStatus s) 2 2 ≠ 0 then d
  else
    let short := d.recordValid s && !d.regBit (Reg.hbcCtl s) 0
    if short && o == .verified then d.setF (Reg.hbcStatus s) 2 2 1
    else
      let reached := match o with
        | .verified => true
        | .fellBack m => m
        | .margins m => m
      let d := (d.setF (Reg.hbcStatus s) 2 2 (if reached then 2 else 3)).setF (Reg.hbcCtl s) 0 1 0
      let d := d.retainRecord s
      if reached then d else d.raise (Reg.hbcSuspect s) 0xFFFFFFFF

def execHbmTrainingComplete (stack : Fin 12) (outcome : TrainOutcome) (s : State) : Host.Outcome State Fault Refusal :=
  took s (·.trained stack outcome)

end Sys2Proof.Machine
end

