-- ==== Sys2Proof/Machine/Frames.lean ====
section
/-!
DEFINITION. Frames and flits of a Lomion link as bytes on its lanes: the flit header, the unit positions, control units, FEC
parity, alignment markers, the rotation over the lanes and the scrambler (R313, R317, R320 - R322, R325).
-/
namespace Sys2Proof.Machine

open Sys2Proof

/-! ### Units of a flit (R321, R325) -/

/-- Words X0-X7 of a control unit (R317, R325): TYPE in byte 0; EXCH and CREDIT as laid out there, any other unit's fields where
an implementation puts them. -/
def controlWords (typ : Nat) (ws : List Nat) : List Word :=
  let w := fun i => ws.getD i 0
  let xs :=
    if typ = 1 then [0, BitVec.ofNat 64 (w 0), mkWord [(0, w 1 % 2 ^ 32), (32, w 2 % 2 ^ 32)],
      mkWord [(0, w 3 % 2 ^ 32), (32, w 4 % 2 ^ 32)]]
    else if typ = 2 then [mkWord [(8, w 0 % 4), (10, w 1 % 256)], BitVec.ofNat 64 (w 2 % 2 ^ 48)]
    else if typ = 4 then []
    else Config.controlFields typ ws
  let xs := (xs ++ List.replicate (8 - xs.length) 0).take 8
  putFld (wd xs 0) 0 8 typ :: xs.drop 1

/-- A control unit as it stands in its unit position, with the check of its 64 bytes. -/
def controlLine (u : Nat × List Nat) : DUnit :=
  let v := bytesLine (wordsBytes (controlWords u.1 u.2))
  { data := v, check := lineCheck v, pois := false }

/-- The units of a flit by position; none: the position carries no unit (UVALID 0). -/
def bodyPositions : FlitBody → List (Option DUnit)
  | .idle => []
  | .sched _ _ us => us
  | .dyn us => us.map (fun u => some u.data)
  | .ctrl us => us.map (fun u => some (controlLine u))

/-- The 68 bytes of a unit position: data and CRC-32C. What an empty one holds is not given. -/
def positionBytes (u : Option DUnit) : List Byte :=
  let u := u.getD Config.emptyPosition
  lineBytes u.data ++ natBytes 4 u.check.toNat

/-! ### The header (R322) -/

/-- KIND. -/
def bodyKind : FlitBody → Nat
  | .idle => 0
  | .sched _ _ _ => 1
  | .dyn _ => 2
  | .ctrl _ => 3

/-- Header bits [60:45]. -/
def bodyFields : FlitBody → Nat
  | .sched eng thread us =>
    let pois := fun (i : Nat) => ((us.getD i none).map (fun (x : DUnit) => b2n x.pois)).getD 0
    ((List.range 4).map (fun i => pois i * 2 ^ i)).sum + eng % 4 * 2 ^ 4 + thread % 256 * 2 ^ 6
  | .dyn us => ((List.range us.length).map (fun i => match us[i]? with
      | some u => (b2n u.data.pois + 2 * b2n u.vcr + 4 * b2n u.tail + 8 * b2n u.head) * 16 ^ i
      | none => 0)).sum
  | _ => 0

/-- The header of a flit. -/
def flitHeader (fl : Flit) : Word :=
  let valid := fun (i : Nat) => b2n ((bodyPositions fl.body).getD i none).isSome
  mkWord [(0, fl.slot % 32), (5, fl.frame % 2048), (16, bodyKind fl.body), (18, b2n fl.replay.isSome), (19, fl.replay.getD 0 % 32),
    (24, b2n fl.nak.isSome), (25, fl.nak.elim 0 (·.2) % 32), (30, fl.nak.elim 0 (·.1) % 2048),
    (41, ((List.range 4).map (fun i => valid i * 2 ^ i)).sum), (45, bodyFields fl.body)]

/-! ### Bytes (R320, R321) -/

/-- The bytes of `bs` at even or at odd positions: the message of one of the two interleaved codewords. -/
def everyOther : List Byte → List Byte
  | [] => []
  | [b] => [b]
  | b :: _ :: bs => b :: everyOther bs

/-- Two codewords' bytes, interleaved. -/
def interleave : List Byte → List Byte → List Byte
  | b :: bs, c :: cs => b :: c :: interleave bs cs
  | _, _ => []

/-- The 296 bytes of a flit: header, four unit positions, and the parity of two RS(148,140) codewords. -/
def flitBytes (fl : Flit) : List Byte :=
  let body := natBytes 8 (flitHeader fl).toNat ++ (List.range 4).flatMap (fun i => positionBytes ((bodyPositions fl.body).getD i none))
  let parity := fun (bs : List Byte) => (Config.fecParity (everyOther bs) ++ List.replicate 8 0).take 8
  body ++ interleave (parity body) (parity (body.drop 1))

/-! ### Lanes (R313) -/

/-- The data lanes of a WIDTH code. -/
def lanesOf (width : Nat) : List Nat := if width = 1 then [0, 1] else if width = 2 then [2, 3] else [0, 1, 2, 3]

/-- The bytes of `bs` that go to the `i`-th of `n` lanes, in rotation. -/
def laneShare (n i : Nat) (bs : List Byte) : List Byte :=
  ((List.range bs.length).filter (fun b => b % n == i)).map (fun b => bs.getD b 0)

/-- One bit through the scrambler x^58 + x^39 + 1, whose last 58 output bits are `s`. -/
def scrambleBit (s : BitVec 58) (b : Bool) : BitVec 58 × Bool :=
  let o := b ^^ s.getLsbD 38 ^^ s.getLsbD 57
  (s <<< 1 ||| (if o then 1 else 0), o)

/-- `n` bits of `v`, the lowest first. -/
def scrambleBits : Nat → BitVec 58 → Nat → BitVec 58 × Nat
  | 0, s, _ => (s, 0)
  | n + 1, s, v =>
    let r := scrambleBit s (decide (v % 2 = 1))
    let q := scrambleBits n r.1 (v / 2)
    (q.1, b2n r.2 + 2 * q.2)

/-- Bytes of a lane through its scrambler. -/
def scramble (s : BitVec 58) : List Byte → BitVec 58 × List Byte
  | [] => (s, [])
  | b :: bs =>
    let r := scrambleBits 8 s b.toNat
    let q := scramble r.1 bs
    (q.1, BitVec.ofNat 8 r.2 :: q.2)

/-- Scramblers and bytes of the four lanes when `bs` is sent over the lanes of `width`. -/
def scrambled (width : Nat) (ss : List (BitVec 58)) (bs : List Byte) : List (BitVec 58) × List (List Byte) :=
  let ls := lanesOf width
  let r := (List.range 4).map (fun l =>
    if ls.contains l then scramble (ss.getD l 0) (laneShare ls.length (ls.idxOf l) bs) else (ss.getD l 0, []))
  (r.map (·.1), r.map (·.2))

/-- A flit is put on the lanes of link `n`. -/
def Device.driveFlit (d : Device) (n : Nat) (fl : Flit) : Device :=
  let r := scrambled (d.regF (Reg.turLinkStatus n) 44 2) (d.link n).scramblers (flitBytes fl)
  d.mapLink n (fun x => { x with scramblers := r.1, wire := r.2 })

/-- The alignment marker of frame `f` is put on the lanes of link `n`, not scrambled (R313, R320). -/
def Device.driveMarker (d : Device) (n f : Nat) : Device :=
  let ls := lanesOf (d.regF (Reg.turLinkStatus n) 44 2)
  d.mapLink n (fun x => { x with
    wire := (List.range 4).map (fun l => if ls.contains l then Config.markerBytes l (f % 2048) else []) })

end Sys2Proof.Machine
end

