-- ==== Sys2Proof/Machine/Links.lean ====
section
/-!
DEFINITION. The Lomion links' commands: bring-up, exchange, frames and slots, bounded replay, what control flits carry, test
modes and PRBS (R314 - R338).
-/
namespace Sys2Proof.Machine

open Sys2Proof

/-! ### Bring-up (R314 - R319) -/

/-- EN = 1 moves a DOWN link to DETECT. -/
def Device.enableLink (d : Device) (n : Nat) : Device := (d.setF (Reg.turLinkCtl n) 31 1 1).startLink n

def execLinkEnable (link : Fin 64) (s : State) : Host.Outcome State Fault Refusal := took s (·.enableLink link)

/-- EN = 0 moves the link to DOWN from any state, and clears GEN2_FAIL (R314, R318). -/
def Device.disableLink (d : Device) (n : Nat) : Device :=
  ((d.setF (Reg.turLinkCtl n) 31 1 0).setF (Reg.turLinkStatus n) 49 1 0).toLinkState n 0

def execLinkDisable (link : Fin 64) (s : State) : Host.Outcome State Fault Refusal := took s (·.disableLink link)

/-- RETRAIN clears GEN2_FAIL and moves an ACTIVE link to TRAIN, at Lomion-1 (R314, R318). -/
def Device.retrainLink (d : Device) (n : Nat) : Device :=
  let d := d.setF (Reg.turLinkStatus n) 49 1 0
  if d.linkState n = 5 then (d.toLinkState n 2).mapLink n (fun x => { x with gen2 := false }) else d

def execLinkRetrain (link : Fin 64) (s : State) : Host.Outcome State Fault Refusal := took s (·.retrainLink link)

/-- CLR_RETAIN invalidates the link's retained training records (R316). -/
def Device.clearLinkRetain (d : Device) (n : Nat) : Device :=
  d.mapLink n (fun x => { x with retain1 := none, retain2 := none })

def execTurClrRetain (link : Fin 64) (s : State) : Host.Outcome State Fault Refusal := took s (·.clearLinkRetain link)

/-- TERMINATION_DETECT: a link in DETECT that sees the far end's termination and a stable clock enters TRAIN, unless
the Keep has no training code (R444). -/
def Device.detectTermination (d : Device) (n : Nat) (present : Bool) : Device :=
  let d := d.startLink n
  if d.linkState n = 1 ∧ present = true ∧ d.regBit (Reg.turLinkStatus n) 52 = false ∧ d.keep.noPhy = false then
    d.toLinkState n 2
  else d

def execTerminationDetect (link : Fin 64) (present : Bool) (s : State) : Host.Outcome State Fault Refusal :=
  took s (·.pinEvent (·.detectTermination link present))

/-- LOSS_OF_CLOCK: ABSENT is set and counted, GEN2_FAIL cleared, and the link enters DETECT; a DOWN link stays DOWN, and a
loopback in force stays so. A member locked to this link is in HOLDOVER (R315, R318, R343).
[DEDUCED, unsafe: notes/assumptions/69] -/
def Device.loseClock (d : Device) (n : Nat) : Device :=
  if d.regBit (Reg.turLinkStatus n) 52 then d
  else
    let d := (d.setFs (Reg.turLinkStatus n) [(52, 1, 1), (49, 1, 0)]).bump (Reg.turAbsentCnt n) 1
    let d := if d.linkState n = 0 ∨ d.linkState n = 6 then d else d.toLinkState n 1
    if d.isUpLink n && decide (d.freq = 2) then (d.setF Reg.cluStatus 2 3 3).bump Reg.cluHoldoverCnt 1 else d

def execLossOfClock (link : Fin 64) (s : State) : Host.Outcome State Fault Refusal := took s (·.loseClock link)

/-- CLOCK_RESTORED: ABSENT is cleared (R315). -/
def Device.restoreClock (d : Device) (n : Nat) : Device := (d.startLink n).setF (Reg.turLinkStatus n) 52 1 0

def execClockRestored (link : Fin 64) (s : State) : Host.Outcome State Fault Refusal := took s (·.restoreClock link)

/-- The peer as last exchanged: its DEVICE and CLUSTER_ID (R316). -/
def Device.peerIdentity (d : Device) (n : Nat) : Nat × Nat :=
  (d.regF (Reg.turLinkPeer n) 0 10, d.regF (Reg.turLinkPeer n) 32 32)

/-- The retained record of the generation in training. -/
def Link.record (x : Link) : Option LinkRecord := if x.gen2 then x.retain2 else x.retain1

/-- The training record of the generation in use is replaced (R316). -/
def Link.setRecord (x : Link) (r : Option LinkRecord) : Link :=
  if x.gen2 then { x with retain2 := r } else { x with retain1 := r }

/-- The CRC-32C of a record: over its settings, VERSION and the peer (R316). -/
def linkCrc (settings : Word) (version device cluster : Nat) : BitVec 32 :=
  crc32c (natBytes 8 settings.toNat ++ natBytes 1 version ++ natBytes 2 device ++ natBytes 4 cluster)

def LinkRecord.make (settings : Word) (version : Nat) (peer : Nat × Nat) : LinkRecord :=
  { settings := settings, crc := linkCrc settings version peer.1 peer.2, version := version, device := peer.1,
    cluster := peer.2 }

def LinkRecord.peer (r : LinkRecord) : Nat × Nat := (r.device, r.cluster)

/-- The record that link `n` restores: its CRC holds and its stepping is this device's (R316). -/
def Device.linkRecordValid (d : Device) (n : Nat) : Bool :=
  (d.link n).record.elim false (fun r =>
    r.crc == linkCrc r.settings r.version r.device r.cluster && r.version == d.regF Reg.bfyId 28 4)

/-- TRAIN_COMPLETE: a valid retained record that is verified makes the training short; otherwise it is full and its record,
whose settings are a free value, is retained. The link enters LOCK (R316). [DEDUCED, unsafe: notes/assumptions/65] -/
def Device.linkTrained (d : Device) (n : Nat) (verified : Bool) : Device :=
  let x := d.link n
  if d.linkState n ≠ 2 then d
  else
    let short := d.linkRecordValid n && verified && !x.fullNext && !d.regBit (Reg.turLinkCtl n) 24
    let d := if short then d.setF (Reg.turLinkStatus n) 41 2 1
      else
        let r := ((d.setF (Reg.turLinkStatus n) 41 2 2).setF (Reg.turLinkCtl n) 24 1 0).takeFree 64
        r.2.mapLink n (fun x => { x.setRecord
          (some (LinkRecord.make r.1 (d.regF Reg.bfyId 28 4) (d.peerIdentity n))) with fullNext := false })
    (d.setF (Reg.turLinkStatus n) 46 2 (if x.gen2 then 2 else 1)).toLinkState n 3

def execTrainComplete (link : Fin 64) (verified : Bool) (s : State) : Host.Outcome State Fault Refusal :=
  took s (·.linkTrained link verified)

/-- SYMBOL_LOCK: the data lanes in lock, as WIDTH codes them, and EXCHANGE (R314). No lane in lock is no lock.
[DEDUCED, unsafe: notes/assumptions/68] -/
def Device.symbolLocked (d : Device) (n lanes : Nat) : Device :=
  if d.linkState n ≠ 3 ∨ lanes = 0 then d
  else ((d.mapLink n (fun x => { x with lanes := lanes })).setF (Reg.turLinkStatus n) 44 2 lanes).toLinkState n 4

def execSymbolLock (link : Fin 64) (lanes : Fin 4) (s : State) : Host.Outcome State Fault Refusal :=
  took s (·.symbolLocked link lanes)

/-- BRING_UP_TIMEOUT: from TRAIN, LOCK or EXCHANGE back to DETECT, counted; TRAIN or LOCK at Lomion-2 sets GEN2_FAIL
(R314, R318). -/
def Device.bringUpFailed (d : Device) (n : Nat) : Device :=
  let st := d.linkState n
  if st < 2 ∨ 4 < st then d
  else
    let d := if (d.link n).gen2 ∧ st ≠ 4 then d.setF (Reg.turLinkStatus n) 49 1 1 else d
    (d.bump (Reg.turTrainFailCnt n) 1).toLinkState n 1

def execBringUpTimeout (link : Fin 64) (s : State) : Host.Outcome State Fault Refusal := took s (·.bringUpFailed link)

/-- The retained records after an exchange with the peer `p` (R316): the record of a full training takes the peer's
identity; a record of another peer is invalid, and the next training is full. [DEDUCED, unsafe: notes/assumptions/67] -/
def keepRecords (x : Link) (full : Bool) (p : Nat × Nat) : Link :=
  let x := if full then x.setRecord (x.record.map (fun r => LinkRecord.make r.settings r.version p)) else x
  let stale := fun (r : Option LinkRecord) => r.elim false (fun r => r.peer != p)
  { x with retain1 := if stale x.retain1 then none else x.retain1,
           retain2 := if stale x.retain2 then none else x.retain2,
           fullNext := x.fullNext || stale x.retain1 || stale x.retain2 }

/-- Lomion-2 is chosen (R317): the peer's GEN_CAP has it, GEN2_EN is 1 and GEN2_FAIL is 0.
[DEDUCED, unsafe: notes/assumptions/64] -/
def Device.choosesGen2 (d : Device) (n : Nat) (peer : Word) : Bool :=
  bit peer 11 && d.regBit (Reg.turLinkCtl n) 29 && !d.regBit (Reg.turLinkStatus n) 49

/-- FEC CORRECT is chosen (R317). FEC_REQ 0b11 acts as no preference. -/
def Device.choosesCorrect (d : Device) (n : Nat) (peer : Word) (gen2 : Bool) : Bool :=
  let a := d.regF (Reg.turLinkCtl n) 26 2
  let b := fld peer 14 2
  if a = 1 ∨ b = 1 then true else if a = 2 ∧ b = 2 then false else gen2

/-- The exchange is complete (R317 - R319): a change of generation trains again; a width that is not accepted leaves the
link in EXCHANGE; otherwise the link is ACTIVE with its results. -/
def Device.exchanged (d : Device) (n : Nat) (u : Exchanged) : Device :=
  let x := d.link n
  let gen2 := d.choosesGen2 n u.peer
  let width := x.lanes &&& fld u.peer 12 2
  if width = 0 ∨ (width ≠ 3 ∧ d.regBit (Reg.turLinkCtl n) 28 = false) then d
  else
    let full := decide (d.regF (Reg.turLinkStatus n) 41 2 = 2)
    let d := (d.setReg (Reg.turLinkPeer n) u.peer).setReg (Reg.turLinkPeerEpoch n) (BitVec.ofNat 64 u.epoch)
    let d := d.mapLink n (fun x => keepRecords x full (d.peerIdentity n))
    if gen2 ≠ x.gen2 then (d.toLinkState n 2).mapLink n (fun x => { x with gen2 := gen2 })
    else
      let d := d.setFs (Reg.turLinkStatus n)
        [(46, 2, if gen2 then 2 else 1), (44, 2, width), (43, 1, b2n (d.choosesCorrect n u.peer gen2)),
         (24, 12, min 4095 ((x.rtt + 1) / 2)), (53, 3, max 1 (min 4 (d.wantedFrames n)))]
      (d.mapLink n (fun x => { x with done := some u })).activate n

/-- EXCH: in EXCHANGE, four identical units in a row and an echo of one of this end's own complete the exchange; in ACTIVE,
differing fields move the link to EXCHANGE (R317, R336). -/
def Device.exchReceived (d : Device) (n : Nat) (u : ExchUnit) : Device :=
  let x := d.link n
  let e : Exchanged := { peer := u.peer, epoch := u.epoch }
  if d.linkState n = 5 then
    if x.done = some e then d.mapLink n (fun x => { x with ts := some (u.ts, d.now) })
    else (d.toLinkState n 4).mapLink n (fun x => { x with last := some e, same := 1, ts := some (u.ts, d.now) })
  else if d.linkState n = 4 then
    let echo := x.sentTs.contains u.echoTs
    let rtt := ((d.now % 2 ^ 32 + 2 ^ 33 - u.echoTs % 2 ^ 32 - u.echoHold % 2 ^ 32) % 2 ^ 32)
    let d := d.mapLink n (fun x => { x with
      last := some e, same := if x.last = some e then x.same + 1 else 1, ts := some (u.ts, d.now),
      echoed := x.echoed || echo, rtt := if echo then rtt else x.rtt })
    if 4 ≤ (d.link n).same ∧ (d.link n).echoed = true then d.exchanged n e else d
  else d

def execExch (link : Fin 64) (unit : ExchUnit) (s : State) : Host.Outcome State Fault Refusal :=
  took s (·.exchReceived link unit)

/-! ### Slot tables (R326, R327) -/

/-- Byte offset in the schedule store of the entry of a table for link `n`, frame `f` and slot `k`. -/
def SlotTable.entryAt (t : SlotTable) (n f k : Nat) : Nat :=
  let rank := ((linksOf t.mask).filter (fun i => decide (i < n))).length
  t.entries + 8 * ((rank * t.period + (f - t.first) % t.period) * 31 + k)

/-- The entry of link `n` for slot `k` of frame `f`, where a table is current. [DEDUCED, unsafe: notes/assumptions/37] -/
def Device.slotEntry (d : Device) (n f k : Nat) : Option Word :=
  let pick := fun (t : SlotTable) => if t.first ≤ f then some t else none
  let now := (mapGet none d.links.tables n).bind pick
  let t := if now.isSome then now else (mapGet none d.links.before n).bind pick
  if 30 < k then none else t.map (fun t => wd (d.schedWords (t.entryAt n f k) 1) 0)

/-- A table becomes current on link `n` from the first frame that begins at or after `stamp`. -/
def Device.useTable (d : Device) (n stamp : Nat) (t : SlotTable) : Device :=
  let f0 := (stamp + d.frameLen n - 1) / d.frameLen n
  { d with links := { d.links with
      before := mapPut none d.links.before n (mapGet none d.links.tables n),
      tables := mapPut none d.links.tables n (some { t with first := f0 }) } }

/-- LINKTAB_STEP: the table of S1 becomes current on every link of its LINK_MASK. -/
def Device.linktabStep (d : Device) : Device :=
  match d.nextStep 3 with
  | none => d
  | some (r, s1, stamp) =>
    let d := d.issueStep stamp
    let base := d.allocBase r.slot
    let ws := d.schedWords (base + 16 * fld s1 0 16) 2
    let t : SlotTable := { mask := wd ws 0, period := fld (wd ws 1) 0 6 + 1, entries := base + 8 * fld (wd ws 1) 6 26,
                           first := 0 }
    (linksOf t.mask).foldl (fun d n => d.useTable n stamp t) d

def execLinktabStep (s : State) : Host.Outcome State Fault Refusal := took s Device.linktabStep

/-- The LINK thread that an RX entry names (R326). -/
def rxThread (e : Option Word) : Option Nat :=
  e.bind (fun w => if bit w 12 && !bit w 13 then some (256 * fld w 14 2 + fld w 16 8) else none)

/-! ### Transmission (R320, R328, R330, R331, R334, R335) -/

/-- FRAME_START: the next frame of the transmitter's own counter begins (R320). Flits are kept for D frames, and a NAK is
sent until the end of the frame after its detection (R331). -/
def Device.frameStart (d : Device) (n : Nat) : Device :=
  let st := d.linkState n
  if st < 3 ∨ 5 < st then d
  else
    let len := d.frameLen n
    let c := (d.now + len - 1) / len
    let f := if c = (d.link n).txFrame then c + 1 else c
    let dist := d.replayFrames n
    (((d.advance (f * len)).driveMarker n f)).mapLink n (fun x => { x with
      txFrame := f, txSlot := 0,
      sent := x.sent.filter (fun e => decide (f ≤ e.frame + dist)),
      naks := x.naks.filter (fun e => decide (f ≤ e.1 + dist)),
      nakTx := x.nakTx.bind (fun e => if f ≤ e.2.2 then some e else none) })

def execFrameStart (link : Fin 64) (s : State) : Host.Outcome State Fault Refusal := took s (·.frameStart link)

/-- What EXCH carries (R317): this device's number, capabilities, width, FEC request, role, strap, CONFIGURED, cluster and
epoch, the time of transmission, and the echo of the peer's last TS. GEN_CAP shows Lomion-2 where it may be chosen. -/
def Device.exchWords (d : Device) (n at_ : Nat) : List Nat :=
  let x := d.link n
  let m := d.cluster.member
  let gen2 := d.regBit (Reg.turLinkCtl n) 29 && !d.regBit (Reg.turLinkStatus n) 49
  let x1 := mkWord [(0, d.device), (10, if gen2 then 3 else 1), (12, x.lanes), (14, d.regF (Reg.turLinkCtl n) 26 2),
    (16, Config.exchRole n % 4), (18, b2n d.belfry.cmstr), (19, b2n (!d.belfry.cdoneLow)),
    (32, m.elim 0 (·.clusterId))]
  [x1.toNat, Config.exchEpoch % 2 ^ 32, at_ % 2 ^ 32, x.ts.elim 0 (·.1), x.ts.elim 0 (fun e => at_ - e.2)]

/-- Up to `k` units that PEER thread `tk` has ready are taken and committed; a unit past its due time is discarded
(R230, R232, R328). -/
def Device.takePeer (d : Device) (tk : Nat) : Nat → Nat → List (Option DUnit) × Device
  | 0, _ => ([], d)
  | _, 0 => ([], d)
  | k + 1, fuel + 1 =>
    match d.thread tk with
    | none => ([], d)
    | some x =>
      match x.outbox with
      | [] => ([], d)
      | (i, u) :: rest =>
        let d := d.setThread tk (some { x with outbox := rest })
        if x.due i < d.now then (d.lateUnit tk x.stamp).takePeer tk (k + 1) fuel
        else
          let r := (d.commitUnit tk x.stamp).takePeer tk k fuel
          (some (carried u) :: r.1, r.2)

/-- A control unit as it leaves at gcyc `at_`: the time stamps of alignment are filled in (R344).
[DEDUCED, unsafe: notes/assumptions/80] -/
def Device.stampControl (d : Device) (at_ : Nat) (u : CtrlUnit) : Nat × List Nat :=
  let t := d.stampAt at_
  if u.typ = 0x10 then (0x10, [t]) else if u.typ = 0x11 then (0x11, [u.words.headD 0, t]) else (u.typ, u.words)

/-- The oldest four control units of link `n` leave at gcyc `at_` (R325). -/
def Device.takeControl (d : Device) (n at_ : Nat) : List (Nat × List Nat) × Device :=
  let mine := (d.links.ctrl.filter (fun u => u.link == n)).take 4
  let rest := mine.foldl (fun l u => l.erase u) d.links.ctrl
  let us := mine.map (d.stampControl at_)
  let t3 := (us.filter (fun u => u.1 == 0x11)).getLast?.map (fun u => u.2.getD 1 0)
  (us, { d with links := { d.links with ctrl := rest },
                cluster := { d.cluster with t3 := if t3.isSome then t3 else d.cluster.t3 } })

/-- What a free slot carries: control units, else network flits, else nothing (R330). A MISMATCH link carries no control
units (R319), and a link in keep-alive no network flits (R335). -/
def Device.unboundSlot (d : Device) (n at_ : Nat) : FlitBody × Device :=
  let r := d.takeControl n at_
  if r.1.isEmpty = false ∧ d.regBit (Reg.turLinkStatus n) 50 = false then (.ctrl r.1, r.2)
  else
    let q := mapGet [] d.links.dyn n
    if q.isEmpty ∨ d.regBit (Reg.turLinkStatus n) 48 = true then (.idle, d)
    else (.dyn (q.take 4), { d with links := { d.links with dyn := mapPut [] d.links.dyn n (q.drop 4) } })

/-- What slot `k` of frame `f` carries on an ACTIVE link (R328, R330, R334). -/
def Device.slotBody (d : Device) (n f k at_ : Nat) : FlitBody × Device :=
  match d.slotEntry n f k with
  | some e =>
    if bit e 0 = false then d.unboundSlot n at_
    else if bit e 1 then
      let r := d.takeControl n at_
      if r.1.isEmpty ∨ d.regBit (Reg.turLinkStatus n) 50 = true then (.idle, d) else (.ctrl r.1, r.2)
    else if d.carriesScheduled n = false then (.idle, d)
    else
      let tk := 256 * fld e 2 2 + fld e 4 8
      let r := d.takePeer tk 4 ((d.thread tk).elim 0 (fun x => x.outbox.length) + 4)
      let w := wd ((d.thread tk).elim [] (·.desc)) 2
      if r.1.isEmpty then (.sched (fld w 10 2) (fld w 12 8) [], r.2) else (.sched (fld w 10 2) (fld w 12 8) r.1, r.2)
  | none => d.unboundSlot n at_

/-- FLIT_TRANSMIT: the next slot of the frame leaves: in slot 31 the replay that a NAK asks for, in EXCHANGE an EXCH unit in
slot 0, otherwise what the slot carries (R317, R322, R331). -/
def Device.transmit (d : Device) (n : Nat) : Device :=
  let x := d.link n
  let st := d.linkState n
  if (st ≠ 4 ∧ st ≠ 5) ∨ 31 < x.txSlot then d
  else
    let f := x.txFrame
    let k := x.txSlot
    let at_ := d.slotBegin n f k
    let d := d.advance at_
    let nak := x.nakTx.map (fun e => (e.1 % 2048, e.2.1))
    let again := if k = 31 then
        (x.naks.find? (fun e => e.1 + d.replayFrames n == f)).bind (fun e =>
          x.sent.find? (fun g => g.frame == e.1 && g.flit.slot == e.2))
      else none
    match again with
    | some g =>
      let fl : Flit := { slot := 31, frame := f % 2048, replay := some g.flit.slot, nak := nak, body := g.flit.body }
      let d := ((d.bump (Reg.turReplayTxCnt n) 1).emit (.flit n fl)).driveFlit n fl
      (if g.flit.body matches .idle then d else d.bump (Reg.turTxFlitCnt n) 1).mapLink n (fun x => { x with txSlot := 32 })
    | none =>
      let r : FlitBody × Device :=
        if st = 4 then
          if k = 0 then
            (.ctrl [(1, d.exchWords n at_)], d.mapLink n (fun x => { x with sentTs := (at_ % 2 ^ 32) :: x.sentTs }))
          else (.idle, d)
        else d.slotBody n f k at_
      let fl : Flit := { slot := k, frame := f % 2048, replay := none, nak := nak, body := r.1 }
      let d := (r.2.emit (.flit n fl)).driveFlit n fl
      (if r.1 matches .idle then d else d.bump (Reg.turTxFlitCnt n) 1).mapLink n (fun x => { x with
        txSlot := k + 1, sent := if k = 31 then x.sent else x.sent ++ [{ frame := f, flit := fl }] })

def execFlitTransmit (link : Fin 64) (s : State) : Host.Outcome State Fault Refusal := took s (·.transmit link)

/-! ### What control flits bring (R325, R349) -/

/-- CREDIT: the PEER thread holds TOTAL less the units it has issued (R325); a LINK thread that fills it passes the space on
(R231). -/
def Device.creditReceived (d : Device) (eng thread total : Nat) : Device :=
  (d.mapThread (256 * eng + thread) (fun x => { x with credits := some (total - x.next) })).sendCredit (256 * eng + thread)

/-- A packet whose header fails on the way is discarded (R284). -/
def execLinkCredit (link : Fin 64) (engine : Fin 4) (thread : Fin 256) (total : Nat) (s : State) (headerOk : Bool := true) :
    Host.Outcome State Fault Refusal :=
  took s (fun d =>
    if d.linkState link ≠ 5 then d
    else if headerOk then d.creditReceived engine thread total
    else d.bump Reg.sncHdrDropCnt 1)

/-- WAKE: the device is asked to wake (R335, R460). [DEDUCED, safe: notes/assumptions/24] -/
def execLinkWake (link : Fin 64) (s : State) : Host.Outcome State Fault Refusal :=
  took s (fun d => if d.linkState link = 5 then d.requestWake false else d)

/-- A remote signal for this device is applied or parked; one for another device goes on (R211, R325).
[DEDUCED, unsafe: notes/assumptions/75] -/
def Device.signalUnit (d : Device) (ws : List Nat) : Device :=
  if ws.getD 8 0 ≠ d.device then d.sendControl (d.linkTo (ws.getD 8 0)) 3 ws
  else d.remoteSignal { device := ws.getD 0 0, ctx := ws.getD 1 0, vid := ws.getD 2 0, inc := ws.getD 3 0,
                        fence := if ws.getD 4 0 = 1 then some (ws.getD 5 0, ws.getD 6 0, ws.getD 7 0) else none }

/-- One control unit of TYPE `typ` that link `n` has brought at gcyc `at_` (R344). [DEDUCED, unsafe: notes/assumptions/73] -/
def Device.controlUnit (d : Device) (n at_ typ : Nat) (ws : List Nat) : Device :=
  let w := fun i => ws.getD i 0
  let down := !d.isUpLink n
  if typ = 1 then d.exchReceived n
    { peer := BitVec.ofNat 64 (w 0), epoch := w 1, ts := w 2, echoTs := w 3, echoHold := w 4 }
  else if d.linkState n ≠ 5 ∨ d.regBit (Reg.turLinkStatus n) 50 = true then d
  else if typ = 2 then d.creditReceived (w 0) (w 1) (w 2)
  else if typ = 3 then d.signalUnit ws
  else if typ = 4 then d.requestWake false
  else if typ = 0x10 then d.alignReceived n (w 0) at_
  else if typ = 0x11 then d.alignEcho n at_
  else if typ = 0x12 then d.alignResult n (w 0)
  else if typ = 0x13 then d.startReceived n (w 0) (w 1) (w 2) (w 3) (w 4 == 1) (w 5)
  else if typ = 0x14 then d.abortReceived n (w 0) (w 1)
  else if typ = 0x15 then d.finalReceived n (w 0) (w 1)
  else if typ = 0x16 then
    if down then d.reportReceived n
      { status := w 0, mx := w 1, vx := w 2, cause := BitVec.ofNat 8 (w 3), bad := w 4,
        firstBad := if w 6 = 1 then some (w 5) else none, cover := w 7 }
    else d
  else if typ = 0x17 then (if down then d.noStartReceived (w 0) (w 1) else d)
  else if typ = 0x18 then d.detachedBy (w 0)
  else if typ = 0x19 then (if down then d.abortAsked (w 0) (w 1) else d)
  else d.bump (Reg.turCtrlBadCnt n) 1

/-! ### What dynamic flits bring (R275 - R277, R284, R332) -/

/-- The header of a packet that came over a link is well formed, and fits the packet and its VC (R276, R277, R284): reserved
bits, STATUS of a request, and BE of any packet but a WRITE_PARTIAL are 0. -/
def headerFits (h : DUnit) (vcr : Bool) (us : List DUnit) : Bool :=
  let cmd := fld h.data 12 4
  let len := fld h.data 16 6
  let response := decide (cmd = 2 ∨ cmd = 5)
  !h.pois && unitOk h && decide (1 ≤ cmd ∧ cmd ≤ 8) && decide (fld h.data 46 18 = 0) && (response == vcr) &&
    (decide (6 ≤ cmd) || decide (fld h.data 196 316 = 0)) && (decide (cmd = 2 ∨ 5 ≤ cmd) || decide (fld h.data 192 4 = 0)) &&
    (decide (cmd = 4) || decide (fld h.data 128 64 = 0)) &&
    (if cmd = 1 then decide (1 ≤ len ∧ len ≤ 32) && us.isEmpty
     else if cmd = 2 ∨ cmd = 3 then decide (1 ≤ len ∧ len ≤ 32) && decide (us.length = len)
     else if cmd = 4 then decide (len = 1) && decide (us.length = 1)
     else decide (len = 0) && us.isEmpty)

/-- A request that came over link `n` for this device (R502): it goes to its target like any other, and its response back
on the link. A request for another device is refused. [DEDUCED, unsafe: notes/assumptions/55] -/
def Device.remoteRequest (d : Device) (n : Nat) (h : Line) (us : List DUnit) : Device :=
  let cmd := fld h 12 4
  let len := fld h 16 6
  let tag := fld h 30 16
  let a := fld h 64 64
  let id := d.net.nextId
  let c : NetCmd := if cmd = 1 then .read else if cmd = 3 then .write else .partialWrite
  let t := { Txn.fresh id (fld h 22 8) false c (.mem (a % 2 ^ 52)) len us (BitVec.ofNat 64 (fld h 128 64)) (.remote n tag) with
    phase := .sent, injected := d.now, sentAt := 2 * d.now }
  if initAssigned (fld h 22 8) = false then d.bump Reg.sncHdrDropCnt 1
  else
    let d := { d with net := { d.net with txns := d.net.txns ++ [t], nextId := id + 1 } }
    if a / 2 ^ 52 % 1024 = d.device then d.launchRequest t else d.respond id 1

/-- A response that came over link `n`: the transaction with its TAG has its answer, and the Turret passes it on to the
initiator. -/
def Device.remoteResponse (d : Device) (n : Nat) (h : Line) (us : List DUnit) : Device :=
  let waits := fun (t : Txn) => t.id % 65536 == fld h 30 16 && t.phase == .atTarget &&
    (match t.target with
     | .remote l _ _ => l == n
     | _ => false)
  match d.net.txns.find? waits with
  | none => d
  | some t =>
    let got : SMap (Option DUnit) := (List.range us.length).map (fun i => (i, some (us.getD i poisonUnit)))
    (d.mapTxn t.id (fun t => { t with got := got, status := fld h 192 4 })).answer t.id

/-- A whole packet has come over link `n`: a header that fails its checks discards it (R284). A SIGNAL, CTRL or CREDIT packet
brings the control unit that its message words spell (R277). -/
def Device.packetIn (d : Device) (n : Nat) (vcr : Bool) (h : DUnit) (us : List DUnit) : Device :=
  if headerFits h vcr us = false then d.bump Reg.sncHdrDropCnt 1
  else
    let cmd := fld h.data 12 4
    if cmd = 2 ∨ cmd = 5 then d.remoteResponse n h.data us
    else if cmd ≤ 4 then d.remoteRequest n h.data us
    else
      let u := Config.messageUnit ((List.range 5).map (fun i => BitVec.ofNat 64 (fld h.data (192 + 64 * i) 64)))
      d.controlUnit n d.now u.1 u.2

/-- One network flit of link `n`: a packet is assembled from HEAD to TAIL; without its head a flit is discarded (R332). -/
def Device.netFlitIn (d : Device) (n : Nat) (u : NetFlit) : Device :=
  let key := 2 * n + b2n u.vcr
  let a := mapGet [] d.links.asm key
  let fs := if u.head then [u] else if a.isEmpty then [] else a ++ [u]
  let keep := fun l => { d with links := { d.links with asm := mapPut [] d.links.asm key l } }
  match fs with
  | [] => d
  | h :: us => if u.tail then (keep []).packetIn n u.vcr h.data (us.map (·.data)) else keep fs

/-! ### Reception (R323, R324, R329, R331 - R334) -/

/-- Four poisoned units for a LINK thread in place of a scheduled flit that was dropped (R332, R334). -/
def Device.dropScheduled (d : Device) (n : Nat) (tk : Option Nat) : Device :=
  let d := tk.elim d (fun t => (List.range 4).foldl (fun d _ => d.linkDeliver t poisonUnit) d)
  (d.bump (Reg.turDropSchedCnt n) 1).markPoison 50

/-- A flit is dropped (R332): by its RX entry or by its kind. -/
def Device.dropFlit (d : Device) (n f : Nat) (fl : Flit) : Device :=
  let rx := rxThread (d.slotEntry n f fl.slot)
  match rx, fl.body with
  | some tk, _ => (d.dropScheduled n (some tk)).mapLink n (fun x => { x with dropNext := max x.dropNext (31 * f + fl.slot + 1) })
  | none, .sched _ _ _ => d.dropScheduled n none
  | none, .dyn _ =>
    { d.bump (Reg.turDropDynCnt n) 1 with links := { d.links with
        asm := mapPut [] (mapPut [] d.links.asm (2 * n) []) (2 * n + 1) [] } }
  | none, _ => d

/-- A scheduled flit against the RX entry of its slot (R329). [DEDUCED, unsafe: notes/assumptions/72] -/
def Device.scheduledIn (d : Device) (n f : Nat) (fl : Flit) (eng thread : Nat) (us : List (Option DUnit)) : Device :=
  let rx := rxThread (d.slotEntry n f fl.slot)
  let d := d.mapLink n (fun x => { x with dropNext := max x.dropNext (31 * f + fl.slot + 1) })
  let valid := us.filterMap id
  if rx = some (256 * eng + thread) then valid.foldl (fun d u => d.linkDeliver (256 * eng + thread) (carried u)) d
  else
    let d := rx.elim d (fun tk => valid.foldl (fun d _ => d.linkDeliver tk poisonUnit) d)
    (d.bump (Reg.turSlotMismatchCnt n) 1).cfgIntegrity 5 n 0 50

/-- A flit that was received at gcyc `at_` is delivered in its turn. -/
def Device.deliverFlit (d : Device) (n f at_ : Nat) (fl : Flit) : Device :=
  match fl.body with
  | .idle => d
  | .sched eng thread us => if d.carriesScheduled n then d.scheduledIn n f fl eng thread us else d
  | .dyn us => us.foldl (fun d u => d.netFlitIn n u) d
  | .ctrl us => us.foldl (fun d u => d.controlUnit n at_ u.1 u.2) d

/-- Held flits are delivered in order, and corrupted ones of frames up to `upto` dropped, until one that still waits for
its replay (R332, R333): all in the gcyc in which the release begins. [DEDUCED, unsafe: notes/assumptions/178] -/
def Device.releaseHeld (d : Device) (n upto : Nat) : Nat → Device
  | 0 => d
  | fuel + 1 =>
    match (d.link n).held with
    | [] => d
    | h :: rest =>
      let next := d.mapLink n (fun x => { x with held := rest })
      if h.ok then (next.deliverFlit n h.frame h.at_ h.flit).releaseHeld n upto fuel
      else if h.frame < upto then
        ((next.mapLink n (fun x => { x with bad := x.bad.filter (· != (h.frame, h.flit.slot)) })).dropFlit n h.frame
          h.flit).releaseHeld n upto fuel
      else d

def Device.release (d : Device) (n upto : Nat) : Device := d.releaseHeld n upto ((d.link n).held.length)

/-- The frame that FRAME names, by this device's counter (R320, R327). -/
def Device.rxFrame (d : Device) (n frame : Nat) : Nat :=
  let cur := d.now / d.frameLen n
  cur - (cur + 2048 - frame % 2048) % 2048

/-- Header and units of a flit are as R322 and R323 ask. -/
def flitOk (fl : Flit) : Bool :=
  decide (fl.slot < 32) && decide (fl.frame < 2048) && fl.replay.elim true (fun k => decide (fl.slot = 31 ∧ k < 31)) &&
    fl.nak.elim true (fun e => decide (e.1 < 2048 ∧ e.2 < 31)) &&
    (match fl.body with
     | .idle => true
     | .sched e t us => decide (e < 4 ∧ t < 256 ∧ us.length ≤ 4) && us.all (fun u => u.elim true unitOk)
     | .dyn us => decide (us.length ≤ 4) && us.all (fun u => unitOk u.data)
     | .ctrl us => decide (us.length ≤ 4))

/-- A NAK that the peer sends: the first of each frame is kept for the replay (R331). -/
def Device.nakReceived (d : Device) (n : Nat) (nak : Option (Nat × Nat)) : Device :=
  match nak with
  | none => d
  | some (fm, k) =>
    d.mapLink n (fun x =>
      let f := x.txFrame - (x.txFrame + 2048 - fm % 2048) % 2048
      if x.naks.any (fun e => e.1 == f) then x else { x with naks := x.naks ++ [(f, k)] })

/-- A corrupted flit (R323, R331 - R333): in slot 31 it is dropped at once; in slots 0-30 its place is held, and the first
of its frame is asked for again until the end of this end's next frame. [DEDUCED, unsafe: notes/assumptions/71] -/
def Device.corruptedIn (d : Device) (n f : Nat) (fl : Flit) : Device :=
  let d := d.bump (Reg.turFlitBadCnt n) 1
  if fl.slot = 31 then (if fl.replay.isSome then d else d.dropFlit n f fl)
  else
    let d := d.mapLink n (fun x => { x with held := x.held ++ [{ frame := f, flit := fl, ok := false, at_ := d.now }] })
    if (d.link n).badFrames.contains f then d
    else d.mapLink n (fun x => { x with
      bad := x.bad ++ [(f, fl.slot)], badFrames := f :: x.badFrames.take 7, nakTx := some (f, fl.slot, x.txFrame + 1) })

/-- A replay that arrived intact takes the place of the corrupted flit (R331). -/
def Device.replayIn (d : Device) (n f k : Nat) (fl : Flit) : Device :=
  let f0 := f - d.replayFrames n
  if (d.link n).bad.contains (f0, k) then
    ((d.bump (Reg.turReplayOkCnt n) 1).mapLink n (fun x => { x with
      bad := x.bad.filter (· != (f0, k)),
      held := x.held.map (fun h => if h.frame = f0 ∧ h.flit.slot = k ∧ h.ok = false then
        { h with flit := { fl with slot := k, replay := none }, ok := true, at_ := d.now } else h) })).release n 0
  else d

/-- FLIT_RECEIVE: a flit has come at A(f, k) (R320, R323). In mode DETECT a symbol that would need correction makes it
corrupted; the symbols that the decoder corrected count whatever else is wrong with the flit.
[DEDUCED, unsafe: notes/assumptions/74] [DESIGN CHOICE, unsafe: notes/assumptions/139] -/
def Device.receive (d : Device) (n : Nat) (fl : Flit) (corrected : Nat) (corrupted : Bool) : Device :=
  let st := d.linkState n
  if st ≠ 4 ∧ st ≠ 5 then d
  else
    let f := d.rxFrame n fl.frame
    let d := d.advance (d.arrival n (d.regF (Reg.turLinkStatus n) 24 12) f fl.slot)
    let correct := d.regBit (Reg.turLinkStatus n) 43
    let bad := corrupted || !flitOk fl || (!correct && decide (corrected ≠ 0))
    let d := if correct && !corrupted then d.bump (Reg.turFecCorrCnt n) corrected else d
    if bad then (if st = 5 then d.corruptedIn n f fl else d.bump (Reg.turFlitBadCnt n) 1)
    else
      let d := d.nakReceived n fl.nak
      let d := if fl.body matches .idle then d else d.bump (Reg.turRxFlitCnt n) 1
      match fl.replay with
      | some k => d.replayIn n f k fl
      | none =>
        if (d.link n).held.isEmpty then d.deliverFlit n f d.now fl
        else d.mapLink n (fun x => { x with held := x.held ++ [{ frame := f, flit := fl, ok := true, at_ := d.now }] })

def execFlitReceive (link : Fin 64) (flit : Flit) (corrected : Nat) (corrupted : Bool) (s : State) :
    Host.Outcome State Fault Refusal := took s (·.receive link flit corrected corrupted)

/-- REPLAY_DEADLINE: at A(f + D, 31) the corrupted flits of frame `f` that no replay has replaced are dropped, and held
flits are released (R332, R333). -/
def Device.replayOver (d : Device) (n f : Nat) : Device :=
  if d.linkState n ≠ 5 then d
  else (d.advance (d.arrival n (d.regF (Reg.turLinkStatus n) 24 12) (f + d.replayFrames n) 31)).release n (f + 1)

def execReplayDeadline (link : Fin 64) (frame : Nat) (s : State) : Host.Outcome State Fault Refusal :=
  took s (·.replayOver link frame)

/-- LINK_SLOT_DROP: on a link that carries no scheduled traffic, the RX entry of a slot gets four poisoned units at the gcyc
at which its flit would have been released, with the OWL bound of the membership (R334).
[DEDUCED, unsafe: notes/assumptions/70] -/
def Device.slotDropped (d : Device) (n f k : Nat) : Device :=
  match rxThread (d.slotEntry n f k) with
  | none => d
  | some tk =>
    if d.carriesScheduled n = true ∨ 31 * f + k < (d.link n).dropNext then d
    else
      let owl := (d.linkEntry n).elim 0 (·.owl)
      ((d.advance (d.arrival n owl f k)).dropScheduled n (some tk)).mapLink n (fun x => { x with dropNext := 31 * f + k + 1 })

def execLinkSlotDrop (link : Fin 64) (frame : Nat) (slot : Fin 31) (s : State) : Host.Outcome State Fault Refusal :=
  took s (·.slotDropped link frame slot)

/-- ALIGNMENT_MARKER_LOSS: an ACTIVE link enters LOCK (R336). -/
def Device.markersLost (d : Device) (n : Nat) : Device :=
  if d.linkState n = 5 then (d.bump (Reg.turLockLossCnt n) 1).toLinkState n 3 else d

def execAlignmentMarkerLoss (link : Fin 64) (s : State) : Host.Outcome State Fault Refusal := took s (·.markersLost link)

/-! ### Loopback and PRBS (R337, R338) -/

/-- A write of TUR_LINK_TEST.LOOP: 1-3 select a loopback and TEST; 0 ends it, and so does any other value, which moves a link
that is not DOWN to DETECT (R314, R336, R337). [DEDUCED, unsafe: notes/assumptions/177] -/
def Device.setLoop (d : Device) (n loop : Nat) : Device :=
  let d := d.setReg (Reg.turLinkTest n) (BitVec.ofNat 64 loop)
  if 1 ≤ loop ∧ loop ≤ 3 then d.toLinkState n 6
  else if d.linkState n = 6 ∨ (loop ≠ 0 ∧ d.linkState n ≠ 0) then d.toLinkState n 1
  else d

def execLoopback (link : Fin 64) (loop : Fin 8) (s : State) : Host.Outcome State Fault Refusal := took s (·.setLoop link loop)

/-- CLR: the link's PRBS counters are cleared. -/
def Device.clearPrbs (d : Device) (n : Nat) : Device :=
  (List.range 4).foldl (fun d l => (d.setReg (Reg.turPrbsBits n l) 0).setReg (Reg.turPrbsErr n l) 0) d

def execTurPrbsClr (link : Fin 64) (s : State) : Host.Outcome State Fault Refusal := took s (·.clearPrbs link)

/-- Generators and checkers are enabled in TEST, and in DETECT while EN = 1 (R338). -/
def Device.prbsOn (d : Device) (n : Nat) : Bool :=
  decide (d.linkState n = 6) || (decide (d.linkState n = 1) && d.regBit (Reg.turLinkCtl n) 31)

/-- ONCE: one transmitted bit is inverted on each lane of LANES. -/
def Device.injectPrbs (d : Device) (n : Nat) : Device :=
  if d.prbsOn n then d.emit (.prbsError n (d.regF (Reg.turPrbsCtl n) 24 4)) else d

def execPrbsInject (link : Fin 64) (s : State) : Host.Outcome State Fault Refusal := took s (·.injectPrbs link)

/-- PRBS_CHECKER_SYNCHRONISATION of lane `l` of link `n`: bits and errors count only while the checker is synchronised. -/
def Device.linkPrbs (d : Device) (n l : Nat) (e : PrbsEvent) : Device :=
  if d.prbsOn n = false ∨ d.regBit (Reg.turPrbsCtl n) 30 = false ∨ d.regBit (Reg.turPrbsCtl n) (24 + l) = false then d
  else match e with
    | .gained => d.setF (Reg.turPrbsCtl n) (18 + l) 1 1
    | .lost => d.setF (Reg.turPrbsCtl n) (18 + l) 1 0
    | .counted bits errors =>
      if d.regBit (Reg.turPrbsCtl n) (18 + l) then (d.bump (Reg.turPrbsBits n l) bits).bump (Reg.turPrbsErr n l) errors else d

/-- The same for fabric lane `l` (R401). -/
def Device.lanePrbs (d : Device) (l : Nat) (e : PrbsEvent) : Device :=
  if d.regBit (Reg.cfgFabLaneTest l) 30 = false then d
  else match e with
    | .gained => d.setF (Reg.cfgFabLaneTest l) 26 1 1
    | .lost => d.setF (Reg.cfgFabLaneTest l) 26 1 0
    | .counted bits errors =>
      if d.regBit (Reg.cfgFabLaneTest l) 26 then
        (d.bump (Reg.cfgFabLanePrbsBits l) bits).bump (Reg.cfgFabLanePrbsErr l) errors
      else d

/-- Lanes 0-255 are data lane l of link n as 4n + l, lanes 256-271 the fabric lanes. -/
def execPrbsCheckerSynchronisation (lane : Fin 272) (event : PrbsEvent) (s : State) : Host.Outcome State Fault Refusal :=
  took s (fun d => if lane.val < 256 then d.linkPrbs (lane / 4) (lane % 4) event else d.lanePrbs (lane - 256) event)

end Sys2Proof.Machine
end

