-- ==== Sys2Proof/Machine/Power.lean ====
section
/-!
DEFINITION. The Belfry's commands: the supply, module reset, the reference clock, telemetry and holds, and the power states
(R453 - R467, R505 - R517).
-/
namespace Sys2Proof.Machine

open Sys2Proof

def Device.mapBelfry (d : Device) (f : Belfry → Belfry) : Device := { d with belfry := f d.belfry }

/-! ### What a loss of power and a module reset leave -/

/-- A bit of PWR_STATUS. -/
def Device.setPwrBit (d : Device) (i : Nat) (b : Bool) : Device := d.setF Reg.pwrStatus i 1 (b2n b)

/-- OSC and REFCLK_LOST show whether REFCLK is there (R456). [DEDUCED, unsafe: notes/assumptions/21] -/
def Device.showRefclk (d : Device) : Device :=
  (d.setPwrBit 15 (!d.belfry.refclk)).setPwrBit 14 (!d.belfry.refclk)

/-- What the Keep holds without power: fuses, flash, card, and BBRAM while VBAT is there (R433, R434). -/
def Device.keepStored (d : Device) : Keep :=
  { Keep.initial with
    fuses := d.keep.fuses, bbram := if d.belfry.vbat then d.keep.bbram else none, slots := d.keep.slots,
    records := d.keep.records, cert := d.keep.cert, card := d.keep.card, unproved := d.keep.unproved }

/-- The device without power (R453, R459): state Off, everything volatile lost, HBM contents included (R271). -/
def Device.powerOff (d : Device) (trip vin : Bool) : Device :=
  { Device.initial with
    freeIx := d.freeIx, out := d.out, keep := d.keepStored,
    belfry := { Belfry.initial with
      rail := .off, counting := false, thermTrip := trip, vin := vin, refclk := d.belfry.refclk, vbat := d.belfry.vbat,
      perstN := d.belfry.perstN, inReset := d.belfry.inReset, cdone := false, cdoneLow := true, idleFrom := none },
    hif := { Hif.initial with readyFrom := none } }

/-- Writes that wait in the queues of the controllers are issued (R271); whole-unit ones leave the lost-write tables (R269). -/
def Device.drainWrites (d : Device) : Device :=
  let ws := d.hbm.pcs.flatMap (fun e => e.2.writes)
  let m := ws.foldl (fun m w => m.putUnit w.unit w.data) d.hbm.mem
  { d with hbm := { d.hbm with mem := m, pcs := d.hbm.pcs.filterMap (fun e =>
      let x := { e.2 with
        writes := [], writeFirst := false,
        lost := e.2.lost.filter (fun u => !e.2.writes.any (fun w => w.unit == u && w.be == -1)) }
      if x = PseudoChannel.initial then none else some (e.1, x)) } }

/-- The queues are drained, and so are the writes that wait at the inputs, queue by queue. -/
def Device.drainAll (d : Device) : Nat → Device
  | 0 => d.drainWrites
  | fuel + 1 =>
    let d := d.drainWrites
    let ins := d.hbm.pcs.filter (fun e => !e.2.input.isEmpty)
    if ins.isEmpty then d
    else (ins.foldl (fun d e => d.takeInputs e.1 e.2.input.length) d).drainAll fuel

/-- Registers that MRST_N leaves: PWR_ENERGY and the counters of the power block (R467), and HBC_CTL.FULL_TRAIN, which is for
the training at the exit from that very reset (R272, R273). [DEDUCED, unsafe: notes/assumptions/162] -/
def keptAtReset (a : Nat) : Bool :=
  decide (Reg.pwrEnergy ≤ a ∧ a ≤ Reg.pwrRefclkLostCnt) || (List.range 12).any (fun s => a == Reg.hbcCtl s)

/-- What a link keeps through MRST_N: its retained training records (R316). -/
def Link.retained (x : Link) : Link := { Link.initial with retain1 := x.retain1, retain2 := x.retain2 }

/-- The TAP keeps its instruction in module reset; a BIST in progress ends (R482). -/
def Tap.atReset (t : Tap) : Tap := { t with bist := none }

/-- The device in module reset (R271, R429, R455, R458, R467): HBM contents, retention RAM, straps, the TAP and what the Keep
stores are kept, everything else is reset. [DEDUCED, safe: notes/assumptions/20] -/
def Device.moduleReset (d : Device) : Device :=
  let d := d.drainWrites
  ({ Device.initial with
    regs := d.regs.filter (fun e => keptAtReset e.1), freeIx := d.freeIx, out := d.out,
    keep := { d.keepStored with bbram := d.keep.bbram }, tap := d.tap.atReset,
    hbm := { Hbm.initial with mem := d.hbm.mem },
    links := { Links.initial with link := d.links.link.filterMap (fun e =>
      if e.2.retained = Link.initial then none else some (e.1, e.2.retained)) },
    belfry := { Belfry.initial with
      rail := d.belfry.rail, counting := false, inReset := true, thermTrip := d.belfry.thermTrip, vin := d.belfry.vin,
      cmstr := d.belfry.cmstr, pucfgN := d.belfry.pucfgN, vsel := d.belfry.vsel, refclk := d.belfry.refclk,
      vbat := d.belfry.vbat, perstN := d.belfry.perstN, cdone := false, hbmRetain := d.belfry.hbmRetain,
      idleFrom := none },
    hif := { Hif.initial with readyFrom := none } } : Device).showRefclk

/-- The rails are up and the counter counts: link bring-up begins, the idle timer runs, and the endpoint's 100 ms count if
PERST_N is high (R457, R508). -/
def Device.comeUp (d : Device) : Device :=
  let d := { d with hif := { d.hif with readyFrom := if d.belfry.perstN then some d.now else none } }
  (d.mapBelfry (fun b => { b with idleFrom := some d.now })).startLinks

/-! ### Power-up (R453, R457, R509) -/

/-- POWER_UP: VIN rises through 43 V, and the standby rail begins to rise. [DEDUCED, unsafe: notes/assumptions/19] -/
def Device.vinRises (d : Device) : Device :=
  if d.belfry.rail = .off ∧ d.belfry.thermTrip = false then
    (d.powerOff false true).mapBelfry (fun b => { b with rail := .ramp })
  else d

def execPowerUp (s : State) : Host.Outcome State Fault Refusal := tookAlways s Device.vinRises

/-- STANDBY_RAIL_GOOD: with REFCLK present, Belfry reset is released, the TAP is reset and the straps are
sampled (R482). -/
def Device.standbyGood (d : Device) (cmstr pucfgN : Bool) (vsel : BitVec 8) : Device :=
  if d.belfry.rail = .ramp ∧ d.belfry.refclk = true then
    { d with tap := Tap.initial }.mapBelfry
      (fun b => { b with rail := .standby, cmstr := cmstr, pucfgN := pucfgN, vsel := vsel })
  else d

def execStandbyRailGood (cmstr pucfgN : Bool) (vsel : BitVec 8) (s : State) : Host.Outcome State Fault Refusal :=
  tookAlways s (·.standbyGood cmstr pucfgN vsel)

/-- REFERENCE_PLL_LOCK: BFY_GCYC starts from 0 (R455). -/
def Device.pllLock (d : Device) : Device :=
  if d.belfry.rail = .standby ∧ d.belfry.counting = false ∧ d.belfry.inReset = false then
    d.mapBelfry (fun b => { b with gcyc := 0, counting := true })
  else d

def execReferencePllLock (s : State) : Host.Outcome State Fault Refusal := tookAlways s Device.pllLock

/-- PWRGD_HIGH: the rails are up. -/
def Device.pwrgd (d : Device) : Device :=
  if d.belfry.rail = .standby ∧ d.belfry.counting = true then
    (d.mapBelfry (fun b => { b with rail := .up })).comeUp
  else d

def execPwrgdHigh (s : State) : Host.Outcome State Fault Refusal := tookAlways s Device.pwrgd

/-- INPUT_TURN_OFF: the converter turns off (R453); only the removal of the input releases THERMTRIP_N (R464, R517). -/
def Device.turnOff (d : Device) (c : TurnOff) : Device :=
  d.powerOff (d.belfry.thermTrip && decide (c ≠ .removed)) (d.belfry.vin && decide (c ≠ .removed))

def execInputTurnOff (cause : TurnOff) (s : State) : Host.Outcome State Fault Refusal := tookAlways s (·.turnOff cause)

/-- VBAT_LOSS: the BBRAM is lost while the standby rail is absent (R434, R511). -/
def Device.vbatLoss (d : Device) : Device :=
  let d := d.mapBelfry (fun b => { b with vbat := false })
  if d.belfry.rail = .off ∨ d.belfry.rail = .ramp then { d with keep := { d.keep with bbram := none } } else d

def execVbatLoss (s : State) : Host.Outcome State Fault Refusal := tookAlways s Device.vbatLoss

/-! ### Module reset (R455, R458, R507) -/

/-- MRST_N_ASSERT: 50 consecutive samples of MRST_N have read low. -/
def Device.mrstLow (d : Device) : Device :=
  if d.belfry.rail = .off ∨ d.belfry.rail = .ramp then d.mapBelfry (fun b => { b with inReset := true })
  else d.moduleReset

def execMrstNAssert (s : State) : Host.Outcome State Fault Refusal := tookAlways s (·.pinEvent Device.mrstLow)

/-- MRST_N_RELEASE: 50 consecutive samples have read high; BFY_GCYC starts again from 0. -/
def Device.mrstHigh (d : Device) : Device :=
  if d.belfry.inReset = false then d
  else
    let d := d.mapBelfry (fun b => { b with inReset := false })
    if d.belfry.rail = .up then (d.mapBelfry (fun b => { b with gcyc := 0, counting := true })).comeUp
    else d

def execMrstNRelease (s : State) : Host.Outcome State Fault Refusal := tookAlways s (·.pinEvent Device.mrstHigh)

/-! ### The reference clock (R456) -/

/-- The Belfry is out of reset: the standby rail is good. -/
def Device.belfryRuns (d : Device) : Bool := d.belfry.rail == .standby || d.belfry.rail == .up

/-- REFCLK_LOSS: no edge for 10 µs. -/
def Device.refclkLoss (d : Device) : Device :=
  if d.belfry.refclk = false then d
  else
    let d := d.mapBelfry (fun b => { b with refclk := false })
    if d.belfryRuns then (d.showRefclk.bump Reg.pwrRefclkLostCnt 1).raise Reg.pwrAlert 0x20 else d

def execRefclkLoss (s : State) : Host.Outcome State Fault Refusal := tookAlways s Device.refclkLoss

/-- REFCLK_RETURN: REFCLK has been present again for 100 µs. -/
def Device.refclkReturn (d : Device) : Device :=
  let d := d.mapBelfry (fun b => { b with refclk := true })
  if d.belfryRuns then d.showRefclk else d

def execRefclkReturn (s : State) : Host.Outcome State Fault Refusal := tookAlways s Device.refclkReturn

/-! ### Holds, telemetry and alerts (R453, R462 - R467) -/

/-- The eight die sensors of PWR_TJ. -/
def Device.dieTemps (d : Device) : List Nat := (List.range 8).map (fun k => d.regF Reg.pwrTj (8 * k) 8)

/-- HBC_STATUS.TEMP of every stack. -/
def Device.stackTemps (d : Device) : List Nat := (List.range 12).map (fun s => d.regF (Reg.hbcStatus s) 24 8)

def listMean (l : List Nat) : Nat := l.sum / max 1 l.length

/-- IIN averaged over 100 µs reaches 57 A, and VIN is outside 44-60 V (R453). -/
def Device.iinHigh (d : Device) : Bool := decide (5700 * d.belfry.iin.length ≤ d.belfry.iin.sum) && !d.belfry.iin.isEmpty
def Device.vinRange (d : Device) : Bool :=
  !d.belfry.iin.isEmpty && (decide (d.regF Reg.pwrInput 0 16 < 4400) || decide (6000 < d.regF Reg.pwrInput 0 16))

/-- The mean input power over WINDOW is CAP_W or more (R462). -/
def Device.capReached (d : Device) : Bool :=
  !d.belfry.power.isEmpty && decide (10 * d.regF Reg.pwrCap 0 16 * d.belfry.power.length ≤ d.belfry.power.sum)

/-- The holds in force (R462), in the order of PWR_STATUS[12:8]: THERM and HBM with their hysteresis, POWER, INPUT, SW. -/
def Device.holds (d : Device) : List Bool :=
  let was := fun i => d.regBit Reg.pwrStatus (8 + i)
  let therm := if was 0 then d.dieTemps.any (fun t => decide (100 - d.regF Reg.pwrCtl 0 4 < t))
    else d.dieTemps.any (fun t => decide (100 ≤ t))
  let hbm := if was 1 then d.stackTemps.any (fun t => decide (90 < t)) else d.stackTemps.any (fun t => decide (95 ≤ t))
  [therm, hbm, d.regBit Reg.pwrCap 31 && d.capReached, d.vinRange || d.iinHigh, d.regBit Reg.pwrCtl 29]

/-- The holds are evaluated (R462): each hold that begins is counted and sets PWR_ALERT[0].
[DEDUCED, safe: notes/assumptions/13] -/
def Device.evalHolds (d : Device) : Device :=
  let hs := d.holds
  let n := ((List.range 5).filter (fun i => hs.getD i false && !d.regBit Reg.pwrStatus (8 + i))).length
  let d := d.setF Reg.pwrStatus 8 5 (hs.foldr (fun b a => b2n b + 2 * a) 0)
  if n = 0 then d else (d.bump Reg.pwrHoldCnt n).raise Reg.pwrAlert 1

/-- A bit of PWR_ALERT is set while its condition holds (R466). -/
def Device.alert (d : Device) (i : Nat) (b : Bool) : Device := if b then d.raise Reg.pwrAlert (BitVec.ofNat 64 (2 ^ i)) else d

/-- A sample is entered (R465): VIN in 10 mV, IIN in 10 mA, PIN in 100 mW, and the die sensors. PWR_ENERGY takes PIN over
10 µs; the windows hold 100 samples a millisecond, and 10 samples of IIN. -/
def Device.enterSample (d : Device) (vin iin : BitVec 16) (tj : Word) : Device :=
  let pin := vin.toNat * iin.toNat / 1000
  let d := (d.setReg Reg.pwrInput (mkWord [(32, pin % 65536), (16, iin.toNat), (0, vin.toNat)])).setReg Reg.pwrTj tj
  let w := 100 * 2 ^ d.regF Reg.pwrCap 16 3
  (d.bump Reg.pwrEnergy pin).mapBelfry (fun b =>
    { b with power := (pin :: b.power).take w, iin := (iin.toNat :: b.iin).take 10 })

/-- TELEMETRY_SAMPLE: alerts and holds follow the sample; a thermal trip turns the converter off (R464).
[DEDUCED, unsafe: notes/assumptions/14] [DEDUCED, unsafe: notes/assumptions/22] -/
def Device.sample (d : Device) (vin iin : BitVec 16) (tj : Word) (converter : BitVec 8) : Device :=
  if d.belfryRuns = false then d
  else
    let d := d.enterSample vin iin tj
    let hot := d.dieTemps.any (fun t => decide (105 ≤ t))
    let d := if hot then (d.bump Reg.pwrTjmaxCnt 1).alert 1 true else d
    let d := ((d.alert 2 d.vinRange).alert 3 d.iinHigh).alert 4 d.capReached
    let d := (d.alert 5 (!d.belfry.refclk)).alert 6 (d.stackTemps.any (fun t => decide (95 ≤ t)))
    let d := d.evalHolds
    if d.dieTemps.any (fun t => decide (115 ≤ t)) || decide (125 ≤ converter.toNat) then d.powerOff true true else d

def execTelemetrySample (vin iin : BitVec 16) (tj : Word) (converter : BitVec 8) (s : State) :
    Host.Outcome State Fault Refusal :=
  tookAlways s (·.sample vin iin tj converter)

/-- HBM_TEMPERATURE_READING (R263, R462): the interval asked for is 40 gcyc from 85 °C until a reading below 80 °C. -/
def Device.stackTemp (d : Device) (s : Nat) (temp : BitVec 8) : Device :=
  let d := d.setF (Reg.hbcStatus s) 24 8 temp.toNat
  let w := if 85 ≤ temp.toNat then putFld d.hbm.wantHot s 1 1
    else if temp.toNat < 80 then putFld d.hbm.wantHot s 1 0 else d.hbm.wantHot
  let d := { d with hbm := { d.hbm with wantHot := w } }
  (d.alert 6 (decide (95 ≤ temp.toNat))).evalHolds

def execHbmTemperatureReading (stack : Fin 12) (temp : BitVec 8) (s : State) : Host.Outcome State Fault Refusal :=
  took s (·.stackTemp stack temp)

/-- A write of PWR_CTL.HOLD (R462, R467). -/
def Device.swHold (d : Device) (b : Bool) : Device := (d.setF Reg.pwrCtl 29 1 (b2n b)).evalHolds

def execPwrCtlHold (hold : Bool) (s : State) : Host.Outcome State Fault Refusal := took s (·.swHold hold)

/-! ### Power states (R459 - R461) -/

/-- A wake that was asked for while the device entered a lower state runs in full (R461). -/
def Device.runWake (d : Device) : Device :=
  match d.belfry.wake with
  | none => d
  | some w =>
    let w := { w with done := some (d.now + wakeTime d.power), standby := decide (d.power = 3) }
    ((d.bump Reg.pwrWakeCnt 1).setPower 6).mapBelfry (fun b => { b with wake := some w })

/-- The stacks are put in self-refresh, after their write queues have been drained (R271). -/
def Device.selfRefresh (d : Device) (on : Bool) : Device :=
  (List.range 12).foldl (fun d s => d.setF (Reg.hbcStatus s) 8 1 (b2n on)) (if on then d.drainAll ((d.hbm.pcs.map (fun e => e.2.input.length)).sum + 1) else d)

/-- A write of PWR_CTL.STANDBY_REQ (R460). [DEDUCED, unsafe: notes/assumptions/15] -/
def Device.standbyReq (d : Device) : Device :=
  if d.power = 3 ∨ d.power = 5 then d else d.setPwrBit 13 true

def execStandbyReq (s : State) : Host.Outcome State Fault Refusal := took s Device.standbyReq

/-- STANDBY_ENTRY: no task is accepted and no load is in progress, and entry to Standby begins (R335, R460). -/
def Device.standbyEntry (d : Device) : Device :=
  if d.regBit Reg.pwrStatus 13 && decide (d.power ≤ 1) && d.lantern.tasks.isEmpty && d.lantern.run.isNone && d.load.isNone then
    (((d.setPwrBit 13 false).setPower 5).mapBelfry (fun b => { b with enterFrom := d.now, wake := none })).downLinks
  else d

def execStandbyEntry (s : State) : Host.Outcome State Fault Refusal := took s Device.standbyEntry

/-- COLD_ENTRY_COMPLETE: the write queues are drained, the stacks are in self-refresh and ACTIVE links in keep-alive (R271,
R335, R461). -/
def Device.coldEntered (d : Device) : Device :=
  if d.power = 4 then (((d.selfRefresh true).keepAlive true).setPower 2).runWake else d

def execColdEntryComplete (s : State) : Host.Outcome State Fault Refusal := took s Device.coldEntered

/-- STANDBY_ENTRY_COMPLETE. -/
def Device.standbyEntered (d : Device) : Device :=
  if d.power = 5 then ((d.selfRefresh true).setPower 3).runWake else d

def execStandbyEntryComplete (s : State) : Host.Outcome State Fault Refusal := took s Device.standbyEntered

def execPwrCtlWake (s : State) : Host.Outcome State Fault Refusal := took s (·.requestWake false)

def execSmbusWake (s : State) : Host.Outcome State Fault Refusal := took s (·.pinEvent (·.requestWake false))

/-- On the return from Cold or Standby: the stream cache is cleared (R239), self-refresh ends (R271), links leave keep-alive
or are brought up (R335, R461). -/
def Device.returnCold (d : Device) : Device :=
  if d.regBit (Reg.hbcStatus 0) 8 then (((d.selfRefresh false).clearCache).keepAlive false).startLinks else d

/-- A member with FREQ_SRC = 1 leaves Standby FREE and UNALIGNED (R455). [DEDUCED, unsafe: notes/assumptions/17] -/
def Device.leaveStandby (d : Device) : Device :=
  if d.cluster.member.elim false (·.freqSrc) then
    { d.setF Reg.cluStatus 2 5 0 with cluster := { d.cluster with step := none } }
  else d

/-- WAKE_COMPLETE: the clocks are in Run or in Warm. In Run the task that waits gets its start cycle (R188); a wake to Warm
restarts the idle timer (R460). -/
def Device.wakeDone (d : Device) : Device :=
  match d.belfry.wake with
  | some { toRun := run, done := some g, standby := sb } =>
    if d.power ≠ 6 then d
    else
      let d := (d.advance g).mapBelfry (fun b => { b with wake := none })
      let d := if sb then d.leaveStandby else d
      let d := (d.setPower (if run then 0 else 1)).returnCold
      if run then d.chooseStart d.now else d.armIdle d.now
  | _ => d

def execWakeComplete (s : State) : Host.Outcome State Fault Refusal := took s Device.wakeDone

/-! ### Error injection (R481) -/

/-- A write of ERR_INJ: INIT is set, and ARM unless INIT is not assigned. -/
def Device.errInj (d : Device) (v : BitVec 32) : Device :=
  let d := d.setF Reg.errInj 0 8 (fld v 0 8)
  if bit v 31 && initAssigned (fld v 0 8) then d.setF Reg.errInj 31 1 1 else d

def execErrInj (data : BitVec 32) (s : State) : Host.Outcome State Fault Refusal := took s (·.errInj data)

end Sys2Proof.Machine
end

