-- ==== Sys2Proof/Machine/Queues.lean ====
section
/-!
DEFINITION. The queue manager's commands: start markers, push ports, flush, the pop registers and QMG_QCFG (R297 - R310).
-/
namespace Sys2Proof.Machine

open Sys2Proof

/-- A write of QMG_SOP by the physical function (R297); the clocks are asked to wake (R460). -/
def execQmgSop (data : Word) (s : State) : Host.Outcome State Fault Refusal :=
  took s (fun d => (d.requestWake false).sopWrite data 0x80)

/-- A write of function `f` whose first enabled byte lies in the push port of queue `q` (R298, R384): its enabled bytes are
appended. [DEDUCED, unsafe: notes/assumptions/61] -/
def Device.pushPort (d : Device) (f q : Nat) (bytes : List (Option Byte)) (ep : Bool) : Device :=
  let d := if ep then d.poisonedTlp f else d
  if f ≠ 0 ∧ d.queueFunc q ≠ f then d.deny
  else (d.requestWake false).pushBytes q (bytes.filterMap id) ep

def execPushPortWrite (func : Fin 64) (queue : Fin 65536) (bytes : List (Option Byte)) (ep : Bool) (s : State) :
    Host.Outcome State Fault Refusal := took s (·.pushPort func queue bytes ep)

/-- QMG_FLUSH (R306). -/
def execQmgFlush (data : BitVec 32) (s : State) : Host.Outcome State Fault Refusal := took s (·.flushWrite data)

/-- The status word of a popped cell of queue `q` (R308, R310). -/
def popWord (q : Nat) (c : QCell) : Word :=
  mkWord [(30, b2n c.sop), (29, b2n c.eop), (28, b2n c.trunc), (27, b2n c.pois), (8, q), (0, c.vbytes)]

/-- A cell as it is latched, with what SECDED found in it; one that lies in the spill area is read from there (R300, R308). -/
def Device.latchCell (d : Device) (c : QCell) (e : Ecc) : QCell × Device :=
  let r := d.cellUnit c e
  ({ c with data := r.1.data, check := r.1.check, pois := c.pois || r.1.pois, chkOk := c.chkOk && !r.1.pois }, r.2)

/-- A read of QMG_POP_STATUS (R305, R308): the cell at the committed head moves into the pop latch, or the read returns
EMPTY. -/
def Device.popStatus (d : Device) (e : Ecc) : Device :=
  let q := d.regF Reg.qmgPopSel 0 16
  let x := d.queue q
  let empty := fun (d : Device) => { d with pop := none }.emit (.value 0xFFFFFFFF)
  if x.held then empty (d.bump Reg.qmgPopBusyCnt 1)
  else if x.headReady = false then empty d
  else match x.cells with
    | [] => empty d
    | c :: rest =>
      let d := (d.gateQueue q 1 { x with cells := rest, head := x.head + 1, rd := x.head + 1 }).bump Reg.qmgCellsOutCnt 1
      let r := d.latchCell c e
      let d := { r.2 with pop := some { cell := r.1, metaLeft := true, word := 0 } }
      (d.emit (.value (popWord q r.1))).serveCopies

def execQmgPopStatus (ecc : Ecc) (s : State) : Host.Outcome State Fault Refusal := took s (·.popStatus ecc)

/-- The half of a word that a 32-bit read returns, or the whole word (R308). -/
def laneValue (v : Word) (h : Half) : Word := mergeWord 0 v (-1) h

/-- A read of QMG_POP_META (R308): metadata and check of the latched cell, once. -/
def Device.popMeta (d : Device) (h : Half) : Device :=
  match d.pop with
  | none => d.emit (.value 0)
  | some p =>
    let v := if p.metaLeft then
        mkWord [(32, p.cell.check.toNat), (22, p.cell.init), (21, b2n p.cell.chkOk), (0, p.cell.length)]
      else 0
    { d with pop := some { p with metaLeft := false } }.emit (.value (laneValue v h))

def execQmgPopMeta (lanes : Half) (s : State) : Host.Outcome State Fault Refusal := took s (·.popMeta lanes)

/-- A read of QMG_POP_DATA (R308): the next data word of the latched cell, then 0. -/
def Device.popData (d : Device) (h : Half) : Device :=
  match d.pop with
  | none => d.emit (.value 0)
  | some p =>
    let v : Word := if p.word < 8 then BitVec.ofNat 64 (fld p.cell.data (64 * p.word) 64) else 0
    { d with pop := some { p with word := min 8 (p.word + 1) } }.emit (.value (laneValue v h))

def execQmgPopData (lanes : Half) (s : State) : Host.Outcome State Fault Refusal := took s (·.popData lanes)

/-- A write of QMG_QCFG for the queue that QMG_QSEL names (R310): GATE applies at once, and waiting tasks are evaluated
again; the rest applies from the next start marker. [DEDUCED, unsafe: notes/assumptions/29] -/
def Device.queueConfig (d : Device) (w : Word) : Device :=
  let q := d.regF Reg.qmgQsel 0 16
  d.gateQueue q 1 { d.queue q with cfg := w &&& 0xFF00003FFFF87FFF }

def execQmgQcfg (data : Word) (s : State) : Host.Outcome State Fault Refusal := took s (·.queueConfig data)

end Sys2Proof.Machine
end

