-- ==== Sys2Proof/Machine/RegWrite.lean ====
section
/-!
DEFINITION. Access to registers by address: what a read of each register shows, how a write is taken apart, and what it does
(R9 - R14, R384, R495 - R498).
-/
namespace Sys2Proof.Machine

open Sys2Proof

/-! ### Registers that show the state of their block -/

/-- SPR_STATE of Spire `n` (R86, R100): OPNUM, DRAIN_PEND, and GATED, MAINT, ACTIVE between s and t + 3 of a DOP, or IDLE.
[DEDUCED, safe: notes/assumptions/33] -/
def Device.sprState (d : Device) (n : Nat) : Word :=
  let x := 4 * d.now
  let busy := d.dome.dops.any (fun p => decide (firstSlot p.t0 n ≤ x) && decide (x ≤ lastProduct p.desc p.t0 n + 3))
  let st := if d.power ≠ 0 then 3 else if d.spireMaint n then 2 else if d.groupOn (n % 64 / 4) x = false then 3
    else if busy then 1 else 0
  let s := d.spire n
  mkWord [(8, s.opnum), (2, b2n (decide (s.drain.unread ≠ 0) || s.drain.hold)), (0, st)]

/-- SPR_VX_STATUS of Spire `n` (R131). -/
def Device.sprVxStatus (d : Device) (n : Nat) : Word :=
  let v := d.vx n
  mkWord [(21, v.pc), (20, b2n v.prog.isSome), (17, v.loops.length), (16, b2n (d.spireMaint n))]

/-- LNT_STATUS (R183, R202). -/
def Device.lntStatus (d : Device) : Word :=
  match d.lantern.run with
  | none => 0
  | some r =>
    let st := match (d.task r.task).map (·.state) with
      | some .running => 5
      | some .completing => 6
      | _ => 4
    mkWord [(48, r.retries), (32, r.ctx), (16, r.slot), (4, b2n r.cluster), (0, st)]

/-- QMG_QSTAT of queue `q` (R310). -/
def Device.queueStatus (d : Device) (q : Nat) : Word :=
  let x := d.queue q
  let packets := (x.cells.filter (·.sop)).length + (if (x.cells.head?).elim false (fun c => !c.sop) then 1 else 0)
  mkWord [(40, b2n x.held), (39, b2n x.headReady), (38, b2n x.asm.isSome), (19, packets), (0, x.cells.length)]

/-- TUR_SUMMARY of Turret `t` (R339). -/
def Device.turretSummary (d : Device) (t : Nat) : Word :=
  mkWord ((List.range 8).flatMap (fun i =>
    [(16 + i, b2n (d.linkUnfit (8 * t + i))), (8 + i, fld (d.reg (Reg.turLinkStatus (8 * t + i))) 52 1),
     (i, b2n (decide (d.linkState (8 * t + i) = 5)))]))

/-- A register array with `n` members `stride` apart from `base` on: the index of the member at `a`. -/
def member (base stride n a : Nat) : Option Nat :=
  if base ≤ a ∧ (a - base) % stride = 0 ∧ (a - base) / stride < n then some ((a - base) / stride) else none

/-- The number of the link whose register at `off` of its block lies at `a` (R339). -/
def linkAt (off a : Nat) : Option Nat :=
  if 0x800000 + off ≤ a ∧ a < 0x880000 then
    let x := a - 0x800000 - off
    if x % 0x1000 = 0 ∧ x % 0x10000 < 0x8000 then some (8 * (x / 0x10000) + x % 0x10000 / 0x1000) else none
  else none

/-- What a read of the Spire, link or stream-engine register at `a` shows, where the block computes it. -/
def Device.viewBlocks (d : Device) (a : Nat) : Option Word :=
  match member 0x1000000 0x1000 4096 a, member 0x1000108 0x1000 4096 a, linkAt 8 a, member 0x808000 0x10000 8 a,
      member 0x500000 0x10000 4 a with
  | some n, _, _, _, _ => some (d.sprState n)
  | _, some n, _, _, _ => some (d.sprVxStatus n)
  | _, _, some n, _, _ =>
    some (putFld (d.reg a) 40 1 (b2n (mapGet none d.links.tables n).isSome))
  | _, _, _, some t, _ => some (d.turretSummary t)
  | _, _, _, _, some k => some (mkWord [(16, b2n (d.taskOwned k)), (0, d.activeThreads k)])
  | _, _, _, _, _ => none

/-- What a read of the register at offset `a` shows (R9, R11). -/
def Device.view (d : Device) (a : Nat) : Word :=
  if a = Reg.bfyGcyc then BitVec.ofNat 64 d.now
  else if a = Reg.lntStatus then d.lntStatus
  else if a = Reg.qmgStatus then BitVec.ofNat 64 d.poolFree
  else if a = Reg.qmgQstat then d.queueStatus (d.regF Reg.qmgQsel 0 16)
  else if a = Reg.qmgQcfg then (d.queue (d.regF Reg.qmgQsel 0 16)).cfg
  else if a = Reg.cluStatus then
    putFld (putFld (putFld (putFld (d.reg a) 9 1 (b2n d.belfry.cmstr)) 8 1 (b2n d.belfry.cdone)) 7 1
      (b2n (!d.belfry.cdoneLow))) 1 1 (b2n d.clusterReason.isNone)
  else if a = Reg.tlyStatus then putFld (d.reg a) 0 9 d.lantern.parked.length
  else if a = Reg.cfgStatus then
    putFld (putFld (d.reg a) 11 1 (b2n d.keep.bbram.isSome)) 10 1 (b2n d.keep.fuses.keySet)
  else if a = Reg.cfgFabBankStatus then putFld (d.reg a) 0 8 d.belfry.vsel.toNat
  else if a = Reg.dbgTapStatus then
    mkWord [(24, d.tap.ir.toNat), (1, b2n d.tap.pinControl), (0, b2n (bit d.keep.fuses.policy 4))]
  else (d.viewBlocks a).getD (d.reg a)

/-- Offsets of the tally values and translation tables, where two 32-bit registers share a word (R221). -/
def pairedRegs (a : Nat) : Bool := decide (0x2800000 ≤ a) && decide (a < 0x287C000)

/-- A 32-bit or 64-bit read at a naturally aligned offset (R13, R14). -/
def Device.regRead (d : Device) (a : Nat) (w64 : Bool) : Word :=
  if pairedRegs a then
    if w64 then mkWord [(0, fld (d.view a) 0 32), (32, fld (d.view (a + 4)) 0 32)] else BitVec.ofNat 64 (fld (d.view a) 0 32)
  else if w64 then d.view a
  else BitVec.ofNat 64 (fld (d.view (a / 8 * 8)) (8 * (a % 8)) 32)

/-! ### Plain registers (R9) -/

/-- A register of the row lies at `a`. -/
def RegRow.holds (r : RegRow) (a : Nat) : Bool :=
  match r.dims with
  | [] => a == r.base
  | [(s, n)] => (member r.base s n a).isSome
  | (s, n) :: (s2, n2) :: _ =>
    decide (r.base ≤ a) && decide ((a - r.base) / s < n) && decide ((a - r.base) % s % s2 = 0) &&
      decide ((a - r.base) % s / s2 < n2)

/-- Bits of the word that a write covers. -/
def halfMask (h : Half) : Word :=
  match h with
  | .low => 0x00000000FFFFFFFF
  | .high => 0xFFFFFFFF00000000
  | .both => 0xFFFFFFFFFFFFFFFF

/-- A write sets RW fields, clears W1C bits and sets W1S bits of the register at `a`, in the halves that it covers; an offset
without such bits discards it (R9, R12, R13). A bit that an event sets in the same clock stays set (R16). -/
def Device.plainWrite (d : Device) (a : Nat) (v : Word) (h : Half) : Device :=
  match regRows.find? (fun r => r.holds a) with
  | none => d
  | some r =>
    let m := if r.width = 32 then halfMask h &&& 0xFFFFFFFF else halfMask h
    let old := d.reg a
    d.setReg a ((((old &&& ~~~(r.rw &&& m)) ||| (v &&& r.rw &&& m)) &&& ~~~(v &&& r.w1c &&& m &&& ~~~d.raised a)) |||
      (v &&& r.w1s &&& m))

/-! ### Registers whose write has an effect of its own -/

/-- The word that a register with RW mask `mask` holds after the write. [DEDUCED, unsafe: notes/assumptions/32] -/
def Device.merged (d : Device) (a : Nat) (v mask : Word) (h : Half) : Word := mergeWord (d.reg a) v mask h

/-- A write of HIF_RINGr_CTL (R369); a virtual function leaves FUNC as it is (R384). -/
def Device.writeRingCtl (d : Device) (r : Nat) (v : Word) (h : Half) (vf : Bool) : Device :=
  let a := Reg.hifRingCtl r
  let w := d.merged a v (if vf then 0x801FFFFF00000000 else 0xBF1FFFFF00000000) h
  if bit w 63 then d.ringOn r w else ((d.setReg a (putFld w 63 1 (d.regF a 63 1))).ringOff r)

/-- A write of TUR_LINK_CTL (R314, R316, R339). -/
def Device.writeLinkCtl (d : Device) (n : Nat) (v : Word) : Device :=
  let d := d.setFs (Reg.turLinkCtl n) [(28, 2, fld v 28 2), (26, 2, fld v 26 2), (24, 1, fld v 24 1)]
  let d := if bit v 25 then d.clearLinkRetain n else d
  let d := if bit v 30 then d.retrainLink n else d
  if bit v 31 then d.enableLink n else d.disableLink n

/-- A write of SPR_VX_CTL (R129, R131). -/
def Device.writeVxCtl (d : Device) (n : Nat) (v : Word) : Device :=
  let d := if bit v 31 = d.regBit (Reg.sprVxCtl n) 31 then d else d.maintReq n (bit v 31)
  if bit v 30 then d.vxStart n (fld v 0 11) else d.setF (Reg.sprVxCtl n) 0 11 (fld v 0 11)

/-- A write of PWR_CTL (R460, R462, R467). -/
def Device.writePwrCtl (d : Device) (v : Word) : Device :=
  let d := (d.setF Reg.pwrCtl 0 4 (fld v 0 4)).swHold (bit v 29)
  let d := if bit v 31 then d.standbyReq else d
  if bit v 30 then d.requestWake false else d

/-- A write of CFG_CTL (R408, R410, R430). -/
def Device.writeCfg (d : Device) (v : BitVec 32) : Device :=
  let d := d.writeCfgCtl v
  let d := if bit v 31 then d.startLoad (fld v 28 2) else d
  if bit v 30 then d.loadFail 0x16 else d

/-- A write of HBC_CTL (R272, R273). -/
def Device.writeHbcCtl (d : Device) (s : Nat) (v : Word) : Device :=
  let d := d.setF (Reg.hbcCtl s) 0 1 (fld v 0 1)
  if bit v 1 then d.clrRetain s else d

/-- A write of a Spire's, a link's or a fabric lane's register with an effect of its own. -/
def Device.writeBlocks (d : Device) (a : Nat) (v : Word) : Option Device :=
  match member 0x1000040 0x1000 4096 a, member 0x1000100 0x1000 4096 a, linkAt 0 a, linkAt 0x20 a, linkAt 0x28 a, linkAt 0x30 a,
      member 0x1C1008 0x40 16 a with
  | some n, _, _, _, _, _, _ =>
    some (if bit v 31 then d.armInjection n (fld v 5 5) (fld v 0 5)
      else d.setFs (Reg.sprRckInj n) [(5, 5, fld v 5 5), (0, 5, fld v 0 5)])
  | _, some n, _, _, _, _, _ => some (d.writeVxCtl n v)
  | _, _, some n, _, _, _, _ => some (d.writeLinkCtl n v)
  | _, _, _, some n, _, _, _ => some (d.setLoop n (fld v 0 3))
  | _, _, _, _, some n, _, _ =>
    let d := d.plainWrite a v .low
    some (if bit v 23 then d.clearPrbs n else d)
  | _, _, _, _, _, some n, _ =>
    let d := d.plainWrite a v .low
    some (if bit v 31 then d.injectPrbs n else d)
  | _, _, _, _, _, _, some l =>
    let d := d.plainWrite a v .low
    let d := if bit v 27 then d.clearLanePrbs l else d
    some (if bit v 25 then d.emit (.prbsError (64 + l) 1) else d)
  | _, _, _, _, _, _, _ => none

/-- A write of a host-interface, HBM, network or context register with an effect of its own. -/
def Device.writeArrays (d : Device) (a : Nat) (v : Word) (h : Half) : Option Device :=
  match member 0x210008 0x40 256 a, member 0x600008 0x10000 12 a, member 0x600010 0x10000 12 a, member 0x700800 8 192 a,
      member 0x2000000 8 786432 a with
  | some r, _, _, _, _ => some (d.writeRingCtl r v h false)
  | _, some s, _, _, _ => if h = .high then some d else some (d.writeHbcCtl s v)
  | _, _, some s, _, _ => if h = .high then some d else some (d.clearSuspect s (v.setWidth 32))
  | _, _, _, some i, _ => some (d.regulator i (d.merged a v 0x00FFFFFF00FFFFFF h))
  | _, _, _, _, some x => some (d.writeContext 0 (x / 16) (x % 16) v h)
  | _, _, _, _, _ => none

/-- Registers of 32 bits with an effect of their own, by offset. -/
def Device.writeSmall (d : Device) (a : Nat) (v : BitVec 32) : Option Device :=
  if a = Reg.cfgCtl then some (d.writeCfg v)
  else if a = Reg.lntAbort then some (d.lntAbort v)
  else if a = Reg.qmgFlush then some (d.flushWrite v)
  else if a = Reg.sncStatCtl then some (d.statControl v)
  else if a = Reg.sncStatClr then some (d.statClear v)
  else if a = Reg.cluCtl then
    let d := d.setF Reg.cluCtl 0 16 (fld v 0 16)
    some (if bit v 31 then d.realign else d)
  else if a = Reg.cluMcAttach then some (d.attach v)
  else if a = Reg.pwrCtl then some (d.writePwrCtl (v.setWidth 64))
  else if a = Reg.pwrCap then some ((d.plainWrite a (v.setWidth 64) .low).evalHolds)
  else if a = Reg.errInj then some (d.errInj v)
  else none

/-- Registers of 64 bits with an effect of their own, by offset. -/
def Device.writeWide (d : Device) (a : Nat) (v : Word) (h : Half) : Option Device :=
  if a = Reg.kepMbCmd then some (d.mailCommand v)
  else if a = Reg.cfgRbAddr then
    some (d.readback (mergeWord (d.reg a) v 0xFFFFFFFFFF h ||| (v &&& 0x8000000000000000)))
  else if a = Reg.qmgQcfg then
    some (d.queueConfig (mergeWord (d.queue (d.regF Reg.qmgQsel 0 16)).cfg v 0xFF00003FFFF87FFF h))
  else if a = Reg.qmgSop then some ((d.requestWake false).sopWrite v 0x80)
  else if a = Reg.steTlbInv then some (d.tlbInv v)
  else if a = Reg.tlyHostSig then some (d.hostSig v)
  else none

/-- A write of one aligned word by the physical function or the TAP: each register takes the halves that are covered
(R14, R497). `v` is zero in a half that is not. Two tallies are written each in its own gcyc (R221). -/
def Device.writeWord (d : Device) (a : Nat) (v : Word) (h : Half) : Device :=
  if pairedRegs a then
    let one := fun (d : Device) (a : Nat) (x : BitVec 32) =>
      if a < 0x2840000 then d.writeTally ((a - 0x2800000) / 4) x
      else d.writeTmap ((a - 0x2840000) / 0x200) ((a - 0x2840000) % 0x200 / 4) x
    let d := if h = .high then d else one d a (v.setWidth 32)
    let high := (v >>> 32).setWidth 32
    if h = .low then d
    else if h = .both ∧ a < 0x2840000 then d.dueAt (d.now + 1) (.tally ((a + 4 - 0x2800000) / 4) high)
    else one d (a + 4) high
  else
    let low := decide (h ≠ .high)
    match if low then d.writeSmall a (v.setWidth 32) else none, if low then d.writeBlocks a v else none,
        d.writeArrays a v h, d.writeWide a v h with
    | some d, _, _, _ => d
    | _, some d, _, _ => d
    | _, _, some d, _ => d
    | _, _, _, some d => d
    | _, _, _, _ => d.plainWrite a v h

/-! ### BAR0 accesses (R384, R495 - R497) -/

/-- The halves of the aligned word at `a` that the write of `bytes` from offset `off` on covers with every byte enabled, and
the word with zeros elsewhere. -/
def coveredWord (off : Nat) (bytes : List (Option Byte)) (a : Nat) : Option (Word × Half) :=
  let at_ := fun (i : Nat) => if off ≤ a + i then bytes.getD (a + i - off) none else none
  let full := fun (lo : Nat) => (List.range 4).all (fun i => (at_ (lo + i)).isSome)
  let part := fun (lo : Nat) => if full lo then bytesNat ((List.range 4).map (fun i => (at_ (lo + i)).getD 0)) else 0
  let v := BitVec.ofNat 64 (part 0 + part 4 * 2 ^ 32)
  match full 0, full 4 with
  | true, true => some (v, .both)
  | true, false => some (v, .low)
  | false, true => some (v, .high)
  | false, false => none

/-- The aligned words that a write touches, in ascending address order. -/
def wordsOf (off len : Nat) : List Nat := (List.range ((off + len + 7) / 8 - off / 8)).map (fun i => 8 * (off / 8 + i))

/-- A write is taken word by word. -/
def Device.writeSplit (d : Device) (off : Nat) (bytes : List (Option Byte)) (f : Device → Nat → Word → Half → Device) : Device :=
  (wordsOf off bytes.length).foldl (fun d a => match coveredWord off bytes a with
    | some (v, h) => f d a v h
    | none => d) d

/-- Offset of the first enabled byte of a write. -/
def firstByte (off : Nat) (bytes : List (Option Byte)) : Nat :=
  off + ((List.range bytes.length).find? (fun i => (bytes.getD i none).isSome)).getD 0

/-- A write to the fabric user window, word by word with its byte enables (R405). -/
def Device.writeUser (d : Device) (off : Nat) (bytes : List (Option Byte)) : Device :=
  (wordsOf off bytes.length).foldl (fun d a =>
    let at_ := fun (i : Nat) => if off ≤ a + i then bytes.getD (a + i - off) none else none
    let be : BitVec 8 := BitVec.ofNat 8 (((List.range 8).map (fun i => if (at_ i).isSome then 2 ^ i else 0)).sum)
    let data : Word := BitVec.ofNat 64 (bytesNat ((List.range 8).map (fun i => (at_ i).getD 0)))
    let x := a - 0x4000000
    if be = 0 then d else d.userWindow (x / 0x100000) (x % 0x100000) (.write data be)) d

/-- A write to BAR0 of the physical function: ports and windows take their byte enables as their chapters state, every other
offset is split into words. -/
def Device.writeBar0 (d : Device) (off : Nat) (bytes : List (Option Byte)) : Device :=
  let o := firstByte off bytes
  if 0x191000 ≤ o ∧ o < 0x192000 then d.portBytes (bytes.filterMap id)
  else if 0x480000 ≤ o ∧ o < 0x500000 then d.pushPort 0 ((o - 0x480000) / 8) bytes false
  else if 0x910000 ≤ o ∧ o < 0x914000 then
    d.portWrite ((o - 0x910000) / 64) 0x80 none
      (decide (off % 64 = 0) && decide (bytes.length = 64) && bytes.all (·.isSome))
      (freshUnit (bytesLine (bytes.map (·.getD 0)))) none
  else if 0x4000000 ≤ o ∧ o < 0x8000000 then d.writeUser off bytes
  else d.writeSplit off bytes Device.writeWord

/-- A write of a word of the page of virtual function `f` (R384). -/
def Device.writeVfWord (f : Nat) (d : Device) (a : Nat) (v : Word) (h : Half) : Device :=
  let low := decide (h ≠ .high)
  if a = 0x00 then (if low then d.vfAbort f (v.setWidth 32) else d)
  else if a = 0x08 then d.vfSig f v
  else if a = 0x10 then (if low then d.setFunc f { d.func f with ctxSel := fld v 0 16 } else d)
  else if a = 0x18 then d.vfSop f v
  else if a = 0x20 then (if low then d.vfFlush f (v.setWidth 32) else d)
  else if 0x1000 ≤ a ∧ a < 0x1080 then
    if 49151 < (d.func f).ctxSel then d.deny else d.writeContext f (d.func f).ctxSel ((a - 0x1000) / 8) v h
  else if 0x2000 ≤ a ∧ a < 0x2400 then
    match d.vfRing f ((a - 0x2000) / 0x40) with
    | none => d.deny
    | some r =>
      if (a - 0x2000) % 0x40 = 8 then d.writeRingCtl r v h true else d.plainWrite (Reg.hifRingBase r + (a - 0x2000) % 0x40) v h
  else d

/-- A write to BAR0 of virtual function `f` (R384). [DEDUCED, unsafe: notes/assumptions/30] -/
def Device.writeVf (d : Device) (f off : Nat) (bytes : List (Option Byte)) : Device :=
  let o := firstByte off bytes
  if 0x80000 ≤ o ∧ o < 0x100000 then d.pushPort f ((o - 0x80000) / 8) bytes false
  else d.writeSplit off bytes (Device.writeVfWord f)

/-- REGISTER_WRITE: a write of function `func` to its BAR0; `none` is a byte that the write does not enable. -/
def execRegisterWrite (func : Fin 64) (offset : Nat) (bytes : List (Option Byte)) (s : State) :
    Host.Outcome State Fault Refusal :=
  took s (fun d => if func.val = 0 then d.linkUse.writeBar0 offset bytes else d.linkUse.writeVf func offset bytes)

end Sys2Proof.Machine
end

