-- ==== Sys2Proof/Machine/Pins.lean ====
section
/-!
DEFINITION. The pins of the module connectors: where each signal lies, its cells in the boundary register, and what the module
puts on it (R482 - R487, R504 - R517).
-/
namespace Sys2Proof.Machine

open Sys2Proof

/-- An outgoing signal of C1 or C2 (R504, R513); lane 4 of a Lomion link is its forwarded clock. -/
inductive Pin
  | pwrgd | thermtripN | alertN | cdone | smbClk | smbDat
  | userIo (p : Fin 96)
  | fabricTx (l : Fin 16)
  | pcieTx (l : Fin 16)
  | lomionTx (n : Fin 64) (k : Fin 5)
  deriving DecidableEq, Repr

/-- What the module puts on a pin: nothing (high-Z, released, no forwarded clock), a level, a weak pull-up, an idle transmitter, or
what the block behind it sends. -/
inductive Drive
  | none | low | high | pull | idle | sends
  deriving DecidableEq, Repr

def Drive.level (b : Bool) : Drive := if b then .high else .low

/-- An open-drain line that is pulled low, or released (R505). -/
def Drive.openDrain (low : Bool) : Drive := if low then .low else .none

/-! ### Places (R485, R504, R513) -/

/-- C1 pin of DP and DN of pair `m` of the group that begins at pin `b` (R504). -/
def pairPins (b m : Nat) : Nat × Nat := (b + 3 * m, b + 1 + 3 * m)
def pcieTxPins (l : Nat) : Nat × Nat := pairPins 1 (2 * l)
def pcieRxPins (l : Nat) : Nat × Nat := pairPins 1 (2 * l + 1)
def fabricTxPins (l : Nat) : Nat × Nat := pairPins 193 (2 * l)
def fabricRxPins (l : Nat) : Nat × Nat := pairPins 193 (2 * l + 1)
def userIoPin (p : Nat) : Nat := 292 + p + p / 4

/-- Pair of C2 of signal `k` of link `n`: 0-3 transmit lanes, 4 transmit clock, 5-8 receive lanes, 9 receive clock (R513). -/
def linkPair (n k : Nat) : Nat := 10 * n + k
def linkPins (n k : Nat) : Nat × Nat := pairPins 1 (linkPair n k)

/-- Boundary cells of the signals (R485). -/
def openDrainControl (i : Nat) : Nat := 13 + 2 * i
def openDrainInput (i : Nat) : Nat := 14 + 2 * i
def userIoCell (p : Nat) : Nat := 24 + 3 * p
def fabricTxCell (l : Nat) : Nat := 312 + 2 * l
def pcieTxCell (l : Nat) : Nat := 344 + 2 * l
def linkCell (n k : Nat) : Nat := 376 + linkPair n k

/-! ### Levels of the control pins -/

/-- ALERT_N is low while PWR_ALERT and PWR_ALERT_EN share a bit, from PWRGD on (R466, R516). -/
def Device.alertLow (d : Device) : Bool := d.belfry.rail == .up && (d.reg Reg.pwrAlert &&& d.reg Reg.pwrAlertEn) != 0

/-- VCCIO of bank `q` in mV, by its strap (R396, R509). -/
def Device.vccio (d : Device) (q : Nat) : Nat := [1000, 1200, 1500, 1800].getD (fld d.belfry.vsel (2 * q) 2) 0

/-- The receivers of link `n` are terminated: outside DOWN, Off, module reset and Standby (R314, R516). -/
def Device.linkTerminated (d : Device) (n : Nat) : Bool := d.alive && d.linkState n != 0

/-- The receivers of the PCIe link are terminated (R516). -/
def Device.pcieTerminated (d : Device) : Bool := d.alive && d.belfry.perstN

/-! ### What the module puts on a pin -/

/-- A user pin in half `h` of the 2 gcyc halves: the design's value once its bank is released, else a weak pull-up under
PUCFG_N = 0 while the rails of the banks are up (R396, R509, R516). -/
def Device.userDrive (d : Device) (p h : Nat) : Drive :=
  if d.alive && d.regBit Reg.cfgFabBankStatus (8 + p / 24) then (d.userPad p h).elim .none Drive.level
  else if d.belfry.rail == .up && !d.belfry.pucfgN then .pull
  else .none

/-- What the core puts on a pin, in half `h` (R516). [DEDUCED, unsafe: notes/assumptions/184] -/
def Device.coreDrive (d : Device) (h : Nat) : Pin → Drive
  | .pwrgd => .level (d.belfry.rail == .up)
  | .thermtripN => .openDrain d.belfry.thermTrip
  | .alertN => .openDrain d.alertLow
  | .cdone => .openDrain d.belfry.cdoneLow
  | .smbClk | .smbDat => if d.belfryRuns then .sends else .none
  | .userIo p => d.userDrive p h
  | .fabricTx l => if d.alive && d.regBit (Reg.cfgFabLaneStatus l) 7 then .sends else .idle
  | .pcieTx _ => if d.alive && d.belfry.perstN then .sends else .idle
  | .lomionTx n k => if d.linkTerminated n then (if k = 4 ∨ 2 ≤ d.linkState n then .sends else .idle) else .none

/-- What a pin-controlling instruction puts on a pin: its boundary cell, or nothing under HIGHZ; under EXTEST_PULSE and EXTEST_TRAIN
the AC pairs send the pulses of their cells (R483, R485 - R487). -/
def Tap.drive (t : Tap) (p : Pin) : Drive :=
  let cell := fun (i : Nat) => Drive.level (bit t.cells i)
  let pair := fun (i : Nat) => if t.ir = 0x04 ∨ t.ir = 0x05 then Drive.sends else cell i
  let pull := fun (i : Nat) => Drive.openDrain (bit t.cells (openDrainControl i))
  if t.ir = 0x07 then
    match p with
    | .fabricTx _ | .pcieTx _ | .lomionTx _ _ => .idle
    | _ => .none
  else match p with
    | .pwrgd => cell 12
    | .thermtripN => pull 0
    | .alertN => pull 1
    | .cdone => pull 2
    | .smbClk => pull 3
    | .smbDat => pull 4
    | .userIo p => if bit t.cells (userIoCell p + 2) then cell (userIoCell p + 1) else .none
    | .fabricTx l => pair (fabricTxCell l)
    | .pcieTx l => pair (pcieTxCell l)
    | .lomionTx n k => pair (linkCell n k)

/-- What the module puts on a pin, in half `h` (R487, R516). -/
def Device.drive (d : Device) (h : Nat) (p : Pin) : Drive := if d.pinsTaken then d.tap.drive p else d.coreDrive h p

end Sys2Proof.Machine
end

