-- ==== Sys2Proof/Machine/Tap.lean ====
section
/-!
DEFINITION. The test access port: boundary scan, CFG_ACCESS with the Spire test windows, and the memory BIST (R482 - R494).
-/
namespace Sys2Proof.Machine

open Sys2Proof

def Device.mapTap (d : Device) (f : Tap → Tap) : Device := { d with tap := f d.tap }

/-- The outcome of a command of the TAP, which works in every state except Off (R482). -/
def tapTook (s : State) (f : Device → Device) : Host.Outcome State Fault Refusal :=
  tookAlways s (fun d => if d.belfryRuns then f d else d)

/-! ### The instruction register (R482, R483, R487) -/

/-- The pins follow the TAP from now on: links that are up or in bring-up return to DETECT, and the PCIe link goes down.
[DEDUCED, unsafe: notes/assumptions/76] -/
def Device.takePins (d : Device) : Device :=
  ((List.range 64).foldl (fun d n => if 2 ≤ d.linkState n ∧ d.linkState n ≤ 5 then d.toLinkState n 1 else d) d).loseLink

/-- The pins return to the core: CDONE is released if start-up has come past its stage meanwhile (R424, R487).
[DEDUCED, unsafe: notes/assumptions/181] -/
def Device.returnPins (d : Device) : Device :=
  if d.cdoneDue then { d with belfry := { d.belfry with cdoneLow := false } } else d

/-- An instruction is in force. Selections of Spires end when it is not CFG_ACCESS (R493). -/
def Device.setIr (d : Device) (op : BitVec 8) : Device :=
  let was := d.pinsTaken
  let d := d.mapTap (fun t => { t with ir := op, selected := if op = 0x20 then t.selected else [] })
  if d.pinsTaken && !was then d.takePins else if was && !d.pinsTaken then d.returnPins else d

/-- eFUSE TAP_CFG_DIS (R433). -/
def Device.tapDisabled (d : Device) : Bool := bit d.keep.fuses.policy 4

/-- What Capture-IR loads: BIST_DONE, TAP_CFG_DIS and 0b01. -/
def Device.captureIr (d : Device) : Nat := 8 * b2n (d.regBit Reg.dbgBistStatus 1) + 4 * b2n d.tapDisabled + 1

/-- An instruction is shifted in. With TAP_CFG_DIS blown, CFG_ACCESS and BIST_RUN are BYPASS.
[DESIGN CHOICE, safe: notes/assumptions/134] [DEDUCED, unsafe: notes/assumptions/135] -/
def Device.loadIr (d : Device) (op : BitVec 8) : Device :=
  let d := d.emit (.tdo 8 d.captureIr)
  d.setIr (if d.tapDisabled && (op == 0x20 || op == 0x21) then 0xFF else op)

/-- TAP_RESET: Test-Logic-Reset loads IDCODE. -/
def execTapReset (s : State) : Host.Outcome State Fault Refusal := tapTook s (·.setIr 0x01)

/-! ### Boundary scan and the short registers (R484 - R487) -/

/-- What the boundary register captures: under SAMPLE/PRELOAD a DC cell the pin and an AC cell an undefined level; under a
pin-controlling instruction 0 before PWRGD, else what each cell sees (R486, R487). -/
def Device.boundaryCapture (d : Device) (pins : BitVec 1016) : BitVec 1016 × Device :=
  if d.tap.ir = 0x02 then
    let (v, d) := d.takeFree 704
    (v ++ pins.extractLsb' 0 312, d)
  else if d.belfry.rail ≠ .up then (0, d)
  else (pins, d)

/-- A scan of the boundary register: what the cells see goes out, and `cells` takes effect at Update-DR. -/
def Device.boundaryScan (d : Device) (scan : Option (BitVec 1016 × BitVec 1016)) : Device :=
  match scan with
  | none => d
  | some (pins, cells) =>
    let (v, d) := d.boundaryCapture pins
    (d.emit (.tdo 1016 v.toNat)).mapTap (fun t => { t with cells := cells })

def execTapExtest (scan : Option (BitVec 1016 × BitVec 1016)) (s : State) : Host.Outcome State Fault Refusal :=
  tapTook s (fun d => (d.loadIr 0x00).boundaryScan scan)

def execTapSamplePreload (scan : Option (BitVec 1016 × BitVec 1016)) (s : State) : Host.Outcome State Fault Refusal :=
  tapTook s (fun d => (d.loadIr 0x02).boundaryScan scan)

def execTapExtestPulse (scan : Option (BitVec 1016 × BitVec 1016)) (s : State) : Host.Outcome State Fault Refusal :=
  tapTook s (fun d => (d.loadIr 0x04).boundaryScan scan)

def execTapExtestTrain (scan : Option (BitVec 1016 × BitVec 1016)) (s : State) : Host.Outcome State Fault Refusal :=
  tapTook s (fun d => (d.loadIr 0x05).boundaryScan scan)

/-- TAP_IDCODE: the device ID register captures BFY_ID. -/
def execTapIdcode (s : State) : Host.Outcome State Fault Refusal :=
  tapTook s (fun d => (d.loadIr 0x01).emit (.tdo 32 (d.regF Reg.bfyId 0 32)))

/-- The bypass register captures 0. -/
def Device.bypass (d : Device) (op : BitVec 8) : Device := (d.loadIr op).emit (.tdo 1 0)

def execTapClamp (s : State) : Host.Outcome State Fault Refusal := tapTook s (·.bypass 0x06)
def execTapHighz (s : State) : Host.Outcome State Fault Refusal := tapTook s (·.bypass 0x07)
def execTapBypass (s : State) : Host.Outcome State Fault Refusal := tapTook s (·.bypass 0xFF)

/-! ### The Spire test windows (R493) -/

/-- The 32-bit half `h` of a word. -/
def half (w : Word) (h : Nat) : Nat := fld w (32 * h) 32

/-- The pointer array of a group: AP, AB, AL, AO. -/
def Vx.pointers (v : Vx) (k : Nat) : List (BitVec 12) :=
  match k with
  | 0 => v.ap
  | 1 => v.ab
  | 2 => v.al
  | _ => v.ao

/-- Loop entry `e`, the outermost loop being entry 0. -/
def Vx.loopEntry (v : Vx) (e : Nat) : Word :=
  match v.loops.reverse[e]? with
  | some l => mkWord [(22, l.left % 2 ^ 17), (11, l.last % 2 ^ 11), (0, l.first % 2 ^ 11)]
  | none => 0

/-- The 32 bits of the test window at offset `o`, a multiple of 4. [DEDUCED, unsafe: notes/assumptions/137] -/
def Vx.window (v : Vx) (o : Nat) : Nat :=
  if o < 0xC00 then
    let r := v.dreg ((o - 0x800) / 0x80)
    let j := o % 0x80 / 4
    (r.lanes.getD j 0).toNat + 2 ^ 24 * b2n (bit r.pois j)
  else if o < 0xE00 then half ((v.areg ((o - 0xC00) / 0x100)).lanes.getD (o % 0x100 / 8) 0) (o % 8 / 4)
  else if 0xF80 ≤ o then half (v.loopEntry ((o - 0xF80) / 8)) (o % 8 / 4)
  else if o % 8 ≠ 0 then 0
  else if o < 0xE40 then
    let r := v.dreg ((o - 0xE00) / 8)
    256 * b2n r.bk + r.de.toNat
  else if o < 0xF40 then ((v.pointers ((o - 0xE40) / 0x40)).getD (o % 0x40 / 8) 0).toNat
  else if o < 0xF50 then (v.areg ((o - 0xF40) / 8)).pois.toNat
  else 0

/-- VX with 32 bits of the test window written. The loop entries are read only. -/
def Vx.putWindow (v : Vx) (o x : Nat) : Vx :=
  if o < 0xC00 then
    let i := (o - 0x800) / 0x80
    let j := o % 0x80 / 4
    { v with d := v.d.modify i (fun r =>
        { r with lanes := r.lanes.set j (BitVec.ofNat 24 x), pois := putFld r.pois j 1 (x / 2 ^ 24) }) }
  else if o < 0xE00 then
    let j := o % 0x100 / 8
    { v with acc := v.acc.modify ((o - 0xC00) / 0x100) (fun r =>
        { r with lanes := r.lanes.set j (putFld (r.lanes.getD j 0) (32 * (o % 8 / 4)) 32 x) }) }
  else if 0xF80 ≤ o ∨ o % 8 ≠ 0 then v
  else if o < 0xE40 then
    { v with d := v.d.modify ((o - 0xE00) / 8) (fun r => { r with bk := x.testBit 8, de := BitVec.ofNat 8 x }) }
  else if o < 0xF40 then
    let l := (v.pointers ((o - 0xE40) / 0x40)).set (o % 0x40 / 8) (BitVec.ofNat 12 x)
    match (o - 0xE40) / 0x40 with
    | 0 => { v with ap := l }
    | 1 => { v with ab := l }
    | 2 => { v with al := l }
    | _ => { v with ao := l }
  else if o < 0xF50 then { v with acc := v.acc.modify ((o - 0xF40) / 8) (fun r => { r with pois := BitVec.ofNat 32 x }) }
  else v

/-! ### CFG_ACCESS (R492) -/

/-- An operation that is denied. -/
def deniedResult : TapResult := { valid := true, denied := true, data := 0 }

/-- An operation that is done, with its read data. -/
def doneResult (x : Word) : TapResult := { valid := true, denied := false, data := x }

/-- What Capture-DR returns of a result: VALID, DENIED and the data. -/
def TapResult.bits (r : TapResult) : Nat := r.data.toNat + 2 ^ 64 * b2n r.valid + 2 ^ 65 * b2n r.denied

/-- The offset lies in the test window of a Spire. -/
def inWindow (off : Nat) : Bool := decide (0x1000000 ≤ off) && decide (off < 0x2000000) && decide (0x800 ≤ off % 0x1000)

/-- An access to a test window: a Spire that is not in MAINT is selected, and the access is denied. -/
def Device.windowAccess (d : Device) (off : Nat) (f : Device → Nat → Device × TapResult) : Device × TapResult :=
  let n := (off - 0x1000000) / 0x1000
  if d.spireMaint n then f (d.domeTo (4 * d.now)) n
  else
    (d.mapTap (fun t => { t with selected := if t.selected.contains n then t.selected else n :: t.selected }), deniedResult)

/-- WRITE. Without power and in module reset every register stays at its reset value.
[DEDUCED, unsafe: notes/assumptions/136] -/
def Device.tapWrite (d : Device) (w64 : Bool) (addr : BitVec 26) (data : Word) : Device × TapResult :=
  let off := 4 * addr.toNat
  if w64 ∧ off % 8 ≠ 0 then (d, deniedResult)
  else if d.alive = false then (d, doneResult 0)
  else if inWindow off then
    d.windowAccess off (fun d n =>
      if (d.vx n).prog.isSome then (d, deniedResult)
      else
        let o := off % 0x1000
        (d.mapVx n (fun v =>
          let v := v.putWindow o (half data 0)
          if w64 then v.putWindow (o + 4) (half data 1) else v), doneResult 0))
  else (d.writeBar0 off ((natBytes (if w64 then 8 else 4) data.toNat).map some), doneResult 0)

/-- A read of the latched packet would consume it (R492). -/
def popRegister (off : Nat) : Bool := decide (Reg.qmgPopStatus ≤ off) && decide (off < Reg.qmgPopData + 8)

/-- READ. -/
def Device.tapRead (d : Device) (w64 : Bool) (addr : BitVec 26) (ecc : Ecc) : Device × TapResult :=
  let off := 4 * addr.toNat
  if (w64 ∧ off % 8 ≠ 0) ∨ popRegister off = true then (d, deniedResult)
  else if inWindow off then
    d.windowAccess off (fun d n =>
      let o := off % 0x1000
      (d, doneResult (mkWord [(0, (d.vx n).window o), (32, if w64 then (d.vx n).window (o + 4) else 0)])))
  else
    let d := match member 0x2000000 8 786432 (off / 8 * 8) with
      | some x => d.ctxEcc (x / 16) (x % 16) ecc false
      | none => d
    (d, doneResult (d.regRead off w64))

/-- PORT: bytes for the configuration byte stream; a PORT load starts when no load runs (R408). -/
def Device.tapPort (d : Device) (bytes : List Byte) : Device × TapResult :=
  if d.alive = false then (d, doneResult 0)
  else ((if d.load.isNone then d.startLoad 2 else d).portBytes bytes, doneResult 0)

/-- A scan of the CFG_ACCESS register: the result of the last completed operation goes out, and Update-DR issues the next
operation. A Capture-DR that comes too early sees VALID = 0 and loses that result. Nothing happens under another
instruction. -/
def Device.cfgScan (d : Device) (early : Bool) (f : Device → Device × TapResult) : Device :=
  if d.tap.ir ≠ 0x20 then d
  else
    let d := if early then d.mapTap (fun t => { t with result := { valid := false, denied := false, data := 0 } }) else d
    let (d, r) := f (d.emit (.tdo 96 d.tap.result.bits))
    d.mapTap (fun t => { t with result := r })

/-- The denied operations are counted. -/
def countDenied (x : Device × TapResult) : Device × TapResult :=
  if x.2.denied then (x.1.bump Reg.dbgTapDenyCnt 1, x.2) else x

def execCfgAccess (s : State) : Host.Outcome State Fault Refusal := tapTook s (·.loadIr 0x20)

def execCfgAccessNop (early : Bool) (s : State) : Host.Outcome State Fault Refusal :=
  tapTook s (·.cfgScan early (fun d => (d, d.tap.result)))

/-- PORT with its byte count - 1 and DATA. -/
def execCfgAccessPort (early : Bool) (count : Fin 8) (data : Word) (s : State) : Host.Outcome State Fault Refusal :=
  tapTook s (·.cfgScan early (fun d => countDenied (d.tapPort (natBytes (count + 1) data.toNat))))

def execCfgAccessWrite (early w64 : Bool) (addr : BitVec 26) (data : Word) (s : State) : Host.Outcome State Fault Refusal :=
  tapTook s (·.cfgScan early (fun d => countDenied (d.tapWrite w64 addr data)))

def execCfgAccessRead (early w64 : Bool) (addr : BitVec 26) (s : State) (ecc : Ecc := .clean) : Host.Outcome State Fault Refusal :=
  tapTook s (·.cfgScan early (fun d => countDenied (d.tapRead w64 addr ecc)))

/-! ### Memory BIST (R488 - R491) -/

/-- BIST_RUN: the BIST register is selected, and a scan with GO = 0 captures the status. -/
def Device.bistSelect (d : Device) : Device :=
  let d := d.loadIr 0x21
  if d.tap.ir = 0x21 then d.emit (.tdo 64 (d.reg Reg.dbgBistStatus).toNat) else d.emit (.tdo 1 0)

def execBistRun (s : State) : Host.Outcome State Fault Refusal := tapTook s Device.bistSelect

/-- A command with GO = 1 is refused without PWRGD, in a load, and while a BIST runs. -/
def Device.bistRefused (d : Device) : Bool := d.belfry.rail != .up || d.load.isSome || d.tap.bist.isSome

/-- BIST_START: DONE, FAIL and FAIL_WORDS are cleared. Once no task holds the Dome, every Spire is selected when a group 0-2 is named
(`Device.bistMaint`). [DEDUCED, unsafe: notes/assumptions/138] -/
def Device.bistBegin (d : Device) (ret : Bool) (target : BitVec 9) : Device :=
  if d.tap.ir ≠ 0x21 then d
  else
    let d := d.emit (.tdo 64 (d.reg Reg.dbgBistStatus).toNat)
    if d.bistRefused then d.setReg Reg.dbgBistStatus (mkWord [(2, 1), (0, d.regF Reg.dbgBistStatus 0 1)])
    else
      ((d.setReg Reg.dbgBistStatus 1).bump Reg.dbgBistRunCnt 1).mapTap (fun t => { t with bist := some target, bistRet := ret })

def execBistStart (ret : Bool) (target : BitVec 9) (s : State) : Host.Outcome State Fault Refusal :=
  tapTook s (·.bistBegin ret target)

/-- The device with the registers at offsets `lo` up to `hi` at their reset values. -/
def Device.clearRegs (d : Device) (lo hi : Nat) : Device := { d with regs := mapClear d.regs lo hi }

/-- The tested memories hold zeros: groups 1, 2, 7 and 8 lie in the configuration planes and leave the device UNCONFIGURED
(R489). -/
def Device.bistZero (d : Device) (target : BitVec 9) : Device :=
  let g := fun i => bit target i
  let d := if g 0 then { d with tile := Store.initial } else d
  let d := if g 3 then d.clearCache else d
  let d := if g 4 then d.clearRegs 0x2000000 0x2600000 else d
  let d := if g 5 then d.clearRegs 0x2800000 0x287C000 else d
  let d := if g 6 then { d with queues := [], pop := none } else d
  if g 1 || g 2 || g 7 || g 8 then (d.fullClear.setCfgState 0).setStage 0 else d

/-- BIST_COMPLETE: once no task holds the Dome, the tested groups have been tested; `fail` gives the groups that failed, and
`words` the failing words. Selection resumes. -/
def Device.bistDone (d : Device) (fail : BitVec 9) (words : BitVec 32) : Device :=
  match d.tap.bist, d.lantern.run with
  | some target, none =>
    let fail := fail &&& target
    let d := (d.bistZero target).setReg Reg.dbgBistStatus
      (mkWord [(32, if fail = 0 then 0 else words.toNat), (3, fail.toNat), (2, d.regF Reg.dbgBistStatus 2 1), (1, 1)])
    (d.mapTap (fun t => { t with bist := none })).reevaluate
  | _, _ => d

def execBistComplete (fail : BitVec 9) (words : BitVec 32) (s : State) : Host.Outcome State Fault Refusal :=
  took s (·.bistDone fail words)

end Sys2Proof.Machine
end

