-- ==== Sys2Proof/Machine/Vx.lean ====
section
/-!
DEFINITION. The commands of the vector engines: the next instruction of a Spire issues at its dclk (R112 - R157).
-/
namespace Sys2Proof.Machine

open Sys2Proof

/-- The dclk of the next instruction of Spire `n`: of the running program, or the start of the next one. -/
def Device.nextIssue (d : Device) (n : Nat) : Option Nat :=
  let ts := ((d.vx n).prog.map (·.issue)).toList ++
    ((d.dome.starts.filterMap (fun s => d.startAt s n)).filter (fun t => decide (d.dome.clock ≤ t)))
  match ts with
  | [] => none
  | t :: ts => some (ts.foldl min t)

/-- The index whose word issues in Spire `n` in dclk `x`. -/
def Device.indexAt (d : Device) (n x : Nat) : Option Nat :=
  match (d.startsNow n x).getLast? with
  | some s => some s.pc
  | none => match (d.vx n).prog with
    | some p => if p.issue = x then some p.pc else none
    | none => none

/-- The loops active as the word of dclk `x` is judged: none when a program starts there. -/
def Device.loopsAt (d : Device) (n x : Nat) : List Loop :=
  if (d.startsNow n x).isEmpty then (d.vx n).loops else []

/-- The opcode of the word that issues in Spire `n` in dclk `x`; none where the word is an illegal encoding, or where an
implicit HALT takes the place of an index past the store (R153, R155). -/
def Device.opcodeAt (d : Device) (n x pc : Nat) : Option Nat :=
  let w := d.vxWord n pc
  if pc ≤ 2047 ∧ vxLegal w pc (d.loopsAt n x) = true then some (fld w 56 8) else none

/-- The next instruction of Spire `n` issues at its dclk, if it is the one named (by opcode; none: an illegal encoding); the
rest of the Dome has come to that dclk. [DESIGN CHOICE, safe: notes/assumptions/86] -/
def Device.vxCommand (d : Device) (n : Nat) (env : VxEnv) (opc : Option Nat) : Device :=
  match d.nextIssue n with
  | none => d
  | some x =>
    let e := ((d.advance (x / 4)).domeTo x).domeHead x
    match e.indexAt n x with
    | none => d
    | some pc =>
      if e.opcodeAt n x pc = opc then
        (e.spireClock n x env).mapSpire n (fun s => { s with ahead := x + 1 })
      else d

/-- NOP (R142): VX performs only the word's parallel accesses. -/
def execVxNop (spire : Fin 4096) (env : VxEnv) (s : State) : Host.Outcome State Fault Refusal :=
  took s (·.vxCommand spire env (some 0x00))

/-- HALT (R151): VX ends the program and empties the loop stack. -/
def execVxHalt (spire : Fin 4096) (env : VxEnv) (s : State) : Host.Outcome State Fault Refusal :=
  took s (·.vxCommand spire env (some 0x01))

/-- LOOP (R122): VX runs the following body a given number of times. -/
def execVxLoop (spire : Fin 4096) (env : VxEnv) (s : State) : Host.Outcome State Fault Refusal :=
  took s (·.vxCommand spire env (some 0x02))

/-- SETA (R151): VX writes an address pointer, base, length or offset register. -/
def execVxSeta (spire : Fin 4096) (env : VxEnv) (s : State) : Host.Outcome State Fault Refusal :=
  took s (·.vxCommand spire env (some 0x03))

/-- LDI (R151): VX writes an immediate into every lane of a D register. -/
def execVxLdi (spire : Fin 4096) (env : VxEnv) (s : State) : Host.Outcome State Fault Refusal :=
  took s (·.vxCommand spire env (some 0x04))

/-- DRN (R126): VX loads a drain-register row into an accumulator. -/
def execVxDrn (spire : Fin 4096) (env : VxEnv) (s : State) : Host.Outcome State Fault Refusal :=
  took s (·.vxCommand spire env (some 0x05))

/-- MOV (R142): VX moves a value into a D register or accumulator. -/
def execVxMov (spire : Fin 4096) (env : VxEnv) (s : State) : Host.Outcome State Fault Refusal :=
  took s (·.vxCommand spire env (some 0x10))

/-- ADD (R142): VX adds two sources into a D register. -/
def execVxAdd (spire : Fin 4096) (env : VxEnv) (s : State) : Host.Outcome State Fault Refusal :=
  took s (·.vxCommand spire env (some 0x11))

/-- SUB (R142): VX subtracts two sources into a D register. -/
def execVxSub (spire : Fin 4096) (env : VxEnv) (s : State) : Host.Outcome State Fault Refusal :=
  took s (·.vxCommand spire env (some 0x12))

/-- MAX (R141): VX writes the larger of two sources to a D register. -/
def execVxMax (spire : Fin 4096) (env : VxEnv) (s : State) : Host.Outcome State Fault Refusal :=
  took s (·.vxCommand spire env (some 0x13))

/-- MIN (R141): VX writes the smaller of two sources to a D register. -/
def execVxMin (spire : Fin 4096) (env : VxEnv) (s : State) : Host.Outcome State Fault Refusal :=
  took s (·.vxCommand spire env (some 0x14))

/-- ABS (R142): VX writes the absolute value of a source to a D register. -/
def execVxAbs (spire : Fin 4096) (env : VxEnv) (s : State) : Host.Outcome State Fault Refusal :=
  took s (·.vxCommand spire env (some 0x15))

/-- NEG (R142): VX writes the negation of a source to a D register. -/
def execVxNeg (spire : Fin 4096) (env : VxEnv) (s : State) : Host.Outcome State Fault Refusal :=
  took s (·.vxCommand spire env (some 0x16))

/-- CSEL (R142): VX selects per lane between a source and the old destination. -/
def execVxCsel (spire : Fin 4096) (env : VxEnv) (s : State) : Host.Outcome State Fault Refusal :=
  took s (·.vxCommand spire env (some 0x17))

/-- NRM (R143): VX writes floor(log2 |v|) of each lane. -/
def execVxNrm (spire : Fin 4096) (env : VxEnv) (s : State) : Host.Outcome State Fault Refusal :=
  took s (·.vxCommand spire env (some 0x18))

/-- MPY (R142): VX sets an accumulator to the product of two sources. -/
def execVxMpy (spire : Fin 4096) (env : VxEnv) (s : State) : Host.Outcome State Fault Refusal :=
  took s (·.vxCommand spire env (some 0x20))

/-- MAC (R142): VX adds a product into an accumulator. -/
def execVxMac (spire : Fin 4096) (env : VxEnv) (s : State) : Host.Outcome State Fault Refusal :=
  took s (·.vxCommand spire env (some 0x21))

/-- MSU (R142): VX subtracts a product from an accumulator. -/
def execVxMsu (spire : Fin 4096) (env : VxEnv) (s : State) : Host.Outcome State Fault Refusal :=
  took s (·.vxCommand spire env (some 0x22))

/-- ADDA (R142): VX adds a value into an accumulator. -/
def execVxAdda (spire : Fin 4096) (env : VxEnv) (s : State) : Host.Outcome State Fault Refusal :=
  took s (·.vxCommand spire env (some 0x23))

/-- SUBA (R142): VX subtracts a value from an accumulator. -/
def execVxSuba (spire : Fin 4096) (env : VxEnv) (s : State) : Host.Outcome State Fault Refusal :=
  took s (·.vxCommand spire env (some 0x24))

/-- MAXA (R141): VX keeps the larger of an accumulator and a value. -/
def execVxMaxa (spire : Fin 4096) (env : VxEnv) (s : State) : Host.Outcome State Fault Refusal :=
  took s (·.vxCommand spire env (some 0x25))

/-- CLR (R142): VX resets an accumulator to finite zero. -/
def execVxClr (spire : Fin 4096) (env : VxEnv) (s : State) : Host.Outcome State Fault Refusal :=
  took s (·.vxCommand spire env (some 0x26))

/-- SCL (R144): VX scales an accumulator by a power of two. -/
def execVxScl (spire : Fin 4096) (env : VxEnv) (s : State) : Host.Outcome State Fault Refusal :=
  took s (·.vxCommand spire env (some 0x27))

/-- TAPM (R127): VX accumulates a filter tap and moves the sample to the other bus. -/
def execVxTapm (spire : Fin 4096) (env : VxEnv) (s : State) : Host.Outcome State Fault Refusal :=
  took s (·.vxCommand spire env (some 0x28))

/-- NRW (R124): VX narrows a scaled accumulator into a D register. -/
def execVxNrw (spire : Fin 4096) (env : VxEnv) (s : State) : Host.Outcome State Fault Refusal :=
  took s (·.vxCommand spire env (some 0x30))

/-- LSUM (R145): VX writes the pairwise-tree lane sum to every lane. -/
def execVxLsum (spire : Fin 4096) (env : VxEnv) (s : State) : Host.Outcome State Fault Refusal :=
  took s (·.vxCommand spire env (some 0x38))

/-- LMAX (R145): VX writes the lane maximum to every lane. -/
def execVxLmax (spire : Fin 4096) (env : VxEnv) (s : State) : Host.Outcome State Fault Refusal :=
  took s (·.vxCommand spire env (some 0x39))

/-- PKST (R148): VX narrows D data into a packed or block format and stores it. -/
def execVxPkst (spire : Fin 4096) (env : VxEnv) (s : State) : Host.Outcome State Fault Refusal :=
  took s (·.vxCommand spire env (some 0x40))

/-- PKLD (R150): VX loads and unpacks half of a 4-bit granule. -/
def execVxPkld (spire : Fin 4096) (env : VxEnv) (s : State) : Host.Outcome State Fault Refusal :=
  took s (·.vxCommand spire env (some 0x41))

/-- PKFL (R149): VX writes a pack buffer's remaining bytes as one padded line. -/
def execVxPkfl (spire : Fin 4096) (env : VxEnv) (s : State) : Host.Outcome State Fault Refusal :=
  took s (·.vxCommand spire env (some 0x42))

/-- ILLEGAL_ENCODING (R156): An illegal word issues as a NOP without accesses and raises a fault. -/
def execVxIllegalEncoding (spire : Fin 4096) (env : VxEnv) (s : State) : Host.Outcome State Fault Refusal :=
  took s (·.vxCommand spire env none)

end Sys2Proof.Machine
end

