-- ==== Sys2Proof/Machine/Dispatch.lean ====
section
/-!
DEFINITION. One arm per command: each calls that command's meaning.
-/
namespace Sys2Proof.Machine

open Sys2Proof

/-- What command `i` does in state `s`. -/
def exec (i : Instr) (s : State) : Host.Outcome State Fault Refusal :=
  match i with
  | .registerWrite func offset bytes => Sys2Proof.Machine.execRegisterWrite func offset bytes s
  | .doorbell func offset bytes => Sys2Proof.Machine.execDoorbell func offset bytes s
  | .ringRead => Sys2Proof.Machine.execRingRead s
  | .ringReadCompletion ring res => Sys2Proof.Machine.execRingReadCompletion ring res s
  | .fetchErrClear ring => Sys2Proof.Machine.execFetchErrClear ring s
  | .ringDisable ring => Sys2Proof.Machine.execRingDisable ring s
  | .ringEnable ring ctl => Sys2Proof.Machine.execRingEnable ring ctl s
  | .ringEnableEffective ring => Sys2Proof.Machine.execRingEnableEffective ring s
  | .inputReadCompletion input res => Sys2Proof.Machine.execInputReadCompletion input res s
  | .bar2Read func offset len tag ecc => Sys2Proof.Machine.execBar2Read func offset len tag s ecc
  | .bar2Write func offset bytes ep => Sys2Proof.Machine.execBar2Write func offset bytes ep s
  | .hostReadCompletion txn res => Sys2Proof.Machine.execHostReadCompletion txn res s
  | .completionTimeout txn => Sys2Proof.Machine.execCompletionTimeout txn s
  | .functionLevelReset func => Sys2Proof.Machine.execFunctionLevelReset func s
  | .perstN => Sys2Proof.Machine.execPerstN s
  | .hotReset => Sys2Proof.Machine.execHotReset s
  | .pcieLinkDown => Sys2Proof.Machine.execPcieLinkDown s
  | .l0pRequest width => Sys2Proof.Machine.execL0pRequest width s
  | .aspmL1Entry => Sys2Proof.Machine.execAspmL1Entry s
  | .atsTranslationCompletion func page target read write => Sys2Proof.Machine.execAtsTranslationCompletion func page target read write s
  | .atsInvalidationRequest func page => Sys2Proof.Machine.execAtsInvalidationRequest func page s
  | .configurationRequest func dword tag wr => Sys2Proof.Machine.execConfigurationRequest func dword tag wr s
  | .hifVfAbort vf data => Sys2Proof.Machine.execHifVfAbort vf data s
  | .hifVfSig vf data => Sys2Proof.Machine.execHifVfSig vf data s
  | .hifVfSop vf data => Sys2Proof.Machine.execHifVfSop vf data s
  | .hifVfFlush vf data => Sys2Proof.Machine.execHifVfFlush vf data s
  | .startConditionEvaluation ecc => Sys2Proof.Machine.execStartConditionEvaluation s ecc
  | .taskSelection ecc => Sys2Proof.Machine.execTaskSelection ecc s
  | .taskStart => Sys2Proof.Machine.execTaskStart s
  | .dopStep env => Sys2Proof.Machine.execDopStep env s
  | .streamStep ecc => Sys2Proof.Machine.execStreamStep ecc s
  | .linktabStep => Sys2Proof.Machine.execLinktabStep s
  | .splitStep => Sys2Proof.Machine.execSplitStep s
  | .signalStep => Sys2Proof.Machine.execSignalStep s
  | .endStep => Sys2Proof.Machine.execEndStep s
  | .endStateDecision ecc => Sys2Proof.Machine.execEndStateDecision s ecc
  | .tallySaveComplete => Sys2Proof.Machine.execTallySaveComplete s
  | .idleTimerWarm => Sys2Proof.Machine.execIdleTimerWarm s
  | .idleTimerCold => Sys2Proof.Machine.execIdleTimerCold s
  | .lntAbort data => Sys2Proof.Machine.execLntAbort data s
  | .abortCompletion => Sys2Proof.Machine.execAbortCompletion s
  | .contextRecordWrite func ctx word data lanes => Sys2Proof.Machine.execContextRecordWrite func ctx word data lanes s
  | .tallyWrite tally value => Sys2Proof.Machine.execTallyWrite tally value s
  | .translationEntryWrite table pair value => Sys2Proof.Machine.execTranslationEntryWrite table pair value s
  | .tlyHostSig data => Sys2Proof.Machine.execTlyHostSig data s
  | .remoteSignal msg headerOk => Sys2Proof.Machine.execRemoteSignal msg s headerOk
  | .signalApply ecc => Sys2Proof.Machine.execSignalApply s ecc
  | .fenceRelease => Sys2Proof.Machine.execFenceRelease s
  | .fenceExpiry => Sys2Proof.Machine.execFenceExpiry s
  | .streamRequestIssue engine cls units => Sys2Proof.Machine.execStreamRequestIssue engine cls units s
  | .layerDrain => Sys2Proof.Machine.execLayerDrain s
  | .threadDone engine thread => Sys2Proof.Machine.execThreadDone engine thread s
  | .threadFinished engine thread => Sys2Proof.Machine.execThreadFinished engine thread s
  | .translationWalk engine thread reads => Sys2Proof.Machine.execTranslationWalk engine thread reads s
  | .steTlbInv data => Sys2Proof.Machine.execSteTlbInv data s
  | .tlbInvalidationComplete => Sys2Proof.Machine.execTlbInvalidationComplete s
  | .hbmAccessIssue stack pc => Sys2Proof.Machine.execHbmAccessIssue stack pc s
  | .hbmReadComplete stack pc ecc => Sys2Proof.Machine.execHbmReadComplete stack pc ecc s
  | .hbmRefresh => Sys2Proof.Machine.execHbmRefresh s
  | .parityAlert stack pc writeData => Sys2Proof.Machine.execParityAlert stack pc writeData s
  | .commandConfirmed stack pc => Sys2Proof.Machine.execCommandConfirmed stack pc s
  | .hbcSuspectClear stack data => Sys2Proof.Machine.execHbcSuspectClear stack data s
  | .hbcClrRetain stack => Sys2Proof.Machine.execHbcClrRetain stack s
  | .hbmTrainingComplete stack outcome => Sys2Proof.Machine.execHbmTrainingComplete stack outcome s
  | .netRead txn headerOk ecc => Sys2Proof.Machine.execNetRead txn headerOk ecc s
  | .netReadData txn headerOk => Sys2Proof.Machine.execNetReadData txn headerOk s
  | .netWrite txn headerOk => Sys2Proof.Machine.execNetWrite txn headerOk s
  | .netWritePartial txn headerOk ecc reread => Sys2Proof.Machine.execNetWritePartial txn headerOk ecc s reread
  | .netWriteAck txn headerOk => Sys2Proof.Machine.execNetWriteAck txn headerOk s
  | .packetInjection init => Sys2Proof.Machine.execPacketInjection init s
  | .responseTimeout txn => Sys2Proof.Machine.execResponseTimeout txn s
  | .sncRegWrite init data => Sys2Proof.Machine.execSncRegWrite init data s
  | .sncStatClr data => Sys2Proof.Machine.execSncStatClr data s
  | .sncStatCtl data => Sys2Proof.Machine.execSncStatCtl data s
  | .gatewayHoldRelease txn ecc => Sys2Proof.Machine.execGatewayHoldRelease txn ecc s
  | .qmgSop data => Sys2Proof.Machine.execQmgSop data s
  | .pushPortWrite func queue bytes ep => Sys2Proof.Machine.execPushPortWrite func queue bytes ep s
  | .qmgFlush data => Sys2Proof.Machine.execQmgFlush data s
  | .qmgPopStatus ecc => Sys2Proof.Machine.execQmgPopStatus ecc s
  | .qmgPopMeta lanes => Sys2Proof.Machine.execQmgPopMeta lanes s
  | .qmgPopData lanes => Sys2Proof.Machine.execQmgPopData lanes s
  | .qmgQcfg data => Sys2Proof.Machine.execQmgQcfg data s
  | .linkEnable link => Sys2Proof.Machine.execLinkEnable link s
  | .linkDisable link => Sys2Proof.Machine.execLinkDisable link s
  | .linkRetrain link => Sys2Proof.Machine.execLinkRetrain link s
  | .turClrRetain link => Sys2Proof.Machine.execTurClrRetain link s
  | .terminationDetect link present => Sys2Proof.Machine.execTerminationDetect link present s
  | .lossOfClock link => Sys2Proof.Machine.execLossOfClock link s
  | .clockRestored link => Sys2Proof.Machine.execClockRestored link s
  | .trainComplete link verified => Sys2Proof.Machine.execTrainComplete link verified s
  | .symbolLock link lanes => Sys2Proof.Machine.execSymbolLock link lanes s
  | .bringUpTimeout link => Sys2Proof.Machine.execBringUpTimeout link s
  | .exch link unit => Sys2Proof.Machine.execExch link unit s
  | .frameStart link => Sys2Proof.Machine.execFrameStart link s
  | .flitTransmit link => Sys2Proof.Machine.execFlitTransmit link s
  | .flitReceive link flit corrected corrupted => Sys2Proof.Machine.execFlitReceive link flit corrected corrupted s
  | .replayDeadline link frame => Sys2Proof.Machine.execReplayDeadline link frame s
  | .linkSlotDrop link frame slot => Sys2Proof.Machine.execLinkSlotDrop link frame slot s
  | .alignmentMarkerLoss link => Sys2Proof.Machine.execAlignmentMarkerLoss link s
  | .linkWake link => Sys2Proof.Machine.execLinkWake link s
  | .linkCredit link engine thread total headerOk => Sys2Proof.Machine.execLinkCredit link engine thread total s headerOk
  | .loopback link loop => Sys2Proof.Machine.execLoopback link loop s
  | .turPrbsClr link => Sys2Proof.Machine.execTurPrbsClr link s
  | .prbsInject link => Sys2Proof.Machine.execPrbsInject link s
  | .cluAlign link t1 => Sys2Proof.Machine.execCluAlign link t1 s
  | .cluAlignEcho link t2 t3 => Sys2Proof.Machine.execCluAlignEcho link t2 t3 s
  | .cluAlignResult link t4 => Sys2Proof.Machine.execCluAlignResult link t4 s
  | .alignmentStep => Sys2Proof.Machine.execAlignmentStep s
  | .alignCheck => Sys2Proof.Machine.execAlignCheck s
  | .realign => Sys2Proof.Machine.execRealign s
  | .frequencyLock => Sys2Proof.Machine.execFrequencyLock s
  | .cdoneFall => Sys2Proof.Machine.execCdoneFall s
  | .cdoneRise => Sys2Proof.Machine.execCdoneRise s
  | .cluStart link start slot epoch ctx restart seq => Sys2Proof.Machine.execCluStart link start slot epoch ctx restart seq s
  | .startReadiness ecc => Sys2Proof.Machine.execStartReadiness s ecc
  | .cluAbort link ctx seq => Sys2Proof.Machine.execCluAbort link ctx seq s
  | .cluFinal link status seq => Sys2Proof.Machine.execCluFinal link status seq s
  | .cluReport link report => Sys2Proof.Machine.execCluReport link report s
  | .reportSend => Sys2Proof.Machine.execReportSend s
  | .reportDeadline ecc => Sys2Proof.Machine.execReportDeadline s ecc
  | .cluNoStart link device reason => Sys2Proof.Machine.execCluNoStart link device reason s
  | .cluAbortReq link device ctx => Sys2Proof.Machine.execCluAbortReq link device ctx s
  | .clusterAbortTimeout => Sys2Proof.Machine.execClusterAbortTimeout s
  | .multicastPortWrite group full data ep => Sys2Proof.Machine.execMulticastPortWrite group full data ep s
  | .outputDetach group output => Sys2Proof.Machine.execOutputDetach group output s
  | .mcDetach group => Sys2Proof.Machine.execMcDetach group s
  | .cluMcAttach data => Sys2Proof.Machine.execCluMcAttach data s
  | .cfgStart data => Sys2Proof.Machine.execCfgStart data s
  | .cfgAbort data => Sys2Proof.Machine.execCfgAbort data s
  | .cfgPort bytes => Sys2Proof.Machine.execCfgPort bytes s
  | .bitstreamHeader => Sys2Proof.Machine.execBitstreamHeader s
  | .loadHoldRelease => Sys2Proof.Machine.execLoadHoldRelease s
  | .fullClearComplete => Sys2Proof.Machine.execFullClearComplete s
  | .cfgBlock => Sys2Proof.Machine.execCfgBlock s
  | .nopPacket => Sys2Proof.Machine.execNopPacket s
  | .cfgSetAddr => Sys2Proof.Machine.execCfgSetAddr s
  | .cfgFrames => Sys2Proof.Machine.execCfgFrames s
  | .cfgReplicate => Sys2Proof.Machine.execCfgReplicate s
  | .cfgStartupPacket => Sys2Proof.Machine.execCfgStartupPacket s
  | .slotBegin => Sys2Proof.Machine.execSlotBegin s
  | .slotEnd => Sys2Proof.Machine.execSlotEnd s
  | .regionBegin => Sys2Proof.Machine.execRegionBegin s
  | .regionEnd => Sys2Proof.Machine.execRegionEnd s
  | .endPacket => Sys2Proof.Machine.execEndPacket s
  | .idleLimitExpiry => Sys2Proof.Machine.execIdleLimitExpiry s
  | .lockStage => Sys2Proof.Machine.execLockStage s
  | .lockLimitExpiry => Sys2Proof.Machine.execLockLimitExpiry s
  | .outRel => Sys2Proof.Machine.execOutRel s
  | .wrEn => Sys2Proof.Machine.execWrEn s
  | .rstRel => Sys2Proof.Machine.execRstRel s
  | .cdoneStage => Sys2Proof.Machine.execCdoneStage s
  | .readback data => Sys2Proof.Machine.execReadback data s
  | .readbackComplete => Sys2Proof.Machine.execReadbackComplete s
  | .getInfo arg port => Sys2Proof.Machine.execGetInfo arg port s
  | .keepUpdate arg port env => Sys2Proof.Machine.execKeepUpdate arg port env s
  | .keepActivate arg port => Sys2Proof.Machine.execKeepActivate arg port s
  | .commitSvn arg port => Sys2Proof.Machine.execCommitSvn arg port s
  | .getAttest arg port => Sys2Proof.Machine.execGetAttest arg port s
  | .getCert arg port => Sys2Proof.Machine.execGetCert arg port s
  | .bbramWrite arg port => Sys2Proof.Machine.execBbramWrite arg port s
  | .bbramZeroise arg port => Sys2Proof.Machine.execBbramZeroise arg port s
  | .fuseProgram arg port => Sys2Proof.Machine.execFuseProgram arg port s
  | .keepRestart => Sys2Proof.Machine.execKeepRestart s
  | .cardInsertion extents => Sys2Proof.Machine.execCardInsertion extents s
  | .mgmtReady => Sys2Proof.Machine.execMgmtReady s
  | .trialWatchdog => Sys2Proof.Machine.execTrialWatchdog s
  | .powerUp => Sys2Proof.Machine.execPowerUp s
  | .standbyRailGood cmstr pucfgN vsel => Sys2Proof.Machine.execStandbyRailGood cmstr pucfgN vsel s
  | .referencePllLock => Sys2Proof.Machine.execReferencePllLock s
  | .telemetrySample vin iin tj converter => Sys2Proof.Machine.execTelemetrySample vin iin tj converter s
  | .inputTurnOff cause => Sys2Proof.Machine.execInputTurnOff cause s
  | .mrstNAssert => Sys2Proof.Machine.execMrstNAssert s
  | .mrstNRelease => Sys2Proof.Machine.execMrstNRelease s
  | .refclkLoss => Sys2Proof.Machine.execRefclkLoss s
  | .refclkReturn => Sys2Proof.Machine.execRefclkReturn s
  | .standbyReq => Sys2Proof.Machine.execStandbyReq s
  | .standbyEntry => Sys2Proof.Machine.execStandbyEntry s
  | .coldEntryComplete => Sys2Proof.Machine.execColdEntryComplete s
  | .pwrCtlWake => Sys2Proof.Machine.execPwrCtlWake s
  | .pwrCtlHold hold => Sys2Proof.Machine.execPwrCtlHold hold s
  | .smbusWake => Sys2Proof.Machine.execSmbusWake s
  | .wakeComplete => Sys2Proof.Machine.execWakeComplete s
  | .errInj data => Sys2Proof.Machine.execErrInj data s
  | .tapReset => Sys2Proof.Machine.execTapReset s
  | .tapExtest scan => Sys2Proof.Machine.execTapExtest scan s
  | .tapIdcode => Sys2Proof.Machine.execTapIdcode s
  | .tapSamplePreload scan => Sys2Proof.Machine.execTapSamplePreload scan s
  | .tapExtestPulse scan => Sys2Proof.Machine.execTapExtestPulse scan s
  | .tapExtestTrain scan => Sys2Proof.Machine.execTapExtestTrain scan s
  | .tapClamp => Sys2Proof.Machine.execTapClamp s
  | .tapHighz => Sys2Proof.Machine.execTapHighz s
  | .tapBypass => Sys2Proof.Machine.execTapBypass s
  | .cfgAccess => Sys2Proof.Machine.execCfgAccess s
  | .cfgAccessNop early => Sys2Proof.Machine.execCfgAccessNop early s
  | .cfgAccessPort early count data => Sys2Proof.Machine.execCfgAccessPort early count data s
  | .cfgAccessWrite early w64 addr data => Sys2Proof.Machine.execCfgAccessWrite early w64 addr data s
  | .cfgAccessRead early w64 addr ecc => Sys2Proof.Machine.execCfgAccessRead early w64 addr s ecc
  | .bistRun => Sys2Proof.Machine.execBistRun s
  | .bistStart ret target => Sys2Proof.Machine.execBistStart ret target s
  | .bistComplete fail words => Sys2Proof.Machine.execBistComplete fail words s
  | .maintReq spire on => Sys2Proof.Machine.execMaintReq spire on s
  | .maintEntry => Sys2Proof.Machine.execMaintEntry s
  | .sprVxCtlStart spire pc => Sys2Proof.Machine.execSprVxCtlStart spire pc s
  | .rckInjArm spire row col => Sys2Proof.Machine.execRckInjArm spire row col s
  | .vxNop spire env => Sys2Proof.Machine.execVxNop spire env s
  | .vxHalt spire env => Sys2Proof.Machine.execVxHalt spire env s
  | .vxLoop spire env => Sys2Proof.Machine.execVxLoop spire env s
  | .vxSeta spire env => Sys2Proof.Machine.execVxSeta spire env s
  | .vxLdi spire env => Sys2Proof.Machine.execVxLdi spire env s
  | .vxDrn spire env => Sys2Proof.Machine.execVxDrn spire env s
  | .vxMov spire env => Sys2Proof.Machine.execVxMov spire env s
  | .vxAdd spire env => Sys2Proof.Machine.execVxAdd spire env s
  | .vxSub spire env => Sys2Proof.Machine.execVxSub spire env s
  | .vxMax spire env => Sys2Proof.Machine.execVxMax spire env s
  | .vxMin spire env => Sys2Proof.Machine.execVxMin spire env s
  | .vxAbs spire env => Sys2Proof.Machine.execVxAbs spire env s
  | .vxNeg spire env => Sys2Proof.Machine.execVxNeg spire env s
  | .vxCsel spire env => Sys2Proof.Machine.execVxCsel spire env s
  | .vxNrm spire env => Sys2Proof.Machine.execVxNrm spire env s
  | .vxMpy spire env => Sys2Proof.Machine.execVxMpy spire env s
  | .vxMac spire env => Sys2Proof.Machine.execVxMac spire env s
  | .vxMsu spire env => Sys2Proof.Machine.execVxMsu spire env s
  | .vxAdda spire env => Sys2Proof.Machine.execVxAdda spire env s
  | .vxSuba spire env => Sys2Proof.Machine.execVxSuba spire env s
  | .vxMaxa spire env => Sys2Proof.Machine.execVxMaxa spire env s
  | .vxClr spire env => Sys2Proof.Machine.execVxClr spire env s
  | .vxScl spire env => Sys2Proof.Machine.execVxScl spire env s
  | .vxTapm spire env => Sys2Proof.Machine.execVxTapm spire env s
  | .vxNrw spire env => Sys2Proof.Machine.execVxNrw spire env s
  | .vxLsum spire env => Sys2Proof.Machine.execVxLsum spire env s
  | .vxLmax spire env => Sys2Proof.Machine.execVxLmax spire env s
  | .vxPkst spire env => Sys2Proof.Machine.execVxPkst spire env s
  | .vxPkld spire env => Sys2Proof.Machine.execVxPkld spire env s
  | .vxPkfl spire env => Sys2Proof.Machine.execVxPkfl spire env s
  | .vxIllegalEncoding spire env => Sys2Proof.Machine.execVxIllegalEncoding spire env s
  | .clockMuxSwitch tree sel => Sys2Proof.Machine.execClockMuxSwitch tree sel s
  | .dividerChange tree ratio => Sys2Proof.Machine.execDividerChange tree ratio s
  | .pllLossOfLock pll => Sys2Proof.Machine.execPllLossOfLock pll s
  | .pllRelock pll => Sys2Proof.Machine.execPllRelock pll s
  | .delayStep line inc => Sys2Proof.Machine.execDelayStep line inc s
  | .delayLoad line target => Sys2Proof.Machine.execDelayLoad line target s
  | .apRequest ap request => Sys2Proof.Machine.execApRequest ap request s
  | .fabricUserWindowAccess ap offset access => Sys2Proof.Machine.execFabricUserWindowAccess ap offset access s
  | .fecCodewordReceive lane corrected words => Sys2Proof.Machine.execFecCodewordReceive lane corrected words s
  | .lanePrbsClr lane => Sys2Proof.Machine.execLanePrbsClr lane s
  | .laneInjOnce lane => Sys2Proof.Machine.execLaneInjOnce lane s
  | .standbyEntryComplete => Sys2Proof.Machine.execStandbyEntryComplete s
  | .pwrgdHigh => Sys2Proof.Machine.execPwrgdHigh s
  | .pcieLinkUp status => Sys2Proof.Machine.execPcieLinkUp status s
  | .perstNRelease => Sys2Proof.Machine.execPerstNRelease s
  | .unsupportedRequest func tag => Sys2Proof.Machine.execUnsupportedRequest func tag s
  | .malformedTlp func kind => Sys2Proof.Machine.execMalformedTlp func kind s
  | .apTargetResponse ap data pois => Sys2Proof.Machine.execApTargetResponse ap data pois s
  | .blockRamAccess block a b near eccA eccB => Sys2Proof.Machine.execBlockRamAccess block a b near eccA eccB s
  | .prbsCheckerSynchronisation lane event => Sys2Proof.Machine.execPrbsCheckerSynchronisation lane event s
  | .fabricLaneCdrLock lane locked => Sys2Proof.Machine.execFabricLaneCdrLock lane locked s
  | .cardRemoval => Sys2Proof.Machine.execCardRemoval s
  | .vbatLoss => Sys2Proof.Machine.execVbatLoss s
  | .hbmTemperatureReading stack temp => Sys2Proof.Machine.execHbmTemperatureReading stack temp s

end Sys2Proof.Machine
end

