-- ==== Sys2Proof/Safety.lean ====
section
/-!
DEFINITION. The terms that claims about the machine use: a command completes with an effect, only named registers change, a
memory keeps its canonical form, fuses are only ever blown.
-/
namespace Sys2Proof.Machine

open Sys2Proof

/-- Command `c` in state `s` answers a next state: the queue is as it was, and the device has `P`. -/
def Completes (c : Instr) (s : State) (P : Device → Prop) : Prop :=
  ∃ d : Device, exec c s = .next { dev := d, pending := s.pending } ∧ P d

/-- Of the whole device, only the registers at the offsets `as` may differ. -/
def OnlyRegs (as : List Nat) (d d' : Device) : Prop :=
  d' = { d with regs := d'.regs } ∧ ∀ a, a ∉ as → d'.reg a = d.reg a

/-- Every register but those at the offsets `as` is as it was. -/
def SameRegs (as : List Nat) (d d' : Device) : Prop := ∀ a, a ∉ as → d'.reg a = d.reg a

/-- Every memory of the device - HBM, the tile stores, the stream cache and configuration memory - is as it was. -/
def SameMemory (d d' : Device) : Prop :=
  d'.hbm.mem = d.hbm.mem ∧ d'.tile = d.tile ∧ d'.streams.cache = d.streams.cache ∧ d'.cfgMem = d.cfgMem

/-- The mailbox shows a command completed with result `r` (R449): DONE, not BUSY, one command more; only the mailbox's status,
count and data window may differ among the registers. -/
def MailReply (r : Nat) (d d' : Device) : Prop :=
  d'.regF Reg.kepMbStatus 8 8 = r ∧ d'.regBit Reg.kepMbStatus 31 = false ∧ d'.regBit Reg.kepMbStatus 30 = true ∧
    d'.reg Reg.kepCmdCnt = d.reg Reg.kepCmdCnt + 1 ∧
    SameRegs (Reg.kepMbStatus :: Reg.kepCmdCnt :: (List.range 512).map Reg.kepMbData) d d' ∧ SameMemory d d' ∧ d'.out = d.out

/-- The canonical form of a unit memory: of its bytes, and of what lies beside them. -/
def Store.wf (m : Store) : Bool := memWf m.bytes && mapWf (fun _ => UnitInfo.initial) m.info

/-- The canonical form of the registers: offsets rising, none at its reset value. -/
def Device.regsWf (d : Device) : Bool := mapWf regReset d.regs

/-- The canonical form of every memory of the device: HBM, the tile stores, the stream cache and configuration memory. -/
def Device.memoriesWf (d : Device) : Bool :=
  d.hbm.mem.wf && d.tile.wf && d.streams.cache.wf && memWf d.cfgMem

/-- The device's own invariant: the canonical forms of the registers and of every memory, and every transaction numbered below
the next number. -/
def Device.wf (d : Device) : Bool :=
  d.regsWf && d.memoriesWf && d.net.txns.all (fun t => decide (t.id < d.net.nextId))

/-- Of one copy of the mirrored fields: what `f` shows blown is blown in `g`, and the fields written at manufacture are the
same (R433). -/
def CopyKept (f g : FuseCopy) : Prop :=
  g.rootHash = f.rootHash ∧ g.serial = f.serial ∧ (f.keySet = true → g.keySet = true) ∧
    (∀ i, bit f.policy i = true → bit g.policy i = true) ∧ (∀ i, bit f.revoke i = true → bit g.revoke i = true) ∧
    ∀ t i, bit (f.svn.getD t 0) i = true → bit (g.svn.getD t 0) i = true

/-- A fuse blown in a copy of `f` is blown in that copy of `g`; the fields written at manufacture are the same; a bitstream key,
once programmed, stays (R433). -/
def FusesKept (f g : Fuses) : Prop :=
  CopyKept f.copyA g.copyA ∧ CopyKept f.copyB g.copyB ∧ g.uds = f.uds ∧ g.udsValid = f.udsValid ∧
    (f.keySet = true → g.key = f.key ∧ g.keyValid = f.keyValid)

/-! ### The vector engines -/

/-- The word at program index `p.pc` of Spire `n` is next to issue, in dclk `x`, and nothing else is about to happen in the
Dome: no DOP, present or to come, no program start or copy window to come, no unit on the Dome network; time and the Dome have
come to `x`. -/
def VxReady (d : Device) (n x : Nat) (p : Prog) : Prop :=
  d.dome.dops = [] ∧ d.dome.plan = [] ∧ d.dome.starts = [] ∧ d.dome.copies = [] ∧ d.dome.units = [] ∧ (d.vx n).prog = some p ∧ p.issue = x ∧ x ≤ d.dome.clock ∧ x / 4 ≤ d.now ∧
    p.pc ≤ 2047 ∧ p.faulted = false ∧ (d.vx n).held = none

/-- The dclk from which the timing of a vector-format word that issues in dclk `x` counts (R137). -/
def actsAt (x : Nat) (u : VxWord) : Nat := if wide u then x + 1 else x

/-- Besides VxReady: no effect is pending in the Spire, the register lists hold 32 lanes, the port uses no bank, and the word
raises no fault, neither in its issue dclk nor in the one in which it acts. -/
def VxQuiet (d : Device) (n x : Nat) (p : Prog) (env : VxEnv) : Prop :=
  VxReady d n x p ∧ (d.vx n).pending = [] ∧ env.port = [] ∧ d.wordFaults n x p = [] ∧
    d.vectorFaults n (actsAt x (decodeVx (d.vxWord n p.pc))) p (decodeVx (d.vxWord n p.pc)) = [] ∧
    ∀ i, ((d.vx n).dreg i).lanes.length = 32 ∧ ((d.vx n).areg i).lanes.length = 32

/-- The D registers, accumulators and address pointers of Spire `n`, the other Spires, HBM, the queues, Keep, the network and
every register but the flags and the ECC counters of the Spire are as they were. -/
def VxKeeps (d d' : Device) (n : Nat) : Prop :=
  (d'.vx n).d = (d.vx n).d ∧ (d'.vx n).acc = (d.vx n).acc ∧ (d'.vx n).ap = (d.vx n).ap ∧
    (∀ m, m ≠ n → d'.spire m = d.spire m) ∧ d'.hbm = d.hbm ∧ d'.queues = d.queues ∧ d'.keep = d.keep ∧ d'.net = d.net ∧
    SameRegs [Reg.sprFlags n, Reg.sprTsCorrCnt n, Reg.sprTsUncorrCnt n, Reg.sprTsChkCnt n, Reg.sprCsCorrCnt n,
      Reg.sprCsUncorrCnt n, Reg.errCorrCnt, Reg.errUncorrCnt] d d'

/-- The word has issued: the program goes on after `len` dclk, at the next index or back at a loop's first one; a word of two
dclk is held until its second (R137); registers and memory are as they were. -/
def VxIssued (d d' : Device) (n x : Nat) (p : Prog) (env : VxEnv) (len : Nat) : Prop :=
  (d'.vx n).pc = p.pc ∧ (d'.vx n).loops = (nextIndex p.pc (d.vx n).cache (d.vx n).loops).2.2 ∧
    (d'.vx n).prog = some { p with
      pc := (nextIndex p.pc (d.vx n).cache (d.vx n).loops).1,
      issue := x + len + (nextIndex p.pc (d.vx n).cache (d.vx n).loops).2.1 } ∧
    (d'.vx n).held = (if len = 2 then some { due := x + 1, prog := p, env := env } else none) ∧
    VxKeeps d d' n ∧ SameMemory d d'

/-- The device once vector-format word `u`, issued in dclk `x`, has acted: at once, or when the Spire has gone through the next
dclk too, for a word of two (R137). -/
def Device.acted (d : Device) (n x : Nat) (u : VxWord) : Device :=
  if wide u then d.spireClock n (x + 1) VxEnv.clean else d

/-- An effect `e` of the word waits for dclk `due`. -/
def VxPends (d : Device) (n due : Nat) (e : VxEffect) : Prop := ∃ q ∈ (d.vx n).pending, q.due = due ∧ q.eff = e

/-- `r` holds what the loads and the C access of the word read (R113, R116, R133). -/
def VxReads (d : Device) (n bs : Nat) (u : VxWord) (env : VxEnv) (p : Prog) (r : Reads) : Prop :=
  (∀ a ∈ accesses u, a.store = false →
    (if a.bus = 0 then r.x else r.y) = (d.doLoad n bs u env p a (nth (d.vx n).ap a.ap 0)).1) ∧
    (u.ck ≠ 0 → r.c = (d.doCoef n u env (nth (d.vx n).ap u.cap.toNat 0)).1)

/-- The vector-format commands with their opcodes (R140). -/
def vxVector : List (Nat × (Fin 4096 → VxEnv → Instr)) :=
  [(0x00, .vxNop), (0x05, .vxDrn), (0x10, .vxMov), (0x11, .vxAdd), (0x12, .vxSub), (0x13, .vxMax), (0x14, .vxMin),
   (0x15, .vxAbs), (0x16, .vxNeg), (0x17, .vxCsel), (0x18, .vxNrm), (0x20, .vxMpy), (0x21, .vxMac), (0x22, .vxMsu),
   (0x23, .vxAdda), (0x24, .vxSuba), (0x25, .vxMaxa), (0x26, .vxClr), (0x27, .vxScl), (0x28, .vxTapm), (0x30, .vxNrw),
   (0x38, .vxLsum), (0x39, .vxLmax), (0x40, .vxPkst), (0x41, .vxPkld), (0x42, .vxPkfl)]

/-- What a lane of an operation with a D destination is before scaling and narrowing: of the sources `a` and `b` and the old
value of the destination (R141 - R143). -/
def laneResult (o : Nat) (a b old : Val) : Val :=
  if o = 0x11 then (a.add b).1
  else if o = 0x12 then (a.add b.neg).1
  else if o = 0x13 then a.pick false b
  else if o = 0x14 then a.pick true b
  else if o = 0x15 then a.abs
  else if o = 0x16 then a.neg
  else if o = 0x17 then (if b.lt (.fin 0 0) then a else old)
  else if o = 0x18 then (nrmLane a).1
  else a

/-! ### The block as a whole -/

/-- Commands that take place without power or in module reset: the supply, MRST_N, the reference clock and its PLL, VBAT,
telemetry, and the TAP, which belongs to the Belfry (R457 - R459, R482). -/
def alwaysServed : Instr → Bool
  | .powerUp | .standbyRailGood .. | .referencePllLock | .pwrgdHigh | .inputTurnOff .. | .vbatLoss | .mrstNAssert
  | .mrstNRelease | .refclkLoss | .refclkReturn | .telemetrySample .. | .tapReset | .tapExtest .. | .tapIdcode
  | .tapSamplePreload .. | .tapExtestPulse .. | .tapExtestTrain .. | .tapClamp | .tapHighz | .tapBypass | .cfgAccess
  | .cfgAccessNop .. | .cfgAccessPort .. | .cfgAccessWrite .. | .cfgAccessRead .. | .bistRun | .bistStart .. => true
  | _ => false

/-- `n` steps, each taken when the one before it answered a next state. -/
def runSteps : Nat → State → Host.Outcome State Fault Refusal
  | 0, s => .next s
  | n + 1, s => match step s with
    | .next t => runSteps n t
    | r => r

/-- What one command does to the device, whatever waits behind it. -/
def deviceAfter (d : Device) (c : Instr) : Device :=
  match exec c { dev := d, pending := [] } with
  | .next t => t.dev
  | _ => d

end Sys2Proof.Machine
end

