-- ==== Sys2Proof/Certificates/Slice0/Obligations.lean ====
section
/-!
DEFINITION. The statements for the provers: what the commands of every family do, and what every step keeps. `Completes`
(Sys2Proof/Safety.lean) says that a command answers a next state, and what it holds.
-/
open Sys2Proof Sys2Proof.Machine

/-- R16, R369, R371: enabling, clearing and disabling a ring; FETCH_ERR is cleared unless a read failed in the same clock. R368:
a doorbell of the physical function to an enabled ring; one of a disabled ring is discarded and counted. (Readings of the
model that this rests on, where it meets them: notes/assumptions/25, 30.) Commands: DOORBELL, FETCH_ERR_CLEAR, RING_DISABLE,
RING_ENABLE, RING_ENABLE_EFFECTIVE. -/
def Obligations.RingsEnableClearAndTakeDoorbells : Prop :=
  (∀ (s : State) (r : Fin 256) (w : Word), s.dev.alive = true →
       (ringEn s.dev r = false → Completes (.ringEnable r w) s (fun d =>
         d.regBit (Reg.hifRingCtl r) 63 = true ∧ d.regBit (Reg.hifRingStatus r) 61 = true ∧ d.ringLive r = false ∧
         OnlyRegs [Reg.hifRingCtl r, Reg.hifRingStatus r] s.dev d)) ∧
       (s.dev.regBit (Reg.hifRingStatus r) 61 = true → s.dev.inFlight r = 0 →
         s.dev.lantern.tasks.any (fun t => !t.remote && t.ring == r.val) = false →
         Completes (.ringEnableEffective r) s (fun d =>
           ringHead d r = 0 ∧ ringTail d r = 0 ∧ d.reg (Reg.hifRingSeq r) = 0 ∧ d.reg (Reg.hifRingStatus r) = 0 ∧
           OnlyRegs [Reg.hifRingPtr r, Reg.hifRingSeq r, Reg.hifRingStatus r] s.dev d)) ∧
       Completes (.ringDisable r) s (fun d =>
         ringEn d r = false ∧ d.ringLive r = false ∧ OnlyRegs [Reg.hifRingCtl r, Reg.hifRingStatus r] s.dev d) ∧
       Completes (.fetchErrClear r) s (fun d =>
         d.regBit (Reg.hifRingStatus r) 63 =
           (s.dev.regBit (Reg.hifRingStatus r) 63 && bit (s.dev.raised (Reg.hifRingStatus r)) 63) ∧
         OnlyRegs [Reg.hifRingStatus r] s.dev d)) ∧
  (∀ (s : State) (r : Fin 256) (b0 b1 b2 b3 : Byte), s.dev.alive = true →
       (s.dev.ringLive r = true →
         Completes (.doorbell 0 (4096 * r) [some b0, some b1, some b2, some b3]) s (fun d =>
           ringTail d r = b0.toNat + 256 * (b1.toNat % 16) ∧ ringHead d r = ringHead s.dev r ∧
           d.lantern = s.dev.lantern ∧ SameMemory s.dev d ∧ SameRegs [Reg.hifRingPtr r] s.dev d) ∧
         Completes (.doorbell 0 (4096 * r) [some b0, none, none, none]) s (fun d =>
           ringTail d r = b0.toNat + 256 * (ringTail s.dev r / 256) ∧ SameRegs [Reg.hifRingPtr r] s.dev d)) ∧
       (s.dev.ringLive r = false →
         Completes (.doorbell 0 (4096 * r) [some b0, some b1, some b2, some b3]) s (fun d =>
           d.reg Reg.hifDbDropCnt = s.dev.reg Reg.hifDbDropCnt + 1 ∧ SameRegs [Reg.hifDbDropCnt] s.dev d)))

/-- R370, R371: a ring read of up to 8 pending entries in one request; a read that fails sets FETCH_ERR and leaves HEAD. R370,
R372, R374: a record that a ring read brings is accepted - a QUEUED task behind the context's head - or rejected and counted;
HEAD moves past it either way. (Readings of the model that this rests on, where it meets them: notes/assumptions/25, 30.)
Commands: RING_READ, RING_READ_COMPLETION. -/
def Obligations.RingReadsFetchAndDeliverRecords : Prop :=
  (∀ (s : State) (r : Fin 256), s.dev.alive = true →
       (s.dev.hif.fetches.length < 16 → s.dev.stored < 16384 → s.dev.hif.nextRing = r → s.dev.ringLive r = true →
         s.dev.regBit (Reg.hifRingStatus r) 63 = false → 0 < s.dev.ringPending r →
         s.dev.canIssue (ringFunc s.dev r) = true → s.dev.usesAts (ringFunc s.dev r) = false →
         Completes .ringRead s (fun d =>
           ∃ first n, 1 ≤ n ∧ n ≤ 8 ∧ n ≤ s.dev.ringPending r ∧ first + n ≤ 4096 ∧
             d.hif.fetches = s.dev.hif.fetches ++ [{ ring := r, first := first, count := n }] ∧
             d.out = s.dev.out ++ [.hostRead (ringFunc s.dev r) (s.dev.pasid r)
               (s.dev.regF (Reg.hifRingBase r) 12 50 * 4096 + 64 * first) (64 * n)] ∧
             d.hif.nextRing = (r.val + 1) % 256 ∧ d.regs = s.dev.regs ∧ SameMemory s.dev d)) ∧
       (∀ f ∈ s.dev.hif.fetches, f.ring = r.val → ∀ e : ReadResult, (∀ bs, e ≠ .ok bs) →
         Completes (.ringReadCompletion r e) s (fun d =>
           d.regBit (Reg.hifRingStatus r) 63 = true ∧ ringHead d r = ringHead s.dev r ∧
           d.lantern.tasks = s.dev.lantern.tasks ∧ ∀ g ∈ d.hif.fetches, g.ring ≠ r.val))) ∧
  (∀ (s : State) (r : Fin 256) (f : RingFetch) (bs : List Byte) (q : List Word), s.dev.alive = true →
       s.dev.hif.fetches = [f] → f.ring = r.val → f.count = 1 → q = (List.range 8).map (wordAt bs) →
       (∀ h : Task, s.dev.recordCause r q = none → fld (wd q 0) 0 16 ≤ 49151 → bit (wd q 0) 37 = false →
         (s.dev.ctxTasks (fld (wd q 0) 0 16)).head? = some h → h.state ≠ .queued →
         Completes (.ringReadCompletion r (.ok bs)) s (fun d =>
           (∃ t : Task, d.lantern.tasks = s.dev.lantern.tasks ++ [t] ∧ t.ring = r ∧ t.words = q ∧ t.state = .queued ∧
             t.remote = false ∧ t.accepted = s.dev.now ∧ t.id = s.dev.lantern.nextId) ∧
           ringHead d r = (ringHead s.dev r + 1) % 4096 ∧ d.hif.fetches = [] ∧
           fld (d.ctx (fld (wd q 0) 0 16) 0) 20 4 = 5 ∧
           d.reg Reg.hifRrAcceptCnt = s.dev.reg Reg.hifRrAcceptCnt + 1 ∧ d.lantern.run = s.dev.lantern.run ∧
           d.queues = s.dev.queues ∧ SameMemory s.dev d)) ∧
       (∀ c : Nat, s.dev.recordCause r q = some c →
         Completes (.ringReadCompletion r (.ok bs)) s (fun d =>
           d.lantern = s.dev.lantern ∧ ringHead d r = (ringHead s.dev r + 1) % 4096 ∧ d.hif.fetches = [] ∧
           d.reg Reg.hifRrRejectCnt = s.dev.reg Reg.hifRrRejectCnt + 1 ∧
           (s.dev.regBit (Reg.hifRingStatus r) 62 = false →
             d.regBit (Reg.hifRingStatus r) 62 = true ∧ d.regF (Reg.hifRingStatus r) 32 12 = ringHead s.dev r ∧
             d.regF (Reg.hifRingStatus r) 0 4 = c) ∧
           SameRegs [Reg.hifRingPtr r, Reg.hifRrRejectCnt, Reg.hifRingStatus r] s.dev d ∧ d.queues = s.dev.queues ∧
           SameMemory s.dev d)))

/-- R298, R375: an input read ends its input: its bytes go into the packet in assembly; one that fails delivers poison and is
counted. (Readings of the model that this rests on, where it meets them: notes/assumptions/147.) Commands:
INPUT_READ_COMPLETION. -/
def Obligations.InputReadCompletes : Prop :=
  ∀ (s : State) (x : Input), s.dev.alive = true → s.dev.hif.inputs = [x] → x.started = true →
    (∀ e : ReadResult, Completes (.inputReadCompletion x.id e) s (fun d =>
      d.hif.inputs = [] ∧ (∀ q, q ≠ x.queue → d.queue q = s.dev.queue q) ∧
      d.lantern = { s.dev.lantern with evals := d.lantern.evals } ∧ SameMemory s.dev d ∧
      d.reg Reg.hifInFailCnt = s.dev.reg Reg.hifInFailCnt + (match e with | .ok _ => 0 | _ => 1))) ∧
    ∀ (bs : List Byte) (a : Assembly), bs.length = 64 → x.len = 64 → (s.dev.queue x.queue).asm = some a → a.opened = [] →
      a.length = a.got + 64 → (s.dev.queue x.queue).freeing = false → (s.dev.queue x.queue).atLimit = false → s.dev.spills x.queue = false →
      0 < s.dev.poolFree →
      Completes (.inputReadCompletion x.id (.ok bs)) s (fun d =>
        (d.queue x.queue).asm = none ∧ d.reg Reg.qmgCellsInCnt = s.dev.reg Reg.qmgCellsInCnt + 1 ∧
        ∃ c : QCell, (d.queue x.queue).cells = (s.dev.queue x.queue).cells ++ [c] ∧ c.data = bytesLine bs ∧
          c.vbytes = 64 ∧ c.eop = true ∧ c.sop = !a.linked ∧ c.pois = false ∧ c.check = lineCheck (bytesLine bs))

/-- R365, R240: BAR2 traffic is dynamic; without the prefetcher a read travels as one READ, and a whole line as a WRITE.
(Readings of the model that this rests on, where it meets them: notes/assumptions/34, 163, 164.) Commands: BAR2_READ,
BAR2_WRITE. -/
def Obligations.Bar2TravelsAsDynamicTraffic : Prop :=
  ∀ (s : State) (f : Fin 64) (off tag : Nat), s.dev.alive = true →
    (∀ (len : Nat) (ecc : List (Nat × Ecc)), s.dev.regBit Reg.stePfCtl 31 = false →
      Completes (.bar2Read f off len tag ecc) s (fun d =>
        let a := s.dev.bar2Addr f off
        (∃ t : Txn, d.net.txns = s.dev.net.txns ++ [t] ∧ t.init = 0x80 + f ∧ t.sched = false ∧ t.cmd = .read ∧
          t.target = .mem (a / 64 * 64) ∧ t.len = (a + len + 63) / 64 - a / 64 ∧ t.purpose = .bar2 f tag (a % 64) len) ∧
        d.reg Reg.stePfMissCnt = s.dev.reg Reg.stePfMissCnt + 1 ∧ SameMemory s.dev d)) ∧
    ∀ bs : List Byte, bs.length = 64 → s.dev.bar2Addr f off % 64 = 0 → ∀ ep : Bool,
      Completes (.bar2Write f off (bs.map some) ep) s (fun d =>
        (∃ t : Txn, d.net.txns = s.dev.net.txns ++ [t] ∧ t.init = 0x80 + f ∧ t.sched = false ∧ t.cmd = .write ∧
          t.target = .mem (s.dev.bar2Addr f off) ∧
          t.data = [if ep then poisonUnit else freshUnit (bytesLine bs)]) ∧
        d.reg Reg.hifPoisRxCnt = s.dev.reg Reg.hifPoisRxCnt + (if ep then 1 else 0) ∧ SameMemory s.dev d)

/-- R249, R382, R472: a host read of the network returns with units whose check is made here; a completion timeout is logged as
non-fatal in the function's AER and refuses the read of an initiator other than a thread. (Readings of the model that this
rests on, where it meets them: notes/assumptions/167.) Commands: HOST_READ_COMPLETION, COMPLETION_TIMEOUT. -/
def Obligations.HostReadsEnd : Prop :=
  ∀ (s : State) (t : Txn) (f a : Nat), s.dev.alive = true → s.dev.txn t.id = some t → t.target = .host f a →
    t.phase = .atTarget → t.cmd = .read → t.got = [] → 0 < t.len →
    (∀ bs : List Byte, Completes (.hostReadCompletion t.id (.ok bs)) s (fun d =>
      ∃ u : Txn, d.txn t.id = some u ∧ u.phase = .responded ∧ u.status = t.status ∧
        u.units = (List.range t.len).map (fun i => freshUnit (bytesLine (bs.drop (64 * i)))) ∧
        d.lantern = s.dev.lantern ∧ d.regs = s.dev.regs ∧ SameMemory s.dev d)) ∧
    ((∀ tk n st c, t.purpose ≠ .thread tk n st c) →
      Completes (.completionTimeout t.id) s (fun d =>
        bit (d.func f).aer 14 = true ∧
        (∃ u : Txn, d.txn t.id = some u ∧ u.phase = .responded ∧ u.status = 1 ∧
          u.units = List.replicate t.len poisonUnit) ∧
        d.reg Reg.errUncorrCnt = s.dev.reg Reg.errUncorrCnt + BitVec.ofNat 64 t.len ∧ SameMemory s.dev d))

/-- R381, R508: resets of the endpoint, and its return. No reset of the endpoint touches a memory. R361, R362, R508: link power
and configuration requests. (Readings of the model that this rests on, where it meets them: notes/assumptions/8, 26, 27, 28.)
Commands: FUNCTION_LEVEL_RESET, PERST_N, HOT_RESET, PCIE_LINK_DOWN, L0P_REQUEST, ASPM_L1_ENTRY, CONFIGURATION_REQUEST,
PCIE_LINK_UP, PERST_N_RELEASE. -/
def Obligations.EndpointResetsPowerAndConfiguration : Prop :=
  (∀ (s : State) (f : Fin 64), s.dev.alive = true →
       Completes (.functionLevelReset f) s (fun d =>
         d.func f = Func.initial ∧ (∀ r < 256, ringFunc s.dev r = f.val → f.val ≠ 0 → d.ringLive r = false) ∧ SameMemory s.dev d) ∧
       Completes .hotReset s (fun d =>
         d.reg Reg.hifStatus = 0 ∧ d.hif.hold = true ∧ d.reg Reg.hifCtl = regReset Reg.hifCtl ∧ SameMemory s.dev d) ∧
       Completes .pcieLinkDown s (fun d =>
         d.reg Reg.hifStatus = 0 ∧ d.hif.hold = true ∧ (∀ v, d.canIssue v = false) ∧ SameMemory s.dev d) ∧
       (s.dev.pinsTaken = false →
         Completes .perstN s (fun d =>
           d.reg Reg.hifStatus = 0 ∧ d.hif.hold = true ∧ d.hif.readyFrom = none ∧ d.belfry.perstN = false ∧ SameMemory s.dev d) ∧
         Completes .perstNRelease s (fun d =>
           d.belfry.perstN = true ∧ d.hif.readyFrom = some s.dev.now ∧ d.regs = s.dev.regs ∧ SameMemory s.dev d) ∧
         ∀ st : BitVec 32, s.dev.belfry.perstN = true →
           Completes (.pcieLinkUp st) s (fun d =>
             d.regBit Reg.hifStatus 31 = true ∧ d.regF Reg.hifStatus 16 15 = fld st 16 15 ∧ d.hif.hold = false ∧
             SameRegs [Reg.hifStatus] s.dev d ∧ SameMemory s.dev d))) ∧
  (∀ (s : State), s.dev.alive = true →
       (∀ w : Fin 32, s.dev.regBit Reg.hifStatus 31 = true → s.dev.regF Reg.hifStatus 27 3 = 6 →
         w.val ∈ [1, 2, 4, 8, 16] → w.val ≤ s.dev.regF Reg.hifStatus 22 5 →
         Completes (.l0pRequest w) s (fun d =>
           d.regF Reg.hifStatus 17 5 = w ∧ d.regF Reg.hifStatus 22 5 = s.dev.regF Reg.hifStatus 22 5 ∧
           OnlyRegs [Reg.hifStatus] s.dev d)) ∧
       (s.dev.lantern.run = none → s.dev.regBit Reg.hifStatus 31 = true → s.dev.hif.l1 = false →
         Completes .aspmL1Entry s (fun d => d.hif.l1 = true ∧ d.hif.funcs = s.dev.hif.funcs)) ∧
       (∀ r ∈ s.dev.lantern.run, Completes .aspmL1Entry s (fun d => d = s.dev)) ∧
       ∀ (f : Fin 64) (dw tag g : Nat), s.dev.hif.readyFrom = some g →
         (g + 100000000 ≤ s.dev.now →
           Completes (.configurationRequest f dw tag none) s (fun d =>
             ∃ v : BitVec 32, d = { s.dev with out := s.dev.out ++ [.completion tag 0 (natBytes 4 v.toNat) false] } ∧
               (dw = 0 → fld v 16 16 = if f.val = 0 then 0x9560 else 0x9561) ∧ (dw = 2 → fld v 8 24 = 0x120000))) ∧
         (s.dev.now < g + 100000000 → ∀ wr : Option (BitVec 32),
           Completes (.configurationRequest f dw tag wr) s (fun d =>
             d = { s.dev with out := s.dev.out ++ [.completion tag 2 [] false] })))

/-- R382: an Unsupported Request, a malformed TLP, an ECRC failure and an error of the link layer are logged in AER; a non-posted
request is answered. R380: a translation is kept for its page; an Invalidation Request drops it, and is completed once no
read of the function is outstanding. (Readings of the model that this rests on, where it meets them: notes/assumptions/8, 26,
27, 28.) Commands: ATS_TRANSLATION_COMPLETION, ATS_INVALIDATION_REQUEST, UNSUPPORTED_REQUEST, MALFORMED_TLP. -/
def Obligations.EndpointErrorsAndTranslations : Prop :=
  (∀ (s : State) (f : Fin 64), s.dev.alive = true →
       (∀ tag : Nat, Completes (.unsupportedRequest f (some tag)) s (fun d =>
         bit (d.func f).aer 20 = true ∧ (d.func f).config = (s.dev.func f).config ∧
         d.out = s.dev.out ++ [.aer f 1, .completion tag 1 [] false] ∧ d.regs = s.dev.regs ∧ SameMemory s.dev d)) ∧
       Completes (.malformedTlp (some f) .malformed) s (fun d =>
         bit (d.func f).aer 18 = true ∧ d.out = s.dev.out ++ [.aer f 2] ∧ d.regs = s.dev.regs ∧ SameMemory s.dev d) ∧
       Completes (.malformedTlp (some f) .ecrc) s (fun d =>
         bit (d.func f).aer 19 = true ∧ d.out = s.dev.out ++ [.aer f 1] ∧ d.regs = s.dev.regs ∧ SameMemory s.dev d) ∧
       Completes (.malformedTlp (some f) .badTlp) s (fun d =>
         bit (d.func f).aerCor 6 = true ∧ (d.func f).aer = (s.dev.func f).aer ∧ d.out = s.dev.out ++ [.aer f 0] ∧
         d.regs = s.dev.regs ∧ SameMemory s.dev d)) ∧
  (∀ (s : State) (f : Fin 64) (page : Nat), s.dev.alive = true → s.dev.hif.held = [] →
       (∀ (target : Nat) (rd wr : Bool),
         Completes (.atsTranslationCompletion f page target rd wr) s (fun d =>
           d.atsFind f (4096 * page) = some { func := f, page := page, target := target, read := rd, write := wr } ∧
           d.out = s.dev.out ∧ d.regs = s.dev.regs ∧ SameMemory s.dev d)) ∧
       (s.dev.hif.invals = [] → s.dev.reading f = false →
         Completes (.atsInvalidationRequest f page) s (fun d =>
           d.atsFind f (4096 * page) = none ∧ d.hif.invals = [] ∧
           d.out = s.dev.out ++ [.atsInvalidated f (4096 * page)] ∧ d.regs = s.dev.regs ∧ SameMemory s.dev d)))

/-- R384: through its own page a virtual function does to its own contexts and queues what the physical function's registers do
(R190, R209, R297, R306), and nothing to those of others: an abort ends the head task of its context, a signal is on its way,
a start marker opens a packet, a flush empties the queue behind its read position. (Readings of the model that this rests on,
where it meets them: notes/assumptions/29, 30.) Commands: HIF_VF_ABORT, HIF_VF_SIG, HIF_VF_SOP, HIF_VF_FLUSH, LNT_ABORT,
QMG_FLUSH. -/
def Obligations.VirtualFunctionActsOnItsOwn : Prop :=
  ∀ (s : State) (v : Fin 64) (w : BitVec 32) (x : Word), s.dev.alive = true →
    (fld w 0 16 ≤ 49151 → bit w 31 = true →
      (s.dev.ctxFunc (fld w 0 16) = v →
        (∃ t, exec (.hifVfAbort v w) s = .next t ∧ exec (.lntAbort w) s = .next t) ∧
        ∀ t : Task, s.dev.lantern.run = none → s.dev.lantern.cluPend = none → s.dev.ctxTasks (fld w 0 16) = [t] →
          t.state = .waiting → t.remote = false → t.consumed = [] →
          Completes (.hifVfAbort v w) s (fun d =>
            d.ctxTasks (fld w 0 16) = [{ t with state := .ended }] ∧
            (∃ e : EndRecord, { at_ := s.dev.now + 1, act := DueAct.record t.id e } ∈ d.lantern.dues ∧ e.status = 0xA ∧
              e.start = s.dev.now + 1 ∧ e.retries = 0) ∧
            d.queues = s.dev.queues ∧ d.out = s.dev.out ∧ SameMemory s.dev d)) ∧
      (s.dev.ctxFunc (fld w 0 16) ≠ v →
        Completes (.hifVfAbort v w) s (fun d =>
          d.reg Reg.hifVfDenyCnt = s.dev.reg Reg.hifVfDenyCnt + 1 ∧ OnlyRegs [Reg.hifVfDenyCnt] s.dev d))) ∧
    (s.dev.queueFunc (fld w 0 16) = v →
      (∃ t, exec (.hifVfFlush v w) s = .next t ∧ exec (.qmgFlush w) s = .next t) ∧
      (bit w 31 = true → s.dev.cluster.copies = [] →
        Completes (.hifVfFlush v w) s (fun d =>
          (d.queue (fld w 0 16)).cells = (s.dev.queue (fld w 0 16)).cells.take
            ((s.dev.queue (fld w 0 16)).rd - (s.dev.queue (fld w 0 16)).head) ∧
          (d.queue (fld w 0 16)).asm = none ∧ (∀ q, q ≠ fld w 0 16 → d.queue q = s.dev.queue q) ∧ SameMemory s.dev d))) ∧
    (s.dev.queueFunc (fld w 0 16) ≠ v →
      Completes (.hifVfFlush v w) s (fun d =>
        d.reg Reg.hifVfDenyCnt = s.dev.reg Reg.hifVfDenyCnt + 1 ∧ OnlyRegs [Reg.hifVfDenyCnt] s.dev d)) ∧
    (s.dev.queueFunc (fld x 0 16) = v → s.dev.power ≤ 1 → bit x 63 = true → fld x 16 21 ≠ 0 → fld x 16 21 ≤ 1048576 →
      Completes (.hifVfSop v x) s (fun d =>
        (∃ a : Assembly, (d.queue (fld x 0 16)).asm = some a ∧ a.length = fld x 16 21 ∧ a.init = 0x80 + v ∧ a.got = 0) ∧
        (∀ q, q ≠ fld x 0 16 → d.queue q = s.dev.queue q) ∧ SameMemory s.dev d)) ∧
    (fld x 40 16 ≤ 49151 → s.dev.ctxFunc (fld x 40 16) = v → fld x 8 32 ≠ 0 → 16 ≤ fld x 56 8 →
      Completes (.hifVfSig v x) s (fun d =>
        (∃ g : Sig, d.lantern.sigs = s.dev.lantern.sigs ++ [g] ∧ g.ctx = fld x 40 16 ∧ g.vid = fld x 56 8 ∧
          g.inc = fld x 8 32 ∧ g.applyAt = s.dev.now + 2) ∧
        d.lantern.tasks = s.dev.lantern.tasks ∧ d.regs = s.dev.regs ∧ SameMemory s.dev d))

/-- R203, R205, R206, R384: writes of context records. All bits of a private-tally word take the written value, W0 only its
fields; while STATUS reads 0x5 the write is discarded and counted; a virtual function reaches only its own records. R208,
R213, R215, R221: a host write of a tally value or of a translation table, after which the tasks that wait on it are
evaluated in the next gcyc; the private banks and entries 0-15 are out of reach. Commands: CONTEXT_RECORD_WRITE, TALLY_WRITE,
TRANSLATION_ENTRY_WRITE. -/
def Obligations.ContextTallyAndTranslationWrites : Prop :=
  (∀ (s : State) (f : Fin 64) (n : Fin 49152) (w : Fin 16) (v : Word), s.dev.alive = true →
       (fld (s.dev.ctx n 0) 20 4 ≠ 5 → (f = 0 ∨ s.dev.ctxFunc n = f) → 8 ≤ w.val →
         Completes (.contextRecordWrite f n w v .both) s (fun d =>
           d.ctx n w = v ∧ OnlyRegs [Reg.ctxW0 n + 8 * w] s.dev d)) ∧
       (fld (s.dev.ctx n 0) 20 4 ≠ 5 →
         Completes (.contextRecordWrite 0 n 0 v .both) s (fun d =>
           fld (d.ctx n 0) 0 17 = fld v 0 17 ∧ fld (d.ctx n 0) 32 16 = fld v 32 16 ∧
           fld (d.ctx n 0) 17 15 = fld (s.dev.ctx n 0) 17 15 ∧ fld (d.ctx n 0) 48 16 = fld (s.dev.ctx n 0) 48 16 ∧
           OnlyRegs [Reg.ctxW0 n] s.dev d)) ∧
       ∀ h : Half,
         (fld (s.dev.ctx n 0) 20 4 = 5 → (f = 0 ∨ s.dev.ctxFunc n = f) →
           Completes (.contextRecordWrite f n w v h) s (fun d =>
             d.reg Reg.tlyCtxWdropCnt = s.dev.reg Reg.tlyCtxWdropCnt + 1 ∧ OnlyRegs [Reg.tlyCtxWdropCnt] s.dev d)) ∧
         (f ≠ 0 → s.dev.ctxFunc n ≠ f →
           Completes (.contextRecordWrite f n w v h) s (fun d =>
             d.reg Reg.hifVfDenyCnt = s.dev.reg Reg.hifVfDenyCnt + 1 ∧ OnlyRegs [Reg.hifVfDenyCnt] s.dev d))) ∧
  (∀ (s : State), s.dev.alive = true →
       (∀ (p : Fin 65536) (v : BitVec 32),
         (32 ≤ p.val → s.dev.added p = none →
           Completes (.tallyWrite p v) s (fun d =>
             d.tally p = v.toNat ∧
             (∀ t ∈ s.dev.lantern.tasks, t.state = .waiting → s.dev.namesTally p t = true →
               (t.ctx, s.dev.now + 1) ∈ d.lantern.evals) ∧
             d.lantern = { s.dev.lantern with evals := d.lantern.evals } ∧
             SameMemory s.dev d ∧ d.queues = s.dev.queues ∧ SameRegs [Reg.tlyValue p] s.dev d)) ∧
         (p.val < 32 →
           Completes (.tallyWrite p v) s (fun d =>
             d.reg Reg.tlyUnmapCnt = s.dev.reg Reg.tlyUnmapCnt + 1 ∧ OnlyRegs [Reg.tlyUnmapCnt] s.dev d))) ∧
       ∀ (t : Fin 480) (u : Fin 128) (v : BitVec 32),
         (8 ≤ u.val →
           Completes (.translationEntryWrite t u v) s (fun d =>
             d.tmapEntry t (2 * u) = fld v 0 16 ∧ d.tmapEntry t (2 * u + 1) = fld v 16 16 ∧
             (∀ x ∈ s.dev.lantern.tasks, x.state = .waiting → s.dev.usesTmap x.ctx t = true →
               (x.ctx, s.dev.now + 1) ∈ d.lantern.evals) ∧
             d.lantern = { s.dev.lantern with evals := d.lantern.evals } ∧
             SameMemory s.dev d ∧ d.queues = s.dev.queues ∧ SameRegs [Reg.tlyTmap t u] s.dev d)) ∧
         (u.val < 8 → Completes (.translationEntryWrite t u v) s (fun d => d = s.dev)))

/-- R211, R218, R219, R221: a signal that arrives is applied two gcyc later, unless its fence is not met yet: then it waits in
the pending table, or is discarded when that is full. A host signal to a private bank, or with INC 0, has no effect on any
tally. A packet whose header fails on the way is discarded (R284). (Readings of the model that this rests on, where it meets
them: notes/assumptions/145, 146.) Commands: TLY_HOST_SIG, SIGNAL. -/
def Obligations.SignalsArriveAndWaitForTheirFence : Prop :=
  ∀ (s : State) (w : Word) (m : SignalMsg), s.dev.alive = true → s.dev.device < 1024 → m.device < 1024 →
    m.ctx < 65536 → m.vid < 256 →
    (fld w 16 32 = 0 → Completes (.tlyHostSig w) s (fun d => d = s.dev)) ∧
    (fld w 16 32 ≠ 0 → fld w 0 16 < 32 → s.dev.errsNow = [] →
      Completes (.tlyHostSig w) s (fun d =>
        d.reg Reg.tlyUnmapCnt = s.dev.reg Reg.tlyUnmapCnt + 1 ∧ d.regF Reg.tlyLastErr 61 3 = 2 ∧
        d.regF Reg.tlyLastErr 0 16 = fld w 0 16 ∧ d.lantern = { s.dev.lantern with errs := d.lantern.errs } ∧
        OnlyRegs [Reg.tlyUnmapCnt, Reg.tlyLastErr] { s.dev with lantern := d.lantern } d)) ∧
    (fld w 16 32 ≠ 0 → 32 ≤ fld w 0 16 →
      Completes (.tlyHostSig w) s (fun d =>
        ∃ g : Sig, g.phys = some (fld w 0 16) ∧ g.inc = fld w 16 32 ∧ g.applyAt = s.dev.now + 2 ∧
          d = { s.dev with lantern := { s.dev.lantern with sigs := s.dev.lantern.sigs ++ [g] } })) ∧
    (∀ g : Sig, g = { dev := m.device, ctx := m.ctx, vid := m.vid, inc := m.inc, phys := none, cross := true, host := false,
                      applyAt := s.dev.now + 2 } →
      (m.fence.all (fun f => decide (f.2.2 ≤ s.dev.committedBytes (256 * f.1 + f.2.1))) = true →
        Completes (.remoteSignal m true) s (fun d =>
          d = { s.dev with lantern := { s.dev.lantern with sigs := s.dev.lantern.sigs ++ [g] } })) ∧
      Completes (.remoteSignal m false) s (fun d =>
        d.reg Reg.sncHdrDropCnt = s.dev.reg Reg.sncHdrDropCnt + 1 ∧ OnlyRegs [Reg.sncHdrDropCnt] s.dev d) ∧
      ∀ f ∈ m.fence, s.dev.committedBytes (256 * f.1 + f.2.1) < f.2.2 →
        (s.dev.lantern.parked.length < 256 →
          Completes (.remoteSignal m true) s (fun d =>
            d.lantern = { s.dev.lantern with parked := s.dev.lantern.parked ++
              [{ sig := g, engine := f.1, thread := f.2.1, bytes := f.2.2, parkedAt := s.dev.now,
                 limit := s.dev.regF Reg.tlyCtl 0 24, metAt := none }] } ∧
            OnlyRegs [Reg.tlyStatus] { s.dev with lantern := d.lantern } d)) ∧
        (256 ≤ s.dev.lantern.parked.length → s.dev.lantern.run = none → s.dev.errsNow = [] →
          Completes (.remoteSignal m true) s (fun d =>
            d.reg Reg.tlyPendFullCnt = s.dev.reg Reg.tlyPendFullCnt + 1 ∧ d.regF Reg.tlyLastErr 61 3 = 3 ∧
            d.reg Reg.errFrCnt = s.dev.reg Reg.errFrCnt + 1 ∧ 
            d.lantern = { s.dev.lantern with errs := d.lantern.errs, faults := d.lantern.faults } ∧ SameMemory s.dev d)))

/-- R209, R211 - R213: the signals due in one gcyc are added to each tally as one sum, saturated once; a signal from another
context needs REMOTE_EN; an unmapped one is dropped and counted. R218, R219: a parked signal whose fence a commit has met
leaves the table and is applied three gcyc after the commit; one whose limit passes with the fence unmet is removed, counted
and recorded. (Readings of the model that this rests on, where it meets them: notes/assumptions/145, 146.) Commands:
SIGNAL_APPLY, FENCE_RELEASE, FENCE_EXPIRY. -/
def Obligations.SignalsAddReleaseAndExpire : Prop :=
  (∀ (s : State) (g h : Sig) (p : Nat), s.dev.alive = true → s.dev.lantern.sigs = [g, h] → g.applyAt ≤ s.dev.now →
       h.applyAt = g.applyAt → p < 65536 → g.ctx < 65536 → h.ctx < 65536 →
       (g.cross = false → h.cross = false → s.dev.resolveSig g = some p → s.dev.resolveSig h = some p → s.dev.added p = none →
         Completes (.signalApply []) s (fun d =>
           d.tally p = min (s.dev.tally p + g.inc + h.inc) (2 ^ 32 - 1) ∧ d.lantern.sigs = [] ∧
           d.reg Reg.tlySigCnt = s.dev.reg Reg.tlySigCnt + 2 ∧
           d.reg Reg.tlySatCnt = s.dev.reg Reg.tlySatCnt + (if 2 ^ 32 ≤ s.dev.tally p + g.inc + h.inc then 1 else 0) ∧
           SameMemory s.dev d ∧
           SameRegs [Reg.tlyValue p, Reg.tlySigCnt, Reg.tlySatCnt, Reg.tlyLastErr] s.dev d)) ∧
       (g.cross = true → h.cross = true → bit (s.dev.ctx g.ctx 0) 6 = false → bit (s.dev.ctx h.ctx 0) 6 = false →
         Completes (.signalApply []) s (fun d =>
           d.reg Reg.tlyRemoteDropCnt = s.dev.reg Reg.tlyRemoteDropCnt + 2 ∧ d.lantern.sigs = [] ∧ SameMemory s.dev d ∧
           SameRegs [Reg.tlyRemoteDropCnt] s.dev d)) ∧
       (g.cross = false → h.cross = false → s.dev.resolveSig g = none → s.dev.resolveSig h = some p →
         s.dev.tally p + h.inc < 2 ^ 32 →
         Completes (.signalApply []) s (fun d =>
           d.reg Reg.tlyUnmapCnt = s.dev.reg Reg.tlyUnmapCnt + 1 ∧ d.tally p = s.dev.tally p + h.inc ∧
           d.reg Reg.tlySigCnt = s.dev.reg Reg.tlySigCnt + 1 ∧ d.lantern.sigs = [] ∧
           SameRegs [Reg.tlyValue p, Reg.tlySigCnt, Reg.tlyUnmapCnt, Reg.tlyLastErr] s.dev d))) ∧
  (∀ (s : State) (p : Parked), s.dev.alive = true → s.dev.lantern.parked = [p] →
       p.sig.dev < 1024 → p.sig.ctx < 65536 → p.sig.vid < 256 →
       (∀ c : Nat, p.metAt = some c → c + 1 ≤ s.dev.now →
         Completes .fenceRelease s (fun d =>
           d = { s.dev with lantern := { s.dev.lantern with
             parked := [], sigs := s.dev.lantern.sigs ++ [{ p.sig with applyAt := max s.dev.now (c + 3) }] } })) ∧
       (p.metAt = none → s.dev.fenceMet p = false →
         Completes .fenceRelease s (fun d => d = s.dev) ∧
         (p.parkedAt + p.limit ≤ s.dev.now → s.dev.lantern.run = none → s.dev.errsNow = [] → s.dev.faultsNow.entries = [] →
           Completes .fenceExpiry s (fun d =>
             d.lantern = { s.dev.lantern with parked := [], errs := d.lantern.errs, faults := d.lantern.faults } ∧
             d.reg Reg.tlyFenceExpCnt = s.dev.reg Reg.tlyFenceExpCnt + 1 ∧
             d.regF Reg.tlyLastErr 61 3 = 4 ∧ d.reg Reg.errFrCnt = s.dev.reg Reg.errFrCnt + 1 ∧
             d.reg Reg.errFrLast = BitVec.ofNat 64 ((s.dev.reg Reg.errFrCnt).toNat % 4096) ∧
             d.regF (Reg.errFr ((s.dev.reg Reg.errFrCnt).toNat % 4096) 0) 0 8 = 0x12 ∧
             d.regF (Reg.errFr ((s.dev.reg Reg.errFrCnt).toNat % 4096) 0) 63 1 = 1 ∧ SameMemory s.dev d)) ∧
         (∀ (r : Run) (t : Task), p.parkedAt + p.limit ≤ s.dev.now → s.dev.lantern.run = some r → s.dev.task r.task = some t →
           t.state = .running → r.cluster = false → r.stopAfter = none →
           Completes .fenceExpiry s (fun d =>
             ∃ u : Run, d.lantern.run = some u ∧ u.fault = true ∧ u.stopAfter = some (s.dev.now + 1) ∧ u.task = r.task))))

/-- R208, R209, R214 - R217: the head task of a context with one enabled start condition, in a gcyc in which it is to be
evaluated. Below the threshold, with a blocked input queue or with an invalid slot the evaluation leaves all else as it was;
met, the task is READY in that gcyc, and the threshold is taken from the tally where CONSUME is set. (Readings of the model
that this rests on, where it meets them: notes/assumptions/147.) Commands: START_CONDITION_EVALUATION. -/
def Obligations.StartConditionsMakeTheHeadReady : Prop :=
  ∀ (s : State) (t : Task) (e : Word) (p : Nat), s.dev.alive = true → s.dev.lantern.tasks = [t] → t.state = .waiting →
    t.since + 1 ≤ s.dev.now → (∃ e' ∈ s.dev.lantern.evals, e'.1 = t.ctx ∧ e'.2 ≤ s.dev.now) →
    ((s.dev.slotHeader t.slot).drop 3).take 4 = [e, 0, 0, 0] → bit e 63 = true →
    s.dev.translateVid t.ctx (fld e 48 8) = some p →
    (s.dev.slotValid t.slot = false ∨ s.dev.gateOpen (s.dev.ctxQueue t.ctx) s.dev.now = false ∨
        s.dev.tally p < fld e 0 32 →
      Completes (.startConditionEvaluation []) s (fun d =>
        d = { s.dev with lantern := { s.dev.lantern with
          evals := s.dev.lantern.evals.filter (fun x => decide (s.dev.now < x.2)) } })) ∧
    (s.dev.slotValid t.slot = true → (s.dev.queue (s.dev.ctxQueue t.ctx)).blocks = false →
        (s.dev.queue (s.dev.ctxQueue t.ctx)).openFrom ≤ s.dev.now → fld e 0 32 ≤ s.dev.tally p →
      (bit e 62 = true →
        Completes (.startConditionEvaluation []) s (fun d =>
          d.lantern = { s.dev.lantern with
            evals := s.dev.lantern.evals.filter (fun x => decide (s.dev.now < x.2)),
            tasks := [{ t with state := .ready, since := s.dev.now, consumed := [(p, fld e 0 32)] }] } ∧
          d.tally p = s.dev.tally p - fld e 0 32 ∧ d.belfry.idleFrom = none ∧ SameMemory s.dev d ∧
          SameRegs [Reg.tlyValue p] s.dev d)) ∧
      (bit e 62 = false →
        Completes (.startConditionEvaluation []) s (fun d =>
          d.lantern = { s.dev.lantern with
            evals := s.dev.lantern.evals.filter (fun x => decide (s.dev.now < x.2)),
            tasks := [{ t with state := .ready, since := s.dev.now, consumed := [] }] } ∧
          d.belfry.idleFrom = none ∧ d.regs = s.dev.regs ∧ SameMemory s.dev d)))

/-- R185 - R188, R207, R220: of the READY tasks that may be selected the one of the highest class, and within it the first in the
turn of its context, is taken; its private tallies come into the bank, and in Run its start cycle is LNT_CTL.START_LEAD after
the clocks. While selection is withheld nothing changes. (Readings of the model that this rests on, where it meets them:
notes/assumptions/35, 41.) Commands: TASK_SELECTION. -/
def Obligations.SelectionTakesTheHighestClass : Prop :=
  ∀ (s : State) (ecc : List (Fin 16 × Bool)), s.dev.alive = true →
    (s.dev.mayselect = false → Completes (.taskSelection ecc) s (fun d => d = s.dev)) ∧
    (s.dev.mayselect = true → s.dev.lantern.domeFree ≤ s.dev.now → s.dev.lantern.bank ≤ 1 →
      s.dev.candidates s.dev.now ≠ [] →
      Completes (.taskSelection ecc) s (fun d =>
        ∃ t ∈ s.dev.candidates s.dev.now, ∃ r : Run, d.lantern.run = some r ∧
          (∀ u ∈ s.dev.candidates s.dev.now, s.dev.taskClass t < s.dev.taskClass u ∨
            (s.dev.taskClass t = s.dev.taskClass u ∧ s.dev.turn t ≤ s.dev.turn u)) ∧
          r.task = t.id ∧ r.ctx = t.ctx ∧ r.slot = t.slot ∧ r.sel = s.dev.now ∧ r.retries = 0 ∧
          r.header = s.dev.slotHeader t.slot ∧
          (d.task t.id).map (fun u => u.state) = some .starting ∧
          mapGet none d.lantern.lastSel (s.dev.taskClass t) = some t.ctx ∧ d.lantern.bank = 1 - s.dev.lantern.bank ∧
          (ecc = [] → ∀ i < 16, d.tally (16 * s.dev.lantern.bank + i) =
            s.dev.regF (Reg.ctxPt t.ctx (i / 2)) (32 * (i % 2)) 32) ∧
          (s.dev.power = 0 → r.cluster = false → r.start = some (s.dev.now + 16 + s.dev.regF Reg.lntCtl 0 8)) ∧
          (s.dev.power = 1 → d.power = 6 ∧ r.start = none ∧
            d.reg Reg.pwrWakeCnt = s.dev.reg Reg.pwrWakeCnt + 1) ∧
          SameMemory s.dev d ∧ d.queues = s.dev.queues ∧ d.out = s.dev.out))

/-- R54, R82, R188, R223: at the start cycle of a local task the flags and captures of every Spire are cleared, every thread is
idle, the queue's read position is recorded, and the task is RUNNING. (Readings of the model that this rests on, where it
meets them: notes/assumptions/35, 41, 174.) Commands: TASK_START. -/
def Obligations.TaskStartClearsCapturesAndThreads : Prop :=
  ∀ (s : State) (r : Run) (t : Task) (g : Nat), s.dev.alive = true → s.dev.lantern.run = some r → r.cluster = false →
    r.start = some g → g ≤ s.dev.now → s.dev.anyMaint = false → s.dev.task r.task = some t → t.state = .starting → r.ctx < 49152 →
    (∀ e ∈ s.dev.streams.threads, e.1 < 1024) →
    Completes .taskStart s (fun d =>
      (∀ n < 4096, d.reg (Reg.sprFlags n) = 0 ∧ d.reg (Reg.sprMxCapt n) = 0 ∧ d.reg (Reg.sprRckCapt n) = 0 ∧
        d.reg (Reg.sprVxFault n) = 0) ∧
      d.streams.threads = [] ∧ (∀ e ∈ s.dev.streams.threads, d.threadState e.1 = 0 ∧
        d.committedBytes e.1 = s.dev.committedBytes e.1) ∧
      d.reg (Reg.ctxW4 r.ctx) = BitVec.ofNat 64 (s.dev.queue (s.dev.ctxQueue r.ctx)).rd ∧
      d.lantern.run = some r ∧ (d.task r.task).map (fun u => u.state) = some .running ∧
      SameMemory s.dev d ∧ d.queues = s.dev.queues ∧ d.out = s.dev.out ∧ d.hbm = s.dev.hbm ∧ d.net = s.dev.net)

/-- R179, R180, R210, R211, R234: steps of the running task at stamps that have come. A SPLIT step loads the wheels, a SIGNAL
step issues its signal, an END step ends the issue of steps; each passes to the next step. Commands: SPLIT_STEP, SIGNAL_STEP,
END_STEP. -/
def Obligations.ShortStepsTakePlaceAtTheirStamp : Prop :=
  ∀ (s : State) (r : Run) (s1 : Word) (stamp : Nat), s.dev.alive = true → stamp ≤ s.dev.now →
    (s.dev.nextStep 4 = some (r, s1, stamp) →
      Completes .splitStep s (fun d =>
        (∀ k < 4, d.reg (Reg.steWheel k) =
          BitVec.ofNat 64 (bytesNat (s.dev.schedBytes (s.dev.allocBase r.slot + 16 * fld s1 0 16 + 4 * k) 4))) ∧
        d.lantern.run = some { r with nextStep := r.nextStep + 1 } ∧ SameMemory s.dev d ∧ d.streams = s.dev.streams ∧
        SameRegs [Reg.steWheel 0, Reg.steWheel 1, Reg.steWheel 2, Reg.steWheel 3] s.dev d)) ∧
    (s.dev.nextStep 0xF = some (r, s1, stamp) →
      Completes .endStep s (fun d =>
        d.lantern.run = some { r with nextStep := r.nextStep + 1 } ∧
        (d.task r.task).map (fun t => (t.state, t.since)) = some (.completing, stamp) ∧
        (∀ tk x, s.dev.thread tk = some x → s.dev.threadState tk = 1 → x.stop = none →
          (d.thread tk).map (fun y => y.stop) = some (some .endOrStep)) ∧
        d.regs = s.dev.regs ∧ SameMemory s.dev d)) ∧
    (s.dev.nextStep 5 = some (r, s1, stamp) →
      ∀ g0 g1 : Word, s.dev.schedWords (16 * fld s1 0 24) 2 = [g0, g1] →
        (fld g0 0 2 = 2 → s.dev.netRuns = true →
          Completes .signalStep s (fun d =>
            d.lantern = { s.dev.lantern with run := some { r with nextStep := r.nextStep + 1 } } ∧ d.regs = s.dev.regs ∧
            SameMemory s.dev d ∧
            ∃ u : CtrlUnit, d.controls = s.dev.controls ++ [u] ∧ u.typ = 3 ∧ u.link = s.dev.linkTo (fld g0 2 10) ∧
              u.words.take 4 = [s.dev.device, fld g0 12 16, fld g0 28 8, fld g0 36 8 + 1])) ∧
        (fld g0 0 2 ≠ 2 → bit g1 0 = false →
          ∀ g : Sig,
            g = { dev := s.dev.device, ctx := if fld g0 0 2 = 0 then r.ctx else fld g0 12 16, vid := fld g0 28 8,
                  inc := fld g0 36 8 + 1, phys := none, cross := decide (fld g0 0 2 ≠ 0), host := false,
                  applyAt := s.dev.now + 2 } →
            Completes .signalStep s (fun d =>
              d = { s.dev with lantern := { s.dev.lantern with
                run := some { r with nextStep := r.nextStep + 1 }, sigs := s.dev.lantern.sigs ++ [g] } })))

/-- R97, R179, R218, R223, R228, R326, R327: DOP, STREAM and LINKTAB steps of the running task at stamps that have come. A DOP is
launched with the T0 of its stamp and PHASE; a thread starts on its descriptor with nothing committed, or is STOPPED and
marks the task where its index is to come from an empty queue; a slot table is current on every link of its mask. (Readings
of the model that this rests on, where it meets them: notes/assumptions/100, 101, 102, 169, 170, 185.) Commands: DOP_STEP,
STREAM_STEP, LINKTAB_STEP. -/
def Obligations.DopStreamAndLinktabStepsStartTheirWork : Prop :=
  ∀ (s : State) (r : Run) (s1 : Word) (stamp : Nat), s.dev.alive = true → stamp ≤ s.dev.now →
    (s.dev.nextStep 1 = some (r, s1, stamp) → ∀ env : DopEnv,
      Completes (.dopStep env) s (fun d =>
        ∃ p : Dop, d.dome.dops = s.dev.dome.dops ++ [p] ∧ p.op = r.nextOp ∧ p.desc = s.dev.dopDesc (fld s1 0 24) ∧
          p.t0 = 4 * stamp + dopPhase p.desc ∧ p.left = 4096 ∧
          d.lantern.run.map (fun u => (u.task, u.nextStep, u.nextOp)) = some (r.task, r.nextStep + 1, r.nextOp + 1) ∧
          d.lantern.tasks = s.dev.lantern.tasks ∧ SameMemory s.dev d ∧ d.streams = s.dev.streams ∧
          d.queues = s.dev.queues)) ∧
    (s.dev.nextStep 2 = some (r, s1, stamp) → ∀ (e : List Word) (tk : Nat), e = s.dev.schedWords (128 * fld s1 10 22) 16 →
      tk = 256 * fld s1 0 2 + fld s1 2 8 → s.dev.thread tk = none →
      (fld (wd e 0) 24 2 = 0 → Completes (.streamStep .clean) s (fun d =>
        ∃ x : Thread, d.thread tk = some x ∧ x.desc = e ∧ x.stamp = stamp ∧ x.next = 0 ∧ x.committed = 0 ∧
          x.func = s.dev.ctxFunc r.ctx ∧ d.threadState tk = 1 ∧ d.committedBytes tk = 0 ∧
          d.lantern.run = some { r with nextStep := r.nextStep + 1 } ∧ SameMemory s.dev d ∧
          SameRegs [threadReg tk] s.dev d)) ∧
      (fld (wd e 0) 24 2 = 2 → (s.dev.queue (s.dev.ctxQueue r.ctx)).cells = [] →
        Completes (.streamStep .clean) s (fun d =>
          d.thread tk = none ∧ d.threadState tk = 4 ∧ d.committedBytes tk = 0 ∧
          d.reg (Reg.steStopCnt (fld s1 0 2)) = s.dev.reg (Reg.steStopCnt (fld s1 0 2)) + 1 ∧
          d.lantern.run.map (fun u => (u.poisoned, u.nextStep)) = some (true, r.nextStep + 1) ∧ SameMemory s.dev d ∧
          SameRegs [threadReg tk, Reg.steStopCnt (fld s1 0 2)] s.dev d))) ∧
    (s.dev.nextStep 3 = some (r, s1, stamp) →
      Completes .linktabStep s (fun d =>
        d.lantern.run = some { r with nextStep := r.nextStep + 1 } ∧ d.regs = s.dev.regs ∧ SameMemory s.dev d ∧
        ∀ n < 64, ∀ mask : Word, mask = wd (s.dev.schedWords (s.dev.allocBase r.slot + 16 * fld s1 0 16) 2) 0 →
          (bit mask n = true →
            (mapGet none d.links.tables n).map (fun t => (t.mask, t.first)) =
              some (mask, (stamp + s.dev.frameLen n - 1) / s.dev.frameLen n)) ∧
          (bit mask n = false → mapGet none d.links.tables n = mapGet none s.dev.links.tables n)))

/-- R184, R188, R189, R200, R202, R203, R207, R377: at E + 1 an OK task of one device gets its completion record: the Dome is
free from the next gcyc, the record goes to host memory with the ring's next sequence number, the counters and the context
record follow, and the private tallies are being saved. A cluster task waits with its end state decided. (Readings of the
model that this rests on, where it meets them: notes/assumptions/12, 38.) Commands: END_STATE_DECISION. -/
def Obligations.EndStateIsDecidedAndRecorded : Prop :=
  ∀ (s : State) (r : Run) (t : Task), s.dev.alive = true → s.dev.lantern.run = some r → s.dev.task r.task = some t →
    t.state = .completing → r.decided = none → t.since + 1 ≤ s.dev.now →
    (r.cluster = true → Completes (.endStateDecision []) s (fun d =>
      d = { s.dev with lantern := { s.dev.lantern with run := some { r with decided := some r.status } } })) ∧
    (r.cluster = false → r.status = 8 → r.queues = [] → t.remote = false → t.ring < 256 → t.ctx < 49152 →
      Completes (.endStateDecision []) s (fun d =>
        d.lantern.run = none ∧ d.lantern.domeFree = t.since + 2 ∧
        d.lantern.save = some { ctx := r.ctx, bank := r.bank, done := t.since + 16 } ∧
        d.lantern.tasks = s.dev.lantern.tasks.filter (fun u => u.id != t.id) ∧
        d.reg Reg.lntTaskCnt = s.dev.reg Reg.lntTaskCnt + 1 ∧ d.reg Reg.lntFaultCnt = s.dev.reg Reg.lntFaultCnt ∧
        d.reg Reg.lntAbortCnt = s.dev.reg Reg.lntAbortCnt ∧
        d.reg (Reg.hifRingSeq t.ring) = s.dev.reg (Reg.hifRingSeq t.ring) + 1 ∧
        fld (d.ctx t.ctx 0) 20 4 =
          (if (s.dev.lantern.tasks.filter (fun u => u.id != t.id)).any (fun u => u.ctx == t.ctx) then 5 else 8) ∧
        d.ctx t.ctx 2 = BitVec.ofNat 64 (t.since + 1) ∧ SameMemory s.dev d ∧
        ∀ f, f = ringFunc s.dev t.ring → s.dev.canIssue f = true → s.dev.usesAts f = false →
          d.out = s.dev.out ++
            [.hostWrite f (s.dev.pasid t.ring) (wd t.words 1).toNat
              (wordsBytes (recordWords t { r.endRecord 8 (r.start.getD (t.since + 1)) with flags := s.dev.spireFlags }
                (t.since + 1))) false,
             .hostWrite f (s.dev.pasid t.ring) ((wd t.words 1).toNat + 56)
              (natBytes 8 (s.dev.reg (Reg.hifRingSeq t.ring) + 1).toNat) false] ∧
          d.lantern.dues = s.dev.lantern.dues ++
            (if bit (wd t.words 0) 30 then [{ at_ := t.since + 2, act := .msix f (fld (wd t.words 0) 32 5) }] else []))) ∧
    (r.cluster = false → s.dev.mayRestart r r.status = true → r.queues = [] →
      Completes (.endStateDecision []) s (fun d =>
        d.reg Reg.lntRestartCnt = s.dev.reg Reg.lntRestartCnt + 1 ∧
        d.reg Reg.lntPoisonCnt = s.dev.reg Reg.lntPoisonCnt + 1 ∧ d.reg Reg.lntTaskCnt = s.dev.reg Reg.lntTaskCnt ∧
        (∃ u : Run, d.lantern.run = some u ∧ u.task = t.id ∧ u.retries = r.retries + 1 ∧ u.bank = r.bank ∧
          u.sel = t.since + 1 ∧ u.poisoned = false ∧ u.nextStep = 0) ∧
        (d.task r.task).map (fun u => u.state) = some .starting ∧ SameMemory s.dev d ∧ d.out = s.dev.out))

/-- R189, R190, R197, R202, R220: the end of a tally save puts the bank into the context record and arms the idle timer; an abort
stops a RUNNING task, ends a waiting one, whose ABORTED record is issued in the next gcyc, and changes nothing without VALID;
the record of an aborted task is issued once DOPs and threads are over. (Readings of the model that this rests on, where it
meets them: notes/assumptions/12, 38, 145.) Commands: TALLY_SAVE_COMPLETE, LNT_ABORT, ABORT_COMPLETION. -/
def Obligations.SavesAndAborts : Prop :=
  ∀ (s : State), s.dev.alive = true →
    (∀ v : Save, s.dev.lantern.save = some v → v.done ≤ s.dev.now → v.ctx < 49152 → v.bank ≤ 1 →
        s.dev.lantern.run = none → s.dev.lantern.tasks = [] →
      Completes .tallySaveComplete s (fun d =>
        (∀ i < 16, d.regF (Reg.ctxPt v.ctx (i / 2)) (32 * (i % 2)) 32 = s.dev.tally (16 * v.bank + i)) ∧
        d.lantern = { s.dev.lantern with save := none } ∧ d.belfry = { s.dev.belfry with idleFrom := some v.done } ∧
        SameMemory s.dev d ∧ SameRegs ((List.range 8).map (Reg.ctxPt v.ctx)) s.dev d)) ∧
    (∀ w : BitVec 32, bit w 31 = false ∨ 49151 < fld w 0 16 → Completes (.lntAbort w) s (fun d => d = s.dev)) ∧
    (∀ (w : BitVec 32) (r : Run) (t : Task), bit w 31 = true → bit w 30 = false → fld w 0 16 ≤ 49151 →
      s.dev.lantern.run = some r → r.cluster = false → r.stopAfter = none → s.dev.lantern.cluPend = none →
      s.dev.lantern.save = none → s.dev.ctxTasks (fld w 0 16) = [t] → t.state = .running →
      Completes (.lntAbort w) s (fun d =>
        d.lantern = { s.dev.lantern with run := some { r with aborted := true, stopAfter := some s.dev.now } } ∧
        (∀ tk x, s.dev.thread tk = some x → s.dev.threadState tk = 1 → x.stop = none →
          (d.thread tk).map (fun y => y.stop) = some (some .other)) ∧
        d.regs = s.dev.regs ∧ SameMemory s.dev d ∧ d.out = s.dev.out)) ∧
    (∀ (w : BitVec 32) (t : Task), bit w 31 = true → fld w 0 16 = t.ctx → t.ctx ≤ 49151 → s.dev.lantern.run = none →
      s.dev.lantern.cluPend = none → s.dev.lantern.tasks = [t] → t.state = .waiting → t.consumed = [] → t.remote = false →
      t.ring < 256 → ∀ e : EndRecord,
      e = { status := 0xA, start := s.dev.now + 1, retries := 0, flags := 0, cause := 0,
            epoch := fld (wd (s.dev.slotHeader t.slot) 0) 32 32, firstFault := none, bad := 0, firstBad := none } →
      Completes (.lntAbort w) s (fun d =>
        d.lantern = { s.dev.lantern with
          tasks := [{ t with state := .ended }],
          dues := s.dev.lantern.dues ++ [{ at_ := s.dev.now + 1, act := .record t.id e }] } ∧
        SameRegs [Reg.ctxW1 t.ctx] s.dev d ∧ SameMemory s.dev d ∧ d.out = s.dev.out)) ∧
    (∀ (t : Task) (e : EndRecord) (g : Nat), s.dev.lantern.tasks = [t] → t.ctx ≤ 49151 → t.ring < 256 → e.status = 0xA →
      s.dev.now ≤ g →
      ∀ d : Device, d = s.dev.act g (.record t.id e) →
        d.lantern.tasks = [] ∧ d.reg Reg.lntAbortCnt = s.dev.reg Reg.lntAbortCnt + 1 ∧
        d.reg Reg.lntTaskCnt = s.dev.reg Reg.lntTaskCnt + 1 ∧ fld (d.ctx t.ctx 0) 20 4 = 0xA ∧
        d.ctx t.ctx 2 = BitVec.ofNat 64 g ∧ SameMemory s.dev d) ∧
    (∀ (r : Run) (t : Task) (a x : Nat), s.dev.lantern.run = some r → r.cluster = false → r.stopAfter = some a →
      r.decided = none → s.dev.task r.task = some t → t.state = .running →
      (s.dev.threadsBusy = true ∨ s.dev.dopsOver = none → Completes .abortCompletion s (fun d => d = s.dev)) ∧
      (s.dev.threadsBusy = false → s.dev.dopsOver = some x → a + 1 ≤ s.dev.now → x ≤ s.dev.now → r.aborted = true →
        r.queues = [] → s.dev.lantern.tasks = [t] → t.remote = false → t.ring < 256 →
        Completes .abortCompletion s (fun d =>
          d.lantern.run = none ∧ d.lantern.tasks = [] ∧ d.lantern.save = s.dev.lantern.save ∧
          d.lantern.domeFree = s.dev.now + 1 ∧ d.reg Reg.lntAbortCnt = s.dev.reg Reg.lntAbortCnt + 1 ∧
          d.reg Reg.lntTaskCnt = s.dev.reg Reg.lntTaskCnt + 1 ∧ SameMemory s.dev d)))

/-- R224, R231, R233, R241, R243: in a free slot of its class an engine issues the next ready thread's request as one scheduled
read of 1 to 32 units, or takes units that have come for a LINK thread; a layer drain moves the named threads to DRAINING; a
thread whose units are all settled is DONE; a stopped one is STOPPED once no write of it is outstanding, and counted where
units are missing. (Readings of the model that this rests on, where it meets them: notes/assumptions/36, 43, 44, 45, 98,
157.) Commands: STREAM_REQUEST_ISSUE, LAYER_DRAIN, THREAD_DONE, THREAD_FINISHED. -/
def Obligations.ThreadsIssueDrainAndEnd : Prop :=
  ∀ (s : State) (k : Fin 4) (t : Fin 256), s.dev.alive = true →
    (∀ (cls : Fin 4) (units c tk : Nat) (x : Thread) (src dst : NetTarget), s.dev.portClock k cls = some c →
      c / 2 ≤ s.dev.now → s.dev.pickThread k cls (c / 2) units = some tk → s.dev.thread tk = some x →
      s.dev.endTarget k x false x.next = some src → s.dev.endTarget k x true x.next = some dst →
      (srcKind x.desc = 4 → Completes (.streamRequestIssue k cls units) s (fun d =>
        ∃ n, 1 ≤ n ∧ n ≤ x.inbox.length ∧ n ≤ 32 ∧
          (∃ y : Thread, d.thread tk = some y ∧ y.next = x.next + n ∧ y.inbox = x.inbox.drop n ∧
            y.committed = x.committed) ∧
          mapGet 0 d.streams.port k = c + 1 ∧ d.queues = s.dev.queues ∧ SameMemory s.dev d)) ∧
      (srcKind x.desc ≠ 4 → s.dev.txn s.dev.net.nextId = none →
      Completes (.streamRequestIssue k cls units) s (fun d =>
        ∃ q : Txn, d.net.txns = s.dev.net.txns ++ [q] ∧ q.init = k ∧ q.sched = true ∧ q.cmd = .read ∧ q.target = src ∧
          q.phase = .sent ∧ q.injected = s.dev.now ∧ q.purpose = .thread tk x.next x.stamp dst ∧
          1 ≤ q.len ∧ q.len ≤ 32 ∧ q.len ≤ units ∧ x.next + q.len ≤ totalUnits x.desc ∧
          (∃ y : Thread, d.thread tk = some y ∧ y.next = x.next + q.len ∧ y.reqs = x.reqs + 1 ∧
            y.credits = x.credits.map (· - q.len) ∧ y.committed = x.committed) ∧
          mapGet 0 d.streams.port k = c + 1 ∧ d.lantern = s.dev.lantern ∧ d.queues = s.dev.queues ∧ SameMemory s.dev d ∧
          SameRegs [threadReg tk] s.dev d))) ∧
    (∀ (cls : Fin 4) (units c : Nat), s.dev.portClock k cls = some c → s.dev.pickThread k cls (c / 2) units = none →
      Completes (.streamRequestIssue k cls units) s (fun d => d = s.dev)) ∧
    (∀ (g tk : Nat) (rest : List (Nat × List Nat)) (x : Thread), s.dev.streams.drains = (g, [tk]) :: rest →
      g ≤ s.dev.now → s.dev.thread tk = some x → s.dev.threadState tk = 1 →
      Completes .layerDrain s (fun d =>
        d.streams.drains = rest ∧ d.thread tk = some { x with draining := true } ∧ d.threadState tk = 2 ∧
        d.committedBytes tk = s.dev.committedBytes tk ∧
        d.lantern = { s.dev.lantern with
          dues := s.dev.lantern.dues ++ [{ at_ := x.drainLimit + 1, act := .drain tk x.stamp }] } ∧ SameMemory s.dev d ∧
        SameRegs [threadReg tk] s.dev d)) ∧
    ∀ (tk : Nat) (x : Thread), tk = 256 * k + t → s.dev.thread tk = some x → x.draining = false →
      s.dev.streams.left.find? (fun e => e.1 == tk && decide (e.2.writes = 0)) = none →
      (s.dev.threadState tk = 2 → x.stop = none →
        (totalUnits x.desc ≤ x.settled → Completes (.threadDone k t) s (fun d =>
          d.threadState tk = 3 ∧ d.committedBytes tk = s.dev.committedBytes tk ∧ OnlyRegs [threadReg tk] (s.dev.drainOver tk x.stamp) d)) ∧
        (x.settled < totalUnits x.desc → Completes (.threadDone k t) s (fun d => d = s.dev))) ∧
      (x.fault = none → ∀ c ∈ x.stop,
        (x.writes = 0 → x.committed < totalUnits x.desc → s.dev.ownThread x = true →
          Completes (.threadFinished k t) s (fun d =>
            d.thread tk = none ∧ d.threadState tk = 4 ∧ d.committedBytes tk = s.dev.committedBytes tk ∧
            d.reg (Reg.steStopCnt k) = s.dev.reg (Reg.steStopCnt k) + 1 ∧
            (c = .other → d.lantern = s.dev.lantern) ∧
            (c = .endOrStep → (d.lantern.run.map (fun r => r.poisoned && bit r.cause 4)) = some true) ∧
            SameMemory s.dev d ∧ SameRegs [threadReg tk, Reg.steStopCnt k] s.dev d)) ∧
        (x.writes ≠ 0 → Completes (.threadFinished k t) s (fun d => d = s.dev)))

/-- R244 - R248, R254: a walk ends with a translation, kept first among the engine's 2,048, or with a page fault that ends the
running task; an invalidation is in progress from its write to its completion, and removes from every engine what it names.
(Readings of the model that this rests on, where it meets them: notes/assumptions/36, 43, 44, 45, 98.) Commands:
TRANSLATION_WALK, STE_TLB_INV, TLB_INVALIDATION_COMPLETE. -/
def Obligations.TranslationsAreWalkedAndInvalidated : Prop :=
  ∀ (s : State), s.dev.alive = true →
    (∀ (k : Fin 4) (t : Fin 256) (x : Thread) (q : WalkReq) (e : TlbEntry) (tk : Nat), tk = 256 * k + t →
      s.dev.thread tk = some x → x.walk = some q →
      (bit (s.dev.reg (Reg.stePtroot x.func)) 63 = true → ∀ (reads : List WalkRead) (v : Device), v.thread tk = some x →
        (s.dev.walkFrom k x.func q (4 - q.level) reads = (.ended (.page e), v) →
          Completes (.translationWalk k t reads) s (fun d =>
            mapGet [] d.streams.tlb k = (e :: mapGet [] v.streams.tlb k).take 2048 ∧
            d.thread tk = some { x with walk := none } ∧ d.regs = v.regs ∧ d.lantern = v.lantern ∧ SameMemory v d)) ∧
        ∀ p : WalkReq, s.dev.walkFrom k x.func q (4 - q.level) reads = (.waits p, v) →
          Completes (.translationWalk k t reads) s (fun d =>
            d.thread tk = some { x with walk := some p } ∧ d.streams.tlb = v.streams.tlb ∧ d.regs = v.regs ∧
            d.lantern = v.lantern ∧ SameMemory v d)) ∧
      (bit (s.dev.reg (Reg.stePtroot x.func)) 63 = false →
        ∀ (r : Run) (u : Task), s.dev.lantern.run = some r → r.streamFault = false → r.cluster = false →
          r.stopAfter = none → s.dev.task r.task = some u → u.state = .running →
          Completes (.translationWalk k t []) s (fun d =>
            d.reg (Reg.stePgfaultCnt k) = s.dev.reg (Reg.stePgfaultCnt k) + 1 ∧ d.threadState tk = 5 ∧
            (∃ f : StreamFault, (d.thread tk).map (fun y => y.fault) = some (some f) ∧ f.kind = 0x21 ∧ f.cause = 8 ∧
              f.level = 0 ∧ f.addr = q.addr ∧ f.unit = q.unit) ∧
            (∃ v : Run, d.lantern.run = some v ∧ v.fault = true ∧ v.streamFault = true ∧
              v.stopAfter = some (s.dev.now + 1)) ∧
            SameMemory s.dev d ∧ SameRegs [threadReg tk, Reg.stePgfaultCnt k] s.dev d))) ∧
    (∀ w : Word,
      (bit w 63 = false → Completes (.steTlbInv w) s (fun d => d = s.dev)) ∧
      (bit w 63 = true → Completes (.steTlbInv w) s (fun d =>
        d.streams = { s.dev.streams with inval := s.dev.streams.inval ++ [w] } ∧ d.regBit Reg.steTlbStatus 0 = true ∧
        OnlyRegs [Reg.steTlbStatus] { s.dev with streams := d.streams } d)) ∧
      (s.dev.streams.inval ≠ [] → Completes .tlbInvalidationComplete s (fun d =>
        d.streams.inval = [] ∧ d.regBit Reg.steTlbStatus 0 = false ∧
        (∀ k < 4, mapGet [] d.streams.tlb k = (mapGet [] s.dev.streams.tlb k).filter
          (fun e => !s.dev.streams.inval.any (fun v => invalidates v e))) ∧
        OnlyRegs [Reg.steTlbStatus] { s.dev with streams := d.streams } d)))

/-- R262, R264, R265, R269, R270: a read that has arrived is compared with the write queue: poisoned zeros where its write was
lost, forwarded from a whole queued write, otherwise queued. A ready stack takes the one queued access of a pseudo-channel
once its bank is free; a write reaches the stack, a read takes what the stack holds; a returned read is delivered, read again
after an uncorrectable first reading, and poisoned zeros after the second. R263, R268, R269, R272, R273: refreshes at
multiples of the interval, replays of unconfirmed commands and their loss, SUSPECT and its clearing, and training with its
retained record. (Readings of the model that this rests on, where it meets them: notes/assumptions/48, 49, 50, 152, 158,
162.) Commands: HBM_ACCESS_ISSUE, HBM_READ_COMPLETE, HBM_REFRESH, PARITY_ALERT, COMMAND_CONFIRMED, HBC_SUSPECT_CLEAR,
HBC_CLR_RETAIN, HBM_TRAINING_COMPLETE. -/
def Obligations.HbmStacksServeRefreshAndTrain : Prop :=
  (∀ (s : State) (st : Fin 12) (c : Fin 32) (pk : Nat) (x : PseudoChannel), s.dev.alive = true → pk = 32 * st + c →
       s.dev.pc pk = x →
       (∀ r : RdEntry, x.arriving = [r] → ∀ d : Device, d = s.dev.comparePc pk →
         (d.pc pk).arriving = [] ∧
         (s.dev.hbmLost r.unit = true → ∀ t, s.dev.txn r.txn = some t →
           (d.txn r.txn).map (fun u => mapGet none u.got r.index) = some (some poisonUnit)) ∧
         (s.dev.hbmLost r.unit = false → youngest r.unit (s.dev.pc (r.unit / pcUnits)).writes = none →
           r.unit / pcUnits = pk → (d.pc pk).reads = x.reads ++ [r] ∧ d.regs = s.dev.regs) ∧
         (s.dev.hbmLost r.unit = false → ∀ w, youngest r.unit x.writes = some w → w.be = -1 → r.unit / pcUnits = pk →
           d.reg (Reg.hbcFwdCnt st) = s.dev.reg (Reg.hbcFwdCnt st) + 1 ∧ ∀ t, s.dev.txn r.txn = some t →
             (d.txn r.txn).map (fun u => mapGet none u.got r.index) = some (some w.data))) ∧
       (x.arriving = [] → s.dev.stackReady st = false → Completes (.hbmAccessIssue st c) s (fun d => d = s.dev)) ∧
       (x.arriving = [] → s.dev.stackReady st = true →
         (∀ w : WrEntry, x.writes = [w] → x.reads = [] → s.dev.bankFree w.unit = false →
           Completes (.hbmAccessIssue st c) s (fun d => d = s.dev)) ∧
         (∀ w : WrEntry, x.writes = [w] → x.reads = [] → x.input = [] → s.dev.bankFree w.unit = true →
           Completes (.hbmAccessIssue st c) s (fun d =>
             (d.pc pk).writes = [] ∧ d.hbm.mem.unit w.unit = w.data ∧
             (∀ u, u ≠ w.unit → d.hbm.mem.unit u = s.dev.hbm.mem.unit u) ∧
             d.regs = s.dev.regs ∧ d.tile = s.dev.tile ∧ d.streams = s.dev.streams ∧ d.cfgMem = s.dev.cfgMem ∧
             d.lantern = s.dev.lantern)) ∧
         (∀ r : RdEntry, x.reads = [r] → x.writes = [] → s.dev.bankFree r.unit = true → s.dev.hbmLost r.unit = false →
           Completes (.hbmAccessIssue st c) s (fun d =>
             (d.pc pk).reads = [] ∧ (d.pc pk).flight = x.flight ++ [{ r with data := s.dev.hbm.mem.unit r.unit }] ∧
             SameMemory s.dev d ∧ d.regs = s.dev.regs ∧ d.lantern = s.dev.lantern))) ∧
       (x.flight = [] → ∀ e : Ecc, Completes (.hbmReadComplete st c e) s (fun d => d = s.dev)) ∧
       ∀ (r : RdEntry) (rest : List RdEntry) (t : Txn), x.flight = r :: rest → s.dev.suspect pk = false →
         s.dev.txn r.txn = some t →
         (r.reread = false → r.data.pois = false → unitOk r.data = true →
           Completes (.hbmReadComplete st c .clean) s (fun d =>
             (d.txn r.txn).map (fun u => mapGet none u.got r.index) = some (some r.data) ∧ (d.pc pk).flight = rest ∧
             d.regs = s.dev.regs ∧ SameMemory s.dev d) ∧
           Completes (.hbmReadComplete st c .corrected) s (fun d =>
             (d.txn r.txn).map (fun u => mapGet none u.got r.index) = some (some r.data) ∧ (d.pc pk).flight = rest ∧
             d.reg (Reg.hbcCorrCnt st) = s.dev.reg (Reg.hbcCorrCnt st) + 1 ∧
             d.reg Reg.errCorrCnt = s.dev.reg Reg.errCorrCnt + 1 ∧
             SameRegs [Reg.hbcCorrCnt st, Reg.errCorrCnt] s.dev d ∧ SameMemory s.dev d)) ∧
         (r.reread = false → Completes (.hbmReadComplete st c .uncorrectable) s (fun d =>
           (d.pc pk).reads = { r with reread := true } :: x.reads ∧ (d.pc pk).flight = rest ∧ d.net = s.dev.net ∧
           d.regs = s.dev.regs ∧ SameMemory s.dev d)) ∧
         (r.reread = true → Completes (.hbmReadComplete st c .uncorrectable) s (fun d =>
           (d.txn r.txn).map (fun u => mapGet none u.got r.index) = some (some poisonUnit) ∧ (d.pc pk).flight = rest ∧
           d.reg (Reg.hbcUncorrCnt st) = s.dev.reg (Reg.hbcUncorrCnt st) + 1 ∧
           d.reg Reg.errUncorrCnt = s.dev.reg Reg.errUncorrCnt + 1 ∧
           SameRegs [Reg.hbcUncorrCnt st, Reg.errUncorrCnt] s.dev d ∧ SameMemory s.dev d))) ∧
  (∀ (s : State) (st : Fin 12) (c : Fin 32) (pk : Nat) (x : PseudoChannel), s.dev.alive = true → pk = 32 * st + c →
       s.dev.pc pk = x →
       (s.dev.belfry.counting = true → s.dev.hbm.hot = 0 → s.dev.hbm.wantHot = 0 → s.dev.hbm.lastRefresh < s.dev.now →
         s.dev.now % 81 = 0 →
         Completes .hbmRefresh s (fun d =>
           d.hbm.lastRefresh = s.dev.now ∧
           (∀ n < 12, (s.dev.stackReady n = true →
               mapGet none d.hbm.refreshed n = some (s.dev.now, s.dev.now / 81 % 48)) ∧
             (s.dev.stackReady n = false → mapGet none d.hbm.refreshed n = mapGet none s.dev.hbm.refreshed n)) ∧
           SameRegs ((List.range 12).map Reg.hbcStatus) s.dev d ∧ SameMemory s.dev d)) ∧
       (∀ wd : Bool,
         (x.retry = [] → Completes (.parityAlert st c wd) s (fun d => d = s.dev)) ∧
         (x.retry ≠ [] → x.replays < 3 → Completes (.parityAlert st c wd) s (fun d =>
           (d.pc pk) = { x with replays := x.replays + 1 } ∧
           d.reg (Reg.hbcReplayCnt st) = s.dev.reg (Reg.hbcReplayCnt st) + 1 ∧
           d.reg (Reg.hbcWdparCnt st) = s.dev.reg (Reg.hbcWdparCnt st) + (if wd then 1 else 0) ∧
           d.reg (Reg.hbcCaparCnt st) = s.dev.reg (Reg.hbcCaparCnt st) + (if wd then 0 else 1) ∧
           SameRegs [Reg.hbcReplayCnt st, Reg.hbcWdparCnt st, Reg.hbcCaparCnt st] s.dev d ∧ SameMemory s.dev d)) ∧
         (∀ (e : RetryEntry) (u : DUnit), x.retry = [e] → 3 ≤ x.replays → e.old = some u → e.rd = none → x.lost = [] →
             s.dev.faultsNow.entries = [] →
           Completes (.parityAlert st c wd) s (fun d =>
             (d.pc pk).retry = [] ∧ (d.pc pk).lost = [e.unit] ∧ d.hbm.mem.unit e.unit = u ∧
             (∀ v, v ≠ e.unit → d.hbm.mem.unit v = s.dev.hbm.mem.unit v) ∧
             d.reg (Reg.hbcLostWrCnt st) = s.dev.reg (Reg.hbcLostWrCnt st) + 1 ∧
             d.reg Reg.errFrCnt = s.dev.reg Reg.errFrCnt + 1 ∧
             d.regF (Reg.errFr ((s.dev.reg Reg.errFrCnt).toNat % 4096) 0) 0 8 = 0x31))) ∧
       (∀ (e : RetryEntry) (rest : List RetryEntry), x.retry = e :: rest →
         Completes (.commandConfirmed st c) s (fun d =>
           (d.pc pk).retry = rest ∧ (d.pc pk).replays = 0 ∧ d.regs = s.dev.regs ∧ SameMemory s.dev d ∧
           (e.full = true → e.old.isSome = true → e.unit ∉ (d.pc pk).lost) ∧
           ∀ u ∈ x.lost, u ≠ e.unit → u ∈ (d.pc pk).lost)) ∧
       (∀ v : BitVec 32, Completes (.hbcSuspectClear st v) s (fun d =>
         (∀ p < 32, (bit v p = true → bit (s.dev.raised (Reg.hbcSuspect st)) p = false → d.suspect (32 * st + p) = false ∧ (d.pc (32 * st + p)).lost = []) ∧
           (bit v p = false ∨ bit (s.dev.raised (Reg.hbcSuspect st)) p = true → d.suspect (32 * st + p) = s.dev.suspect (32 * st + p) ∧
             d.pc (32 * st + p) = s.dev.pc (32 * st + p))) ∧
         SameRegs [Reg.hbcSuspect st] s.dev d ∧ SameMemory s.dev d ∧ d.lantern = s.dev.lantern)) ∧
       Completes (.hbcClrRetain st) s (fun d =>
         mapGet none d.belfry.hbmRetain st = none ∧
         (∀ n, n ≠ st.val → mapGet none d.belfry.hbmRetain n = mapGet none s.dev.belfry.hbmRetain n) ∧
         d = { s.dev with belfry := { s.dev.belfry with hbmRetain := d.belfry.hbmRetain } }) ∧
       (s.dev.keep.noPhy = false → s.dev.regF (Reg.hbcStatus st) 2 2 = 0 →
         (s.dev.recordValid st = true → s.dev.regBit (Reg.hbcCtl st) 0 = false →
           Completes (.hbmTrainingComplete st .verified) s (fun d =>
             d.regF (Reg.hbcStatus st) 2 2 = 1 ∧ OnlyRegs [Reg.hbcStatus st] s.dev d)) ∧
         ∀ reached : Bool, Completes (.hbmTrainingComplete st (.margins reached)) s (fun d =>
           d.regF (Reg.hbcStatus st) 2 2 = (if reached then 2 else 3) ∧ d.regBit (Reg.hbcCtl st) 0 = false ∧
           d.recordValid st = true ∧
           (reached = false → ∀ p < 32, d.suspect (32 * st + p) = true) ∧
           SameRegs ([Reg.hbcStatus st, Reg.hbcCtl st] ++ (if reached then [] else [Reg.hbcSuspect st])) s.dev d ∧
           SameMemory s.dev d)) ∧
       (s.dev.regF (Reg.hbcStatus st) 2 2 ≠ 0 → ∀ o : TrainOutcome,
         Completes (.hbmTrainingComplete st o) s (fun d => d = s.dev)))

/-- R117, R256, R258, R277, R282, R284, R288: what a READ whose packet has come, in its turn, finds at its target. A failed
header loses it; local HBM takes it to the controller; a free Dome gives its line, a held or gated one makes it wait at the
gateway; open registers read zeros, other places refuse with poisoned units. The released request is served once the Dome is
free and in Run. (Readings of the model that this rests on, where it meets them: notes/assumptions/51, 150, 151, 155, 159.)
Commands: READ, GATEWAY_HOLD_RELEASE. -/
def Obligations.ReadsAreServedByTheirTarget : Prop :=
  ∀ (s : State) (t : Txn) (a : Nat), s.dev.alive = true → s.dev.txn t.id = some t → t.cmd = .read → t.len = 1 →
    t.got = [] → t.target = .mem a →
    (t.phase = .sent → s.dev.travels (.request t.id) = false → (∀ v ∈ s.dev.net.txns, s.dev.requestBefore t v = false) →
      (∀ ecc, Completes (.netRead t.id false ecc) s (fun d =>
        (d.txn t.id).map (fun u => u.phase) = some .lost ∧
        d.reg Reg.sncHdrDropCnt = s.dev.reg Reg.sncHdrDropCnt + 1 ∧ SameRegs [Reg.sncHdrDropCnt] s.dev d ∧
        SameMemory s.dev d ∧ d.lantern = s.dev.lantern ∧ d.out = s.dev.out)) ∧
      (∀ u off pk, localSpace a = .hbm a → s.dev.hbmDecode a = some (u, off) → pk = u / pcUnits →
        Completes (.netRead t.id true []) s (fun d =>
          (∃ r : RdEntry, (d.pc pk).arriving = (s.dev.pc pk).arriving ++ [r] ∧ r.unit = u ∧ r.txn = t.id ∧ r.index = 0 ∧
            r.sched = t.sched ∧ r.reread = false) ∧
          (d.txn t.id).map (fun u => u.phase) = some .atTarget ∧ d.regs = s.dev.regs ∧ SameMemory s.dev d)) ∧
      (localSpace a = .hbm a → s.dev.hbmDecode a = none →
        Completes (.netRead t.id true []) s (fun d =>
          (d.txn t.id).map (fun u => (u.phase, u.status, u.units)) = some (.responded, 1, [poisonUnit]) ∧
          d.reg Reg.hbcUnmappedCnt = s.dev.reg Reg.hbcUnmappedCnt + 1 ∧
          d.reg Reg.errUncorrCnt = s.dev.reg Reg.errUncorrCnt + 1 ∧
          SameRegs [Reg.hbcUnmappedCnt, Reg.errUncorrCnt] s.dev d ∧ SameMemory s.dev d)) ∧
      (∀ l, localSpace a = .tile l →
        (s.dev.domeOpen = true → Completes (.netRead t.id true []) s (fun d =>
          (d.txn t.id).map (fun u => (u.phase, u.units)) =
            some (.responded, [s.dev.tile.unit l]) ∧
          d.regs = s.dev.regs ∧ SameMemory s.dev d)) ∧
        (∀ r ∈ s.dev.lantern.run, Completes (.netRead t.id true []) s (fun d =>
          (d.txn t.id).map (fun u => u.phase) = some .held ∧
          d.reg Reg.sncGwHoldCnt = s.dev.reg Reg.sncGwHoldCnt + 1 ∧ SameRegs [Reg.sncGwHoldCnt] s.dev d ∧
          SameMemory s.dev d ∧ d.lantern = s.dev.lantern))) ∧
      (∀ o, localSpace a = .regs o → openRegister o = true →
        Completes (.netRead t.id true []) s (fun d =>
          (d.txn t.id).map (fun u => (u.phase, u.status, u.units)) = some (.responded, t.status, [zeroUnit]) ∧
          d.regs = s.dev.regs ∧ SameMemory s.dev d)) ∧
      (localSpace a = .nowhere ∨ (∃ o, localSpace a = .regs o ∧ openRegister o = false) →
        Completes (.netRead t.id true []) s (fun d =>
          (d.txn t.id).map (fun u => (u.phase, u.status, u.units)) = some (.responded, 1, [poisonUnit]) ∧
          d.reg Reg.errUncorrCnt = s.dev.reg Reg.errUncorrCnt + 1 ∧ SameRegs [Reg.errUncorrCnt] s.dev d ∧
          SameMemory s.dev d))) ∧
    (t.phase = .held → ∀ l, localSpace a = .tile l →
      (s.dev.domeOpen = true → Completes (.gatewayHoldRelease t.id []) s (fun d =>
        (d.txn t.id).map (fun u => (u.phase, u.units)) = some (.responded, [s.dev.tile.unit l]) ∧
        d.regs = s.dev.regs ∧ SameMemory s.dev d)) ∧
      (∀ r ∈ s.dev.lantern.run, Completes (.gatewayHoldRelease t.id []) s (fun d => d = s.dev)))

/-- R117, R264, R266, R267, R277, R404: writes at their target. Local HBM queues the unit, a partial one merged with what is
stored; a free Dome takes it into its line; a refusing place answers STATUS 0x1; a failed header loses the packet. (Readings
of the model that this rests on, where it meets them: notes/assumptions/51.) Commands: WRITE, WRITE_PARTIAL. -/
def Obligations.WritesAreServedByTheirTarget : Prop :=
  ∀ (s : State) (t : Txn) (a : Nat) (u : DUnit), s.dev.alive = true → s.dev.txn t.id = some t → t.phase = .sent →
    t.target = .mem a → t.data = [u] → t.purpose = .nobody → s.dev.travels (.request t.id) = false →
    (∀ v ∈ s.dev.net.txns, s.dev.requestBefore t v = false) →
    (t.cmd = .write →
      (Completes (.netWrite t.id false) s (fun d =>
        (d.txn t.id).map (fun v => v.phase) = some .lost ∧
        d.reg Reg.sncHdrDropCnt = s.dev.reg Reg.sncHdrDropCnt + 1 ∧ SameRegs [Reg.sncHdrDropCnt] s.dev d ∧
        SameMemory s.dev d)) ∧
      (∀ n off pk, localSpace a = .hbm a → s.dev.hbmDecode a = some (n, off) → pk = n / pcUnits →
        (s.dev.pc pk).input = [] → 0 < (s.dev.pc pk).room t.sched → s.dev.hbmLost n = false →
        Completes (.netWrite t.id true) s (fun d =>
            d.hbmUnit n = carried u ∧ (d.txn t.id).map (fun v => (v.phase, v.status)) = some (.responded, 0) ∧
            (∀ m, m ≠ n → d.hbmUnit m = s.dev.hbmUnit m) ∧ d.regs = s.dev.regs ∧ SameMemory s.dev d)) ∧
      (∀ l, localSpace a = .tile l → s.dev.domeOpen = true →
        Completes (.netWrite t.id true) s (fun d =>
          d.tile.unit l = (if unitOk u then u else poisonUnit) ∧ (∀ m, m ≠ l → d.tile.unit m = s.dev.tile.unit m) ∧
          (d.txn t.id).map (fun v => (v.phase, v.status)) = some (.responded, 0) ∧
          d.reg Reg.errUncorrCnt = s.dev.reg Reg.errUncorrCnt + (if unitOk u then 0 else 1) ∧
          SameRegs [Reg.errUncorrCnt] s.dev d ∧
          d.hbm = s.dev.hbm ∧ d.streams = s.dev.streams ∧ d.cfgMem = s.dev.cfgMem)) ∧
      (localSpace a = .nowhere ∨ (∃ o, localSpace a = .regs o ∧ openRegister o = false) →
        Completes (.netWrite t.id true) s (fun d =>
          (d.txn t.id).map (fun v => (v.phase, v.status)) = some (.responded, 1) ∧ d.regs = s.dev.regs ∧
          SameMemory s.dev d))) ∧
    (t.cmd = .partialWrite → t.be ≠ -1 → ∀ n off pk, localSpace a = .hbm a → s.dev.hbmDecode a = some (n, off) → pk = n / pcUnits →
      (s.dev.pc pk).input = [] → (s.dev.pc pk).writes = [] → s.dev.hbmLost n = false →
      unitOk (s.dev.hbm.mem.unit n) = true →
      Completes (.netWritePartial t.id true .clean .clean) s (fun d =>
        d.hbmUnit n = mergeUnit (s.dev.hbmUnit n) u t.be ∧
        (d.txn t.id).map (fun v => (v.phase, v.status)) = some (.responded, 0) ∧ d.regs = s.dev.regs ∧ SameMemory s.dev d) ∧
      Completes (.netWritePartial t.id true .uncorrectable .clean) s (fun d =>
        d.hbmUnit n = mergeUnit (s.dev.hbmUnit n) u t.be ∧
        d.reg (Reg.hbcRereadOkCnt (pk / 32)) = s.dev.reg (Reg.hbcRereadOkCnt (pk / 32)) + 1 ∧
        SameRegs [Reg.hbcRereadOkCnt (pk / 32)] s.dev d ∧ SameMemory s.dev d) ∧
      Completes (.netWritePartial t.id true .uncorrectable .uncorrectable) s (fun d =>
        d.hbmUnit n = poisonUnit ∧ d.reg (Reg.hbcUncorrCnt (pk / 32)) = s.dev.reg (Reg.hbcUncorrCnt (pk / 32)) + 1 ∧
        SameMemory s.dev d))

/-- R230, R277, R285, R289, R291, R365: a response ends its transaction: the data answers the host, an acknowledged write commits
the thread's units, each measured for its initiator; a waiting packet is injected; one whose response does not come in time
is completed by its interface. (Readings of the model that this rests on, where it meets them: notes/assumptions/52, 164,
166.) Commands: READ_DATA, WRITE_ACK, PACKET_INJECTION, RESPONSE_TIMEOUT. -/
def Obligations.ResponsesInjectionsAndTimeouts : Prop :=
  ∀ (s : State) (t : Txn), s.dev.alive = true → s.dev.txn t.id = some t → t.init < 256 →
    (t.phase = .responded → s.dev.travels (.response t.id) = false → (∀ v ∈ s.dev.net.txns, s.dev.responseBefore t v = false) →
      (∀ f tag off len : Nat, t.cmd = .read → t.purpose = .bar2 f tag off len → s.dev.regBit Reg.sncStatCtl 0 = false →
        Completes (.netReadData t.id true) s (fun d =>
          d.txn t.id = none ∧
          d.reg (Reg.sncStatUnits t.init) = s.dev.reg (Reg.sncStatUnits t.init) + BitVec.ofNat 64 t.len ∧
          d.reg (Reg.sncStatBytes t.init) = s.dev.reg (Reg.sncStatBytes t.init) + BitVec.ofNat 64 (64 * t.len) ∧
          d.reg (Reg.sncStatLatN t.init) = s.dev.reg (Reg.sncStatLatN t.init) + 1 ∧
          d.reg (Reg.sncStatLatSum t.init) =
            s.dev.reg (Reg.sncStatLatSum t.init) + BitVec.ofNat 64 (t.backAt.getD (2 * s.dev.now) - t.sentAt) ∧
          (t.units.all (fun u => !u.pois && unitOk u) = true →
            d.out = s.dev.out ++
              [.completion tag 0 (((t.units.map (fun u => lineBytes u.data)).flatten.drop off).take len) false]) ∧
          (t.units.any (fun u => u.pois || !unitOk u) = true →
            d.out = s.dev.out ++ [.completion tag 0 (List.replicate len 0) true] ∧
            d.reg Reg.hifPoisCplCnt = s.dev.reg Reg.hifPoisCplCnt + 1) ∧
          d.lantern = s.dev.lantern ∧ SameMemory s.dev d)) ∧
      (∀ (tk n : Nat) (dst : NetTarget) (x : Thread), t.cmd = .write → t.purpose = .thread tk n x.stamp dst →
        s.dev.thread tk = some x → t.data.length = 1 → t.got = [] → t.status = 0 → tk < 1024 →
        Completes (.netWriteAck t.id true) s (fun d =>
          d.txn t.id = none ∧ d.committedBytes tk = (s.dev.committedBytes tk + 64) % 2 ^ 48 ∧
          (∃ y : Thread, d.thread tk = some y ∧ y.committed = x.committed + 1 ∧ y.settled = x.settled + 1 ∧
            y.reqs = x.reqs - 1 ∧ y.writes = x.writes - 1 ∧ y.next = x.next) ∧
          d.threadState tk = s.dev.threadState tk ∧
          d.lantern = { s.dev.lantern with parked := d.lantern.parked } ∧ d.out = s.dev.out ∧
          SameMemory s.dev d))) ∧
    (t.phase = .waiting →
      (1 < s.dev.power → Completes (.packetInjection ⟨t.init % 256, Nat.mod_lt _ (by decide)⟩) s (fun d => d = s.dev)) ∧
      (s.dev.power ≤ 1 → s.dev.net.txns = [t] → t.init ≠ 7 → s.dev.regF (Reg.sncReg t.init) 0 24 = 0 → t.cmd = .read → t.data = [] →
        Completes (.packetInjection ⟨t.init % 256, Nat.mod_lt _ (by decide)⟩) s (fun d =>
          d.net = { s.dev.net with
            txns := [{ t with
              phase := .sent, injected := s.dev.now, limit := s.dev.regF Reg.sncCtl 0 24, sentAt := 2 * s.dev.now }],
            entering := d.net.entering } ∧
          (∃ fs, d.net.entering = s.dev.net.entering ++ fs) ∧ d.travels (.request t.id) = true ∧ d.regs = s.dev.regs ∧ SameMemory s.dev d ∧ d.lantern = s.dev.lantern))) ∧
    (t.phase = .lost → t.injected + t.limit ≤ s.dev.now → t.cmd = .read → t.sched = false →
      ∀ f tag off len : Nat, t.purpose = .bar2 f tag off len → 0 < t.len →
        Completes (.responseTimeout t.id) s (fun d =>
          d.txn t.id = none ∧ d.reg Reg.sncRespTmoCnt = s.dev.reg Reg.sncRespTmoCnt + 1 ∧
          d.reg Reg.errUncorrCnt = s.dev.reg Reg.errUncorrCnt + BitVec.ofNat 64 t.len ∧
          d.out = s.dev.out ++ [.completion tag 0 (List.replicate len 0) true] ∧ d.lantern = s.dev.lantern ∧
          SameMemory s.dev d))

/-- R289, R290, R293, R294: regulators, and the control and clearing of statistics. A write to the regulator of an unassigned
initiator has no effect, nor has a clear while the statistics are frozen. (Readings of the model that this rests on, where it
meets them: notes/assumptions/53.) Commands: SNC_REG_WRITE, SNC_STAT_CLR, SNC_STAT_CTL. -/
def Obligations.RegulatorsAndStatisticsAreControlled : Prop :=
  ∀ (s : State) (i : Fin 256) (w : Word) (v : BitVec 32), s.dev.alive = true →
    (initAssigned i = false → Completes (.sncRegWrite i w) s (fun d => d = s.dev)) ∧
    (initAssigned i = true → Completes (.sncRegWrite i w) s (fun d =>
      d.regF (Reg.sncReg i) 0 24 = fld w 0 24 ∧ d.regF (Reg.sncReg i) 32 24 = fld w 32 24 ∧
      mapGet none d.net.tokens i = none ∧ (∀ j : Nat, j ≠ i.val → mapGet none d.net.tokens j = mapGet none s.dev.net.tokens j) ∧
      OnlyRegs [Reg.sncReg i] { s.dev with net := d.net } d)) ∧
    Completes (.sncStatCtl v) s (fun d =>
      d.regBit Reg.sncStatCtl 0 = bit v 0 ∧ OnlyRegs [Reg.sncStatCtl] s.dev d) ∧
    (bit v 31 = false ∨ s.dev.regBit Reg.sncStatCtl 0 = true → Completes (.sncStatClr v) s (fun d => d = s.dev)) ∧
    (bit v 31 = true → s.dev.regBit Reg.sncStatCtl 0 = false →
      Completes (.sncStatClr v) s (fun d =>
        (∀ o : Nat, o < 32 → d.reg (Reg.sncStatBytes (fld v 0 8) + 8 * o) = regReset (Reg.sncStatBytes (fld v 0 8) + 8 * o)) ∧
        (bit v 30 = false → ∀ a, a < Reg.sncStatBytes (fld v 0 8) ∨ Reg.sncStatBytes (fld v 0 8) + 256 ≤ a →
          d.reg a = s.dev.reg a) ∧
        (∀ a, a < 0x710000 ∨ 0x720000 ≤ a → d.reg a = s.dev.reg a) ∧ d = { s.dev with regs := d.regs }))

/-- R295, R297 - R300, R306, R384: a start marker opens a packet, or is refused for its LENGTH; the bytes of one write fill and
link its cell; without a packet they are discarded; a flush empties the queue. A virtual function reaches only its own
queues. R301, R305, R308, R310: reads of the pop registers. A queue held by a task or with no ready packet returns EMPTY;
otherwise the head cell is latched, its metadata is read once and its data word by word. A write of QMG_QCFG reaches the
selected queue, and where it opens its gate the tasks that wait on it are evaluated in the next gcyc. (Readings of the model
that this rests on, where it meets them: notes/assumptions/58, 59, 60, 165.) Commands: QMG_SOP, PUSH_PORT_WRITE, QMG_FLUSH,
QMG_POP_STATUS, QMG_POP_META, QMG_POP_DATA, QMG_QCFG. -/
def Obligations.QueuesTakeAndReturnCells : Prop :=
  (∀ (s : State) (q : Fin 65536) (x : Queue), s.dev.alive = true → s.dev.queue q = x → s.dev.power ≤ 1 →
       (∀ w : Word, fld w 0 16 = q → bit w 63 = true → x.asm = none →
         (1 ≤ fld w 16 21 → fld w 16 21 ≤ 1048576 → Completes (.qmgSop w) s (fun d =>
           d.queue q = { x with
             cfgNow := x.cfg,
             asm := some
               { init := 0x80, length := fld w 16 21, got := 0, opened := [], bad := false, checkBad := false,
                 spilled := none, linked := false } } ∧
           (∀ p : Nat, p ≠ q.val → d.queue p = s.dev.queue p) ∧ d = { s.dev with queues := d.queues })) ∧
         (fld w 16 21 = 0 ∨ 1048576 < fld w 16 21 → Completes (.qmgSop w) s (fun d =>
           d.reg Reg.qmgBadlenCnt = s.dev.reg Reg.qmgBadlenCnt + 1 ∧ OnlyRegs [Reg.qmgBadlenCnt] s.dev d))) ∧
       (∀ w : Word, bit w 63 = false → Completes (.qmgSop w) s (fun d => d = s.dev)) ∧
       (∀ bs : List Byte, bs ≠ [] →
         (x.asm = none → Completes (.pushPortWrite 0 q (bs.map some) false) s (fun d =>
           d.reg Reg.qmgDiscByteCnt = s.dev.reg Reg.qmgDiscByteCnt + BitVec.ofNat 64 bs.length ∧
           OnlyRegs [Reg.qmgDiscByteCnt] s.dev d)) ∧
         (∀ a : Assembly, x.asm = some a → a.opened = [] → a.got = 0 → a.length = bs.length → bs.length ≤ 64 →
           x.atLimit = false → s.dev.spills q = false → 0 < s.dev.poolFree → x.freeing = false →
           Completes (.pushPortWrite 0 q (bs.map some) false) s (fun d =>
             (∃ y : Queue, y = { x with
               asm := none,
               cells := x.cells ++
                 [{ data := bytesLine bs, check := lineCheck (bytesLine bs), vbytes := bs.length, sop := !a.linked, eop := true,
                    trunc := false, pois := false, chkOk := true, init := a.init, length := a.length, spilled := none }] } ∧
               d.queue q = if x.blocks && !y.blocks then { y with openFrom := s.dev.now + 2 } else y) ∧
             d.reg Reg.qmgCellsInCnt = s.dev.reg Reg.qmgCellsInCnt + 1 ∧ SameRegs [Reg.qmgCellsInCnt] s.dev d ∧
             (∀ p : Nat, p ≠ q.val → d.queue p = s.dev.queue p) ∧
             d.lantern.tasks = s.dev.lantern.tasks ∧ SameMemory s.dev d ∧ d.out = s.dev.out))) ∧
       (∀ (f : Fin 64) (bs : List (Option Byte)), f ≠ 0 → s.dev.queueFunc q ≠ f →
         Completes (.pushPortWrite f q bs false) s (fun d =>
           d.reg Reg.hifVfDenyCnt = s.dev.reg Reg.hifVfDenyCnt + 1 ∧ OnlyRegs [Reg.hifVfDenyCnt] s.dev d)) ∧
       ∀ w : BitVec 32, fld w 0 16 = q → s.dev.cluster.copies = [] →
         (bit w 31 = false → Completes (.qmgFlush w) s (fun d => d = s.dev)) ∧
         (bit w 31 = true → Completes (.qmgFlush w) s (fun d =>
           d.queue q = { x with cells := x.cells.take (x.rd - x.head), asm := none, freeing := false } ∧
           (∀ p : Nat, p ≠ q.val → d.queue p = s.dev.queue p) ∧
           d.reg Reg.qmgDiscByteCnt = s.dev.reg Reg.qmgDiscByteCnt + BitVec.ofNat 64
             (((x.cells.drop (x.rd - x.head)).map (fun c => c.vbytes)).sum + x.asm.elim 0 (fun a => a.opened.length)) ∧
           OnlyRegs [Reg.qmgDiscByteCnt] { s.dev with queues := d.queues } d))) ∧
  (∀ (s : State) (q : Nat) (x : Queue), s.dev.alive = true → s.dev.regF Reg.qmgPopSel 0 16 = q → s.dev.queue q = x →
       (x.held = true → ∀ e : Ecc, Completes (.qmgPopStatus e) s (fun d =>
         d.pop = none ∧ d.out = s.dev.out ++ [.value 0xFFFFFFFF] ∧
         d.reg Reg.qmgPopBusyCnt = s.dev.reg Reg.qmgPopBusyCnt + 1 ∧ d.queues = s.dev.queues ∧
         SameRegs [Reg.qmgPopBusyCnt] s.dev d ∧ SameMemory s.dev d)) ∧
       (x.held = false → x.headReady = false → ∀ e : Ecc, Completes (.qmgPopStatus e) s (fun d =>
         d = { s.dev with pop := none, out := s.dev.out ++ [.value 0xFFFFFFFF] })) ∧
       (∀ (c : QCell) (rest : List QCell), x.held = false → x.headReady = true → x.cells = c :: rest → c.vbytes ≤ 64 →
         c.spilled = none → s.dev.cluster.copies = [] →
         Completes (.qmgPopStatus .clean) s (fun d =>
           (∃ y : Queue, y = { x with cells := rest, head := x.head + 1, rd := x.head + 1 } ∧
             d.queue q = if x.blocks && !y.blocks then { y with openFrom := s.dev.now + 1 } else y) ∧
           d.pop = some { cell := if c.pois then { c with data := 0, check := zeroCheck, chkOk := false } else c,
                          metaLeft := true, word := 0 } ∧
           d.reg Reg.qmgCellsOutCnt = s.dev.reg Reg.qmgCellsOutCnt + 1 ∧
           (∃ v : Word, d.out = s.dev.out ++ [.value v] ∧ bit v 31 = false ∧ bit v 30 = c.sop ∧ bit v 29 = c.eop ∧
             bit v 28 = c.trunc ∧ bit v 27 = c.pois ∧ fld v 8 16 = q ∧ fld v 0 7 = c.vbytes) ∧
           (∀ p, p ≠ q → d.queue p = s.dev.queue p) ∧ SameRegs [Reg.qmgCellsOutCnt] s.dev d ∧ SameMemory s.dev d ∧
           d.lantern = { s.dev.lantern with evals := d.lantern.evals })) ∧
       (s.dev.pop = none → ∀ h : Half,
         Completes (.qmgPopMeta h) s (fun d => d = { s.dev with out := s.dev.out ++ [.value 0] }) ∧
         Completes (.qmgPopData h) s (fun d => d = { s.dev with out := s.dev.out ++ [.value 0] })) ∧
       (∀ p : PopLatch, s.dev.pop = some p → p.cell.length < 2 ^ 21 → p.cell.init < 256 →
         Completes (.qmgPopMeta .both) s (fun d =>
           d.pop = some { p with metaLeft := false } ∧
           (∃ v : Word, d = { s.dev with pop := d.pop, out := s.dev.out ++ [.value v] } ∧
             (p.metaLeft = true → fld v 0 21 = p.cell.length ∧ bit v 21 = p.cell.chkOk ∧ fld v 22 8 = p.cell.init ∧
               fld v 32 32 = p.cell.check.toNat) ∧
             (p.metaLeft = false → v = 0))) ∧
         (p.word < 8 → Completes (.qmgPopData .both) s (fun d =>
           d = { s.dev with pop := some { p with word := p.word + 1 },
                            out := s.dev.out ++ [.value (BitVec.ofNat 64 (fld p.cell.data (64 * p.word) 64))] })) ∧
         (p.word = 8 → Completes (.qmgPopData .both) s (fun d => d = { s.dev with out := s.dev.out ++ [.value 0] }))) ∧
       ∀ (w : Word) (n : Nat), s.dev.regF Reg.qmgQsel 0 16 = n →
         Completes (.qmgQcfg w) s (fun d =>
           (∃ y : Queue, y = { s.dev.queue n with cfg := w &&& 0xFF00003FFFF87FFF } ∧
             ((s.dev.queue n).blocks = false ∨ y.blocks = true → d.queue n = y ∧ d.lantern = s.dev.lantern) ∧
             ((s.dev.queue n).blocks = true → y.blocks = false →
               d.queue n = { y with openFrom := s.dev.now + 1 } ∧
               ∀ t ∈ s.dev.lantern.tasks, t.state = .waiting → s.dev.ctxQueue t.ctx = n →
                 (t.ctx, s.dev.now + 1) ∈ d.lantern.evals)) ∧
           (∀ p, p ≠ n → d.queue p = s.dev.queue p) ∧ d.lantern.tasks = s.dev.lantern.tasks ∧ d.regs = s.dev.regs ∧ SameMemory s.dev d))

/-- R356 - R360: a write that the group may not take is discarded and counted; one that it takes is offered as a copy to each
attached output; an output that does not accept in time is detached, its copies dropped, and attached again by the host.
(Readings of the model that this rests on, where it meets them: notes/assumptions/62, 63.) Commands: MULTICAST_PORT_WRITE,
OUTPUT_DETACH, MC_DETACH, CLU_MC_ATTACH. -/
def Obligations.MulticastGroupsCopyAndDetach : Prop :=
  ∀ (s : State) (g : Fin 256) (v : Line), s.dev.alive = true →
    ((∀ x, s.dev.group g = some x → x.en = false ∨ x.root = false) →
      ∀ full ep : Bool, Completes (.multicastPortWrite g full v ep) s (fun d =>
        d.reg Reg.cluMcBadwrCnt = s.dev.reg Reg.cluMcBadwrCnt + 1 ∧ OnlyRegs [Reg.cluMcBadwrCnt] s.dev d)) ∧
    (∀ ep : Bool, Completes (.multicastPortWrite g false v ep) s (fun d =>
        d.reg Reg.cluMcBadwrCnt = s.dev.reg Reg.cluMcBadwrCnt + 1 ∧ OnlyRegs [Reg.cluMcBadwrCnt] s.dev d)) ∧
    (∀ (x : McGroup) (l : Nat), s.dev.group g = some x → x.en = true → x.root = true → groupOutputs x = [l] → l < 64 →
      s.dev.cluster.copies = [] → s.dev.cluster.waits = [] →
      (s.dev.isDetached g l = false → s.dev.power ≤ 1 →
        Completes (.multicastPortWrite g true v false) s (fun d =>
          d.cluster.copies = [{ group := g, data := freshUnit v, waiting := [l], since := s.dev.now, init := 0x80,
                                txn := none }] ∧
          (∃ t : Txn, d.net.txns = s.dev.net.txns ++ [t] ∧ t.cmd = .write ∧ t.sched = false ∧ t.data = [freshUnit v] ∧
            t.purpose = .multicast g l ∧
            t.target = .remote l (s.dev.regF (Reg.turLinkPeer l) 0 10) (0x20000910000 + 64 * g)) ∧
          d.queues = s.dev.queues ∧ SameMemory s.dev d ∧ SameRegs [Reg.cluMcDropCnt] s.dev d)) ∧
      (s.dev.isDetached g l = true →
        Completes (.multicastPortWrite g true v false) s (fun d =>
          d.cluster.copies = [] ∧ d.reg Reg.cluMcDropCnt = s.dev.reg Reg.cluMcDropCnt + 1 ∧ d.net = s.dev.net ∧
          d.queues = s.dev.queues ∧ SameMemory s.dev d ∧ SameRegs [Reg.cluMcDropCnt] s.dev d))) ∧
    (∀ (o : Fin 65) (c : McCopy), s.dev.cluster.copies = [c] → c.group = g.val → c.waiting = [o.val] → c.txn = none →
      s.dev.cluster.waits = [] → c.since + s.dev.regF Reg.cluMcCtl 0 24 ≤ s.dev.now →
      Completes (.outputDetach g o) s (fun d =>
        d.isDetached g o = true ∧ d.cluster.copies = [] ∧
        d.reg Reg.cluMcDetachCnt = s.dev.reg Reg.cluMcDetachCnt + 1 ∧
        d.reg Reg.cluMcDropCnt = s.dev.reg Reg.cluMcDropCnt + 1 ∧
        d.regBit (Reg.cluMcDetached (g / 64)) (g % 64) = true ∧
        (o.val < 64 → ∃ u : CtrlUnit, d.links.ctrl = s.dev.links.ctrl ++ [u] ∧ u.link = o ∧ u.typ = 0x18 ∧
          u.words = [g.val]) ∧
        (∀ r : Run, s.dev.lantern.run = some r → o.val = 64 → (d.lantern.run.map (fun u => u.poisoned)) = some true) ∧
        SameMemory s.dev d ∧
        SameRegs [Reg.cluMcDetachCnt, Reg.cluMcDropCnt, Reg.cluMcDetached (g / 64)] s.dev d)) ∧
    Completes (.mcDetach g) s (fun d =>
      d.regBit (Reg.cluMcDetached (g / 64)) (g % 64) = true ∧
      (∀ r : Run, s.dev.lantern.run = some r → (d.lantern.run.map (fun u => u.poisoned && bit u.cause 5)) = some true) ∧
      SameMemory s.dev d ∧ SameRegs [Reg.cluMcDetached (g / 64)] s.dev d) ∧
    ∀ w : BitVec 32,
      (bit w 31 = false → Completes (.cluMcAttach w) s (fun d => d = s.dev)) ∧
      (bit w 31 = true → fld w 0 8 = g → Completes (.cluMcAttach w) s (fun d =>
        (∀ o < 65, d.isDetached g o = false) ∧ d.regBit (Reg.cluMcDetached (g / 64)) (g % 64) = false ∧
        (∀ h < 256, h ≠ g.val → ∀ o < 65, d.isDetached h o = s.dev.isDetached h o) ∧
        d.cluster.copies = s.dev.cluster.copies ∧
        OnlyRegs [Reg.cluMcDetached (g / 64)] { s.dev with cluster := d.cluster } d))

/-- R314 - R316, R318: what moves a link between its states from outside. Each touches only the link's own registers, and what
else it says. R325, R335, R337, R338, R401, R459: what else comes over a link, loopback and PRBS, of links and of fabric
lanes. (Readings of the model that this rests on, where it meets them: notes/assumptions/68, 69, 76, 177.) Commands:
LINK_ENABLE, LINK_DISABLE, RETRAIN, TUR_CLR_RETAIN, TERMINATION_DETECT, LOSS_OF_CLOCK, CLOCK_RESTORED, WAKE, CREDIT,
LOOPBACK, TUR_PRBS_CLR, PRBS_INJECT, PRBS_CHECKER_SYNCHRONISATION. -/
def Obligations.LinksDetectCreditWakeAndTest : Prop :=
  (∀ (s : State) (n : Fin 64), s.dev.alive = true →
       Completes (.linkEnable n) s (fun d =>
         d.regBit (Reg.turLinkCtl n) 31 = true ∧
         (s.dev.linkState n = 0 → s.dev.power ≠ 3 → s.dev.power ≠ 5 → d.linkState n = 1) ∧
         (s.dev.linkState n ≠ 0 ∨ s.dev.power = 3 ∨ s.dev.power = 5 → d.linkState n = s.dev.linkState n) ∧
         SameMemory s.dev d ∧ SameRegs [Reg.turLinkCtl n, Reg.turLinkStatus n] s.dev d) ∧
       Completes (.linkDisable n) s (fun d =>
         d.regBit (Reg.turLinkCtl n) 31 = false ∧ d.linkState n = 0 ∧ d.regBit (Reg.turLinkStatus n) 49 = false ∧
         (d.link n).gen2 = false ∧ SameMemory s.dev d ∧ SameRegs [Reg.turLinkCtl n, Reg.turLinkStatus n] s.dev d) ∧
       Completes (.linkRetrain n) s (fun d =>
         d.regBit (Reg.turLinkStatus n) 49 = false ∧
         (s.dev.linkState n = 5 → d.linkState n = 2 ∧ (d.link n).gen2 = false) ∧
         (s.dev.linkState n ≠ 5 → d.linkState n = s.dev.linkState n ∧ d.links = s.dev.links) ∧
         SameMemory s.dev d ∧ SameRegs [Reg.turLinkStatus n] s.dev d) ∧
       Completes (.turClrRetain n) s (fun d =>
         d.link n = { s.dev.link n with retain1 := none, retain2 := none } ∧
         (∀ m : Nat, m ≠ n.val → d.link m = s.dev.link m) ∧ d.regs = s.dev.regs ∧ SameMemory s.dev d) ∧
       (s.dev.pinsTaken = false → s.dev.linkState n = 1 →
         (s.dev.regBit (Reg.turLinkStatus n) 52 = false → s.dev.keep.noPhy = false →
           Completes (.terminationDetect n true) s (fun d =>
             d.linkState n = 2 ∧ OnlyRegs [Reg.turLinkStatus n] s.dev d)) ∧
         (s.dev.keep.noPhy = true ∨ s.dev.regBit (Reg.turLinkStatus n) 52 = true →
           Completes (.terminationDetect n true) s (fun d => d = s.dev)) ∧
         Completes (.terminationDetect n false) s (fun d => d = s.dev)) ∧
       (s.dev.regBit (Reg.turLinkStatus n) 52 = true → Completes (.lossOfClock n) s (fun d => d = s.dev)) ∧
       (s.dev.regBit (Reg.turLinkStatus n) 52 = false → Completes (.lossOfClock n) s (fun d =>
         d.regBit (Reg.turLinkStatus n) 52 = true ∧ d.regBit (Reg.turLinkStatus n) 49 = false ∧
         d.reg (Reg.turAbsentCnt n) = s.dev.reg (Reg.turAbsentCnt n) + 1 ∧
         (s.dev.linkState n ≠ 0 → s.dev.linkState n ≠ 6 → d.linkState n = 1) ∧
         (s.dev.linkState n = 0 ∨ s.dev.linkState n = 6 → d.linkState n = s.dev.linkState n) ∧
         (s.dev.isUpLink n = true → s.dev.freq = 2 →
           d.freq = 3 ∧ d.reg Reg.cluHoldoverCnt = s.dev.reg Reg.cluHoldoverCnt + 1) ∧
         (s.dev.isUpLink n = false ∨ s.dev.freq ≠ 2 → d.freq = s.dev.freq) ∧
         SameMemory s.dev d ∧
         SameRegs [Reg.turLinkStatus n, Reg.turAbsentCnt n, Reg.cluStatus, Reg.cluHoldoverCnt] s.dev d)) ∧
       (s.dev.linkState n ≠ 0 → Completes (.clockRestored n) s (fun d =>
         d.regBit (Reg.turLinkStatus n) 52 = false ∧ d.linkState n = s.dev.linkState n ∧
         OnlyRegs [Reg.turLinkStatus n] s.dev d))) ∧
  (∀ (s : State) (n : Fin 64), s.dev.alive = true →
       (s.dev.linkState n ≠ 5 →
         Completes (.linkWake n) s (fun d => d = s.dev) ∧
         ∀ (k : Fin 4) (t : Fin 256) (total : Nat) (ok : Bool), Completes (.linkCredit n k t total ok) s (fun d => d = s.dev)) ∧
       (s.dev.linkState n = 5 →
         (s.dev.power = 2 → Completes (.linkWake n) s (fun d =>
           d.power = 6 ∧ d.belfry.wake = some { toRun := false, done := some (s.dev.now + 20000), standby := false } ∧
           d.reg Reg.pwrWakeCnt = s.dev.reg Reg.pwrWakeCnt + 1 ∧
           SameRegs [Reg.pwrWakeCnt, Reg.pwrStatus] s.dev d ∧ SameMemory s.dev d ∧ d.lantern = s.dev.lantern)) ∧
         (∀ (k : Fin 4) (t : Fin 256) (total : Nat) (x : Thread), s.dev.thread (256 * k + t) = some x →
           Completes (.linkCredit n k t total false) s (fun d =>
             d.reg Reg.sncHdrDropCnt = s.dev.reg Reg.sncHdrDropCnt + 1 ∧ OnlyRegs [Reg.sncHdrDropCnt] s.dev d) ∧
           Completes (.linkCredit n k t total true) s (fun d =>
             (∃ m, d.thread (256 * k + t) = some { x with credits := some (total - x.next), offered := m }) ∧
             (∀ tk : Nat, tk ≠ 256 * k.val + t.val → d.thread tk = s.dev.thread tk) ∧ d.regs = s.dev.regs ∧
             SameMemory s.dev d))) ∧
       (∀ l : Fin 8,
         (1 ≤ l.val → l.val ≤ 3 → Completes (.loopback n l) s (fun d =>
           d.linkState n = 6 ∧ d.reg (Reg.turLinkTest n) = BitVec.ofNat 64 l ∧ SameMemory s.dev d ∧
           SameRegs [Reg.turLinkTest n, Reg.turLinkStatus n] s.dev d)) ∧
         (l.val = 0 ∨ 3 < l.val → Completes (.loopback n l) s (fun d =>
           d.linkState n = (if s.dev.linkState n = 6 ∨ (3 < l.val ∧ s.dev.linkState n ≠ 0) then 1 else s.dev.linkState n) ∧
           d.reg (Reg.turLinkTest n) = BitVec.ofNat 64 l ∧ SameMemory s.dev d ∧
           SameRegs [Reg.turLinkTest n, Reg.turLinkStatus n] s.dev d))) ∧
       Completes (.turPrbsClr n) s (fun d =>
         (∀ i < 4, d.reg (Reg.turPrbsBits n i) = 0 ∧ d.reg (Reg.turPrbsErr n i) = 0) ∧
         OnlyRegs ((List.range 4).map (Reg.turPrbsBits n) ++ (List.range 4).map (Reg.turPrbsErr n)) s.dev d) ∧
       Completes (.prbsInject n) s (fun d =>
         (s.dev.prbsOn n = true → d = { s.dev with out := s.dev.out ++ [.prbsError n (s.dev.regF (Reg.turPrbsCtl n) 24 4)] }) ∧
         (s.dev.prbsOn n = false → d = s.dev)) ∧
       (∀ (l : Fin 272) (i : Nat) (b e : Nat), l.val < 256 → n.val = l / 4 → i = l % 4 → s.dev.prbsOn n = true →
         s.dev.regBit (Reg.turPrbsCtl n) 30 = true → s.dev.regBit (Reg.turPrbsCtl n) (24 + i) = true →
         Completes (.prbsCheckerSynchronisation l .gained) s (fun d =>
           d.regBit (Reg.turPrbsCtl n) (18 + i) = true ∧ OnlyRegs [Reg.turPrbsCtl n] s.dev d) ∧
         (s.dev.regBit (Reg.turPrbsCtl n) (18 + i) = true →
           Completes (.prbsCheckerSynchronisation l (.counted b e)) s (fun d =>
             d.reg (Reg.turPrbsBits n i) = s.dev.reg (Reg.turPrbsBits n i) + BitVec.ofNat 64 b ∧
             d.reg (Reg.turPrbsErr n i) = s.dev.reg (Reg.turPrbsErr n i) + BitVec.ofNat 64 e ∧
             OnlyRegs [Reg.turPrbsBits n i, Reg.turPrbsErr n i] s.dev d)) ∧
         (s.dev.regBit (Reg.turPrbsCtl n) (18 + i) = false →
           Completes (.prbsCheckerSynchronisation l (.counted b e)) s (fun d => d = s.dev))) ∧
       ∀ (l : Fin 272) (i b e : Nat), l.val = 256 + i → i < 16 → s.dev.regBit (Reg.cfgFabLaneTest i) 30 = true →
         s.dev.regBit (Reg.cfgFabLaneTest i) 26 = true →
         Completes (.prbsCheckerSynchronisation l (.counted b e)) s (fun d =>
           d.reg (Reg.cfgFabLanePrbsBits i) = s.dev.reg (Reg.cfgFabLanePrbsBits i) + BitVec.ofNat 64 b ∧
           d.reg (Reg.cfgFabLanePrbsErr i) = s.dev.reg (Reg.cfgFabLanePrbsErr i) + BitVec.ofNat 64 e ∧
           OnlyRegs [Reg.cfgFabLanePrbsBits i, Reg.cfgFabLanePrbsErr i] s.dev d))

/-- R314, R316 - R319, R336: training, lock, exchange and their failure. In EXCHANGE the fourth identical EXCH unit, once a unit
has echoed one of this end's, makes the link ACTIVE; in ACTIVE a differing one moves it back to EXCHANGE. (Readings of the
model that this rests on, where it meets them: notes/assumptions/64, 65, 66, 67.) Commands: TRAIN_COMPLETE, SYMBOL_LOCK,
BRING_UP_TIMEOUT, EXCH, ALIGNMENT_MARKER_LOSS. -/
def Obligations.LinksTrainLockAndExchange : Prop :=
  ∀ (s : State) (n : Fin 64) (x : Link), s.dev.alive = true → s.dev.link n = x →
    (s.dev.linkState n = 2 →
      (s.dev.linkRecordValid n = true → x.fullNext = false → s.dev.regBit (Reg.turLinkCtl n) 24 = false →
        Completes (.trainComplete n true) s (fun d =>
          d.linkState n = 3 ∧ d.regF (Reg.turLinkStatus n) 41 2 = 1 ∧
          d.regF (Reg.turLinkStatus n) 46 2 = (if x.gen2 then 2 else 1) ∧ OnlyRegs [Reg.turLinkStatus n] s.dev d)) ∧
      (∀ v : Bool, s.dev.linkRecordValid n = false ∨ x.fullNext = true ∨ s.dev.regBit (Reg.turLinkCtl n) 24 = true ∨ v = false →
        Completes (.trainComplete n v) s (fun d =>
          d.linkState n = 3 ∧ d.regF (Reg.turLinkStatus n) 41 2 = 2 ∧ d.regBit (Reg.turLinkCtl n) 24 = false ∧
          d.linkRecordValid n = true ∧ (d.link n).record.map (fun r => r.peer) = some (s.dev.peerIdentity n) ∧ (d.link n).fullNext = false ∧ SameMemory s.dev d ∧
          SameRegs [Reg.turLinkCtl n, Reg.turLinkStatus n] s.dev d))) ∧
    (s.dev.linkState n ≠ 2 → ∀ v : Bool, Completes (.trainComplete n v) s (fun d => d = s.dev)) ∧
    (∀ l : Fin 4,
      (s.dev.linkState n = 3 → l ≠ 0 → Completes (.symbolLock n l) s (fun d =>
        d.linkState n = 4 ∧ d.regF (Reg.turLinkStatus n) 44 2 = l ∧ (d.link n).lanes = l ∧ (d.link n).same = 0 ∧
        (d.link n).echoed = false ∧ SameMemory s.dev d ∧ SameRegs [Reg.turLinkStatus n] s.dev d)) ∧
      (s.dev.linkState n ≠ 3 ∨ l = 0 → Completes (.symbolLock n l) s (fun d => d = s.dev))) ∧
    (2 ≤ s.dev.linkState n → s.dev.linkState n ≤ 4 → Completes (.bringUpTimeout n) s (fun d =>
      d.linkState n = 1 ∧ d.reg (Reg.turTrainFailCnt n) = s.dev.reg (Reg.turTrainFailCnt n) + 1 ∧
      d.regBit (Reg.turLinkStatus n) 49 =
        (s.dev.regBit (Reg.turLinkStatus n) 49 || (x.gen2 && decide (s.dev.linkState n ≠ 4))) ∧
      (d.link n).gen2 = false ∧ SameMemory s.dev d ∧
      SameRegs [Reg.turLinkStatus n, Reg.turTrainFailCnt n] s.dev d)) ∧
    (s.dev.linkState n < 2 ∨ 4 < s.dev.linkState n → Completes (.bringUpTimeout n) s (fun d => d = s.dev)) ∧
    (∀ (u : ExchUnit) (e : Exchanged), e = { peer := u.peer, epoch := u.epoch } →
      (s.dev.linkState n = 4 → x.last ≠ some e → Completes (.exch n u) s (fun d =>
        d.linkState n = 4 ∧ (d.link n).last = some e ∧ (d.link n).same = 1 ∧ d.regs = s.dev.regs ∧ SameMemory s.dev d)) ∧
      (s.dev.linkState n = 4 → x.last = some e → x.same = 3 → x.echoed = true → x.sentTs = [] → x.lanes = 3 →
        fld u.peer 12 2 = 3 → s.dev.choosesGen2 n u.peer = x.gen2 →
        Completes (.exch n u) s (fun d =>
          d.linkState n = 5 ∧ d.reg (Reg.turLinkPeer n) = u.peer ∧ (d.link n).done = some e ∧
          d.regF (Reg.turLinkStatus n) 44 2 = 3 ∧ d.regF (Reg.turLinkStatus n) 46 2 = (if x.gen2 then 2 else 1) ∧
          d.regBit (Reg.turLinkStatus n) 43 = s.dev.choosesCorrect n u.peer x.gen2 ∧
          1 ≤ d.regF (Reg.turLinkStatus n) 53 3 ∧ d.regF (Reg.turLinkStatus n) 53 3 ≤ 4 ∧ SameMemory s.dev d ∧
          SameRegs [Reg.turLinkStatus n, Reg.turLinkPeer n, Reg.turLinkPeerEpoch n, Reg.cluStatus] s.dev d)) ∧
      (s.dev.linkState n = 5 →
        (x.done = some e → Completes (.exch n u) s (fun d =>
          d.link n = { x with ts := some (u.ts, s.dev.now) } ∧ d.regs = s.dev.regs ∧ SameMemory s.dev d)) ∧
        (x.done ≠ some e → Completes (.exch n u) s (fun d =>
          d.linkState n = 4 ∧ (d.link n).last = some e ∧ (d.link n).same = 1 ∧ (d.link n).held = [] ∧
          SameMemory s.dev d ∧ SameRegs [Reg.turLinkStatus n] s.dev d)))) ∧
    (s.dev.linkState n = 5 → Completes (.alignmentMarkerLoss n) s (fun d =>
      d.linkState n = 3 ∧ d.reg (Reg.turLockLossCnt n) = s.dev.reg (Reg.turLockLossCnt n) + 1 ∧
      (d.link n).held = [] ∧ SameMemory s.dev d ∧ SameRegs [Reg.turLinkStatus n, Reg.turLockLossCnt n] s.dev d)) ∧
    (s.dev.linkState n ≠ 5 → Completes (.alignmentMarkerLoss n) s (fun d => d = s.dev))

/-- R320 - R324, R330 - R334: frames, slots and flits of an ACTIVE link. A free slot carries waiting control units or nothing; a
corrupted flit holds its place and is asked for again, and is dropped at its deadline; a slot of a link without scheduled
traffic gives its thread four poisoned units. (Readings of the model that this rests on, where it meets them:
notes/assumptions/70, 71, 72, 73, 74, 75, 178, 179.) Commands: FRAME_START, FLIT_TRANSMIT, FLIT_RECEIVE, REPLAY_DEADLINE,
LINK_SLOT_DROP. -/
def Obligations.FramesCarryFlits : Prop :=
  ∀ (s : State) (n : Fin 64) (x : Link), s.dev.alive = true → s.dev.link n = x → s.dev.linkState n = 5 →
    (s.dev.now % s.dev.frameLen n = 0 → x.txFrame ≠ s.dev.now / s.dev.frameLen n →
      Completes (.frameStart n) s (fun d =>
        (d.link n).txFrame = s.dev.now / s.dev.frameLen n ∧ (d.link n).txSlot = 0 ∧ d.regs = s.dev.regs ∧
        SameMemory s.dev d ∧ d.lantern = s.dev.lantern)) ∧
    (x.txSlot < 31 → s.dev.slotBegin n x.txFrame x.txSlot ≤ s.dev.now →
      s.dev.slotEntry n x.txFrame x.txSlot = none → x.nakTx = none → mapGet [] s.dev.links.dyn n = [] →
      (s.dev.links.ctrl = [] → Completes (.flitTransmit n) s (fun d =>
        d.out = s.dev.out ++
          [.flit n { slot := x.txSlot, frame := x.txFrame % 2048, replay := none, nak := none, body := .idle }] ∧
        (d.link n).txSlot = x.txSlot + 1 ∧ d.regs = s.dev.regs ∧ SameMemory s.dev d)) ∧
      (∀ u : CtrlUnit, s.dev.links.ctrl = [u] → u.link = n.val → u.typ ≠ 0x10 → u.typ ≠ 0x11 →
        s.dev.regBit (Reg.turLinkStatus n) 50 = false →
        Completes (.flitTransmit n) s (fun d =>
          d.links.ctrl = [] ∧
          d.out = s.dev.out ++ [.flit n
            { slot := x.txSlot, frame := x.txFrame % 2048, replay := none, nak := none, body := .ctrl [(u.typ, u.words)] }] ∧
          (d.link n).txSlot = x.txSlot + 1 ∧ d.reg (Reg.turTxFlitCnt n) = s.dev.reg (Reg.turTxFlitCnt n) + 1 ∧
          SameRegs [Reg.turTxFlitCnt n] s.dev d ∧ SameMemory s.dev d))) ∧
    (∀ (fl : Flit) (f : Nat), s.dev.rxFrame n fl.frame = f → fl.slot < 31 → fl.replay = none → fl.nak = none → x.held = [] →
      s.dev.arrival n (s.dev.regF (Reg.turLinkStatus n) 24 12) f fl.slot ≤ s.dev.now →
      (x.badFrames.contains f = false → ∀ c : Nat, Completes (.flitReceive n fl c true) s (fun d =>
        (d.link n).held = [{ frame := f, flit := fl, ok := false, at_ := s.dev.now }] ∧
        (d.link n).nakTx = some (f, fl.slot, x.txFrame + 1) ∧ (d.link n).bad = x.bad ++ [(f, fl.slot)] ∧
        d.reg (Reg.turFlitBadCnt n) = s.dev.reg (Reg.turFlitBadCnt n) + 1 ∧
        SameRegs [Reg.turFlitBadCnt n] s.dev d ∧ SameMemory s.dev d ∧ d.lantern = s.dev.lantern)) ∧
      (∀ (u : NetFlit) (c : Nat), fl.body = .dyn [u] → u.head = true → u.tail = false → flitOk fl = true →
        s.dev.regBit (Reg.turLinkStatus n) 43 = true →
        Completes (.flitReceive n fl c false) s (fun d =>
          mapGet [] d.links.asm (2 * n + b2n u.vcr) = [u] ∧
          d.reg (Reg.turRxFlitCnt n) = s.dev.reg (Reg.turRxFlitCnt n) + 1 ∧
          d.reg (Reg.turFecCorrCnt n) = s.dev.reg (Reg.turFecCorrCnt n) + BitVec.ofNat 64 c ∧
          SameRegs [Reg.turRxFlitCnt n, Reg.turFecCorrCnt n] s.dev d ∧ SameMemory s.dev d ∧
          d.lantern = s.dev.lantern))) ∧
    (∀ (h : RxSlot) (us : List NetFlit), x.held = [h] → h.ok = false → h.flit.body = .dyn us →
      s.dev.slotEntry n h.frame h.flit.slot = none →
      s.dev.arrival n (s.dev.regF (Reg.turLinkStatus n) 24 12) (h.frame + s.dev.replayFrames n) 31 ≤ s.dev.now →
      Completes (.replayDeadline n h.frame) s (fun d =>
        (d.link n).held = [] ∧ d.reg (Reg.turDropDynCnt n) = s.dev.reg (Reg.turDropDynCnt n) + 1 ∧
        mapGet [] d.links.asm (2 * n) = [] ∧ mapGet [] d.links.asm (2 * n + 1) = [] ∧
        SameRegs [Reg.turDropDynCnt n] s.dev d ∧ SameMemory s.dev d)) ∧
    ∀ (f : Nat) (k : Fin 31),
      (rxThread (s.dev.slotEntry n f k) = none ∨ s.dev.carriesScheduled n = true →
        Completes (.linkSlotDrop n f k) s (fun d => d = s.dev)) ∧
      (∀ tk : Nat, rxThread (s.dev.slotEntry n f k) = some tk → s.dev.carriesScheduled n = false →
        x.dropNext ≤ 31 * f + k → s.dev.thread tk = none →
        s.dev.arrival n ((s.dev.linkEntry n).elim 0 (·.owl)) f k ≤ s.dev.now →
        Completes (.linkSlotDrop n f k) s (fun d =>
          d.reg (Reg.steLinkDropCnt (tk / 256)) = s.dev.reg (Reg.steLinkDropCnt (tk / 256)) + 4 ∧
          d.reg (Reg.turDropSchedCnt n) = s.dev.reg (Reg.turDropSchedCnt n) + 1 ∧
          (d.link n).dropNext = 31 * f + k + 1 ∧
          (∀ r : Run, s.dev.lantern.run = some r →
            d.lantern.run.map (fun u => u.poisoned && bit u.cause 2) = some true) ∧
          SameRegs [Reg.steLinkDropCnt (tk / 256), Reg.turDropSchedCnt n] s.dev d ∧ SameMemory s.dev d))

/-- R343 - R346, R360: frequency lock and alignment. The child answers ALIGN, the parent ALIGN_ECHO; from the four stamps the
child computes its offset: unaligned it steps once no task holds its Dome, aligned it trims up to half a gcyc and is LOST
beyond. (Readings of the model that this rests on, where it meets them: notes/assumptions/77, 78, 79, 80.) Commands: ALIGN,
ALIGN_ECHO, ALIGN_RESULT, ALIGNMENT_STEP, ALIGN_CHECK, REALIGN, FREQUENCY_LOCK. -/
def Obligations.MembersAlignTheirCounters : Prop :=
  ∀ (s : State) (n : Fin 64), s.dev.alive = true →
    (∀ t1 : Nat,
      (s.dev.isUpLink n = true → s.dev.freqSettled = true → s.dev.linkState n = 5 →
        Completes (.cluAlign n t1) s (fun d =>
          d.cluster = { s.dev.cluster with t1 := some t1, t2 := some (stamp64 s.dev.now64), t3 := none } ∧
          d.links = { s.dev.links with ctrl := s.dev.links.ctrl ++
            [{ link := n, typ := 0x11, words := [stamp64 s.dev.now64, 0] }] } ∧ d.regs = s.dev.regs ∧ SameMemory s.dev d)) ∧
      (s.dev.isUpLink n = false ∨ s.dev.freqSettled = false ∨ s.dev.linkState n ≠ 5 →
        Completes (.cluAlign n t1) s (fun d => d = s.dev))) ∧
    (∀ t2 t3 : Nat,
      (s.dev.alignsChild n = true → Completes (.cluAlignEcho n t2 t3) s (fun d =>
        d = { s.dev with links := { s.dev.links with ctrl := s.dev.links.ctrl ++
          [{ link := n, typ := 0x12, words := [stamp64 s.dev.now64] }] } })) ∧
      (s.dev.alignsChild n = false → Completes (.cluAlignEcho n t2 t3) s (fun d => d = s.dev))) ∧
    (∀ (t1 t2 t3 t4 : Nat) (theta : Int), s.dev.isUpLink n = true → s.dev.cluster.t1 = some t1 →
      s.dev.cluster.t2 = some t2 → s.dev.cluster.t3 = some t3 → theta = (stampDiff t2 t1 - stampDiff t4 t3) / 2 →
      (s.dev.alignState = 0 → s.dev.lantern.run = none → 0 ≤ s.dev.now64 - theta →
        Completes (.cluAlignResult n t4) s (fun d =>
          d.now64 = s.dev.now64 - theta ∧ d.alignState = 1 ∧
          d.reg Reg.cluAlignStepCnt = s.dev.reg Reg.cluAlignStepCnt + 1 ∧ d.regF Reg.cluAlign 32 6 = n ∧
          SameRegs [Reg.cluAlign, Reg.cluAlignStepCnt, Reg.cluStatus] s.dev d ∧ SameMemory s.dev d)) ∧
      (∀ r, s.dev.alignState = 0 → s.dev.lantern.run = some r → Completes (.cluAlignResult n t4) s (fun d =>
        d.cluster.step = some (-theta) ∧ d.belfry = s.dev.belfry ∧ d.lantern = s.dev.lantern ∧
        SameRegs [Reg.cluAlign] s.dev d ∧ SameMemory s.dev d)) ∧
      (s.dev.alignState = 1 → theta.natAbs ≤ 32 → Completes (.cluAlignResult n t4) s (fun d =>
        d.belfry = { s.dev.belfry with
          edge64 := s.dev.belfry.edge64 - s.dev.trimLeft s.dev.now - theta, trim := -theta, trimFrom := s.dev.now } ∧
        d.now64 = s.dev.now64 ∧ d.alignState = 1 ∧
        SameRegs [Reg.cluAlign] s.dev d ∧ SameMemory s.dev d)) ∧
      (s.dev.alignState = 1 → 32 < theta.natAbs → s.dev.lantern.run = none → Completes (.cluAlignResult n t4) s (fun d =>
        d.alignState = 2 ∧ d.reg Reg.cluAlignLostCnt = s.dev.reg Reg.cluAlignLostCnt + 1 ∧ d.belfry = s.dev.belfry ∧
        SameRegs [Reg.cluAlign, Reg.cluAlignLostCnt, Reg.cluStatus] s.dev d ∧ SameMemory s.dev d))) ∧
    (∀ r, s.dev.lantern.run = some r → Completes .alignmentStep s (fun d => d = s.dev)) ∧
    (s.dev.lantern.run = none → s.dev.alignState = 2 → Completes .alignmentStep s (fun d =>
      d.alignState = 0 ∧ d.freq = s.dev.freq ∧ OnlyRegs [Reg.cluStatus] s.dev d)) ∧
    (∀ c : Int, s.dev.lantern.run = none → s.dev.alignState = 0 → s.dev.cluster.step = some c → 0 ≤ s.dev.now64 + c →
      Completes .alignmentStep s (fun d =>
        d.now64 = s.dev.now64 + c ∧ d.alignState = 1 ∧ d.cluster.step = none ∧
        SameRegs [Reg.cluAlignStepCnt, Reg.cluStatus] s.dev d ∧ SameMemory s.dev d)) ∧
    (∀ m, s.dev.alignState = 1 → s.dev.cluster.member = some m →
      s.dev.cluster.lastCheck + 65536 * max 1 (s.dev.regF Reg.cluCtl 0 16) ≤ s.dev.now →
      Completes .alignCheck s (fun d =>
        d.cluster.lastCheck = s.dev.now ∧ d.regs = s.dev.regs ∧ SameMemory s.dev d ∧
        (∀ i < 64, s.dev.alignsChild i = true → { link := i, typ := 0x10, words := [0] } ∈ d.links.ctrl) ∧
        ∀ u ∈ s.dev.links.ctrl, u ∈ d.links.ctrl)) ∧
    (s.dev.alignState ≠ 1 ∨ s.dev.cluster.member = none → Completes .alignCheck s (fun d => d = s.dev)) ∧
    (s.dev.isMaster = true → Completes .realign s (fun d => d = s.dev)) ∧
    (s.dev.isMaster = false → Completes .realign s (fun d =>
      d.alignState = 0 ∧ d.freq = s.dev.freq ∧ d.cluster.step = none ∧ SameRegs [Reg.cluStatus] s.dev d ∧
      SameMemory s.dev d)) ∧
    (s.dev.freq = 1 → Completes .frequencyLock s (fun d =>
      d.freq = 2 ∧ d.alignState = s.dev.alignState ∧ OnlyRegs [Reg.cluStatus] s.dev d)) ∧
    (s.dev.freq ≠ 1 → Completes .frequencyLock s (fun d => d = s.dev))

/-- R196, R348, R350, R353: a START that a member has not seen is forwarded on every other membership link and waits for its
start cycle; there the member starts with it or sends NOSTART with the lowest reason. The master aborts on NOSTART. (Readings
of the model that this rests on, where it meets them: notes/assumptions/81, 82, 83, 84, 85, 148, 149.) Commands: CDONE_FALL,
START, START_READINESS, NOSTART. -/
def Obligations.ClusterStartsReachEveryMember : Prop :=
  ∀ (s : State) (n : Fin 64) (m : Member), s.dev.alive = true → s.dev.cluster.member = some m →
    (s.dev.pinsTaken = false → s.dev.belfry.cdone = true → s.dev.lantern.run = none →
      Completes .cdoneFall s (fun d =>
        d.belfry = { s.dev.belfry with cdone := false } ∧
        d.reg Reg.cluCdoneFallCnt = s.dev.reg Reg.cluCdoneFallCnt + 1 ∧ SameRegs [Reg.cluCdoneFallCnt] s.dev d ∧
        SameMemory s.dev d ∧ d.lantern = s.dev.lantern)) ∧
    (s.dev.belfry.cdone = false → Completes .cdoneFall s (fun d => d = s.dev)) ∧
    (∀ (start epoch : Nat) (slot : Fin 1024) (ctx seq : Fin 65536) (restart : Bool),
      ((0x13, seq.val) ∈ s.dev.cluster.seen →
        Completes (.cluStart n start slot epoch ctx restart seq) s (fun d => d = s.dev)) ∧
      ((0x13, seq.val) ∉ s.dev.cluster.seen → s.dev.isMaster = false → s.dev.power = 0 →
        Completes (.cluStart n start slot epoch ctx false seq) s (fun d =>
          (∃ p : CluPending, d.lantern = { s.dev.lantern with cluPend := some p } ∧ p.start = start ∧ p.slot = slot ∧
            p.epoch = epoch ∧ p.ctx = ctx ∧ p.retry = 0 ∧ p.late = decide (start < s.dev.now)) ∧
          d.links.ctrl = s.dev.links.ctrl ++ ((linksOf m.links).filter (· != n.val)).map (fun i =>
            { link := i, typ := 0x13, words := [start, slot, epoch, ctx, 0, seq] }) ∧
          (0x13, seq.val) ∈ d.cluster.seen ∧ d.cluster.member = some m ∧ d.regs = s.dev.regs ∧ SameMemory s.dev d))) ∧
    (∀ p : CluPending, s.dev.lantern.cluPend = some p → p.start ≤ s.dev.now →
      (∀ x : Nat, s.dev.startReason p.slot p.epoch p.ctx p.late = some x → s.dev.netRuns = true →
        Completes (.startReadiness []) s (fun d =>
          d.lantern = { s.dev.lantern with cluPend := none } ∧
          d.reg Reg.cluNostartCnt = s.dev.reg Reg.cluNostartCnt + 1 ∧
          d.controls = s.dev.controls ++ [{ link := m.upLink, typ := 0x17, words := [m.device, x] }] ∧
          SameRegs [Reg.cluNostartCnt] s.dev d ∧ SameMemory s.dev d)) ∧
      (s.dev.startReason p.slot p.epoch p.ctx p.late = none → p.ctx < 49152 → p.slot < 1024 →
        (∀ e ∈ s.dev.streams.threads, e.1 < 1024) →
        Completes (.startReadiness []) s (fun d =>
          (∃ r : Run, d.lantern.run = some r ∧ r.cluster = true ∧ r.ctx = p.ctx ∧ r.slot = p.slot ∧
            r.start = some p.start ∧ r.bank = s.dev.lantern.bank ∧ r.task = s.dev.lantern.nextId) ∧
          d.lantern.cluPend = none ∧ d.lantern.tasks.length = s.dev.lantern.tasks.length + 1 ∧
          d.streams.threads = [] ∧ (∀ i < 4096, d.reg (Reg.sprFlags i) = 0) ∧ SameMemory s.dev d))) ∧
    (s.dev.lantern.cluPend = none → s.dev.lantern.run = none → Completes (.startReadiness []) s (fun d => d = s.dev)) ∧
    ∀ (dev : Fin 1024) (reason : Fin 8),
      (s.dev.isUpLink n = true → Completes (.cluNoStart n dev reason) s (fun d => d = s.dev)) ∧
      (s.dev.isUpLink n = false → s.dev.isMaster = false →
        Completes (.cluNoStart n dev reason) s (fun d =>
          d = { s.dev with links := { s.dev.links with ctrl := s.dev.links.ctrl ++
            [{ link := m.upLink, typ := 0x17, words := [dev, reason] }] } })) ∧
      (∀ (r : Run) (t : Task), s.dev.isUpLink n = false → s.dev.isMaster = true → s.dev.lantern.run = some r →
        r.cluster = true → s.dev.task r.task = some t → t.state = .starting → s.dev.cluster.abortFrom = none →
        0 < m.membersM1 →
        Completes (.cluNoStart n dev reason) s (fun d =>
          d.cluster.abortFrom = some s.dev.now ∧ (d.lantern.run.map (fun u => (u.aborted, u.start, u.decided))) =
            some (true, none, some 0xA) ∧
          d.reg Reg.errFrCnt = s.dev.reg Reg.errFrCnt + 1 ∧ d.cluster.nextSeq = (s.dev.cluster.nextSeq + 1) % 65536 ∧
          (∀ i ∈ linksOf m.links, { link := i, typ := 0x14, words := [r.ctx, s.dev.cluster.nextSeq] } ∈ d.controls) ∧
          SameMemory s.dev d))

/-- R197, R198, R349, R350, R352, R355: aborts, reports and the end of a cluster task. (Readings of the model that this rests on,
where it meets them: notes/assumptions/81, 82, 83, 84, 85, 156.) Commands: ABORT, FINAL, REPORT, REPORT_SEND,
REPORT_DEADLINE, ABORT_REQ, CLUSTER_ABORT_TIMEOUT. -/
def Obligations.ClusterTasksEndTogether : Prop :=
  ∀ (s : State) (n : Fin 64) (m : Member), s.dev.alive = true → s.dev.cluster.member = some m →
    (∀ (dev : Fin 1024) (ctx : Fin 65536),
      (s.dev.isUpLink n = true → Completes (.cluAbortReq n dev ctx) s (fun d => d = s.dev)) ∧
      (s.dev.isUpLink n = false → s.dev.isMaster = false → Completes (.cluAbortReq n dev ctx) s (fun d =>
        d = { s.dev with links := { s.dev.links with ctrl := s.dev.links.ctrl ++
          [{ link := m.upLink, typ := 0x19, words := [dev, ctx] }] } })) ∧
      (∀ (r : Run) (t : Task), s.dev.isUpLink n = false → s.dev.isMaster = true → s.dev.lantern.run = some r →
        r.cluster = true → r.ctx = ctx.val → s.dev.task r.task = some t → t.state = .completing →
        s.dev.cluster.abortFrom = none → 0 < m.membersM1 →
        Completes (.cluAbortReq n dev ctx) s (fun d =>
          d.cluster.abortFrom = some s.dev.now ∧
          d.lantern.run = some { r with aborted := true, decided := some 0xA } ∧
          (∀ i ∈ linksOf m.links, { link := i, typ := 0x14, words := [ctx.val, s.dev.cluster.nextSeq] } ∈ d.controls) ∧
          d.regs = s.dev.regs ∧ SameMemory s.dev d))) ∧
    (∀ ctx seq : Fin 65536,
      ((0x14, seq.val) ∈ s.dev.cluster.seen → Completes (.cluAbort n ctx seq) s (fun d => d = s.dev)) ∧
      ((0x14, seq.val) ∉ s.dev.cluster.seen → s.dev.isMaster = false → s.dev.lantern.run = none →
        s.dev.lantern.cluPend = none → s.dev.netRuns = true →
        Completes (.cluAbort n ctx seq) s (fun d =>
          d.links.ctrl = s.dev.links.ctrl ++ ((linksOf m.links).filter (· != n.val)).map (fun i =>
              { link := i, typ := 0x14, words := [ctx.val, seq] }) ∧
          d.controls.filter (fun u => u.typ == 0x16) = s.dev.controls.filter (fun u => u.typ == 0x16) ++
            [{ link := m.upLink, typ := 0x16, words := [0xA, 0, 0, 0, 1, m.device, 1, 1] }] ∧
          d.lantern = s.dev.lantern ∧ d.regs = s.dev.regs ∧ SameMemory s.dev d))) ∧
    (∀ rep : ReportUnit,
      (s.dev.isUpLink n = true → Completes (.cluReport n rep) s (fun d => d = s.dev)) ∧
      (s.dev.isUpLink n = false → s.dev.isMaster = false → s.dev.lantern.run = none →
        Completes (.cluReport n rep) s (fun d =>
          d = { s.dev with links := { s.dev.links with ctrl := s.dev.links.ctrl ++
            [{ link := m.upLink, typ := 0x16, words := reportWords rep }] } })) ∧
      (∀ (r : Run) (t : Task), s.dev.isUpLink n = false → s.dev.lantern.run = some r → r.cluster = true →
        s.dev.task r.task = some t → t.state = .completing →
        (s.dev.isMaster = true ∧ s.dev.cluster.abortFrom = none ∨
          s.dev.isMaster = false ∧ r.aborted = false ∧ s.dev.cluster.reported = false) →
        Completes (.cluReport n rep) s (fun d =>
          d.cluster.reports.find? (fun e => e.1 == n.val) = some (n.val, rep) ∧
          (∀ i, i ≠ n.val → d.cluster.reports.find? (fun e => e.1 == i) = s.dev.cluster.reports.find? (fun e => e.1 == i)) ∧
          d = { s.dev with cluster := { s.dev.cluster with reports := d.cluster.reports } }))) ∧
    (∀ (r : Run) (t : Task) (st : Nat), s.dev.lantern.run = some r → r.cluster = true → s.dev.task r.task = some t →
      t.state = .completing → r.decided = some st → m.children = [] →
      (s.dev.isMaster = false → s.dev.cluster.reported = false → r.aborted = false →
        t.since + 1 + m.reportOff ≤ s.dev.now → s.dev.netRuns = true →
        Completes .reportSend s (fun d =>
          d.cluster = { s.dev.cluster with reported := true } ∧ d.lantern = s.dev.lantern ∧ d.regs = s.dev.regs ∧
          (∃ ws : List Nat, d.controls = s.dev.controls ++ [{ link := m.upLink, typ := 0x16, words := ws }] ∧
            ws.head? = some st ∧ ws.getLast? = some 1) ∧ SameMemory s.dev d)) ∧
      (s.dev.isMaster = true → Completes .reportSend s (fun d => d = s.dev)) ∧
      (s.dev.isMaster = false → Completes (.reportDeadline []) s (fun d => d = s.dev)) ∧
      (s.dev.isMaster = true → s.dev.cluster.abortFrom = none → st = 8 → r.queues = [] → t.remote = false →
        t.ring < 256 → t.since + 1 + fld (wd r.header 2) 32 16 ≤ s.dev.now →
        Completes (.reportDeadline []) s (fun d =>
          d.lantern.run = none ∧ (d.lantern.save.map (fun v => (v.ctx, v.bank))) = some (r.ctx, r.bank) ∧
          d.reg Reg.lntTaskCnt = s.dev.reg Reg.lntTaskCnt + 1 ∧ (∀ u ∈ d.lantern.tasks, u.id ≠ t.id) ∧
          (∀ i ∈ linksOf m.links, { link := i, typ := 0x15, words := [8, s.dev.cluster.nextSeq] } ∈ d.controls) ∧
          SameMemory s.dev d))) ∧
    (∀ (st : Fin 16) (seq : Fin 65536),
      ((0x15, seq.val) ∈ s.dev.cluster.seen → Completes (.cluFinal n st seq) s (fun d => d = s.dev)) ∧
      (∀ (r : Run) (t : Task), (0x15, seq.val) ∉ s.dev.cluster.seen → s.dev.isMaster = false →
        s.dev.lantern.run = some r → r.cluster = true → r.queues = [] → s.dev.task r.task = some t → t.remote = true →
        Completes (.cluFinal n 8 seq) s (fun d =>
          d.lantern.run = none ∧ d.lantern.save = some { ctx := r.ctx, bank := r.bank, done := s.dev.now + 15 } ∧
          d.lantern.tasks = s.dev.lantern.tasks.filter (fun u => u.id != t.id) ∧
          d.reg Reg.lntTaskCnt = s.dev.reg Reg.lntTaskCnt + 1 ∧ d.out = s.dev.out ∧ SameMemory s.dev d))) ∧
    (s.dev.cluster.abortFrom = none ∨ s.dev.lantern.run = none →
      Completes .clusterAbortTimeout s (fun d => d = s.dev)) ∧
    ∀ (r : Run) (t : Task) (g : Nat), s.dev.lantern.run = some r → s.dev.cluster.abortFrom = some g →
      s.dev.lantern.tasks = [t] → r.task = t.id → t.state = .running → r.queues = [] → t.remote = false → t.ring < 256 →
      g + 10000 ≤ s.dev.now →
      Completes .clusterAbortTimeout s (fun d =>
        d.lantern.run = none ∧ d.lantern.tasks = [] ∧ d.cluster.abortFrom = none ∧
        d.reg Reg.lntAbortCnt = s.dev.reg Reg.lntAbortCnt + 1 ∧ d.reg Reg.lntTaskCnt = s.dev.reg Reg.lntTaskCnt + 1 ∧
        (∀ i ∈ linksOf m.links, { link := i, typ := 0x15, words := [0xA, s.dev.cluster.nextSeq] } ∈ d.controls) ∧
        SameMemory s.dev d)

/-- R347, R408 - R412, R422, R423, R430: a load from START to its body. A header that fails a check is refused and changes
nothing; an accepted FULL load waits for the running task, then clears the planes; an abort ends the load with 0x16.
(Readings of the model that this rests on, where it meets them: notes/assumptions/105, 106, 107.) Commands: CFG_START,
CFG_ABORT, CFG_PORT, BITSTREAM_HEADER, LOAD_HOLD_RELEASE, FULL_CLEAR_COMPLETE. -/
def Obligations.LoadsStartAndCheckTheirHeader : Prop :=
  ∀ (s : State), s.dev.alive = true →
    (∀ v : BitVec 32, fld v 28 2 = 2 → s.dev.cfgState ≠ 7 → s.dev.regF Reg.kepStatus 28 4 ≠ 4 →
      (s.dev.load = none → Completes (.cfgStart v) s (fun d =>
        (∃ l : Load, d.load = some l ∧ l.src = 2 ∧ l.phase = .header ∧ l.buf = [] ∧ l.addr = (s.dev.reg Reg.cfgSrcAddr).toNat ∧
          l.len = s.dev.regF Reg.cfgSrcLen 0 48) ∧
        d.reg Reg.cfgErr = 0 ∧ d.reg Reg.cfgErrLoc = 0 ∧ d.regBit Reg.cfgStatus 4 = true ∧ d.regF Reg.cfgStatus 32 32 = 0 ∧
        d.cfgState = s.dev.cfgState ∧ d.regF Reg.cfgCtl 28 2 = 2 ∧ d.regF Reg.cfgCtl 0 24 = fld v 0 24 ∧
        SameRegs [Reg.cfgErr, Reg.cfgErrLoc, Reg.cfgStatus, Reg.cfgCtl] s.dev d ∧ SameMemory s.dev d)) ∧
      (∀ l, s.dev.load = some l → Completes (.cfgStart v) s (fun d =>
        d.regF Reg.cfgCtl 0 24 = fld v 0 24 ∧ OnlyRegs [Reg.cfgCtl] s.dev d))) ∧
    (∀ v : BitVec 32, s.dev.load = none → Completes (.cfgAbort v) s (fun d =>
      d.regF Reg.cfgCtl 0 24 = fld v 0 24 ∧ OnlyRegs [Reg.cfgCtl] s.dev d)) ∧
    (∀ bs, s.dev.load = none → Completes (.cfgPort bs) s (fun d => d = s.dev)) ∧
    ∀ l : Load, s.dev.load = some l →
      (∀ v : BitVec 32, l.phase = .header → s.dev.regBit Reg.cfgErr 63 = false → Completes (.cfgAbort v) s (fun d =>
        d.load = none ∧ d.regBit Reg.cfgErr 63 = true ∧ d.regF Reg.cfgErr 48 8 = 0x16 ∧ d.regBit Reg.cfgStatus 4 = false ∧
        d.cfgState = s.dev.cfgState ∧ SameMemory s.dev d ∧
        SameRegs [Reg.cfgCtl, Reg.cfgErr, Reg.cfgErrLoc, Reg.cfgStatus] s.dev d)) ∧
      (∀ bs : List (Option Byte),
        (l.src = 2 → l.phase ≠ .refused → Completes (.cfgPort bs) s (fun d =>
          d = { s.dev with load := some { l with buf := l.buf ++ bs.filterMap id, waitFrom := s.dev.now } })) ∧
        (l.src ≠ 2 → Completes (.cfgPort bs) s (fun d => d = s.dev))) ∧
      (l.phase = .header → l.buf.length < 128 → Completes .bitstreamHeader s (fun d => d = s.dev)) ∧
      (∀ c : Nat, l.phase = .header → 128 ≤ l.buf.length → s.dev.headerCode (l.buf.take 128) = some c → c < 256 →
        s.dev.regBit Reg.cfgErr 63 = false →
        Completes .bitstreamHeader s (fun d =>
          d.reg Reg.cfgHdrRefuseCnt = s.dev.reg Reg.cfgHdrRefuseCnt + 1 ∧ d.regF Reg.cfgErr 48 8 = c ∧
          d.regBit Reg.cfgErr 63 = true ∧ d.cfgState = s.dev.cfgState ∧ d.reg Reg.cfgLoadCnt = s.dev.reg Reg.cfgLoadCnt ∧
          (l.src = 2 → d.load = some { l with phase := .refused, buf := [], waitFrom := s.dev.now }) ∧
          (l.src ≠ 2 → d.load = none) ∧ SameMemory s.dev d ∧ d.lantern = s.dev.lantern ∧
          SameRegs [Reg.cfgHdrRefuseCnt, Reg.cfgErr, Reg.cfgErrLoc, Reg.cfgStatus] s.dev d)) ∧
      (∀ r, l.phase = .header → 128 ≤ l.buf.length → s.dev.headerCode (l.buf.take 128) = none →
        fld (wordAt l.buf 1) 40 4 ≤ 2 → s.dev.lantern.run = some r →
        Completes .bitstreamHeader s (fun d =>
          d.reg Reg.cfgLoadCnt = s.dev.reg Reg.cfgLoadCnt + 1 ∧ d.cfgState = 1 ∧ d.regBit Reg.cfgStatus 12 = true ∧
          (∃ k : Load, d.load = some k ∧ k.phase = .held ∧ k.header = l.buf.take 128 ∧ k.buf = l.buf.drop 128 ∧
            k.before = s.dev.cfgState) ∧
          SameMemory s.dev d ∧ d.lantern = s.dev.lantern ∧ SameRegs [Reg.cfgLoadCnt, Reg.cfgStatus] s.dev d)) ∧
      (∀ r, l.phase = .held → s.dev.lantern.run = some r → Completes .loadHoldRelease s (fun d => d = s.dev)) ∧
      (l.phase = .held → s.dev.lantern.run = none → l.kind = 1 → Completes .loadHoldRelease s (fun d =>
        (d.load.map (fun k => (k.phase, k.header))) = some (.clearing, l.header) ∧ d.cfgMem = [] ∧
        d.tile = Store.initial ∧ d.streams.cache = Store.initial ∧ d.maintCfg = true ∧ d.belfry.cdoneLow = true ∧
        (∀ k < 1024, d.slotValid k = false) ∧ d.cluster.member = none ∧
        d.regBit Reg.cfgStatus 12 = false ∧ d.regBit Reg.cfgStatus 6 = false ∧ d.regBit Reg.cfgStatus 5 = false ∧
        d.hbm.mem = s.dev.hbm.mem ∧ d.queues = s.dev.queues ∧ d.out = s.dev.out)) ∧
      (l.phase = .clearing → l.src = 2 → Completes .fullClearComplete s (fun d =>
        d = { s.dev with load := some { l with phase := .body, waitFrom := s.dev.now } })) ∧
      (l.phase ≠ .clearing → Completes .fullClearComplete s (fun d => d = s.dev))

/-- R413 - R419, R422, R424: blocks and packets of a load. A block that its CRC confirms is added to the body, any other ends the
load with 0x10; a frame goes to the current frame address, replication to the given one; SETADDR outside a plane ends the
load with 0x12. (Readings of the model that this rests on, where it meets them: notes/assumptions/108, 109, 110, 111.)
Commands: BLOCK, NOP_PACKET, SETADDR, FRAMES, REPLICATE, STARTUP. -/
def Obligations.BlocksAndPacketsFillThePlanes : Prop :=
  ∀ (s : State) (l : Load), s.dev.alive = true → s.dev.load = some l → l.done < 2 ^ 40 →
    s.dev.regBit Reg.cfgErr 63 = false →
    (∀ n : Nat, n = l.blockLen l.block → l.phase = .body → l.block < l.blocks → n + 16 ≤ l.buf.length →
      bit (wordAt l.header 1) 48 = false →
      ((l.buf.drop n).take 16 = natBytes 4 (crc32c (l.buf.take n)).toNat ++ List.replicate 12 0 → l.src = 2 →
        l.done + 16 ≤ l.bodyLen →
        ∀ k : Load, k = { l with
            buf := l.buf.drop (n + 16), body := l.body ++ l.buf.take n, block := l.block + 1,
            trailers := l.trailers ++ (l.buf.drop n).take 16, waitFrom := s.dev.now } →
          k.packetBad = false → Completes .cfgBlock s (fun d => d = { s.dev with load := some k })) ∧
      ((l.buf.drop n).take 16 ≠ natBytes 4 (crc32c (l.buf.take n)).toNat ++ List.replicate 12 0 → l.kind = 3 →
        Completes .cfgBlock s (fun d =>
          d.load = none ∧ d.regF Reg.cfgErr 48 8 = 0x10 ∧ d.reg Reg.cfgLoadFailCnt = s.dev.reg Reg.cfgLoadFailCnt + 1 ∧
          d.cfgState = 4 ∧ d.regBit Reg.cfgStatus 4 = false ∧ SameMemory s.dev d ∧
          SameRegs [Reg.cfgErr, Reg.cfgErrLoc, Reg.cfgLoadFailCnt, Reg.cfgStatus] s.dev d))) ∧
    (l.block ≥ l.blocks → Completes .cfgBlock s (fun d => d = s.dev)) ∧
    (∀ op : Nat, s.dev.packet op = some l → l.body.length < l.plen + 32 → l.done + l.plen + 32 ≤ l.bodyLen →
      ∀ k : Load, k = { l with body := l.body.drop (16 + l.plen), done := l.done + 16 + l.plen } →
        (op = 0x00 → Completes .nopPacket s (fun d => d = { s.dev with load := some k })) ∧
        (op = 0x01 → ∀ i, frameIndex (BitVec.ofNat 40 (fld l.p1 0 40)) = some i →
          Completes .cfgSetAddr s (fun d =>
            d = { s.dev with load := some { k with faddr := BitVec.ofNat 40 (fld l.p1 0 40), past := false } })) ∧
        (op = 0x01 → frameIndex (BitVec.ofNat 40 (fld l.p1 0 40)) = none → l.kind = 3 →
          Completes .cfgSetAddr s (fun d =>
            d.load = none ∧ d.regF Reg.cfgErr 48 8 = 0x12 ∧ d.cfgState = 4 ∧ SameMemory s.dev d)) ∧
        (∀ i : Nat, op = 0x02 → bit l.p0 8 = false → l.plen = 1024 → l.past = false → frameIndex l.faddr = some i →
          s.dev.frameAllowed l l.faddr = true →
          Completes .cfgFrames s (fun d =>
            memRead d.cfgMem (1024 * i) 1024 = (l.body.drop 16).take 1024 ∧
            (∀ a, a < 1024 * i ∨ 1024 * i + 1024 ≤ a → memByte d.cfgMem a = memByte s.dev.cfgMem a) ∧
            (∃ m : Load, d.load = some m ∧ m.frame = some ((l.body.drop 16).take 1024) ∧ m.frames = l.frames + 1 ∧
              m.body = k.body ∧ m.done = k.done ∧ ∀ f, nextFrame l.faddr = some f → m.faddr = f) ∧
            d.reg Reg.cfgFrameCnt = s.dev.reg Reg.cfgFrameCnt + 1 ∧ SameRegs [Reg.cfgFrameCnt, Reg.cfgStatus] s.dev d ∧
            d.hbm = s.dev.hbm ∧ d.tile = s.dev.tile ∧ d.streams = s.dev.streams)) ∧
        (∀ (i : Nat) (f : List Byte) (a : BitVec 40), op = 0x03 → l.frame = some f → f.length = 1024 →
          fld l.p1 40 16 = 0 → a = BitVec.ofNat 40 (fld l.p1 0 40) → frameIndex a = some i →
          s.dev.frameAllowed l a = true →
          Completes .cfgReplicate s (fun d =>
            memRead d.cfgMem (1024 * i) 1024 = f ∧
            (∀ b, b < 1024 * i ∨ 1024 * i + 1024 ≤ b → memByte d.cfgMem b = memByte s.dev.cfgMem b) ∧
            (∃ m : Load, d.load = some m ∧ m.frame = some f ∧ m.frames = l.frames + 1 ∧ m.faddr = l.faddr ∧
              m.body = k.body) ∧
            d.reg Reg.cfgFrameCnt = s.dev.reg Reg.cfgFrameCnt + 1 ∧ SameRegs [Reg.cfgFrameCnt, Reg.cfgStatus] s.dev d ∧
            d.hbm = s.dev.hbm ∧ d.tile = s.dev.tile ∧ d.streams = s.dev.streams)) ∧
        (op = 0x04 → Completes .cfgStartupPacket s (fun d =>
          d.reg Reg.cfgStartup = l.p1 ∧ d.load = some k ∧ SameRegs [Reg.cfgStartup] s.dev d ∧ SameMemory s.dev d)))

/-- R182, R396, R399, R421, R422, R424 - R426: slots and regions open and close, END compares the frame count, and a source that
stays silent ends the load. (Readings of the model that this rests on, where it meets them: notes/assumptions/113, 115.)
Commands: SLOT_BEGIN, SLOT_END, REGION_BEGIN, REGION_END, END_PACKET, IDLE_LIMIT_EXPIRY. -/
def Obligations.SlotsRegionsAndTheEndOfALoad : Prop :=
  ∀ (s : State) (l : Load), s.dev.alive = true → s.dev.load = some l → l.done < 2 ^ 40 →
    s.dev.regBit Reg.cfgErr 63 = false → s.dev.lantern.tasks = [] →
    (∀ (op n : Nat), s.dev.packet op = some l → l.body.length < 32 → l.plen = 0 → l.done + 32 ≤ l.bodyLen →
      fld l.p1 0 10 = n →
      (op = 0x05 → s.dev.lantern.run = none → Completes .slotBegin s (fun d =>
        (d.load.map (fun k => (k.openSlot, k.done))) = some (some n, l.done + 16) ∧ d.slotValid n = false ∧
        n ∈ d.lantern.rewriting ∧ (∀ m < 1024, m ≠ n → d.slotValid m = s.dev.slotValid m) ∧ SameMemory s.dev d ∧
        SameRegs [Reg.lntSlotValid (n / 64)] s.dev d)) ∧
      (∀ r, op = 0x05 → s.dev.lantern.run = some r → r.slot = n → Completes .slotBegin s (fun d =>
        d.load = some { l with slotHeld := true } ∧ d.regBit Reg.cfgStatus 12 = true ∧ d.lantern = s.dev.lantern ∧
        SameRegs [Reg.cfgStatus] s.dev d ∧ SameMemory s.dev d)) ∧
      (op = 0x06 →
        (s.dev.slotEmpty n = false → s.dev.slotCode n s.dev.validSlots = none → Completes .slotEnd s (fun d =>
          d.regBit (Reg.lntSlotValid (n / 64)) (n % 64) = true ∧ n ∉ d.lantern.rewriting ∧
          (d.load.map (fun k => k.openSlot)) = some none ∧ SameRegs [Reg.lntSlotValid (n / 64)] s.dev d ∧
          SameMemory s.dev d)) ∧
        (∀ c : Nat, s.dev.slotEmpty n = false → s.dev.slotCode n s.dev.validSlots = some c → c < 256 →
          Completes .slotEnd s (fun d =>
            d.slotValid n = false ∧ d.reg Reg.cfgSlotRefuseCnt = s.dev.reg Reg.cfgSlotRefuseCnt + 1 ∧
            d.regF Reg.cfgSlotErr 0 10 = n ∧ d.regF Reg.cfgSlotErr 16 8 = c ∧ d.regBit Reg.cfgSlotErr 31 = true ∧
            (d.load.map (fun k => k.openSlot)) = some none ∧ SameMemory s.dev d)) ∧
        (s.dev.slotEmpty n = true → Completes .slotEnd s (fun d =>
          d.slotValid n = false ∧ (d.load.map (fun k => k.openSlot)) = some none ∧
          SameRegs [Reg.lntSlotValid (n / 64)] s.dev d ∧ SameMemory s.dev d))) ∧
      (op = 0x07 → n < 48 → Completes .regionBegin s (fun d =>
        d.regBit Reg.cfgRegionValid n = false ∧ bit d.fabric.running n = false ∧ bit d.fabric.writeEn n = false ∧
        (d.load.map (fun k => k.openRegion)) = some (some n) ∧
        (∀ i < 64, i ≠ n → d.regBit Reg.cfgRegionValid i = s.dev.regBit Reg.cfgRegionValid i) ∧
        SameRegs [Reg.cfgRegionValid, Reg.cfgFabApStatus] s.dev d ∧ SameMemory s.dev d)) ∧
      (op = 0x08 → n < 48 → l.kind = 3 → Completes .regionEnd s (fun d =>
        SameMemory s.dev d ∧
        (s.dev.fabricCode (· == n) = none →
          d.regBit Reg.cfgRegionValid n = true ∧ bit d.fabric.running n = true ∧ bit d.fabric.writeEn n = true ∧
          (d.load.map (fun k => k.openRegion)) = some none) ∧
        (∀ c : Nat, s.dev.fabricCode (· == n) = some c →
          d.load = none ∧ d.reg Reg.cfgLoadFailCnt = s.dev.reg Reg.cfgLoadFailCnt + 1 ∧ d.cfgState = 4)))) ∧
    (s.dev.packet 0x0F = some l → l.kind = 3 → l.openSlot = none →
      (fld l.p1 0 40 ≠ l.frames → Completes .endPacket s (fun d =>
        d.load = none ∧ d.regF Reg.cfgErr 48 8 = 0x14 ∧ d.reg Reg.cfgLoadFailCnt = s.dev.reg Reg.cfgLoadFailCnt + 1 ∧
        d.cfgState = 4 ∧ SameMemory s.dev d)) ∧
      (fld l.p1 0 40 = l.frames → Completes .endPacket s (fun d =>
        d.load = none ∧ d.cfgState = 4 ∧ d.regBit Reg.cfgStatus 4 = false ∧ d.keep.fuses = s.dev.keep.fuses ∧
        SameRegs [Reg.cfgStatus] s.dev d ∧ SameMemory s.dev d))) ∧
    (l.phase = .header → l.need ≠ 0 → l.slotHeld = false →
      l.waitFrom + 1000 * s.dev.regF Reg.cfgCtl 0 24 ≤ s.dev.now →
      Completes .idleLimitExpiry s (fun d =>
        d.load = none ∧ d.regF Reg.cfgErr 48 8 = 0x15 ∧ d.regBit Reg.cfgErr 63 = true ∧ SameMemory s.dev d ∧
        SameRegs [Reg.cfgErr, Reg.cfgErrLoc, Reg.cfgStatus] s.dev d)) ∧
    (l.slotHeld = true → Completes .idleLimitExpiry s (fun d => d = s.dev))

/-- R347, R424, R428, R430: start-up after a FULL load goes through LOCK, its three stages and CDONE; readback returns the frame,
or is refused. (Readings of the model that this rests on, where it meets them: notes/assumptions/115, 118.) Commands:
CDONE_RISE, LOCK_STAGE, LOCK_LIMIT_EXPIRY, OUT_REL, WR_EN, RST_REL, CDONE_STAGE, READBACK, READBACK_COMPLETE. -/
def Obligations.StartupStagesAndReadback : Prop :=
  ∀ (s : State), s.dev.alive = true →
    (∀ l : Load, s.dev.load = some l →
      (l.phase = .lock →
        Completes .lockStage s (fun d =>
          (d.load.map (fun k => k.phase)) = some (.stages (stageOrder (s.dev.reg Reg.cfgStartup))) ∧
          SameRegs [Reg.cfgFabPllStatus] s.dev d ∧ SameMemory s.dev d) ∧
        (l.waitFrom + 100000 * s.dev.regF Reg.cfgStartup 24 8 ≤ s.dev.now → l.kind = 1 → s.dev.lantern.tasks = [] →
          l.done < 2 ^ 40 → s.dev.regBit Reg.cfgErr 63 = false →
          Completes .lockLimitExpiry s (fun d =>
            d.load = none ∧ d.regF Reg.cfgErr 48 8 = 0x40 ∧ d.cfgState = 6 ∧ d.belfry.cdoneLow = true ∧ d.maintCfg = true ∧ (∀ k < 1024, d.slotValid k = false) ∧
            d.reg Reg.cfgLoadFailCnt = s.dev.reg Reg.cfgLoadFailCnt + 1 ∧ SameMemory s.dev d))) ∧
      (l.phase ≠ .lock →
        Completes .lockStage s (fun d => d = s.dev) ∧ Completes .lockLimitExpiry s (fun d => d = s.dev)) ∧
      (∀ (c : Nat) (rest : List Nat), l.phase = .stages (c :: rest) → rest.length ≤ 2 →
        l.waitFrom + 20 * s.dev.regF Reg.cfgStartup 8 8 ≤ s.dev.now →
        (c = 1 → Completes .outRel s (fun d =>
          d.load = some { l with phase := .stages rest, waitFrom := s.dev.now } ∧ d.regF Reg.cfgRegionValid 0 48 = 2 ^ 48 - 1 ∧
          d.reg Reg.cfgFabApStatus = -1 ∧ d.regF Reg.cfgStatus 16 4 = 4 - rest.length ∧ SameMemory s.dev d)) ∧
        (c = 2 → Completes .wrEn s (fun d =>
          d.load = some { l with phase := .stages rest, waitFrom := s.dev.now } ∧ d.fabric.writeEn = -1 ∧
          d.regF Reg.cfgStatus 16 4 = 4 - rest.length ∧ SameRegs [Reg.cfgStatus] s.dev d ∧ SameMemory s.dev d)) ∧
        (c = 3 → Completes .rstRel s (fun d =>
          d.load = some { l with phase := .stages rest, waitFrom := s.dev.now } ∧ d.fabric.running = -1 ∧
          d.maintCfg = false ∧ d.regF Reg.cfgStatus 16 4 = 4 - rest.length ∧ SameRegs [Reg.cfgStatus] s.dev d ∧
          SameMemory s.dev d)) ∧
        (c ≠ 1 → Completes .outRel s (fun d => d = s.dev)) ∧ (c ≠ 2 → Completes .wrEn s (fun d => d = s.dev)) ∧
        (c ≠ 3 → Completes .rstRel s (fun d => d = s.dev))) ∧
      (l.phase = .stages [] → l.waitFrom + 20 * s.dev.regF Reg.cfgStartup 8 8 ≤ s.dev.now → s.dev.pinsTaken = false →
        s.dev.regBit Reg.cfgStartup 16 = true → s.dev.belfry.cdone = false →
        Completes .cdoneStage s (fun d =>
          d.belfry = { s.dev.belfry with cdoneLow := false } ∧ d.cfgState = 3 ∧ d.regF Reg.cfgStatus 16 4 = 5 ∧
          d.load = some { l with phase := .cdone } ∧ SameRegs [Reg.cfgStatus] s.dev d ∧ SameMemory s.dev d)) ∧
      (l.phase = .stages [] → l.waitFrom + 20 * s.dev.regF Reg.cfgStartup 8 8 ≤ s.dev.now → s.dev.pinsTaken = false →
        s.dev.regBit Reg.cfgStartup 16 = false → l.kind = 1 → l.openSlot = none → s.dev.lantern.tasks = [] →
        Completes .cdoneStage s (fun d =>
          d.load = none ∧ d.cfgState = 4 ∧ d.regF Reg.cfgStatus 16 4 = 6 ∧ d.belfry.cdoneLow = false ∧
          d.reg Reg.cfgDesignId = wordAt l.header 2 ∧ SameRegs [Reg.cfgStatus, Reg.cfgDesignId] s.dev d ∧
          SameMemory s.dev d)) ∧
      (s.dev.pinsTaken = false → s.dev.belfry.cdoneLow = false → l.phase = .cdone → l.kind = 1 → l.openSlot = none →
        s.dev.lantern.tasks = [] →
        Completes .cdoneRise s (fun d =>
          d.belfry.cdone = true ∧ d.load = none ∧ d.cfgState = 4 ∧ d.reg Reg.cfgDesignId = wordAt l.header 2 ∧
          SameMemory s.dev d))) ∧
    (s.dev.belfry.cdoneLow = true → Completes .cdoneRise s (fun d => d = s.dev)) ∧
    (s.dev.pinsTaken = false → s.dev.belfry.cdoneLow = false → s.dev.load = none → Completes .cdoneRise s (fun d =>
      d = { s.dev with belfry := { s.dev.belfry with cdone := true } })) ∧
    (∀ w : Word, bit w 63 = false → Completes (.readback w) s (fun d =>
      d.reg Reg.cfgRbAddr = BitVec.ofNat 64 (fld w 0 40) ∧ OnlyRegs [Reg.cfgRbAddr] s.dev d)) ∧
    (∀ (w : Word) (i : Nat), bit w 63 = true → frameIndex (BitVec.ofNat 40 (fld w 0 40)) = some i →
      (s.dev.load = none → s.dev.regBit Reg.cfgStatus 7 = false → bit s.dev.keep.fuses.policy 2 = false →
        Completes (.readback w) s (fun d =>
          d.reg Reg.cfgRbAddr = BitVec.ofNat 64 (fld w 0 40) ∧ d.reg Reg.cfgRbStatus = 1 ∧
          OnlyRegs [Reg.cfgRbAddr, Reg.cfgRbStatus] s.dev d)) ∧
      (s.dev.load.isSome = true ∨ s.dev.regBit Reg.cfgStatus 7 = true ∨ bit s.dev.keep.fuses.policy 2 = true →
        Completes (.readback w) s (fun d =>
          d.reg Reg.cfgRbStatus = 2 ∧ (∀ k < 128, d.reg (Reg.cfgRbData k) = 0) ∧
          OnlyRegs ([Reg.cfgRbAddr, Reg.cfgRbStatus] ++ (List.range 128).map Reg.cfgRbData) s.dev d))) ∧
    (s.dev.regBit Reg.cfgRbStatus 0 = false → Completes .readbackComplete s (fun d => d = s.dev)) ∧
    ∀ i : Nat, s.dev.regBit Reg.cfgRbStatus 0 = true →
      frameIndex (BitVec.ofNat 40 (s.dev.regF Reg.cfgRbAddr 0 40)) = some i →
      Completes .readbackComplete s (fun d =>
        d.reg Reg.cfgRbStatus = 4 ∧
        (∀ k < 128, d.reg (Reg.cfgRbData k) = wordAt (memRead s.dev.cfgMem (1024 * i) 1024) k) ∧
        OnlyRegs (Reg.cfgRbStatus :: (List.range 128).map Reg.cfgRbData) s.dev d)

/-- R433, R436, R446, R448 - R450: what the mailbox and MCTP commands of the Keep answer, and what they change. (Readings of the
model that this rests on, where it meets them: notes/assumptions/119, 120, 121, 122, 123, 124, 125, 126, 127, 128.) Commands:
GET_INFO, COMMIT_SVN, GET_ATTEST, GET_CERT, BBRAM_WRITE, BBRAM_ZEROISE, FUSE_PROGRAM. -/
def Obligations.KeepCommandsAnswer : Prop :=
  ∀ (s : State) (arg : BitVec 32), s.dev.alive = true → s.dev.keepPhase = 2 → s.dev.keep.job = none →
    Completes (.getInfo arg .mailbox) s (fun d => MailReply (if arg = 0 then 0 else 2) s.dev d ∧ d.keep = s.dev.keep) ∧
    (∀ t : Fin 4, arg.toNat = t + 1 → s.dev.keep.fuses.copyA.svn.length = 4 → s.dev.keep.fuses.copyB.svn.length = 4 →
      imageSvn (s.dev.keep.image (t + 1) (s.dev.slotB (t + 1))) ≤ 64 →
      (bit s.dev.keep.unproved t = true → Completes (.commitSvn arg .mailbox) s (fun d =>
        MailReply 0x0B s.dev d ∧ d.keep = s.dev.keep)) ∧
      (bit s.dev.keep.unproved t = false → Completes (.commitSvn arg .mailbox) s (fun d =>
        MailReply 0 s.dev d ∧ FusesKept s.dev.keep.fuses d.keep.fuses ∧
        d.keep.fuses.svnOf (t + 1) =
          max (s.dev.keep.fuses.svnOf (t + 1)) (imageSvn (s.dev.keep.image (t + 1) (s.dev.slotB (t + 1)))) ∧
        d.keep = { s.dev.keep with fuses := d.keep.fuses }))) ∧
    (arg.toNat = 0 ∨ 5 ≤ arg.toNat → Completes (.commitSvn arg .mailbox) s (fun d => MailReply 2 s.dev d ∧ d.keep = s.dev.keep)) ∧
    (s.dev.keep.fuses.udsValid = false →
      Completes (.getAttest 0 .mailbox) s (fun d => MailReply 0x0D s.dev d ∧ d.keep = s.dev.keep) ∧
      Completes (.getCert 0 .mailbox) s (fun d => MailReply 0x0D s.dev d ∧ d.keep = s.dev.keep)) ∧
    (∀ nonce : List Byte, nonce.length = 32 → s.dev.keep.fuses.udsValid = true →
      Completes (.getAttest 0 (.mctp nonce)) s (fun d =>
        ∃ body : List Byte, body.take 4 = [0x4B, 0x4B, 0x41, 0x54] ∧ (body.drop 32).take 32 = nonce ∧
          (body.drop 64).take 8 = natBytes 8 s.dev.now ∧
          d = { s.dev with
            out := s.dev.out ++ [.keepReply 1 0 (body ++ Config.mlDsaSign s.dev.aliasSeed body)],
            regs := (s.dev.bump Reg.kepCmdCnt 1).regs })) ∧
    (∀ bs : List Byte, s.dev.keep.fuses.udsValid = true →
      Completes (.getCert 0 (.mctp bs)) s (fun d =>
        d.out = s.dev.out ++ [.keepReply 1 0 (natBytes 4 s.dev.keep.cert.length ++ s.dev.keep.cert)] ∧
        d.keep = s.dev.keep ∧ SameRegs [Reg.kepCmdCnt] s.dev d)) ∧
    (bit s.dev.keep.fuses.policy 3 = true →
      Completes (.bbramWrite 0 .mailbox) s (fun d => MailReply 0x0D s.dev d ∧ d.keep = s.dev.keep)) ∧
    (bit s.dev.keep.fuses.policy 3 = false →
      Completes (.bbramWrite 0 .mailbox) s (fun d => MailReply 0 s.dev d ∧
        d.keep = { s.dev.keep with bbram := some (BitVec.ofNat 256 (bytesNat (s.dev.mailData.take 32))) } ∧
        ∀ i < 4, d.reg (Reg.kepMbData i) = 0)) ∧
    Completes (.bbramZeroise 0 .mailbox) s (fun d => MailReply 0 s.dev d ∧ d.keep = { s.dev.keep with bbram := none }) ∧
    (bit s.dev.keep.fuses.policy 5 = true →
      Completes (.fuseProgram arg .mailbox) s (fun d => MailReply 0x0D s.dev d ∧ d.keep = s.dev.keep)) ∧
    (bit s.dev.keep.fuses.policy 5 = false →
      Completes (.fuseProgram 0 .mailbox) s (fun d =>
        (s.dev.keep.fuses.keySet = true → MailReply 0x0E s.dev d ∧ d.keep = s.dev.keep) ∧
        (s.dev.keep.fuses.keySet = false → MailReply 0 s.dev d ∧
          d.keep.fuses = { s.dev.keep.fuses.blow (fun c => { c with keySet := true }) with
            key := BitVec.ofNat 256 (bytesNat (s.dev.mailData.take 32)), keyValid := true })) ∧
      Completes (.fuseProgram 1 .mailbox) s (fun d => MailReply 0 s.dev d ∧
        d.keep.fuses = s.dev.keep.fuses.blow (fun c => { c with
          policy := c.policy ||| BitVec.ofNat 32 (bytesNat (s.dev.mailData.take 4)) })) ∧
      Completes (.fuseProgram 2 .mailbox) s (fun d => MailReply 0 s.dev d ∧
        d.keep.fuses = s.dev.keep.fuses.blow (fun c => { c with
          revoke := c.revoke ||| BitVec.ofNat 8 (bytesNat (s.dev.mailData.take 1)) })))

/-- R434, R439, R442 - R445: updates, activation, the restart of the Keep and its boot, and the card. (Readings of the model that
this rests on, where it meets them: notes/assumptions/119, 120, 121, 122, 123, 124, 125, 126, 127, 128.) Commands: UPDATE,
ACTIVATE, KEEP_RESTART, CARD_INSERTION, MGMT_READY, TRIAL_WATCHDOG, CARD_REMOVAL, VBAT_LOSS. -/
def Obligations.KeepUpdatesActivatesAndBoots : Prop :=
  ∀ (s : State), s.dev.alive = true →
    (∀ arg : BitVec 32, s.dev.keepPhase = 2 → s.dev.keep.job = none → ∀ env : UpdateEnv,
      (1 ≤ fld arg 0 8 → fld arg 0 8 ≤ 4 → fld arg 8 24 ≤ 7 →
        Completes (.keepUpdate arg .mailbox env) s (fun d =>
          d.keep = { s.dev.keep with
            job := some { port := .mailbox, type := fld arg 0 8, entry := fld arg 8 8, env := env } } ∧
          d.regBit Reg.kepMbStatus 31 = true ∧ d.reg Reg.kepUpdateCnt = s.dev.reg Reg.kepUpdateCnt + 1 ∧
          OnlyRegs [Reg.kepMbStatus, Reg.kepUpdateCnt] { s.dev with keep := d.keep } d)) ∧
      (fld arg 0 8 = 0 ∨ 5 ≤ fld arg 0 8 ∨ 8 ≤ fld arg 8 24 →
        Completes (.keepUpdate arg .mailbox env) s (fun d =>
          d.keep = s.dev.keep ∧ d.regF Reg.kepMbStatus 8 8 = 2 ∧ d.reg Reg.kepUpdateCnt = s.dev.reg Reg.kepUpdateCnt + 1 ∧
          d.reg Reg.kepUpdateFailCnt = s.dev.reg Reg.kepUpdateFailCnt + 1))) ∧
    (∀ j : UpdateJob, s.dev.keep.job = some j → j.port = .mailbox → j.type ≤ 4 →
      Completes .cardRemoval s (fun d =>
        d.keep.card = none ∧ d.keep.job = none ∧ d.regBit Reg.kepStatus 8 = false ∧ d.regF Reg.kepMbStatus 8 8 = 3 ∧
        d.keep.slot j.type (!s.dev.slotB j.type) = FlashSlot.initial ∧
        (∀ t b, slotKey t b ≠ slotKey j.type (!s.dev.slotB j.type) → d.keep.slot t b = s.dev.keep.slot t b) ∧
        d.reg Reg.kepUpdateFailCnt = s.dev.reg Reg.kepUpdateFailCnt + 1 ∧ d.keep.records = s.dev.keep.records)) ∧
    (∀ arg : BitVec 32, arg.toNat < 16 → s.dev.keepPhase = 2 → s.dev.keep.job = none →
      (s.dev.load.isSome = true → Completes (.keepActivate arg .mailbox) s (fun d =>
        MailReply 0x0C s.dev d ∧ d.keep = s.dev.keep)) ∧
      (s.dev.load = none → ∀ t : Fin 4, bit arg t = true → (s.dev.keep.slot (t + 1) (!s.dev.slotB (t + 1))).staged = false →
        Completes (.keepActivate arg .mailbox) s (fun d => MailReply 0x0B s.dev d ∧ d.keep = s.dev.keep)) ∧
      (s.dev.load = none →
        (∀ t : Fin 4, bit arg t = true → (s.dev.keep.slot (t + 1) (!s.dev.slotB (t + 1))).staged = true) →
        Completes (.keepActivate arg .mailbox) s (fun d =>
          (∃ r : List Byte, d.keep.records = [r, r, r] ∧
            r = makeRecord (recordGen s.dev.keep.record + 1) (s.dev.regF Reg.kepStatus 0 4 ^^^ arg.toNat) arg.toNat
              (s.dev.regF Reg.kepStatus 0 4)) ∧
          d.keepPhase = 3 ∧ d.cfgState = 7 ∧ d.keep.cfgBefore = some s.dev.cfgState ∧ d.keep.restartAt = s.dev.now ∧
          d.keep.fuses = s.dev.keep.fuses ∧ d.lantern = s.dev.lantern ∧ SameMemory s.dev d))) ∧
    ((s.dev.keepPhase = 4 → Completes .keepRestart s (fun d => d = s.dev)) ∧
      (s.dev.keepPhase = 3 → s.dev.keep.reverting = false → Completes .keepRestart s (fun d =>
        d.keep.fuses = s.dev.keep.fuses ∧ SameMemory s.dev d ∧
        (∀ c : List Byte, s.dev.keep.candidates.find? (fun c => s.dev.keep.allUsable (recordSlots c)) = some c →
          d.keepPhase = 1 ∧ d.regF Reg.kepStatus 0 4 = recordSlots c ∧ d.regF Reg.kepStatus 4 4 = recordTrial c ∧
          (s.dev.keep.records.length = 3 → d.keep.records = [c, c, c]) ∧
          SameRegs [Reg.kepStatus, Reg.kepBprRepairCnt] s.dev d) ∧
        (s.dev.keep.candidates.find? (fun c => s.dev.keep.allUsable (recordSlots c)) = none → s.dev.keep.card = none →
          d.keepPhase = 4 ∧ d.keep.records = s.dev.keep.records ∧ d.keep.slots = s.dev.keep.slots)))) ∧
    ((s.dev.keepPhase ≠ 1 → Completes .mgmtReady s (fun d => d = s.dev)) ∧
      (s.dev.keepPhase = 1 → s.dev.keep.reverting = false → Completes .mgmtReady s (fun d =>
        d.keepPhase = 2 ∧ d.regF Reg.kepMbStatus 8 8 = 0 ∧ d.regF Reg.kepStatus 4 4 = 0 ∧ d.keep.unproved = 0 ∧
        d.reg Reg.kepFwVersion = BitVec.ofNat 64 (imageVersion (s.dev.keep.image 3 (s.dev.slotB 3))) ∧
        (recordTrial s.dev.keep.record = 0 → d.keep.records = s.dev.keep.records) ∧ d.keep.slots = s.dev.keep.slots ∧
        (∀ x : Nat, s.dev.keep.cfgBefore = some x → x < 8 → d.cfgState = x) ∧ SameMemory s.dev d))) ∧
    (s.dev.keepPhase = 1 → s.dev.keep.reverting = false → recordTrial s.dev.keep.record ≠ 0 →
      s.dev.keep.restartAt + 100000000 ≤ s.dev.now → Completes .trialWatchdog s (fun d =>
        d.keepPhase = 3 ∧ d.keep.reverting = true ∧ d.keep.records = s.dev.keep.records ∧
        SameRegs [Reg.kepStatus, Reg.kepMbStatus] s.dev d ∧ SameMemory s.dev d)) ∧
    (∀ ex : List (Nat × List Byte), s.dev.keepPhase ≠ 4 → Completes (.cardInsertion ex) s (fun d =>
      d.regBit Reg.kepStatus 8 = true ∧ d.keep = { s.dev.keep with card := some ex } ∧
      OnlyRegs [Reg.kepStatus] { s.dev with keep := d.keep } d)) ∧
    Completes .vbatLoss s (fun d => d = { s.dev with belfry := { s.dev.belfry with vbat := false } })

/-- R453, R455 - R458, R462, R464 - R466, R482: the supply, module reset, the reference clock and telemetry. (Readings of the
model that this rests on, where it meets them: notes/assumptions/12, 13, 14, 15, 16, 17, 18, 19, 20, 21, 22.) Commands:
POWER_UP, STANDBY_RAIL_GOOD, REFERENCE_PLL_LOCK, TELEMETRY_SAMPLE, INPUT_TURN_OFF, MRST_N_ASSERT, MRST_N_RELEASE,
REFCLK_LOSS, REFCLK_RETURN, PWR_CTL_HOLD, SMBUS_WAKE, PWRGD_HIGH. -/
def Obligations.SupplyResetAndTelemetry : Prop :=
  ∀ (s : State),
    (s.dev.belfry.rail = .off → s.dev.belfry.thermTrip = false → Completes .powerUp s (fun d =>
      d.belfry.rail = .ramp ∧ d.regs = [] ∧ d.hbm.mem = Store.initial ∧ d.lantern = Lantern.initial ∧
      d.keep.fuses = s.dev.keep.fuses ∧ d.keep.slots = s.dev.keep.slots ∧ d.keep.records = s.dev.keep.records)) ∧
    (s.dev.belfry.rail = .off → s.dev.belfry.thermTrip = true → Completes .powerUp s (fun d => d = s.dev)) ∧
    (∀ (cm pu : Bool) (v : BitVec 8), s.dev.belfry.rail = .ramp → s.dev.belfry.refclk = true →
      Completes (.standbyRailGood cm pu v) s (fun d =>
        d = { s.dev with
          tap := Tap.initial, belfry := { s.dev.belfry with rail := .standby, cmstr := cm, pucfgN := pu, vsel := v } })) ∧
    (s.dev.belfry.rail = .standby → s.dev.belfry.counting = false → s.dev.belfry.inReset = false →
      Completes .referencePllLock s (fun d =>
        d = { s.dev with belfry := { s.dev.belfry with gcyc := 0, counting := true } })) ∧
    (s.dev.belfry.rail = .standby → s.dev.belfry.counting = true → Completes .pwrgdHigh s (fun d =>
      d.belfry.rail = .up ∧ d.belfry.idleFrom = some s.dev.now ∧
      d.hif.readyFrom = (if s.dev.belfry.perstN then some s.dev.now else none) ∧ d.lantern = s.dev.lantern ∧ SameMemory s.dev d)) ∧
    (∀ c : TurnOff, Completes (.inputTurnOff c) s (fun d =>
      d.belfry.rail = .off ∧ d.alive = false ∧ d.regs = [] ∧ d.hbm.mem = Store.initial ∧ d.tile = Store.initial ∧
      d.cfgMem = [] ∧ d.queues = [] ∧ d.lantern = Lantern.initial ∧ d.keep.fuses = s.dev.keep.fuses ∧
      d.belfry.thermTrip = (s.dev.belfry.thermTrip && decide (c ≠ .removed)))) ∧
    (s.dev.belfry.rail = .up → s.dev.pinsTaken = false → Completes .mrstNAssert s (fun d =>
      d.alive = false ∧ d.lantern = Lantern.initial ∧ d.queues = [] ∧ d.cfgMem = [] ∧ d.tile = Store.initial ∧
      d.load = none ∧ d.net.txns = [] ∧ (s.dev.hbm.pcs = [] → d.hbm.mem = s.dev.hbm.mem) ∧ d.keep.fuses = s.dev.keep.fuses ∧
      (∀ a, keptAtReset a = true → d.reg a = s.dev.reg a) ∧
      (∀ a, keptAtReset a = false → a ≠ Reg.pwrStatus → d.reg a = regReset a))) ∧
    (s.dev.belfry.rail = .up → s.dev.pinsTaken = false → s.dev.belfry.inReset = true → Completes .mrstNRelease s (fun d =>
      d.alive = true ∧ d.now = 0 ∧ d.belfry.counting = true ∧ d.lantern = s.dev.lantern ∧ SameMemory s.dev d)) ∧
    (s.dev.belfry.inReset = false → Completes .mrstNRelease s (fun d => d = s.dev)) ∧
    (s.dev.pinsTaken = true → ∀ c ∈ [Instr.mrstNAssert, .mrstNRelease, .smbusWake], Completes c s (fun d => d = s.dev)) ∧
    (s.dev.belfryRuns = true →
      (s.dev.belfry.refclk = true → Completes .refclkLoss s (fun d =>
        d.reg Reg.pwrRefclkLostCnt = s.dev.reg Reg.pwrRefclkLostCnt + 1 ∧ d.regBit Reg.pwrAlert 5 = true ∧
        d.regBit Reg.pwrStatus 15 = true ∧ d.regBit Reg.pwrStatus 14 = true ∧
        d.belfry = { s.dev.belfry with refclk := false } ∧
        OnlyRegs [Reg.pwrRefclkLostCnt, Reg.pwrAlert, Reg.pwrStatus]
          { s.dev with belfry := d.belfry, justSet := d.justSet } d)) ∧
      Completes .refclkReturn s (fun d =>
        d.regBit Reg.pwrStatus 15 = false ∧ d.regBit Reg.pwrStatus 14 = false ∧
        d.belfry = { s.dev.belfry with refclk := true } ∧ OnlyRegs [Reg.pwrStatus] { s.dev with belfry := d.belfry } d) ∧
      ∀ (vin iin : BitVec 16) (tj : Word) (cv : BitVec 8),
        ((∀ k < 8, fld tj (8 * k) 8 < 115) → cv.toNat < 125 → Completes (.telemetrySample vin iin tj cv) s (fun d =>
          d.reg Reg.pwrTj = tj ∧ d.regF Reg.pwrInput 0 16 = vin.toNat ∧ d.regF Reg.pwrInput 16 16 = iin.toNat ∧
          d.regF Reg.pwrInput 32 16 = vin.toNat * iin.toNat / 1000 % 65536 ∧
          d.reg Reg.pwrEnergy = s.dev.reg Reg.pwrEnergy + BitVec.ofNat 64 (vin.toNat * iin.toNat / 1000) ∧
          ((∃ k < 8, 105 ≤ fld tj (8 * k) 8) →
            d.reg Reg.pwrTjmaxCnt = s.dev.reg Reg.pwrTjmaxCnt + 1 ∧ d.regBit Reg.pwrAlert 1 = true) ∧
          (s.dev.regBit Reg.pwrStatus 8 = false →
            (d.regBit Reg.pwrStatus 8 = true ↔ ∃ k < 8, 100 ≤ fld tj (8 * k) 8)) ∧
          SameMemory s.dev d ∧ d.lantern = s.dev.lantern)) ∧
        ((∃ k < 8, 115 ≤ fld tj (8 * k) 8) ∨ 125 ≤ cv.toNat → Completes (.telemetrySample vin iin tj cv) s (fun d =>
          d.belfry.rail = .off ∧ d.belfry.thermTrip = true ∧ d.regs = [] ∧ d.hbm.mem = Store.initial))) ∧
    (s.dev.alive = true → ∀ h : Bool, Completes (.pwrCtlHold h) s (fun d =>
      d.regBit Reg.pwrCtl 29 = h ∧ d.regBit Reg.pwrStatus 12 = h ∧
      (h = true → s.dev.regBit Reg.pwrStatus 12 = false → d.regBit Reg.pwrAlert 0 = true) ∧
      OnlyRegs [Reg.pwrCtl, Reg.pwrStatus, Reg.pwrAlert, Reg.pwrHoldCnt] { s.dev with justSet := d.justSet } d))

/-- R263, R271, R335, R459 - R462: the power states, the wakes, and the idle timer. (Readings of the model that this rests on,
where it meets them: notes/assumptions/12, 13, 14, 15, 16, 17, 18, 19, 20, 21, 22.) Commands: IDLE_TIMER_WARM,
IDLE_TIMER_COLD, STANDBY_REQ, STANDBY_ENTRY, COLD_ENTRY_COMPLETE, PWR_CTL_WAKE, SMBUS_WAKE, WAKE_COMPLETE,
STANDBY_ENTRY_COMPLETE, HBM_TEMPERATURE_READING. -/
def Obligations.PowerStatesAndWakes : Prop :=
  ∀ (s : State), s.dev.alive = true →
    (s.dev.power ≠ 3 → s.dev.power ≠ 5 → Completes .standbyReq s (fun d =>
      d.regBit Reg.pwrStatus 13 = true ∧ d.power = s.dev.power ∧ OnlyRegs [Reg.pwrStatus] s.dev d)) ∧
    (s.dev.regBit Reg.pwrStatus 13 = true → s.dev.power ≤ 1 → s.dev.lantern.tasks = [] → s.dev.lantern.run = none →
      s.dev.load = none → Completes .standbyEntry s (fun d =>
        d.power = 5 ∧ d.regBit Reg.pwrStatus 13 = false ∧ d.belfry.enterFrom = s.dev.now ∧ d.belfry.wake = none ∧
        (∀ n < 64, d.linkState n = 0) ∧ d.lantern = s.dev.lantern ∧ SameMemory s.dev d)) ∧
    (s.dev.lantern.tasks ≠ [] ∨ s.dev.load.isSome = true → Completes .standbyEntry s (fun d => d = s.dev)) ∧
    (s.dev.belfry.wake = none → (∀ e ∈ s.dev.hbm.pcs, e.2.input = []) →
      (s.dev.power = 4 → Completes .coldEntryComplete s (fun d =>
        d.power = 2 ∧ (∀ k < 12, d.regBit (Reg.hbcStatus k) 8 = true) ∧ d.hbm = s.dev.drainWrites.hbm ∧
        (∀ n < 64, d.linkState n = s.dev.linkState n ∧
          d.regBit (Reg.turLinkStatus n) 48 = decide (s.dev.linkState n = 5)) ∧ d.lantern = s.dev.lantern)) ∧
      (s.dev.power = 5 → Completes .standbyEntryComplete s (fun d =>
        d.power = 3 ∧ (∀ k < 12, d.regBit (Reg.hbcStatus k) 8 = true) ∧ d.hbm = s.dev.drainWrites.hbm ∧
        d.lantern = s.dev.lantern))) ∧
    (∀ c ∈ [Instr.pwrCtlWake, Instr.smbusWake], (c = .smbusWake → s.dev.pinsTaken = false) →
      (s.dev.power = 2 ∨ s.dev.power = 3 → Completes c s (fun d =>
        d.power = 6 ∧ d.reg Reg.pwrWakeCnt = s.dev.reg Reg.pwrWakeCnt + 1 ∧
        d.belfry.wake = some {
          toRun := false, done := some (s.dev.now + if s.dev.power = 2 then 20000 else 2000000),
          standby := decide (s.dev.power = 3) } ∧
        SameRegs [Reg.pwrStatus, Reg.pwrWakeCnt] s.dev d ∧ SameMemory s.dev d ∧ d.lantern = s.dev.lantern)) ∧
      (s.dev.power ≤ 1 → Completes c s (fun d => d = s.dev))) ∧
    (∀ g : Nat, s.dev.power = 6 → s.dev.belfry.wake = some { toRun := false, done := some g, standby := false } →
      g ≤ s.dev.now → s.dev.regBit (Reg.hbcStatus 0) 8 = false → Completes .wakeComplete s (fun d =>
        d.power = 1 ∧ d.belfry.wake = none ∧ d.now = s.dev.now ∧ d.lantern = s.dev.lantern ∧
        OnlyRegs [Reg.pwrStatus] { s.dev with belfry := d.belfry } d)) ∧
    (∀ g : Nat, s.dev.power = 6 → s.dev.belfry.wake = some { toRun := true, done := some g, standby := false } →
      g ≤ s.dev.now → s.dev.lantern.run = none → s.dev.regBit (Reg.hbcStatus 0) 8 = true →
      Completes .wakeComplete s (fun d =>
        d.power = 0 ∧ d.belfry.wake = none ∧ (∀ k < 12, d.regBit (Reg.hbcStatus k) 8 = false) ∧
        d.streams.cache = Store.initial ∧ d.hbm = s.dev.hbm ∧ d.tile = s.dev.tile ∧ d.cfgMem = s.dev.cfgMem)) ∧
    (∀ g : Nat, s.dev.idleSince = some g → s.dev.lantern.evals = [] →
      (s.dev.power = 0 → s.dev.regF Reg.pwrIdle 0 32 ≠ 0 → g + s.dev.regF Reg.pwrIdle 0 32 ≤ s.dev.now →
        Completes .idleTimerWarm s (fun d => d.power = 1 ∧ OnlyRegs [Reg.pwrStatus] s.dev d)) ∧
      (s.dev.power = 1 → s.dev.regF Reg.pwrIdle 32 32 ≠ 0 →
        g + s.dev.regF Reg.pwrIdle 0 32 + 1000 * s.dev.regF Reg.pwrIdle 32 32 ≤ s.dev.now →
        Completes .idleTimerCold s (fun d =>
          d.power = 4 ∧ d.belfry = { s.dev.belfry with enterFrom := s.dev.now } ∧
          OnlyRegs [Reg.pwrStatus] { s.dev with belfry := d.belfry } d))) ∧
    (∀ (k : Fin 12) (t : BitVec 8), Completes (.hbmTemperatureReading k t) s (fun d =>
      d.regF (Reg.hbcStatus k) 24 8 = t.toNat ∧ (95 ≤ t.toNat → d.regBit Reg.pwrAlert 6 = true) ∧
      (85 ≤ t.toNat → bit d.hbm.wantHot k = true) ∧ (t.toNat < 80 → bit d.hbm.wantHot k = false) ∧
      (95 ≤ t.toNat → d.regBit Reg.pwrStatus 9 = true) ∧
      SameRegs [Reg.hbcStatus k, Reg.pwrAlert, Reg.pwrStatus, Reg.pwrHoldCnt] s.dev d ∧ SameMemory s.dev d))

/-- R84, R129, R131, R481: error injection, MAINT of a Spire, and programs started in MAINT. (Readings of the model that this
rests on, where it meets them: notes/assumptions/134, 135, 136, 137, 138, 144.) Commands: ERR_INJ, MAINT_REQ, MAINT_ENTRY,
SPR_VX_CTL_START, RCK_INJ_ARM. -/
def Obligations.MaintenanceAndErrorInjection : Prop :=
  ∀ (s : State) (n : Fin 4096), s.dev.alive = true →
    (∀ v : BitVec 32, Completes (.errInj v) s (fun d =>
      d.regF Reg.errInj 0 8 = fld v 0 8 ∧
      (bit v 31 = true → initAssigned (fld v 0 8) = true → d.regBit Reg.errInj 31 = true) ∧
      (bit v 31 = false ∨ initAssigned (fld v 0 8) = false → d.regBit Reg.errInj 31 = s.dev.regBit Reg.errInj 31) ∧
      OnlyRegs [Reg.errInj] s.dev d)) ∧
    (∀ i j : Fin 32, Completes (.rckInjArm n i j) s (fun d =>
      d.regF (Reg.sprRckInj n) 5 5 = i ∧ d.regF (Reg.sprRckInj n) 0 5 = j ∧
      (d.regBit (Reg.sprRckInj n) 31 = (s.dev.spireMaint n || s.dev.regBit (Reg.sprRckInj n) 31)) ∧
      OnlyRegs [Reg.sprRckInj n] s.dev d)) ∧
    (∀ on : Bool, Completes (.maintReq n on) s (fun d =>
      d.regBit (Reg.sprVxCtl n) 31 = on ∧
      d.regBit (Reg.sprVxStatus n) 16 = (on && (!s.dev.domeHeld || s.dev.regBit (Reg.sprVxStatus n) 16)) ∧
      OnlyRegs [Reg.sprVxCtl n, Reg.sprVxStatus n] s.dev d)) ∧
    (s.dev.domeHeld = false → s.dev.regBit (Reg.sprVxCtl n) 31 = true → Completes .maintEntry s (fun d =>
      d.regBit (Reg.sprVxStatus n) 16 = true ∧ OnlyRegs ((List.range 4096).map Reg.sprVxStatus) s.dev d)) ∧
    (s.dev.domeHeld = true → Completes .maintEntry s (fun d => d = s.dev)) ∧
    (∀ pc : Fin 2048,
      (s.dev.spireMaint n = false → Completes (.sprVxCtlStart n pc) s (fun d =>
        d.regF (Reg.sprVxCtl n) 0 11 = pc ∧ OnlyRegs [Reg.sprVxCtl n] s.dev d)) ∧
      (s.dev.spireMaint n = true → (s.dev.vx n).prog = none → 4 * s.dev.now ≤ s.dev.dome.clock →
        Completes (.sprVxCtlStart n pc) s (fun d =>
          d.regF (Reg.sprVxCtl n) 0 11 = pc ∧
          (d.vx n).prog = some {
            id := (s.dev.vx n).nextProg, kind := .maint, op := 0, pc := pc, issue := s.dev.dome.clock, faulted := false } ∧
          (d.vx n).loops = [] ∧ (d.vx n).d = (s.dev.vx n).d ∧ (d.vx n).acc = (s.dev.vx n).acc ∧
          (∀ m, m ≠ n.val → d.spire m = s.dev.spire m) ∧ SameRegs [Reg.sprVxCtl n] s.dev d ∧ SameMemory s.dev d)))

/-- R482 - R487: the instruction register, boundary scan and the short registers of the TAP. R433, R488 - R493: CFG_ACCESS with
its denials and the Spire test windows, and the memory BIST. (Readings of the model that this rests on, where it meets them:
notes/assumptions/134, 135, 136, 137, 138, 181, 182.) Commands: TAP_RESET, EXTEST, IDCODE, SAMPLE_PRELOAD, EXTEST_PULSE,
EXTEST_TRAIN, CLAMP, HIGHZ, BYPASS, CFG_ACCESS, CFG_ACCESS_NOP, CFG_ACCESS_PORT, CFG_ACCESS_WRITE, CFG_ACCESS_READ, BIST_RUN,
BIST_START, BIST_COMPLETE. -/
def Obligations.TapScansAndReachesTheDevice : Prop :=
  (∀ (s : State), s.dev.belfryRuns = true →
       Completes .tapReset s (fun d =>
         d = { s.dev with
           tap := { s.dev.tap with ir := 1, selected := [] },
           belfry := { s.dev.belfry with cdoneLow := s.dev.belfry.cdoneLow && !(s.dev.pinsTaken && s.dev.cdoneDue) } }) ∧
       Completes .tapIdcode s (fun d =>
         d.tap.ir = 1 ∧ d.tap.cells = s.dev.tap.cells ∧ d.regs = s.dev.regs ∧
         d.out = s.dev.out ++ [.tdo 8 s.dev.captureIr, .tdo 32 (s.dev.regF Reg.bfyId 0 32)] ∧ SameMemory s.dev d) ∧
       (∀ c ∈ [(Instr.tapClamp, 6), (.tapHighz, 7), (.tapBypass, 0xFF)], Completes c.1 s (fun d =>
         d.tap.ir = BitVec.ofNat 8 c.2 ∧ d.tap.cells = s.dev.tap.cells ∧ SameMemory s.dev d ∧
         (s.dev.pinsTaken = true ∨ c.2 = 0xFF → d.regs = s.dev.regs ∧
           d.out = s.dev.out ++ [.tdo 8 s.dev.captureIr, .tdo 1 0]))) ∧
       ∀ (pins cells : BitVec 1016),
         (∀ c ∈ [(Instr.tapExtest, 0), (.tapExtestPulse, 4), (.tapExtestTrain, 5)],
           (s.dev.pinsTaken = true → Completes (c.1 (some (pins, cells))) s (fun d =>
             d = { s.dev with
               tap := { s.dev.tap with ir := BitVec.ofNat 8 c.2, cells := cells, selected := [] },
               out := s.dev.out ++ [.tdo 8 s.dev.captureIr, .tdo 1016 pins.toNat] })) ∧
           (s.dev.pinsTaken = false → s.dev.belfry.rail = .up → Completes (c.1 none) s (fun d =>
             d.tap.ir = BitVec.ofNat 8 c.2 ∧ d.tap.cells = s.dev.tap.cells ∧ d.pinsTaken = true ∧ d.reg Reg.hifStatus = 0 ∧
             (∀ k < 64, d.linkState k = if 2 ≤ s.dev.linkState k ∧ s.dev.linkState k ≤ 5 then 1 else s.dev.linkState k) ∧
             SameMemory s.dev d))) ∧
         Completes (.tapSamplePreload (some (pins, cells))) s (fun d =>
           ∃ v : BitVec 1016, v.extractLsb' 0 312 = pins.extractLsb' 0 312 ∧
             d = { s.dev with
               freeIx := s.dev.freeIx + 1,
               tap := { s.dev.tap with ir := 2, cells := cells, selected := [] },
               belfry := { s.dev.belfry with cdoneLow := s.dev.belfry.cdoneLow && !(s.dev.pinsTaken && s.dev.cdoneDue) },
               out := s.dev.out ++ [.tdo 8 s.dev.captureIr, .tdo 1016 v.toNat] })) ∧
  (∀ (s : State), s.dev.alive = true →
       (∀ c ∈ [(Instr.cfgAccess, 0x20), (.bistRun, 0x21)], Completes c.1 s (fun d =>
         (s.dev.tapDisabled = true → d.tap.ir = 0xFF) ∧ (s.dev.tapDisabled = false → d.tap.ir = BitVec.ofNat 8 c.2) ∧
         d.regs = s.dev.regs ∧ SameMemory s.dev d)) ∧
       (s.dev.tap.ir = 0x20 →
         (∀ early : Bool, Completes (.cfgAccessNop early) s (fun d =>
           ∃ r : TapResult, r = (if early then { valid := false, denied := false, data := 0 } else s.dev.tap.result) ∧
             d = { s.dev with tap := { s.dev.tap with result := r }, out := s.dev.out ++ [.tdo 96 r.bits] })) ∧
         (∀ (a : BitVec 26), a.toNat % 2 = 1 →
           (∀ v : Word, Completes (.cfgAccessWrite false true a v) s (fun d =>
             d.tap.result = deniedResult ∧ d.reg Reg.dbgTapDenyCnt = s.dev.reg Reg.dbgTapDenyCnt + 1 ∧
             SameRegs [Reg.dbgTapDenyCnt] s.dev d ∧ SameMemory s.dev d)) ∧
           Completes (.cfgAccessRead false true a .clean) s (fun d =>
             d.tap.result = deniedResult ∧ d.reg Reg.dbgTapDenyCnt = s.dev.reg Reg.dbgTapDenyCnt + 1 ∧
             SameRegs [Reg.dbgTapDenyCnt] s.dev d ∧ SameMemory s.dev d)) ∧
         (∀ (a : BitVec 26), a.toNat % 2 = 0 → popRegister (4 * a.toNat) = false → inWindow (4 * a.toNat) = false →
           pairedRegs (4 * a.toNat) = false → Completes (.cfgAccessRead false true a .clean) s (fun d =>
             d = { s.dev with
               tap := { s.dev.tap with result := doneResult (s.dev.view (4 * a.toNat)) },
               out := s.dev.out ++ [.tdo 96 s.dev.tap.result.bits] })) ∧
         (∀ (n : Fin 4096) (i : Fin 8) (j : Fin 32) (a : BitVec 26), 4 * a.toNat = 0x1000000 + 0x1000 * n + 0x800 + 0x80 * i + 4 * j →
           (s.dev.spireMaint n = false → ∀ v : Word, Completes (.cfgAccessWrite false false a v) s (fun d =>
             d.tap.result = deniedResult ∧ n.val ∈ d.tap.selected ∧ d.dome = s.dev.dome ∧
             d.reg Reg.dbgTapDenyCnt = s.dev.reg Reg.dbgTapDenyCnt + 1)) ∧
           (s.dev.spireMaint n = true → (s.dev.vx n).prog = none → 4 * s.dev.now ≤ s.dev.dome.clock →
             (s.dev.vx n).d.length = 8 → ((s.dev.vx n).dreg i).lanes.length = 32 →
             (∀ v : Word, Completes (.cfgAccessWrite false false a v) s (fun d =>
               nth ((d.vx n).dreg i).lanes j 0 = BitVec.ofNat 24 (fld v 0 24) ∧ bit ((d.vx n).dreg i).pois j = bit v 24 ∧
               (∀ k < 8, k ≠ i.val → (d.vx n).dreg k = (s.dev.vx n).dreg k) ∧ (d.vx n).acc = (s.dev.vx n).acc ∧
               (∀ m, m ≠ n.val → d.spire m = s.dev.spire m) ∧ d.regs = s.dev.regs ∧ SameMemory s.dev d)) ∧
             Completes (.cfgAccessRead false false a .clean) s (fun d =>
               fld d.tap.result.data 0 24 = (nth ((s.dev.vx n).dreg i).lanes j 0).toNat ∧
               bit d.tap.result.data 24 = bit ((s.dev.vx n).dreg i).pois j ∧ d.dome = s.dev.dome ∧ d.regs = s.dev.regs))) ∧
         (∀ (k : Fin 8) (v : Word), s.dev.load = none → s.dev.cfgState ≠ 7 → s.dev.regF Reg.kepStatus 28 4 ≠ 4 →
           Completes (.cfgAccessPort false k v) s (fun d =>
             (∃ l : Load, d.load = some l ∧ l.src = 2 ∧ l.phase = .header ∧ l.buf = natBytes (k + 1) v.toNat) ∧
             d.tap.result = doneResult 0 ∧ d.regBit Reg.cfgStatus 4 = true ∧ SameMemory s.dev d))) ∧
       (s.dev.tap.ir = 0x21 → ∀ (ret : Bool) (g : BitVec 9),
         (s.dev.bistRefused = false → Completes (.bistStart ret g) s (fun d =>
           d.reg Reg.dbgBistStatus = 1 ∧ d.reg Reg.dbgBistRunCnt = s.dev.reg Reg.dbgBistRunCnt + 1 ∧ d.tap.bist = some g ∧
           d.tap.bistRet = ret ∧ (fld g 0 3 ≠ 0 → s.dev.lantern.run = none → ∀ n, d.spireMaint n = true) ∧
           SameRegs [Reg.dbgBistStatus, Reg.dbgBistRunCnt] s.dev d ∧ SameMemory s.dev d)) ∧
         (s.dev.bistRefused = true → Completes (.bistStart ret g) s (fun d =>
           d.regBit Reg.dbgBistStatus 2 = true ∧ d.tap.bist = s.dev.tap.bist ∧ SameRegs [Reg.dbgBistStatus] s.dev d ∧
           SameMemory s.dev d))) ∧
       ∀ (g fail : BitVec 9) (words : BitVec 32), s.dev.tap.bist = some g →
         (s.dev.lantern.run = none → Completes (.bistComplete fail words) s (fun d =>
           d.regBit Reg.dbgBistStatus 1 = true ∧ d.regBit Reg.dbgBistStatus 0 = false ∧
           d.regF Reg.dbgBistStatus 3 9 = (fail &&& g).toNat ∧
           d.regF Reg.dbgBistStatus 32 32 = (if fail &&& g = 0 then 0 else words.toNat) ∧ d.tap.bist = none ∧ d.tap.selected = s.dev.tap.selected ∧
           d.hbm.mem = s.dev.hbm.mem ∧ (bit g 0 = true → d.tile = Store.initial) ∧
           (bit g 3 = true → d.streams.cache = Store.initial) ∧ (bit g 6 = true → d.queues = []) ∧
           (bit g 6 = false → d.queues = s.dev.queues) ∧
           ((bit g 1 || bit g 2 || bit g 7 || bit g 8) = true → d.cfgState = 0 ∧ d.cfgMem = []) ∧
           ((bit g 1 || bit g 2 || bit g 7 || bit g 8) = false → d.cfgMem = s.dev.cfgMem ∧
             (bit g 0 = false → d.tile = s.dev.tile) ∧ (bit g 3 = false → d.streams = s.dev.streams)))) ∧
         (s.dev.lantern.run ≠ none → Completes (.bistComplete fail words) s (fun d => d = s.dev)))

/-- R113, R122, R123, R130, R151 - R153, R156: control words and illegal words as they issue, and an effect that has come due.
(Readings of the model that this rests on, where it meets them: notes/assumptions/86, 87, 88, 89, 90, 91, 92, 93, 94.)
Commands: HALT, LOOP, SETA, LDI, ILLEGAL_ENCODING. -/
def Obligations.VxControlWordsRun : Prop :=
  ∀ (s : State) (n : Fin 4096) (env : VxEnv) (x : Nat) (p : Prog) (w : Word), s.dev.alive = true → VxReady s.dev n x p →
    w = s.dev.vxWord n p.pc →
    ((s.dev.vx n).pending = [] →
      (decodeControl w = some .halt → Completes (.vxHalt n env) s (fun d =>
        (d.vx n).prog = none ∧ (d.vx n).loops = [] ∧ (d.vx n).d = (s.dev.vx n).d ∧ (d.vx n).acc = (s.dev.vx n).acc ∧
        (∀ m, m ≠ n.val → d.spire m = s.dev.spire m) ∧ d.regs = s.dev.regs ∧ SameMemory s.dev d)) ∧
      (∀ (c : BitVec 16) (b : BitVec 11), decodeControl w = some (.loop c b) →
        vxLegal w p.pc (s.dev.vx n).loops = true →
        ((s.dev.vx n).loops.length < 4 → Completes (.vxLoop n env) s (fun d =>
          (d.vx n).loops = { first := p.pc + 1, last := p.pc + b.toNat + 1, left := c.toNat } :: (s.dev.vx n).loops ∧
          (d.vx n).prog = some { p with pc := p.pc + 1, issue := x + 1 } ∧ d.regs = s.dev.regs ∧ SameMemory s.dev d)) ∧
        ((s.dev.vx n).loops.length = 4 → Completes (.vxLoop n env) s (fun d =>
          (d.vx n).loops = (nextIndex p.pc (s.dev.vx n).cache (s.dev.vx n).loops).2.2 ∧
          d.reg (Reg.sprVxFaultCnt n) = s.dev.reg (Reg.sprVxFaultCnt n) + 1 ∧ SameMemory s.dev d))) ∧
      (∀ (k : BitVec 2) (i : BitVec 3) (v : BitVec 12), decodeControl w = some (.seta k i v) →
        Completes (.vxSeta n env) s (fun d =>
          VxIssued s.dev d n x p env 1 ∧ VxPends d n (x + 1) (.pointer k.toNat i.toNat v))) ∧
      (∀ (i : BitVec 3) (bk : BitVec 1) (de : BitVec 8) (imm : BitVec 24), decodeControl w = some (.ldi i bk de imm) →
        (bk = 1 ∨ de = 0) → Completes (.vxLdi n env) s (fun d =>
          VxIssued s.dev d n x p env 1 ∧ VxPends d n (x + 1) (.dreg i.toNat
            { lanes := List.replicate 32 imm, bk := bk == 1, de := if bk = 1 then de else 150, pois := 0 }))) ∧
      (vxLegal w p.pc (s.dev.vx n).loops = false → Completes (.vxIllegalEncoding n env) s (fun d =>
        d.reg (Reg.sprVxFaultCnt n) = s.dev.reg (Reg.sprVxFaultCnt n) + 1 ∧
        (s.dev.regBit (Reg.sprVxFault n) 63 = false →
          d.reg (Reg.sprVxFault n) = mkWord [(63, 1), (59, 2), (48, p.pc), (0, p.op)]) ∧
        (d.vx n).pending = [] ∧ (d.vx n).pc = p.pc ∧ (d.vx n).d = (s.dev.vx n).d ∧ SameMemory s.dev d))) ∧
    ∀ (q : VxPending) (k : BitVec 2) (j : BitVec 3) (v : BitVec 12), (s.dev.vx n).pending = [q] → q.due ≤ x →
      decodeControl w = some (.seta k j v) →
      (∀ (i : Nat) (r : DReg), q.eff = .dreg i r → Completes (.vxSeta n env) s (fun d =>
        (d.vx n).d = (s.dev.vx n).d.set i r ∧ (d.vx n).acc = (s.dev.vx n).acc ∧ SameMemory s.dev d)) ∧
      (∀ (i : Nat) (r : AReg), q.eff = .acc i r → Completes (.vxSeta n env) s (fun d =>
        (d.vx n).acc = (s.dev.vx n).acc.set i r ∧ (d.vx n).d = (s.dev.vx n).d ∧ SameMemory s.dev d))

/-- R113, R124, R137, R138, R140 - R143, R150: what the operations with a D destination leave pending for their registers once
their word has acted. (Readings of the model that this rests on, where it meets them: notes/assumptions/86, 87, 88, 89, 90,
91, 92, 93, 94, 104.) Commands: MOV, ADD, SUB, MAX, MIN, ABS, NEG, CSEL, NRM, NRW, PKLD. -/
def Obligations.VxResultsInDRegisters : Prop :=
  ∀ (s : State) (n : Fin 4096) (env : VxEnv) (x : Nat) (p : Prog) (u : VxWord), s.dev.alive = true →
    VxQuiet s.dev n x p env → decodeControl (s.dev.vxWord n p.pc) = none → u = decodeVx (s.dev.vxWord n p.pc) →
    vectorLegal u = true → u.ds.toNat < 8 → ∀ (bs : Nat), bs = actsAt x u →
    ∀ c ∈ vxVector, opcode u = c.1 →
      (c.1 ∈ [0x10, 0x11, 0x12, 0x13, 0x14, 0x15, 0x16, 0x17, 0x18, 0x30] → Completes (c.2 n env) s (fun d =>
        VxIssued s.dev d n x p env (if wide u then 2 else 1) ∧ VxKeeps s.dev (d.acted n x u) n ∧
        ∃ (r : Reads) (pois : BitVec 32), VxReads s.dev n bs u env p r ∧
          ∃ reg : DReg,
            VxPends (d.acted n x u) n
              (if isBus u.sa.toNat || isBus u.sb.toNat || isAcc u.sa.toNat then bs + 2 else bs + 1) (.dreg u.ds.toNat reg) ∧
            (∀ m, plainMove (s.dev.vx n) r u = some m → reg = m) ∧
            (plainMove (s.dev.vx n) r u = none →
              reg = { (toDReg (u.bkr == 1) ((List.range 32).map (fun j =>
                (laneResult c.1 (nth (sourceOf (s.dev.vx n) r u.sa.toNat).1 j .nan)
                  (nth (sourceOf (s.dev.vx n) r u.sb.toNat).1 j .nan)
                  (nth ((s.dev.vx n).dreg u.ds.toNat).vals j .nan)).scale (sext u.sh.toNat 7))) pois).1 with
                out := dOut (s.dev.vx n) r u }))) ∧
      (c.1 = 0x41 → Completes (c.2 n env) s (fun d =>
        VxIssued s.dev d n x p env 1 ∧
        ∃ r : Reads, VxReads s.dev n bs u env p r ∧
          VxPends d n (x + 2) (.dreg u.ds.toNat
            (toDReg (u.mfmt == 6) (if u.xreg = 14 then r.x else r.y).vals (if u.xreg = 14 then r.x else r.y).pois).1)))

/-- R113, R126, R127, R137, R138, R140 - R145: what the operations with an accumulator destination leave pending for it once
their word has acted. (Readings of the model that this rests on, where it meets them: notes/assumptions/86, 87, 88, 89, 90,
91, 92, 93, 94, 104, 171, 172.) Commands: DRN, MOV, MPY, MAC, MSU, ADDA, SUBA, MAXA, CLR, SCL, TAPM, LSUM, LMAX. -/
def Obligations.VxResultsInAccumulators : Prop :=
  ∀ (s : State) (n : Fin 4096) (env : VxEnv) (x : Nat) (p : Prog) (u : VxWord), s.dev.alive = true →
    VxQuiet s.dev n x p env → decodeControl (s.dev.vxWord n p.pc) = none → u = decodeVx (s.dev.vxWord n p.pc) →
    vectorLegal u = true → 8 ≤ u.ds.toNat → ∀ (bs k : Nat), bs = actsAt x u → k + 8 = u.ds.toNat →
    ∀ c ∈ vxVector, opcode u = c.1 →
      ∃ r : Reads, VxReads s.dev n bs u env p r ∧
        let a := fun j => nth (sourceOf (s.dev.vx n) r u.sa.toNat).1 j .nan
        let b := fun j => nth (sourceOf (s.dev.vx n) r u.sb.toNat).1 j .nan
        let lanes := fun (f : Nat → Val) => (List.range 32).map f
        let out := outOf (s.dev.vx n) u.sa.toNat ||| outOf (s.dev.vx n) u.sb.toNat
        let Leaves := fun (due : Nat) (e : BitVec 32 → VxEffect) => Completes (c.2 n env) s (fun d =>
          VxIssued s.dev d n x p env (if wide u then 2 else 1) ∧ VxKeeps s.dev (d.acted n x u) n ∧
          ∃ pois, VxPends (d.acted n x u) n due (e pois))
        (c.1 = 0x10 → isAcc u.sa.toNat = true → Leaves (bs + 3) (fun pois => .acc k
          { lanes := ((s.dev.vx n).areg (u.sa.toNat - 8)).lanes, pois := pois, out := out })) ∧
        (c.1 = 0x10 → isAcc u.sa.toNat = false → Leaves (bs + 3) (fun pois => .acc k
          { lanes := (List.range 32).map (fun j => accWord (enterAcc (a j))), pois := pois, out := out })) ∧
        (c.1 = 0x20 → Leaves (bs + 3) (fun pois => .acc k
          { lanes := (List.range 32).map (fun j => accWord (accAdd (.fin 0 (-167)) ((a j).mul (b j)).1).1), pois := pois, out := out })) ∧
        (c.1 = 0x21 ∨ c.1 = 0x28 →
          Leaves (bs + 3) (fun pois => .accOp k .add (lanes (fun j => ((a j).mul (b j)).1)) pois out)) ∧
        (c.1 = 0x22 → Leaves (bs + 3) (fun pois => .accOp k .add (lanes (fun j => ((a j).mul (b j)).1.neg)) pois out)) ∧
        (c.1 = 0x23 → Leaves (bs + 3) (fun pois => .accOp k .add (lanes (fun j => enterAcc (a j))) pois out)) ∧
        (c.1 = 0x24 → Leaves (bs + 3) (fun pois => .accOp k .add (lanes (fun j => (enterAcc (a j)).neg)) pois out)) ∧
        (c.1 = 0x25 → Leaves (bs + 3) (fun pois => .accOp k .max (lanes a) pois out)) ∧
        (c.1 = 0x26 → Leaves (bs + 3) (fun _ => .acc k { lanes := List.replicate 32 0, pois := 0 })) ∧
        (c.1 = 0x27 → Leaves (bs + 3) (fun pois => .accOp k .scale (lanes (fun j =>
          .fin (sext (nth ((s.dev.vx n).dreg u.sa.toNat).lanes j 0).toNat 24) 0)) pois out)) ∧
        (c.1 = 0x38 → Leaves (bs + 6) (fun pois => .acc k { lanes := List.replicate 32 (accWord (nth
          (treeReduce accAdd 5 ((s.dev.vx n).areg (u.sa.toNat - 8)).vals).1 0 .nan)), pois := pois })) ∧
        (c.1 = 0x39 → Leaves (bs + 6) (fun pois => .acc k { lanes := List.replicate 32 (accWord (nth
          (treeReduce accMax 5 ((s.dev.vx n).areg (u.sa.toNat - 8)).vals).1 0 .nan)), pois := pois })) ∧
        (c.1 = 0x05 → (s.dev.spire n).drain.pois = false →
          Completes (c.2 n env) s (fun d => VxIssued s.dev d n x p env (if wide u then 2 else 1) ∧
            VxKeeps s.dev (d.acted n x u) n ∧ VxPends (d.acted n x u) n (bs + 2) (.acc k
              { lanes := nth (s.dev.spire n).drain.rows (u.sh.toNat % 32) [], pois := 0,
                out := nth (s.dev.spire n).drain.out (u.sh.toNat % 32) 0 }) ∧
            bit ((d.acted n x u).spire n).drain.unread (u.sh.toNat % 32) = false))

/-- R113, R116 - R119, R134 - R137, R147 - R149: the accesses of every vector-format word: loads into registers, stores of
registers, packed stores, and pointers. (Readings of the model that this rests on, where it meets them: notes/assumptions/86,
87, 88, 89, 90, 91, 92, 93, 94, 143, 161, 168.) Commands: NOP, DRN, MOV, ADD, SUB, MAX, MIN, ABS, NEG, CSEL, NRM, MPY, MAC,
MSU, ADDA, SUBA, MAXA, CLR, SCL, TAPM, NRW, LSUM, LMAX, PKST, PKLD, PKFL. -/
def Obligations.VxLoadsAndStores : Prop :=
  ∀ (s : State) (n : Fin 4096) (env : VxEnv) (x : Nat) (p : Prog) (u : VxWord), s.dev.alive = true →
    VxQuiet s.dev n x p env → decodeControl (s.dev.vxWord n p.pc) = none → u = decodeVx (s.dev.vxWord n p.pc) →
    vectorLegal u = true → ∀ (bs : Nat), bs = actsAt x u →
    ∀ c ∈ vxVector, opcode u = c.1 → Completes (c.2 n env) s (fun d =>
      VxIssued s.dev d n x p env (if wide u then 2 else 1) ∧ VxKeeps s.dev (d.acted n x u) n ∧
      (∀ a ∈ accesses u, a.store = false → ∃ r : BusVal,
        r = (s.dev.doLoad n bs u env p a (nth (s.dev.vx n).ap a.ap 0)).1 ∧
        (a.reg < 8 → VxPends (d.acted n x u) n (bs + 2) (.dreg a.reg (loadD u.mfmt.toNat (u.mbk == 1) r).1)) ∧
        (a.reg = 8 ∨ a.reg = 9 → VxPends (d.acted n x u) n (bs + 2) (.acc (a.reg - 8) (loadA u.mfmt.toNat r)))) ∧
      (∀ a ∈ accesses u, a.store = true → a.reg < 8 → wide u = false → ∃ bytes : List SByte,
        bytes = (storeD u.mfmt.toNat (u.mbk == 1) ((s.dev.vx n).dreg a.reg)).1 ∧
        VxPends d n (x + 1) (.store (cutPieces
          (busByte a.bus (max 1 (bytes.length / 32)) (nth (s.dev.vx n).ap a.ap 0)) bytes))) ∧
      (wide u = true → (∀ a ∈ accesses u, a.store = false) → SameMemory s.dev (d.acted n x u)) ∧
      (wide u = true → ∀ a ∈ accesses u, a.store = true → (∀ b ∈ accesses u, b.store = true → b = a) →
        a.reg = 8 ∨ a.reg = 9 → ∃ (at_ : Nat) (bytes : List SByte),
        at_ = busByte a.bus 8 (nth (s.dev.vx n).ap a.ap 0) ∧
        bytes = (storeA 14 (u.mbk == 1) ((s.dev.vx n).areg (a.reg - 8))).1 ∧
        (d.acted n x u).tile = ((cutPieces at_ (bytes.take 128)).foldl
          (fun d q => d.storePiece n q.1 q.2.1 q.2.2) s.dev).tile ∧
        VxPends (d.acted n x u) n (bs + 1) (.store (cutPieces (at_ + 128) (bytes.drop 128)))) ∧
      (c.1 = 0x42 → ∀ a ∈ accesses u, a.store = true → a.reg = 14 → (s.dev.vx n).pack a.bus ≠ [] →
        ((s.dev.vx n).pack a.bus).length ≤ 64 →
        (d.vx n).pack a.bus = [] ∧
        VxPends d n (x + 1) (.store (cutPieces (busByte a.bus 2 (nth (s.dev.vx n).ap a.ap 0))
          ((s.dev.vx n).pack a.bus ++
            List.replicate (64 - ((s.dev.vx n).pack a.bus).length) (some ((0 : Byte), false)))))) ∧
      (c.1 = 0x40 → u.mfmt.toNat = 4 ∨ u.mfmt.toNat = 5 → ∀ a ∈ accesses u,
        ((s.dev.vx n).pack a.bus).length + (if u.mfmt.toNat = 4 then 17 else 33) < 64 →
        (d.vx n).pack a.bus = (s.dev.vx n).pack a.bus ++ (blockBytes u.mfmt.toNat
          (((s.dev.vx n).dreg u.sa.toNat).vals.map (fun q => q.scale (sext u.sh.toNat 7)))
          ((s.dev.vx n).dreg u.sa.toNat).pois ((s.dev.vx n).dreg u.sa.toNat).out).1) ∧
      (∀ a ∈ accesses u, a.store = false → a.mode = 1 → (∀ b ∈ accesses u, b ≠ a → b.ap ≠ a.ap) →
        (u.ck = 0 ∨ u.cap.toNat ≠ a.ap) → a.ap < (s.dev.vx n).ap.length →
        ∀ q : BitVec 12, q = (s.dev.vx n).modified a.ap (granules u.mfmt.toNat) (s.dev.vx n).ap →
          q ≠ nth (s.dev.vx n).ap a.ap 0 → VxPends (d.acted n x u) n (bs + 1) (.pointer 0 a.ap q)))

/-- R389, R390, R392 - R395, R398 - R401: the clocks, delay lines, lanes and block RAMs of the fabric. (Readings of the model
that this rests on, where it meets them: notes/assumptions/129, 130, 131, 133, 140, 175, 176, 180.) Commands:
CLOCK_MUX_SWITCH, DIVIDER_CHANGE, PLL_LOSS_OF_LOCK, PLL_RELOCK, DELAY_STEP, DELAY_LOAD, FEC_CODEWORD_RECEIVE, LANE_PRBS_CLR,
LANE_INJ_ONCE, BLOCK_RAM_ACCESS, FABRIC_LANE_CDR_LOCK. -/
def Obligations.FabricBlocksAct : Prop :=
  ∀ (s : State), s.dev.alive = true →
    (∀ (t : Fin 768) (x : Fin 4),
      (bit s.dev.fabric.running (t.val / 16) = true →
        Completes (.clockMuxSwitch t x) s (fun d =>
          d.tree t = (s.dev.tree t).switchTo x s.dev.now ∧ (∀ u, u ≠ t.val → d.tree u = s.dev.tree u) ∧
          d.regs = s.dev.regs ∧ SameMemory s.dev d) ∧
        Completes (.dividerChange t x) s (fun d =>
          d.tree t = { s.dev.tree t with want := x } ∧ (∀ u, u ≠ t.val → d.tree u = s.dev.tree u) ∧
          d.regs = s.dev.regs ∧ SameMemory s.dev d)) ∧
      (bit s.dev.fabric.running (t.val / 16) = false →
        Completes (.clockMuxSwitch t x) s (fun d => d = s.dev) ∧ Completes (.dividerChange t x) s (fun d => d = s.dev))) ∧
    (∀ p : Fin 24,
      (s.dev.regBit Reg.cfgFabPllStatus p = true → Completes (.pllLossOfLock p) s (fun d =>
        d.regBit Reg.cfgFabPllStatus p = false ∧ d.regBit Reg.cfgFabPllStatus (32 + p) = true ∧
        d.reg Reg.cfgFabPllUnlockCnt = s.dev.reg Reg.cfgFabPllUnlockCnt + 1 ∧
        OnlyRegs [Reg.cfgFabPllStatus, Reg.cfgFabPllUnlockCnt] { s.dev with justSet := d.justSet } d)) ∧
      (s.dev.regBit Reg.cfgFabPllStatus p = false → Completes (.pllLossOfLock p) s (fun d => d = s.dev)) ∧
      (2 ≤ s.dev.cfgState → s.dev.cfgState ≤ 4 → Completes (.pllRelock p) s (fun d =>
        d.regBit Reg.cfgFabPllStatus p = true ∧ OnlyRegs [Reg.cfgFabPllStatus] s.dev d))) ∧
    (∀ (l : Fin 192) (inc : Bool) (t : Fin 512) (tap : Nat) (busy : Bool),
      (s.dev.delayLine l).at_ s.dev.now = (tap, busy) → tap < 512 →
      (busy = true → Completes (.delayStep l inc) s (fun d => d = s.dev)) ∧
      (busy = false → inc = true → tap < 511 → Completes (.delayStep l inc) s (fun d =>
        d.delayLine l = { tap := tap + 1, load := none } ∧ d.regs = s.dev.regs ∧ SameMemory s.dev d)) ∧
      (busy = false → inc = false → 0 < tap → Completes (.delayStep l inc) s (fun d =>
        d.delayLine l = { tap := tap - 1, load := none } ∧ d.regs = s.dev.regs ∧ SameMemory s.dev d)) ∧
      (busy = false → (inc = true ∧ tap = 511) ∨ (inc = false ∧ tap = 0) → Completes (.delayStep l inc) s (fun d =>
        ∃ v < 512, d.delayLine l = { tap := v, load := none } ∧ d.regs = s.dev.regs)) ∧
      Completes (.delayLoad l t) s (fun d =>
        (d.delayLine l).at_ s.dev.now = (tap, decide (tap ≠ t.val)) ∧
        (d.delayLine l).at_ (s.dev.now + 2048) = (t.val, false) ∧ d.regs = s.dev.regs ∧ SameMemory s.dev d)) ∧
    (∀ (l : Fin 16) (ws : List (BitVec 257)), s.dev.regBit (Reg.cfgFabLaneStatus l) 7 = true →
      (∀ b : Bool, Completes (.fabricLaneCdrLock l b) s (fun d =>
        d.regBit (Reg.cfgFabLaneStatus l) 4 = b ∧ OnlyRegs [Reg.cfgFabLaneStatus l] s.dev d)) ∧
      (s.dev.regBit (Reg.cfgFabLaneStatus l) 5 = true →
        (∀ k bad : Nat, s.dev.regBit (Reg.cfgFabLaneStatus l) 3 = false →
          mapGet (0, 0) s.dev.fabric.codewords l = (2, bad) → Completes (.fecCodewordReceive l (some k) ws) s (fun d =>
            d.regBit (Reg.cfgFabLaneStatus l) 3 = true ∧ d.out = s.dev.out ∧
            d.reg (Reg.cfgFabLaneFecCorrCnt l) = s.dev.reg (Reg.cfgFabLaneFecCorrCnt l) + BitVec.ofNat 64 k)) ∧
        (∀ good : Nat, s.dev.regBit (Reg.cfgFabLaneStatus l) 3 = true →
          mapGet (0, 0) s.dev.fabric.codewords l = (good, 2) → Completes (.fecCodewordReceive l none ws) s (fun d =>
            d.regBit (Reg.cfgFabLaneStatus l) 3 = false ∧
            d.reg (Reg.cfgFabLaneFecUncorrCnt l) = s.dev.reg (Reg.cfgFabLaneFecUncorrCnt l) + 1)) ∧
        (∀ k : Nat, s.dev.regBit (Reg.cfgFabLaneStatus l) 3 = true → s.dev.regF (Reg.cfgFabLaneTest l) 0 3 = 0 →
          Completes (.fecCodewordReceive l (some k) ws) s (fun d =>
            d.regBit (Reg.cfgFabLaneStatus l) 3 = true ∧ d.out = s.dev.out ++ [.laneWords l false ws])))) ∧
    (∀ l : Fin 16,
      Completes (.lanePrbsClr l) s (fun d =>
        d.reg (Reg.cfgFabLanePrbsBits l) = 0 ∧ d.reg (Reg.cfgFabLanePrbsErr l) = 0 ∧
        OnlyRegs [Reg.cfgFabLanePrbsBits l, Reg.cfgFabLanePrbsErr l] s.dev d) ∧
      Completes (.laneInjOnce l) s (fun d => d = { s.dev with out := s.dev.out ++ [.prbsError (64 + l) 1] })) ∧
    ∀ (n : Fin 4608) (c : RamSetup) (a : Nat), c = Config.ramSetup s.dev.cfgMem n →
      (∀ v : Nat, bit s.dev.fabric.writeEn (n.val / 96) = true →
        Completes (.blockRamAccess n (some { addr := a, write := some v, read := false }) none false .clean .clean) s (fun d =>
          (c.fifo = false → ramIn c.widthA a = true →
            ramWord (d.ramBits n) c.widthA a = v % 2 ^ c.widthA ∧
            ∀ b, b ≠ a → ramIn c.widthA b = true →
              ramWord (d.ramBits n) c.widthA b = ramWord (s.dev.ramBits n) c.widthA b) ∧
          (∀ j, j < ramBase n ∨ ramBase n + 9216 ≤ j → memByte d.cfgMem j = memByte s.dev.cfgMem j) ∧
          d.regs = s.dev.regs ∧ d.tile = s.dev.tile ∧ d.hbm = s.dev.hbm)) ∧
      Completes (.blockRamAccess n (some { addr := a, write := none, read := true }) none false .clean .clean) s (fun d =>
        (c.fifo = false → ramIn c.widthA a = true →
          (mapGet RamPort.initial d.fabric.ports (2 * n)).latch =
            { word := ramWord (s.dev.ramBits n) c.widthA a, fix := false, bad := false }) ∧
        d.regs = s.dev.regs ∧ SameMemory s.dev d)

/-- R402 - R406, R500 - R502: requests of user logic, and host accesses of the user window with their answers. (Readings of the
model that this rests on, where it meets them: notes/assumptions/132.) Commands: AP_REQUEST, FABRIC_USER_WINDOW_ACCESS,
AP_TARGET_RESPONSE. -/
def Obligations.AccessPointsCarryUserTraffic : Prop :=
  ∀ (s : State) (ap : Fin 64), s.dev.alive = true →
    (∀ q : ApRequest, s.dev.apActive ap = false ∨ (∃ t ∈ s.dev.net.txns, t.purpose = .accessPoint ap (apTag q)) →
      Completes (.apRequest ap q) s (fun d => d = s.dev)) ∧
    (∀ (addr : Word) (k : Nat) (tag : Fin 256), s.dev.apActive ap = true →
      (∀ t ∈ s.dev.net.txns, t.purpose ≠ .accessPoint ap tag) →
      (∀ x : NetTarget, s.dev.apTarget addr.toNat 0 = some x →
        Completes (.apRequest ap (.rd addr k tag)) s (fun d =>
          (∃ t : Txn, d.net.txns = s.dev.net.txns ++ [t] ∧ t.init = 0x10 + ap ∧ t.sched = false ∧ t.cmd = .read ∧
            t.target = x ∧ t.len = k ∧ t.purpose = .accessPoint ap tag) ∧ d.out = s.dev.out ∧ SameMemory s.dev d) ∧
        (∀ us : List ApUnit, (∀ u ∈ us, u.pois = false ∧ u.chk = none) →
          Completes (.apRequest ap (.wr addr us tag)) s (fun d =>
            (∃ t : Txn, d.net.txns = s.dev.net.txns ++ [t] ∧ t.init = 0x10 + ap ∧ t.cmd = .write ∧ t.target = x ∧
              t.data = us.map (fun u => freshUnit u.data) ∧ t.purpose = .accessPoint ap tag) ∧
            d.reg Reg.cfgFabApChkCnt = s.dev.reg Reg.cfgFabApChkCnt ∧ SameMemory s.dev d)) ∧
        (∀ (v : Line) (c : BitVec 32), c ≠ lineCheck v →
          Completes (.apRequest ap (.wr addr [{ data := v, chk := some c, pois := false }] tag)) s (fun d =>
            (∃ t : Txn, d.net.txns = s.dev.net.txns ++ [t] ∧ t.data = [poisonUnit]) ∧
            d.reg Reg.cfgFabApChkCnt = s.dev.reg Reg.cfgFabApChkCnt + 1))) ∧
      (s.dev.apTarget addr.toNat 0 = none → Completes (.apRequest ap (.rd addr k tag)) s (fun d =>
        d.reg Reg.cfgFabApRefuseCnt = s.dev.reg Reg.cfgFabApRefuseCnt + 1 ∧ d.net = s.dev.net ∧
        d.out = s.dev.out ++ [.userData ap tag 1 (List.replicate k poisonUnit)] ∧
        SameRegs [Reg.cfgFabApRefuseCnt] s.dev d ∧ SameMemory s.dev d))) ∧
    (∀ off : Fin 1048576,
      (∀ len tag : Nat, Completes (.fabricUserWindowAccess ap off (.read len tag)) s (fun d =>
        (∃ t : Txn, d.net.txns = s.dev.net.txns ++ [t] ∧ t.init = 0x80 ∧ t.sched = false ∧ t.cmd = .read ∧
          t.target = .user ap off ∧ t.purpose = .bar2 0 tag (off % 8) len) ∧ SameMemory s.dev d)) ∧
      (∀ (v : Word) (be : BitVec 8), Completes (.fabricUserWindowAccess ap off (.write v be)) s (fun d =>
        (∃ t : Txn, d.net.txns = s.dev.net.txns ++ [t] ∧ t.init = 0x80 ∧ t.cmd = .partialWrite ∧
          t.target = .user ap off ∧ t.data = [freshUnit (bytesLine (natBytes 8 v.toNat))] ∧
          t.be = BitVec.ofNat 64 be.toNat) ∧ SameMemory s.dev d))) ∧
    ∀ (t : Txn) (off : Nat) (v : Word) (pois : Bool), s.dev.net.txns = [t] → t.target = .user ap off → t.phase = .atTarget →
      t.len = 1 → t.got = [] →
      (s.dev.apActive ap = true → Completes (.apTargetResponse ap v pois) s (fun d =>
        ∃ u : Txn, d.net.txns = [u] ∧ u.id = t.id ∧ u.phase = .responded ∧ u.status = t.status ∧
          u.units = [if pois then poisonUnit else freshUnit (bytesLine (natBytes 8 v.toNat))] ∧
          d.regs = s.dev.regs ∧ SameMemory s.dev d)) ∧
      (s.dev.apActive ap = false → Completes (.apTargetResponse ap v pois) s (fun d => d = s.dev))

/-- R9 - R14, R384, R496 - R498: writes of registers. RW fields take the value, W1C bits written as 1 clear, read-only registers
and half words that are not fully enabled do not change; a virtual function reaches only its own page; a register with an
effect of its own has it. (Readings of the model that this rests on, where it meets them: notes/assumptions/32, 144.)
Commands: REGISTER_WRITE, LNT_ABORT, QMG_FLUSH, ERR_INJ. -/
def Obligations.RegisterWritesFollowTheAccessRules : Prop :=
  ∀ (s : State), s.dev.alive = true →
    (∀ v : Word, Completes (.registerWrite 0 Reg.pwrIdle ((natBytes 8 v.toNat).map some)) s (fun d =>
      d.reg Reg.pwrIdle = v ∧ SameRegs [Reg.pwrIdle] s.dev d ∧ d.out = s.dev.out ∧ SameMemory s.dev d)) ∧
    (∀ v : BitVec 32,
      Completes (.registerWrite 0 Reg.pwrIdle ((natBytes 4 v.toNat).map some)) s (fun d =>
        d.regF Reg.pwrIdle 0 32 = v.toNat ∧ d.regF Reg.pwrIdle 32 32 = s.dev.regF Reg.pwrIdle 32 32 ∧
        SameRegs [Reg.pwrIdle] s.dev d ∧ SameMemory s.dev d) ∧
      Completes (.registerWrite 0 (Reg.pwrIdle + 4) ((natBytes 4 v.toNat).map some)) s (fun d =>
        d.regF Reg.pwrIdle 32 32 = v.toNat ∧ d.regF Reg.pwrIdle 0 32 = s.dev.regF Reg.pwrIdle 0 32 ∧
        SameRegs [Reg.pwrIdle] s.dev d ∧ SameMemory s.dev d) ∧
      Completes (.registerWrite 0 Reg.pwrAlert ((natBytes 4 v.toNat).map some)) s (fun d =>
        d.reg Reg.pwrAlert = s.dev.reg Reg.pwrAlert &&& ~~~(BitVec.ofNat 64 (fld v 0 7) &&& ~~~s.dev.raised Reg.pwrAlert) ∧
        SameRegs [Reg.pwrAlert] s.dev d ∧ SameMemory s.dev d) ∧
      exec (.registerWrite 0 Reg.lntAbort ((natBytes 4 v.toNat).map some)) s =
        exec (.lntAbort v) { s with dev := s.dev.linkUse } ∧
      exec (.registerWrite 0 Reg.qmgFlush ((natBytes 4 v.toNat).map some)) s =
        exec (.qmgFlush v) { s with dev := s.dev.linkUse } ∧
      exec (.registerWrite 0 Reg.errInj ((natBytes 4 v.toNat).map some)) s =
        exec (.errInj v) { s with dev := s.dev.linkUse }) ∧
    (∀ b0 b1 b2 : Byte, Completes (.registerWrite 0 Reg.pwrIdle [some b0, some b1, some b2, none]) s (fun d =>
      d = s.dev.linkUse)) ∧
    (∀ v : Word, Completes (.registerWrite 0 Reg.bfyId ((natBytes 8 v.toNat).map some)) s (fun d =>
      SameRegs [] s.dev d ∧ d.out = s.dev.out ∧ SameMemory s.dev d)) ∧
    ∀ f : Fin 64, f ≠ 0 →
      (∀ v : Word, Completes (.registerWrite f 0x10 ((natBytes 8 v.toNat).map some)) s (fun d =>
        d.func f = { s.dev.func f with ctxSel := fld v 0 16 } ∧ (∀ g, g ≠ f.val → d.func g = s.dev.func g) ∧
        d.regs = s.dev.regs ∧ d.lantern = s.dev.lantern ∧ SameMemory s.dev d)) ∧
      (∀ (k : Nat) (v : Word), 5 ≤ k → k < 512 →
        Completes (.registerWrite f (8 * k) ((natBytes 8 v.toNat).map some)) s (fun d => d = s.dev.linkUse))

/-- R371: a ring read that ends in a completion timeout, an unsuccessful completion or poisoned data sets FETCH_ERR and leaves
HEAD unchanged; the ring is not read again until FETCH_ERR is cleared; then the same entries, from HEAD on, are read again.
Commands: RING_READ, RING_READ_COMPLETION, FETCH_ERR_CLEAR. -/
def Obligations.FailedRingReadHoldsTheRing : Prop :=
  ∀ (s : State) (r : Fin 256), s.dev.alive = true →
    (∀ e : ReadResult, (∀ bs, e ≠ .ok bs) → (∃ f ∈ s.dev.hif.fetches, f.ring = r.val) →
      Completes (.ringReadCompletion r e) s (fun d =>
        d.regBit (Reg.hifRingStatus r) 63 = true ∧ ringHead d r = ringHead s.dev r ∧
        d.lantern = s.dev.lantern ∧ (∀ g ∈ d.hif.fetches, g.ring ≠ r.val) ∧ SameMemory s.dev d)) ∧
    (s.dev.regBit (Reg.hifRingStatus r) 63 = true → Completes .ringRead s (fun d =>
      ∀ g ∈ d.hif.fetches, g.ring = r.val → g ∈ s.dev.hif.fetches)) ∧
    Completes (.fetchErrClear r) s (fun d =>
      d.regBit (Reg.hifRingStatus r) 63 =
        (s.dev.regBit (Reg.hifRingStatus r) 63 && bit (s.dev.raised (Reg.hifRingStatus r)) 63) ∧
      ringHead d r = ringHead s.dev r ∧ ringTail d r = ringTail s.dev r ∧
      OnlyRegs [Reg.hifRingStatus r] s.dev d) ∧
    (s.dev.regBit (Reg.hifRingStatus r) 63 = false → s.dev.ringLive r = true → s.dev.hif.nextRing = r.val →
      s.dev.inFlight r = 0 → 0 < s.dev.ringPending r → s.dev.hif.fetches.length < 16 → s.dev.stored < 16384 →
      s.dev.canIssue (ringFunc s.dev r) = true → s.dev.usesAts (ringFunc s.dev r) = false →
      Completes .ringRead s (fun d => ∃ n, 1 ≤ n ∧
        d.hif.fetches = s.dev.hif.fetches ++ [{ ring := r, first := ringHead s.dev r, count := n }]))

/-- R464: a die sensor at 105 °C or more sets the TJMAX alert and is counted, and operation continues; at 115 °C or more, or with
the converter at 125 °C or more, THERMTRIP_N goes low, the converter turns off and the state becomes Off; THERMTRIP_N stays
low until the input is removed. Commands: POWER_UP, TELEMETRY_SAMPLE, INPUT_TURN_OFF. -/
def Obligations.ThermalTripTurnsTheModuleOff : Prop :=
  ∀ (s : State) (vin iin : BitVec 16) (tj : Word) (cv : BitVec 8),
    (s.dev.belfryRuns = true →
      ((∀ k < 8, fld tj (8 * k) 8 < 115) → cv.toNat < 125 → Completes (.telemetrySample vin iin tj cv) s (fun d =>
        ((∃ k < 8, 105 ≤ fld tj (8 * k) 8) →
          d.reg Reg.pwrTjmaxCnt = s.dev.reg Reg.pwrTjmaxCnt + 1 ∧ d.regBit Reg.pwrAlert 1 = true) ∧
        ((∀ k < 8, fld tj (8 * k) 8 < 105) → d.reg Reg.pwrTjmaxCnt = s.dev.reg Reg.pwrTjmaxCnt ∧
          d.regBit Reg.pwrAlert 1 = s.dev.regBit Reg.pwrAlert 1) ∧
        d.alive = s.dev.alive ∧ d.power = s.dev.power ∧ d.lantern = s.dev.lantern ∧ d.dome = s.dev.dome ∧
        SameMemory s.dev d)) ∧
      ((∃ k < 8, 115 ≤ fld tj (8 * k) 8) ∨ 125 ≤ cv.toNat → Completes (.telemetrySample vin iin tj cv) s (fun d =>
        d.belfry.thermTrip = true ∧ d.belfry.rail = .off ∧ d.alive = false ∧ d.regs = []))) ∧
    (s.dev.belfry.thermTrip = true → s.dev.belfry.rail = .off →
      Completes .powerUp s (fun d => d = s.dev) ∧
      (∀ c : TurnOff, Completes (.inputTurnOff c) s (fun d =>
        d.belfry.rail = .off ∧ d.belfry.thermTrip = decide (c ≠ .removed))))

/-- R292: the bins of the latency histogram, and the counter that a measured transaction adds to. -/
def Obligations.LatencyBinsSplitAtPowersOfTwo : Prop :=
  ∀ v : Nat,
    (latencyBin v = 0 ↔ v < 16) ∧ (∀ b, 1 ≤ b → b ≤ 14 → (latencyBin v = b ↔ 2 ^ (b + 3) ≤ v ∧ v ≤ 2 ^ (b + 4) - 1)) ∧
    (latencyBin v = 15 ↔ 2 ^ 18 ≤ v) ∧
    ∀ (d : Device) (i : Fin 256), d.regBit Reg.sncStatCtl 0 = false →
      (d.statLatency i v).reg (Reg.sncStatHist i (latencyBin v)) = d.reg (Reg.sncStatHist i (latencyBin v)) + 1 ∧
      ∀ b < 16, b ≠ latencyBin v → (d.statLatency i v).reg (Reg.sncStatHist i b) = d.reg (Reg.sncStatHist i b)

/-- R491: a new BIST_RUN command clears DONE, FAIL and FAIL_WORDS; BIST_DONE, as Capture-IR loads it, reads DONE. Commands:
BIST_RUN, BIST_START. -/
def Obligations.BistCommandClearsItsStatus : Prop :=
  ∀ (s : State), s.dev.belfryRuns = true →
    (s.dev.tap.ir = 0x21 → ∀ (ret : Bool) (g : BitVec 9), Completes (.bistStart ret g) s (fun d =>
      d.regBit Reg.dbgBistStatus 1 = false ∧ d.regF Reg.dbgBistStatus 3 9 = 0 ∧ d.regF Reg.dbgBistStatus 32 32 = 0)) ∧
    s.dev.captureIr.testBit 3 = s.dev.regBit Reg.dbgBistStatus 1 ∧
    Completes .bistRun s (fun d => ∃ l, d.out = s.dev.out ++ .tdo 8 s.dev.captureIr :: l)

/-- Step: with a command at the front of the queue it is that command, on the queue's rest; with an empty queue one gcyc passes
(the model's choice, notes/assumptions/1). -/
def Obligations.StepServesTheFrontCommand : Prop :=
  (∀ (c : Instr) (s : State) (rest : List Instr), s.pending = c :: rest → step s = exec c { s with pending := rest }) ∧
    ∀ s : State, s.pending = [] → s.dev.belfry.counting = true →
      ∃ d : Device, step s = .next { dev := d, pending := [] } ∧ d.now = s.dev.now + 1

/-- R457 - R459: without power and in module reset, no command of the running module does anything. And commands that wait are
served in their order: each step takes the front one, and after as many steps as commands the queue is empty. -/
def Obligations.CommandsRunInOrderWhilePowered : Prop :=
  (∀ (i : Instr) (s : State), s.dev.alive = false → alwaysServed i = false → exec i s = .next s) ∧
    ∀ s : State, runSteps s.pending.length s = .next { dev := s.pending.foldl deviceAfter s.dev, pending := [] }

/-- R4, R453, R457, R467: what reset leaves in registers whose reset value the manual states, and that the reset state meets the
invariants of the model. (Readings of the model that this rests on, where it meets them: notes/assumptions/2, 4, 10.) -/
def Obligations.ResetLeavesTheStatedValues : Prop :=
  State.reset.dev.reg Reg.bfyId = 0x29560C4B ∧ State.reset.dev.power = 1 ∧ State.reset.dev.now = 0 ∧
    State.reset.dev.cfgState = 0 ∧ State.reset.dev.alive = true ∧ State.reset.pending = [] ∧
    State.reset.dev.reg Reg.pwrIdle = 0x00002710_0000C350 ∧ State.reset.dev.maintCfg = false ∧
    State.reset.dev.belfry.cdoneLow = true ∧ (∀ n < 64, State.reset.dev.linkState n = 0) ∧
    State.reset.dev.reg Reg.kepCmdCnt = 0 ∧ (∀ i < 4096, State.reset.dev.reg (Reg.sprFlags i) = 0) ∧
    State.reset.dev.wf = true

/-- An invariant of the model itself: every step keeps the canonical form of the registers and of every memory (HBM, the tile
stores, the stream cache, configuration memory), and the numbers of transactions below the next one. -/
def Obligations.EveryStepKeepsTheCanonicalForms : Prop :=
  ∀ s t : State, s.dev.wf = true → step s = .next t → t.dev.wf = true

/-- R433: fuses can only be blown, never restored, by whatever step. -/
def Obligations.EveryStepOnlyBlowsFuses : Prop :=
  ∀ s t : State, step s = .next t → FusesKept s.dev.keep.fuses t.dev.keep.fuses

/-- R132, R151: the fields of a vector-format word and the word itself determine each other; every control-format word decodes to
what it was made from, and only such words decode. -/
def Obligations.VxWordsDecodeToTheirFields : Prop :=
  (∀ x : VxWord, decodeVx (encodeVx x) = x) ∧ (∀ w : Word, encodeVx (decodeVx w) = w) ∧
    (∀ c : VxControl, decodeControl (encodeControl c) = some c) ∧
    (∀ (w : Word) (c : VxControl), decodeControl w = some c → encodeControl c = w) ∧
    ∀ (c : VxControl) (u : VxWord), encodeControl c = encodeVx u → vectorLegal u = false
end

