-- ==== Sys2Proof/Laws/Bits.lean ====
section
/-!
SUPPORT. Laws of bit fields: reading a field after a field has been written (R6).
-/
namespace Sys2Proof.Machine

/-- Bit `j` of a field is bit `lo + j` of the word. -/
theorem testBit_fld {n : Nat} (v : BitVec n) (lo w j : Nat) :
    (fld v lo w).testBit j = (decide (j < w) && v.getLsbD (lo + j)) := by
  simp [fld, Nat.testBit_mod_two_pow, Nat.testBit_shiftRight, BitVec.getLsbD]

/-- A word with a field written: inside the field the written number's bits, outside it the old ones. -/
theorem getLsbD_putFld {n : Nat} (v : BitVec n) (lo w x i : Nat) :
    (putFld v lo w x).getLsbD i =
      if lo ≤ i ∧ i < lo + w ∧ i < n then x.testBit (i - lo) else v.getLsbD i := by
  have hm : ∀ y : Nat, (y * 2 ^ lo).testBit i = (decide (lo ≤ i) && y.testBit (i - lo)) := fun y => by
    rw [Nat.mul_comm, Nat.testBit_two_pow_mul]
  simp only [putFld, BitVec.getLsbD_or, BitVec.getLsbD_and, BitVec.getLsbD_not, BitVec.getLsbD_ofNat, hm,
    Nat.testBit_two_pow_sub_one, Nat.testBit_mod_two_pow]
  by_cases hn : i < n
  · by_cases hl : lo ≤ i
    · by_cases hw : i - lo < w
      · have : i < lo + w := by omega
        simp only [hn, hl, hw, this, decide_true, and_self, if_true]; simp
      · have : ¬ i < lo + w := by omega
        simp [hn, hl, hw, this]
    · simp only [hn, hl, false_and, if_false, decide_true, decide_false]; simp
  · rw [BitVec.getLsbD_of_ge v i (by omega)]
    simp only [hn, and_false, if_false, decide_false]; simp

theorem bit_putFld {n : Nat} (v : BitVec n) (lo w x i : Nat) :
    bit (putFld v lo w x) i = if lo ≤ i ∧ i < lo + w ∧ i < n then x.testBit (i - lo) else bit v i :=
  getLsbD_putFld v lo w x i

/-- A field reads what was written to it. -/
theorem fld_putFld {n : Nat} (v : BitVec n) {lo w : Nat} (x : Nat) (h : lo + w ≤ n) :
    fld (putFld v lo w x) lo w = x % 2 ^ w := by
  refine Nat.eq_of_testBit_eq fun j => ?_
  rw [testBit_fld, getLsbD_putFld, Nat.testBit_mod_two_pow]
  by_cases hj : j < w
  · have : lo + j < lo + w ∧ lo + j < n := by omega
    simp [hj, this.2]
  · simp [hj]

/-- A field that does not meet the written one keeps its value. -/
theorem fld_putFld_ne {n : Nat} (v : BitVec n) {lo w lo' w' : Nat} (x : Nat) (h : lo + w ≤ lo' ∨ lo' + w' ≤ lo) :
    fld (putFld v lo w x) lo' w' = fld v lo' w' := by
  refine Nat.eq_of_testBit_eq fun j => ?_
  rw [testBit_fld, testBit_fld, getLsbD_putFld]
  by_cases hj : j < w'
  · rw [if_neg (by omega)]
  · simp [hj]

theorem bit_putFld_ne {n : Nat} (v : BitVec n) {lo w i : Nat} (x : Nat) (h : i < lo ∨ lo + w ≤ i) :
    bit (putFld v lo w x) i = bit v i := by
  rw [bit_putFld, if_neg (by omega)]

theorem fld_lt {n : Nat} (v : BitVec n) (lo w : Nat) : fld v lo w < 2 ^ w := Nat.mod_lt _ (Nat.two_pow_pos w)

/-- A one-bit field is the bit. -/
theorem fld_one {n : Nat} (v : BitVec n) (lo : Nat) : fld v lo 1 = b2n (bit v lo) := by
  refine Nat.eq_of_testBit_eq fun j => ?_
  rw [testBit_fld]
  cases h : bit v lo <;> cases j <;> simp_all [b2n, bit, Nat.testBit_succ]

theorem bytesNat_natBytes (n v : Nat) : bytesNat (natBytes n v) = v % 256 ^ n := by
  induction n generalizing v with
  | zero => simp [natBytes, bytesNat, Nat.mod_one]
  | succ n ih =>
    rw [natBytes, bytesNat, ih, Nat.pow_succ', Nat.mod_mul]
    simp

@[simp] theorem natBytes_length (n v : Nat) : (natBytes n v).length = n := by
  induction n generalizing v with
  | zero => rfl
  | succ n ih => simp [natBytes, ih]

/-- A unit is what its bytes spell. -/
theorem bytesLine_lineBytes (v : Line) : bytesLine (lineBytes v) = v := by
  have h : (lineBytes v).take 64 = lineBytes v := List.take_of_length_le (by simp [lineBytes])
  unfold bytesLine
  rw [h, lineBytes, bytesNat_natBytes]
  refine BitVec.eq_of_toNat_eq ?_
  simp only [BitVec.toNat_ofNat]
  have := v.isLt
  rw [Nat.mod_eq_of_lt (by norm_num at this ⊢; omega), Nat.mod_eq_of_lt (by norm_num at this ⊢; omega)]

end Sys2Proof.Machine
end

