-- ==== Sys2Proof/Laws/Store.lean ====
section
/-!
SUPPORT. Laws of the sparse maps and byte memories: read after write, and every operation keeps the canonical form.
-/
namespace Sys2Proof.Machine

variable {α : Type}

theorem mapFind_none {m : SMap α} {k : Nat} (h : ∀ e ∈ m, e.1 ≠ k) : mapFind m k = none := by
  induction m with
  | nil => rfl
  | cons e m ih =>
    rw [mapFind, if_neg (h e (by simp)), ih fun x hx => h x (by simp [hx])]

theorem mapFind_append (m m' : SMap α) (k : Nat) : mapFind (m ++ m') k = (mapFind m k).or (mapFind m' k) := by
  induction m with
  | nil => simp [mapFind]
  | cons e m ih =>
    by_cases h : e.1 = k <;> simp [mapFind, h, ih]

theorem mapFind_filter (m : SMap α) (p : Nat → Bool) (k : Nat) :
    mapFind (m.filter (fun e => p e.1)) k = if p k then mapFind m k else none := by
  induction m with
  | nil => simp [mapFind]
  | cons e m ih =>
    by_cases h : p e.1
    · rw [List.filter_cons_of_pos (by simpa using h), mapFind, mapFind, ih]
      by_cases hk : e.1 = k
      · subst hk; simp [h]
      · simp [hk]
    · rw [List.filter_cons_of_neg (by simpa using h), mapFind, ih]
      by_cases hk : e.1 = k
      · subst hk; simp [h]
      · simp [hk]

variable [DecidableEq α]

/-- What a map holds after a write: the written key its new value (nothing where that is the default), others the old. -/
theorem mapFind_mapPut (dflt : α) (m : SMap α) (k : Nat) (v : α) (j : Nat) :
    mapFind (mapPut dflt m k v) j = if j = k then (if v = dflt then none else some v) else mapFind m j := by
  have h1 := mapFind_filter m (fun x => decide (x < k)) j
  have h2 := mapFind_filter m (fun x => decide (k < x)) j
  rw [mapPut, mapFind_append, mapFind_append, h1, h2]
  rcases Nat.lt_trichotomy j k with h | h | h
  · by_cases hv : v = dflt
    · simp [hv, h, show ¬ k < j by omega, show j ≠ k by omega, mapFind]
    · simp [hv, h, show ¬ k < j by omega, show j ≠ k by omega, mapFind, show k ≠ j by omega]
  · subst h
    by_cases hv : v = dflt <;> simp [hv, mapFind]
  · by_cases hv : v = dflt
    · simp [hv, h, show ¬ j < k by omega, show j ≠ k by omega, mapFind]
    · simp [hv, h, show ¬ j < k by omega, show j ≠ k by omega, mapFind, show k ≠ j by omega]

/-- Reading a key after writing it gives the written value. -/
@[simp] theorem mapGet_mapPut (dflt : α) (m : SMap α) (k : Nat) (v : α) : mapGet dflt (mapPut dflt m k v) k = v := by
  rw [mapGet, mapFind_mapPut]
  by_cases h : v = dflt <;> simp [h]

/-- A write leaves every other key as it was. -/
theorem mapGet_mapPut_ne (dflt : α) (m : SMap α) {k j : Nat} (v : α) (h : j ≠ k) :
    mapGet dflt (mapPut dflt m k v) j = mapGet dflt m j := by
  rw [mapGet, mapFind_mapPut, if_neg h, mapGet]

omit [DecidableEq α] in
theorem mapFind_mapClear (m : SMap α) (lo hi j : Nat) :
    mapFind (mapClear m lo hi) j = if lo ≤ j ∧ j < hi then none else mapFind m j := by
  have h := mapFind_filter m (fun x => decide (x < lo ∨ hi ≤ x)) j
  rw [mapClear, h]
  by_cases hj : lo ≤ j ∧ j < hi
  · rw [if_pos hj, if_neg (by simp; omega)]
  · rw [if_neg hj, if_pos (by simp; omega)]

/-! ### The canonical form -/

theorem mapWf_iff (dflt : Nat → α) (m : SMap α) :
    mapWf dflt m = true ↔ m.Pairwise (fun a b => a.1 < b.1) ∧ ∀ e ∈ m, e.2 ≠ dflt e.1 := by
  simp [mapWf]

theorem mapWf_filter {dflt : Nat → α} {m : SMap α} (h : mapWf dflt m = true) (p : Nat × α → Bool) :
    mapWf dflt (m.filter p) = true := by
  rw [mapWf_iff] at h ⊢
  exact ⟨h.1.filter p, fun e he => h.2 e (List.mem_of_mem_filter he)⟩

/-- A write keeps the canonical form. -/
theorem mapWf_mapPut {dflt : Nat → α} {m : SMap α} (h : mapWf dflt m = true) (k : Nat) (v : α) :
    mapWf dflt (mapPut (dflt k) m k v) = true := by
  have hk := (mapWf_iff dflt m).1 h
  rw [mapWf_iff, mapPut]
  constructor
  · rw [List.pairwise_append, List.pairwise_append]
    refine ⟨⟨hk.1.filter _, ?_, ?_⟩, hk.1.filter _, ?_⟩
    · split <;> simp
    · intro a ha b hb
      simp only [List.mem_filter, decide_eq_true_eq] at ha
      by_cases hv : v = dflt k <;> simp [hv] at hb
      subst hb; exact ha.2
    · intro a ha b hb
      simp only [List.mem_append, List.mem_filter, decide_eq_true_eq] at ha hb
      rcases ha with ha | ha
      · omega
      · by_cases hv : v = dflt k <;> simp [hv] at ha
        subst ha; exact hb.2
  · intro e he
    simp only [List.mem_append, List.mem_filter] at he
    rcases he with (he | he) | he
    · exact hk.2 e he.1
    · by_cases hv : v = dflt k <;> simp [hv] at he
      subst he; exact hv
    · exact hk.2 e he.1

/-- Clearing keeps the canonical form. -/
theorem mapWf_mapClear {dflt : Nat → α} {m : SMap α} (h : mapWf dflt m = true) (lo hi : Nat) :
    mapWf dflt (mapClear m lo hi) = true := mapWf_filter h _

theorem mapWf_nil (dflt : Nat → α) : mapWf dflt ([] : SMap α) = true := by simp [mapWf]

/-! ### Byte memories -/

theorem mem_memCells {a : Nat} {bs : List Byte} {e : Host.Cell} (h : e ∈ memCells a bs) :
    a ≤ e.1 ∧ e.1 < a + bs.length ∧ e.2 ≠ 0 := by
  induction bs generalizing a with
  | nil => simp [memCells] at h
  | cons b bs ih =>
    rw [memCells] at h
    split at h
    · have := ih h
      simp only [List.length_cons]; exact ⟨by omega, by omega, this.2.2⟩
    · rcases List.mem_cons.1 h with rfl | h
      · simp only [List.length_cons]; exact ⟨by omega, by omega, by assumption⟩
      · have := ih h
        simp only [List.length_cons]; exact ⟨by omega, by omega, this.2.2⟩

theorem memCells_pairwise (a : Nat) (bs : List Byte) : (memCells a bs).Pairwise (fun x y => x.1 < y.1) := by
  induction bs generalizing a with
  | nil => simp [memCells]
  | cons b bs ih =>
    rw [memCells]
    split
    · exact ih _
    · exact List.Pairwise.cons (fun e he => by have := mem_memCells he; simp; omega) (ih _)

/-- A write of bytes keeps the canonical form. -/
theorem memWf_memWrite {m : Mem} (h : memWf m = true) (a : Nat) (bs : List Byte) : memWf (memWrite m a bs) = true := by
  have hk := (mapWf_iff _ m).1 h
  rw [memWf, mapWf_iff, memWrite]
  constructor
  · rw [List.pairwise_append, List.pairwise_append]
    refine ⟨⟨hk.1.filter _, memCells_pairwise a bs, ?_⟩, hk.1.filter _, ?_⟩
    · intro x hx y hy
      simp only [List.mem_filter, decide_eq_true_eq] at hx
      have := mem_memCells hy; omega
    · intro x hx y hy
      simp only [List.mem_append, List.mem_filter, decide_eq_true_eq] at hx hy
      rcases hx with hx | hx
      · omega
      · have := mem_memCells hx; omega
  · intro e he
    simp only [List.mem_append, List.mem_filter] at he
    rcases he with (he | he) | he
    · exact hk.2 e he.1
    · exact (mem_memCells he).2.2
    · exact hk.2 e he.1

theorem mapFind_memCells (a : Nat) (bs : List Byte) (j : Nat) :
    (mapFind (memCells a bs) j).getD 0 = if a ≤ j then bs.getD (j - a) 0 else 0 := by
  induction bs generalizing a with
  | nil => simp [memCells, mapFind]
  | cons b bs ih =>
    rw [memCells]
    by_cases hj : j = a
    · subst hj
      split
      · rename_i hb
        rw [ih]; simp [hb]
      · simp [mapFind]
    · have h : ((a + 1 ≤ j) ↔ (a ≤ j)) := by omega
      have hb : a ≤ j → (b :: bs).getD (j - a) 0 = bs.getD (j - (a + 1)) 0 := fun ha => by
        rw [show j - a = (j - (a + 1)) + 1 by omega]; simp
      split
      · rw [ih, if_congr h rfl rfl]
        by_cases ha : a ≤ j
        · rw [if_pos ha, if_pos ha, hb ha]
        · rw [if_neg ha, if_neg ha]
      · rw [mapFind, if_neg (fun x => hj x.symm), ih, if_congr h rfl rfl]
        by_cases ha : a ≤ j
        · rw [if_pos ha, if_pos ha, hb ha]
        · rw [if_neg ha, if_neg ha]

/-- The byte at `j` after a write of bytes: inside the written bytes the new one, outside the old one. -/
theorem memByte_memWrite (m : Mem) (a : Nat) (bs : List Byte) (j : Nat) :
    memByte (memWrite m a bs) j = if a ≤ j ∧ j < a + bs.length then bs.getD (j - a) 0 else memByte m j := by
  have h1 := mapFind_filter m (fun x => decide (x < a)) j
  have h2 := mapFind_filter m (fun x => decide (a + bs.length ≤ x)) j
  have hc := mapFind_memCells a bs j
  rw [memByte, mapGet, memWrite, mapFind_append, mapFind_append, h1, h2]
  by_cases hl : j < a
  · have hn : mapFind (memCells a bs) j = none :=
      mapFind_none fun e he => by have := mem_memCells he; omega
    simp [hl, hn, show ¬ a ≤ j by omega, show ¬ a + bs.length ≤ j by omega, memByte, mapGet]
  · by_cases hr : a + bs.length ≤ j
    · have hn : mapFind (memCells a bs) j = none :=
        mapFind_none fun e he => by have := mem_memCells he; omega
      simp [hl, hr, hn, show ¬ j < a + bs.length by omega, memByte, mapGet]
    · rw [if_pos (by omega : a ≤ j ∧ j < a + bs.length)]
      simp only [show a ≤ j by omega, if_true] at hc
      simpa [hl, hr] using hc

@[simp] theorem memRead_length (m : Mem) (a n : Nat) : (memRead m a n).length = n := by
  induction n generalizing a with
  | zero => rfl
  | succ n ih => simp [memRead, ih]

/-- A read of bytes, byte by byte. -/
theorem memRead_getD (m : Mem) (a n i : Nat) (h : i < n) : (memRead m a n).getD i 0 = memByte m (a + i) := by
  induction n generalizing a i with
  | zero => omega
  | succ n ih =>
    cases i with
    | zero => simp [memRead]
    | succ i =>
      have := ih (a + 1) i (by omega)
      simp only [memRead, List.getD_cons_succ, this]; congr 1; omega

/-- Reading the bytes just written gives them back. -/
theorem memRead_memWrite (m : Mem) (a : Nat) (bs : List Byte) : memRead (memWrite m a bs) a bs.length = bs := by
  refine List.ext_getElem (by simp) fun i h1 h2 => ?_
  have h := memRead_getD (memWrite m a bs) a bs.length i h2
  rw [memByte_memWrite, if_pos (by omega)] at h
  rw [List.getD_eq_getElem?_getD, List.getElem?_eq_getElem h1] at h
  rw [show bs.getD (a + i - a) 0 = bs.getD i 0 by congr 1; omega, List.getD_eq_getElem?_getD,
    List.getElem?_eq_getElem h2] at h
  exact h

end Sys2Proof.Machine
end

