-- ==== Sys2Proof/Laws/State.lean ====
section
/-!
SUPPORT. Laws of the state: reading a register after a register has been written, and what writing registers, emitting and
marking the running task leave as they were.
-/
namespace Sys2Proof.Machine

open Sys2Proof

/-! ### Registers -/

@[simp] theorem reg_setReg (d : Device) (a : Nat) (v : Word) : (d.setReg a v).reg a = v := by
  simp only [Device.reg, Device.setReg, mapFind_mapPut, if_true]
  by_cases h : v = regReset a <;> simp [h]

theorem reg_setReg_ne (d : Device) {a b : Nat} (v : Word) (h : b ≠ a) : (d.setReg a v).reg b = d.reg b := by
  simp only [Device.reg, Device.setReg, mapFind_mapPut, if_neg h]

/-- A register after a write, whichever register was written. -/
theorem reg_setReg_if (d : Device) (a b : Nat) (v : Word) : (d.setReg a v).reg b = if b = a then v else d.reg b := by
  by_cases h : b = a
  · subst h; simp
  · rw [if_neg h, reg_setReg_ne d v h]

@[simp] theorem reg_setF (d : Device) (a lo w x : Nat) : (d.setF a lo w x).reg a = putFld (d.reg a) lo w x := by
  simp [Device.setF]

theorem reg_setF_ne (d : Device) {a b : Nat} (lo w x : Nat) (h : b ≠ a) : (d.setF a lo w x).reg b = d.reg b :=
  reg_setReg_ne d _ h

@[simp] theorem reg_bump (d : Device) (a n : Nat) : (d.bump a n).reg a = d.reg a + BitVec.ofNat 64 n := by
  simp [Device.bump]

theorem reg_bump_ne (d : Device) {a b : Nat} (n : Nat) (h : b ≠ a) : (d.bump a n).reg b = d.reg b := reg_setReg_ne d _ h

/-- A field reads what was written to it. -/
theorem regF_setF (d : Device) (a : Nat) {lo w : Nat} (x : Nat) (h : lo + w ≤ 64) :
    (d.setF a lo w x).regF a lo w = x % 2 ^ w := by
  rw [Device.regF, reg_setF, fld_putFld _ _ h]

/-- A field that does not meet the written one keeps its value. -/
theorem regF_setF_ne (d : Device) (a : Nat) {lo w lo' w' : Nat} (x : Nat) (h : lo + w ≤ lo' ∨ lo' + w' ≤ lo) :
    (d.setF a lo w x).regF a lo' w' = d.regF a lo' w' := by
  rw [Device.regF, reg_setF, fld_putFld_ne _ _ h, Device.regF]

theorem regF_setF_other (d : Device) {a b : Nat} (lo w x lo' w' : Nat) (h : b ≠ a) :
    (d.setF a lo w x).regF b lo' w' = d.regF b lo' w' := by
  rw [Device.regF, reg_setF_ne d lo w x h, Device.regF]

theorem regF_setReg_ne (d : Device) {a b : Nat} (v : Word) (lo w : Nat) (h : b ≠ a) :
    (d.setReg a v).regF b lo w = d.regF b lo w := by
  rw [Device.regF, reg_setReg_ne d v h, Device.regF]

theorem regBit_setReg_ne (d : Device) {a b : Nat} (v : Word) (i : Nat) (h : b ≠ a) :
    (d.setReg a v).regBit b i = d.regBit b i := by
  rw [Device.regBit, reg_setReg_ne d v h, Device.regBit]

theorem regBit_setF (d : Device) (a lo w x i : Nat) :
    (d.setF a lo w x).regBit a i =
      if lo ≤ i ∧ i < lo + w ∧ i < 64 then x.testBit (i - lo) else d.regBit a i := by
  rw [Device.regBit, reg_setF, bit_putFld, Device.regBit]

/-- A one-bit field is the bit. -/
theorem regF_one (d : Device) (a i : Nat) : d.regF a i 1 = b2n (d.regBit a i) := fld_one (d.reg a) i

@[simp] theorem reg_emit (d : Device) (o : Output) (a : Nat) : (d.emit o).reg a = d.reg a := rfl
@[simp] theorem reg_setRun (d : Device) (r : Option Run) (a : Nat) : (d.setRun r).reg a = d.reg a := rfl
@[simp] theorem reg_mapRun (d : Device) (f : Run → Run) (a : Nat) : (d.mapRun f).reg a = d.reg a := rfl
@[simp] theorem reg_markPoison (d : Device) (c a : Nat) : (d.markPoison c).reg a = d.reg a := rfl
@[simp] theorem reg_markConsumed (d : Device) (a : Nat) : d.markConsumed.reg a = d.reg a := rfl
@[simp] theorem reg_takeFree (d : Device) (w a : Nat) : (d.takeFree w).2.reg a = d.reg a := rfl
@[simp] theorem reg_setFunc (d : Device) (f : Nat) (x : Func) (a : Nat) : (d.setFunc f x).reg a = d.reg a := rfl
@[simp] theorem reg_sendControl (d : Device) (l t : Nat) (ws : List Nat) (a : Nat) :
    (d.sendControl l t ws).reg a = d.reg a := rfl

/-- Writing fields of one register leaves every other register. -/
theorem reg_setFs_ne (d : Device) {a b : Nat} (fs : List (Nat × Nat × Nat)) (h : b ≠ a) :
    (d.setFs a fs).reg b = d.reg b := by
  induction fs generalizing d with
  | nil => rfl
  | cons f fs ih => rw [Device.setFs, ih, reg_setF_ne d _ _ _ h]

/-! ### What writing registers leaves as it was -/

@[simp] theorem setReg_freeIx (d : Device) (a : Nat) (v : Word) : (d.setReg a v).freeIx = d.freeIx := rfl
@[simp] theorem setReg_out (d : Device) (a : Nat) (v : Word) : (d.setReg a v).out = d.out := rfl
@[simp] theorem setReg_justSet (d : Device) (a : Nat) (v : Word) : (d.setReg a v).justSet = d.justSet := rfl
@[simp] theorem setReg_belfry (d : Device) (a : Nat) (v : Word) : (d.setReg a v).belfry = d.belfry := rfl
@[simp] theorem setReg_lantern (d : Device) (a : Nat) (v : Word) : (d.setReg a v).lantern = d.lantern := rfl
@[simp] theorem setReg_hif (d : Device) (a : Nat) (v : Word) : (d.setReg a v).hif = d.hif := rfl
@[simp] theorem setReg_queues (d : Device) (a : Nat) (v : Word) : (d.setReg a v).queues = d.queues := rfl
@[simp] theorem setReg_pop (d : Device) (a : Nat) (v : Word) : (d.setReg a v).pop = d.pop := rfl
@[simp] theorem setReg_streams (d : Device) (a : Nat) (v : Word) : (d.setReg a v).streams = d.streams := rfl
@[simp] theorem setReg_hbm (d : Device) (a : Nat) (v : Word) : (d.setReg a v).hbm = d.hbm := rfl
@[simp] theorem setReg_net (d : Device) (a : Nat) (v : Word) : (d.setReg a v).net = d.net := rfl
@[simp] theorem setReg_cluster (d : Device) (a : Nat) (v : Word) : (d.setReg a v).cluster = d.cluster := rfl
@[simp] theorem setReg_links (d : Device) (a : Nat) (v : Word) : (d.setReg a v).links = d.links := rfl
@[simp] theorem setReg_maintCfg (d : Device) (a : Nat) (v : Word) : (d.setReg a v).maintCfg = d.maintCfg := rfl
@[simp] theorem setReg_tile (d : Device) (a : Nat) (v : Word) : (d.setReg a v).tile = d.tile := rfl
@[simp] theorem setReg_cfgMem (d : Device) (a : Nat) (v : Word) : (d.setReg a v).cfgMem = d.cfgMem := rfl
@[simp] theorem setReg_dome (d : Device) (a : Nat) (v : Word) : (d.setReg a v).dome = d.dome := rfl
@[simp] theorem setReg_fabric (d : Device) (a : Nat) (v : Word) : (d.setReg a v).fabric = d.fabric := rfl
@[simp] theorem setReg_load (d : Device) (a : Nat) (v : Word) : (d.setReg a v).load = d.load := rfl
@[simp] theorem setReg_keep (d : Device) (a : Nat) (v : Word) : (d.setReg a v).keep = d.keep := rfl
@[simp] theorem setReg_tap (d : Device) (a : Nat) (v : Word) : (d.setReg a v).tap = d.tap := rfl
@[simp] theorem setF_freeIx (d : Device) (a lo w x : Nat) : (d.setF a lo w x).freeIx = d.freeIx := rfl
@[simp] theorem setF_out (d : Device) (a lo w x : Nat) : (d.setF a lo w x).out = d.out := rfl
@[simp] theorem setF_justSet (d : Device) (a lo w x : Nat) : (d.setF a lo w x).justSet = d.justSet := rfl
@[simp] theorem setF_belfry (d : Device) (a lo w x : Nat) : (d.setF a lo w x).belfry = d.belfry := rfl
@[simp] theorem setF_lantern (d : Device) (a lo w x : Nat) : (d.setF a lo w x).lantern = d.lantern := rfl
@[simp] theorem setF_hif (d : Device) (a lo w x : Nat) : (d.setF a lo w x).hif = d.hif := rfl
@[simp] theorem setF_queues (d : Device) (a lo w x : Nat) : (d.setF a lo w x).queues = d.queues := rfl
@[simp] theorem setF_pop (d : Device) (a lo w x : Nat) : (d.setF a lo w x).pop = d.pop := rfl
@[simp] theorem setF_streams (d : Device) (a lo w x : Nat) : (d.setF a lo w x).streams = d.streams := rfl
@[simp] theorem setF_hbm (d : Device) (a lo w x : Nat) : (d.setF a lo w x).hbm = d.hbm := rfl
@[simp] theorem setF_net (d : Device) (a lo w x : Nat) : (d.setF a lo w x).net = d.net := rfl
@[simp] theorem setF_cluster (d : Device) (a lo w x : Nat) : (d.setF a lo w x).cluster = d.cluster := rfl
@[simp] theorem setF_links (d : Device) (a lo w x : Nat) : (d.setF a lo w x).links = d.links := rfl
@[simp] theorem setF_maintCfg (d : Device) (a lo w x : Nat) : (d.setF a lo w x).maintCfg = d.maintCfg := rfl
@[simp] theorem setF_tile (d : Device) (a lo w x : Nat) : (d.setF a lo w x).tile = d.tile := rfl
@[simp] theorem setF_cfgMem (d : Device) (a lo w x : Nat) : (d.setF a lo w x).cfgMem = d.cfgMem := rfl
@[simp] theorem setF_dome (d : Device) (a lo w x : Nat) : (d.setF a lo w x).dome = d.dome := rfl
@[simp] theorem setF_fabric (d : Device) (a lo w x : Nat) : (d.setF a lo w x).fabric = d.fabric := rfl
@[simp] theorem setF_load (d : Device) (a lo w x : Nat) : (d.setF a lo w x).load = d.load := rfl
@[simp] theorem setF_keep (d : Device) (a lo w x : Nat) : (d.setF a lo w x).keep = d.keep := rfl
@[simp] theorem setF_tap (d : Device) (a lo w x : Nat) : (d.setF a lo w x).tap = d.tap := rfl
@[simp] theorem bump_freeIx (d : Device) (a n : Nat) : (d.bump a n).freeIx = d.freeIx := rfl
@[simp] theorem bump_out (d : Device) (a n : Nat) : (d.bump a n).out = d.out := rfl
@[simp] theorem bump_justSet (d : Device) (a n : Nat) : (d.bump a n).justSet = d.justSet := rfl
@[simp] theorem bump_belfry (d : Device) (a n : Nat) : (d.bump a n).belfry = d.belfry := rfl
@[simp] theorem bump_lantern (d : Device) (a n : Nat) : (d.bump a n).lantern = d.lantern := rfl
@[simp] theorem bump_hif (d : Device) (a n : Nat) : (d.bump a n).hif = d.hif := rfl
@[simp] theorem bump_queues (d : Device) (a n : Nat) : (d.bump a n).queues = d.queues := rfl
@[simp] theorem bump_pop (d : Device) (a n : Nat) : (d.bump a n).pop = d.pop := rfl
@[simp] theorem bump_streams (d : Device) (a n : Nat) : (d.bump a n).streams = d.streams := rfl
@[simp] theorem bump_hbm (d : Device) (a n : Nat) : (d.bump a n).hbm = d.hbm := rfl
@[simp] theorem bump_net (d : Device) (a n : Nat) : (d.bump a n).net = d.net := rfl
@[simp] theorem bump_cluster (d : Device) (a n : Nat) : (d.bump a n).cluster = d.cluster := rfl
@[simp] theorem bump_links (d : Device) (a n : Nat) : (d.bump a n).links = d.links := rfl
@[simp] theorem bump_maintCfg (d : Device) (a n : Nat) : (d.bump a n).maintCfg = d.maintCfg := rfl
@[simp] theorem bump_tile (d : Device) (a n : Nat) : (d.bump a n).tile = d.tile := rfl
@[simp] theorem bump_cfgMem (d : Device) (a n : Nat) : (d.bump a n).cfgMem = d.cfgMem := rfl
@[simp] theorem bump_dome (d : Device) (a n : Nat) : (d.bump a n).dome = d.dome := rfl
@[simp] theorem bump_fabric (d : Device) (a n : Nat) : (d.bump a n).fabric = d.fabric := rfl
@[simp] theorem bump_load (d : Device) (a n : Nat) : (d.bump a n).load = d.load := rfl
@[simp] theorem bump_keep (d : Device) (a n : Nat) : (d.bump a n).keep = d.keep := rfl
@[simp] theorem bump_tap (d : Device) (a n : Nat) : (d.bump a n).tap = d.tap := rfl
@[simp] theorem emit_regs (d : Device) (o : Output) : (d.emit o).regs = d.regs := rfl
@[simp] theorem emit_freeIx (d : Device) (o : Output) : (d.emit o).freeIx = d.freeIx := rfl
@[simp] theorem emit_belfry (d : Device) (o : Output) : (d.emit o).belfry = d.belfry := rfl
@[simp] theorem emit_lantern (d : Device) (o : Output) : (d.emit o).lantern = d.lantern := rfl
@[simp] theorem emit_hif (d : Device) (o : Output) : (d.emit o).hif = d.hif := rfl
@[simp] theorem emit_queues (d : Device) (o : Output) : (d.emit o).queues = d.queues := rfl
@[simp] theorem emit_pop (d : Device) (o : Output) : (d.emit o).pop = d.pop := rfl
@[simp] theorem emit_streams (d : Device) (o : Output) : (d.emit o).streams = d.streams := rfl
@[simp] theorem emit_hbm (d : Device) (o : Output) : (d.emit o).hbm = d.hbm := rfl
@[simp] theorem emit_net (d : Device) (o : Output) : (d.emit o).net = d.net := rfl
@[simp] theorem emit_cluster (d : Device) (o : Output) : (d.emit o).cluster = d.cluster := rfl
@[simp] theorem emit_links (d : Device) (o : Output) : (d.emit o).links = d.links := rfl
@[simp] theorem emit_maintCfg (d : Device) (o : Output) : (d.emit o).maintCfg = d.maintCfg := rfl
@[simp] theorem emit_tile (d : Device) (o : Output) : (d.emit o).tile = d.tile := rfl
@[simp] theorem emit_cfgMem (d : Device) (o : Output) : (d.emit o).cfgMem = d.cfgMem := rfl
@[simp] theorem emit_dome (d : Device) (o : Output) : (d.emit o).dome = d.dome := rfl
@[simp] theorem emit_fabric (d : Device) (o : Output) : (d.emit o).fabric = d.fabric := rfl
@[simp] theorem emit_load (d : Device) (o : Output) : (d.emit o).load = d.load := rfl
@[simp] theorem emit_keep (d : Device) (o : Output) : (d.emit o).keep = d.keep := rfl
@[simp] theorem emit_tap (d : Device) (o : Output) : (d.emit o).tap = d.tap := rfl
@[simp] theorem emit_out (d : Device) (o : Output) : (d.emit o).out = d.out ++ [o] := rfl

/-- Writing fields of a register writes nothing but registers. -/
theorem setFs_eq (d : Device) (a : Nat) (fs : List (Nat × Nat × Nat)) :
    d.setFs a fs = { d with regs := (d.setFs a fs).regs } := by
  induction fs generalizing d with
  | nil => rfl
  | cons f fs ih => rw [Device.setFs, ih]; rfl

@[simp] theorem setFs_freeIx (d : Device) (a : Nat) (fs : List (Nat × Nat × Nat)) : (d.setFs a fs).freeIx = d.freeIx := by rw [setFs_eq]
@[simp] theorem setFs_out (d : Device) (a : Nat) (fs : List (Nat × Nat × Nat)) : (d.setFs a fs).out = d.out := by rw [setFs_eq]
@[simp] theorem setFs_belfry (d : Device) (a : Nat) (fs : List (Nat × Nat × Nat)) : (d.setFs a fs).belfry = d.belfry := by rw [setFs_eq]
@[simp] theorem setFs_lantern (d : Device) (a : Nat) (fs : List (Nat × Nat × Nat)) : (d.setFs a fs).lantern = d.lantern := by rw [setFs_eq]
@[simp] theorem setFs_hif (d : Device) (a : Nat) (fs : List (Nat × Nat × Nat)) : (d.setFs a fs).hif = d.hif := by rw [setFs_eq]
@[simp] theorem setFs_queues (d : Device) (a : Nat) (fs : List (Nat × Nat × Nat)) : (d.setFs a fs).queues = d.queues := by rw [setFs_eq]
@[simp] theorem setFs_pop (d : Device) (a : Nat) (fs : List (Nat × Nat × Nat)) : (d.setFs a fs).pop = d.pop := by rw [setFs_eq]
@[simp] theorem setFs_streams (d : Device) (a : Nat) (fs : List (Nat × Nat × Nat)) : (d.setFs a fs).streams = d.streams := by rw [setFs_eq]
@[simp] theorem setFs_hbm (d : Device) (a : Nat) (fs : List (Nat × Nat × Nat)) : (d.setFs a fs).hbm = d.hbm := by rw [setFs_eq]
@[simp] theorem setFs_net (d : Device) (a : Nat) (fs : List (Nat × Nat × Nat)) : (d.setFs a fs).net = d.net := by rw [setFs_eq]
@[simp] theorem setFs_cluster (d : Device) (a : Nat) (fs : List (Nat × Nat × Nat)) : (d.setFs a fs).cluster = d.cluster := by rw [setFs_eq]
@[simp] theorem setFs_links (d : Device) (a : Nat) (fs : List (Nat × Nat × Nat)) : (d.setFs a fs).links = d.links := by rw [setFs_eq]
@[simp] theorem setFs_maintCfg (d : Device) (a : Nat) (fs : List (Nat × Nat × Nat)) : (d.setFs a fs).maintCfg = d.maintCfg := by rw [setFs_eq]
@[simp] theorem setFs_tile (d : Device) (a : Nat) (fs : List (Nat × Nat × Nat)) : (d.setFs a fs).tile = d.tile := by rw [setFs_eq]
@[simp] theorem setFs_cfgMem (d : Device) (a : Nat) (fs : List (Nat × Nat × Nat)) : (d.setFs a fs).cfgMem = d.cfgMem := by rw [setFs_eq]
@[simp] theorem setFs_dome (d : Device) (a : Nat) (fs : List (Nat × Nat × Nat)) : (d.setFs a fs).dome = d.dome := by rw [setFs_eq]
@[simp] theorem setFs_fabric (d : Device) (a : Nat) (fs : List (Nat × Nat × Nat)) : (d.setFs a fs).fabric = d.fabric := by rw [setFs_eq]
@[simp] theorem setFs_load (d : Device) (a : Nat) (fs : List (Nat × Nat × Nat)) : (d.setFs a fs).load = d.load := by rw [setFs_eq]
@[simp] theorem setFs_keep (d : Device) (a : Nat) (fs : List (Nat × Nat × Nat)) : (d.setFs a fs).keep = d.keep := by rw [setFs_eq]
@[simp] theorem setFs_tap (d : Device) (a : Nat) (fs : List (Nat × Nat × Nat)) : (d.setFs a fs).tap = d.tap := by rw [setFs_eq]

/-! ### Outcomes -/

/-- A command that takes place whatever the supply leaves the queue and gives the device after it. -/
theorem tookAlways_next (s : State) (f : Device → Device) :
    tookAlways s f = .next { dev := f s.dev, pending := s.pending } := rfl

/-- A command of the running module, when the module runs. -/
theorem took_alive {s : State} (f : Device → Device) (h : s.dev.alive = true) :
    took s f = .next { dev := f s.dev, pending := s.pending } := by simp [took, tookAlways, h]

/-- A command of the running module without power or in module reset: nothing takes place. -/
theorem took_dead {s : State} (f : Device → Device) (h : s.dev.alive = false) : took s f = .next s := by
  simp [took, tookAlways, h]

/-- A command of the running module completes with whatever holds of the device that it leaves. -/
theorem completes_took {c : Instr} {s : State} {f : Device → Device} {P : Device → Prop}
    (hc : exec c s = took s f) (h : s.dev.alive = true) (hp : P (f s.dev)) : Completes c s P :=
  ⟨f s.dev, hc.trans (took_alive f h), hp⟩

/-- A command that takes place whatever the supply completes with whatever holds of the device that it leaves. -/
theorem completes_tookAlways {c : Instr} {s : State} {f : Device → Device} {P : Device → Prop}
    (hc : exec c s = tookAlways s f) (hp : P (f s.dev)) : Completes c s P := ⟨f s.dev, hc, hp⟩

/-! ### Only some registers change -/

theorem onlyRegs_setReg (d : Device) (a : Nat) (v : Word) : OnlyRegs [a] d (d.setReg a v) :=
  ⟨rfl, fun b hb => reg_setReg_ne d v (by simpa using hb)⟩

theorem onlyRegs_setF (d : Device) (a lo w x : Nat) : OnlyRegs [a] d (d.setF a lo w x) := onlyRegs_setReg d a _

theorem onlyRegs_bump (d : Device) (a n : Nat) : OnlyRegs [a] d (d.bump a n) := onlyRegs_setReg d a _

theorem OnlyRegs.refl (d : Device) (as : List Nat) : OnlyRegs as d d := ⟨rfl, fun _ _ => rfl⟩

theorem OnlyRegs.mono {as bs : List Nat} {d d' : Device} (h : OnlyRegs as d d') (hs : ∀ a ∈ as, a ∈ bs) :
    OnlyRegs bs d d' := ⟨h.1, fun a ha => h.2 a fun hx => ha (hs a hx)⟩

theorem OnlyRegs.trans {as : List Nat} {d d' d'' : Device} (h : OnlyRegs as d d') (h' : OnlyRegs as d' d'') :
    OnlyRegs as d d'' :=
  ⟨by rw [h'.1, h.1], fun a ha => (h'.2 a ha).trans (h.2 a ha)⟩

/-- Writing one more register. -/
theorem OnlyRegs.setReg {as : List Nat} {d d' : Device} (h : OnlyRegs as d d') {a : Nat} (ha : a ∈ as) (v : Word) :
    OnlyRegs as d (d'.setReg a v) := h.trans ((onlyRegs_setReg d' a v).mono (by simpa using ha))

theorem OnlyRegs.setF {as : List Nat} {d d' : Device} (h : OnlyRegs as d d') {a : Nat} (ha : a ∈ as) (lo w x : Nat) :
    OnlyRegs as d (d'.setF a lo w x) := h.setReg ha _

theorem OnlyRegs.bump {as : List Nat} {d d' : Device} (h : OnlyRegs as d d') {a : Nat} (ha : a ∈ as) (n : Nat) :
    OnlyRegs as d (d'.bump a n) := h.setReg ha _

/-! ### Units of the memories -/

/-- Reading a unit after writing it gives the written unit. -/
theorem unit_putUnit (m : Store) (u : Nat) (x : DUnit) : (m.putUnit u x).unit u = x := by
  have h := memRead_memWrite m.bytes (64 * u) (lineBytes x.data)
  have hl : (lineBytes x.data).length = 64 := by simp [lineBytes]
  rw [hl] at h
  simp only [Store.unit, Store.putUnit, h, bytesLine_lineBytes, mapGet_mapPut]

theorem wf_putUnit {m : Store} (h : m.wf = true) (u : Nat) (x : DUnit) : (m.putUnit u x).wf = true := by
  simp only [Store.wf, Bool.and_eq_true] at h ⊢
  exact ⟨memWf_memWrite h.1 _ _, mapWf_mapPut (dflt := fun _ => UnitInfo.initial) h.2 u _⟩

theorem wf_clearUnits {m : Store} (h : m.wf = true) (u n : Nat) : (m.clearUnits u n).wf = true := by
  simp only [Store.wf, Bool.and_eq_true] at h ⊢
  exact ⟨mapWf_mapClear h.1 _ _, mapWf_mapClear h.2 _ _⟩

theorem regsWf_setReg {d : Device} (h : d.regsWf = true) (a : Nat) (v : Word) : (d.setReg a v).regsWf = true :=
  mapWf_mapPut h a v

end Sys2Proof.Machine
end

