-- ==== Sys2Proof/Laws/Ops.lean ====
section
/-!
SUPPORT. What each shared operation can do, said once: power requests, what goes to the host, marks, counters and fault
records, network transactions, answers of the Keep, and the passing of time.
-/
namespace Sys2Proof.Machine

open Sys2Proof

/-! ### Power requests and time -/

/-- A wake request touches PWR_STATUS, PWR_WAKE_CNT and the wake that runs, and nothing else. -/
theorem requestWake_frame (d : Device) (b : Bool) :
    d.requestWake b = { d with
      regs := (d.requestWake b).regs, belfry := { d.belfry with wake := (d.requestWake b).belfry.wake } } ∧
    SameRegs [Reg.pwrStatus, Reg.pwrWakeCnt] d (d.requestWake b) := by
  unfold Device.requestWake
  dsimp only
  split
  · exact ⟨rfl, fun _ _ => rfl⟩
  split
  · exact ⟨rfl, fun _ _ => rfl⟩
  split
  · exact ⟨rfl, fun _ _ => rfl⟩
  split
  · exact ⟨rfl, fun _ _ => rfl⟩
  · refine ⟨rfl, fun a ha => ?_⟩
    simp only [List.mem_cons, List.not_mem_nil, or_false, not_or] at ha
    exact (reg_setF_ne _ _ _ _ ha.1).trans (reg_bump_ne d 1 ha.2)

/-- In Run no wake is needed. -/
theorem requestWake_run {d : Device} (b : Bool) (h : d.power = 0) : d.requestWake b = d := by simp [Device.requestWake, h]

/-- In Warm, a wake to Warm is not needed. -/
theorem requestWake_warm {d : Device} (h : d.power = 1) : d.requestWake false = d := by simp [Device.requestWake, h]

/-- From Cold and from Standby a wake begins at once and takes its full time (R459, R461). -/
theorem requestWake_low {d : Device} (b : Bool) (h : d.power = 2 ∨ d.power = 3) :
    d.requestWake b = { (d.bump Reg.pwrWakeCnt 1).setPower 6 with
      belfry := { d.belfry with
        wake := some { toRun := b, done := some (d.now + wakeTime d.power), standby := decide (d.power = 3) } } } := by
  rcases h with h | h <;> simp only [Device.requestWake, h] <;> rfl

/-- Time that has come already passes nothing. -/
theorem advance_past {d : Device} {g : Nat} (h : g ≤ d.now) : d.advance g = d := by
  rw [Device.advance, if_neg (by omega)]

/-- A counter that does not count passes nothing. -/
theorem advance_stopped {d : Device} (g : Nat) (h : d.belfry.counting = false) : d.advance g = d := by
  simp [Device.advance, h]

/-! ### Bits that events set and writes clear (R16) -/

/-- An event sets its bits, and the others stay as they are. -/
@[simp] theorem reg_raise (d : Device) (a : Nat) (m : Word) : (d.raise a m).reg a = d.reg a ||| m := reg_setReg d a _

theorem reg_raise_ne (d : Device) {a b : Nat} (m : Word) (h : b ≠ a) : (d.raise a m).reg b = d.reg b := reg_setReg_ne d _ h

/-- A write of 1s clears what no event sets in the same clock. -/
@[simp] theorem reg_clearBits (d : Device) (a : Nat) (m : Word) :
    (d.clearBits a m).reg a = d.reg a &&& ~~~(m &&& ~~~d.raised a) := reg_setReg d a _

theorem reg_clearBits_ne (d : Device) {a b : Nat} (m : Word) (h : b ≠ a) : (d.clearBits a m).reg b = d.reg b :=
  reg_setReg_ne d _ h

/-! ### What is sent to the host -/

/-- A posted write to host memory is discarded and counted, held for its translation or behind an earlier one, or issued. -/
theorem hostWrite_cases (d : Device) (f : Nat) (pasid : Option Nat) (a : Nat) (bs : List Byte) (ep : Bool) :
    (d.hostOk f a true = false ∧ d.hostWrite f pasid a bs ep = d.bump Reg.hifWrDiscardCnt 1) ∨
    (d.hostOk f a true = true ∧ d.usesAts f = true ∧ d.atsFind f a = none ∧
      d.hostWrite f pasid a bs ep = (d.emit (.atsRequest f a)).holdRequest
        { func := f, pasid := pasid, addr := a, request := .write bs ep }) ∨
    (d.hostOk f a true = true ∧ d.usesAts f = true ∧ d.postedHeld f = true ∧
      d.hostWrite f pasid a bs ep = d.holdRequest { func := f, pasid := pasid, addr := a, request := .write bs ep }) ∨
    (d.hostOk f a true = true ∧ ∃ b, d.hostWrite f pasid a bs ep = d.emit (.hostWrite f pasid b bs ep)) := by
  unfold Device.hostWrite
  by_cases hn : d.hostOk f a true = false
  · exact .inl ⟨hn, if_pos hn⟩
  · have ho : d.hostOk f a true = true := by simpa using hn
    rw [if_neg hn]
    split
    · cases h : d.atsFind f a with
      | none => exact .inr (.inl ⟨ho, ‹_›, rfl, rfl⟩)
      | some e =>
        by_cases hp : d.postedHeld f = true
        · exact .inr (.inr (.inl ⟨ho, ‹_›, hp, if_pos hp⟩))
        · exact .inr (.inr (.inr ⟨ho, _, if_neg hp⟩))
    · exact .inr (.inr (.inr ⟨ho, _, rfl⟩))

/-- A read of host memory cannot be issued, is held for its translation, or is issued. -/
theorem hostRead_cases (d : Device) (f : Nat) (pasid : Option Nat) (a n : Nat) (what : HostReadFor) :
    (d.hostOk f a false = false ∧ d.hostRead f pasid a n what = (d, false)) ∨
    (d.hostOk f a false = true ∧ d.usesAts f = true ∧ d.atsFind f a = none ∧
      d.hostRead f pasid a n what = ((d.emit (.atsRequest f a)).holdRequest
        { func := f, pasid := pasid, addr := a, request := .read n what }, true)) ∨
    (d.hostOk f a false = true ∧ ∃ b, d.hostRead f pasid a n what = (d.emit (.hostRead f pasid b n), true)) := by
  unfold Device.hostRead
  by_cases hn : d.hostOk f a false = false
  · exact .inl ⟨hn, if_pos hn⟩
  · have ho : d.hostOk f a false = true := by simpa using hn
    rw [if_neg hn]
    split
    · cases h : d.atsFind f a with
      | none => exact .inr (.inl ⟨ho, ‹_›, rfl, rfl⟩)
      | some e => exact .inr (.inr ⟨ho, _, rfl⟩)
    · exact .inr (.inr ⟨ho, _, rfl⟩)

/-- An MSI-X message is discarded and counted, held behind a posted request of its function, or issued. -/
theorem msix_cases (d : Device) (f vec : Nat) :
    (d.canIssue f = false ∧ d.msix f vec = d.bump Reg.hifWrDiscardCnt 1) ∨
    (d.canIssue f = true ∧ d.postedHeld f = true ∧
      d.msix f vec = d.holdRequest { func := f, pasid := none, addr := 0, request := .msix vec }) ∨
    (d.canIssue f = true ∧ d.postedHeld f = false ∧ d.msix f vec = d.emit (.msix f vec)) := by
  cases h : d.canIssue f <;> cases hp : d.postedHeld f <;> simp [Device.msix, h, hp]

/-- An MSI-X message leaves everything but what is sent or held and one counter. -/
theorem msix_frame (d : Device) (f vec : Nat) :
    d.msix f vec = { d with regs := (d.msix f vec).regs, out := (d.msix f vec).out,
                            hif := { d.hif with held := (d.msix f vec).hif.held } } ∧
    SameRegs [Reg.hifWrDiscardCnt] d (d.msix f vec) := by
  rcases msix_cases d f vec with ⟨_, h⟩ | ⟨_, _, h⟩ | ⟨_, _, h⟩ <;> rw [h]
  · exact ⟨rfl, (onlyRegs_bump d _ 1).2⟩
  · exact ⟨rfl, fun _ _ => rfl⟩
  · exact ⟨rfl, fun _ _ => rfl⟩

/-- A control unit waits behind those that wait already. -/
theorem sendControl_eq (d : Device) (link typ : Nat) (ws : List Nat) :
    d.sendControl link typ ws = { d with
      links := { d.links with ctrl := d.links.ctrl ++ [{ link := link, typ := typ, words := ws }] } } := rfl

/-! ### Marks, counters and fault records -/

/-- Marking the running task touches nothing else. -/
theorem markPoison_eq (d : Device) (c : Nat) :
    d.markPoison c = { d with lantern := { d.lantern with run := (d.markPoison c).lantern.run } } := rfl

theorem markConsumed_eq (d : Device) :
    d.markConsumed = { d with lantern := { d.lantern with run := d.markConsumed.lantern.run } } := rfl

theorem corrected_onlyRegs (d : Device) (cnt : Nat) : OnlyRegs [cnt, Reg.errCorrCnt] d (d.corrected cnt) :=
  ((OnlyRegs.refl d _).bump (by simp) 1).bump (by simp) 1

theorem uncorrected_onlyRegs (d : Device) (cnt : Nat) : OnlyRegs [cnt, Reg.errUncorrCnt] d (d.uncorrected cnt) :=
  ((OnlyRegs.refl d _).bump (by simp) 1).bump (by simp) 1

/-- The device but for its registers, what it has sent or holds to send, the running task and the log of the gcyc's faults. -/
def Device.still (d : Device) : Device :=
  { d with
    regs := [], out := [], lantern := { d.lantern with run := none, faults := { at_ := 0, base := 0, entries := [] } },
    hif := { d.hif with held := [] } }

theorem still_setReg (d : Device) (a : Nat) (v : Word) : (d.setReg a v).still = d.still := rfl
theorem still_bump (d : Device) (a n : Nat) : (d.bump a n).still = d.still := rfl
theorem still_emit (d : Device) (o : Output) : (d.emit o).still = d.still := rfl
theorem still_mapRun (d : Device) (f : Run → Run) : (d.mapRun f).still = d.still := rfl
theorem still_markPoison (d : Device) (c : Nat) : (d.markPoison c).still = d.still := rfl

theorem still_holdRequest (d : Device) (h : AtsHeld) : (d.holdRequest h).still = d.still := rfl

theorem still_msix (d : Device) (f vec : Nat) : (d.msix f vec).still = d.still := by
  rcases msix_cases d f vec with ⟨_, h⟩ | ⟨_, _, h⟩ | ⟨_, _, h⟩ <;> rw [h]
  · exact still_bump d _ _
  · exact still_holdRequest d _
  · exact still_emit d _

/-- A fold of steps that leave the rest still does. -/
theorem still_fold {α : Type} (f : Device → α → Device) (h : ∀ d x, (f d x).still = d.still) (l : List α) (d : Device) :
    (l.foldl f d).still = d.still := by
  induction l generalizing d with
  | nil => rfl
  | cons x l ih => rw [List.foldl_cons, ih, h]

/-- The records of a gcyc stand in registers, and in the log. -/
theorem still_putFaults (d : Device) (l : FaultLog) : (d.putFaults l).still = d.still := by
  unfold Device.putFaults
  rw [still_fold _ (fun _ _ => still_fold _ (fun _ _ => still_setReg _ _ _) _ _)]
  rfl

theorem still_noteFirstFault (d : Device) : d.noteFirstFault.still = d.still := still_mapRun d _

/-- A fault record touches registers, the log, the running task's first fault and what is sent. -/
theorem still_faultRecord (d : Device) (kind unit : Nat) (f0 : List (Nat × Nat)) (f1 f2 f3 f4 f5 : Word) (g : Nat) (f7 : Word) :
    (d.faultRecord kind unit f0 f1 f2 f3 f4 f5 g f7).still = d.still := by
  unfold Device.faultRecord
  lift_lets
  extract_lets l task first e d1 d2
  have h : d2.still = d.still := by simp only [d2, d1, still_setReg, still_bump, still_noteFirstFault, still_putFaults]
  clear_value d2
  split
  · exact (still_msix _ _ _).trans h
  · exact h

/-- A configuration-integrity event touches registers, the running task and what is sent. -/
theorem still_cfgIntegrity (d : Device) (source where_ opnum causeBit : Nat) :
    (d.cfgIntegrity source where_ opnum causeBit).still = d.still := by
  have h : ((d.bump Reg.errCfgIntegCnt 1).markPoison causeBit).still = d.still := rfl
  simp only [Device.cfgIntegrity]
  split
  · exact h
  split
  · exact h
  · rw [still_mapRun, still_faultRecord, h]

/-! ### Network transactions (R277) -/

/-- A transaction that waits for its interface is added behind the others, numbered next; a wake may be requested. -/
theorem newTxn_net (d : Device) (init : Nat) (cmd : NetCmd) (target : NetTarget) (len : Nat) (data : List DUnit) (be : Word)
    (purpose : NetFor) :
    (d.newTxn init false cmd target len data be purpose).net =
      { d.net with
        txns := d.net.txns ++ [Txn.fresh d.net.nextId init false cmd target len data be purpose]
        nextId := d.net.nextId + 1 } := by
  rw [Device.newTxn, if_neg (by decide)]
  exact congrArg Device.net (requestWake_frame _ false).1

/-- And every memory, queue and task is as it was. -/
theorem newTxn_rest (d : Device) (init : Nat) (cmd : NetCmd) (target : NetTarget) (len : Nat) (data : List DUnit)
    (be : Word) (purpose : NetFor) :
    let e := d.newTxn init false cmd target len data be purpose
    e.lantern = d.lantern ∧ SameMemory d e ∧ e.hif = d.hif ∧ e.queues = d.queues ∧ e.streams = d.streams ∧ e.hbm = d.hbm ∧
      e.links = d.links ∧ e.keep = d.keep ∧ e.out = d.out ∧ SameRegs [Reg.pwrStatus, Reg.pwrWakeCnt] d e := by
  obtain ⟨x, hx, h⟩ : ∃ x : Device, x = { d with net := x.net } ∧
      d.newTxn init false cmd target len data be purpose = x.requestWake false := by
    rw [Device.newTxn, if_neg (by decide)]
    refine ⟨_, ?_, rfl⟩
    rfl
  obtain ⟨hw, hr⟩ := requestWake_frame x false
  simp only [h]
  refine ⟨?_, ⟨?_, ?_, ?_, ?_⟩, ?_, ?_, ?_, ?_, ?_, ?_, ?_, fun a ha => (hr a ha).trans (by rw [hx]; rfl)⟩ <;> rw [hw, hx]

/-! ### Answers of the Keep (R449) -/

/-- An answer over MCTP: one command counted, the reply sent. -/
theorem keepAnswer_mctp (d : Device) (bs : List Byte) (r : Nat) (out : List Byte) :
    d.keepAnswer (.mctp bs) r out = (d.bump Reg.kepCmdCnt 1).emit (.keepReply 1 r out) := rfl

/-- An answer in the mailbox without data. -/
theorem keepAnswer_mailbox (d : Device) (r : Nat) :
    d.keepAnswer .mailbox r [] =
      (d.bump Reg.kepCmdCnt 1).setFs Reg.kepMbStatus [(31, 1, 0), (30, 1, 1), (8, 8, r)] := rfl

end Sys2Proof.Machine
end

