-- ==== Sys2Proof/Laws/Updates.lean ====
section
/-!
SUPPORT. Laws of the updates of one part of the device: the part that each changes, that registers read as before, and what a
keyed part reads after an update of its key and of another.
-/
namespace Sys2Proof.Machine

open Sys2Proof

/-! ### Registers read as before -/

@[simp] theorem reg_setRegion (d : Device) (r : Nat) (b : Bool) (a0 : Nat) : (d.setRegion r b).reg a0 = d.reg a0 := rfl
@[simp] theorem reg_putStats (d : Device) (op j : Nat) (l : List (List Word × Bool)) (a0 : Nat) : (d.putStats op j l).reg a0 = d.reg a0 := rfl
@[simp] theorem reg_setGroups (d : Device) (f : Nat → List (Nat × Option Nat)) (a0 : Nat) : (d.setGroups f).reg a0 = d.reg a0 := by
  simp only [Device.reg, Device.setGroups]
@[simp] theorem reg_mapFabric (d : Device) (f : Fabric → Fabric) (a0 : Nat) : (d.mapFabric f).reg a0 = d.reg a0 := rfl
@[simp] theorem reg_enter (d : Device) (p : Packet) (w : Way) (h : Line) (us : List DUnit) (a0 : Nat) : (d.enter p w h us).reg a0 = d.reg a0 := rfl
@[simp] theorem reg_mapTxn (d : Device) (id : Nat) (f : Txn → Txn) (a0 : Nat) : (d.mapTxn id f).reg a0 = d.reg a0 := rfl
@[simp] theorem reg_dropTxn (d : Device) (id : Nat) (a0 : Nat) : (d.dropTxn id).reg a0 = d.reg a0 := rfl
@[simp] theorem reg_setPc (d : Device) (pk : Nat) (x : PseudoChannel) (a0 : Nat) : (d.setPc pk x).reg a0 = d.reg a0 := rfl
@[simp] theorem reg_mapHif (d : Device) (f : Hif → Hif) (a0 : Nat) : (d.mapHif f).reg a0 = d.reg a0 := rfl
@[simp] theorem reg_writeRecords (d : Device) (r : List Byte) (a0 : Nat) : (d.writeRecords r).reg a0 = d.reg a0 := rfl
@[simp] theorem reg_mapLink (d : Device) (n : Nat) (f : Link → Link) (a0 : Nat) : (d.mapLink n f).reg a0 = d.reg a0 := rfl
@[simp] theorem reg_mapLoad (d : Device) (f : Load → Load) (a0 : Nat) : (d.mapLoad f).reg a0 = d.reg a0 := rfl
@[simp] theorem reg_setCopies (d : Device) (cs : List McCopy) (a0 : Nat) : (d.setCopies cs).reg a0 = d.reg a0 := rfl
@[simp] theorem reg_sendPaths (d : Device) (us : List DomeUnit) (a0 : Nat) : (d.sendPaths us).reg a0 = d.reg a0 := rfl
@[simp] theorem reg_mapBelfry (d : Device) (f : Belfry → Belfry) (a0 : Nat) : (d.mapBelfry f).reg a0 = d.reg a0 := rfl
@[simp] theorem reg_setQueue (d : Device) (q : Nat) (x : Queue) (a0 : Nat) : (d.setQueue q x).reg a0 = d.reg a0 := rfl
@[simp] theorem reg_setSpire (d : Device) (n : Nat) (x : Spire) (a0 : Nat) : (d.setSpire n x).reg a0 = d.reg a0 := rfl
@[simp] theorem reg_setThread (d : Device) (tk : Nat) (x : Option Thread) (a0 : Nat) : (d.setThread tk x).reg a0 = d.reg a0 := rfl
@[simp] theorem reg_setQuarter (d : Device) (k r : Nat) (x : Option Quarter) (a0 : Nat) : (d.setQuarter k r x).reg a0 = d.reg a0 := rfl
@[simp] theorem reg_takePort (d : Device) (k c : Nat) (a0 : Nat) : (d.takePort k c).reg a0 = d.reg a0 := rfl
@[simp] theorem reg_scheduleSig (d : Device) (g : Sig) (a0 : Nat) : (d.scheduleSig g).reg a0 = d.reg a0 := rfl
@[simp] theorem reg_mapTap (d : Device) (f : Tap → Tap) (a0 : Nat) : (d.mapTap f).reg a0 = d.reg a0 := rfl
@[simp] theorem reg_mapTask (d : Device) (id : Nat) (f : Task → Task) (a0 : Nat) : (d.mapTask id f).reg a0 = d.reg a0 := rfl
@[simp] theorem reg_dropTask (d : Device) (id : Nat) (a0 : Nat) : (d.dropTask id).reg a0 = d.reg a0 := rfl
@[simp] theorem reg_dueAt (d : Device) (g : Nat) (a : DueAct) (a0 : Nat) : (d.dueAt g a).reg a0 = d.reg a0 := rfl
@[simp] theorem reg_noteFlood (d : Device) (t s : Nat) (a0 : Nat) : (d.noteFlood t s).reg a0 = d.reg a0 := rfl

/-! ### One part changes, and nothing else -/

theorem setRegion_only (d : Device) (r : Nat) (b : Bool) :
    d.setRegion r b = { d with fabric := (d.setRegion r b).fabric } := rfl
theorem putStats_only (d : Device) (op j : Nat) (l : List (List Word × Bool)) :
    d.putStats op j l = { d with dome := (d.putStats op j l).dome } := rfl
theorem setGroups_only (d : Device) (f : Nat → List (Nat × Option Nat)) :
    d.setGroups f = { d with dome := (d.setGroups f).dome } := rfl
theorem mapFabric_only (d : Device) (f : Fabric → Fabric) :
    d.mapFabric f = { d with fabric := (d.mapFabric f).fabric } := rfl
theorem enter_only (d : Device) (p : Packet) (w : Way) (h : Line) (us : List DUnit) :
    d.enter p w h us = { d with net := (d.enter p w h us).net } := rfl
theorem mapTxn_only (d : Device) (id : Nat) (f : Txn → Txn) : d.mapTxn id f = { d with net := (d.mapTxn id f).net } := rfl
theorem dropTxn_only (d : Device) (id : Nat) : d.dropTxn id = { d with net := (d.dropTxn id).net } := rfl
theorem setPc_only (d : Device) (pk : Nat) (x : PseudoChannel) : d.setPc pk x = { d with hbm := (d.setPc pk x).hbm } := rfl
theorem mapHif_only (d : Device) (f : Hif → Hif) : d.mapHif f = { d with hif := (d.mapHif f).hif } := rfl
theorem writeRecords_only (d : Device) (r : List Byte) :
    d.writeRecords r = { d with keep := (d.writeRecords r).keep } := rfl
theorem mapLink_only (d : Device) (n : Nat) (f : Link → Link) :
    d.mapLink n f = { d with links := (d.mapLink n f).links } := rfl
theorem mapLoad_only (d : Device) (f : Load → Load) : d.mapLoad f = { d with load := (d.mapLoad f).load } := rfl
theorem setCopies_only (d : Device) (cs : List McCopy) :
    d.setCopies cs = { d with cluster := (d.setCopies cs).cluster } := rfl
theorem sendPaths_only (d : Device) (us : List DomeUnit) : d.sendPaths us = { d with dome := (d.sendPaths us).dome } := rfl
theorem mapBelfry_only (d : Device) (f : Belfry → Belfry) :
    d.mapBelfry f = { d with belfry := (d.mapBelfry f).belfry } := rfl
theorem setQueue_only (d : Device) (q : Nat) (x : Queue) :
    d.setQueue q x = { d with queues := (d.setQueue q x).queues } := rfl
theorem setSpire_only (d : Device) (n : Nat) (x : Spire) : d.setSpire n x = { d with dome := (d.setSpire n x).dome } := rfl
theorem setThread_only (d : Device) (tk : Nat) (x : Option Thread) :
    d.setThread tk x = { d with streams := (d.setThread tk x).streams } := rfl
theorem setQuarter_only (d : Device) (k r : Nat) (x : Option Quarter) :
    d.setQuarter k r x = { d with streams := (d.setQuarter k r x).streams } := rfl
theorem takePort_only (d : Device) (k c : Nat) : d.takePort k c = { d with streams := (d.takePort k c).streams } := rfl
theorem scheduleSig_only (d : Device) (g : Sig) : d.scheduleSig g = { d with lantern := (d.scheduleSig g).lantern } := rfl
theorem mapTap_only (d : Device) (f : Tap → Tap) : d.mapTap f = { d with tap := (d.mapTap f).tap } := rfl
theorem mapTask_only (d : Device) (id : Nat) (f : Task → Task) :
    d.mapTask id f = { d with lantern := (d.mapTask id f).lantern } := rfl
theorem dropTask_only (d : Device) (id : Nat) : d.dropTask id = { d with lantern := (d.dropTask id).lantern } := rfl
theorem dueAt_only (d : Device) (g : Nat) (a : DueAct) : d.dueAt g a = { d with lantern := (d.dueAt g a).lantern } := rfl
theorem noteFlood_only (d : Device) (t s : Nat) : d.noteFlood t s = { d with cluster := (d.noteFlood t s).cluster } := rfl

/-! ### Keyed parts -/

@[simp] theorem link_mapLink (d : Device) (n : Nat) (f : Link → Link) : (d.mapLink n f).link n = f (d.link n) := mapGet_mapPut ..

theorem link_mapLink_ne (d : Device) {n m : Nat} (f : Link → Link) (h : m ≠ n) : (d.mapLink n f).link m = d.link m :=
  mapGet_mapPut_ne _ _ _ h

@[simp] theorem queue_setQueue (d : Device) (q : Nat) (x : Queue) : (d.setQueue q x).queue q = x := mapGet_mapPut ..

theorem queue_setQueue_ne (d : Device) {q p : Nat} (x : Queue) (h : p ≠ q) : (d.setQueue q x).queue p = d.queue p :=
  mapGet_mapPut_ne _ _ _ h

@[simp] theorem thread_setThread (d : Device) (tk : Nat) (x : Option Thread) : (d.setThread tk x).thread tk = x :=
  mapGet_mapPut ..

theorem thread_setThread_ne (d : Device) {tk k : Nat} (x : Option Thread) (h : k ≠ tk) :
    (d.setThread tk x).thread k = d.thread k := mapGet_mapPut_ne _ _ _ h

@[simp] theorem pc_setPc (d : Device) (pk : Nat) (x : PseudoChannel) : (d.setPc pk x).pc pk = x := mapGet_mapPut ..

theorem pc_setPc_ne (d : Device) {pk k : Nat} (x : PseudoChannel) (h : k ≠ pk) : (d.setPc pk x).pc k = d.pc k :=
  mapGet_mapPut_ne _ _ _ h

@[simp] theorem spire_setSpire (d : Device) (n : Nat) (x : Spire) : (d.setSpire n x).spire n = x := mapGet_mapPut ..

theorem spire_setSpire_ne (d : Device) {n m : Nat} (x : Spire) (h : m ≠ n) : (d.setSpire n x).spire m = d.spire m :=
  mapGet_mapPut_ne _ _ _ h

@[simp] theorem quarter_setQuarter (d : Device) (k r : Nat) (x : Option Quarter) : (d.setQuarter k r x).quarter k r = x :=
  mapGet_mapPut ..

end Sys2Proof.Machine
end

