-- ==== Sys2Proof/WellFormed.lean ====
section
/-!
DEFINITION. Which terms of Instr the interfaces of the device can carry: what the types of the operands do not already say.
The machine is total on every term; nothing it does rests on these checks.
-/
namespace Sys2Proof

/-- Data of one PCIe write: 1 to 512 bytes, the Maximum Payload Size (R362). -/
def payloadWf (bytes : List (Option Byte)) : Bool := decide (1 ≤ bytes.length) && decide (bytes.length ≤ 512)

/-- A host read returns at most 4,096 bytes, the Maximum Read Request Size (R362). -/
def ReadResult.wf : ReadResult → Bool
  | .ok data => decide (data.length ≤ 4096)
  | _ => true

/-- A PCIe write of dwords: bytes under enables, all inside its BAR of `size` bytes. -/
def barWriteWf (size offset : Nat) (bytes : List (Option Byte)) : Bool :=
  payloadWf bytes && decide (offset + bytes.length ≤ size)

/-- A remote signal: device and context numbers, virtual id, 32-bit increment and a fence of an engine's thread (R210, R218,
R340). -/
def SignalMsg.wf (m : SignalMsg) : Bool :=
  decide (m.device < 1024) && decide (m.ctx < 65536) && decide (m.vid < 256) && decide (m.inc < 2 ^ 32) &&
    m.fence.all (fun f => decide (f.1 < 4) && decide (f.2.1 < 256) && decide (f.2.2 < 2 ^ 48))

/-- A link flit: its slot of the frame's 32, frame numbers modulo 2,048, and at most four unit positions (R320 - R322). -/
def Flit.wf (f : Flit) : Bool :=
  decide (f.slot < 32) && decide (f.frame < 2048) && f.replay.all (fun r => decide (r < 32)) &&
    f.nak.all (fun n => decide (n.1 < 2048) && decide (n.2 < 32)) &&
    (match f.body with
     | .idle => true
     | .sched e t us => decide (e < 4) && decide (t < 256) && decide (us.length ≤ 4)
     | .dyn us => decide (us.length ≤ 4)
     | .ctrl us => decide (us.length ≤ 4))

/-- An EXCH unit: 32-bit fields (R317). -/
def ExchUnit.wf (u : ExchUnit) : Bool :=
  decide (u.epoch < 2 ^ 32) && decide (u.ts < 2 ^ 32) && decide (u.echoTs < 2 ^ 32) && decide (u.echoHold < 2 ^ 32)

/-- A REPORT unit: a status code, flags and member numbers (R349, R352). -/
def ReportUnit.wf (r : ReportUnit) : Bool :=
  decide (r.status < 16) && decide (r.mx < 256) && decide (r.vx < 256) && decide (r.bad ≤ 1024) &&
    r.firstBad.all (fun b => decide (b < 1024)) && decide (r.cover ≤ 1024)

/-- What a word's accesses meet: bus X, Y or C, one of the 16 words of an access, and the four banks of a tile store. -/
def VxEnv.wf (e : VxEnv) : Bool :=
  e.ecc.all (fun x => decide (x.1 < 3) && decide (x.2.1 < 16)) && e.port.all (fun b => decide (b.1 < 3) && decide (b.2 < 4))

/-- What a DOP's operands meet: Spires and cells of the array (R69, R88), and lines of the tile stores. -/
def DopEnv.wf (e : DopEnv) : Bool :=
  e.defects.all (fun x => decide (x.spire < 4096) && decide (x.row < 32) && decide (x.col < 32))

/-- Requests of an access point: 1 to 32 units (R402). -/
def ApRequest.wf : ApRequest → Bool
  | .rd _ len _ => decide (1 ≤ len) && decide (len ≤ 32)
  | .wr _ units _ => decide (1 ≤ units.length) && decide (units.length ≤ 32)
  | .wrp .. => true

/-- An access of a block RAM port: an address of at most 64K words (R389). -/
def RamAccess.wf (a : RamAccess) : Bool := decide (a.addr < 65536)

/-- Data of a request over MCTP: at most the 4,096 bytes of the mailbox's data window (R449). -/
def KeepPort.wf : KeepPort → Bool
  | .mailbox => true
  | .mctp data => decide (data.length ≤ 4096)

/-- Which terms the interfaces can carry. -/
def Instr.wf : Instr → Bool
  | .registerWrite _ offset bytes => barWriteWf (2 ^ 28) offset bytes
  | .doorbell _ offset bytes => barWriteWf (2 ^ 20) offset bytes
  | .ringReadCompletion _ res | .inputReadCompletion _ res | .hostReadCompletion _ res => res.wf
  | .translationWalk _ _ reads => decide (reads.length ≤ 4)
  | .bar2Read _ offset len tag _ =>
    decide (1 ≤ len) && decide (len ≤ 4096) && decide (offset + len ≤ 2 ^ 36) && decide (tag < 1024)
  | .bar2Write _ offset bytes _ => barWriteWf (2 ^ 36) offset bytes
  | .pushPortWrite _ _ bytes _ | .cfgPort bytes => payloadWf bytes
  | .hifVfAbort vf _ | .hifVfSig vf _ | .hifVfSop vf _ | .hifVfFlush vf _ => decide (vf.val ≠ 0)
  | .atsTranslationCompletion _ page target _ _ => decide (page < 2 ^ 52) && decide (target < 2 ^ 64)
  | .atsInvalidationRequest _ page => decide (page < 2 ^ 52)
  | .configurationRequest _ dword tag _ => decide (dword < 1024) && decide (tag < 1024)
  | .unsupportedRequest _ tag => tag.all (fun t => decide (t < 1024))
  | .remoteSignal msg _ => msg.wf
  | .streamRequestIssue _ _ units => decide (1 ≤ units) && decide (units ≤ 32)
  | .dopStep env => env.wf
  | .exch _ unit => unit.wf
  | .flitReceive _ flit _ _ => flit.wf
  | .cluAlign _ t1 => decide (t1 < 2 ^ 64)
  | .cluAlignEcho _ t2 t3 => decide (t2 < 2 ^ 64) && decide (t3 < 2 ^ 64)
  | .cluAlignResult _ t4 => decide (t4 < 2 ^ 64)
  | .cluReport _ r => r.wf
  | .apRequest _ request => request.wf
  | .fabricUserWindowAccess _ _ (.read len tag) => decide (1 ≤ len) && decide (len ≤ 8) && decide (tag < 1024)
  | .fecCodewordReceive _ corrected words =>
    decide (words.length = 20) && corrected.all (fun c => decide (c ≤ 15))
  | .blockRamAccess _ a b _ _ _ => a.all RamAccess.wf && b.all RamAccess.wf
  | .getInfo _ p | .keepUpdate _ p _ | .keepActivate _ p | .commitSvn _ p | .getAttest _ p | .getCert _ p
  | .bbramWrite _ p | .bbramZeroise _ p | .fuseProgram _ p => p.wf
  | .vxNop _ e | .vxHalt _ e | .vxLoop _ e | .vxSeta _ e | .vxLdi _ e | .vxDrn _ e | .vxMov _ e | .vxAdd _ e | .vxSub _ e
  | .vxMax _ e | .vxMin _ e | .vxAbs _ e | .vxNeg _ e | .vxCsel _ e | .vxNrm _ e | .vxMpy _ e | .vxMac _ e | .vxMsu _ e
  | .vxAdda _ e | .vxSuba _ e | .vxMaxa _ e | .vxClr _ e | .vxScl _ e | .vxTapm _ e | .vxNrw _ e | .vxLsum _ e | .vxLmax _ e
  | .vxPkst _ e | .vxPkld _ e | .vxPkfl _ e | .vxIllegalEncoding _ e => e.wf
  | _ => true

end Sys2Proof
end

