-- ==== Sys2Proof/Tests/Slice0.lean ====
section
/-!
SUPPORT. Tests: terms that are not well formed, examples of the manual, and for every statement a state and operands that meet
the hypotheses of each of its clauses, most with a part of what the clause concludes.
-/
set_option Elab.async false

namespace Sys2Proof.Tests

open Sys2Proof Sys2Proof.Machine

/-- The device after reset. -/
def fresh : Device := State.reset.dev

/-- Device `d` with registers written. -/
def withRegs (d : Device) (l : List (Nat × Word)) : Device := l.foldl (fun d p => d.setReg p.1 p.2) d

/-- What command `c` leaves of device `d`. -/
abbrev after (d : Device) (c : Instr) : Device := deviceAfter d c

/-- The link to the host is up, and functions 0 and 63 may issue requests. -/
def hostUp : Device :=
  { withRegs fresh [(Reg.hifStatus, mkWord [(31, 1), (27, 6), (22, 16), (17, 16)])] with
    hif := { fresh.hif with
      funcs := [(0, { Func.initial with busMaster := true, memSpace := true }),
                (63, { Func.initial with busMaster := true, memSpace := true })] } }

/-- A task of context `c`. -/
def mkTask (id c : Nat) (st : TaskState) : Task :=
  { id := id, ring := 0, words := [BitVec.ofNat 64 c, 0, 0, 0, 0, 0, 0, 0], accepted := 0, state := st, since := 0,
    consumed := [], remote := false }

/-! ### Witnesses: the host interface -/

def ringOn : Device := withRegs hostUp [(Reg.hifRingCtl 255, mkWord [(63, 1)]), (Reg.hifRingPtr 255, mkWord [(16, 9), (0, 4095)])]

theorem witness_rings_enable :
    fresh.alive = true ∧ ringEn fresh 255 = false ∧
    (after fresh (.ringEnable 255 0)).regBit (Reg.hifRingStatus 255) 61 = true ∧
    (after fresh (.ringEnable 255 0)).inFlight 255 = 0 ∧
    (after fresh (.ringEnable 255 0)).lantern.tasks.any (fun t => !t.remote && t.ring == 255) = false ∧
    (after (after fresh (.ringEnable 255 0)) (.ringEnableEffective 255)).ringLive 255 = true := by decide +kernel

theorem witness_doorbell :
    ringOn.alive = true ∧ ringOn.ringLive 255 = true ∧ hostUp.ringLive 255 = false ∧
    ringTail (after ringOn (.doorbell 0 (4096 * 255) [some 0xFF, some 0xFF, some 0, some 0])) 255 = 4095 ∧
    ringTail (after ringOn (.doorbell 0 (4096 * 255) [some 0xFE, none, none, none])) 255 = 0xFE ∧
    (after hostUp (.doorbell 0 (4096 * 255) [some 1, some 0, some 0, some 0])).reg Reg.hifDbDropCnt = 1 := by decide +kernel

def ringNext : Device := { ringOn with hif := { ringOn.hif with nextRing := 255 } }

theorem witness_ring_read :
    ringNext.alive = true ∧ ringNext.hif.fetches.length < 16 ∧ ringNext.stored < 16384 ∧ ringNext.hif.nextRing = 255 ∧
    ringNext.ringLive 255 = true ∧ ringNext.regBit (Reg.hifRingStatus 255) 63 = false ∧ ringNext.ringPending 255 = 10 ∧
    ringNext.canIssue (ringFunc ringNext 255) = true ∧ ringNext.usesAts (ringFunc ringNext 255) = false ∧
    (after ringNext .ringRead).hif.fetches = [{ ring := 255, first := 4095, count := 1 }] := by decide +kernel

theorem witness_failed_ring_read :
    (∀ bs, ReadResult.poisoned ≠ .ok bs) ∧ (∃ f ∈ (after ringNext .ringRead).hif.fetches, f.ring = 255) ∧
    (after (after ringNext .ringRead) (.ringReadCompletion 255 .poisoned)).regBit (Reg.hifRingStatus 255) 63 = true ∧
    (after (after (after ringNext .ringRead) (.ringReadCompletion 255 .poisoned)) .ringRead).hif.fetches = [] ∧
    ringNext.inFlight 255 = 0 :=
  ⟨fun _ => nofun, by decide +kernel⟩

/-- One entry of ring 255 is being read while context 7 has a READY head. -/
def ringOne : Device :=
  { ringNext with
    hif := { ringNext.hif with fetches := [{ ring := 255, first := 4095, count := 1 }] }
    lantern := { ringNext.lantern with tasks := [mkTask 0 7 .ready], nextId := 1 } }

def recordBytes (c : Nat) : List Byte := natBytes 64 c

theorem witness_ring_records :
    ringOne.alive = true ∧ ringOne.hif.fetches = [{ ring := 255, first := 4095, count := 1 }] ∧
    ringOne.recordCause 255 ((List.range 8).map (wordAt (recordBytes 7))) = none ∧
    fld (wd ((List.range 8).map (wordAt (recordBytes 7))) 0) 0 16 ≤ 49151 ∧
    bit (wd ((List.range 8).map (wordAt (recordBytes 7))) 0) 37 = false ∧
    (ringOne.ctxTasks 7).head? = some (mkTask 0 7 .ready) ∧ (mkTask 0 7 .ready).state ≠ .queued ∧
    ringOne.recordCause 255 ((List.range 8).map (wordAt (recordBytes (2 ^ 63)))) = some 1 ∧
    ringHead (after ringOne (.ringReadCompletion 255 (.ok (recordBytes 7)))) 255 = 0 ∧
    (after ringOne (.ringReadCompletion 255 (.ok (recordBytes 7)))).lantern.tasks.length = 2 ∧
    (after ringOne (.ringReadCompletion 255 (.ok (recordBytes (2 ^ 63))))).regF (Reg.hifRingStatus 255) 0 4 = 1 := by decide +kernel

def inputOne : Input :=
  { id := 3, func := 63, pasid := none, queue := 65535, record := [], addr := 0, len := 64, started := true }

def assembling : Assembly :=
  { init := 0xBF, length := 64, got := 0, opened := [], bad := false, checkBad := false, spilled := none, linked := false }

def inputDev : Device :=
  { withRegs hostUp [] with
    hif := { hostUp.hif with inputs := [inputOne] }
    queues := [(65535, { Queue.initial with asm := some assembling })] }

theorem witness_input_read :
    inputDev.alive = true ∧ inputDev.hif.inputs = [inputOne] ∧ inputOne.started = true ∧ inputOne.len = 64 ∧
    (inputDev.queue 65535).asm = some assembling ∧ assembling.opened = [] ∧ assembling.length = assembling.got + 64 ∧
    (inputDev.queue 65535).freeing = false ∧ (inputDev.queue 65535).atLimit = false ∧ inputDev.spills 65535 = false ∧ 0 < inputDev.poolFree ∧
    ((after inputDev (.inputReadCompletion 3 (.ok (recordBytes 5)))).queue 65535).cells.length = 1 ∧
    (after inputDev (.inputReadCompletion 3 .timeout)).reg Reg.hifInFailCnt = 1 := by decide +kernel

theorem witness_bar2 :
    (withRegs fresh [(Reg.stePfCtl, 0)]).regBit Reg.stePfCtl 31 = false ∧ (recordBytes 9).length = 64 ∧ fresh.bar2Addr 0 64 % 64 = 0 ∧
    (after (withRegs fresh [(Reg.stePfCtl, 0)]) (.bar2Read 0 100 4 1023 [])).net.txns.length = 1 ∧
    (after fresh (.bar2Write 0 64 ((recordBytes 9).map some) true)).reg Reg.hifPoisRxCnt = 1 := by decide +kernel

def hostTxn : Txn :=
  { id := 4, init := 0x80, sched := false, cmd := .read, target := .host 63 4096, len := 32, data := [], be := 0, got := [],
    status := 0, phase := .atTarget, injected := 0, limit := 1000, purpose := .nobody, sentAt := 0, backAt := none, rank := 0, todo := 0, passed := 0 }

def hostReading : Device := { hostUp with net := { hostUp.net with txns := [hostTxn], nextId := 5 } }

theorem witness_host_reads :
    hostReading.txn 4 = some hostTxn ∧ hostTxn.target = .host 63 4096 ∧ hostTxn.phase = .atTarget ∧ hostTxn.cmd = .read ∧
    hostTxn.got = [] ∧ 0 < hostTxn.len ∧ (∀ tk n st c, hostTxn.purpose ≠ .thread tk n st c) ∧
    bit ((after hostReading (.completionTimeout 4)).func 63).aer 14 = true :=
  ⟨by decide +kernel, by decide +kernel, by decide +kernel, by decide +kernel, by decide +kernel, by decide +kernel, fun _ _ _ _ => nofun, by decide +kernel⟩
/-- PERST_N high for the readiness time. -/
def readyLater : Device := { hostUp with belfry := { hostUp.belfry with gcyc := 100000000, perstN := true } }

theorem witness_endpoint_resets :
    hostUp.alive = true ∧ hostUp.pinsTaken = false ∧ hostUp.belfry.perstN = true ∧
    (after hostUp (.pcieLinkUp 0xFFFF0000)).regF Reg.hifStatus 16 15 = 0x7FFF := by decide +kernel

theorem witness_link_power :
    hostUp.regBit Reg.hifStatus 31 = true ∧ hostUp.regF Reg.hifStatus 27 3 = 6 ∧ hostUp.regF Reg.hifStatus 22 5 = 16 ∧
    (after hostUp (.l0pRequest 16)).regF Reg.hifStatus 17 5 = 16 ∧
    hostUp.lantern.run = none ∧ hostUp.hif.l1 = false ∧ (after hostUp .aspmL1Entry).hif.l1 = true := by decide +kernel

theorem test_not_ready :
    hostUp.hif.readyFrom = some 0 ∧
    (after hostUp (.configurationRequest 0 0 5 none)).out = [.completion 5 2 [] false] := by decide +kernel

theorem witness_readiness_time :
    readyLater.hif.readyFrom = some 0 ∧ 0 + 100000000 ≤ readyLater.now := by decide +kernel

theorem witness_endpoint_errors :
    hostUp.alive = true ∧ hostUp.hif.held = [] ∧ hostUp.hif.invals = [] ∧ hostUp.reading 63 = false ∧
    (after hostUp (.unsupportedRequest 63 (some 9))).out = [.aer 63 1, .completion 9 1 [] false] ∧
    (after (after hostUp (.atsTranslationCompletion 63 5 8192 true false)) (.atsInvalidationRequest 63 5)).atsFind 63 20480
      = none := by decide +kernel

/-- Context 49151, queue 65535 belong to virtual function 63. -/
def vfOwn : Device :=
  { withRegs hostUp [(Reg.ctxW0 49151, 63)] with
    lantern := { hostUp.lantern with tasks := [mkTask 0 49151 .waiting], nextId := 1 }
    queues := [(49151, { Queue.initial with cfg := mkWord [(56, 63)] })] }

theorem witness_virtual_function_owns :
    vfOwn.ctxFunc 49151 = 63 ∧ vfOwn.lantern.run = none ∧ vfOwn.ctxTasks 49151 = [mkTask 0 49151 .waiting] ∧
    vfOwn.queueFunc 49151 = 63 ∧ vfOwn.queueFunc 0 ≠ 63 ∧ vfOwn.cluster.copies = [] ∧
    fld (mkWord [(63, 1), (16, 64), (0, 49151)]) 0 16 = 49151 ∧ fld (mkWord [(63, 1), (16, 64), (0, 49151)]) 16 21 = 64 ∧
    fld (mkWord [(56, 16), (40, 49151), (8, 1)]) 40 16 = 49151 ∧
    ((after vfOwn (.hifVfAbort 63 0x8000BFFF)).ctxTasks 49151).map (·.state) = [.ended] ∧
    ((after vfOwn (.hifVfSop 63 (mkWord [(63, 1), (16, 64), (0, 49151)]))).queue 49151).asm.map (·.length) = some 64 ∧
    (after vfOwn (.hifVfSig 63 (mkWord [(56, 16), (40, 49151), (8, 1)]))).lantern.sigs.map (·.applyAt) = [2] := by decide +kernel

/-- Context 49151 belongs to virtual function 63. -/
def vfDev : Device :=
  withRegs hostUp [(Reg.ctxW0 49151, 63), (Reg.qmgQcfg, 0)]

theorem witness_virtual_function :
    fld (0x8000BFFF : BitVec 32) 0 16 ≤ 49151 ∧ bit (0x8000BFFF : BitVec 32) 31 = true ∧ vfDev.ctxFunc 49151 = 63 ∧
    vfDev.ctxFunc 0 ≠ 63 ∧ vfDev.power ≤ 1 ∧ vfDev.cluster.copies = [] ∧ vfDev.lantern.cluPend = none ∧
    (after vfDev (.hifVfAbort 63 0x80000000)).reg Reg.hifVfDenyCnt = 1 := by decide +kernel
/-! ### Witnesses: contexts, tallies and signals -/

def ctxDev : Device := withRegs fresh [(Reg.ctxW0 49151, mkWord [(20, 5), (0, 63)])]

theorem witness_context_writes :
    fld (fresh.ctx 49151 0) 20 4 ≠ 5 ∧ fresh.ctxFunc 49151 = 0 ∧ fld (ctxDev.ctx 49151 0) 20 4 = 5 ∧ ctxDev.ctxFunc 49151 = 63 ∧
    ctxDev.ctxFunc 49151 ≠ 1 ∧
    (after fresh (.contextRecordWrite 0 49151 15 (BitVec.allOnes 64) .both)).ctx 49151 15 = BitVec.allOnes 64 ∧
    (after ctxDev (.contextRecordWrite 63 49151 0 1 .low)).reg Reg.tlyCtxWdropCnt = 1 ∧
    (after ctxDev (.contextRecordWrite 1 49151 0 1 .low)).reg Reg.hifVfDenyCnt = 1 := by decide +kernel

theorem witness_tally_writes :
    fresh.added 32 = none ∧ (after fresh (.tallyWrite 32 7)).tally 32 = 7 ∧
    (after fresh (.tallyWrite 31 7)).reg Reg.tlyUnmapCnt = 1 ∧
    (after fresh (.translationEntryWrite 479 8 0x00050006)).tmapEntry 479 16 = 6 ∧
    (after fresh (.translationEntryWrite 479 127 0x00050006)).tmapEntry 479 255 = 5 := by decide +kernel

def unfenced : SignalMsg := { device := 1023, ctx := 65535, vid := 255, inc := 3, fence := some (3, 255, 0) }
def fenced : SignalMsg := { unfenced with fence := some (3, 255, 1) }
def parkedSig : Sig :=
  { dev := 1023, ctx := 65535, vid := 255, inc := 3, phys := none, cross := true, host := false, applyAt := 2 }
def parkedOne : Parked := { sig := parkedSig, engine := 3, thread := 255, bytes := 1, parkedAt := 0, limit := 5, metAt := none }
def fullTable : Device := { fresh with lantern := { fresh.lantern with parked := List.replicate 256 parkedOne } }

theorem witness_signals_arrive :
    fresh.device < 1024 ∧ unfenced.device < 1024 ∧ unfenced.ctx < 65536 ∧ unfenced.vid < 256 ∧
    fld (mkWord [(16, 1), (0, 31)]) 16 32 ≠ 0 ∧ fld (mkWord [(16, 1), (0, 31)]) 0 16 < 32 ∧
    32 ≤ fld (mkWord [(16, 1), (0, 32)]) 0 16 ∧
    unfenced.fence.all (fun f => decide (f.2.2 ≤ fresh.committedBytes (256 * f.1 + f.2.1))) = true ∧
    (∃ f ∈ fenced.fence, fresh.committedBytes (256 * f.1 + f.2.1) < f.2.2) ∧ fresh.lantern.parked.length < 256 ∧
    256 ≤ fullTable.lantern.parked.length ∧ fullTable.lantern.run = none ∧
    (after fresh (.tlyHostSig (mkWord [(16, 1), (0, 31)]))).regF Reg.tlyLastErr 61 3 = 2 ∧
    (after fresh (.remoteSignal unfenced true)).lantern.sigs = [parkedSig] ∧
    (after fresh (.remoteSignal fenced true)).lantern.parked.length = 1 ∧
    (after fullTable (.remoteSignal fenced true)).regF Reg.tlyLastErr 61 3 = 3 ∧ fresh.errsNow = [] ∧ fullTable.errsNow = [] := by
  refine ⟨?_, ?_, ?_, ?_, ?_, ?_, ?_, ?_, ⟨(3, 255, 1), rfl, ?_⟩, ?_⟩ <;> decide +kernel

def hostSig (inc : Nat) : Sig :=
  { dev := 0, ctx := 5, vid := 0, inc := inc, phys := some 40, cross := false, host := false, applyAt := 0 }
def nearFull : Device :=
  { withRegs fresh [(Reg.tlyValue 40, 0xFFFFFFF0)] with
    lantern := { fresh.lantern with sigs := [hostSig 0xF, hostSig 1] } }
def crossing : Sig := { hostSig 1 with phys := none, vid := 16, cross := true }
def crossDev : Device := { fresh with lantern := { fresh.lantern with sigs := [crossing, crossing] } }
def unmapped : Sig := { hostSig 1 with phys := none, vid := 16 }
def unmapDev : Device := { fresh with lantern := { fresh.lantern with sigs := [unmapped, hostSig 1] } }

theorem witness_due_signals :
    nearFull.lantern.sigs = [hostSig 0xF, hostSig 1] ∧ (hostSig 1).applyAt ≤ nearFull.now ∧
    nearFull.resolveSig (hostSig 0xF) = some 40 ∧ nearFull.resolveSig (hostSig 1) = some 40 ∧
    crossing.cross = true ∧ bit (crossDev.ctx 5 0) 6 = false ∧
    unmapDev.resolveSig unmapped = none ∧ unmapDev.resolveSig (hostSig 1) = some 40 ∧ unmapDev.tally 40 + 1 < 2 ^ 32 ∧ nearFull.added 40 = none ∧
    (after nearFull (.signalApply [])).tally 40 = 0xFFFFFFFF ∧ (after nearFull (.signalApply [])).reg Reg.tlySatCnt = 1 ∧
    (after crossDev (.signalApply [])).reg Reg.tlyRemoteDropCnt = 2 ∧
    (after unmapDev (.signalApply [])).tally 40 = 1 := by decide +kernel

def runOf (id c : Nat) : Run :=
  { task := id, ctx := c, slot := 1, header := [], cluster := false, sel := 0, clocks := some 0, lead := 0, start := some 0,
    retries := 0, bank := 0, nextStep := 0, nextOp := 0, poisoned := false, cause := 0, fault := false, aborted := false,
    firstFault := none, cfgSeen := [], flagSent := false, stopAfter := none, queues := [], decided := none,
    streamFault := false }

def parkedDev (met : Option Nat) : Device :=
  { fresh with
    belfry := { fresh.belfry with gcyc := 5 }
    lantern := { fresh.lantern with parked := [{ parkedOne with metAt := met }] } }

def parkedRun : Device :=
  { parkedDev none with
    lantern := { (parkedDev none).lantern with tasks := [mkTask 2 7 .running], run := some (runOf 2 7) } }

theorem witness_parked_signals :
    (parkedDev (some 3)).lantern.parked = [{ parkedOne with metAt := some 3 }] ∧ 3 + 1 ≤ (parkedDev (some 3)).now ∧
    parkedOne.metAt = none ∧ (parkedDev none).fenceMet parkedOne = false ∧ (parkedDev none).errsNow = [] ∧
    (parkedDev none).faultsNow.entries = [] ∧ parkedOne.parkedAt + parkedOne.limit ≤ (parkedDev none).now ∧
    (parkedDev none).lantern.run = none ∧
    parkedRun.lantern.run = some (runOf 2 7) ∧ parkedRun.task 2 = some (mkTask 2 7 .running) ∧
    (mkTask 2 7 .running).state = .running ∧ (runOf 2 7).cluster = false ∧ (runOf 2 7).stopAfter = none ∧
    (after (parkedDev (some 3)) .fenceRelease).lantern.sigs = [{ parkedSig with applyAt := 6 }] ∧
    (after (parkedDev none) .fenceExpiry).regF (Reg.errFr 0 0) 0 8 = 0x12 ∧
    (after parkedRun .fenceExpiry).lantern.run.map (·.stopAfter) = some (some 6) := by decide +kernel
/-! ### Witnesses: schedules -/

/-- Schedule words placed from byte `a` of the schedule store on. -/
def sched (d : Device) (a : Nat) (ws : List Word) : Device :=
  { d with cfgMem := memWrite d.cfgMem (scheduleBase + a) (ws.flatMap (fun w => natBytes 8 w.toNat)) }

/-- Slot 1 is valid and its header is `h`. -/
def slotOne (h : List Word) : Device :=
  sched (withRegs fresh [(Reg.lntSlotValid 0, 2)]) 1024 h

/-- A task of context 7 on slot 1. -/
def slotTask (id : Nat) (st : TaskState) : Task :=
  { mkTask id 7 st with words := [mkWord [(0, 7), (16, 1)], 0, 0, 0, 0, 0, 0, 0] }

/-- Start condition: virtual id 16, threshold 3. -/
def condition (consume : Nat) : Word := mkWord [(63, 1), (62, consume), (48, 16), (0, 3)]

def waitingDev (consume tally : Nat) : Device :=
  { withRegs (slotOne [0, 0, 0, condition consume, 0, 0, 0, 0])
      [(Reg.ctxW0 7, mkWord [(7, 1), (8, 479)]), (Reg.tlyTmap 479 8, 40), (Reg.tlyValue 40, BitVec.ofNat 64 tally)] with
    belfry := { fresh.belfry with gcyc := 1 }
    lantern := { fresh.lantern with tasks := [slotTask 0 .waiting], evals := [(7, 1)] } }

theorem witness_start_conditions :
    (waitingDev 1 3).lantern.tasks = [slotTask 0 .waiting] ∧ (slotTask 0 .waiting).state = .waiting ∧
    (slotTask 0 .waiting).since + 1 ≤ (waitingDev 1 3).now ∧ (7, 1) ∈ (waitingDev 1 3).lantern.evals ∧ (slotTask 0 .waiting).ctx = 7 ∧ 1 ≤ (waitingDev 1 3).now ∧
    ((waitingDev 1 3).queue ((waitingDev 1 3).ctxQueue 7)).openFrom ≤ (waitingDev 1 3).now ∧
    (slotTask 0 .waiting).slot = 1 ∧ (((waitingDev 1 3).slotHeader 1).drop 3).take 4 = [condition 1, 0, 0, 0] ∧
    (((waitingDev 0 3).slotHeader 1).drop 3).take 4 = [condition 0, 0, 0, 0] ∧ bit (condition 1) 63 = true ∧
    bit (condition 1) 62 = true ∧ bit (condition 0) 62 = false ∧
    (waitingDev 1 3).translateVid 7 (fld (condition 1) 48 8) = some 40 ∧ (waitingDev 1 2).tally 40 < fld (condition 1) 0 32 ∧
    (waitingDev 1 3).slotValid 1 = true ∧ ((waitingDev 1 3).queue ((waitingDev 1 3).ctxQueue 7)).blocks = false ∧
    fld (condition 1) 0 32 ≤ (waitingDev 1 3).tally 40 ∧
    (after (waitingDev 1 3) (.startConditionEvaluation [])).tally 40 = 0 ∧
    (after (waitingDev 0 3) (.startConditionEvaluation [])).lantern.tasks = [{ slotTask 0 .ready with since := 1 }] := by
  decide +kernel

def trained : List (Nat × Word) := (List.range 12).map (fun s => (Reg.hbcStatus s, mkWord [(2, 2)]))

def readyDev : Device :=
  { withRegs (slotOne [mkWord [(16, 1)], 0, 0, 0, 0, 0, 0, 0]) trained with
    maintCfg := false
    lantern := { fresh.lantern with tasks := [slotTask 0 .ready, { slotTask 1 .ready with words := [mkWord [(0, 6), (16, 1)]] }] }
    belfry := { fresh.belfry with gcyc := 1 } }

theorem witness_selection :
    (slotOne []).mayselect = false ∧ readyDev.mayselect = true ∧ readyDev.lantern.domeFree ≤ readyDev.now ∧
    readyDev.lantern.bank ≤ 1 ∧ (∀ t ∈ readyDev.candidates readyDev.now, t.since + 1 ≤ readyDev.now) ∧
    readyDev.candidates readyDev.now ≠ [] ∧ readyDev.power = 1 ∧ (withRegs readyDev [(Reg.pwrStatus, 0)]).power = 0 ∧
    ((after readyDev (.taskSelection [])).lantern.run.map (·.ctx)) = some 6 := by decide +kernel

def startDev : Device :=
  { readyDev with lantern := { readyDev.lantern with run := some (runOf 0 7), tasks := [slotTask 0 .starting] } }

theorem witness_task_start :
    startDev.lantern.run = some (runOf 0 7) ∧ (runOf 0 7).cluster = false ∧ (runOf 0 7).start = some 0 ∧ 0 ≤ startDev.now ∧ startDev.anyMaint = false ∧
    startDev.task 0 = some (slotTask 0 .starting) ∧ (slotTask 0 .starting).state = .starting ∧ (runOf 0 7).ctx < 49152 ∧
    (∀ e ∈ startDev.streams.threads, e.1 < 1024) := by decide +kernel

/-- A running task whose next step is of kind `k` at stamp 1, with S1 = `s1`; word `g` is at the descriptor 0x100. -/
def stepDev (k : Nat) (s1 : Word) (g : List Word) : Device :=
  let h : List Word := [mkWord [(0, 0)], 0, mkWord [(0, 0x80)], 0, 0, 0, 0, 0]
  let d := sched (sched (slotOne h) (16 * 0x80) [mkWord [(40, k), (0, 1)], s1]) (16 * 0x100) g
  { d with
    belfry := { fresh.belfry with gcyc := 1 }
    lantern := { fresh.lantern with
      run := some { runOf 0 7 with header := h }
      tasks := [slotTask 0 .running] } }

def signalWord (scope : Nat) : Word := mkWord [(0, scope), (2, 1023), (12, 65535), (28, 255), (36, 255)]

theorem witness_short_steps :
    ((stepDev 4 0x100 []).nextStep 4).map (·.2.2) = some 1 ∧ ((stepDev 15 0 []).nextStep 0xF).map (·.2.2) = some 1 ∧
    ((stepDev 5 0x100 [signalWord 2, 0]).nextStep 5).map (·.2.2) = some 1 ∧
    (stepDev 5 0x100 [signalWord 2, 0]).schedWords (16 * 0x100) 2 = [signalWord 2, 0] ∧
    fld (signalWord 2) 0 2 = 2 ∧ fld (signalWord 1) 0 2 ≠ 2 ∧ bit (0 : Word) 0 = false ∧
    1 ≤ (stepDev 4 0x100 []).now ∧
    ((after (stepDev 4 0x100 []) .splitStep).lantern.run.map (·.nextStep)) = some 1 ∧
    ((after (stepDev 15 0 []) .endStep).task 0).map (·.state) = some .completing ∧
    (stepDev 5 0x100 [signalWord 2, 0]).netRuns = true ∧
    (after (stepDev 5 0x100 [signalWord 2, 0]) .signalStep).controls.map (·.words.take 4) = [[0, 65535, 255, 256]] ∧
    (after (stepDev 5 0x100 [signalWord 1, 0]) .signalStep).lantern.sigs.map (·.applyAt) = [3] := by decide +kernel

def oneUnit (src dst pub : Nat) : List Word :=
  mkWord [(0, src), (4, dst), (24, pub)] :: List.replicate 15 0

theorem witness_long_steps :
    ((stepDev 1 0x40 (oneUnit 0 0 0)).nextStep 1).map (·.2.2) = some 1 ∧
    ((stepDev 2 (mkWord [(0, 3), (2, 255), (10, 0x20)]) (oneUnit 0 2 0)).nextStep 2).map (·.2.2) = some 1 ∧
    (stepDev 2 (mkWord [(0, 3), (2, 255), (10, 0x20)]) (oneUnit 0 2 0)).schedWords (128 * 0x20) 16 = oneUnit 0 2 0 ∧
    (stepDev 2 (mkWord [(0, 3), (2, 255), (10, 0x20)]) (oneUnit 0 2 0)).thread 1023 = none ∧
    fld (wd (oneUnit 0 2 0) 0) 24 2 = 0 ∧ fld (wd (oneUnit 0 2 2) 0) 24 2 = 2 ∧
    ((stepDev 2 0 []).queue ((stepDev 2 0 []).ctxQueue 7)).cells = [] ∧
    ((stepDev 3 0x100 []).nextStep 3).map (·.2.2) = some 1 ∧
    ((after (stepDev 2 (mkWord [(0, 3), (2, 255), (10, 0x20)]) (oneUnit 0 2 0)) (.streamStep .clean)).threadState 1023) = 1 ∧
    ((after (stepDev 2 (mkWord [(0, 3), (2, 255), (10, 0x20)]) (oneUnit 0 2 2)) (.streamStep .clean)).threadState 1023) = 4 := by
  decide +kernel

def endingDev (r : Run) (regs : List (Nat × Word)) : Device :=
  { withRegs hostUp regs with
    belfry := { hostUp.belfry with gcyc := 1 }
    lantern := { hostUp.lantern with run := some r, tasks := [slotTask 0 .completing] } }

def retryRun : Run :=
  { runOf 0 7 with header := [mkWord [(19, 1), (20, 1)], 0, 0, 0, 0, 0, 0, 0], poisoned := true }

theorem witness_end_states :
    (endingDev (runOf 0 7) []).task 0 = some (slotTask 0 .completing) ∧ (slotTask 0 .completing).state = .completing ∧
    (runOf 0 7).decided = none ∧ (slotTask 0 .completing).since + 1 ≤ (endingDev (runOf 0 7) []).now ∧
    { runOf 0 7 with cluster := true }.cluster = true ∧ (runOf 0 7).status = 8 ∧ (runOf 0 7).queues = [] ∧
    (slotTask 0 .completing).remote = false ∧ (slotTask 0 .completing).ring < 256 ∧ (slotTask 0 .completing).ctx < 49152 ∧
    ringFunc (endingDev (runOf 0 7) []) 0 = 0 ∧ (endingDev (runOf 0 7) []).canIssue 0 = true ∧
    (endingDev (runOf 0 7) []).usesAts 0 = false ∧
    (endingDev retryRun [(Reg.lntCtl, mkWord [(8, 1)])]).mayRestart retryRun retryRun.status = true := by decide +kernel

def savingDev : Device := { fresh with lantern := { fresh.lantern with save := some { ctx := 49151, bank := 1, done := 0 } } }

def runningDev : Device :=
  { fresh with lantern := { fresh.lantern with run := some (runOf 0 7), tasks := [slotTask 0 .running] } }

def abortedRun : Run := { runOf 0 7 with aborted := true, stopAfter := some 0 }

def abortedDev : Device :=
  { fresh with
    belfry := { fresh.belfry with gcyc := 1 }
    lantern := { fresh.lantern with run := some abortedRun, tasks := [slotTask 0 .running] } }

def stoppedThread : Thread :=
  { desc := oneUnit 0 2 0, stamp := 0, func := 0, srcBase := 0, dstBase := 0, next := 1, reqs := 0, committed := 0, settled := 0,
    writes := 0, credits := none, walk := none, outbox := [], inbox := [], offered := 0, onward := 0, early := [], pktEnd := none, stop := some .other, fault := none,
    draining := false }

def endA : EndRecord :=
  { status := 0xA, start := 2, retries := 0, flags := 0, cause := 0, epoch := 0, firstFault := none, bad := 0, firstBad := none }

theorem witness_saves_and_aborts :
    savingDev.lantern.save = some { ctx := 49151, bank := 1, done := 0 } ∧ 0 ≤ savingDev.now ∧ savingDev.lantern.tasks = [] ∧
    bit (0x7FFFFFFF : BitVec 32) 31 = false ∧ 49151 < fld (0x8000C000 : BitVec 32) 0 16 ∧
    bit (0x80000007 : BitVec 32) 31 = true ∧ bit (0x80000007 : BitVec 32) 30 = false ∧ fld (0x80000007 : BitVec 32) 0 16 = 7 ∧
    runningDev.lantern.run = some (runOf 0 7) ∧ runningDev.lantern.cluPend = none ∧ runningDev.lantern.save = none ∧
    runningDev.ctxTasks 7 = [slotTask 0 .running] ∧ (slotTask 0 .running).state = .running ∧
    (waitingDev 0 0).lantern.run = none ∧ (waitingDev 0 0).lantern.cluPend = none ∧
    (waitingDev 0 0).lantern.tasks = [slotTask 0 .waiting] ∧ (slotTask 0 .waiting).ctx = 7 ∧
    (slotTask 0 .waiting).consumed = [] ∧
    abortedRun.stopAfter = some 0 ∧ abortedRun.decided = none ∧ abortedRun.queues = [] ∧
    (abortedDev.setThread 3 (some stoppedThread)).threadsBusy = true ∧ abortedDev.threadsBusy = false ∧
    abortedDev.dopsOver = some 0 ∧ 0 + 1 ≤ abortedDev.now ∧
    (after runningDev (.lntAbort 0x80000007)).lantern.run.map (·.stopAfter) = some (some 0) ∧
    ((after (waitingDev 0 0) (.lntAbort 0x80000007)).lantern.dues.map (·.at_)) = [2] ∧
    ((waitingDev 0 0).act 2 (.record 0 endA)).reg Reg.lntAbortCnt = 1 ∧ endA.status = 0xA ∧ (waitingDev 0 0).now ≤ 2 := by decide +kernel

/-! ### Witnesses: streams and HBM -/

def newThread : Thread := { stoppedThread with next := 0, stop := none }

/-- Thread 1023 in state `st`. -/
def threadDev (x : Thread) (st : Nat) : Device :=
  { (withRegs runningDev [(Reg.steThread 3 255, mkWord [(60, st)]), (Reg.steWheel 3, 0)]).setThread 1023 (some x) with
    streams := { runningDev.streams with threads := [(1023, some x)], drains := [(0, [1023])] } }

theorem witness_threads :
    (threadDev newThread 1).portClock 3 0 = some 0 ∧ 0 / 2 ≤ (threadDev newThread 1).now ∧
    (threadDev newThread 1).pickThread 3 0 (0 / 2) 1 = some 1023 ∧
    (threadDev newThread 1).endTarget 3 newThread false 0 = some (.mem 0) ∧
    ((threadDev newThread 1).endTarget 3 newThread true 0).isSome = true ∧
    (threadDev newThread 1).txn (threadDev newThread 1).net.nextId = none ∧
    (threadDev newThread 1).pickThread 3 1 (0 / 2) 1 = none ∧
    (threadDev newThread 1).streams.drains = [(0, [1023])] ∧ (threadDev newThread 1).threadState 1023 = 1 ∧
    newThread.draining = false ∧ (threadDev newThread 2).threadState 1023 = 2 ∧ newThread.stop = none ∧
    totalUnits newThread.desc ≤ { newThread with settled := 1 }.settled ∧ newThread.settled < totalUnits newThread.desc ∧
    stoppedThread.fault = none ∧ stoppedThread.stop = some .other ∧ stoppedThread.writes = 0 ∧
    stoppedThread.committed < totalUnits stoppedThread.desc ∧ (threadDev stoppedThread 1).ownThread stoppedThread = true ∧
    (after (threadDev newThread 1) (.streamRequestIssue 3 0 1)).net.txns.map (·.target) = [.mem 0] ∧
    (after (threadDev newThread 1) .layerDrain).threadState 1023 = 2 ∧
    (after (threadDev { newThread with settled := 1 } 2) (.threadDone 3 255)).threadState 1023 = 3 ∧
    (after (threadDev stoppedThread 1) (.threadFinished 3 255)).reg (Reg.steStopCnt 3) = 1 := by decide +kernel

def walkReq : WalkReq :=
  { addr := 0x12340, dst := false, unit := 0, level := 0, table := 0, read := true, write := true }

def walkThread : Thread :=
  { newThread with desc := oneUnit 1 2 0, walk := some walkReq }

def walkRegs : Device :=
  withRegs (threadDev walkThread 1) [(Reg.stePtroot 0, mkWord [(63, 1)]), (Reg.hbcMapA 0, mkWord [(63, 1), (29, 16)]),
    (Reg.hbcMapB 0, mkWord [(0, 4095)])]

def unitAt (a : Nat) : Nat := (walkRegs.hbmDecode a).elim 0 (·.1)

/-- Tables at 0, 0x1000 and 0x2000, the last with a page of 2 MiB at 0. -/
def rootDev : Device :=
  { walkRegs with
    hbm := { fresh.hbm with mem := ((fresh.hbm.mem.putUnit (unitAt 0) (freshUnit (BitVec.ofNat 512 0x100D))).putUnit
      (unitAt 0x1000) (freshUnit (BitVec.ofNat 512 0x200D))).putUnit (unitAt 0x2000) (freshUnit (BitVec.ofNat 512 15)) } }

theorem witness_walks :
    rootDev.thread 1023 = some walkThread ∧ walkThread.walk = some walkReq ∧
    bit (rootDev.reg (Reg.stePtroot walkThread.func)) 63 = true ∧ srcKind walkThread.desc ≠ 4 ∧
    bit ((threadDev walkThread 1).reg (Reg.stePtroot walkThread.func)) 63 = false ∧
    (threadDev walkThread 1).lantern.run = some (runOf 0 7) ∧ (runOf 0 7).streamFault = false ∧
    bit (mkWord [(63, 1)]) 63 = true ∧
    (after rootDev (.steTlbInv (mkWord [(63, 1)]))).streams.inval = [mkWord [(63, 1)]] ∧
    (after (threadDev walkThread 1) (.translationWalk 3 255 [])).threadState 1023 = 5 := by decide +kernel

theorem witness_walk_ends :
    (rootDev.walkFrom 3 0 walkReq 4 []).1 = .ended (.page { func := 0, page := 0, size := 2 ^ 21, target := 0, host := false, read := true, write := true }) := by decide +kernel

def hbmOn (l : List (Nat × Word)) : Device := withRegs fresh (trained ++ l)

def unit383 : Nat := 383 * pcUnits + 5

def readEntry : RdEntry :=
  { unit := unit383, txn := 4, index := 0, sched := false, seq := 0, reread := false, data := freshUnit 7 }
def writeEntry : WrEntry := { unit := unit383, data := freshUnit 9, be := BitVec.allOnes 64, sched := false, seq := 0 }
def retryEntry : RetryEntry := { unit := unit383, bank := 0, row := 0, column := 0, old := some (freshUnit 7), full := true, rd := none }

def hbmTxn : Txn := { hostTxn with target := .mem 320, len := 1, purpose := .bar2 0 9 0 4 }

/-- Pseudo-channel 31 of stack 11 is `x`; transaction 4 waits for its unit. -/
def pcDev (d : Device) (x : PseudoChannel) : Device :=
  { d.setPc 383 x with net := { d.net with txns := [hbmTxn], nextId := 5 } }

def idlePc : PseudoChannel := PseudoChannel.initial

/-- Every bank of stack 11 is being refreshed. -/
def busyBank : Device :=
  { hbmOn [] with hbm := { fresh.hbm with refreshed := [(11, some (1, (unitBank unit383 + 48 * 48 - 93) % 48))] } }

theorem witness_hbm_accesses :
    (pcDev fresh idlePc).stackReady 11 = false ∧ (pcDev (hbmOn []) { idlePc with writes := [writeEntry] }).stackReady 11 = true ∧
    (pcDev (hbmOn []) { idlePc with flight := [readEntry] }).pc 383 = { idlePc with flight := [readEntry] } ∧
    (pcDev (hbmOn []) idlePc).suspect 383 = false ∧ (pcDev (hbmOn []) idlePc).txn 4 = some hbmTxn ∧
    readEntry.reread = false ∧ readEntry.data.pois = false ∧ unitOk readEntry.data = true ∧ { readEntry with reread := true }.reread = true ∧
    readEntry.unit / pcUnits = 383 ∧ (pcDev (hbmOn []) { idlePc with writes := [writeEntry] }).bankFree unit383 = true ∧
    (pcDev (hbmOn []) idlePc).hbmLost unit383 = false ∧
    (pcDev (hbmOn []) { idlePc with lost := [unit383] }).hbmLost unit383 = true ∧
    { idlePc with arriving := [readEntry] }.arriving = [readEntry] ∧ idlePc.arriving = [] ∧ idlePc.input = [] ∧
    youngest unit383 idlePc.writes = none ∧ youngest unit383 [writeEntry] = some writeEntry ∧ writeEntry.be = -1 ∧
    (((pcDev (hbmOn []) { idlePc with arriving := [readEntry], writes := [writeEntry] }).comparePc 383).txn 4).map
      (fun u => mapGet none u.got 0) = some (some (freshUnit 9)) ∧
    (after (pcDev (hbmOn []) { idlePc with writes := [writeEntry] }) (.hbmAccessIssue 11 31)).hbm.mem.unit unit383 = freshUnit 9 ∧
    ((after (pcDev (hbmOn []) { idlePc with reads := [readEntry] }) (.hbmAccessIssue 11 31)).pc 383).flight =
      [{ readEntry with data := zeroUnit }] ∧
    ((after (pcDev (hbmOn []) { idlePc with flight := [readEntry] }) (.hbmReadComplete 11 31 .corrected)).txn 4).map
      (fun u => mapGet none u.got 0) = some (some (freshUnit 7)) ∧
    ((after (pcDev (hbmOn []) { idlePc with flight := [{ readEntry with reread := true }] })
      (.hbmReadComplete 11 31 .uncorrectable)).txn 4).map (fun u => mapGet none u.got 0) = some (some poisonUnit) := by
  decide +kernel

theorem witness_bank_refreshing : (pcDev busyBank { idlePc with writes := [writeEntry] }).bankFree unit383 = false := by
  have h : mapGet none (pcDev busyBank { idlePc with writes := [writeEntry] }).hbm.refreshed (unit383 / pcUnits / 32) =
    some (1, (unitBank unit383 + 48 * 48 - 93) % 48) := by decide +kernel
  have n : (pcDev busyBank { idlePc with writes := [writeEntry] }).now = 0 := by decide +kernel
  have b : ((unitBank unit383 + 48 * 48 - 93) % 48 + 3 * (unit383 / pcUnits % 32)) % 48 = unitBank unit383 := by decide +kernel
  have p : 0 < 1 + Config.refreshTime := by omega
  simp only [Device.bankFree, h, n, b, Option.elim, decide_true, Bool.true_and, decide_eq_true p, Bool.not_true, Bool.false_and]

def refreshTime : Device := { hbmOn [] with belfry := { fresh.belfry with gcyc := 81 } }

theorem witness_stacks :
    refreshTime.belfry.counting = true ∧ refreshTime.hbm.hot = 0 ∧ refreshTime.hbm.wantHot = 0 ∧
    refreshTime.hbm.lastRefresh < refreshTime.now ∧ refreshTime.now % 81 = 0 ∧
    { idlePc with retry := [retryEntry], replays := 2 }.replays < 3 ∧ 3 ≤ { idlePc with retry := [retryEntry], replays := 3 }.replays ∧
    retryEntry.old = some (freshUnit 7) ∧ retryEntry.rd = none ∧ idlePc.lost = [] ∧ idlePc.retry = [] ∧ fresh.faultsNow.entries = [] ∧ retryEntry.full = true ∧
    fresh.keep.noPhy = false ∧ fresh.regF (Reg.hbcStatus 11) 2 2 = 0 ∧ fresh.regBit (Reg.hbcCtl 11) 0 = false ∧
    (hbmOn []).regF (Reg.hbcStatus 11) 2 2 ≠ 0 ∧
    mapGet none (after refreshTime .hbmRefresh).hbm.refreshed 11 = some (81, 1) ∧
    (after (pcDev (hbmOn []) { idlePc with retry := [retryEntry], replays := 3 }) (.parityAlert 11 31 true)).hbm.mem.unit unit383 =
      freshUnit 7 ∧
    (after (pcDev (hbmOn []) { idlePc with retry := [retryEntry], replays := 2 }) (.commandConfirmed 11 31)).pc 383 = idlePc ∧
    bit (fresh.raised (Reg.hbcSuspect 11)) 31 = false ∧
    (after (withRegs fresh [(Reg.hbcSuspect 11, 0xFFFFFFFF)]) (.hbcSuspectClear 11 0x80000000)).suspect 383 = false ∧
    (after fresh (.hbmTrainingComplete 11 (.margins false))).reg (Reg.hbcSuspect 11) = 0xFFFFFFFF := by decide +kernel

def retainedRecord : HbmRecord :=
  { results := 5, crc := recordCrc 5 (Config.stackIdentity 11) fresh.chipVersion, identity := Config.stackIdentity 11,
    version := fresh.chipVersion }

def retainedDev : Device := { fresh with belfry := { fresh.belfry with hbmRetain := [(11, some retainedRecord)] } }

theorem witness_retained_training : retainedDev.recordValid 11 = true := by
  have h : mapGet none retainedDev.belfry.hbmRetain 11 = some retainedRecord := rfl
  have v : retainedDev.chipVersion = fresh.chipVersion := rfl
  simp [Device.recordValid, h, v, retainedRecord]

/-! ### Witnesses: the networks -/

def readTxn (a : Nat) (p : NetPhase) : Txn := { hbmTxn with target := .mem a, phase := p }

/-- Transaction `t` in a device whose HBM map is one window of 1 MiB over all stacks. -/
def netDev (t : Txn) : Device :=
  { withRegs fresh [(Reg.hbcMapA 0, mkWord [(63, 1), (29, 16)]), (Reg.hbcMapB 0, mkWord [(0, 4095)]), (Reg.pwrStatus, 0)] with
    net := { fresh.net with txns := [t], nextId := 5 } }

def holding (d : Device) : Device := { d with lantern := { d.lantern with run := some (runOf 0 7) } }

theorem witness_reads :
    (netDev (readTxn 320 .sent)).txn 4 = some (readTxn 320 .sent) ∧ (readTxn 320 .sent).cmd = .read ∧ (readTxn 320 .sent).len = 1 ∧
    (readTxn 320 .sent).got = [] ∧ (netDev (readTxn 320 .sent)).travels (.request 4) = false ∧
    (∀ v ∈ (netDev (readTxn 320 .sent)).net.txns, (netDev (readTxn 320 .sent)).requestBefore (readTxn 320 .sent) v = false) ∧ localSpace 0 = .hbm 0 ∧ (netDev (readTxn 0 .sent)).hbmDecode 0 = some (0, 0) ∧
    (netDev (readTxn 0 .sent)).suspect 0 = false ∧ (netDev (readTxn 0 .sent)).pc 0 = idlePc ∧
    localSpace 0x100000 = .hbm 0x100000 ∧ (netDev (readTxn 0 .sent)).hbmDecode 0x100000 = none ∧
    localSpace 0x1001FFFFFFF = .tile 0x7FFFFF ∧ (netDev (readTxn 0 .sent)).domeOpen = true ∧
    (holding (netDev (readTxn 0 .sent))).lantern.run = some (runOf 0 7) ∧ localSpace 0x20000910000 = .regs 0x910000 ∧
    openRegister 0x910000 = true ∧ localSpace 0x20010000000 = .nowhere ∧ openRegister 0x914000 = false ∧
    ((after (netDev (readTxn 0 .sent)) (.netRead 4 true [])).pc 0).arriving.map (·.unit) = [0] ∧
    ((after (netDev (readTxn 0x100000 .sent)) (.netRead 4 true [])).txn 4).map (·.status) = some 1 ∧
    ((after (netDev (readTxn 0x1001FFFFFFF .sent)) (.netRead 4 true [])).txn 4).map (·.units) = some [zeroUnit] ∧
    ((after (holding (netDev (readTxn 0x1001FFFFFFF .sent))) (.netRead 4 true [])).txn 4).map (·.phase) = some .held ∧
    ((after (netDev (readTxn 0x10000000000 .held)) (.gatewayHoldRelease 4 [])).txn 4).map (·.phase) = some .responded := by
  decide +kernel

def writeTxn (c : NetCmd) (a : Nat) : Txn :=
  { hbmTxn with cmd := c, target := .mem a, phase := .sent, data := [freshUnit 5], purpose := .nobody }

theorem witness_writes :
    (netDev (writeTxn .write 0)).txn 4 = some (writeTxn .write 0) ∧ (writeTxn .write 0).phase = .sent ∧
    (writeTxn .write 0).data = [freshUnit 5] ∧ (writeTxn .write 0).purpose = .nobody ∧
    0 < ((netDev (writeTxn .write 0)).pc 0).room false ∧ (writeTxn .write 0).sched = false ∧
    (netDev (writeTxn .write 0)).travels (.request 4) = false ∧
    (∀ v ∈ (netDev (writeTxn .write 0)).net.txns, (netDev (writeTxn .write 0)).requestBefore (writeTxn .write 0) v = false) ∧
    ((netDev (writeTxn .write 0)).pc 0).input = [] ∧ ((netDev (writeTxn .write 0)).pc 0).writes = [] ∧
    (netDev (writeTxn .write 0)).hbmLost 0 = false ∧ (writeTxn .partialWrite 0).be ≠ -1 ∧
    unitOk ((netDev (writeTxn .write 0)).hbm.mem.unit 0) = true ∧ (writeTxn .partialWrite 0).cmd = .partialWrite ∧
    (after (netDev (writeTxn .write 0)) (.netWrite 4 true)).hbmUnit 0 = freshUnit 5 ∧
    (after (netDev (writeTxn .write 0x10000000040)) (.netWrite 4 true)).tile.unit 1 = freshUnit 5 ∧
    ((after (netDev (writeTxn .write 0x20000914000)) (.netWrite 4 true)).txn 4).map (·.status) = some 1 ∧
    (after (netDev { writeTxn .partialWrite 0 with be := 1 }) (.netWritePartial 4 true .clean .clean)).hbmUnit 0 = freshUnit 5 ∧
    (after (netDev (writeTxn .partialWrite 0)) (.netWritePartial 4 true .uncorrectable .uncorrectable)).hbmUnit 0 = poisonUnit := by
  decide +kernel

def answered : Txn :=
  { hbmTxn with phase := .responded, got := [(0, some (freshUnit 7))], purpose := .bar2 0 9 0 4 }
def ackTxn : Txn :=
  { writeTxn .write 0 with phase := .responded, purpose := .thread 1023 0 0 .peer }
def ackDev : Device :=
  { threadDev { newThread with next := 1, writes := 1, reqs := 1 } 1 with net := { fresh.net with txns := [ackTxn], nextId := 5 } }

theorem witness_responses :
    (netDev answered).txn 4 = some answered ∧ answered.init < 256 ∧ answered.phase = .responded ∧ (netDev answered).travels (.response 4) = false ∧
    (∀ v ∈ (netDev answered).net.txns, (netDev answered).responseBefore answered v = false) ∧
    answered.purpose = .bar2 0 9 0 4 ∧ (netDev answered).regBit Reg.sncStatCtl 0 = false ∧
    answered.units.all (fun u => !u.pois && unitOk u) = true ∧
    { answered with got := [(0, some poisonUnit)] }.units.any (fun u => u.pois || !unitOk u) = true ∧
    ackDev.txn 4 = some ackTxn ∧ ackDev.travels (.response 4) = false ∧
    (∀ v ∈ ackDev.net.txns, ackDev.responseBefore ackTxn v = false) ∧ ackTxn.cmd = .write ∧ (ackDev.thread 1023).isSome = true ∧ ackTxn.data.length = 1 ∧
    ackTxn.got = [] ∧ ackTxn.status = 0 ∧
    (after (netDev answered) (.netReadData 4 true)).out = [.completion 9 0 [7, 0, 0, 0] false] ∧
    (after ackDev (.netWriteAck 4 true)).committedBytes 1023 = 64 := by decide +kernel

theorem witness_injection_and_timeout :
    (readTxn 0 .waiting).phase = .waiting ∧ 1 < (withRegs (netDev (readTxn 0 .waiting)) [(Reg.pwrStatus, 3)]).power ∧
    (netDev (readTxn 0 .waiting)).power ≤ 1 ∧ (netDev (readTxn 0 .waiting)).regF (Reg.sncReg 0x80) 0 24 = 0 ∧
    (readTxn 0 .waiting).data = [] ∧ (netDev (readTxn 0 .waiting)).net.txns = [readTxn 0 .waiting] ∧ (readTxn 0 .waiting).init ≠ 7 ∧ { readTxn 0 .lost with limit := 0 }.injected + 0 ≤ (netDev (readTxn 0 .lost)).now ∧
    (readTxn 0 .lost).sched = false ∧ 0 < (readTxn 0 .lost).len ∧
    (after (netDev (readTxn 0 .waiting)) (.packetInjection 0x80)).net.txns.map (·.phase) = [.sent] ∧
    (after (netDev { readTxn 0 .lost with limit := 0 }) (.responseTimeout 4)).out =
      [.completion 9 0 (List.replicate 4 0) true] := by decide +kernel

theorem witness_regulators :
    initAssigned 0x50 = false ∧ initAssigned 0xBF = true ∧ bit (0x7FFFFFFF : BitVec 32) 31 = false ∧
    bit (0x80000000 : BitVec 32) 31 = true ∧ (withRegs fresh [(Reg.sncStatCtl, 1)]).regBit Reg.sncStatCtl 0 = true ∧
    fresh.regBit Reg.sncStatCtl 0 = false ∧
    (after fresh (.sncRegWrite 0xBF (BitVec.allOnes 64))).regF (Reg.sncReg 0xBF) 32 24 = 2 ^ 24 - 1 := by decide +kernel

/-! ### Witnesses: queues and multicast -/

def queueDev (x : Queue) : Device := { fresh with queues := [(65535, x)] }

def cellOne : QCell :=
  { data := 7, check := lineCheck 7, vbytes := 64, sop := true, eop := true, trunc := false, pois := false, chkOk := true,
    init := 0x80, length := 64, spilled := none }

theorem witness_queue_packets :
    (queueDev Queue.initial).queue 65535 = Queue.initial ∧ (queueDev Queue.initial).power ≤ 1 ∧
    fld (mkWord [(63, 1), (16, 1048576), (0, 65535)]) 0 16 = 65535 ∧
    fld (mkWord [(63, 1), (16, 1048576), (0, 65535)]) 16 21 ≤ 1048576 ∧
    1048576 < fld (mkWord [(63, 1), (16, 1048577), (0, 65535)]) 16 21 ∧ bit (mkWord [(63, 1)]) 63 = true ∧ (Queue.initial).asm = none ∧
    (queueDev { Queue.initial with asm := some assembling }).spills 65535 = false ∧
    { Queue.initial with asm := some assembling }.atLimit = false ∧ 0 < (queueDev Queue.initial).poolFree ∧
    { Queue.initial with asm := some assembling }.freeing = false ∧ (queueDev Queue.initial).queueFunc 65535 ≠ 1 ∧ fld (0x8000FFFF : BitVec 32) 0 16 = 65535 ∧
    bit (0x8000FFFF : BitVec 32) 31 = true ∧ fresh.cluster.copies = [] ∧
    ((after (queueDev { Queue.initial with asm := some assembling })
      (.pushPortWrite 0 65535 ((recordBytes 7).map some) false)).queue 65535).cells =
        [{ cellOne with init := 0xBF }] ∧
    (after (queueDev { Queue.initial with cells := [cellOne] }) (.qmgFlush 0x8000FFFF)).reg Reg.qmgDiscByteCnt = 64 := by
  decide +kernel

def popDev (x : Queue) : Device := withRegs (queueDev x) [(Reg.qmgPopSel, 65535)]
def latched (w : Nat) : PopLatch := { cell := cellOne, metaLeft := true, word := w }

theorem witness_pop_reads :
    (popDev { Queue.initial with held := true }).regF Reg.qmgPopSel 0 16 = 65535 ∧ (Queue.initial).held = false ∧
    (Queue.initial).headReady = false ∧ { Queue.initial with cells := [cellOne] }.headReady = true ∧ cellOne.vbytes ≤ 64 ∧ cellOne.spilled = none ∧ (popDev Queue.initial).cluster.copies = [] ∧
    cellOne.length < 2 ^ 21 ∧ cellOne.init < 256 ∧ (latched 7).word < 8 ∧ (latched 8).word = 8 ∧ fresh.pop = none ∧
    (after (popDev { Queue.initial with held := true }) (.qmgPopStatus .clean)).out = [.value 0xFFFFFFFF] ∧
    (after (popDev { Queue.initial with cells := [cellOne] }) (.qmgPopStatus .clean)).out = [.value 0x60FFFF40] ∧
    (after { fresh with pop := some (latched 0) } (.qmgPopData .both)).out = [.value 7] := by decide +kernel

def groupOne : McGroup := { en := true, root := true, inLink := 0, toQueue := false, queue := 0, outMask := mkWord [(63, 1)] }

def groupDev (cs : List McCopy) (ds : List Nat) : Device :=
  { fresh with cluster := { fresh.cluster with groups := [(255, some groupOne)], copies := cs, detached := ds } }

def copyOne : McCopy := { group := 255, data := freshUnit 7, waiting := [63], since := 0, init := 0x80, txn := none }

theorem witness_multicast :
    fresh.group 255 = none ∧ (groupDev [] []).group 255 = some groupOne ∧ (groupDev [copyOne] []).cluster.waits = [] ∧ copyOne.waiting = [63] ∧
    copyOne.txn = none ∧ groupOutputs groupOne = [63] ∧
    (groupDev [] []).isDetached 255 63 = false ∧ (groupDev [] []).power ≤ 1 ∧ (groupDev [] [128 * 255 + 63]).isDetached 255 63 = true ∧
    (groupDev [copyOne] []).cluster.copies = [copyOne] ∧
    copyOne.since + (withRegs (groupDev [copyOne] []) [(Reg.cluMcCtl, 0)]).regF Reg.cluMcCtl 0 24 ≤ (groupDev [copyOne] []).now ∧
    fld (0x800000FF : BitVec 32) 0 8 = 255 ∧
    (after fresh (.multicastPortWrite 255 true 7 false)).reg Reg.cluMcBadwrCnt = 1 ∧
    (after (groupDev [] []) (.multicastPortWrite 255 true 7 false)).cluster.copies = [copyOne] ∧
    (after (groupDev [] [128 * 255 + 63]) (.multicastPortWrite 255 true 7 false)).reg Reg.cluMcDropCnt = 1 ∧
    (after (withRegs (groupDev [copyOne] []) [(Reg.cluMcCtl, 0)]) (.outputDetach 255 63)).isDetached 255 63 = true ∧
    (after (groupDev [] [128 * 255 + 63]) (.cluMcAttach 0x800000FF)).cluster.detached = [] := by decide +kernel

/-- A waiting task whose input queue has no packet. -/
def gatedDev : Device :=
  { waitingDev 0 3 with queues := [((waitingDev 0 3).ctxQueue 7, { Queue.initial with cfg := mkWord [(63, 1)] })] }

theorem witness_gate_opens :
    (gatedDev.queue (gatedDev.ctxQueue 7)).blocks = true ∧
    { gatedDev.queue (gatedDev.ctxQueue 7) with cfg := (0 : Word) &&& 0xFF00003FFFF87FFF }.blocks = false ∧
    gatedDev.regF Reg.qmgQsel 0 16 = gatedDev.ctxQueue 7 ∧ (7, 2) ∈ (after gatedDev (.qmgQcfg 0)).lantern.evals := by
  decide +kernel

/-! ### Witnesses: links -/

/-- Link 63 in state `st`, with more status bits. -/
def linkDev (st : Nat) (x : Link) (l : List (Nat × Nat)) : Device :=
  { withRegs fresh [(Reg.turLinkStatus 63, mkWord ((0, st) :: l))] with
    links := { fresh.links with link := if x = Link.initial then [] else [(63, x)] } }

def idleLink : Link := Link.initial

theorem witness_links_detect :
    (linkDev 0 idleLink []).linkState 63 = 0 ∧ (linkDev 0 idleLink []).power ≠ 3 ∧ (linkDev 0 idleLink []).power ≠ 5 ∧
    (linkDev 5 idleLink []).linkState 63 = 5 ∧ (linkDev 1 idleLink []).pinsTaken = false ∧ (linkDev 1 idleLink []).linkState 63 = 1 ∧
    (linkDev 1 idleLink []).regBit (Reg.turLinkStatus 63) 52 = false ∧ (linkDev 1 idleLink []).keep.noPhy = false ∧
    (linkDev 1 idleLink [(52, 1)]).regBit (Reg.turLinkStatus 63) 52 = true ∧ (linkDev 5 idleLink []).isUpLink 63 = false ∧
    (after (linkDev 0 idleLink []) (.linkEnable 63)).linkState 63 = 1 ∧ (after (linkDev 5 idleLink []) (.linkRetrain 63)).linkState 63 = 2 ∧
    (after (linkDev 1 idleLink []) (.terminationDetect 63 true)).linkState 63 = 2 ∧
    (after (linkDev 5 idleLink []) (.lossOfClock 63)).linkState 63 = 1 ∧
    (after (linkDev 1 idleLink [(52, 1)]) (.clockRestored 63)).regBit (Reg.turLinkStatus 63) 52 = false := by decide +kernel

def exchUnit : ExchUnit := { peer := mkWord [(12, 3)], epoch := 5, ts := 9, echoTs := 8, echoHold := 1 }
def exchOf : Exchanged := { peer := exchUnit.peer, epoch := 5 }
def fourth : Link := { idleLink with last := some exchOf, same := 3, echoed := true }
def activeLink : Link := { idleLink with done := some exchOf }

def keptRecord : LinkRecord := LinkRecord.make 9 (fresh.regF Reg.bfyId 28 4) (0, 0)
def keptLink : Link := { idleLink with retain1 := some keptRecord }

theorem witness_links_train :
    (linkDev 2 keptLink []).link 63 = keptLink ∧
    (linkDev 2 keptLink []).linkRecordValid 63 = true ∧ keptLink.fullNext = false ∧ (linkDev 2 idleLink []).linkRecordValid 63 = false ∧
    (linkDev 2 idleLink []).regBit (Reg.turLinkCtl 63) 24 = false ∧ (linkDev 3 idleLink []).linkState 63 = 3 ∧
    (linkDev 4 fourth []).link 63 = fourth ∧ idleLink.last ≠ some exchOf ∧ fourth.sentTs = [] ∧ fourth.lanes = 3 ∧
    fld exchUnit.peer 12 2 = 3 ∧ (linkDev 4 fourth []).choosesGen2 63 exchUnit.peer = fourth.gen2 ∧
    (linkDev 5 activeLink []).link 63 = activeLink ∧ activeLink.done = some exchOf ∧ idleLink.done ≠ some exchOf ∧
    (after (linkDev 2 idleLink []) (.trainComplete 63 true)).regF (Reg.turLinkStatus 63) 41 2 = 2 ∧
    (after (linkDev 2 keptLink []) (.trainComplete 63 true)).regF (Reg.turLinkStatus 63) 41 2 = 1 ∧
    (after (linkDev 4 fourth []) (.exch 63 exchUnit)).linkState 63 = 5 ∧
    (after (linkDev 5 idleLink []) (.exch 63 exchUnit)).linkState 63 = 4 ∧
    (after (linkDev 5 idleLink []) (.alignmentMarkerLoss 63)).linkState 63 = 3 ∧
    (after (linkDev 3 idleLink []) (.bringUpTimeout 63)).linkState 63 = 1 := by decide +kernel

/-- An ACTIVE link in frame 2 of its counter, slot 30 to be sent. -/
def slotLink : Link := { idleLink with txFrame := 2, txSlot := 30 }
def atFrame (g : Nat) (d : Device) : Device := { d with belfry := { d.belfry with gcyc := g } }
def creditUnit : CtrlUnit := { link := 63, typ := 0x18, words := [255] }
def netFlit : NetFlit := { data := freshUnit 7, vcr := true, head := true, tail := false }
def flitOf (k : Nat) (b : FlitBody) : Flit := { slot := k, frame := 2, replay := none, nak := none, body := b }
def waitingSlot : RxSlot := { frame := 2, flit := flitOf 30 (.dyn [netFlit]), ok := false, at_ := 0 }

theorem witness_frames :
    (atFrame 1020 (linkDev 5 slotLink [])).now % (linkDev 5 slotLink []).frameLen 63 = 0 ∧
    slotLink.txFrame ≠ (atFrame 1020 (linkDev 5 slotLink [])).now / (linkDev 5 slotLink []).frameLen 63 ∧
    slotLink.txSlot < 31 ∧ (linkDev 5 slotLink []).slotBegin 63 2 30 ≤ 1020 ∧ (linkDev 5 slotLink []).slotEntry 63 2 30 = none ∧
    slotLink.nakTx = none ∧ mapGet [] (linkDev 5 slotLink []).links.dyn 63 = [] ∧ (linkDev 5 slotLink []).links.ctrl = [] ∧
    creditUnit.typ ≠ 0x10 ∧ creditUnit.typ ≠ 0x11 ∧ (linkDev 5 slotLink []).regBit (Reg.turLinkStatus 63) 50 = false ∧
    (atFrame 1100 (linkDev 5 slotLink [])).rxFrame 63 2 = 2 ∧ slotLink.held = [] ∧
    (linkDev 5 slotLink []).arrival 63 ((linkDev 5 slotLink []).regF (Reg.turLinkStatus 63) 24 12) 2 30 ≤ 1100 ∧
    slotLink.badFrames.contains 2 = false ∧ netFlit.head = true ∧ netFlit.tail = false ∧ flitOk (flitOf 30 (.dyn [netFlit])) = true ∧
    (linkDev 5 slotLink [(43, 1)]).regBit (Reg.turLinkStatus 63) 43 = true ∧ waitingSlot.ok = false ∧
    (linkDev 5 slotLink []).arrival 63 0 (2 + (linkDev 5 slotLink []).replayFrames 63) 31 ≤ 1100 ∧
    (linkDev 5 slotLink []).slotEntry 63 2 30 = none := by decide +kernel

theorem test_frames :
    (after (atFrame 1020 (linkDev 5 slotLink [])) (.frameStart 63)).links.link.map (fun e => (e.1, e.2.txFrame, e.2.txSlot)) =
      [(63, 3, 0)] ∧
    (after (atFrame 1020 { linkDev 5 slotLink [] with links := { (linkDev 5 slotLink []).links with ctrl := [creditUnit] } })
      (.flitTransmit 63)).out = [.flit 63 (flitOf 30 (.ctrl [(0x18, [255])]))] ∧
    (after (atFrame 1100 (linkDev 5 slotLink [])) (.flitReceive 63 (flitOf 30 .idle) 0 true)).reg (Reg.turFlitBadCnt 63) = 1 ∧
    (after (atFrame 1100 (linkDev 5 slotLink [(43, 1)])) (.flitReceive 63 (flitOf 30 (.dyn [netFlit])) 3 false)).reg
      (Reg.turFecCorrCnt 63) = 3 ∧
    (after (atFrame 1100 (linkDev 5 { slotLink with held := [waitingSlot] } [])) (.replayDeadline 63 2)).reg
      (Reg.turDropDynCnt 63) = 1 := by decide +kernel

/-- Link 63 is not fit for scheduled traffic and a slot table names a LINK thread for its every slot. -/
def tableDev : Device :=
  sched (atFrame 1100 { linkDev 5 idleLink [(51, 1)] with
    links := { (linkDev 5 idleLink []).links with
      tables := [(63, some { mask := mkWord [(63, 1)], period := 1, entries := 0x4000, first := 0 })] } })
    (0x4000 + 8 * 30) [mkWord [(12, 1), (14, 3), (16, 255)]]

theorem witness_slot_drop :
    rxThread (tableDev.slotEntry 63 2 30) = some 1023 ∧ tableDev.carriesScheduled 63 = false ∧ (tableDev.link 63).dropNext ≤ 31 * 2 + 30 ∧
    tableDev.thread 1023 = none ∧ tableDev.arrival 63 ((tableDev.linkEntry 63).elim 0 (·.owl)) 2 30 ≤ tableDev.now ∧
    (linkDev 5 idleLink []).carriesScheduled 63 = true ∧
    (after tableDev (.linkSlotDrop 63 2 30)).reg (Reg.steLinkDropCnt 3) = 4 := by decide +kernel

def prbsDev : Device := withRegs (linkDev 6 idleLink []) [(Reg.turPrbsCtl 63, mkWord [(30, 1), (24, 15), (21, 1)])]
def laneDev : Device := withRegs fresh [(Reg.cfgFabLaneTest 15, mkWord [(30, 1), (26, 1)])]

theorem witness_links_else :
    (linkDev 4 idleLink []).linkState 63 ≠ 5 ∧ (withRegs (linkDev 5 idleLink []) [(Reg.pwrStatus, 2)]).power = 2 ∧
    ((linkDev 5 idleLink []).setThread 1023 (some newThread)).thread 1023 = some newThread ∧ prbsDev.prbsOn 63 = true ∧
    prbsDev.regBit (Reg.turPrbsCtl 63) 30 = true ∧ prbsDev.regBit (Reg.turPrbsCtl 63) (24 + 3) = true ∧
    prbsDev.regBit (Reg.turPrbsCtl 63) (18 + 3) = true ∧ (withRegs prbsDev [(Reg.turPrbsCtl 63, 0)]).regBit (Reg.turPrbsCtl 63) 21 = false ∧
    (255 : Fin 272).val < 256 ∧ (255 : Fin 272).val / 4 = 63 ∧ (271 : Fin 272).val = 256 + 15 ∧
    laneDev.regBit (Reg.cfgFabLaneTest 15) 30 = true ∧ laneDev.regBit (Reg.cfgFabLaneTest 15) 26 = true ∧
    (after (withRegs (linkDev 5 idleLink []) [(Reg.pwrStatus, 2)]) (.linkWake 63)).power = 6 ∧
    ((after ((linkDev 5 idleLink []).setThread 1023 (some newThread)) (.linkCredit 63 3 255 9 true)).thread 1023).map (·.credits) =
      some (some 9) ∧
    (after prbsDev (.prbsCheckerSynchronisation 255 (.counted 8 2))).reg (Reg.turPrbsErr 63 3) = 2 ∧
    (after laneDev (.prbsCheckerSynchronisation 271 (.counted 8 2))).reg (Reg.cfgFabLanePrbsBits 15) = 8 ∧
    (after fresh (.loopback 63 3)).linkState 63 = 6 ∧ (after (linkDev 6 idleLink []) (.loopback 63 0)).linkState 63 = 1 := by
  decide +kernel

/-! ### Witnesses: the cluster -/

/-- Member 3 below member 0 on link 63, with no children. -/
def childMember : Member :=
  { clusterId := 9, device := 3, master := 0, membersM1 := 1, freqSrc := false, upLink := 63, depth := 1,
    links := mkWord [(63, 1)], down := 0, children := [], reportOff := 5, floodBound := 100, entries := [] }
/-- Member 0, the master, with a child on link 63. -/
def masterMember : Member := { childMember with device := 0, down := mkWord [(63, 1)] }

/-- A member whose link 63 is ACTIVE, with frequency state `f` and alignment state `a`. -/
def memberDev (m : Member) (f a : Nat) : Device :=
  { withRegs (linkDev 5 idleLink []) [(Reg.cluStatus, mkWord [(2, f), (5, a)]), (Reg.pwrStatus, 0)] with
    cluster := { fresh.cluster with member := some m } }

def stamped (d : Device) (t1 t2 t3 : Nat) : Device :=
  atFrame 10 { d with cluster := { d.cluster with t1 := some t1, t2 := some t2, t3 := some t3 } }

def withStep (d : Device) (c : Int) : Device := { d with cluster := { d.cluster with step := some c } }

theorem witness_alignment :
    (memberDev childMember 2 0).isUpLink 63 = true ∧ (memberDev childMember 2 0).freqSettled = true ∧
    (memberDev childMember 2 0).linkState 63 = 5 ∧ (memberDev childMember 1 0).freqSettled = false ∧
    (memberDev masterMember 2 1).alignsChild 63 = true ∧ (memberDev childMember 2 1).alignsChild 63 = false ∧
    (stamped (memberDev childMember 2 0) 0 64 64).alignState = 0 ∧
    (stampDiff 64 0 - stampDiff 0 64) / 2 = 64 ∧ 0 ≤ (stamped (memberDev childMember 2 0) 0 64 64).now64 - 64 ∧
    (stamped (memberDev childMember 2 1) 0 32 32).alignState = 1 ∧ ((stampDiff 32 0 - stampDiff 0 32) / 2).natAbs ≤ 32 ∧
    32 < ((stampDiff 33 0 - stampDiff 0 33) / 2).natAbs ∧ (holding (memberDev childMember 2 0)).lantern.run = some (runOf 0 7) ∧
    (memberDev childMember 2 2).alignState = 2 ∧ 0 ≤ (withStep (memberDev childMember 2 0) 5).now64 + 5 ∧
    (withRegs (atFrame 65536 (memberDev masterMember 2 1)) [(Reg.cluCtl, 0)]).cluster.lastCheck +
      65536 * max 1 ((withRegs (atFrame 65536 (memberDev masterMember 2 1)) [(Reg.cluCtl, 0)]).regF Reg.cluCtl 0 16) ≤
      (atFrame 65536 (memberDev masterMember 2 1)).now ∧
    fresh.alignState ≠ 1 ∧ (memberDev masterMember 2 1).isMaster = true ∧ (memberDev childMember 2 1).isMaster = false ∧
    (memberDev childMember 1 0).freq = 1 ∧ (memberDev childMember 2 0).freq ≠ 1 := by decide +kernel

theorem test_alignment :
    (after (memberDev childMember 2 0) (.cluAlign 63 5)).links.ctrl = [{ link := 63, typ := 0x11, words := [0, 0] }] ∧
    (after (stamped (memberDev childMember 2 0) 0 64 64) (.cluAlignResult 63 0)).now = 9 ∧
    (after (stamped (memberDev childMember 2 1) 0 32 32) (.cluAlignResult 63 0)).belfry.edge64 = -32 ∧
    (after (stamped (memberDev childMember 2 1) 0 33 33) (.cluAlignResult 63 0)).alignState = 2 ∧
    (after (withStep (memberDev childMember 2 0) 64) .alignmentStep).now = 1 ∧
    (after (memberDev childMember 1 0) .frequencyLock).freq = 2 := by decide +kernel

/-- A member ready to start on slot 1, whose START for gcyc 1 has arrived. -/
def pendingStart : CluPending := { start := 1, slot := 1, epoch := 0, ctx := 49151, retry := 0, late := false }

def startingMember (cdone : Bool) : Device :=
  { withRegs (slotOne [0, 0, 0, 0, 0, 0, 0, 0]) (trained ++ [(Reg.cluStatus, mkWord [(2, 2), (5, 1)]), (Reg.pwrStatus, 0),
      (Reg.turLinkStatus 63, 5)]) with
    cluster := { fresh.cluster with member := some childMember }
    maintCfg := false
    belfry := { fresh.belfry with gcyc := 1, cdone := cdone }
    lantern := { fresh.lantern with cluPend := some pendingStart } }

def seen (d : Device) (typ seq : Nat) : Device := { d with cluster := { d.cluster with seen := [(typ, seq)] } }

/-- The master runs a cluster task in state `st`. -/
def masterRun (st : TaskState) (r : Run) : Device :=
  let d := memberDev masterMember 2 1
  { d with
    belfry := { d.belfry with gcyc := 10 }
    lantern := { d.lantern with run := some { r with cluster := true }, tasks := [slotTask 0 st] } }

theorem witness_cluster_starts :
    (startingMember true).cluster.member = some childMember ∧ (startingMember true).pinsTaken = false ∧
    (startingMember true).belfry.cdone = true ∧ (startingMember true).lantern.run = none ∧
    (startingMember false).belfry.cdone = false ∧ (0x13, 65535) ∈ (seen (startingMember true) 0x13 65535).cluster.seen ∧
    (0x13, 65535) ∉ (startingMember true).cluster.seen ∧ (startingMember true).isMaster = false ∧ (startingMember true).power = 0 ∧
    pendingStart.start ≤ (startingMember true).now ∧ (startingMember false).startReason 1 0 49151 false = some 1 ∧
    (startingMember true).startReason 1 0 49151 false = none ∧ pendingStart.ctx < 49152 ∧
    (∀ e ∈ (startingMember true).streams.threads, e.1 < 1024) ∧ (memberDev childMember 2 1).isUpLink 63 = true ∧
    (memberDev childMember 2 1).isUpLink 62 = false ∧ (masterRun .starting (runOf 0 7)).isUpLink 63 = false ∧
    (masterRun .starting (runOf 0 7)).isMaster = true ∧ (slotTask 0 .starting).state = .starting ∧
    (masterRun .starting (runOf 0 7)).cluster.abortFrom = none ∧ 0 < masterMember.membersM1 := by decide +kernel

theorem test_cluster_starts :
    (after (memberDev childMember 2 1) (.cluStart 62 100 1 0 7 false 65535)).links.ctrl =
      [{ link := 63, typ := 0x13, words := [100, 1, 0, 7, 0, 65535] }] ∧
    (after (startingMember false) (.startReadiness [])).controls = [{ link := 63, typ := 0x17, words := [3, 1] }] ∧
    (after (masterRun .starting (runOf 0 7)) (.cluNoStart 63 3 5)).cluster.abortFrom = some 10 := by decide +kernel

def okReport : ReportUnit := { status := 8, mx := 0, vx := 0, cause := 0, bad := 0, firstBad := none, cover := 1 }
def decidedRun : Run := { runOf 0 7 with decided := some 8 }

/-- The child's end of a cluster task that completed at gcyc 0. -/
def childRun (r : Run) : Device :=
  let d := memberDev childMember 2 1
  { d with
    belfry := { d.belfry with gcyc := 6 }
    lantern := { d.lantern with run := some { r with cluster := true }, tasks := [{ slotTask 0 .completing with remote := true }] } }

def aloneMaster (r : Run) (st : TaskState) (g : Nat) (abort : Option Nat) : Device :=
  let d := memberDev { masterMember with down := 0, children := [] } 2 1
  { d with
    belfry := { d.belfry with gcyc := g }
    cluster := { d.cluster with abortFrom := abort }
    lantern := { d.lantern with run := some { r with cluster := true }, tasks := [slotTask 0 st] } }

theorem witness_cluster_ends :
    (masterRun .completing (runOf 0 7)).lantern.run = some { runOf 0 7 with cluster := true } ∧
    (slotTask 0 .completing).state = .completing ∧ (0x14, 65535) ∈ (seen (memberDev childMember 2 1) 0x14 65535).cluster.seen ∧
    (memberDev childMember 2 1).lantern.cluPend = none ∧ (memberDev childMember 2 1).cluster.reported = false ∧
    (runOf 0 7).aborted = false ∧ decidedRun.decided = some 8 ∧ childMember.children = [] ∧
    0 + 1 + childMember.reportOff ≤ (childRun decidedRun).now ∧ (childRun decidedRun).isMaster = false ∧
    (aloneMaster decidedRun .completing 1 none).isMaster = true ∧ decidedRun.queues = [] ∧
    0 + 1 + fld (wd decidedRun.header 2) 32 16 ≤ (aloneMaster decidedRun .completing 1 none).now ∧
    (0x15, 65535) ∉ (childRun decidedRun).cluster.seen ∧ ((childRun decidedRun).task 0).map (·.remote) = some true ∧
    (aloneMaster (runOf 0 7) .running 10000 (some 0)).cluster.abortFrom = some 0 ∧
    (aloneMaster (runOf 0 7) .running 10000 (some 0)).lantern.tasks = [slotTask 0 .running] ∧
    0 + 10000 ≤ (aloneMaster (runOf 0 7) .running 10000 (some 0)).now := by decide +kernel

theorem test_cluster_ends :
    (after (masterRun .completing (runOf 0 7)) (.cluAbortReq 63 3 7)).controls = [{ link := 63, typ := 0x14, words := [7, 0] }] ∧
    (memberDev childMember 2 1).netRuns = true ∧ (startingMember false).netRuns = true ∧ (childRun decidedRun).netRuns = true ∧
    (after (memberDev childMember 2 1) (.cluAbort 63 7 65535)).controls.filter (fun u => u.typ == 0x16) =
      [{ link := 63, typ := 0x16, words := [0xA, 0, 0, 0, 1, 3, 1, 1] }] ∧
    (after (childRun decidedRun) .reportSend).cluster.reported = true ∧
    (after (masterRun .completing (runOf 0 7)) (.cluReport 63 okReport)).cluster.reports = [(63, okReport)] ∧
    (after (childRun decidedRun) (.cluFinal 63 8 65535)).lantern.save = some { ctx := 7, bank := 0, done := 21 } ∧
    (after (aloneMaster decidedRun .completing 1 none) (.reportDeadline [])).lantern.save.isSome = true ∧
    (after (aloneMaster (runOf 0 7) .running 10000 (some 0)) .clusterAbortTimeout).lantern.run = none := by decide +kernel

/-! ### Witnesses: configuration -/

def headerCrc (ws : List Word) (n : Nat) : List Byte :=
  let b := wordsBytes ws
  b.take n ++ natBytes 4 (crc32c (b.take n)).toNat ++ b.drop (n + 4)

/-- A bitstream header of a load kind with `len` body bytes. -/
def loadHeader (kind planes len blocks : Nat) : List Byte :=
  headerCrc ([mkWord [(0, 0x5342524B), (32, 1)], mkWord [(0, 0xA5), (16, 0x9560), (32, 15), (40, kind), (44, planes)], 0, 0,
    mkWord [(0, len)], mkWord [(0, blocks)]] ++ List.replicate 10 0) 124

def portLoad (phase : LoadPhase) (header buf : List Byte) : Load :=
  { src := 2, phase := phase, before := 4, addr := 0, len := 0, header := header, buf := buf, asked := 0, reading := none,
    waitFrom := 0, block := 0, trailers := [], body := [], done := 0, faddr := 0, past := false, frame := none, history := [],
    frames := 0, openSlot := none, openRegion := none, headerIn := false, slotHeld := false }

def loading (d : Device) (l : Load) : Device := { d with load := some l }

def fullHeader : List Byte := loadHeader 1 7 16 1

theorem witness_loads_start :
    fld (0x20000000 : BitVec 32) 28 2 = 2 ∧ fresh.cfgState ≠ 7 ∧ fresh.regF Reg.kepStatus 28 4 ≠ 4 ∧ fresh.load = none ∧
    (loading fresh (portLoad .header [] [])).regBit Reg.cfgErr 63 = false ∧ (portLoad .header [] []).phase ≠ .refused ∧
    { portLoad .header [] [] with src := 0 }.src ≠ 2 ∧ (List.replicate 127 (0 : Byte)).length < 128 ∧
    128 ≤ (List.replicate 128 (0 : Byte)).length ∧ fresh.headerCode (List.replicate 128 0) = some 1 ∧
    fullHeader.length = 128 ∧ (holding fresh).lantern.run = some (runOf 0 7) ∧ (portLoad .held fullHeader []).kind = 1 ∧
    (after fresh (.cfgStart 0x20000000)).load.map (·.phase) = some .header ∧
    (after (loading fresh (portLoad .header [] (List.replicate 128 0))) .bitstreamHeader).regF Reg.cfgErr 48 8 = 1 ∧
    (after (loading fresh (portLoad .header [] [])) (.cfgAbort 0)).regF Reg.cfgErr 48 8 = 0x16 := by decide +kernel

theorem witness_header_accepted :
    fresh.headerCode (fullHeader.take 128) = none ∧ fld (wordAt fullHeader 1) 40 4 ≤ 2 ∧
    (after (loading (holding fresh) (portLoad .header [] fullHeader)) .bitstreamHeader).cfgState = 1 := by decide +kernel

def bodyOf (op plen : Nat) (a : Word) (rest : List Byte) : List Byte :=
  wordsBytes [mkWord [(0, op), (32, plen)], a] ++ rest

/-- A load of kind `k` whose next packet is `op`. -/
def packetLoad (k op plen : Nat) (a : Word) (rest : List Byte) : Load :=
  { portLoad .body (loadHeader k 1 1000000 16) [] with body := bodyOf op plen a rest }

def blockLoad (good : Bool) : Load :=
  portLoad .body (loadHeader 3 1 16 1)
    (List.replicate 16 0 ++ natBytes 4 ((crc32c (List.replicate 16 0)).toNat + (if good then 0 else 1)) ++ List.replicate 12 0)

theorem witness_blocks :
    (blockLoad true).blockLen 0 = 16 ∧ (blockLoad true).block < (blockLoad true).blocks ∧ 16 + 16 ≤ (blockLoad true).buf.length ∧
    bit (wordAt (blockLoad true).header 1) 48 = false ∧
    ((blockLoad true).buf.drop 16).take 16 =
      natBytes 4 (crc32c ((blockLoad true).buf.take 16)).toNat ++ List.replicate 12 0 ∧
    ((blockLoad false).buf.drop 16).take 16 ≠
      natBytes 4 (crc32c ((blockLoad false).buf.take 16)).toNat ++ List.replicate 12 0 ∧
    0 + 16 ≤ (blockLoad true).bodyLen ∧ (blockLoad true).kind = 3 ∧
    { blockLoad true with body := List.replicate 16 0 }.packetBad = false ∧ (portLoad .body [] []).block ≥ (portLoad .body [] []).blocks ∧
    (after (loading fresh (blockLoad true)) .cfgBlock).load.map (·.body) = some (List.replicate 16 0) ∧
    (after (loading fresh (blockLoad false)) .cfgBlock).regF Reg.cfgErr 48 8 = 0x10 := by decide +kernel

def frameLoad : Load := { packetLoad 3 2 1024 0 (List.replicate 1024 5) with openRegion := some 0 }
def repLoad : Load := { packetLoad 3 3 0 7 [] with openRegion := some 0, frame := some (List.replicate 1024 5) }

theorem witness_packets :
    ((loading fresh (packetLoad 3 0 0 0 [])).packet 0 = some (packetLoad 3 0 0 0 [])) ∧
    (packetLoad 3 0 0 0 []).body.length < (packetLoad 3 0 0 0 []).plen + 32 ∧
    (packetLoad 3 0 0 0 []).done + (packetLoad 3 0 0 0 []).plen + 32 ≤ (packetLoad 3 0 0 0 []).bodyLen ∧
    (loading fresh (packetLoad 3 1 0 9 [])).packet 1 = some (packetLoad 3 1 0 9 []) ∧ frameIndex 9 = some 9 ∧
    (loading fresh (packetLoad 3 1 0 0xC000000000 [])).packet 1 = some (packetLoad 3 1 0 0xC000000000 []) ∧
    frameIndex 0xC000000000 = none ∧ (loading fresh frameLoad).packet 2 = some frameLoad ∧ bit frameLoad.p0 8 = false ∧
    frameLoad.plen = 1024 ∧ frameLoad.past = false ∧ (loading fresh frameLoad).frameAllowed frameLoad 0 = true ∧
    (loading fresh repLoad).packet 3 = some repLoad ∧ (List.replicate 1024 (5 : Byte)).length = 1024 ∧ fld repLoad.p1 40 16 = 0 ∧
    (loading fresh (packetLoad 1 4 0 0x3F [])).packet 4 = some (packetLoad 1 4 0 0x3F []) ∧
    (after (loading fresh (packetLoad 3 1 0 9 [])) .cfgSetAddr).load.map (·.faddr) = some 9 ∧
    (after (loading fresh (packetLoad 3 1 0 0xC000000000 [])) .cfgSetAddr).regF Reg.cfgErr 48 8 = 0x12 ∧
    (after (loading fresh frameLoad) .cfgFrames).load.map (·.faddr) = some 1 ∧
    (after (loading fresh repLoad) .cfgReplicate).reg Reg.cfgFrameCnt = 1 ∧
    (after (loading fresh (packetLoad 1 4 0 0x3F [])) .cfgStartupPacket).reg Reg.cfgStartup = 0x3F := by decide +kernel

/-- Slot 1 with a correct header and an END step in its allocation, frames 2 of the schedule store. -/
def goodSlot : Device :=
  let h := headerCrc [0, mkWord [(0, 20)], mkWord [(0, 0x80)], 0, 0, 0, 0, 0] 60
  { fresh with cfgMem := memWrite (memWrite (memWrite [] (scheduleBase + 1024) h)
      (scheduleBase + 1024 + 64) (natBytes 4 (2 + 65536))) (scheduleBase + 16 * 0x80) (natBytes 8 (mkWord [(40, 15), (0, 20)]).toNat) }

theorem witness_slots :
    (loading fresh (packetLoad 4 5 0 1023 [])).packet 5 = some (packetLoad 4 5 0 1023 []) ∧ fld (packetLoad 4 5 0 1023 []).p1 0 10 = 1023 ∧
    (packetLoad 4 5 0 1023 []).body.length < 32 ∧ (packetLoad 4 5 0 1023 []).plen = 0 ∧ fresh.lantern.run = none ∧
    (holding fresh).lantern.run = some (runOf 0 7) ∧ (runOf 0 7).slot = fld (packetLoad 4 5 0 1 []).p1 0 10 ∧
    (loading fresh { packetLoad 4 6 0 1 [] with openSlot := some 1 }).packet 6 = some { packetLoad 4 6 0 1 [] with openSlot := some 1 } ∧
    fresh.slotEmpty 1 = true ∧ (after (loading fresh (packetLoad 4 5 0 1023 [])) .slotBegin).lantern.rewriting = [1023] := by
  decide +kernel

theorem witness_slot_checks :
    goodSlot.slotEmpty 1 = false ∧ goodSlot.slotCode 1 goodSlot.validSlots = none ∧ (slotOne [1]).slotEmpty 1 = false ∧
    (slotOne [1]).slotCode 1 (slotOne [1]).validSlots = some 0x30 ∧
    (after (loading goodSlot { packetLoad 4 6 0 1 [] with openSlot := some 1 }) .slotEnd).slotValid 1 = true := by decide +kernel

def endLoad (n : Nat) : Load := { packetLoad 3 15 0 5 [] with done := 1000000 - 16, frames := n }

theorem witness_regions_and_end :
    (loading fresh (packetLoad 3 7 0 47 [])).packet 7 = some (packetLoad 3 7 0 47 []) ∧ fld (packetLoad 3 7 0 47 []).p1 0 10 = 47 ∧
    (loading fresh { packetLoad 3 8 0 47 [] with openRegion := some 47 }).packet 8 =
      some { packetLoad 3 8 0 47 [] with openRegion := some 47 } ∧
    (loading fresh (endLoad 4)).packet 15 = some (endLoad 4) ∧ (endLoad 4).openSlot = none ∧
    fld (endLoad 4).p1 0 40 ≠ (endLoad 4).frames ∧
    fld (endLoad 4).p1 0 40 = (endLoad 5).frames ∧
    (loading fresh (endLoad 5)).packet 15 = some (endLoad 5) ∧
    (portLoad .header [] []).need ≠ 0 ∧ 0 + 1000 * (withRegs fresh [(Reg.cfgCtl, 0)]).regF Reg.cfgCtl 0 24 ≤ fresh.now ∧
    (after (loading fresh (endLoad 4)) .endPacket).regF Reg.cfgErr 48 8 = 0x14 ∧
    (after (loading (withRegs fresh [(Reg.cfgCtl, 0)]) (portLoad .header [] [])) .idleLimitExpiry).regF Reg.cfgErr 48 8 = 0x15 := by
  decide +kernel

def stageLoad (l : List Nat) : Load := portLoad (.stages l) (loadHeader 1 7 16 1) []
def startupOff : Device := withRegs fresh [(Reg.cfgStartup, 0)]

theorem witness_startup :
    (portLoad .lock fullHeader []).phase = .lock ∧ (portLoad .lock fullHeader []).kind = 1 ∧
    0 + 100000 * startupOff.regF Reg.cfgStartup 24 8 ≤ startupOff.now ∧ fresh.lantern.tasks = [] ∧
    startupOff.regBit Reg.cfgErr 63 = false ∧ 0 + 20 * startupOff.regF Reg.cfgStartup 8 8 ≤ startupOff.now ∧
    (withRegs fresh [(Reg.cfgStartup, mkWord [(16, 1)])]).regBit Reg.cfgStartup 16 = true ∧ startupOff.belfry.cdone = false ∧
    startupOff.regBit Reg.cfgStartup 16 = false ∧ (stageLoad []).kind = 1 ∧ (stageLoad []).openSlot = none ∧
    fresh.pinsTaken = false ∧ { fresh.belfry with cdoneLow := false }.cdoneLow = false ∧ fresh.belfry.cdoneLow = true ∧
    bit (mkWord [(63, 1)]) 63 = true ∧ fresh.regBit Reg.cfgStatus 7 = false ∧ bit fresh.keep.fuses.policy 2 = false ∧
    (withRegs fresh [(Reg.cfgRbStatus, 1)]).regBit Reg.cfgRbStatus 0 = true ∧ fresh.regBit Reg.cfgRbStatus 0 = false ∧
    frameIndex (BitVec.ofNat 40 (fresh.regF Reg.cfgRbAddr 0 40)) = some 0 ∧
    (after (loading startupOff (stageLoad [2, 3])) .wrEn).load.map (·.phase) = some (.stages [3]) ∧
    (after (loading startupOff (stageLoad [3])) .rstRel).maintCfg = false ∧
    (after (loading startupOff (stageLoad [])) .cdoneStage).cfgState = 4 ∧
    (after fresh (.readback (mkWord [(63, 1)]))).reg Reg.cfgRbStatus = 1 := by decide +kernel

/-! ### Witnesses: the Keep, the supply and the power states -/

/-- The Keep in phase `ph`, with `k` stored. -/
def keepDev (ph : Nat) (k : Keep) : Device :=
  { withRegs fresh [(Reg.kepStatus, mkWord [(28, ph)]), (Reg.kepMbStatus, 0)] with keep := k }

def withFuses (f : Fuses → Fuses) : Keep := { fresh.keep with fuses := f fresh.keep.fuses }

theorem witness_keep_answers :
    (keepDev 2 fresh.keep).alive = true ∧ (keepDev 2 fresh.keep).keepPhase = 2 ∧ fresh.keep.job = none ∧
    fresh.keep.fuses.copyA.svn.length = 4 ∧ fresh.keep.fuses.copyB.svn.length = 4 ∧ imageSvn (fresh.keep.image 1 false) ≤ 64 ∧ bit fresh.keep.unproved 0 = false ∧
    bit ({ fresh.keep with unproved := 1 } : Keep).unproved 0 = true ∧
    (withFuses ({ · with udsValid := false })).fuses.udsValid = false ∧
    (withFuses ({ · with udsValid := true })).fuses.udsValid = true ∧
    bit (withFuses (·.blow ({ · with policy := 0x28 }))).fuses.policy 3 = true ∧ bit fresh.keep.fuses.policy 3 = false ∧
    bit (withFuses (·.blow ({ · with policy := 0x28 }))).fuses.policy 5 = true ∧ bit fresh.keep.fuses.policy 5 = false ∧
    (withFuses (·.blow ({ · with keySet := true }))).fuses.keySet = true ∧ fresh.keep.fuses.keySet = false ∧
    (after (keepDev 2 fresh.keep) (.getInfo 1 .mailbox)).regF Reg.kepMbStatus 8 8 = 2 ∧
    (after (keepDev 2 fresh.keep) (.commitSvn 5 .mailbox)).regF Reg.kepMbStatus 8 8 = 2 ∧
    (after (keepDev 2 { fresh.keep with unproved := 1 }) (.commitSvn 1 .mailbox)).regF Reg.kepMbStatus 8 8 = 0x0B := by
  decide +kernel

theorem witness_keep_fuses :
    (after (keepDev 2 (withFuses (·.blow ({ · with policy := 0x28 })))) (.fuseProgram 0 .mailbox)).regF Reg.kepMbStatus 8 8 = 0x0D ∧
    (after (keepDev 2 (withFuses (·.blow ({ · with keySet := true })))) (.fuseProgram 0 .mailbox)).regF Reg.kepMbStatus 8 8 = 0x0E ∧
    (after (withRegs (keepDev 2 fresh.keep) [(Reg.kepMbData 0, 4)]) (.fuseProgram 1 .mailbox)).keep.fuses.policy =
      fresh.keep.fuses.policy ||| 4 ∧
    (after (keepDev 2 { fresh.keep with bbram := some 5 }) (.bbramZeroise 0 .mailbox)).keep.bbram = none ∧
    (after (keepDev 2 fresh.keep) (.bbramWrite 0 .mailbox)).keep.bbram.isSome = true := by decide +kernel

def updating : Device :=
  keepDev 2 { fresh.keep with card := some [], job := some { port := .mailbox, type := 4, entry := 0, env := ⟨none, none⟩ } }

/-- The Keep restarted with a record whose type `MGMT` is on trial. -/
def onTrial (ph : Nat) : Device :=
  let r := makeRecord 42 4 4 0
  let d := keepDev ph { fresh.keep with records := [r, r, r] }
  { d with belfry := { d.belfry with gcyc := 100000000 } }

theorem witness_keep_updates :
    1 ≤ fld (0x704 : BitVec 32) 0 8 ∧ fld (0x704 : BitVec 32) 0 8 ≤ 4 ∧ fld (0x704 : BitVec 32) 8 24 ≤ 7 ∧
    fld (0 : BitVec 32) 0 8 = 0 ∧ 5 ≤ fld (5 : BitVec 32) 0 8 ∧ 8 ≤ fld (0x801 : BitVec 32) 8 24 ∧
    updating.keep.job.isSome = true ∧ (loading fresh (portLoad .header [] [])).load.isSome = true ∧ fresh.load = none ∧
    bit (8 : BitVec 32) 3 = true ∧ (fresh.keep.slot 4 true).staged = false ∧
    ((fresh.keep.setSlot 4 true { image := none, staged := true }).slot 4 true).staged = true ∧
    (after (keepDev 2 fresh.keep) (.keepUpdate 5 .mailbox ⟨none, none⟩)).regF Reg.kepMbStatus 8 8 = 2 ∧
    (after updating .cardRemoval).regF Reg.kepMbStatus 8 8 = 3 ∧ (after updating .cardRemoval).keep.job = none ∧
    (after (keepDev 2 fresh.keep) (.keepActivate 8 .mailbox)).regF Reg.kepMbStatus 8 8 = 0x0B ∧
    (after (keepDev 2 (fresh.keep.setSlot 4 true { image := none, staged := true })) (.keepActivate 8 .mailbox)).keepPhase = 3 := by
  decide +kernel

theorem witness_keep_boots :
    (keepDev 4 fresh.keep).keepPhase = 4 ∧ (keepDev 3 fresh.keep).keepPhase = 3 ∧ fresh.keep.reverting = false ∧
    ({ fresh.keep with records := [] } : Keep).candidates = [] ∧ (keepDev 1 fresh.keep).keepPhase = 1 ∧
    recordTrial (onTrial 1).keep.record = 4 ∧ (onTrial 1).keep.restartAt = 0 ∧ (onTrial 1).now = 100000000 ∧
    ({ fresh.keep with cfgBefore := some 4 } : Keep).cfgBefore = some 4 ∧
    (after (keepDev 3 { fresh.keep with records := [] }) .keepRestart).keepPhase = 4 ∧
    (after (keepDev 1 fresh.keep) .mgmtReady).keepPhase = 2 ∧ (after (onTrial 1) .trialWatchdog).keepPhase = 3 ∧
    (after (onTrial 1) .trialWatchdog).keep.reverting = true ∧
    (after (keepDev 2 fresh.keep) (.cardInsertion [])).regBit Reg.kepStatus 8 = true := by decide +kernel

def pinned : Device := { fresh with tap := { fresh.tap with ir := 0x00 } }

def supply (r : Rail) (counting inReset trip : Bool) : Device :=
  { fresh with belfry := { fresh.belfry with rail := r, counting := counting, inReset := inReset, thermTrip := trip } }

theorem witness_supply :
    (supply .off false false false).belfry.rail = .off ∧ (supply .off false false true).belfry.thermTrip = true ∧
    (supply .ramp false false false).belfry.refclk = true ∧ (supply .standby false false false).belfry.counting = false ∧
    (supply .standby true false false).belfry.counting = true ∧ (supply .up true true false).belfry.inReset = true ∧
    fresh.belfryRuns = true ∧ fresh.belfry.refclk = true ∧ fresh.hbm.pcs = [] ∧ fresh.pinsTaken = false ∧ pinned.pinsTaken = true ∧
    (after (supply .off false false false) .powerUp).belfry.rail = .ramp ∧
    (after (supply .off false false true) .powerUp).belfry.rail = .off ∧
    (after (supply .ramp false false false) (.standbyRailGood true false 7)).belfry.rail = .standby ∧
    (after (supply .standby false false false) .referencePllLock).belfry.counting = true ∧
    (after (supply .standby true false false) .pwrgdHigh).belfry.rail = .up ∧
    (after fresh (.inputTurnOff .removed)).alive = false ∧ (after fresh .mrstNAssert).alive = false ∧
    (after (supply .up true true false) .mrstNRelease).alive = true := by decide +kernel

theorem witness_telemetry :
    (∀ k < 8, fld (0x6464646464646464 : Word) (8 * k) 8 < 115) ∧ (∃ k < 8, 105 ≤ fld (0x69 : Word) (8 * k) 8) ∧
    (∃ k < 8, 115 ≤ fld (0x73 : Word) (8 * k) 8) ∧ fresh.regBit Reg.pwrStatus 8 = false ∧
    (after fresh (.telemetrySample 48000 10000 0x6464646464646464 0)).regBit Reg.pwrStatus 8 = true ∧
    (after fresh (.telemetrySample 48000 10000 0x6363636363636363 0)).regBit Reg.pwrStatus 8 = false ∧
    (after fresh (.telemetrySample 48000 10000 0x73 0)).belfry.rail = .off ∧
    (after fresh .refclkLoss).regBit Reg.pwrStatus 15 = true ∧ (after fresh (.pwrCtlHold true)).regBit Reg.pwrAlert 0 = true := by
  decide +kernel

/-- The module in power state `p`, with the wake `w`. -/
def powered (p : Nat) (w : Option Wake) : Device :=
  let d := withRegs fresh [(Reg.pwrStatus, mkWord [(0, p)]), (Reg.pwrIdle, mkWord [(0, 5), (32, 1)])]
  { d with belfry := { d.belfry with wake := w, idleFrom := some 0, gcyc := 5000 } }

theorem witness_power_states :
    (powered 0 none).power ≠ 3 ∧ (powered 0 none).power ≠ 5 ∧
    (withRegs fresh [(Reg.pwrStatus, mkWord [(13, 1)])]).regBit Reg.pwrStatus 13 = true ∧ fresh.lantern.tasks = [] ∧
    fresh.lantern.run = none ∧ fresh.load = none ∧ (powered 4 none).power = 4 ∧ (powered 5 none).power = 5 ∧
    (powered 0 none).lantern.evals = [] ∧ (∀ e ∈ (powered 4 none).hbm.pcs, e.2.input = []) ∧
    (powered 4 none).belfry.wake = none ∧ (powered 2 none).power = 2 ∧ (powered 3 none).power = 3 ∧ (powered 1 none).power ≤ 1 ∧ fresh.belfry.wake = none ∧
    (powered 6 (some ⟨false, some 5000, false⟩)).now = 5000 ∧ fresh.regBit (Reg.hbcStatus 0) 8 = false ∧
    (withRegs (powered 6 (some ⟨true, some 5000, false⟩)) [(Reg.hbcStatus 0, mkWord [(8, 1)])]).regBit (Reg.hbcStatus 0) 8 = true ∧
    (powered 0 none).idleSince = some 0 ∧ (powered 0 none).regF Reg.pwrIdle 0 32 = 5 ∧
    0 + 5 + 1000 * (powered 1 none).regF Reg.pwrIdle 32 32 ≤ (powered 1 none).now ∧
    (after (withRegs fresh [(Reg.pwrStatus, mkWord [(13, 1)])]) .standbyEntry).power = 5 ∧
    (after (powered 4 none) .coldEntryComplete).power = 2 ∧ (after (powered 5 none) .standbyEntryComplete).power = 3 ∧
    (after (powered 2 none) .pwrCtlWake).power = 6 ∧ (after (powered 3 none) .smbusWake).power = 6 ∧
    (after (powered 6 (some ⟨false, some 5000, false⟩)) .wakeComplete).power = 1 ∧
    (after (powered 0 none) .idleTimerWarm).power = 1 ∧ (after (powered 1 none) .idleTimerCold).power = 4 ∧
    (after fresh (.hbmTemperatureReading 11 95)).regBit Reg.pwrStatus 9 = true := by decide +kernel

/-! ### Witnesses: maintenance, the TAP, the fabric, registers -/

/-- Configured, no Spire in MAINT. -/
def configured : Device := { fresh with maintCfg := false }

/-- Every Spire in MAINT, as a load of the Dome plane leaves them. -/
def maintDev : Device := { fresh with maintCfg := true }

theorem witness_maintenance :
    maintDev.spireMaint 4095 = true ∧ configured.spireMaint 4095 = false ∧ configured.domeHeld = false ∧
    { configured with lantern := { configured.lantern with
      run := some { runOf 0 7 with start := some 0 } } }.domeHeld = true ∧
    (withRegs configured [(Reg.sprVxCtl 4095, mkWord [(31, 1)])]).regBit (Reg.sprVxCtl 4095) 31 = true ∧
    bit (0x80000001 : BitVec 32) 31 = true ∧ initAssigned (fld (0x80000001 : BitVec 32) 0 8) = true ∧
    initAssigned 0xFF = false ∧ (maintDev.vx 4095).prog = none ∧ 4 * maintDev.now ≤ maintDev.dome.clock ∧
    (after fresh (.errInj 0x80000001)).regBit Reg.errInj 31 = true ∧
    (after configured (.maintReq 4095 true)).regBit (Reg.sprVxStatus 4095) 16 = true ∧
    (after maintDev (.rckInjArm 4095 31 30)).regF (Reg.sprRckInj 4095) 5 5 = 31 ∧
    ((after maintDev (.sprVxCtlStart 4095 2047)).vx 4095).prog.map (·.pc) = some 2047 ∧
    ((after configured (.sprVxCtlStart 4095 2047)).vx 4095).prog = none := by decide +kernel

def tapIr (op : BitVec 8) (d : Device) : Device := { d with tap := { d.tap with ir := op } }

theorem witness_tap_scans :
    (tapIr 0 fresh).pinsTaken = true ∧ fresh.pinsTaken = false ∧ fresh.belfry.rail = .up ∧ fresh.belfryRuns = true ∧
    fresh.tap.bist = none ∧ (after fresh .tapBypass).tap.ir = 0xFF ∧
    (after (tapIr 0 fresh) (.tapExtest (some (5, 9)))).tap.cells = 9 ∧
    (after (tapIr 0 fresh) (.tapExtest (some (5, 9)))).out = [.tdo 8 1, .tdo 1016 5] := by decide +kernel

theorem witness_cfg_access :
    (tapIr 0x20 fresh).tap.ir = 0x20 ∧ (tapIr 0x21 fresh).tap.ir = 0x21 ∧ (1 : BitVec 26).toNat % 2 = 1 ∧
    (fld (0 : BitVec 26) 0 26) % 2 = 0 ∧ popRegister 0 = false ∧ inWindow 0 = false ∧ pairedRegs 0 = false ∧
    ((fresh.vx 4095).d.length = 8) ∧ ((fresh.vx 4095).dreg 3).lanes.length = 32 ∧ fresh.cfgState ≠ 7 ∧
    fresh.regF Reg.kepStatus 28 4 ≠ 4 ∧
    (after (tapIr 0x20 fresh) (.cfgAccessRead false true 1 .clean)).tap.result = deniedResult ∧
    (after (tapIr 0x20 configured) (.cfgAccessWrite false false 0x7FFE7F 7)).tap.selected = [4095] ∧
    ((after (tapIr 0x20 maintDev) (.cfgAccessWrite false false 0x7FFE7F 7)).vx 4095).dreg 3 =
      { DReg.initial with lanes := List.replicate 31 0 ++ [7] } ∧
    (after (tapIr 0x20 fresh) (.cfgAccessPort false 3 0x5342524B)).load.map (·.buf) = some [0x4B, 0x52, 0x42, 0x53] := by
  decide +kernel

theorem witness_cfg_access_address :
    4 * (0x7FFE7F : BitVec 26).toNat = 0x1000000 + 0x1000 * 4095 + 0x800 + 0x80 * 3 + 4 * 31 := by decide

theorem witness_bist :
    fresh.bistRefused = false ∧ (loading fresh (portLoad .header [] [])).bistRefused = true ∧
    (after (tapIr 0x21 (loading fresh (portLoad .header [] []))) (.bistStart true 0x1FF)).reg Reg.dbgBistStatus = 4 ∧
    (after (tapIr 0x21 fresh) (.bistStart true 0x108)).tap.bist = some 0x108 ∧
    (after (after (tapIr 0x21 fresh) (.bistStart true 0x108)) (.bistComplete 0x1FF 5)).reg Reg.dbgBistStatus =
      mkWord [(32, 5), (3, 0x108), (1, 1)] := by decide +kernel

/-- Every region of the fabric runs and may be written. -/
def fabricUp : Device :=
  { withRegs fresh [(Reg.cfgStatus, mkWord [(0, 4)]), (Reg.cfgFabPllStatus, 0x800000),
      (Reg.cfgFabLaneStatus 15, mkWord [(7, 1), (5, 1)]), (Reg.cfgFabApStatus, mkWord [(63, 1)])] with
    fabric := { fresh.fabric with running := BitVec.allOnes 48, writeEn := BitVec.allOnes 48 } }

def lineAt (x : DelayLine) : Device := { fabricUp with fabric := { fabricUp.fabric with delays := [(191, some x)] } }
def afterWords (good bad lock : Nat) : Device :=
  { withRegs fabricUp [(Reg.cfgFabLaneStatus 15, mkWord [(7, 1), (5, 1), (3, lock)])] with
    fabric := { fabricUp.fabric with codewords := [(15, (good, bad))] } }

theorem witness_fabric :
    bit fabricUp.fabric.running (767 / 16) = true ∧ bit fresh.fabric.running (767 / 16) = false ∧
    fabricUp.regBit Reg.cfgFabPllStatus 23 = true ∧ fresh.regBit Reg.cfgFabPllStatus 23 = false ∧ fabricUp.cfgState = 4 ∧
    ((lineAt ⟨511, none⟩).delayLine 191).at_ 0 = (511, false) ∧ ((lineAt ⟨0, none⟩).delayLine 191).at_ 0 = (0, false) ∧
    ((lineAt ⟨5, some (9, 0)⟩).delayLine 191).at_ 0 = (5, true) ∧
    (fabricUp.regBit (Reg.cfgFabLaneStatus 15) 7 = true) ∧ fabricUp.regBit (Reg.cfgFabLaneStatus 15) 5 = true ∧
    (afterWords 2 0 0).regBit (Reg.cfgFabLaneStatus 15) 3 = false ∧
    mapGet (0, 0) (afterWords 2 0 0).fabric.codewords 15 = (2, 0) ∧
    (afterWords 0 2 1).regBit (Reg.cfgFabLaneStatus 15) 3 = true ∧ fabricUp.regF (Reg.cfgFabLaneTest 15) 0 3 = 0 ∧
    bit fabricUp.fabric.writeEn (4607 / 96) = true ∧
    (after fabricUp (.pllLossOfLock 23)).reg Reg.cfgFabPllUnlockCnt = 1 ∧
    ((after (lineAt ⟨5, none⟩) (.delayStep 191 true)).delayLine 191).tap = 6 ∧
    (after (afterWords 2 0 0) (.fecCodewordReceive 15 (some 4) [])).regBit (Reg.cfgFabLaneStatus 15) 3 = true ∧
    (after (afterWords 0 2 1) (.fecCodewordReceive 15 none [])).regBit (Reg.cfgFabLaneStatus 15) 3 = false := by
  decide +kernel

def userTxn : Txn := { readTxn 0 .atTarget with target := .user 63 1048575, len := 1 }

theorem witness_access_points :
    fabricUp.apActive 63 = true ∧ fresh.apActive 63 = false ∧ fabricUp.apTarget 0x4000000000000140 0 = some (.host 0 320) ∧
    fabricUp.apTarget 0xC000000000000000 0 = none ∧ fabricUp.net.txns = [] ∧
    (0 : BitVec 32) ≠ lineCheck 0 ∧
    (∃ t ∈ [{ userTxn with purpose := .accessPoint 63 255 }], t.purpose = NetFor.accessPoint 63 255) ∧
    userTxn.target = .user 63 1048575 ∧ userTxn.phase = .atTarget ∧ userTxn.len = 1 ∧ userTxn.got = [] ∧
    (after fabricUp (.apRequest 63 (.rd 0x4000000000000140 4 255))).net.txns.map (·.len) = [4] ∧
    (after fabricUp (.apRequest 63 (.rd 0xC000000000000000 4 255))).reg Reg.cfgFabApRefuseCnt = 1 ∧
    (after { fabricUp with net := { fabricUp.net with txns := [userTxn], nextId := 6 } } (.apTargetResponse 63 7 false)).net.txns.map
      (·.phase) = [.responded] := by decide +kernel

theorem witness_register_writes :
    fresh.alive = true ∧ (63 : Fin 64) ≠ 0 ∧ 5 ≤ 511 ∧
    (after fresh (.registerWrite 0 Reg.pwrIdle ((natBytes 8 0x1122334455667788).map some))).reg Reg.pwrIdle = 0x1122334455667788 ∧
    (after fresh (.registerWrite 0 (Reg.pwrIdle + 4) ((natBytes 4 5).map some))).reg Reg.pwrIdle = 0x5_0000C350 ∧
    (after (withRegs fresh [(Reg.pwrAlert, 0x7F)]) (.registerWrite 0 Reg.pwrAlert ((natBytes 4 0x42).map some))).reg
      Reg.pwrAlert = 0x3D ∧
    ((after fresh (.registerWrite 63 0x10 ((natBytes 8 0x1BFFF).map some))).func 63).ctxSel = 0xBFFF := by decide +kernel

/-! ### Witnesses: the vector engines -/

def progOne : Prog := { id := 0, kind := .maint, op := 0, pc := 2046, issue := 8, faulted := false }

/-- Spire 4,095 about to issue word `w` at index 2,046 in dclk 8, with the VX state that `f` makes. -/
def vxDev (w : Word) (f : Vx → Vx) : Device :=
  ({ fresh with
    cfgMem := memWrite [] (progBase 4095 + 8 * 2046) (natBytes 8 w.toNat)
    belfry := { fresh.belfry with gcyc := 2 }
    dome := { fresh.dome with clock := 8 } }.mapVx 4095 (fun v => f { v with prog := some progOne })).mapSpire 4095 (fun s =>
      { s with drain := { s.drain with loaded := some 7 } })
def noEnv : VxEnv := { ecc := [], port := [] }

/-- A vector word with nothing but an operation. -/
def plainWord (o sa sb ds : Nat) : VxWord :=
  { opc := BitVec.ofNat 8 o, sa := BitVec.ofNat 4 sa, sb := BitVec.ofNat 4 sb, ds := BitVec.ofNat 4 ds, sh := 0, bkr := 0,
    mfmt := 12, mbk := 0, xdir := 0, xap := 0, xmode := 0, xreg := 15, ydir := 0, yap := 0, ymode := 0, yreg := 15, ck := 0,
    cap := 0, cmode := 0, cbk := 0 }

/-- The device is ready for the word, and nothing else is about to happen. -/
def quietBool (d : Device) : Bool :=
  d.alive && d.dome.dops.isEmpty && d.dome.starts.isEmpty && decide ((d.vx 4095).prog = some progOne) &&
    (d.vx 4095).pending.isEmpty && decide (d.dome.clock = 8) && decide (d.now = 2) && decide (d.wordFaults 4095 8 progOne = []) &&
    decide (d.vectorFaults 4095 (actsAt 8 (decodeVx (d.vxWord 4095 2046))) progOne (decodeVx (d.vxWord 4095 2046)) = []) &&
    (d.vx 4095).held.isNone &&
    (List.range 8).all (fun i => decide (((d.vx 4095).dreg i).lanes.length = 32)) &&
    (List.range 2).all (fun i => decide (((d.vx 4095).areg i).lanes.length = 32)) && decide ((d.vx 4095).d.length = 8) &&
    decide ((d.vx 4095).acc.length = 2)

/-- `u` is legal, no control word, and runs quietly. -/
def vectorRuns (u : VxWord) : Bool :=
  vectorLegal u && decide (decodeControl (encodeVx u) = none) && quietBool (vxDev (encodeVx u) id)

/-- One legal word of each operation (R140) runs quietly. -/
theorem witness_vx_d_results :
    [plainWord 0x10 0 15 7, plainWord 0x11 1 2 7, plainWord 0x12 1 2 7, plainWord 0x13 1 2 7, plainWord 0x14 1 2 7,
     plainWord 0x15 1 15 7, plainWord 0x16 1 15 7, plainWord 0x17 1 2 7, plainWord 0x18 9 15 7, plainWord 0x30 9 15 7,
     { plainWord 0x41 15 15 7 with mfmt := 6, xreg := 14 }].all vectorRuns = true := by decide +kernel

theorem witness_vx_acc_results :
    [plainWord 0x10 9 15 8, plainWord 0x10 0 15 9, plainWord 0x20 1 2 8, plainWord 0x21 1 2 8, plainWord 0x22 1 2 8,
     plainWord 0x23 1 15 8, plainWord 0x24 1 15 8, plainWord 0x25 1 15 8, plainWord 0x26 15 15 8, plainWord 0x27 1 15 8,
     plainWord 0x38 9 15 8, plainWord 0x39 9 15 8, plainWord 0x05 15 15 8,
     { plainWord 0x28 10 12 8 with xreg := 14, ydir := 1, yreg := 14, yap := 1, ck := 1 },
     { plainWord 0x10 10 15 9 with xreg := 14, mfmt := 14 }].all vectorRuns = true := by
  decide +kernel

theorem witness_vx_accesses :
    [plainWord 0x00 15 15 15, { plainWord 0x00 15 15 15 with xreg := 7, xmode := 1 },
     { plainWord 0x00 15 15 15 with yreg := 7, ydir := 1 }, { plainWord 0x00 15 15 15 with yreg := 9, ydir := 1, mfmt := 14 },
     { plainWord 0x00 15 15 15 with xreg := 8, mfmt := 14 },
     { plainWord 0x40 1 15 15 with mfmt := 4, xdir := 1, xreg := 14 },
     { plainWord 0x42 15 15 15 with mfmt := 5, xdir := 1, xreg := 14 }].all vectorRuns = true ∧
    (let d := vxDev (encodeVx { plainWord 0x42 15 15 15 with mfmt := 5, xdir := 1, xreg := 14 })
      (fun v => { v with packX := [some (7, false)] })
     quietBool d = true ∧ (d.vx 4095).pack 0 = [some (7, false)]) ∧
    ((vxDev 0 id).vx 4095).ap.length = 8 ∧
    wide { plainWord 0x00 15 15 15 with yreg := 9, ydir := 1, mfmt := 14 } = true := by decide +kernel

theorem witness_vx_control :
    decodeControl (encodeControl .halt) = some .halt ∧ quietBool (vxDev (encodeControl .halt) id) = true ∧
    vxLegal (encodeControl (.loop 3 0)) 2046 [] = true ∧ quietBool (vxDev (encodeControl (.loop 3 0)) id) = true ∧
    ((vxDev (encodeControl (.loop 3 0)) (fun v => { v with loops := List.replicate 4 ⟨2000, 2047, 1⟩ })).vx 4095).loops.length = 4 ∧
    vxLegal (encodeControl (.loop 3 0)) 2046 (List.replicate 4 ⟨2000, 2047, 1⟩) = true ∧
    quietBool (vxDev (encodeControl (.seta 2 7 0xFFF)) id) = true ∧
    quietBool (vxDev (encodeControl (.ldi 7 1 0x80 0x7FFFFF)) id) = true ∧ vxLegal 0xFF00000000000000 2046 [] = false ∧
    ((after (vxDev (encodeControl .halt) id) (.vxHalt 4095 noEnv)).vx 4095).prog = none ∧
    ((after (vxDev (encodeControl (.loop 3 0)) id) (.vxLoop 4095 noEnv)).vx 4095).loops = [⟨2047, 2047, 3⟩] ∧
    (after (vxDev 0xFF00000000000000 id) (.vxIllegalEncoding 4095 noEnv)).reg (Reg.sprVxFaultCnt 4095) = 1 := by decide +kernel

/-! ### Witnesses: the block as a whole -/

theorem witness_steps :
    fresh.belfry.counting = true ∧ (supply .off false false false).alive = false ∧ alwaysServed .mgmtReady = false ∧
    fresh.wf = true ∧ fld (0x69 : Word) (8 * 0) 8 = 105 ∧ (supply .off false false true).belfry.thermTrip = true ∧
    fresh.regBit Reg.sncStatCtl 0 = false ∧ latencyBin 15 = 0 ∧ latencyBin 16 = 1 ∧ latencyBin 262143 = 14 ∧
    latencyBin 262144 = 15 := by decide +kernel

theorem witness_steps_front :
    step { dev := fresh, pending := [.tapBypass, .powerUp] } = .next { dev := after fresh .tapBypass, pending := [.powerUp] } :=
  rfl

theorem witness_step_is_possible : ∃ s t : State, s.dev.wf = true ∧ step s = .next t :=
  ⟨{ dev := fresh, pending := [.tapBypass] }, _, by decide +kernel, rfl⟩

/-! ### Examples of the manual -/

/-- The example of R147: TAPM ACCA, X:(AP0)+, Y:(AP1)+, C:(AP2)+. -/
theorem test_vx_word :
    decodeVx 0x28AC800C01E93CA2 =
      { plainWord 0x28 10 12 8 with
        xmode := 1, xreg := 14, ydir := 1, yap := 1, ymode := 1, yreg := 14, ck := 1, cap := 2, cmode := 1 } ∧
    vectorLegal (decodeVx 0x28AC800C01E93CA2) = true := by decide +kernel

/-- The examples under R32: E4M3 0xB5 is -13 x 2^-4 and 0x05 is 5 x 2^-9. -/
theorem test_e4m3 : decodeElem 7 0xB5 = .fin (-13) (-4) ∧ decodeElem 7 0x05 = .fin 5 (-9) := by decide +kernel

/-- The example of the BF16 slices: 0xC1A5 is -165 x 2^-3, its slices -83 x 2^-2 and 8 x 2^-6. -/
theorem test_bf16_slices :
    decodeElem 9 0xC1A5 = .fin (-165) (-3) ∧ sliceVal 9 .high (.fin (-165) (-3)) = .fin (-83) (-2) ∧
    sliceVal 9 .low (.fin (-165) (-3)) = .fin 8 (-6) := by decide +kernel

/-- The group sum of the E4M3 example of R46: 29,357,056 with F = 9, with IX and UF. -/
theorem test_group_sum :
    (let a := [0x7E, 0x09, 0x3C].map (fun n => some (decodeElem 7 n))
     let b := [0x70, 0x05, 0xC8].map (fun n => some (decodeElem 7 n))
     let g := groupSum (products a b 0) false false
     g.sum = 29357056 ∧ g.exp = 9 ∧ g.flags = fIX ||| fUF ∧
       (cellAdd false 0 g.hold).1 = accWord (.fin 29357056 (-9))) := by decide +kernel

/-- The narrowings of R50's example: 259 becomes the BF16 0x4382, 257 becomes 0x4380, both with IX. -/
theorem test_narrow_bf16 :
    narrowElem 9 (accVal 0xA700000000000103) = (0x4382, fIX) ∧ narrowElem 9 (accVal 0xA700000000000101) = (0x4380, fIX) := by
  decide +kernel

/-- The narrowing example of R124: 2,908 x 2^-8 with SH = 2 is 45, with SH = 3 is 91. -/
theorem test_narrow_s24 :
    narrowElem 12 ((accVal 0x9F00000000000B5C).scale 2) = (45, fIX) ∧
    narrowElem 12 ((accVal 0x9F00000000000B5C).scale 3) = (91, fIX) := by decide +kernel

/-- The circular buffer of R120's example. -/
theorem test_circular :
    (let v : Vx := { Vx.initial with ab := [0, 0, 0, 0x100], al := [0, 0, 0, 24] }
     v.modified 3 4 [0, 0, 0, 0x114] = 0x100 ∧ v.modified 3 (-4) [0, 0, 0, 0x100] = 0x114) := by decide +kernel

/-- The residue example of R73 - R76. -/
theorem test_residues :
    residue (-27) = 1 ∧ ([20, 45, -12, -27].map residue) = [6, 3, 2, 1] ∧
    expected [[some (.fin 5 0)], [some (.fin (-3) 0)]] [[some (.fin 4 0)], [some (.fin 9 0)]] = 5 := by decide +kernel

def dopWords (shape a b cols k : Nat) : List Word :=
  [mkWord [(0, shape), (4, a), (8, b)], mkWord [(14, cols - 1), (32, k)], 0, 0, 0, 0, 0, 0]

/-- The timing example of R72: S8 by S8 with K = 4,096 in shape S0. -/
theorem test_dop_times :
    firstSlot 0 1234 = 39 ∧ lastProduct (dopWords 0 2 2 2048 4096) 0 1234 = 4134 ∧
    lastProduct (dopWords 0 2 2 2048 4096) 0 4095 = 4134 + 91 := by decide +kernel

/-- The bus span of the example under R97: S8 by BS4 with K = 1,024 in shape S6. -/
theorem test_dop_span : dopW (dopWords 6 2 4 131072 1024) = 16384 := by decide +kernel

/-- The descriptor example of R105. -/
theorem test_descriptor :
    (let e := [BitVec.ofNat 64 0x52422, mkWord [(32, 64)], 0, 0, 0, 0, 0, 0]
     dopShape e = 2 ∧ dopA e = 2 ∧ dopB e = 4 ∧ dopPhase e = 1 ∧ dopRamp e = 1 ∧ dopDest e = 0) := by decide +kernel

/-- The decode of the example of R258: H0, pc 10, unit 3,181,459; the next unit lies on H1, pc 10. -/
theorem test_hbm_map :
    fresh.hbmDecode 0x12345678C0 = some (pcUnits * 10 + 3181459, 0) ∧
    (fresh.hbmDecode 0x1234567900).map (·.1 / pcUnits) = some (32 + 10) := by decide +kernel

/-- The encoded bytes of the example of R416. -/
theorem test_expand :
    (expand 64 [0x02, 0xAA, 0xBB, 0xCC, 0x85, 0x02, 0x00, 0xFF, 0x00, 0x00] []).map List.length = some 141 ∧
    (expand 64 [0x02, 0xAA, 0xBB, 0xCC, 0x85, 0x02, 0x00] []).map List.reverse =
      some [0xAA, 0xBB, 0xCC, 0xAA, 0xBB, 0xCC, 0xAA, 0xBB, 0xCC, 0xAA, 0xBB] := by decide +kernel

/-- The alignment example of R344: the offset in 1/64 gcyc. -/
theorem test_theta :
    offset64 (64 * 2000000) (64 * 765462 + 44) (64 * 765500) (64 * 2000097 + 20) = -(64 * 1234567 + 20) := by decide +kernel

/-- The boot records of the example of R442: copies 0 and 1 of GEN 42 come before copy 2 of GEN 41. -/
theorem test_boot_records :
    (let a := makeRecord 42 4 4 0
     let b := makeRecord 41 0 0 0
     ({ fresh.keep with records := [a, a, b] } : Keep).candidates = [a, a, b] ∧
     ({ fresh.keep with records := [b, a, a] } : Keep).candidates = [a, a, b] ∧
     ({ fresh.keep with records := [b, a.set 12 0, a] } : Keep).candidates = [a, b]) := by decide +kernel

/-- The example of R492: a read of TUR_LINK_STATUS of link 19, whose result the next shift captures, and the loopback. -/
theorem test_cfg_access :
    (let d := tapIr 0x20 (withRegs fresh [(Reg.turLinkStatus 19, mkWord [(0, 5)])])
     let e := after (after d (.cfgAccessRead false true 0x208C02 .clean)) (.cfgAccessWrite false false 0x208C08 3)
     (e.regF (Reg.turLinkTest 19) 0 3 = 3) ∧ e.linkState 19 = 6 ∧
       (after (after d (.cfgAccessRead false true 0x208C02 .clean)) (.cfgAccessNop false)).out.getLast? =
         some (.tdo 96 (doneResult (mkWord [(0, 5)])).bits)) := by decide +kernel

/-- The check of a line of zeros (R17). -/
theorem test_zero_check : lineCheck 0 = zeroCheck := by decide +kernel

/-- The register offsets of the examples of R497 and R492. -/
theorem test_offsets : Reg.hifRingSeq 20 = 0x210520 ∧ Reg.turLinkStatus 19 = 0x823008 ∧ Reg.turLinkTest 19 = 0x823020 := by
  decide +kernel

/-- The example under R513: receive data lane 2 of link 19. -/
theorem test_pins : linkPins 19 7 = (592, 593) ∧ linkCell 19 7 = 573 := by decide +kernel

/-- After reset CDONE is pulled low, ALERT_N released and no link sends (R516); HIGHZ turns the outputs off (R487). -/
theorem test_pin_drives :
    fresh.drive 0 .cdone = .low ∧ fresh.drive 0 .alertN = .none ∧ fresh.drive 0 (.lomionTx 63 4) = .none ∧
    (tapIr 7 fresh).drive 0 .cdone = .none := by decide +kernel

/-! ### Terms that are not well formed -/

theorem wf_accepts :
    [Instr.registerWrite 0 0 [some 1], .doorbell 63 0xFFFFC [some 1, none, none, some 0], .bar2Read 0 0 4096 1023 [], .ringRead,
     .cfgPort (List.replicate 512 (some 0)), .hifVfAbort 1 0, .remoteSignal unfenced true, .exch 0 exchUnit,
     .cluReport 0 okReport, .fecCodewordReceive 0 (some 15) (List.replicate 20 0)].all Instr.wf = true := by decide +kernel

theorem wf_refuses_host_traffic :
    (Instr.registerWrite 0 0 []).wf = false ∧ (Instr.registerWrite 0 0xFFFFFFC (List.replicate 8 none)).wf = false ∧
    (Instr.doorbell 0 0xFFFFC (List.replicate 8 none)).wf = false ∧
    (Instr.cfgPort (List.replicate 513 none)).wf = false ∧ (Instr.ringReadCompletion 0 (.ok (List.replicate 4097 0))).wf = false ∧
    (Instr.bar2Read 0 0 0 0 []).wf = false ∧ (Instr.bar2Read 0 0 4097 0 []).wf = false ∧
    (Instr.bar2Read 0 0xFFFFFFFFF 4 0 []).wf = false ∧ (Instr.bar2Read 0 0 4 1024 []).wf = false ∧ (Instr.hifVfAbort 0 0).wf = false := by decide +kernel

theorem wf_refuses_messages :
    (Instr.remoteSignal { unfenced with device := 1024 } true).wf = false ∧
    (Instr.remoteSignal { unfenced with vid := 256 } true).wf = false ∧
    (Instr.remoteSignal { unfenced with fence := some (4, 0, 0) } true).wf = false ∧
    (Instr.exch 0 { exchUnit with ts := 2 ^ 32 }).wf = false ∧
    (Instr.flitReceive 0 { flitOf 32 .idle with slot := 32 } 0 false).wf = false ∧
    (Instr.flitReceive 0 { flitOf 0 .idle with frame := 2048 } 0 false).wf = false ∧
    (Instr.flitReceive 0 (flitOf 0 (.ctrl (List.replicate 5 (0x18, [])))) 0 false).wf = false ∧
    (Instr.cluReport 0 { okReport with status := 16 }).wf = false ∧
    (Instr.cluReport 0 { okReport with cover := 1025 }).wf = false ∧ (Instr.cluAlign 0 (2 ^ 64)).wf = false := by decide +kernel

theorem wf_refuses_blocks :
    (Instr.apRequest 0 (.rd 0 0 0)).wf = false ∧ (Instr.apRequest 0 (.rd 0 33 0)).wf = false ∧
    (Instr.fecCodewordReceive 0 (some 16) (List.replicate 20 0)).wf = false ∧
    (Instr.fecCodewordReceive 0 none []).wf = false ∧
    (Instr.blockRamAccess 0 (some ⟨65536, none, true⟩) none false .clean .clean).wf = false ∧
    (Instr.getInfo 0 (.mctp (List.replicate 4097 0))).wf = false ∧ (Instr.vxNop 0 { ecc := [(3, 0, .clean)], port := [] }).wf = false ∧
    (Instr.vxNop 0 { ecc := [], port := [(0, 4)] }).wf = false ∧
    (Instr.atsInvalidationRequest 0 (2 ^ 52)).wf = false := by decide +kernel

end Sys2Proof.Tests
end

section
/-!
PROOFS. The rings of the host interface and their doorbells (R16, R368, R369, R371): what each ring command leaves in the ring's
registers; and what reset leaves (R4, R453, R457, R467).
-/
namespace Sys2Proof.Machine

open Sys2Proof

/-! ### Registers after a write -/

/-- A one-bit field shows the bit that was written to it. -/
theorem regBit_setF_one (d : Device) (a x : Nat) {i : Nat} (h : i < 64) :
    (d.setF a i 1 x).regBit a i = x.testBit 0 := by
  rw [regBit_setF, if_pos ⟨le_rfl, Nat.lt_succ_self i, h⟩, Nat.sub_self]

theorem regBit_setF_other (d : Device) {a b : Nat} (lo w x i : Nat) (h : b ≠ a) :
    (d.setF a lo w x).regBit b i = d.regBit b i := regBit_setReg_ne d _ i h

/-- A write of 1s clears a bit that it names, unless an event sets that bit in the same clock (R16). -/
theorem regBit_clearBits (d : Device) (a : Nat) (m : Word) {i : Nat} (h : i < 64) :
    (d.clearBits a m).regBit a i = (d.regBit a i && !(bit m i && !bit (d.raised a) i)) := by
  simp [Device.regBit, bit, h]

theorem onlyRegs_clearBits (d : Device) (a : Nat) (m : Word) : OnlyRegs [a] d (d.clearBits a m) := onlyRegs_setReg d a _

/-- Where only registers differ, every memory is as it was. -/
theorem OnlyRegs.sameMemory {as : List Nat} {d d' : Device} (h : OnlyRegs as d d') : SameMemory d d' := by
  obtain ⟨he, -⟩ := h
  rw [he]
  exact ⟨rfl, rfl, rfl, rfl⟩

theorem OnlyRegs.lantern_eq {as : List Nat} {d d' : Device} (h : OnlyRegs as d d') : d'.lantern = d.lantern := by
  obtain ⟨he, -⟩ := h
  rw [he]

/-! ### The registers of a ring -/

theorem hifRingCtl_ne_hifRingStatus (r : Nat) : Reg.hifRingCtl r ≠ Reg.hifRingStatus r := by
  simp [Reg.hifRingCtl, Reg.hifRingStatus]

theorem hifRingPtr_ne_hifRingSeq (r : Nat) : Reg.hifRingPtr r ≠ Reg.hifRingSeq r := by
  simp [Reg.hifRingPtr, Reg.hifRingSeq]

theorem hifRingPtr_ne_hifRingStatus (r : Nat) : Reg.hifRingPtr r ≠ Reg.hifRingStatus r := by
  simp [Reg.hifRingPtr, Reg.hifRingStatus]

theorem hifRingSeq_ne_hifRingStatus (r : Nat) : Reg.hifRingSeq r ≠ Reg.hifRingStatus r := by
  simp [Reg.hifRingSeq, Reg.hifRingStatus]

theorem ringTail_lt (d : Device) (r : Nat) : ringTail d r < 4096 := fld_lt _ 16 12

/-! ### Enabling and disabling (R369) -/

/-- A ring whose enable is pending does not act as enabled. -/
theorem ringLive_of_pending {d : Device} {r : Nat} (h : d.regBit (Reg.hifRingStatus r) 61 = true) :
    d.ringLive r = false := by simp [Device.ringLive, h]

theorem ringLive_of_disabled {d : Device} {r : Nat} (h : ringEn d r = false) : d.ringLive r = false := by
  simp [Device.ringLive, h]

/-- EN is set, and on a disabled ring the enable is pending. -/
theorem ringOn_of_disabled {d : Device} {r : Nat} (w : Word) (h : ringEn d r = false) :
    (d.ringOn r w).regBit (Reg.hifRingCtl r) 63 = true ∧ (d.ringOn r w).regBit (Reg.hifRingStatus r) 61 = true ∧
      OnlyRegs [Reg.hifRingCtl r, Reg.hifRingStatus r] d (d.ringOn r w) := by
  have he : d.ringOn r w =
      (d.setReg (Reg.hifRingCtl r) (putFld (w &&& 0xBF1FFFFF00000000) 63 1 1)).setF (Reg.hifRingStatus r) 61 1 1 := by
    simp [Device.ringOn, h]
  rw [he]
  refine ⟨?_, regBit_setF_one _ _ _ (by decide), ((OnlyRegs.refl d _).setReg (by simp) _).setF (by simp) _ _ _⟩
  rw [regBit_setF_other _ _ _ _ _ (hifRingCtl_ne_hifRingStatus r), Device.regBit, reg_setReg, bit_putFld,
    if_pos (by decide)]
  rfl

theorem ringEn_ringOff (d : Device) (r : Nat) : ringEn (d.ringOff r) r = false := by
  rw [ringEn, Device.ringOff, regBit_setF_other _ _ _ _ _ (hifRingCtl_ne_hifRingStatus r), regBit_setF_one _ _ _ (by decide)]
  decide

theorem onlyRegs_ringOff (d : Device) (r : Nat) :
    OnlyRegs [Reg.hifRingCtl r, Reg.hifRingStatus r] d (d.ringOff r) :=
  ((OnlyRegs.refl d _).setF (by simp) _ _ _).setF (by simp) _ _ _

/-- The enable takes effect once no record of the ring is outstanding: HEAD, TAIL, SEQ and the status are cleared. -/
theorem ringReady_of_idle {d : Device} {r : Nat} (hp : d.regBit (Reg.hifRingStatus r) 61 = true) (hf : d.inFlight r = 0)
    (ht : d.lantern.tasks.any (fun t => !t.remote && t.ring == r) = false) :
    d.ringReady r = ((d.setReg (Reg.hifRingPtr r) 0).setReg (Reg.hifRingSeq r) 0).setReg (Reg.hifRingStatus r) 0 := by
  rw [Device.ringReady, if_neg (by simp [hp, hf, ht])]

theorem ringReady_cleared {d : Device} {r : Nat} (hp : d.regBit (Reg.hifRingStatus r) 61 = true) (hf : d.inFlight r = 0)
    (ht : d.lantern.tasks.any (fun t => !t.remote && t.ring == r) = false) :
    (d.ringReady r).reg (Reg.hifRingPtr r) = 0 ∧ (d.ringReady r).reg (Reg.hifRingSeq r) = 0 ∧
      (d.ringReady r).reg (Reg.hifRingStatus r) = 0 ∧
      OnlyRegs [Reg.hifRingPtr r, Reg.hifRingSeq r, Reg.hifRingStatus r] d (d.ringReady r) := by
  rw [ringReady_of_idle hp hf ht]
  refine ⟨?_, ?_, reg_setReg _ _ _,
    (((OnlyRegs.refl d _).setReg (by simp) _).setReg (by simp) _).setReg (by simp) _⟩
  · rw [reg_setReg_ne _ _ (hifRingPtr_ne_hifRingStatus r), reg_setReg_ne _ _ (hifRingPtr_ne_hifRingSeq r), reg_setReg]
  · rw [reg_setReg_ne _ _ (hifRingSeq_ne_hifRingStatus r), reg_setReg]

theorem ringHead_of_cleared {d : Device} {r : Nat} (h : d.reg (Reg.hifRingPtr r) = 0) : ringHead d r = 0 := by
  rw [ringHead, Device.regF, h]; rfl

theorem ringTail_of_cleared {d : Device} {r : Nat} (h : d.reg (Reg.hifRingPtr r) = 0) : ringTail d r = 0 := by
  rw [ringTail, Device.regF, h]; rfl

/-! ### Doorbells (R368) -/

/-- TAIL after a doorbell whose first byte is enabled: a second byte that is not enabled leaves TAIL's upper bits. -/
def doorbellTail (tail : Nat) (b0 : Byte) (b1 : Option Byte) : Nat :=
  b0.toNat + 256 * b1.elim (tail / 256) (fun b => b.toNat % 16)

theorem doorbellTail_lt {tail : Nat} (h : tail < 4096) (b0 : Byte) (b1 : Option Byte) : doorbellTail tail b0 b1 < 4096 := by
  have h0 := b0.isLt
  cases b1 <;> simp only [doorbellTail, Option.elim] <;> omega

/-- A write of the physical function from the first byte of ring `r`'s page on: discarded and counted, or taken into TAIL. -/
theorem doorbell_at_page (d : Device) {r : Nat} (h : r < 256) (b0 : Byte) (bs : List (Option Byte)) :
    d.doorbell 0 (4096 * r) (some b0 :: bs) =
      if d.ringLive r = false then d.bump Reg.hifDbDropCnt 1
      else d.setF (Reg.hifRingPtr r) 16 12 (doorbellTail (ringTail d r) b0 (bs.getD 0 none)) := by
  have hfirst : (List.range (some b0 :: bs).length).find? (fun i => ((some b0 :: bs).getD i none).isSome) = some 0 := by
    rw [List.length_cons, List.range_succ_eq_map]
    rfl
  simp only [Device.doorbell, hfirst, Device.pageRing, Option.getD_some, Nat.add_zero, Nat.mul_mod_right,
    Nat.mul_div_cancel_left r (by decide : 0 < 4096), Nat.zero_lt_succ, h, if_true]
  rfl

/-- A doorbell of a ring that acts as enabled sets TAIL, and leaves HEAD and every other register. -/
theorem doorbell_of_live {d : Device} {r : Nat} (h : r < 256) (hl : d.ringLive r = true) (b0 : Byte)
    (bs : List (Option Byte)) :
    ringTail (d.doorbell 0 (4096 * r) (some b0 :: bs)) r = doorbellTail (ringTail d r) b0 (bs.getD 0 none) ∧
      ringHead (d.doorbell 0 (4096 * r) (some b0 :: bs)) r = ringHead d r ∧
      OnlyRegs [Reg.hifRingPtr r] d (d.doorbell 0 (4096 * r) (some b0 :: bs)) := by
  rw [doorbell_at_page d h, if_neg (by simp [hl])]
  refine ⟨?_, regF_setF_ne _ _ _ (by decide), onlyRegs_setF _ _ _ _ _⟩
  rw [ringTail, regF_setF _ _ _ (by decide)]
  exact Nat.mod_eq_of_lt (doorbellTail_lt (ringTail_lt d r) _ _)

/-- A doorbell of a ring that does not act as enabled is counted as discarded. -/
theorem doorbell_of_not_live {d : Device} {r : Nat} (h : r < 256) (hl : d.ringLive r = false) (b0 : Byte)
    (bs : List (Option Byte)) :
    d.doorbell 0 (4096 * r) (some b0 :: bs) = d.bump Reg.hifDbDropCnt 1 := by
  rw [doorbell_at_page d h, if_pos hl]

/-! ### The ring commands complete -/

theorem ringEnable_completes {s : State} (r : Fin 256) (w : Word) (ha : s.dev.alive = true) (h : ringEn s.dev r = false) :
    Completes (.ringEnable r w) s (fun d =>
      d.regBit (Reg.hifRingCtl r) 63 = true ∧ d.regBit (Reg.hifRingStatus r) 61 = true ∧ d.ringLive r = false ∧
      OnlyRegs [Reg.hifRingCtl r, Reg.hifRingStatus r] s.dev d) := by
  obtain ⟨hen, hpend, honly⟩ := ringOn_of_disabled w h
  exact completes_took (f := (·.ringOn r w)) rfl ha ⟨hen, hpend, ringLive_of_pending hpend, honly⟩

theorem ringEnableEffective_completes {s : State} (r : Fin 256) (ha : s.dev.alive = true)
    (hp : s.dev.regBit (Reg.hifRingStatus r) 61 = true) (hf : s.dev.inFlight r = 0)
    (ht : s.dev.lantern.tasks.any (fun t => !t.remote && t.ring == r.val) = false) :
    Completes (.ringEnableEffective r) s (fun d =>
      ringHead d r = 0 ∧ ringTail d r = 0 ∧ d.reg (Reg.hifRingSeq r) = 0 ∧ d.reg (Reg.hifRingStatus r) = 0 ∧
      OnlyRegs [Reg.hifRingPtr r, Reg.hifRingSeq r, Reg.hifRingStatus r] s.dev d) := by
  obtain ⟨hptr, hseq, hst, honly⟩ := ringReady_cleared hp hf ht
  exact completes_took (f := (·.ringReady r)) rfl ha
    ⟨ringHead_of_cleared hptr, ringTail_of_cleared hptr, hseq, hst, honly⟩

theorem ringDisable_completes {s : State} (r : Fin 256) (ha : s.dev.alive = true) :
    Completes (.ringDisable r) s (fun d =>
      ringEn d r = false ∧ d.ringLive r = false ∧ OnlyRegs [Reg.hifRingCtl r, Reg.hifRingStatus r] s.dev d) :=
  have hen := ringEn_ringOff s.dev r
  completes_took (f := (·.ringOff r)) rfl ha ⟨hen, ringLive_of_disabled hen, onlyRegs_ringOff s.dev r⟩

theorem fetchErrClear_completes {s : State} (r : Fin 256) (ha : s.dev.alive = true) :
    Completes (.fetchErrClear r) s (fun d =>
      d.regBit (Reg.hifRingStatus r) 63 =
        (s.dev.regBit (Reg.hifRingStatus r) 63 && bit (s.dev.raised (Reg.hifRingStatus r)) 63) ∧
      OnlyRegs [Reg.hifRingStatus r] s.dev d) := by
  refine completes_took (f := (·.clearBits (Reg.hifRingStatus r) 0x8000000000000000)) rfl ha
    ⟨?_, onlyRegs_clearBits _ _ _⟩
  have hm : bit (0x8000000000000000 : Word) 63 = true := by decide
  rw [regBit_clearBits _ _ _ (by decide), hm, Bool.true_and, Bool.not_not]

/-- A doorbell also counts as traffic of the link (R362), which touches nothing but the host interface's own state. -/
theorem doorbell_completes {s : State} (r : Fin 256) (bytes : List (Option Byte)) {P : Device → Prop}
    (ha : s.dev.alive = true) (hp : P (s.dev.linkUse.doorbell 0 (4096 * r) bytes)) :
    Completes (.doorbell 0 (4096 * r) bytes) s P :=
  completes_took (f := fun d => d.linkUse.doorbell 0 (4096 * r) bytes) rfl ha hp

theorem doorbell_completes_of_live {s : State} (r : Fin 256) (b0 : Byte) (bs : List (Option Byte))
    (ha : s.dev.alive = true) (hl : s.dev.ringLive r = true) :
    Completes (.doorbell 0 (4096 * r) (some b0 :: bs)) s (fun d =>
      ringTail d r = doorbellTail (ringTail s.dev r) b0 (bs.getD 0 none) ∧ ringHead d r = ringHead s.dev r ∧
      d.lantern = s.dev.lantern ∧ SameMemory s.dev d ∧ SameRegs [Reg.hifRingPtr r] s.dev d) := by
  obtain ⟨htail, hhead, honly⟩ := doorbell_of_live (d := s.dev.linkUse) r.isLt hl b0 bs
  exact doorbell_completes r _ ha ⟨htail, hhead, honly.lantern_eq, honly.sameMemory, honly.2⟩

theorem doorbell_completes_of_not_live {s : State} (r : Fin 256) (b0 : Byte) (bs : List (Option Byte))
    (ha : s.dev.alive = true) (hl : s.dev.ringLive r = false) :
    Completes (.doorbell 0 (4096 * r) (some b0 :: bs)) s (fun d =>
      d.reg Reg.hifDbDropCnt = s.dev.reg Reg.hifDbDropCnt + 1 ∧ SameRegs [Reg.hifDbDropCnt] s.dev d) := by
  refine doorbell_completes r _ ha ?_
  rw [doorbell_of_not_live (d := s.dev.linkUse) r.isLt hl]
  exact ⟨reg_bump _ _ 1, (onlyRegs_bump s.dev.linkUse _ 1).2⟩

/-- Settles O1: a ring command writes the ring's own registers only, and a doorbell either TAIL or the drop counter, as the ring
acts as enabled or not. -/
theorem ringsEnableClearAndTakeDoorbells : Obligations.RingsEnableClearAndTakeDoorbells := by
  refine ⟨fun s r w ha => ⟨ringEnable_completes r w ha, ringEnableEffective_completes r ha, ringDisable_completes r ha,
    fetchErrClear_completes r ha⟩, fun s r b0 b1 b2 b3 ha => ⟨fun hl => ⟨?_, ?_⟩, ?_⟩⟩
  · exact doorbell_completes_of_live r b0 [some b1, some b2, some b3] ha hl
  · obtain ⟨d, hd, htail, -, -, -, hregs⟩ := doorbell_completes_of_live r b0 [none, none, none] ha hl
    exact ⟨d, hd, htail, hregs⟩
  · exact doorbell_completes_of_not_live r b0 [some b1, some b2, some b3] ha

/-! ### Reset -/

/-- The reset state lists no register: each reads its reset value (R457). -/
@[simp] theorem reg_reset (a : Nat) : State.reset.dev.reg a = regReset a := rfl

/-- A link's status shows ABSENT alone, bit 52, which lies outside the state field (R315). -/
theorem regReset_turLinkStatus {n : Nat} (h : n < 64) : regReset (Reg.turLinkStatus n) = 0x10000000000000 := by
  unfold regReset Reg.turLinkStatus
  simp (disch := omega) only [if_neg]
  rw [if_pos (by omega)]

theorem regReset_sprFlags {i : Nat} (h : i < 4096) : regReset (Reg.sprFlags i) = 0 := by
  unfold regReset Reg.sprFlags
  simp (disch := omega) only [if_neg]

theorem linkState_reset {n : Nat} (h : n < 64) : State.reset.dev.linkState n = 0 := by
  rw [Device.linkState, Device.regF, reg_reset, regReset_turLinkStatus h]
  rfl

/-- The reset state lists no register, no byte of a memory and no transaction. -/
theorem wf_reset : State.reset.dev.wf = true := by
  have hregs : State.reset.dev.regsWf = true := mapWf_nil _
  have hmem : State.reset.dev.memoriesWf = true := by decide
  rw [Device.wf, hregs, hmem]
  rfl

/-- Settles O57: each named register at its reset value, and the canonical forms of a device that lists nothing. -/
theorem resetLeavesTheStatedValues : Obligations.ResetLeavesTheStatedValues := by
  refine ⟨?bfyId, ?power, rfl, ?cfgState, rfl, rfl, ?pwrIdle, rfl, rfl, fun n hn => linkState_reset hn, ?kepCmdCnt,
    fun i hi => ?sprFlags, wf_reset⟩
  case bfyId => rw [reg_reset]; decide
  case power => rw [Device.power, Device.regF, reg_reset]; decide
  case cfgState => rw [Device.cfgState, Device.regF, reg_reset]; decide
  case pwrIdle => rw [reg_reset]; decide
  case kepCmdCnt => rw [reg_reset]; decide
  case sprFlags => rw [reg_reset, regReset_sprFlags hi]

end Sys2Proof.Machine
end

section
/-!
PROOFS. The start cycle of a task (R54, R82, R188, R223): what each act of it writes and leaves, and what stands when the task
is RUNNING.
-/
namespace Sys2Proof.Machine

open Sys2Proof

/-! ### Flags and captures (R54, R82) -/

/-- The registers that a start cycle clears: SPR_FLAGS, SPR_MX_CAPT, SPR_RCK_CAPT and SPR_VX_FAULT of every Spire. -/
def isCaptureReg (a : Nat) : Bool :=
  isSpireReg a 0x8 || isSpireReg a 0x10 || isSpireReg a 0x18 || isSpireReg a 0x110

theorem reg_clearCaptures (d : Device) (a : Nat) :
    d.clearCaptures.reg a = if isCaptureReg a then regReset a else d.reg a := by
  have h : mapFind d.clearCaptures.regs a = if !isCaptureReg a then mapFind d.regs a else none :=
    mapFind_filter d.regs (fun k => !isCaptureReg k) a
  rw [Device.reg, h]
  cases isCaptureReg a <;> rfl

theorem reg_clearCaptures_of_not {d : Device} {a : Nat} (h : isCaptureReg a = false) :
    d.clearCaptures.reg a = d.reg a := by simp [reg_clearCaptures, h]

theorem isSpireReg_iff {a off : Nat} :
    isSpireReg a off = true ↔ 0x1000000 ≤ a ∧ a < 0x2000000 ∧ a % 0x1000 = off := by
  simp [isSpireReg, and_assoc]

theorem isCaptureReg_of_outside {a : Nat} (h : a < 0x1000000 ∨ 0x2000000 ≤ a) : isCaptureReg a = false := by
  have hs (off : Nat) : isSpireReg a off = false := by
    rw [Bool.eq_false_iff, ne_eq, isSpireReg_iff]
    omega
  simp [isCaptureReg, hs]

theorem isSpireReg_page {n off : Nat} (h : n < 4096) (ho : off < 0x1000) :
    isSpireReg (0x1000000 + off + 0x1000 * n) off = true :=
  isSpireReg_iff.2 ⟨by omega, by omega, by omega⟩

/-- Of a Spire's page only the register at offset 0 has a reset value other than 0. -/
theorem regReset_of_isSpireReg {a off : Nat} (h : isSpireReg a off = true) (ho : off ≠ 0) : regReset a = 0 := by
  obtain ⟨hlo, hhi, hoff⟩ := isSpireReg_iff.1 h
  have hpage : (a - 0x1000000) % 0x1000 ≠ 0 := by omega
  unfold regReset
  simp only [hpage, and_false, if_false]
  simp (disch := omega) only [if_neg]

theorem reg_clearCaptures_of_isSpireReg {d : Device} {a off : Nat} (h : isSpireReg a off = true)
    (ho : off ∈ [0x8, 0x10, 0x18, 0x110]) : d.clearCaptures.reg a = 0 := by
  simp only [List.mem_cons, List.not_mem_nil, or_false] at ho
  have hc : isCaptureReg a = true := by
    rcases ho with rfl | rfl | rfl | rfl <;> simp [isCaptureReg, h]
  rw [reg_clearCaptures, hc, if_pos rfl, regReset_of_isSpireReg h (by omega)]

/-! ### Threads (R223) -/

/-- A field written twice with one number is that field written once. -/
theorem putFld_putFld {n : Nat} (v : BitVec n) (lo w x : Nat) : putFld (putFld v lo w x) lo w x = putFld v lo w x := by
  refine BitVec.eq_of_getLsbD_eq fun i _ => ?_
  simp only [getLsbD_putFld]
  split <;> rfl

/-- One field of every listed register is written: nothing but registers changes. -/
theorem foldl_setF_only (l : SMap Word) (d : Device) (lo w x : Nat) :
    l.foldl (fun d e => d.setF e.1 lo w x) d =
      { d with regs := (l.foldl (fun d e => d.setF e.1 lo w x) d).regs } := by
  induction l generalizing d with
  | nil => rfl
  | cons e l ih => rw [List.foldl_cons, ih]; rfl

theorem reg_foldl_setF (l : SMap Word) (d : Device) (lo w x a : Nat) :
    (l.foldl (fun d e => d.setF e.1 lo w x) d).reg a =
      if ∃ e ∈ l, e.1 = a then putFld (d.reg a) lo w x else d.reg a := by
  induction l generalizing d with
  | nil => simp
  | cons e l ih =>
    rw [List.foldl_cons, ih]
    by_cases he : e.1 = a
    · subst he
      simp [putFld_putFld]
    · simp [he, reg_setF_ne d lo w x (Ne.symm he)]

theorem isThreadReg_iff {a : Nat} :
    isThreadReg a = true ↔ 0x500000 ≤ a ∧ a < 0x540000 ∧ 0x1000 ≤ a % 0x10000 ∧ a % 0x10000 < 0x1800 := by
  simp [isThreadReg, and_assoc]

theorem isThreadReg_of_outside {a : Nat} (h : a < 0x500000 ∨ 0x540000 ≤ a) : isThreadReg a = false := by
  rw [Bool.eq_false_iff, ne_eq, isThreadReg_iff]
  omega

theorem isThreadReg_threadReg {tk : Nat} (h : tk < 1024) : isThreadReg (threadReg tk) = true := by
  unfold threadReg Reg.steThread
  exact isThreadReg_iff.2 ⟨by omega, by omega, by omega, by omega⟩

theorem regReset_of_isThreadReg {a : Nat} (h : isThreadReg a = true) : regReset a = 0 := by
  obtain ⟨hlo, hhi, hfrom, hto⟩ := isThreadReg_iff.1 h
  unfold regReset
  simp (disch := omega) only [if_neg]

theorem isCaptureReg_of_isThreadReg {a : Nat} (h : isThreadReg a = true) : isCaptureReg a = false :=
  isCaptureReg_of_outside (.inl ((isThreadReg_iff.1 h).2.1.trans (by decide)))

/-- A register that is not listed reads its reset value. -/
theorem reg_of_unlisted {d : Device} {a : Nat} (h : ∀ e ∈ d.regs, e.1 ≠ a) : d.reg a = regReset a := by
  rw [Device.reg, mapFind_none h, Option.getD_none]

/-- STATE of every thread is IDLE; a thread whose register is not listed is so already. -/
theorem reg_idleThreads (d : Device) (a : Nat) :
    d.idleThreads.reg a = if isThreadReg a then putFld (d.reg a) 60 3 0 else d.reg a := by
  have hfold := reg_foldl_setF (d.regs.filter (fun e => isThreadReg e.1)) d 60 3 0 a
  refine Eq.trans hfold ?_
  by_cases ht : isThreadReg a = true
  · by_cases hl : ∃ e ∈ d.regs, e.1 = a
    · obtain ⟨e, he, rfl⟩ := hl
      rw [if_pos ht, if_pos ⟨e, List.mem_filter.2 ⟨he, ht⟩, rfl⟩]
    · have h0 : d.reg a = 0 :=
        (reg_of_unlisted fun e he hea => hl ⟨e, he, hea⟩).trans (regReset_of_isThreadReg ht)
      rw [if_pos ht, h0]
      exact ite_eq_right_iff.2 fun _ => by decide
  · rw [if_neg ht, if_neg]
    rintro ⟨e, he, rfl⟩
    exact ht (List.mem_filter.1 he).2

theorem reg_idleThreads_of_not {d : Device} {a : Nat} (h : isThreadReg a = false) : d.idleThreads.reg a = d.reg a := by
  simp [reg_idleThreads, h]

theorem threadState_idleThreads (d : Device) {tk : Nat} (h : tk < 1024) : d.idleThreads.threadState tk = 0 := by
  rw [Device.threadState, Device.regF, reg_idleThreads, if_pos (isThreadReg_threadReg h), fld_putFld _ _ (by decide),
    Nat.zero_mod]

theorem committedBytes_idleThreads (d : Device) {tk : Nat} (h : tk < 1024) :
    d.idleThreads.committedBytes tk = d.committedBytes tk := by
  rw [Device.committedBytes, Device.regF, reg_idleThreads, if_pos (isThreadReg_threadReg h),
    fld_putFld_ne _ _ (by decide), Device.committedBytes, Device.regF]

theorem idleThreads_only (d : Device) :
    d.idleThreads = { d with
      regs := d.idleThreads.regs, streams := { d.streams with threads := [], left := d.idleThreads.streams.left } } := by
  unfold Device.idleThreads
  rw [foldl_setF_only]

/-! ### Spires and tasks (R188) -/

theorem startSpires_only (d : Device) (h : List Word) (start : Nat) :
    d.startSpires h start = { d with dome := (d.startSpires h start).dome } := by
  unfold Device.startSpires
  dsimp only
  split
  · split <;> rfl
  · rfl

@[simp] theorem reg_startSpires (d : Device) (h : List Word) (start a : Nat) : (d.startSpires h start).reg a = d.reg a := by
  rw [startSpires_only]; rfl

theorem onlyRegs_noteDelay (d : Device) (t : Task) (start retries : Nat) :
    OnlyRegs [Reg.lntDelayMax] d (d.noteDelay t start retries) := by
  unfold Device.noteDelay
  split
  · exact onlyRegs_setReg d _ _
  · exact OnlyRegs.refl d _

theorem id_of_task {d : Device} {id : Nat} {t : Task} (h : d.task id = some t) : t.id = id := by
  simpa using List.find?_some h

/-- A task that is changed under its own number. -/
theorem task_mapTask (d : Device) (id : Nat) {f : Task → Task} (hf : ∀ t, (f t).id = t.id) :
    (d.mapTask id f).task id = (d.task id).map f := by
  have hp : ((fun t : Task => t.id == id) ∘ fun t => if t.id = id then f t else t) = fun t => t.id == id := by
    funext t
    by_cases h : t.id = id <;> simp [h, hf]
  rw [Device.task, Device.mapTask, List.find?_map, hp]
  cases h : d.task id with
  | none => rw [Device.task] at h; rw [h]; rfl
  | some t =>
    have hid := id_of_task h
    rw [Device.task] at h
    simp [h, hid]

/-! ### The start cycle as a whole (R188) -/

/-- What a start cycle resets, before the task is RUNNING: captures, Spires and threads. -/
def Device.cleared (d : Device) (h : List Word) (start : Nat) : Device := (d.clearCaptures.startSpires h start).idleThreads

theorem cleared_only (d : Device) (h : List Word) (start : Nat) :
    d.cleared h start = { d with
      regs := (d.cleared h start).regs
      streams := { d.streams with threads := [], left := (d.cleared h start).streams.left }
      dome := (d.cleared h start).dome } := by
  rw [Device.cleared, idleThreads_only, startSpires_only]
  rfl

/-- Only the registers of captures and threads change. -/
theorem reg_cleared_of_not {d : Device} {h : List Word} {start a : Nat} (hc : isCaptureReg a = false)
    (ht : isThreadReg a = false) : (d.cleared h start).reg a = d.reg a := by
  rw [Device.cleared, reg_idleThreads_of_not ht, reg_startSpires, reg_clearCaptures_of_not hc]

theorem reg_cleared_of_isSpireReg {d : Device} {h : List Word} {start a off : Nat} (hs : isSpireReg a off = true)
    (ho : off ∈ [0x8, 0x10, 0x18, 0x110]) : (d.cleared h start).reg a = 0 := by
  have ht : isThreadReg a = false := isThreadReg_of_outside (.inr (le_trans (by decide) (isSpireReg_iff.1 hs).1))
  rw [Device.cleared, reg_idleThreads_of_not ht, reg_startSpires, reg_clearCaptures_of_isSpireReg hs ho]

theorem threadState_cleared (d : Device) (h : List Word) (start : Nat) {tk : Nat} (htk : tk < 1024) :
    (d.cleared h start).threadState tk = 0 := threadState_idleThreads _ htk

theorem committedBytes_cleared (d : Device) (h : List Word) (start : Nat) {tk : Nat} (htk : tk < 1024) :
    (d.cleared h start).committedBytes tk = d.committedBytes tk := by
  have hc := isCaptureReg_of_isThreadReg (isThreadReg_threadReg htk)
  rw [Device.cleared, committedBytes_idleThreads _ htk, Device.committedBytes, Device.regF, reg_startSpires,
    reg_clearCaptures_of_not hc, Device.committedBytes, Device.regF]

/-- The input queue of every context is as before, and so is its read position. -/
theorem queueRd_cleared (d : Device) (h : List Word) (start n : Nat) :
    ((d.cleared h start).queue ((d.cleared h start).ctxQueue n)).rd = (d.queue (d.ctxQueue n)).rd := by
  have hge : 0x2000000 ≤ Reg.ctxW0 n + 8 * 0 := by unfold Reg.ctxW0; omega
  have ht : isThreadReg (Reg.ctxW0 n + 8 * 0) = false := isThreadReg_of_outside (.inr (le_trans (by decide) hge))
  have hq : (d.cleared h start).ctxQueue n = d.ctxQueue n := by
    rw [Device.ctxQueue, Device.ctx, reg_cleared_of_not (isCaptureReg_of_outside (.inr hge)) ht]
    rfl
  rw [hq, cleared_only]
  rfl

/-- The task `t` as it runs from gcyc `start` on. -/
def Task.started (t : Task) (start : Nat) : Task := { t with state := .running, since := start, consumed := [] }

section
variable {d : Device} {start : Nat} (r : Run) (t : Task) (h : start ≤ d.now)
include h

/-- A start whose gcyc has come: what is reset, the queue position, the task, and the delay that it met. -/
theorem startTask_eq :
    d.startTask r t start =
      (((d.cleared r.header start).setReg (Reg.ctxW4 r.ctx) (BitVec.ofNat 64 (d.queue (d.ctxQueue r.ctx)).rd)).mapTask t.id
        (·.started start)).noteDelay t start r.retries := by
  rw [← queueRd_cleared d r.header start]
  unfold Device.startTask
  rw [advance_past h]
  rfl

/-- A start whose gcyc has come touches registers, the tasks, the threads and the Dome. -/
theorem startTask_only :
    d.startTask r t start = { d with
      regs := (d.startTask r t start).regs
      lantern := { d.lantern with tasks := (d.startTask r t start).lantern.tasks }
      streams := { d.streams with threads := [], left := (d.startTask r t start).streams.left }
      dome := (d.startTask r t start).dome } := by
  rw [startTask_eq r t h, (onlyRegs_noteDelay _ t start r.retries).1, cleared_only]
  rfl

theorem sameMemory_startTask : SameMemory d (d.startTask r t start) := by
  rw [startTask_only r t h]
  exact ⟨rfl, rfl, rfl, rfl⟩

theorem task_startTask : (d.startTask r t start).task t.id = (d.task t.id).map (·.started start) := by
  have hl (x : Device) : (x.noteDelay t start r.retries).task t.id = x.task t.id := by
    rw [Device.task, (onlyRegs_noteDelay x t start r.retries).lantern_eq, Device.task]
  rw [startTask_eq r t h, hl, task_mapTask (f := (·.started start)) _ _ fun _ => rfl, cleared_only]
  rfl

/-- Every register but the queue position and the greatest delay. -/
theorem reg_startTask_ne {a : Nat} (hq : a ≠ Reg.ctxW4 r.ctx) (hd : a ≠ Reg.lntDelayMax) :
    (d.startTask r t start).reg a = (d.cleared r.header start).reg a := by
  rw [startTask_eq r t h, (onlyRegs_noteDelay _ t start r.retries).2 a (by simpa using hd), reg_mapTask,
    reg_setReg_ne _ _ hq]

theorem reg_ctxW4_startTask :
    (d.startTask r t start).reg (Reg.ctxW4 r.ctx) = BitVec.ofNat 64 (d.queue (d.ctxQueue r.ctx)).rd := by
  have hd : Reg.ctxW4 r.ctx ∉ [Reg.lntDelayMax] := by
    rw [List.mem_singleton, Reg.ctxW4, Reg.lntDelayMax]
    omega
  rw [startTask_eq r t h, (onlyRegs_noteDelay _ t start r.retries).2 _ hd, reg_mapTask, reg_setReg]

/-- The captures of every Spire read 0. -/
theorem reg_startTask_of_isSpireReg {a off : Nat} (hs : isSpireReg a off = true) (ho : off ∈ [0x8, 0x10, 0x18, 0x110]) :
    (d.startTask r t start).reg a = 0 := by
  obtain ⟨hlo, hhi, -⟩ := isSpireReg_iff.1 hs
  rw [reg_startTask_ne r t h (by rw [Reg.ctxW4]; omega) (by rw [Reg.lntDelayMax]; omega), reg_cleared_of_isSpireReg hs ho]

theorem reg_threadReg_startTask {tk : Nat} (htk : tk < 1024) :
    (d.startTask r t start).reg (threadReg tk) = (d.cleared r.header start).reg (threadReg tk) := by
  obtain ⟨hlo, hhi, -, -⟩ := isThreadReg_iff.1 (isThreadReg_threadReg htk)
  exact reg_startTask_ne r t h (by rw [Reg.ctxW4]; omega) (by rw [Reg.lntDelayMax]; omega)

theorem threadState_startTask {tk : Nat} (htk : tk < 1024) : (d.startTask r t start).threadState tk = 0 := by
  rw [Device.threadState, Device.regF, reg_threadReg_startTask r t h htk]
  exact threadState_cleared d r.header start htk

theorem committedBytes_startTask {tk : Nat} (htk : tk < 1024) :
    (d.startTask r t start).committedBytes tk = d.committedBytes tk := by
  rw [Device.committedBytes, Device.regF, reg_threadReg_startTask r t h htk]
  exact committedBytes_cleared d r.header start htk

end

/-- The start of a local task whose start cycle has come, with no Spire in MAINT. -/
theorem startLocal_of_due {d : Device} {r : Run} {t : Task} {g : Nat} (hrun : d.lantern.run = some r)
    (hlocal : r.cluster = false) (hstart : r.start = some g) (hg : g ≤ d.now) (hmaint : d.anyMaint = false)
    (htask : d.task r.task = some t) (hst : t.state = .starting) : d.startLocal = d.startTask r t g := by
  simp [Device.startLocal, hrun, htask, hstart, hst, hlocal, advance_past hg, hmaint]

/-- Settles O14: a start writes captures, threads, the queue position and LNT_DELAY_MAX among the registers, and beside them the
task, the threads and the Dome only. -/
theorem taskStartClearsCapturesAndThreads : Obligations.TaskStartClearsCapturesAndThreads := by
  intro s r t g ha hrun hlocal hstart hg hmaint htask hst _ hthreads
  refine completes_took (f := Device.startLocal) rfl ha ?_
  rw [startLocal_of_due hrun hlocal hstart hg hmaint htask hst]
  have honly := startTask_only r t hg
  refine ⟨fun n hn => ⟨?flags, ?mxCapt, ?rckCapt, ?vxFault⟩, ?threads, fun e he => ?thread, reg_ctxW4_startTask r t hg,
    ?run, ?task, sameMemory_startTask r t hg, ?queues, ?out, ?hbm, ?net⟩
  case flags => exact reg_startTask_of_isSpireReg r t hg (isSpireReg_page hn (off := 0x8) (by decide)) (by decide)
  case mxCapt => exact reg_startTask_of_isSpireReg r t hg (isSpireReg_page hn (off := 0x10) (by decide)) (by decide)
  case rckCapt => exact reg_startTask_of_isSpireReg r t hg (isSpireReg_page hn (off := 0x18) (by decide)) (by decide)
  case vxFault => exact reg_startTask_of_isSpireReg r t hg (isSpireReg_page hn (off := 0x110) (by decide)) (by decide)
  case thread => exact ⟨threadState_startTask r t hg (hthreads e he), committedBytes_startTask r t hg (hthreads e he)⟩
  case task => rw [← id_of_task htask, task_startTask r t hg, id_of_task htask, htask]; rfl
  case run => rw [honly]; exact hrun
  case threads | queues | out | hbm | net => rw [honly]

end Sys2Proof.Machine
end

section
/-!
PROOFS. Maintenance (R84, R129, R131, R481): what arming an injection, asking for MAINT and starting a program leave in the
registers of a Spire, and that they leave the rest of the device.
-/
namespace Sys2Proof.Machine

open Sys2Proof

/-! ### Registers after a write -/

/-- A bit outside the field written is as it was. -/
theorem regBit_setF_outside (d : Device) (a x : Nat) {lo w i : Nat} (h : i < lo ∨ lo + w ≤ i) :
    (d.setF a lo w x).regBit a i = d.regBit a i := by
  rw [Device.regBit, reg_setF, bit_putFld_ne _ _ h, Device.regBit]

theorem testBit_b2n (b : Bool) : (b2n b).testBit 0 = b := by cases b <;> rfl

theorem onlyRegs_setFs (d : Device) (a : Nat) (fs : List (Nat × Nat × Nat)) : OnlyRegs [a] d (d.setFs a fs) :=
  ⟨setFs_eq d a fs, fun _ hb => reg_setFs_ne d fs (by simpa using hb)⟩

/-- Whether a task holds the Dome does not depend on registers. -/
theorem OnlyRegs.domeHeld_eq {as : List Nat} {d d' : Device} (h : OnlyRegs as d d') : d'.domeHeld = d.domeHeld := by
  obtain ⟨he, -⟩ := h
  rw [he]
  rfl

/-- Of the registers, only SPR_VX_STATUS says whether a Spire is in MAINT. -/
theorem OnlyRegs.spireMaint_eq {as : List Nat} {d d' : Device} (h : OnlyRegs as d d') {n : Nat}
    (hn : Reg.sprVxStatus n ∉ as) : d'.spireMaint n = d.spireMaint n := by
  obtain ⟨he, hr⟩ := h
  have hst : d'.regBit (Reg.sprVxStatus n) 16 = d.regBit (Reg.sprVxStatus n) 16 := by
    rw [Device.regBit, hr _ hn, Device.regBit]
  simp only [Device.spireMaint, hst]
  rw [he]
  rfl

theorem mem_of_mapFind {α : Type} {m : SMap α} {k : Nat} {v : α} (h : mapFind m k = some v) : (k, v) ∈ m := by
  induction m with
  | nil => cases h
  | cons e m ih =>
    rw [mapFind] at h
    split at h
    next hk =>
      obtain rfl := Option.some.inj h
      exact hk ▸ List.mem_cons_self
    next => exact List.mem_cons_of_mem e (ih h)

/-- A bit that reads 1 where the reset value is 0 stands in a listed register. -/
theorem exists_listed_of_regBit {d : Device} {a i : Nat} (h0 : regReset a = 0) (h : d.regBit a i = true) :
    ∃ v, (a, v) ∈ d.regs ∧ bit v i = true := by
  rw [Device.regBit, Device.reg] at h
  cases hf : mapFind d.regs a with
  | none => simp [hf, h0, bit] at h
  | some v => exact ⟨v, mem_of_mapFind hf, by simpa [hf] using h⟩

/-! ### The registers of a Spire's page -/

theorem sprVxStatus_ne_sprVxCtl (n m : Nat) : Reg.sprVxStatus n ≠ Reg.sprVxCtl m := by
  unfold Reg.sprVxStatus Reg.sprVxCtl
  omega

theorem sprVxStatus_ne_sprRckInj (n m : Nat) : Reg.sprVxStatus n ≠ Reg.sprRckInj m := by
  unfold Reg.sprVxStatus Reg.sprRckInj
  omega

theorem sprVxStatus_inj {n m : Nat} : Reg.sprVxStatus n = Reg.sprVxStatus m ↔ n = m := by
  unfold Reg.sprVxStatus
  omega

/-! ### Error injection (R481) -/

/-- INIT is as written; ARM is set when asked for an assigned initiator, and is otherwise as it was. -/
theorem errInj_effect (d : Device) (v : BitVec 32) :
    (d.errInj v).regF Reg.errInj 0 8 = fld v 0 8 ∧
    (d.errInj v).regBit Reg.errInj 31 = ((bit v 31 && initAssigned (fld v 0 8)) || d.regBit Reg.errInj 31) ∧
    OnlyRegs [Reg.errInj] d (d.errInj v) := by
  have hinit : (d.setF Reg.errInj 0 8 (fld v 0 8)).regF Reg.errInj 0 8 = fld v 0 8 := by
    rw [regF_setF _ _ _ (by decide), Nat.mod_eq_of_lt (fld_lt v 0 8)]
  have honly := onlyRegs_setF d Reg.errInj 0 8 (fld v 0 8)
  unfold Device.errInj
  cases harm : bit v 31 && initAssigned (fld v 0 8) with
  | false => exact ⟨hinit, regBit_setF_outside _ _ _ (by decide), honly⟩
  | true =>
    exact ⟨(regF_setF_ne _ _ _ (by decide)).trans hinit, regBit_setF_one _ _ _ (by decide), honly.setF (by simp) _ _ _⟩

theorem errInj_completes {s : State} (v : BitVec 32) (ha : s.dev.alive = true) :
    Completes (.errInj v) s (fun d =>
      d.regF Reg.errInj 0 8 = fld v 0 8 ∧
      (bit v 31 = true → initAssigned (fld v 0 8) = true → d.regBit Reg.errInj 31 = true) ∧
      (bit v 31 = false ∨ initAssigned (fld v 0 8) = false → d.regBit Reg.errInj 31 = s.dev.regBit Reg.errInj 31) ∧
      OnlyRegs [Reg.errInj] s.dev d) := by
  obtain ⟨hinit, harm, honly⟩ := errInj_effect s.dev v
  refine completes_took (f := (·.errInj v)) rfl ha ⟨hinit, fun hv hi => ?_, fun h => ?_, honly⟩
  · rw [harm, hv, hi]; rfl
  · rcases h with h | h <;> simp [harm, h]

/-! ### Residue injection (R84) -/

/-- ROW and COL are as written, and ARM is as it was. -/
theorem setFs_rowCol_effect (d : Device) (a : Nat) (i j : Fin 32) :
    (d.setFs a [(5, 5, i), (0, 5, j)]).regF a 5 5 = i ∧ (d.setFs a [(5, 5, i), (0, 5, j)]).regF a 0 5 = j ∧
    (d.setFs a [(5, 5, i), (0, 5, j)]).regBit a 31 = d.regBit a 31 := by
  simp only [Device.setFs]
  refine ⟨?row, ?col, ?arm⟩
  case row =>
    rw [regF_setF_ne _ _ _ (by decide), regF_setF _ _ _ (by decide)]
    exact Nat.mod_eq_of_lt i.isLt
  case col =>
    rw [regF_setF _ _ _ (by decide)]
    exact Nat.mod_eq_of_lt j.isLt
  case arm => rw [regBit_setF_outside _ _ _ (by decide), regBit_setF_outside _ _ _ (by decide)]

/-- ROW and COL are as written; ARM is set in MAINT, and is otherwise as it was. -/
theorem armInjection_effect (d : Device) (n : Nat) (i j : Fin 32) :
    (d.armInjection n i j).regF (Reg.sprRckInj n) 5 5 = i ∧ (d.armInjection n i j).regF (Reg.sprRckInj n) 0 5 = j ∧
    (d.armInjection n i j).regBit (Reg.sprRckInj n) 31 = (d.spireMaint n || d.regBit (Reg.sprRckInj n) 31) ∧
    OnlyRegs [Reg.sprRckInj n] d (d.armInjection n i j) := by
  obtain ⟨hrow, hcol, harm⟩ := setFs_rowCol_effect d (Reg.sprRckInj n) i j
  have honly := onlyRegs_setFs d (Reg.sprRckInj n) [(5, 5, i), (0, 5, j)]
  have hmaint := honly.spireMaint_eq (n := n) (by simpa using sprVxStatus_ne_sprRckInj n n)
  simp only [Device.armInjection, hmaint]
  cases d.spireMaint n with
  | false => exact ⟨hrow, hcol, harm, honly⟩
  | true =>
    exact ⟨(regF_setF_ne _ _ _ (by decide)).trans hrow, (regF_setF_ne _ _ _ (by decide)).trans hcol,
      regBit_setF_one _ _ _ (by decide), honly.setF (by simp) _ _ _⟩

/-! ### MAINT (R129) -/

theorem regBit_setMaint (d : Device) (n : Nat) (on : Bool) :
    (d.setMaint n on).regBit (Reg.sprVxStatus n) 16 = on := by
  rw [Device.setMaint, regBit_setF_one _ _ _ (by decide), testBit_b2n]

theorem regBit_setMaint_ne (d : Device) {n a : Nat} (on : Bool) (i : Nat) (h : a ≠ Reg.sprVxStatus n) :
    (d.setMaint n on).regBit a i = d.regBit a i := regBit_setF_other d _ _ _ _ h

theorem OnlyRegs.setMaint {as : List Nat} {d d' : Device} (h : OnlyRegs as d d') {n : Nat} (hn : Reg.sprVxStatus n ∈ as)
    (on : Bool) : OnlyRegs as d (d'.setMaint n on) := h.setF hn _ _ _

/-- The request stands in SPR_VX_CTL; MAINT ends at once, and begins at once unless a task holds the Dome. -/
theorem maintReq_effect (d : Device) (n : Nat) (on : Bool) :
    (d.maintReq n on).regBit (Reg.sprVxCtl n) 31 = on ∧
    (d.maintReq n on).regBit (Reg.sprVxStatus n) 16 = (on && (!d.domeHeld || d.regBit (Reg.sprVxStatus n) 16)) ∧
    OnlyRegs [Reg.sprVxCtl n, Reg.sprVxStatus n] d (d.maintReq n on) := by
  have hreq : (d.setF (Reg.sprVxCtl n) 31 1 (b2n on)).regBit (Reg.sprVxCtl n) 31 = on := by
    rw [regBit_setF_one _ _ _ (by decide), testBit_b2n]
  have hst : (d.setF (Reg.sprVxCtl n) 31 1 (b2n on)).regBit (Reg.sprVxStatus n) 16 = d.regBit (Reg.sprVxStatus n) 16 :=
    regBit_setF_other _ _ _ _ _ (sprVxStatus_ne_sprVxCtl n n)
  have honly : OnlyRegs [Reg.sprVxCtl n, Reg.sprVxStatus n] d (d.setF (Reg.sprVxCtl n) 31 1 (b2n on)) :=
    (OnlyRegs.refl d _).setF (by simp) _ _ _
  have hkeep (e : Device) (b : Bool) : (e.setMaint n b).regBit (Reg.sprVxCtl n) 31 = e.regBit (Reg.sprVxCtl n) 31 :=
    regBit_setMaint_ne e b 31 (sprVxStatus_ne_sprVxCtl n n).symm
  simp only [Device.maintReq, honly.domeHeld_eq]
  cases on with
  | false => exact ⟨(hkeep _ false).trans hreq, regBit_setMaint _ n false, honly.setMaint (by simp) false⟩
  | true =>
    cases d.domeHeld with
    | true => exact ⟨hreq, hst, honly⟩
    | false => exact ⟨(hkeep _ true).trans hreq, regBit_setMaint _ n true, honly.setMaint (by simp) true⟩

/-- A Spire whose MAINT_REQ reads 1 asks for MAINT. -/
theorem mem_maintAsked {d : Device} {n : Nat} (hn : n < 4096) (h : d.regBit (Reg.sprVxCtl n) 31 = true) :
    n ∈ d.maintAsked := by
  have hs : isSpireReg (Reg.sprVxCtl n) 0x100 = true := isSpireReg_page hn (off := 0x100) (by decide)
  obtain ⟨v, hv, hbit⟩ := exists_listed_of_regBit (regReset_of_isSpireReg hs (by decide)) h
  refine List.mem_map.2 ⟨_, List.mem_filter.2 ⟨hv, by rw [hs, hbit]; rfl⟩, ?_⟩
  rw [Reg.sprVxCtl]
  omega

theorem lt_of_mem_maintAsked {d : Device} {n : Nat} (h : n ∈ d.maintAsked) : n < 4096 := by
  obtain ⟨e, he, rfl⟩ := List.mem_map.1 h
  have hs : isSpireReg e.1 0x100 = true := (Bool.and_eq_true_iff.1 (List.mem_filter.1 he).2).1
  obtain ⟨hlo, hhi, -⟩ := isSpireReg_iff.1 hs
  omega

/-- Of several Spires put in MAINT, each shows it, and the others are as they were. -/
theorem regBit_foldl_setMaint (l : List Nat) (d : Device) (n : Nat) :
    (l.foldl (fun d m => d.setMaint m true) d).regBit (Reg.sprVxStatus n) 16 =
      (decide (n ∈ l) || d.regBit (Reg.sprVxStatus n) 16) := by
  induction l generalizing d with
  | nil => rfl
  | cons m l ih =>
    rw [List.foldl_cons, ih]
    by_cases h : n = m
    · subst h
      simp [regBit_setMaint]
    · simp [h, regBit_setMaint_ne d true 16 (mt sprVxStatus_inj.1 h)]

theorem onlyRegs_foldl_setMaint {as : List Nat} (l : List Nat) (d : Device) (h : ∀ n ∈ l, Reg.sprVxStatus n ∈ as) :
    OnlyRegs as d (l.foldl (fun d n => d.setMaint n true) d) := by
  induction l generalizing d with
  | nil => exact OnlyRegs.refl d _
  | cons m l ih =>
    obtain ⟨hm, hl⟩ := List.forall_mem_cons.1 h
    exact ((OnlyRegs.refl d _).setMaint hm true).trans (ih _ hl)

theorem maintEntry_of_free {d : Device} (h : d.domeHeld = false) :
    d.maintEntry = d.maintAsked.foldl (fun d n => d.setMaint n true) d := by simp [Device.maintEntry, h]

theorem maintEntry_of_held {d : Device} (h : d.domeHeld = true) : d.maintEntry = d := by simp [Device.maintEntry, h]

/-- While no task holds the Dome, a Spire that asks for MAINT enters it, and only VX status registers change. -/
theorem maintEntry_effect {d : Device} {n : Nat} (hn : n < 4096) (hfree : d.domeHeld = false)
    (hreq : d.regBit (Reg.sprVxCtl n) 31 = true) :
    d.maintEntry.regBit (Reg.sprVxStatus n) 16 = true ∧
    OnlyRegs ((List.range 4096).map Reg.sprVxStatus) d d.maintEntry := by
  rw [maintEntry_of_free hfree]
  refine ⟨?_, onlyRegs_foldl_setMaint _ _ fun m hm =>
    List.mem_map_of_mem (List.mem_range.2 (lt_of_mem_maintAsked hm))⟩
  rw [regBit_foldl_setMaint, decide_eq_true (mem_maintAsked hn hreq), Bool.true_or]

/-! ### Programs started in MAINT (R129, R131) -/

theorem domeTo_past {d : Device} {x : Nat} (h : x ≤ d.dome.clock) : d.domeTo x = d := by
  rw [Device.domeTo, if_pos h]

theorem vx_mapVx (d : Device) (n : Nat) (f : Vx → Vx) : (d.mapVx n f).vx n = f (d.vx n) := by
  rw [Device.vx, Device.mapVx, Device.mapSpire, spire_setSpire, Device.vx]

theorem spire_mapVx_ne (d : Device) {n m : Nat} (f : Vx → Vx) (h : m ≠ n) : (d.mapVx n f).spire m = d.spire m :=
  spire_setSpire_ne d _ h

@[simp] theorem reg_mapVx (d : Device) (n : Nat) (f : Vx → Vx) (a : Nat) : (d.mapVx n f).reg a = d.reg a := rfl

theorem sameMemory_mapVx (d : Device) (n : Nat) (f : Vx → Vx) : SameMemory d (d.mapVx n f) := ⟨rfl, rfl, rfl, rfl⟩

/-- A vector engine in which program `p` has started. -/
def Vx.started (v : Vx) (p : Prog) : Vx := { v with prog := some p, nextProg := v.nextProg + 1, loops := [], cache := none }

/-- The program that SPR_VX_CTL_START starts at `pc` in dclk `x`, in an engine in state `v` (R129). -/
def Vx.maintProg (v : Vx) (pc x : Nat) : Prog :=
  { id := v.nextProg, kind := .maint, op := 0, pc := pc, issue := x, faulted := false }

/-- Outside MAINT, SPR_VX_CTL_START writes START_PC and no more. -/
theorem vxStart_of_not_maint {d : Device} {n : Nat} (pc : Nat) (h : d.spireMaint n = false) :
    d.vxStart n pc = d.setF (Reg.sprVxCtl n) 0 11 pc := by
  have hm : (d.setF (Reg.sprVxCtl n) 0 11 pc).spireMaint n = d.spireMaint n :=
    (onlyRegs_setF d _ 0 11 pc).spireMaint_eq (by simpa using sprVxStatus_ne_sprVxCtl n n)
  exact if_pos (.inl (hm.trans h))

/-- In MAINT, with the engine idle and the Dome's clock at the present gcyc, the program starts in the present dclk. -/
theorem vxStart_of_maint {d : Device} {n : Nat} (pc : Nat) (h : d.spireMaint n = true) (hidle : (d.vx n).prog = none)
    (hclock : 4 * d.now ≤ d.dome.clock) :
    d.vxStart n pc =
      (d.setF (Reg.sprVxCtl n) 0 11 pc).mapVx n fun v => v.started (v.maintProg pc d.dome.clock) := by
  have hm : (d.setF (Reg.sprVxCtl n) 0 11 pc).spireMaint n = true :=
    ((onlyRegs_setF d _ 0 11 pc).spireMaint_eq (by simpa using sprVxStatus_ne_sprVxCtl n n)).trans h
  have hp : ((d.setF (Reg.sprVxCtl n) 0 11 pc).vx n).prog = none := hidle
  have ht : (d.setF (Reg.sprVxCtl n) 0 11 pc).domeTo (4 * (d.setF (Reg.sprVxCtl n) 0 11 pc).now) =
      d.setF (Reg.sprVxCtl n) 0 11 pc := domeTo_past hclock
  unfold Device.vxStart
  simp only [hm, hp, ht, Device.startProgram]
  rfl

theorem vxStart_completes_of_not_maint {s : State} (n : Fin 4096) (pc : Fin 2048) (ha : s.dev.alive = true)
    (h : s.dev.spireMaint n = false) :
    Completes (.sprVxCtlStart n pc) s (fun d =>
      d.regF (Reg.sprVxCtl n) 0 11 = pc ∧ OnlyRegs [Reg.sprVxCtl n] s.dev d) := by
  refine completes_took (f := (·.vxStart n pc)) rfl ha ?_
  rw [vxStart_of_not_maint pc h]
  exact ⟨(regF_setF _ _ _ (by decide)).trans (Nat.mod_eq_of_lt pc.isLt), onlyRegs_setF _ _ _ _ _⟩

theorem vxStart_completes_of_maint {s : State} (n : Fin 4096) (pc : Fin 2048) (ha : s.dev.alive = true)
    (h : s.dev.spireMaint n = true) (hidle : (s.dev.vx n).prog = none) (hclock : 4 * s.dev.now ≤ s.dev.dome.clock) :
    Completes (.sprVxCtlStart n pc) s (fun d =>
      d.regF (Reg.sprVxCtl n) 0 11 = pc ∧
      d.vx n = (s.dev.vx n).started ((s.dev.vx n).maintProg pc s.dev.dome.clock) ∧
      (∀ m, m ≠ n.val → d.spire m = s.dev.spire m) ∧ SameRegs [Reg.sprVxCtl n] s.dev d ∧ SameMemory s.dev d) := by
  refine completes_took (f := (·.vxStart n pc)) rfl ha ?_
  rw [vxStart_of_maint pc h hidle hclock]
  have honly := onlyRegs_setF s.dev (Reg.sprVxCtl n) 0 11 pc
  exact ⟨(regF_setF _ _ _ (by decide)).trans (Nat.mod_eq_of_lt pc.isLt), vx_mapVx _ _ _,
    fun m hm => spire_mapVx_ne _ _ hm, honly.2, honly.sameMemory⟩

/-- Settles O42: each command writes the registers of its own that it names; MAINT begins only while no task holds the Dome, and
a program starts only in MAINT, in an idle engine. -/
theorem maintenanceAndErrorInjection : Obligations.MaintenanceAndErrorInjection := by
  intro s n ha
  refine ⟨fun v => errInj_completes v ha, fun i j => ?rckInjArm, fun on => ?maintReq, fun hfree hreq => ?entry,
    fun hheld => ?held, fun pc => ⟨vxStart_completes_of_not_maint n pc ha, fun hm hidle hclock => ?start⟩⟩
  case rckInjArm => exact completes_took (f := (·.armInjection n i j)) rfl ha (armInjection_effect s.dev n i j)
  case maintReq => exact completes_took (f := (·.maintReq n on)) rfl ha (maintReq_effect s.dev n on)
  case entry => exact completes_took (f := Device.maintEntry) rfl ha (maintEntry_effect n.isLt hfree hreq)
  case held => exact completes_took (f := Device.maintEntry) rfl ha (maintEntry_of_held hheld)
  case start =>
    obtain ⟨d, hd, hpc, hvx, hrest⟩ := vxStart_completes_of_maint n pc ha hm hidle hclock
    refine ⟨d, hd, hpc, ?_⟩
    rw [hvx]
    exact ⟨rfl, rfl, rfl, rfl, hrest⟩

end Sys2Proof.Machine
end

section
/-!
PROOFS. The long steps of a task (R97, R179, R218, R223, R228, R326, R327): what the launch of a DOP, the start of a thread and
a change of slot tables do to the device, each said once, and the steps that do them at a stamp that has come.
-/
namespace Sys2Proof.Machine

open Sys2Proof

/-! ### Steps at a stamp that has come (R179) -/

/-- The step that is next is a step of the task that holds the Dome. -/
theorem run_of_nextStep {d : Device} {k stamp : Nat} {r : Run} {s1 : Word} (h : d.nextStep k = some (r, s1, stamp)) :
    d.lantern.run = some r := by
  unfold Device.nextStep at h
  split at h
  · cases h
  next r' hrun =>
    split at h
    · dsimp only at h
      split at h
      · obtain ⟨rfl, -⟩ := Prod.mk.inj (Option.some.inj h)
        exact hrun
      · cases h
    · cases h

/-- The task after one more step. -/
def Run.stepped (r : Run) : Run := { r with nextStep := r.nextStep + 1 }

/-- Issuing a step whose stamp has come touches only the number of the next step. -/
theorem issueStep_of_due {d : Device} {r : Run} {stamp : Nat} (hrun : d.lantern.run = some r) (h : stamp ≤ d.now) :
    d.issueStep stamp = d.setRun (some r.stepped) := by
  rw [Device.issueStep, advance_past h, Device.mapRun, hrun]
  rfl

/-! ### The launch of a DOP (R96, R97) -/

/-- A DOP as it is launched: every Spire has still to run its programs. -/
def Dop.atLaunch (op : Nat) (e : List Word) (t0 : Nat) (env : DopEnv) : Dop :=
  { op := op, desc := e, t0 := t0, env := env, left := 4096, ended := 0, stats := [], statLost := [] }

/-- A launch touches the Dome alone, and adds the DOP to those launched. -/
theorem launch_only (d : Device) (op : Nat) (e : List Word) (t0 : Nat) (env : DopEnv) :
    d.launch op e t0 env = { d with dome := (d.launch op e t0 env).dome } ∧
    (d.launch op e t0 env).dome.dops = d.dome.dops ++ [Dop.atLaunch op e t0 env] := by
  unfold Device.launch
  dsimp only
  split
  · exact ⟨rfl, rfl⟩
  · exact ⟨rfl, rfl⟩

theorem dopStep_of_due {d : Device} {r : Run} {s1 : Word} {stamp : Nat} (env : DopEnv)
    (hnext : d.nextStep 1 = some (r, s1, stamp)) (h : stamp ≤ d.now) :
    d.dopStep env = (d.setRun (some { r.stepped with nextOp := r.nextOp + 1 })).launch r.nextOp (d.dopDesc (fld s1 0 24))
      (dopT0 (d.dopDesc (fld s1 0 24)) stamp) env := by
  unfold Device.dopStep
  simp only [hnext, issueStep_of_due (run_of_nextStep hnext) h]
  rfl

theorem dopStep_completes {s : State} {r : Run} {s1 : Word} {stamp : Nat} (env : DopEnv) (ha : s.dev.alive = true)
    (h : stamp ≤ s.dev.now) (hnext : s.dev.nextStep 1 = some (r, s1, stamp)) :
    Completes (.dopStep env) s (fun d =>
      ∃ p : Dop, d.dome.dops = s.dev.dome.dops ++ [p] ∧ p.op = r.nextOp ∧ p.desc = s.dev.dopDesc (fld s1 0 24) ∧
        p.t0 = 4 * stamp + dopPhase p.desc ∧ p.left = 4096 ∧
        d.lantern.run.map (fun u => (u.task, u.nextStep, u.nextOp)) = some (r.task, r.nextStep + 1, r.nextOp + 1) ∧
        d.lantern.tasks = s.dev.lantern.tasks ∧ SameMemory s.dev d ∧ d.streams = s.dev.streams ∧
        d.queues = s.dev.queues) := by
  refine completes_took (f := (·.dopStep env)) rfl ha ?_
  rw [dopStep_of_due env hnext h]
  obtain ⟨honly, hdops⟩ := launch_only (s.dev.setRun (some { r.stepped with nextOp := r.nextOp + 1 })) r.nextOp
    (s.dev.dopDesc (fld s1 0 24)) (dopT0 (s.dev.dopDesc (fld s1 0 24)) stamp) env
  refine ⟨_, hdops, rfl, rfl, rfl, rfl, ?_⟩
  rw [honly]
  exact ⟨rfl, rfl, ⟨rfl, rfl, rfl, rfl⟩, rfl, rfl⟩

/-! ### STE_THREAD of a thread that a step names (R218, R224) -/

/-- The register of thread `tk` with nothing committed and in state `st`. -/
def Device.freshThreadReg (d : Device) (tk st : Nat) : Device := (d.setReg (threadReg tk) 0).setThreadState tk st

theorem onlyRegs_freshThreadReg (d : Device) (tk st : Nat) : OnlyRegs [threadReg tk] d (d.freshThreadReg tk st) :=
  (onlyRegs_setReg d _ 0).setF (by simp) _ _ _

theorem threadState_setThreadState (d : Device) (tk : Nat) {st : Nat} (h : st < 8) :
    (d.setThreadState tk st).threadState tk = st :=
  (regF_setF d _ st (by decide)).trans (Nat.mod_eq_of_lt h)

theorem committedBytes_freshThreadReg (d : Device) (tk st : Nat) : (d.freshThreadReg tk st).committedBytes tk = 0 := by
  have hstate := regF_setF_ne (d.setReg (threadReg tk) 0) (threadReg tk) (lo := 60) (w := 3) (lo' := 0) (w' := 48) st
    (.inr (by decide))
  refine hstate.trans ?_
  rw [Device.regF, reg_setReg]
  decide

/-- State and committed bytes of a thread are those of a device with the same register of the thread. -/
theorem threadState_congr {d d' : Device} {tk : Nat} (h : d'.reg (threadReg tk) = d.reg (threadReg tk)) :
    d'.threadState tk = d.threadState tk := congrArg (fld · 60 3) h

theorem committedBytes_congr {d d' : Device} {tk : Nat} (h : d'.reg (threadReg tk) = d.reg (threadReg tk)) :
    d'.committedBytes tk = d.committedBytes tk := congrArg (fld · 0 48) h

theorem threadReg_ne_steStopCnt (tk k : Nat) : threadReg tk ≠ Reg.steStopCnt k := by
  rw [threadReg, Reg.steThread, Reg.steStopCnt]
  omega

/-! ### Credits of a thread (R231, R325) -/

theorem sendMessage_only (d : Device) (init cmd link typ : Nat) (ws : List Nat) :
    d.sendMessage init cmd link typ ws = { d with
      net := (d.sendMessage init cmd link typ ws).net, links := (d.sendMessage init cmd link typ ws).links } := by
  unfold Device.sendMessage
  split
  · rfl
  · rfl

/-- Offering credits touches the network, the links and the total that the thread has offered, and nothing else. -/
theorem sendCredit_effect {d : Device} {tk : Nat} {x : Thread} (h : d.thread tk = some x) :
    (∃ n, (d.sendCredit tk).thread tk = some { x with offered := n }) ∧
    d.sendCredit tk = { d with
      streams := { d.streams with threads := (d.sendCredit tk).streams.threads }
      net := (d.sendCredit tk).net, links := (d.sendCredit tk).links } := by
  unfold Device.sendCredit
  simp only [h]
  split
  · exact ⟨⟨x.offered, h⟩, rfl⟩
  · rw [sendMessage_only]
    exact ⟨⟨_, thread_setThread d tk _⟩, rfl⟩

/-! ### The start of a thread (R218, R223, R228) -/

/-- Thread `x` stands at the start of descriptor `e`, taken up at `stamp` by function `f`: nothing issued, nothing committed. -/
structure Thread.AtStart (x : Thread) (e : List Word) (stamp f : Nat) : Prop where
  desc : x.desc = e
  stamp : x.stamp = stamp
  next : x.next = 0
  committed : x.committed = 0
  func : x.func = f

/-- The start of a thread, after its ring quarter, if it writes one, has been reset: its register, the thread at the start of its
descriptor, and its first credits. -/
theorem startThread_eq (d : Device) (tk stamp f v : Nat) (e : List Word) :
    ∃ (x : Thread) (c : Device),
      d.startThread tk stamp f v e = ((c.freshThreadReg tk 1).setThread tk (some x)).sendCredit tk ∧ x.AtStart e stamp f ∧
      c = { d with streams := { d.streams with full := c.streams.full, quarters := c.streams.quarters } } := by
  unfold Device.startThread
  refine ⟨_, _, rfl, ⟨rfl, rfl, rfl, rfl, rfl⟩, ?_⟩
  split
  · rfl
  · rfl

/-- A started thread is RUNNING at the start of its descriptor; of the registers only its own changes, and of the streams neither
the cache nor anything but threads and ring quarters. -/
theorem startThread_effect (d : Device) (tk stamp f v : Nat) (e : List Word) :
    (∃ x : Thread, (d.startThread tk stamp f v e).thread tk = some x ∧ x.AtStart e stamp f) ∧
    (d.startThread tk stamp f v e).threadState tk = 1 ∧ (d.startThread tk stamp f v e).committedBytes tk = 0 ∧
    SameRegs [threadReg tk] d (d.startThread tk stamp f v e) ∧ SameMemory d (d.startThread tk stamp f v e) ∧
    (d.startThread tk stamp f v e).lantern = d.lantern := by
  obtain ⟨x, c, heq, hx, hc⟩ := startThread_eq d tk stamp f v e
  obtain ⟨⟨n, hthread⟩, honly⟩ := sendCredit_effect (thread_setThread (c.freshThreadReg tk 1) tk (some x))
  have hreg (a : Nat) : (d.startThread tk stamp f v e).reg a = (c.freshThreadReg tk 1).reg a := by
    rw [heq, honly]
    rfl
  refine ⟨⟨{ x with offered := n }, heq ▸ hthread, ⟨hx.desc, hx.stamp, hx.next, hx.committed, hx.func⟩⟩, ?state,
    ?committed, fun a ha => ?regs, ?memory, ?lantern⟩
  case state => exact (threadState_congr (hreg _)).trans (threadState_setThreadState _ tk (by decide))
  case committed => exact (committedBytes_congr (hreg _)).trans (committedBytes_freshThreadReg c tk 1)
  case regs =>
    rw [hreg, (onlyRegs_freshThreadReg c tk 1).2 a ha, hc]
    rfl
  case memory =>
    rw [heq, honly, hc]
    exact ⟨rfl, rfl, rfl, rfl⟩
  case lantern =>
    rw [heq, honly, hc]
    rfl

/-! ### The index of a thread (R228) -/

theorem replaceOld_of_none {d : Device} {tk : Nat} (h : d.thread tk = none) : d.replaceOld tk = d := by
  simp [Device.replaceOld, h]

/-- A descriptor that takes no index has index 0. -/
theorem streamIndex_of_fixed (d : Device) (r : Run) {e : List Word} (ecc : Ecc) (h : fld (wd e 0) 24 2 = 0) :
    d.streamIndex r e ecc = (some 0, d) := by
  simp [Device.streamIndex, h]

/-- There is no index to take from an empty queue. -/
theorem streamIndex_of_empty {d : Device} {r : Run} {e : List Word} (ecc : Ecc) (h : fld (wd e 0) 24 2 = 2)
    (hq : (d.queue (d.ctxQueue r.ctx)).cells = []) : d.streamIndex r e ecc = (none, d) := by
  simp [Device.streamIndex, h, hq]

/-! ### STREAM_STEP (R179, R223, R228) -/

/-- Number of the thread that the word S1 of a STREAM step names. -/
def stepThread (s1 : Word) : Nat := 256 * fld s1 0 2 + fld s1 2 8

theorem stepThread_engine (s1 : Word) : stepThread s1 / 256 = fld s1 0 2 := by
  have h : fld s1 2 8 < 256 := fld_lt s1 2 8
  rw [stepThread]
  omega

/-- The descriptor that the word S1 of a STREAM step names. -/
def Device.stepDesc (d : Device) (s1 : Word) : List Word := d.schedWords (128 * fld s1 10 22) 16

/-- A STREAM step at a stamp that has come, for a thread that runs nothing: with an index `i` the thread starts; without one it is
STOPPED, the stop is counted and the task is marked. -/
theorem streamStep_of_due {d : Device} {r : Run} {s1 : Word} {stamp : Nat} {i : Option Nat} {ecc : Ecc}
    (hnext : d.nextStep 2 = some (r, s1, stamp)) (h : stamp ≤ d.now) (hthread : d.thread (stepThread s1) = none)
    (hindex : (d.setRun (some r.stepped)).streamIndex r (d.stepDesc s1) ecc = (i, d.setRun (some r.stepped))) :
    d.streamStep ecc = i.elim
      ((((d.setRun (some r.stepped)).freshThreadReg (stepThread s1) 4).bump (Reg.steStopCnt (fld s1 0 2)) 1).markPoison 52)
      (fun v => (d.setRun (some r.stepped)).startThread (stepThread s1) stamp (d.ctxFunc r.ctx) v (d.stepDesc s1)) := by
  have hold : (d.setRun (some r.stepped)).replaceOld (256 * fld s1 0 2 + fld s1 2 8) = d.setRun (some r.stepped) :=
    replaceOld_of_none hthread
  have hdesc : (d.setRun (some r.stepped)).schedWords (128 * fld s1 10 22) 16 = d.stepDesc s1 := rfl
  rw [← stepThread_engine]
  unfold Device.streamStep
  simp only [hnext, issueStep_of_due (run_of_nextStep hnext) h, hold, hdesc, hindex]
  cases i with
  | none => rfl
  | some v => rfl

/-- A descriptor that takes no index starts its thread. -/
theorem streamStep_starts {s : State} {r : Run} {s1 : Word} {stamp : Nat} (ha : s.dev.alive = true)
    (h : stamp ≤ s.dev.now) (hnext : s.dev.nextStep 2 = some (r, s1, stamp)) (hthread : s.dev.thread (stepThread s1) = none)
    (hpub : fld (wd (s.dev.stepDesc s1) 0) 24 2 = 0) :
    Completes (.streamStep .clean) s (fun d =>
      (∃ x : Thread, d.thread (stepThread s1) = some x ∧
        x.AtStart (s.dev.stepDesc s1) stamp (s.dev.ctxFunc r.ctx)) ∧
      d.threadState (stepThread s1) = 1 ∧ d.committedBytes (stepThread s1) = 0 ∧ d.lantern.run = some r.stepped ∧
      SameMemory s.dev d ∧ SameRegs [threadReg (stepThread s1)] s.dev d) := by
  refine completes_took (f := (·.streamStep .clean)) rfl ha ?_
  rw [streamStep_of_due hnext h hthread (streamIndex_of_fixed _ r .clean hpub), Option.elim_some]
  obtain ⟨hx, hstate, hcommitted, hregs, hmem, hlantern⟩ := startThread_effect (s.dev.setRun (some r.stepped))
    (stepThread s1) stamp (s.dev.ctxFunc r.ctx) 0 (s.dev.stepDesc s1)
  exact ⟨hx, hstate, hcommitted, congrArg Lantern.run hlantern, hmem, hregs⟩

/-- A descriptor that takes its index from an empty queue does not start its thread. -/
theorem streamStep_stops {s : State} {r : Run} {s1 : Word} {stamp : Nat} (ha : s.dev.alive = true)
    (h : stamp ≤ s.dev.now) (hnext : s.dev.nextStep 2 = some (r, s1, stamp)) (hthread : s.dev.thread (stepThread s1) = none)
    (hpub : fld (wd (s.dev.stepDesc s1) 0) 24 2 = 2)
    (hempty : (s.dev.queue (s.dev.ctxQueue r.ctx)).cells = []) :
    Completes (.streamStep .clean) s (fun d =>
      d.thread (stepThread s1) = none ∧ d.threadState (stepThread s1) = 4 ∧ d.committedBytes (stepThread s1) = 0 ∧
      d.reg (Reg.steStopCnt (fld s1 0 2)) = s.dev.reg (Reg.steStopCnt (fld s1 0 2)) + 1 ∧
      d.lantern.run.map (fun u => (u.poisoned, u.nextStep)) = some (true, r.nextStep + 1) ∧ SameMemory s.dev d ∧
      SameRegs [threadReg (stepThread s1), Reg.steStopCnt (fld s1 0 2)] s.dev d) := by
  refine completes_took (f := (·.streamStep .clean)) rfl ha ?_
  rw [streamStep_of_due hnext h hthread (streamIndex_of_empty .clean hpub hempty), Option.elim_none]
  generalize hd : (s.dev.setRun (some r.stepped)).freshThreadReg (stepThread s1) 4 = d
  have hfresh : OnlyRegs [threadReg (stepThread s1)] (s.dev.setRun (some r.stepped)) d :=
    hd ▸ onlyRegs_freshThreadReg _ _ _
  have hreg := reg_bump_ne d 1 (threadReg_ne_steStopCnt (stepThread s1) (fld s1 0 2))
  refine ⟨?thread, ?state, ?committed, ?count, ?run, ?memory, fun a ha => ?regs⟩
  case thread => rw [← hd]; exact hthread
  case state =>
    refine (threadState_congr hreg).trans ?_
    rw [← hd]
    exact threadState_setThreadState _ _ (by decide)
  case committed =>
    refine (committedBytes_congr hreg).trans ?_
    rw [← hd]
    exact committedBytes_freshThreadReg _ _ _
  case count =>
    rw [reg_markPoison, reg_bump, hfresh.2 _ (by simpa using (threadReg_ne_steStopCnt _ _).symm)]
    rfl
  case run => rw [← hd]; rfl
  case memory => rw [← hd]; exact ⟨rfl, rfl, rfl, rfl⟩
  case regs =>
    simp only [List.mem_cons, List.not_mem_nil, or_false, not_or] at ha
    rw [reg_markPoison, reg_bump_ne d 1 ha.2, hfresh.2 a (by simpa using ha.1)]
    rfl

/-! ### Slot tables (R326, R327) -/

theorem mem_linksOf {w : Word} {n : Nat} : n ∈ linksOf w ↔ n < 64 ∧ bit w n = true := by
  simp [linksOf]

/-- A table as it is current on link `n` of `d` from `stamp` on. -/
def SlotTable.startingAt (t : SlotTable) (d : Device) (n stamp : Nat) : SlotTable :=
  { t with first := (stamp + d.frameLen n - 1) / d.frameLen n }

/-- Making a table current touches only which tables are in use. -/
theorem foldl_useTable_only (l : List Nat) (d : Device) (stamp : Nat) (t : SlotTable) :
    l.foldl (fun c n => c.useTable n stamp t) d = { d with links := { d.links with
      before := (l.foldl (fun c n => c.useTable n stamp t) d).links.before
      tables := (l.foldl (fun c n => c.useTable n stamp t) d).links.tables } } := by
  induction l generalizing d with
  | nil => rfl
  | cons m l ih =>
    rw [List.foldl_cons, ih]
    rfl

theorem tables_useTable (d : Device) (m stamp : Nat) (t : SlotTable) (n : Nat) :
    mapGet none (d.useTable m stamp t).links.tables n =
      if n = m then some (t.startingAt d n stamp) else mapGet none d.links.tables n := by
  unfold Device.useTable
  by_cases h : n = m
  · subst h
    rw [if_pos rfl]
    exact mapGet_mapPut ..
  · rw [if_neg h]
    exact mapGet_mapPut_ne _ _ _ h

/-- The table is current on each of the links, and the others keep theirs. -/
theorem tables_foldl_useTable (l : List Nat) (d : Device) (stamp : Nat) (t : SlotTable) (n : Nat) :
    mapGet none (l.foldl (fun c n => c.useTable n stamp t) d).links.tables n =
      if n ∈ l then some (t.startingAt d n stamp) else mapGet none d.links.tables n := by
  induction l generalizing d with
  | nil => rfl
  | cons m l ih =>
    have hsame : t.startingAt (d.useTable m stamp t) n stamp = t.startingAt d n stamp := rfl
    rw [List.foldl_cons, ih, tables_useTable, hsame]
    by_cases hl : n ∈ l <;> by_cases hm : n = m <;> simp [hl, hm]

/-- The slot table that a LINKTAB step of slot `slot` names (R420). -/
def Device.stepTable (d : Device) (slot : Nat) (s1 : Word) : SlotTable :=
  let ws := d.schedWords (d.allocBase slot + 16 * fld s1 0 16) 2
  { mask := wd ws 0, period := fld (wd ws 1) 0 6 + 1, entries := d.allocBase slot + 8 * fld (wd ws 1) 6 26, first := 0 }

theorem linktabStep_of_due {d : Device} {r : Run} {s1 : Word} {stamp : Nat} (hnext : d.nextStep 3 = some (r, s1, stamp))
    (h : stamp ≤ d.now) :
    d.linktabStep = (linksOf (d.stepTable r.slot s1).mask).foldl (fun c n => c.useTable n stamp (d.stepTable r.slot s1))
      (d.setRun (some r.stepped)) := by
  have hbase : (d.setRun (some r.stepped)).allocBase r.slot = d.allocBase r.slot := rfl
  have hsched (off n : Nat) : (d.setRun (some r.stepped)).schedWords off n = d.schedWords off n := rfl
  unfold Device.linktabStep
  simp only [hnext, issueStep_of_due (run_of_nextStep hnext) h, hbase, hsched, Device.stepTable]

theorem linktabStep_completes {s : State} {r : Run} {s1 : Word} {stamp : Nat} (ha : s.dev.alive = true)
    (h : stamp ≤ s.dev.now) (hnext : s.dev.nextStep 3 = some (r, s1, stamp)) :
    Completes .linktabStep s (fun d =>
      d.lantern.run = some r.stepped ∧ d.regs = s.dev.regs ∧ SameMemory s.dev d ∧
      ∀ n, mapGet none d.links.tables n =
        if n ∈ linksOf (s.dev.stepTable r.slot s1).mask then some ((s.dev.stepTable r.slot s1).startingAt s.dev n stamp)
        else mapGet none s.dev.links.tables n) := by
  refine completes_took (f := Device.linktabStep) rfl ha ?_
  rw [linktabStep_of_due hnext h]
  generalize s.dev.stepTable r.slot s1 = t
  have honly := foldl_useTable_only (linksOf t.mask) (s.dev.setRun (some r.stepped)) stamp t
  refine ⟨?run, ?regs, ?memory, tables_foldl_useTable (linksOf t.mask) (s.dev.setRun (some r.stepped)) stamp t⟩
  case run => rw [honly]; rfl
  case regs => rw [honly]; rfl
  case memory => rw [honly]; exact ⟨rfl, rfl, rfl, rfl⟩

/-- Settles O16: a launch touches the Dome alone; a STREAM step writes its thread's register and, without an index, the count of
stops; a LINKTAB step changes the tables of the links of its mask and no others. -/
theorem dopStreamAndLinktabStepsStartTheirWork : Obligations.DopStreamAndLinktabStepsStartTheirWork := by
  intro s r s1 stamp ha h
  refine ⟨fun hnext env => dopStep_completes env ha h hnext, fun hnext e tk he htk hthread => ?stream, fun hnext => ?linktab⟩
  case stream =>
    subst he htk
    refine ⟨fun hpub => ?starts, fun hpub hempty => streamStep_stops ha h hnext hthread hpub hempty⟩
    obtain ⟨d, hd, ⟨x, hx, hstart⟩, hrest⟩ := streamStep_starts ha h hnext hthread hpub
    exact ⟨d, hd, x, hx, hstart.desc, hstart.stamp, hstart.next, hstart.committed, hstart.func, hrest⟩
  case linktab =>
    obtain ⟨d, hd, hrun, hregs, hmem, htables⟩ := linktabStep_completes ha h hnext
    refine ⟨d, hd, hrun, hregs, hmem, fun n hn mask hmask => ?_⟩
    have hmask : mask = (s.dev.stepTable r.slot s1).mask := hmask
    subst hmask
    refine ⟨fun hbit => ?on, fun hbit => ?off⟩
    case on =>
      rw [htables, if_pos (mem_linksOf.2 ⟨hn, hbit⟩)]
      rfl
    case off =>
      rw [htables, if_neg fun hl => Bool.false_ne_true (hbit.symm.trans (mem_linksOf.1 hl).2)]

end Sys2Proof.Machine
end

section
/-!
PROOFS. Reads at their targets (R117, R256, R258, R277, R282, R284, R288, R404): how a transaction is answered, what a packet that
has come, in its turn, meets, and what each target does with a read.
-/
namespace Sys2Proof.Machine

open Sys2Proof

/-! ### Transactions (R277) -/

theorem id_of_txn {d : Device} {id : Nat} {t : Txn} (h : d.txn id = some t) : t.id = id := by
  simpa using List.find?_some h

/-- A transaction after an update under its number that keeps the number. -/
theorem txn_mapTxn {d : Device} {id : Nat} {t : Txn} {f : Txn → Txn} (h : d.txn id = some t) (hf : ∀ t, (f t).id = t.id) :
    (d.mapTxn id f).txn id = some (f t) := by
  have hp : (fun t : Txn => t.id == id) ∘ (fun t => if t.id = id then f t else t) = fun t => t.id == id := by
    funext t
    by_cases h : t.id = id <;> simp [h, hf]
  have hfind : d.net.txns.find? (fun t => t.id == id) = some t := h
  simp only [Device.txn, Device.mapTxn, List.find?_map, hp, hfind, Option.map_some, if_pos (id_of_txn h)]

/-- The response goes into the network: its transaction is RESPONDED, and only the network changes. -/
theorem txn_answer {d : Device} {id : Nat} {t : Txn} (h : d.txn id = some t) :
    (d.answer id).txn id = some { t with phase := .responded, rank := d.net.nextRank } := by
  have hm : (d.mapTxn id (fun t => { t with phase := .responded, rank := d.net.nextRank })).txn id =
      some { t with phase := .responded, rank := d.net.nextRank } := txn_mapTxn h fun _ => rfl
  simp only [Device.answer, h]
  exact hm

theorem answer_only (d : Device) (id : Nat) : d.answer id = { d with net := (d.answer id).net } := by
  unfold Device.answer
  cases d.txn id <;> rfl

theorem txn_respond {d : Device} {id status : Nat} {t : Txn} (h : d.txn id = some t) :
    (d.respond id status).txn id = some { t with status := status, phase := .responded, rank := d.net.nextRank } := by
  have hm : (d.mapTxn id (fun t => { t with status := status })).txn id = some { t with status := status } :=
    txn_mapTxn h fun _ => rfl
  exact txn_answer hm

theorem respond_only (d : Device) (id status : Nat) : d.respond id status = { d with net := (d.respond id status).net } :=
  answer_only _ id

theorem deliver_only (d : Device) (id i : Nat) (u : DUnit) : d.deliver id i u = { d with net := (d.deliver id i u).net } := by
  unfold Device.deliver
  dsimp only
  split
  · exact answer_only _ id
  · rfl

theorem staleFills_only (d : Device) (u : Nat) : d.staleFills u = { d with net := (d.staleFills u).net } := by
  unfold Device.staleFills
  dsimp only
  split <;> rfl

/-- A read of one unit once the unit is there. -/
def Txn.answered (t : Txn) (u : DUnit) (rank : Nat) : Txn := { t with got := [(0, some u)], phase := .responded, rank := rank }

theorem units_answered {t : Txn} (h : t.len = 1) (u : DUnit) (rank : Nat) : (t.answered u rank).units = [u] := by
  simp [Txn.units, Txn.answered, h, mapGet, mapFind]

/-- The only unit of a read is there, and the response goes back. -/
theorem txn_deliver {d : Device} {id : Nat} {t : Txn} (h : d.txn id = some t) (hlen : t.len = 1) (hgot : t.got = []) (u : DUnit) :
    (d.deliver id 0 u).txn id = some (t.answered u d.net.nextRank) := by
  have hput : mapPut none t.got 0 (some u) = [(0, some u)] := by simp [hgot, mapPut]
  have hm : (d.mapTxn id (fun t => { t with got := mapPut none t.got 0 (some u) })).txn id =
      some { t with got := mapPut none t.got 0 (some u) } := txn_mapTxn h fun _ => rfl
  rw [hput] at hm
  unfold Device.deliver
  dsimp only
  rw [hm, if_pos (by simp [hlen])]
  exact txn_answer hm

/-! ### Packets that have come (R282, R284) -/

theorem arriveBy_of_arrived {d : Device} {p : Packet} (h : d.travels p = false) (fuel : Nat) : d.arriveBy p fuel = d := by
  cases fuel <;> simp [Device.arriveBy, h]

/-- A request that has come, with none before it on its way, is served. -/
theorem onRequest_of_arrived {d : Device} {t : Txn} (f : Device → Txn → Device) (ht : d.txn t.id = some t)
    (hcame : d.travels (.request t.id) = false) (hturn : ∀ v ∈ d.net.txns, d.requestBefore t v = false) :
    d.onRequest t.id f = f d t := by
  have hnone : d.net.txns.any (d.requestBefore t) = false := by
    rw [List.any_eq_false]
    exact fun v hv => by simp [hturn v hv]
  simp [Device.onRequest, arriveBy_of_arrived hcame, ht, hcame, hnone]

/-- A packet whose header fails: its transaction is lost, and one counter moves. -/
theorem loseTxn_effect {d : Device} {t : Txn} (p : Packet) (ht : d.txn t.id = some t) :
    ((d.loseTxn t.id p).txn t.id).map (fun u => u.phase) = some .lost ∧
    (d.loseTxn t.id p).reg Reg.sncHdrDropCnt = d.reg Reg.sncHdrDropCnt + 1 ∧
    SameRegs [Reg.sncHdrDropCnt] d (d.loseTxn t.id p) ∧ SameMemory d (d.loseTxn t.id p) ∧
    (d.loseTxn t.id p).lantern = d.lantern ∧ (d.loseTxn t.id p).out = d.out := by
  have hm : (d.loseTxn t.id p).txn t.id = some { t with phase := .lost } :=
    txn_mapTxn (d := (d.bump Reg.sncHdrDropCnt 1).dropPacket p) ht fun _ => rfl
  refine ⟨?_, reg_bump d _ 1, (onlyRegs_bump d _ 1).2, ⟨rfl, rfl, rfl, rfl⟩, rfl, rfl⟩
  rw [hm]
  rfl

/-! ### Reads at their targets -/

section
variable {d : Device} {t : Txn}

theorem netRead_of_sent (hcmd : t.cmd = .read) (hph : t.phase = .sent) (ht : d.txn t.id = some t)
    (hcame : d.travels (.request t.id) = false) (hturn : ∀ v ∈ d.net.txns, d.requestBefore t v = false)
    (ecc : List (Nat × Ecc)) : d.netRead t.id true ecc = d.serveRead t ecc := by
  simp only [Device.netRead, ht, hcmd, hph, ne_eq, not_true_eq_false, if_false, if_true]
  exact onRequest_of_arrived _ ht hcame hturn

theorem netRead_of_failed (hcmd : t.cmd = .read) (hph : t.phase = .sent) (ht : d.txn t.id = some t) (ecc : List (Nat × Ecc)) :
    d.netRead t.id false ecc = d.loseTxn t.id (.request t.id) := by
  simp [Device.netRead, ht, hcmd, hph]

/-- The device while the target of a read works on it. -/
def Device.servingRead (d : Device) (id : Nat) : Device := d.mapTxn id (fun t => { t with phase := .atTarget })

theorem txn_servingRead (ht : d.txn t.id = some t) : (d.servingRead t.id).txn t.id = some { t with phase := .atTarget } :=
  txn_mapTxn ht fun _ => rfl

/-- Where only the network differs, registers and memories are as they were. -/
theorem regs_of_net {d d' : Device} (h : d' = { d with net := d'.net }) : d'.regs = d.regs := by rw [h]

theorem sameMemory_of_net {d d' : Device} (h : d' = { d with net := d'.net }) : SameMemory d d' := by
  rw [h]
  exact ⟨rfl, rfl, rfl, rfl⟩

/-- A refused read is answered with poisoned zeros and STATUS 0x1, and its unit counted (R277). -/
theorem refuseRead_effect {v : Txn} (hv : d.txn t.id = some v) (hlen : t.len = 1) (hvlen : v.len = 1) (hgot : v.got = []) :
    ((d.refuseRead t).txn t.id).map (fun u => (u.phase, u.status, u.units)) = some (.responded, 1, [poisonUnit]) ∧
    (d.refuseRead t).reg Reg.errUncorrCnt = d.reg Reg.errUncorrCnt + 1 ∧
    SameRegs [Reg.errUncorrCnt] d (d.refuseRead t) ∧ SameMemory d (d.refuseRead t) := by
  have hs : ((d.bump Reg.errUncorrCnt 1).mapTxn t.id (fun t => { t with status := 1 })).txn t.id = some { v with status := 1 } :=
    txn_mapTxn (d := d.bump Reg.errUncorrCnt 1) hv fun _ => rfl
  have honly := deliver_only ((d.bump Reg.errUncorrCnt 1).mapTxn t.id (fun t => { t with status := 1 })) t.id 0 poisonUnit
  have hbump := onlyRegs_bump d Reg.errUncorrCnt 1
  simp only [Device.refuseRead, hlen, List.replicate_one, Device.deliverAll]
  refine ⟨?_, ?_, fun b hb => ?_, ?_⟩
  · rw [txn_deliver hs hvlen hgot, Option.map_some, units_answered (by exact hvlen)]
    rfl
  · rw [honly]
    exact reg_bump d _ 1
  · rw [honly]
    exact hbump.2 b hb
  · rw [honly]
    exact hbump.sameMemory

/-- A read of one unit that its target has served: answered with the unit, and only the network has changed. -/
theorem deliver_effect (ht : d.txn t.id = some t) (hlen : t.len = 1) (hgot : t.got = []) (u : DUnit) :
    ((d.deliver t.id 0 u).txn t.id).map (fun v => (v.phase, v.status, v.units)) = some (.responded, t.status, [u]) ∧
    (d.deliver t.id 0 u).regs = d.regs ∧ SameMemory d (d.deliver t.id 0 u) := by
  have honly := deliver_only d t.id 0 u
  refine ⟨?_, regs_of_net honly, sameMemory_of_net honly⟩
  rw [txn_deliver ht hlen hgot, Option.map_some, units_answered hlen]
  rfl

theorem phase_units_of_answer {o : Option Txn} {ph : NetPhase} {k : Nat} {us : List DUnit}
    (h : o.map (fun v => (v.phase, v.status, v.units)) = some (ph, k, us)) : o.map (fun v => (v.phase, v.units)) = some (ph, us) := by
  cases o with
  | none => cases h
  | some v =>
    simp only [Option.map_some, Option.some.injEq, Prod.mk.injEq] at h ⊢
    exact ⟨h.1, h.2.2⟩

/-! ### What each target does with a read (R256, R258, R288, R404) -/

theorem hbmReads_mapped {a u off : Nat} (h : d.hbmDecode a = some (u, off)) :
    d.hbmReads t [a] = d.hbmRead t.id 0 u t.sched := by simp [Device.hbmReads, h]

theorem hbmReads_unmapped {a : Nat} (h : d.hbmDecode a = none) : d.hbmReads t [a] = d.unmapped.refuseRead t := by
  simp [Device.hbmReads, h]

/-- A read of one line, without errors, finds what the line holds. -/
theorem serveTile_read (hcmd : t.cmd = .read) (hlen : t.len = 1) (l : Nat) :
    d.serveTile t l [] = d.deliver t.id 0 (d.tile.unit l) := by
  rw [Device.serveTile, if_pos hcmd, Device.readTiles, hlen]
  rfl

theorem gateway_of_open (h : d.domeOpen = true) (l : Nat) (ecc : List (Nat × Ecc)) :
    d.gateway t l ecc = d.serveTile t l ecc := if_pos h

theorem domeOpen_of_run {r : Run} (h : d.lantern.run = some r) : d.domeOpen = false := by simp [Device.domeOpen, h]

/-- While a task holds the Dome, a request is held at its gateway and counted, and no wake is asked for (R288). -/
theorem gateway_of_run {r : Run} (h : d.lantern.run = some r) (l : Nat) (ecc : List (Nat × Ecc)) :
    d.gateway t l ecc = (d.bump Reg.sncGwHoldCnt 1).mapTxn t.id (fun t => { t with phase := .held }) := by
  simp [Device.gateway, domeOpen_of_run h, Device.mapTxn, h]

section
variable {a : Nat} (htar : t.target = .mem a)
include htar

theorem serveRead_hbm (hlen : t.len = 1) (hs : localSpace a = .hbm a) (ecc : List (Nat × Ecc)) :
    d.serveRead t ecc = (d.servingRead t.id).hbmReads t [a] := by
  simp [Device.serveRead, htar, hs, hlen, Device.servingRead]

theorem serveRead_tile {l : Nat} (hs : localSpace a = .tile l) (ecc : List (Nat × Ecc)) :
    d.serveRead t ecc = (d.servingRead t.id).gateway t l ecc := by
  simp [Device.serveRead, htar, hs, Device.servingRead]

theorem serveRead_open (hlen : t.len = 1) {o : Nat} (hs : localSpace a = .regs o) (ho : openRegister o = true)
    (ecc : List (Nat × Ecc)) : d.serveRead t ecc = (d.servingRead t.id).deliver t.id 0 zeroUnit := by
  simp [Device.serveRead, htar, hs, ho, hlen, Device.servingRead, Device.deliverAll]

theorem serveRead_refused (hs : localSpace a = .nowhere ∨ ∃ o, localSpace a = .regs o ∧ openRegister o = false)
    (ecc : List (Nat × Ecc)) : d.serveRead t ecc = (d.servingRead t.id).refuseRead t := by
  rcases hs with hs | ⟨o, hs, ho⟩
  · simp [Device.serveRead, htar, hs, Device.servingRead]
  · simp [Device.serveRead, htar, hs, ho, Device.servingRead]

theorem gatewayRelease_of_held (ht : d.txn t.id = some t) (hph : t.phase = .held) {l : Nat} (hs : localSpace a = .tile l)
    (hopen : d.domeOpen = true) (ecc : List (Nat × Ecc)) : d.gatewayRelease t.id ecc = d.serveTile t l ecc := by
  have hl : tileAddrLine a = l := by
    simp only [localSpace] at hs
    split at hs
    · cases hs
    split at hs
    · exact LocalSpace.tile.inj hs
    split at hs <;> cases hs
  simp [Device.gatewayRelease, ht, hph, htar, hopen, hl]

end

theorem gatewayRelease_of_run (ht : d.txn t.id = some t) {r : Run} (h : d.lantern.run = some r) (ecc : List (Nat × Ecc)) :
    d.gatewayRelease t.id ecc = d := by
  simp only [Device.gatewayRelease, ht, domeOpen_of_run h, h]
  split
  · rfl
  split <;> simp

/-- A read arrives at its controller behind those of its gcyc (R256, R258, R265). -/
theorem hbmRead_effect (d : Device) (id i u : Nat) (sched : Bool) :
    (∃ r : RdEntry, ((d.hbmRead id i u sched).pc (u / pcUnits)).arriving = (d.pc (u / pcUnits)).arriving ++ [r] ∧ r.unit = u ∧
      r.txn = id ∧ r.index = i ∧ r.sched = sched ∧ r.reread = false) ∧
    (d.hbmRead id i u sched).regs = d.regs ∧ SameMemory d (d.hbmRead id i u sched) ∧
    (d.hbmRead id i u sched).net = d.net := by
  refine ⟨⟨{ unit := u, txn := id, index := i, sched := sched, seq := d.hbm.seq, reread := false, data := zeroUnit }, ?_, rfl, rfl,
    rfl, rfl, rfl⟩, rfl, ⟨rfl, rfl, rfl, rfl⟩, rfl⟩
  rw [Device.hbmRead, pc_setPc]

end

/-- Settles O22: a read whose packet has come, in its turn, takes the way of its target, and its answer changes the network
alone; what is counted besides is the header that failed, the hold at the gateway, or the unit refused. -/
theorem readsAreServedByTheirTarget : Obligations.ReadsAreServedByTheirTarget := by
  intro s t a ha ht hcmd hlen hgot htar
  refine ⟨fun hph hcame hturn => ⟨fun ecc => ?failed, fun u off pk hs hdec hpk => ?hbm, fun hs hdec => ?unmapped,
    fun l hs => ⟨fun hopen => ?tile, fun r hr => ?held⟩, fun o hs ho => ?openRegister, fun hs => ?refused⟩,
    fun hph l hs => ⟨fun hopen => ?released, fun r hr => ?stillHeld⟩⟩
  case failed =>
    refine completes_took (f := (·.netRead t.id false ecc)) rfl ha ?_
    rw [netRead_of_failed hcmd hph ht]
    exact loseTxn_effect _ ht
  case released =>
    refine completes_took (f := (·.gatewayRelease t.id [])) rfl ha ?_
    rw [gatewayRelease_of_held htar ht hph hs hopen, serveTile_read hcmd hlen]
    obtain ⟨htx, hregs, hmem⟩ := deliver_effect ht hlen hgot (s.dev.tile.unit l)
    exact ⟨phase_units_of_answer htx, hregs, hmem⟩
  case stillHeld =>
    exact completes_took (f := (·.gatewayRelease t.id [])) rfl ha (gatewayRelease_of_run ht hr [])
  all_goals
    refine completes_took (f := (·.netRead t.id true [])) rfl ha ?_
    rw [netRead_of_sent hcmd hph ht hcame hturn]
    have hserving := txn_servingRead ht
  case hbm =>
    subst hpk
    rw [serveRead_hbm htar hlen hs, hbmReads_mapped (d := s.dev.servingRead t.id) hdec]
    obtain ⟨harr, hregs, hmem, hnet⟩ := hbmRead_effect (s.dev.servingRead t.id) t.id 0 u t.sched
    refine ⟨harr, ?_, hregs, hmem⟩
    rw [Device.txn, hnet, ← Device.txn, hserving]
    rfl
  case unmapped =>
    rw [serveRead_hbm htar hlen hs, hbmReads_unmapped (d := s.dev.servingRead t.id) hdec]
    have hbump := onlyRegs_bump (s.dev.servingRead t.id) Reg.hbcUnmappedCnt 1
    obtain ⟨htx, hcnt, hregs, hmem⟩ := refuseRead_effect (d := (s.dev.servingRead t.id).unmapped) hserving hlen hlen hgot
    refine ⟨htx, ?_, ?_, fun b hb => ?_, hmem⟩
    · rw [hregs _ (by decide)]
      exact reg_bump _ _ 1
    · rw [hcnt]
      exact congrArg (· + 1) (hbump.2 _ (by decide))
    · rw [List.mem_cons, not_or] at hb
      exact (hregs b hb.2).trans (hbump.2 b (by simpa using hb.1))
  case tile =>
    rw [serveRead_tile htar hs, gateway_of_open (d := s.dev.servingRead t.id) hopen, serveTile_read hcmd hlen]
    obtain ⟨htx, hregs, hmem⟩ := deliver_effect (t := { t with phase := .atTarget }) hserving hlen hgot (s.dev.tile.unit l)
    exact ⟨phase_units_of_answer htx, hregs, hmem⟩
  case held =>
    rw [serveRead_tile htar hs, gateway_of_run (d := s.dev.servingRead t.id) hr]
    have hheld : (((s.dev.servingRead t.id).bump Reg.sncGwHoldCnt 1).mapTxn t.id (fun t => { t with phase := .held })).txn t.id =
        some { t with phase := .held } :=
      txn_mapTxn (d := (s.dev.servingRead t.id).bump _ 1) (t := { t with phase := .atTarget }) hserving fun _ => rfl
    refine ⟨?_, reg_bump _ _ 1, (onlyRegs_bump (s.dev.servingRead t.id) _ 1).2, ⟨rfl, rfl, rfl, rfl⟩, rfl⟩
    rw [hheld]
    rfl
  case openRegister =>
    rw [serveRead_open htar hlen hs ho]
    exact deliver_effect (t := { t with phase := .atTarget }) hserving hlen hgot zeroUnit
  case refused =>
    rw [serveRead_refused htar hs]
    exact refuseRead_effect hserving hlen hlen hgot

end Sys2Proof.Machine
end

section
/-!
PROOFS. Writes at their targets (R117, R264, R266, R267, R270, R277, R404): the write queue of a controller, a partial write merged
with what is stored, a line of the tile stores, and the places that refuse.
-/
namespace Sys2Proof.Machine

open Sys2Proof

/-! ### Units of a memory -/

theorem memRead_congr {m m' : Mem} {a n : Nat} (h : ∀ j, a ≤ j → j < a + n → memByte m j = memByte m' j) :
    memRead m a n = memRead m' a n := by
  induction n generalizing a with
  | zero => rfl
  | succ n ih =>
    rw [memRead, memRead, h a le_rfl (by omega), ih fun j hj hn => h j (by omega) (by omega)]

/-- A write of a unit leaves every other unit. -/
theorem unit_putUnit_ne (m : Store) {u v : Nat} (x : DUnit) (h : v ≠ u) : (m.putUnit u x).unit v = m.unit v := by
  have hl : (lineBytes x.data).length = 64 := by simp [lineBytes]
  have hbytes : memRead (m.putUnit u x).bytes (64 * v) 64 = memRead m.bytes (64 * v) 64 :=
    memRead_congr fun j hlo hhi => by
      rw [Store.putUnit, memByte_memWrite, hl, if_neg (by omega)]
  simp only [Store.unit, hbytes]
  simp only [Store.putUnit, mapGet_mapPut_ne _ _ _ h]

section
variable {d : Device} {t : Txn}

/-! ### Packets that have come (R282, R284) -/

theorem arriveWrite_of_sent {cmd : NetCmd} (hcmd : t.cmd = cmd) (hph : t.phase = .sent) (ht : d.txn t.id = some t)
    (hcame : d.travels (.request t.id) = false) (hturn : ∀ v ∈ d.net.txns, d.requestBefore t v = false) (ecc reread : Ecc) :
    d.arriveWrite t.id cmd true ecc reread = d.serveWrite t ecc reread := by
  simp only [Device.arriveWrite, ht, hcmd, hph, ne_eq, not_true_eq_false, if_false, if_true]
  exact onRequest_of_arrived _ ht hcame hturn

theorem arriveWrite_of_failed {cmd : NetCmd} (hcmd : t.cmd = cmd) (hph : t.phase = .sent) (ht : d.txn t.id = some t)
    (ecc reread : Ecc) : d.arriveWrite t.id cmd false ecc reread = d.loseTxn t.id (.request t.id) := by
  simp [Device.arriveWrite, ht, hcmd, hph]

/-- An acknowledgement changes the network alone. -/
theorem respond_effect (ht : d.txn t.id = some t) (status : Nat) :
    ((d.respond t.id status).txn t.id).map (fun v => (v.phase, v.status)) = some (.responded, status) ∧
    (d.respond t.id status).regs = d.regs ∧ SameMemory d (d.respond t.id status) := by
  refine ⟨?_, regs_of_net (respond_only d _ _), sameMemory_of_net (respond_only d _ _)⟩
  rw [txn_respond ht]
  rfl

/-! #### The write queue of a controller (R264, R267, R269) -/

/-- What a unit holds rests on its memory, the queue and the lost writes of its pseudo-channel, and HBC_SUSPECT. -/
theorem hbmUnit_congr {d' : Device} {m : Nat}
    (hreg : d'.reg (Reg.hbcSuspect (m / pcUnits / 32)) = d.reg (Reg.hbcSuspect (m / pcUnits / 32)))
    (hw : youngest m (d'.pc (m / pcUnits)).writes = youngest m (d.pc (m / pcUnits)).writes)
    (hl : (d'.pc (m / pcUnits)).lost = (d.pc (m / pcUnits)).lost) (hmem : d'.hbm.mem = d.hbm.mem) : d'.hbmUnit m = d.hbmUnit m := by
  simp only [Device.hbmUnit, Device.hbmLost, Device.suspect, Device.regBit, hreg, hw, hl, hmem]
  rfl

/-- Giving up fills of the prefetch area changes transactions alone. -/
theorem pc_staleFills (d : Device) (u k : Nat) : (d.staleFills u).pc k = d.pc k := by
  rw [staleFills_only]
  rfl

theorem staleFills_frame (d : Device) (u : Nat) : (d.staleFills u).regs = d.regs ∧ SameMemory d (d.staleFills u) :=
  ⟨regs_of_net (staleFills_only d u), sameMemory_of_net (staleFills_only d u)⟩

/-- Nobody's transaction asks for no fill of the prefetch area. -/
theorem txn_staleFills {v : Txn} {id : Nat} (hv : d.txn id = some v) (hp : v.purpose = .nobody) (u : Nat) :
    (d.staleFills u).txn id = some v := by
  have hfind : d.net.txns.find? (fun t => t.id == id) = some v := hv
  unfold Device.staleFills
  dsimp only
  split
  · have hid (f : Txn → Bool) : (fun t : Txn => t.id == id) ∘ (fun t => if f t then { t with purpose := .nobody } else t) =
        fun t => t.id == id := by
      funext t
      cases h : f t <;> simp [h]
    rw [Device.txn, List.find?_map, hid, hfind]
    simp [hp]
  · exact hv

/-- A pseudo-channel with `w` behind the writes of its queue. -/
def PseudoChannel.queued (p : PseudoChannel) (w : WrEntry) : PseudoChannel :=
  { p with writes := p.writes ++ [w], writeFirst := p.writeFirst || decide (40 ≤ ((p.writes ++ [w]).filter (·.sched)).length) }

/-- The entry that a write of unit `u` makes in the write queue. -/
def Device.wrEntry (d : Device) (u : Nat) (x : DUnit) (be : Word) (sched : Bool) : WrEntry :=
  { unit := u, data := carried x, be := be, sched := sched, seq := d.hbm.seq }

/-- The device with a write in the write queue, before fills of the prefetch area are given up. -/
def Device.withQueued (d : Device) (u : Nat) (x : DUnit) (be : Word) (sched : Bool) : Device :=
  let e := d.setPc (u / pcUnits) ((d.pc (u / pcUnits)).queued (d.wrEntry u x be sched))
  { e with
    hbm := { e.hbm with seq := d.hbm.seq + 1 },
    streams := { d.streams with prefetched := d.streams.prefetched.filter (fun f => f.1 != u) } }

theorem queueWrite_eq (d : Device) (u : Nat) (x : DUnit) (be : Word) (sched : Bool) :
    d.queueWrite u x be sched = (d.withQueued u x be sched).staleFills u := rfl

theorem pc_queueWrite (d : Device) (u : Nat) (x : DUnit) (be : Word) (sched : Bool) :
    (d.queueWrite u x be sched).pc (u / pcUnits) = (d.pc (u / pcUnits)).queued (d.wrEntry u x be sched) := by
  rw [queueWrite_eq, pc_staleFills]
  exact pc_setPc d _ _

theorem pc_queueWrite_ne (d : Device) {u k : Nat} (x : DUnit) (be : Word) (sched : Bool) (h : k ≠ u / pcUnits) :
    (d.queueWrite u x be sched).pc k = d.pc k := by
  rw [queueWrite_eq, pc_staleFills]
  exact pc_setPc_ne d _ h

theorem queueWrite_frame (d : Device) (u : Nat) (x : DUnit) (be : Word) (sched : Bool) :
    (d.queueWrite u x be sched).regs = d.regs ∧ SameMemory d (d.queueWrite u x be sched) :=
  staleFills_frame (d.withQueued u x be sched) u

theorem reg_queueWrite (d : Device) (u : Nat) (x : DUnit) (be : Word) (sched : Bool) (a : Nat) :
    (d.queueWrite u x be sched).reg a = d.reg a := by
  rw [Device.reg, (queueWrite_frame d u x be sched).1, Device.reg]

/-- A unit in the write queue reads as what was written (R265). -/
theorem hbmUnit_queueWrite {u : Nat} (h : d.hbmLost u = false) (x : DUnit) (be : Word) (sched : Bool) :
    (d.queueWrite u x be sched).hbmUnit u = carried x := by
  have hlost : (d.queueWrite u x be sched).hbmLost u = false := by
    rw [← h]
    simp only [Device.hbmLost, Device.suspect, Device.regBit, pc_queueWrite, reg_queueWrite]
    rfl
  have hy : youngest u ((d.queueWrite u x be sched).pc (u / pcUnits)).writes = some (d.wrEntry u x be sched) := by
    rw [pc_queueWrite, PseudoChannel.queued, youngest, List.filter_append]
    simp [Device.wrEntry]
  rw [Device.hbmUnit, hlost, hy]
  rfl

/-- And every other unit reads as before. -/
theorem hbmUnit_queueWrite_ne {u m : Nat} (hm : m ≠ u) (x : DUnit) (be : Word) (sched : Bool) :
    (d.queueWrite u x be sched).hbmUnit m = d.hbmUnit m := by
  by_cases hk : m / pcUnits = u / pcUnits
  · refine hbmUnit_congr (reg_queueWrite d u x be sched _) ?_ ?_ (queueWrite_frame d u x be sched).2.1
    · rw [hk, pc_queueWrite, PseudoChannel.queued, youngest, youngest, List.filter_append]
      simp [Device.wrEntry, Ne.symm hm]
    · rw [hk, pc_queueWrite]
      rfl
  · have hpc := pc_queueWrite_ne d x be sched hk
    exact hbmUnit_congr (reg_queueWrite d u x be sched _) (by rw [hpc]) (by rw [hpc]) (queueWrite_frame d u x be sched).2.1

/-! #### A unit leaves the controller's input (R264, R266) -/

/-- The unit of a write is queued, and the write, of which it was the last unit, acknowledged. -/
theorem queueWrite_respond_effect {v : Txn} {id n : Nat} (hv : d.txn id = some v) (hp : v.purpose = .nobody)
    (h : d.hbmLost n = false) (x : DUnit) (be : Word) (sched : Bool) (status : Nat) {e : Device}
    (he : e = ((d.queueWrite n x be sched).mapTxn id (fun t => { t with todo := t.todo - 1 })).respond id status) :
    e.hbmUnit n = carried x ∧ (∀ m, m ≠ n → e.hbmUnit m = d.hbmUnit m) ∧
      (e.txn id).map (fun v => (v.phase, v.status)) = some (.responded, status) ∧ e.regs = d.regs ∧ SameMemory d e := by
  obtain ⟨hregs, hmem⟩ := queueWrite_frame d n x be sched
  have htx : ((d.queueWrite n x be sched).mapTxn id (fun t => { t with todo := t.todo - 1 })).txn id =
      some { v with todo := v.todo - 1 } := txn_mapTxn (txn_staleFills (d := d.withQueued n x be sched) hv hp n) fun _ => rfl
  have hunit (m : Nat) : e.hbmUnit m = (d.queueWrite n x be sched).hbmUnit m := by
    rw [he, respond_only]
    rfl
  refine ⟨(hunit n).trans (hbmUnit_queueWrite h x be sched), fun m hm => (hunit m).trans (hbmUnit_queueWrite_ne hm x be sched),
    ?_, ?_, ?_⟩ <;> rw [he]
  · rw [txn_respond htx]
    rfl
  · exact (regs_of_net (respond_only _ _ _)).trans hregs
  · rw [respond_only]
    exact hmem

/-- The queue takes the only write at the input when it has room. -/
theorem takeInputs_one {pk : Nat} {e : WrInput} (hin : (d.pc pk).input = [e]) (hroom : 0 < (d.pc pk).room e.sched) :
    d.takeInputs pk 1 = (d.setPc pk { d.pc pk with input := [] }).takeWrite e := by
  have hnext : (d.pc pk).nextInput = some e := by simp [PseudoChannel.nextInput, hin, hroom]
  simp [Device.takeInputs, hnext, hin]

/-- No unit of nobody's write is late. -/
theorem isLate_of_nobody (hp : t.purpose = .nobody) (i : Nat) : d.isLate t i = false := by
  simp [Device.isLate, Device.dueOf, hp]

/-- A whole unit goes into the write queue, and the write, of which it was the last unit, is acknowledged. -/
theorem takeWrite_full {e : WrInput} (hv : d.txn e.txn = some t) (hp : t.purpose = .nobody) (htodo : t.todo = 1) (hbe : e.be = -1) :
    d.takeWrite e = ((d.queueWrite e.unit e.data (-1) e.sched).mapTxn e.txn (fun t => { t with todo := t.todo - 1 })).respond
      e.txn t.status := by
  simp [Device.takeWrite, hv, isLate_of_nobody hp, htodo, hbe]

/-- A partial unit is merged with what is stored, and goes the same way. -/
theorem takeWrite_partial {e : WrInput} (hv : d.txn e.txn = some t) (hp : t.purpose = .nobody) (htodo : t.todo = 1) (hbe : e.be ≠ -1) :
    d.takeWrite e = (((d.directRead e.unit e.ecc e.reread).2.queueWrite e.unit
      (mergeUnit (d.directRead e.unit e.ecc e.reread).1 e.data e.be) e.be false).mapTxn e.txn
      (fun t => { t with todo := t.todo - 1 })).respond e.txn t.status := by
  simp only [Device.takeWrite, hv, isLate_of_nobody hp, if_pos htodo, if_neg hbe, Bool.false_eq_true, if_false]

/-! #### A stored unit read for a partial write (R266, R270) -/

theorem youngest_nil (n : Nat) : youngest n [] = none := rfl

/-- A read of a unit with no write waiting goes to the stack. -/
theorem directRead_stack {n : Nat} (h : d.hbmLost n = false) (hw : (d.pc (n / pcUnits)).writes = []) (e1 e2 : Ecc) :
    d.directRead n e1 e2 = d.stackRead n e1 e2 := by
  simp [Device.directRead, h, hw, youngest_nil]

theorem hbmUnit_stack {n : Nat} (h : d.hbmLost n = false) (hw : (d.pc (n / pcUnits)).writes = []) :
    d.hbmUnit n = d.hbm.mem.unit n := by
  simp [Device.hbmUnit, h, hw, youngest_nil]

section
variable {n : Nat} (hok : unitOk (d.hbm.mem.unit n) = true)
include hok

theorem stackRead_clean (e2 : Ecc) : d.stackRead n .clean e2 = (carried (d.hbm.mem.unit n), d) := by
  simp [Device.stackRead, Ecc.bad, Ecc.fixed, hok, carried]

theorem stackRead_reread : d.stackRead n .uncorrectable .clean =
    (carried (d.hbm.mem.unit n), d.bump (Reg.hbcRereadOkCnt (n / pcUnits / 32)) 1) := by
  simp [Device.stackRead, Ecc.bad, Ecc.fixed, hok, carried]

omit hok in
theorem stackRead_uncorrectable :
    d.stackRead n .uncorrectable .uncorrectable = (poisonUnit, d.uncorrected (Reg.hbcUncorrCnt (n / pcUnits / 32))) := by
  simp [Device.stackRead, Ecc.bad]

end

/-- A poisoned unit merges like the zeros that are carried for it. -/
theorem mergeUnit_carried (x u : DUnit) (be : Word) : mergeUnit (carried x) u be = mergeUnit x u be := by
  cases h : x.pois <;> simp [carried, mergeUnit, h, poisonUnit]

theorem mergeUnit_poison (u : DUnit) (be : Word) : mergeUnit poisonUnit u be = poisonUnit := by
  simp [mergeUnit, poisonUnit]

/-- What a merge gives is carried as it is. -/
theorem carried_mergeUnit (x u : DUnit) (be : Word) : carried (mergeUnit x u be) = mergeUnit x u be := by
  unfold mergeUnit
  split
  · rfl
  · rfl

/-! #### A write of one unit arrives (R264) -/

/-- A write of one unit stands at the input of its pseudo-channel. -/
def Device.withInput (d : Device) (w : WrInput) : Device :=
  let e := d.mapTxn w.txn (fun t => { t with status := 0, todo := 1, phase := .atTarget })
  e.setPc (w.unit / pcUnits) { e.pc (w.unit / pcUnits) with input := (e.pc (w.unit / pcUnits)).input ++ [w] }

theorem pc_withInput {w : WrInput} (hin : (d.pc (w.unit / pcUnits)).input = []) :
    (d.withInput w).pc (w.unit / pcUnits) = { d.pc (w.unit / pcUnits) with input := [w] } := by
  rw [Device.withInput, pc_setPc]
  exact congrArg (fun l => { d.pc (w.unit / pcUnits) with input := l ++ [w] }) hin

theorem pc_withInput_ne {w : WrInput} {k : Nat} (hk : k ≠ w.unit / pcUnits) : (d.withInput w).pc k = d.pc k :=
  pc_setPc_ne _ _ hk

theorem txn_withInput {w : WrInput} (ht : d.txn w.txn = some t) :
    (d.withInput w).txn w.txn = some { t with status := 0, todo := 1, phase := .atTarget } := by
  have h : (d.mapTxn w.txn (fun t => { t with status := 0, todo := 1, phase := .atTarget })).txn w.txn =
      some { t with status := 0, todo := 1, phase := .atTarget } := txn_mapTxn ht fun _ => rfl
  exact h

/-- What the controllers make of a write of one unit (R264). -/
theorem hbmWrites_one {a n off : Nat} {u : DUnit} (hdata : t.data = [u]) (hdec : d.hbmDecode a = some (n, off)) (be : Word)
    (ecc reread : Ecc) {w : WrInput}
    (hw : w = { unit := n, data := u, be := be, sched := t.sched, txn := t.id, index := 0, ecc := ecc, reread := reread }) :
    d.hbmWrites t a be ecc reread =
      (d.withInput w).takeInputs (n / pcUnits) ((d.withInput w).pc (n / pcUnits)).input.length := by
  have herase : [n / pcUnits].eraseDups = [n / pcUnits] := by simp [List.eraseDups_cons]
  simp [Device.hbmWrites, hdata, hdec, b2n, Device.withInput, hw, herase]

/-- The device in which that write leaves the input again. -/
def Device.inputTaken (d : Device) (w : WrInput) : Device :=
  (d.withInput w).setPc (w.unit / pcUnits) { (d.withInput w).pc (w.unit / pcUnits) with input := [] }

theorem pc_inputTaken {w : WrInput} {n : Nat} (hn : w.unit = n) (hin : (d.pc (n / pcUnits)).input = []) (k : Nat) :
    (d.inputTaken w).pc k = d.pc k := by
  subst hn
  by_cases hk : k = w.unit / pcUnits
  · rw [hk, Device.inputTaken, pc_setPc, pc_withInput hin]
    simp [← hin]
  · rw [Device.inputTaken, pc_setPc_ne _ _ hk, pc_withInput_ne hk]

theorem txn_inputTaken {w : WrInput} (hid : w.txn = t.id) (ht : d.txn t.id = some t) :
    (d.inputTaken w).txn t.id = some { t with status := 0, todo := 1, phase := .atTarget } := by
  have h := txn_withInput (d := d) (w := w) (t := t) (by rw [hid]; exact ht)
  rw [hid] at h
  exact h

theorem hbmLost_inputTaken {w : WrInput} {n : Nat} (hn : w.unit = n) (hin : (d.pc (n / pcUnits)).input = []) (m : Nat) :
    (d.inputTaken w).hbmLost m = d.hbmLost m := by
  rw [Device.hbmLost, pc_inputTaken hn hin]
  rfl

/-- The queue takes the one unit that arrives at an input that was empty. -/
theorem hbmWrites_takes {a n off : Nat} {u : DUnit} (hdata : t.data = [u])
    (hdec : d.hbmDecode a = some (n, off)) (hin : (d.pc (n / pcUnits)).input = [])
    (hroom : 0 < (d.pc (n / pcUnits)).room t.sched) (be : Word) (ecc reread : Ecc) {w : WrInput}
    (hw : w = { unit := n, data := u, be := be, sched := t.sched, txn := t.id, index := 0, ecc := ecc, reread := reread }) :
    d.hbmWrites t a be ecc reread = (d.inputTaken w).takeWrite w := by
  obtain ⟨hn, hs⟩ : w.unit = n ∧ w.sched = t.sched := by simp [hw]
  rw [hbmWrites_one hdata hdec be ecc reread hw]
  rw [← hn] at hin hroom ⊢
  rw [← hs] at hroom
  have hpc := pc_withInput hin
  rw [show ((d.withInput w).pc (w.unit / pcUnits)).input.length = 1 by rw [hpc]; rfl]
  exact takeInputs_one (by rw [hpc]) (by rw [hpc]; exact hroom)

/-! ### What each target does with a write (R117, R277, R404) -/

section
variable {a : Nat} (htar : t.target = .mem a)
include htar

theorem serveWrite_hbm (hs : localSpace a = .hbm a) (ecc reread : Ecc) :
    d.serveWrite t ecc reread = d.hbmWrites t a (if t.cmd = .write then -1 else t.be) ecc reread := by
  simp only [Device.serveWrite, htar, hs]

theorem serveWrite_tile {l : Nat} (hs : localSpace a = .tile l) (ecc reread : Ecc) :
    d.serveWrite t ecc reread = d.gateway t l [(0, ecc)] := by
  simp only [Device.serveWrite, htar, hs]

/-- Nowhere, and at a register that is not open, a write is refused with STATUS 0x1 (R277, R404). -/
theorem serveWrite_refused (hcmd : t.cmd = .write)
    (hs : localSpace a = .nowhere ∨ ∃ o, localSpace a = .regs o ∧ openRegister o = false)
    (ecc reread : Ecc) : d.serveWrite t ecc reread = d.respond t.id 1 := by
  rcases hs with hs | ⟨o, hs, ho⟩
  · simp only [Device.serveWrite, htar, hs]
  · have hfirst : ((List.range 64).find? (fun i => bit (-1 : Word) i)).getD 0 = 0 := by decide
    simp only [Device.serveWrite, htar, hs, Device.regSpaceWrite, hcmd, if_true, hfirst, Nat.add_zero, ho]

end

/-- A line taken from the Dome network is stored as it is taken; a check that fails is counted (R117). -/
theorem domeWrite_effect (d : Device) (l : Nat) (u : DUnit) :
    (d.domeWrite l u).tile = d.tile.putUnit l (if unitOk u then u else poisonUnit) ∧
    (d.domeWrite l u).reg Reg.errUncorrCnt = d.reg Reg.errUncorrCnt + (if unitOk u then 0 else 1) ∧
    SameRegs [Reg.errUncorrCnt] d (d.domeWrite l u) ∧ (d.domeWrite l u).hbm = d.hbm ∧ (d.domeWrite l u).streams = d.streams ∧
    (d.domeWrite l u).cfgMem = d.cfgMem ∧ (d.domeWrite l u).net = d.net := by
  unfold Device.domeWrite Device.domeTake
  cases unitOk u with
  | true => exact ⟨rfl, (BitVec.add_zero _).symm, fun _ _ => rfl, rfl, rfl, rfl, rfl⟩
  | false => exact ⟨rfl, reg_bump d _ 1, (onlyRegs_bump d _ 1).2, rfl, rfl, rfl, rfl⟩

theorem serveTile_write {u : DUnit} (hcmd : t.cmd = .write) (hdata : t.data = [u]) (l : Nat) (ecc : List (Nat × Ecc)) :
    d.serveTile t l ecc = (d.domeWrite l u).respond t.id 0 := by
  simp [Device.serveTile, Device.writeTiles, hcmd, hdata]

end

/-! ### Writes of one unit to HBM (R264 - R267, R270) -/

/-- Of the registers, only HBC_SUSPECT says whether a unit's write was lost. -/
theorem OnlyRegs.hbmLost_eq {cnts : List Nat} {d d' : Device} (h : OnlyRegs cnts d d') {n : Nat}
    (hn : Reg.hbcSuspect (n / pcUnits / 32) ∉ cnts) : d'.hbmLost n = d.hbmLost n := by
  have hpc : d'.pc (n / pcUnits) = d.pc (n / pcUnits) := by rw [h.1]; rfl
  simp only [Device.hbmLost, Device.suspect, Device.regBit, h.2 _ hn, hpc]

section
variable {d : Device} {t : Txn} {a n off : Nat} {u : DUnit} {be : Word} {ecc reread : Ecc} {w : WrInput} (ht : d.txn t.id = some t)
  (hp : t.purpose = .nobody) (hdata : t.data = [u]) (hdec : d.hbmDecode a = some (n, off))
  (hin : (d.pc (n / pcUnits)).input = []) (hlost : d.hbmLost n = false)
  (hw : w = { unit := n, data := u, be := be, sched := t.sched, txn := t.id, index := 0, ecc := ecc, reread := reread })
include ht hp hdata hdec hin hlost hw

/-- A whole unit is in the write queue, and the write acknowledged. -/
theorem hbmWrites_full (hbe : be = -1) (hroom : 0 < (d.pc (n / pcUnits)).room t.sched) {e : Device}
    (he : e = d.hbmWrites t a be ecc reread) :
    e.hbmUnit n = carried u ∧ (∀ m, m ≠ n → e.hbmUnit m = d.hbmUnit m) ∧
    (e.txn t.id).map (fun v => (v.phase, v.status)) = some (.responded, 0) ∧ e.regs = d.regs ∧ SameMemory d e := by
  rw [hbmWrites_takes hdata hdec hin hroom be ecc reread hw] at he
  have htx := txn_inputTaken (w := w) (by rw [hw]) ht
  have hpc := pc_inputTaken (w := w) (n := n) (by rw [hw]) hin
  have hlost' := (hbmLost_inputTaken (w := w) (by rw [hw]) hin n).trans hlost
  subst hw
  rw [takeWrite_full (t := { t with status := 0, todo := 1, phase := .atTarget }) htx hp rfl hbe] at he
  obtain ⟨hunit, hother, hans, hregs, hmem⟩ := queueWrite_respond_effect htx hp hlost' u (-1) t.sched 0 he
  exact ⟨hunit, fun m hm => (hother m hm).trans (hbmUnit_congr rfl (by rw [hpc]) (by rw [hpc]) rfl), hans, hregs, hmem⟩

/-- A partial unit is merged with what the stack read gives: `x`, and the device `r` after it, of which registers alone differ. -/
theorem hbmWrites_partial (hbe : be ≠ -1) (hwrites : (d.pc (n / pcUnits)).writes = []) {x : DUnit} {r : Device} {cnts : List Nat}
    (hread : (d.inputTaken w).stackRead n ecc reread = (x, r)) (honly : OnlyRegs cnts (d.inputTaken w) r)
    (hsus : Reg.hbcSuspect (n / pcUnits / 32) ∉ cnts) {e : Device} (he : e = d.hbmWrites t a be ecc reread) :
    e.hbmUnit n = mergeUnit x u be ∧ (e.txn t.id).map (fun v => (v.phase, v.status)) = some (.responded, 0) ∧ e.regs = r.regs ∧
    SameRegs cnts d e ∧ SameMemory d e := by
  have hroom : 0 < (d.pc (n / pcUnits)).room t.sched := by
    cases hs : t.sched <;> simp [PseudoChannel.room, hwrites]
  rw [hbmWrites_takes hdata hdec hin hroom be ecc reread hw] at he
  have htx := txn_inputTaken (w := w) (by rw [hw]) ht
  have hlost' := (hbmLost_inputTaken (w := w) (by rw [hw]) hin n).trans hlost
  have hdirect : (d.inputTaken w).directRead n ecc reread = (x, r) := by
    rw [directRead_stack hlost' (by rw [pc_inputTaken (by rw [hw]) hin, hwrites]), hread]
  subst hw
  have htr : r.txn t.id = some { t with status := 0, todo := 1, phase := .atTarget } := by rw [honly.1]; exact htx
  rw [takeWrite_partial (t := { t with status := 0, todo := 1, phase := .atTarget }) htx hp rfl hbe, hdirect] at he
  obtain ⟨hunit, -, hans, hregs, hmem⟩ :=
    queueWrite_respond_effect htr hp ((honly.hbmLost_eq hsus).trans hlost') (mergeUnit x u be) be false 0 he
  refine ⟨hunit.trans (carried_mergeUnit x u be), hans, hregs, fun b hb => ?_, ?_⟩
  · rw [Device.reg, hregs]
    exact honly.2 b hb
  · rw [honly.1] at hmem
    exact hmem

end

/-- Settles O23: a write to local HBM is in the write queue, merged first when it is partial; a free Dome has it in its line; and
a refused one is answered alone. -/
theorem writesAreServedByTheirTarget : Obligations.WritesAreServedByTheirTarget := by
  intro s t a u ha ht hph htar hdata hp hcame hturn
  have hwrite (hcmd : t.cmd = .write) : s.dev.arriveWrite t.id .write true .clean .clean = s.dev.serveWrite t .clean .clean :=
    arriveWrite_of_sent hcmd hph ht hcame hturn _ _
  refine ⟨fun hcmd => ⟨?failed, fun n off pk hs hdec hpk hin hroom hlost => ?hbm, fun l hs hopen => ?tile, fun hs => ?refused⟩,
    fun hcmd hbe n off pk hs hdec hpk hin hwrites hlost hok => ?partialWrite⟩
  case failed =>
    refine completes_took (f := (·.arriveWrite t.id .write false .clean .clean)) rfl ha ?_
    rw [arriveWrite_of_failed hcmd hph ht]
    obtain ⟨hl, hcnt, hregs, hmem, -⟩ := loseTxn_effect (.request t.id) ht
    exact ⟨hl, hcnt, hregs, hmem⟩
  case hbm =>
    subst hpk
    refine completes_took (f := (·.arriveWrite t.id .write true .clean .clean)) rfl ha ?_
    rw [hwrite hcmd, serveWrite_hbm htar hs, if_pos hcmd]
    obtain ⟨hunit, hother, hans, hregs, hmem⟩ :=
      hbmWrites_full (ecc := .clean) (reread := .clean) ht hp hdata hdec hin hlost rfl rfl hroom rfl
    exact ⟨hunit, hans, hother, hregs, hmem⟩
  case tile =>
    refine completes_took (f := (·.arriveWrite t.id .write true .clean .clean)) rfl ha ?_
    rw [hwrite hcmd, serveWrite_tile htar hs, gateway_of_open hopen, serveTile_write hcmd hdata]
    obtain ⟨htile, hcnt, hregs, hhbm, hstr, hcfg, hnet⟩ := domeWrite_effect s.dev l u
    have htx : (s.dev.domeWrite l u).txn t.id = some t := by rw [Device.txn, hnet]; exact ht
    have hans := (respond_effect htx 0).1
    have honly := respond_only (s.dev.domeWrite l u) t.id 0
    refine ⟨?_, fun m hm => ?_, hans, ?_, ?_, ?_, ?_, ?_⟩ <;> rw [honly]
    · exact (congrArg (Store.unit · l) htile).trans (unit_putUnit _ l _)
    · exact (congrArg (Store.unit · m) htile).trans (unit_putUnit_ne _ _ hm)
    · exact hcnt
    · exact hregs
    · exact hhbm
    · exact hstr
    · exact hcfg
  case refused =>
    refine completes_took (f := (·.arriveWrite t.id .write true .clean .clean)) rfl ha ?_
    rw [hwrite hcmd, serveWrite_refused htar hcmd hs]
    exact respond_effect ht 1
  case partialWrite =>
    subst hpk
    have harrive (ecc reread : Ecc) :
        s.dev.arriveWrite t.id .partialWrite true ecc reread = s.dev.hbmWrites t a t.be ecc reread := by
      rw [arriveWrite_of_sent hcmd hph ht hcame hturn, serveWrite_hbm htar hs, if_neg (by rw [hcmd]; decide)]
    rw [hbmUnit_stack hlost hwrites]
    refine ⟨?clean, ?again, ?uncorrectable⟩
    case clean =>
      refine completes_took (f := (·.arriveWrite t.id .partialWrite true .clean .clean)) rfl ha ?_
      rw [harrive]
      obtain ⟨hunit, hans, hregs, -, hmem⟩ := hbmWrites_partial ht hp hdata hdec hin hlost rfl hbe hwrites
        (stackRead_clean (d := s.dev.inputTaken _) hok .clean) (OnlyRegs.refl _ []) (by simp) rfl
      exact ⟨hunit.trans (mergeUnit_carried _ u t.be), hans, hregs, hmem⟩
    case again =>
      refine completes_took (f := (·.arriveWrite t.id .partialWrite true .uncorrectable .clean)) rfl ha ?_
      rw [harrive]
      obtain ⟨hunit, -, hregs, hsame, hmem⟩ := hbmWrites_partial ht hp hdata hdec hin hlost rfl hbe hwrites
        (stackRead_reread (d := s.dev.inputTaken _) hok) (onlyRegs_bump _ _ 1)
        (by simp [Reg.hbcSuspect, Reg.hbcRereadOkCnt]) rfl
      refine ⟨hunit.trans (mergeUnit_carried _ u t.be), ?_, hsame, hmem⟩
      rw [Device.reg, hregs]
      exact reg_bump _ _ 1
    case uncorrectable =>
      have hne : Reg.hbcUncorrCnt (n / pcUnits / 32) ≠ Reg.errUncorrCnt := by
        simp only [Reg.hbcUncorrCnt, Reg.errUncorrCnt]
        omega
      have hsus : Reg.hbcSuspect (n / pcUnits / 32) ∉ [Reg.hbcUncorrCnt (n / pcUnits / 32), Reg.errUncorrCnt] := by
        simp only [Reg.hbcSuspect, Reg.hbcUncorrCnt, Reg.errUncorrCnt, List.mem_cons, List.not_mem_nil, or_false]
        omega
      refine completes_took (f := (·.arriveWrite t.id .partialWrite true .uncorrectable .uncorrectable)) rfl ha ?_
      rw [harrive]
      obtain ⟨hunit, -, hregs, -, hmem⟩ := hbmWrites_partial ht hp hdata hdec hin hlost rfl hbe hwrites
        (stackRead_uncorrectable (d := s.dev.inputTaken _)) (uncorrected_onlyRegs _ _) hsus rfl
      refine ⟨hunit.trans (mergeUnit_poison u t.be), ?_, hmem⟩
      rw [Device.reg, hregs]
      exact (reg_bump_ne _ 1 hne).trans (reg_bump _ _ 1)

end Sys2Proof.Machine
end

section
/-!
PROOFS. The vector engine from one dclk to the next (R112, R113, R122, R123, R130, R151 - R153, R156): how the next word of a Spire
issues when nothing else is about to happen in the Dome, and what control words and illegal words do.
-/
namespace Sys2Proof.Machine

open Sys2Proof

/-! ### Devices that list their Spires differently -/

/-- The two devices differ in how they list the Spires and in how far the Dome's units have run, and in nothing else. -/
structure Alike (d d' : Device) : Prop where
  dev : d' = { d with dome := { d.dome with spires := d'.dome.spires, head := d'.dome.head } }
  spire : ∀ m, d'.spire m = d.spire m

namespace Alike
variable {d d' d'' : Device}

theorem refl (d : Device) : Alike d d := ⟨rfl, fun _ => rfl⟩

theorem trans (h : Alike d d') (h' : Alike d' d'') : Alike d d'' :=
  ⟨by rw [h'.dev, h.dev], fun m => (h'.spire m).trans (h.spire m)⟩

theorem vx (h : Alike d d') (m : Nat) : d'.vx m = d.vx m := congrArg Spire.vx (h.spire m)

theorem regs (h : Alike d d') : d'.regs = d.regs := by rw [h.dev]

theorem sameMemory (h : Alike d d') : SameMemory d d' := by
  rw [h.dev]
  exact ⟨rfl, rfl, rfl, rfl⟩

theorem vxWord (h : Alike d d') (m pc : Nat) : d'.vxWord m pc = d.vxWord m pc := by rw [h.dev]; rfl

theorem spireMaint (h : Alike d d') (m : Nat) : d'.spireMaint m = d.spireMaint m := by rw [h.dev]; rfl

theorem vectorFaults (h : Alike d d') (n bs : Nat) (p : Prog) (u : VxWord) :
    d'.vectorFaults n bs p u = d.vectorFaults n bs p u := by
  simp only [Device.vectorFaults, h.vx, h.spire, h.spireMaint]

theorem wordFaults (h : Alike d d') (n x : Nat) (p : Prog) : d'.wordFaults n x p = d.wordFaults n x p := by
  simp only [Device.wordFaults, h.vx, h.vxWord, h.vectorFaults]

end Alike

/-- An update of an engine that changes nothing in it. -/
theorem alike_mapVx {d : Device} {n : Nat} {f : Vx → Vx} (h : f (d.vx n) = d.vx n) : Alike d (d.mapVx n f) := by
  refine ⟨rfl, fun m => ?_⟩
  by_cases hm : m = n
  · subst hm
    rw [Device.mapVx, Device.mapSpire, spire_setSpire]
    exact congrArg (fun v => { d.spire m with vx := v }) h
  · exact spire_mapVx_ne d f hm

/-! ### A Dome in which nothing else happens (R117, R125, R161, R250, R286) -/

/-- No DOP, present or to come, no start or window to come, and no unit on the Dome network. -/
structure DomeIdle (d : Device) : Prop where
  dops : d.dome.dops = []
  plan : d.dome.plan = []
  starts : d.dome.starts = []
  copies : d.dome.copies = []
  units : d.dome.units = []

theorem DomeIdle.of_dome {d d' : Device} (h : DomeIdle d) {s : SMap Spire} {k : Nat}
    (he : d'.dome = { d.dome with spires := s, head := k }) : DomeIdle d' := by
  obtain ⟨hd, hp, hs, hc, hu⟩ := h
  exact ⟨by rw [he]; exact hd, by rw [he]; exact hp, by rw [he]; exact hs, by rw [he]; exact hc, by rw [he]; exact hu⟩

theorem Alike.idle {d d' : Device} (h : Alike d d') (hi : DomeIdle d) : DomeIdle d' := hi.of_dome (by rw [h.dev])

section
variable {d : Device} (hi : DomeIdle d)
include hi

theorem portBanks_of_idle (n t : Nat) : d.portBanks n t = [] := by
  simp [Device.portBanks, hi.units, hi.dops]

theorem losePort_of_idle (n x : Nat) : d.losePort n x = d := by
  simp [Device.losePort, portBanks_of_idle hi]

theorem portMeets_of_idle {env : VxEnv} (hport : env.port = []) (n bs t a len : Nat) : d.portMeets n bs t a len env = false := by
  simp [Device.portMeets, portBanks_of_idle hi, hport]

theorem startsNow_of_idle (n x : Nat) : d.startsNow n x = [] := by simp [Device.startsNow, hi.starts]

theorem spireClock_of_idle (n x : Nat) (env : VxEnv) : d.spireClock n x env = d.vxClock n x env := by
  simp [Device.spireClock, startsNow_of_idle hi]

/-- The Dome does nothing before its programs. -/
theorem alike_domeHead (x : Nat) : Alike d (d.domeHead x) := by
  unfold Device.domeHead
  split
  · exact Alike.refl d
  · have h1 : d.copyClock (x + 1) = d := by simp [Device.copyClock, hi.copies]
    have h2 : d.meetings x = d := by simp [Device.meetings, Device.unitClaims, hi.units]
    have h3 : d.networkClock x = d := by simp [Device.networkClock, hi.units]
    have h4 : d.northClock x = d := by simp [Device.northClock, hi.plan]
    have h5 : d.mxAll x = d := by simp [Device.mxAll, hi.dops]
    have h6 : d.statClock x = d := by simp [Device.statClock, hi.dops]
    simp only [h1, h2, h3, h4, h5, h6]
    exact ⟨rfl, fun _ => rfl⟩

end

/-! ### The command of a word (R112, R155) -/

theorem VxReady.idle {d : Device} {n x : Nat} {p : Prog} (h : VxReady d n x p) : DomeIdle d := by
  obtain ⟨hd, hp, hs, hc, hu, -⟩ := h
  exact ⟨hd, hp, hs, hc, hu⟩

/-- The command of the word that is next to issue lets it issue, once the Dome has done in that dclk what it does before. -/
theorem vxCommand_of_ready {d : Device} {n x : Nat} {p : Prog} (h : VxReady d n x p) (env : VxEnv) {opc : Option Nat}
    (hopc : (if vxLegal (d.vxWord n p.pc) p.pc (d.vx n).loops = true then some (fld (d.vxWord n p.pc) 56 8) else none) = opc) :
    d.vxCommand n env opc = ((d.domeHead x).vxClock n x env).mapSpire n (fun s => { s with ahead := x + 1 }) := by
  have hi := h.idle
  obtain ⟨-, -, hstarts, -, -, hprog, hissue, hclock, hnow, hpc, -, -⟩ := h
  have ha := alike_domeHead hi x
  have hi' := ha.idle hi
  have hnext : d.nextIssue n = some x := by simp [Device.nextIssue, hprog, hstarts, hissue]
  have hindex : (d.domeHead x).indexAt n x = some p.pc := by
    simp [Device.indexAt, startsNow_of_idle hi', ha.vx, hprog, hissue]
  have hopcode : (d.domeHead x).opcodeAt n x p.pc = opc := by
    rw [← hopc]
    simp [Device.opcodeAt, Device.loopsAt, startsNow_of_idle hi', ha.vx, ha.vxWord, hpc]
  simp only [Device.vxCommand, hnext, advance_past hnow, domeTo_past hclock, hindex, hopcode, if_true, spireClock_of_idle hi']

/-! ### The dclk of a word (R113, R118, R130, R137) -/

/-- No effect of the engine is the fault of a lost access. -/
def NoClash (v : Vx) : Prop := ∀ q ∈ v.pending, q.eff ≠ .conflict

theorem noClash_nil {v : Vx} (h : v.pending = []) : NoClash v := by simp [NoClash, h]

theorem alike_raiseClashes {d : Device} {n : Nat} (h : NoClash (d.vx n)) (x : Nat) : Alike d (d.raiseClashes n x) := by
  have hnone : (d.vx n).pending.filter (fun q => q.eff == .conflict && decide (q.due ≤ x)) = [] :=
    List.filter_eq_nil_iff.2 fun q hq => by simp [h q hq]
  have hall : (d.vx n).pending.filter (fun q => !(q.eff == .conflict && decide (q.due ≤ x))) = (d.vx n).pending :=
    List.filter_eq_self.2 fun q hq => by simp [h q hq]
  simp only [Device.raiseClashes, hnone, List.foldl_nil]
  exact alike_mapVx (by rw [hall])

theorem alike_commitVx {d : Device} {n : Nat} (h : (d.vx n).pending = []) (x : Nat) : Alike d (d.commitVx n x) := by
  simp only [Device.commitVx, h, List.filter_nil, List.foldl_nil]
  exact alike_mapVx (by rw [h, List.filter_nil, ← h])

theorem heldAt_of_none {v : Vx} (h : v.held = none) (x : Nat) : v.heldAt x = none := by simp [Vx.heldAt, h]

theorem actHeld_of_none {d : Device} {n : Nat} (h : (d.vx n).held = none) (x : Nat) : d.actHeld n x = d := by
  simp [Device.actHeld, heldAt_of_none h]

/-- The device in which the word of a dclk is judged. -/
def Device.judging (d : Device) (n x : Nat) : Device := ((d.domeHead x).losePort n x).raiseClashes n x

theorem VxReady.alike_judging {d : Device} {n x : Nat} {p : Prog} (h : VxReady d n x p) (hc : NoClash (d.vx n)) :
    Alike d (d.judging n x) := by
  have ha := alike_domeHead h.idle x
  rw [Device.judging, losePort_of_idle (ha.idle h.idle)]
  exact ha.trans (alike_raiseClashes (by rw [ha.vx]; exact hc) x)

/-- The word of a ready engine issues after its faults and after the effects that are due. -/
theorem VxReady.vxClock_eq {d : Device} {n x : Nat} {p : Prog} (h : VxReady d n x p) (hc : NoClash (d.vx n)) (env : VxEnv) :
    (d.domeHead x).vxClock n x env =
      ((((d.judging n x).vxFaults n x p (d.wordFaults n x p)).commitVx n x).actHeld n x).issueWord n x env p := by
  have ha := alike_domeHead h.idle x
  have hj := h.alike_judging hc
  obtain ⟨-, -, -, -, -, hprog, hissue, -, -, -, -, hheld⟩ := h
  have hnone : ((d.domeHead x).vx n).heldAt x = none := heldAt_of_none (by rw [ha.vx]; exact hheld) x
  have hp : ((d.judging n x).vx n).prog = some p := by rw [hj.vx]; exact hprog
  simp only [Device.vxClock, hnone]
  change (match ((d.judging n x).vx n).prog with
    | none => ((d.judging n x).commitVx n x).actHeld n x
    | some p => _) = _
  simp only [hp, hissue, ne_eq, not_true_eq_false, if_false]
  exact congrArg (fun f => ((((d.judging n x).vxFaults n x p f).commitVx n x).actHeld n x).issueWord n x env p)
    (hj.wordFaults n x p)

/-- A word without a fault, in an engine in which no effect is pending, issues in the device as it stands. -/
theorem VxReady.vxClock_quiet {d : Device} {n x : Nat} {p : Prog} (h : VxReady d n x p) (hq : (d.vx n).pending = [])
    (hf : d.wordFaults n x p = []) (env : VxEnv) :
    ∃ e : Device, Alike d e ∧ (d.domeHead x).vxClock n x env = e.issueWord n x env p := by
  have hj := h.alike_judging (noClash_nil hq)
  have hcommit := alike_commitVx (d := d.judging n x) (n := n) (by rw [hj.vx]; exact hq) x
  have ha := hj.trans hcommit
  obtain ⟨-, -, -, -, -, -, -, -, -, -, -, hheld⟩ := id h
  refine ⟨(d.judging n x).commitVx n x, ha, ?_⟩
  rw [h.vxClock_eq (noClash_nil hq), hf]
  exact congrArg (·.issueWord n x env p) (actHeld_of_none (by rw [ha.vx]; exact hheld) x)

/-! ### The program goes on (R123, R152) -/

/-- An engine whose word at index `pc` has issued in dclk `x` and takes `len` dclk. -/
def Vx.goneOn (v : Vx) (pc x len : Nat) : Vx :=
  { v with
    loops := (nextIndex pc v.cache v.loops).2.2,
    prog := v.prog.map (fun q => { q with
      pc := (nextIndex pc v.cache v.loops).1, issue := x + len + (nextIndex pc v.cache v.loops).2.1 }) }

def Device.goOn (d : Device) (n pc x len : Nat) : Device := d.mapVx n (·.goneOn pc x len)

/-- The device in which the word at index `pc` has been taken from the program store. -/
def Device.taken (d : Device) (n pc : Nat) : Device := d.mapVx n (fun v => { v with pc := pc })

section
variable {d : Device} {n x : Nat} {env : VxEnv} {p : Prog} {w : Word} (hpc : p.pc ≤ 2047) (hw : d.vxWord n p.pc = w)
include hpc hw

theorem issueWord_illegal (hl : vxLegal w p.pc (d.vx n).loops = false) :
    d.issueWord n x env p = (d.taken n p.pc).goOn n p.pc x 1 := by
  simp only [Device.issueWord, hw, hl, if_neg (show p.pc ≠ 2048 by omega), if_true]
  rfl

variable (hl : vxLegal w p.pc (d.vx n).loops = true)
include hl

theorem issueWord_halt (hc : decodeControl w = some .halt) :
    d.issueWord n x env p = (d.taken n p.pc).endProgram n x p true := by
  simp only [Device.issueWord, hw, hl, if_neg (show p.pc ≠ 2048 by omega), hc]
  rfl

theorem issueWord_loop {c : BitVec 16} {b : BitVec 11} (hc : decodeControl w = some (.loop c b)) :
    d.issueWord n x env p = if (d.vx n).loops.length = 4 then (d.taken n p.pc).goOn n p.pc x 1 else
      (d.taken n p.pc).mapVx n (fun v => { v with
        loops := { first := p.pc + 1, last := p.pc + b.toNat + 1, left := c.toNat } :: v.loops,
        cache := if b.toNat < 32 then some (p.pc + 1, p.pc + b.toNat + 1) else v.cache,
        prog := v.prog.map (fun q => { q with pc := p.pc + 1, issue := x + 1 }) }) := by
  simp only [Device.issueWord, hw, hl, if_neg (show p.pc ≠ 2048 by omega), hc]
  rfl

theorem issueWord_seta {k : BitVec 2} {i : BitVec 3} {v : BitVec 12} (hc : decodeControl w = some (.seta k i v)) :
    d.issueWord n x env p = ((d.taken n p.pc).pend n p (x + 1) none (.pointer k.toNat i.toNat v)).goOn n p.pc x 1 := by
  simp only [Device.issueWord, hw, hl, if_neg (show p.pc ≠ 2048 by omega), hc]
  rfl

theorem issueWord_ldi {i : BitVec 3} {bk : BitVec 1} {de : BitVec 8} {imm : BitVec 24}
    (hc : decodeControl w = some (.ldi i bk de imm)) :
    d.issueWord n x env p = ((d.taken n p.pc).pend n p (x + 1) none (.dreg i.toNat
      { lanes := List.replicate 32 imm, bk := bk == 1, de := if bk = 1 then de else 150, pois := 0 })).goOn n p.pc x 1 := by
  simp only [Device.issueWord, hw, hl, if_neg (show p.pc ≠ 2048 by omega), hc]
  rfl

theorem issueWord_wide (hc : decodeControl w = none) (hwide : wide (decodeVx w) = true) :
    d.issueWord n x env p =
      ((d.taken n p.pc).mapVx n (fun v => { v with held := some { due := x + 1, prog := p, env := env } })).goOn n p.pc x 2 := by
  simp only [Device.issueWord, hw, hl, if_neg (show p.pc ≠ 2048 by omega), hc, hwide]
  rfl

theorem issueWord_vector (hc : decodeControl w = none) (hwide : wide (decodeVx w) = false) :
    d.issueWord n x env p = ((d.taken n p.pc).issueVector n x (decodeVx w) env p).goOn n p.pc x 1 := by
  simp only [Device.issueWord, hw, hl, if_neg (show p.pc ≠ 2048 by omega), hc, hwide]
  rfl

end

/-- The opcode of a control word (R151). -/
def controlOpcode : VxControl → Nat
  | .halt => 1
  | .loop .. => 2
  | .seta .. => 3
  | .ldi .. => 4

theorem opcode_of_decodeControl {w : Word} {c : VxControl} (h : decodeControl w = some c) : fld w 56 8 = controlOpcode c := by
  have hw : fld w 56 8 = (w.extractLsb' 56 8).toNat := by simp [fld, BitVec.extractLsb'_toNat]
  unfold decodeControl at h
  lift_lets at h
  extract_lets opc at h
  rw [hw]
  split at h
  · split at h <;> cases h
    exact congrArg BitVec.toNat ‹opc = 1›
  split at h
  · split at h <;> cases h
    exact congrArg BitVec.toNat ‹opc = 2›
  split at h
  · split at h <;> cases h
    exact congrArg BitVec.toNat ‹opc = 3›
  split at h
  · split at h <;> cases h
    exact congrArg BitVec.toNat ‹opc = 4›
  · cases h

/-! ### One Spire changes (R112) -/

/-- The two devices differ in Spire `n`, in how they list the Spires, and in the ramps of the groups and the time of the Dome,
and in nothing else. -/
structure OnlySpire (n : Nat) (d d' : Device) : Prop where
  dev : d' = { d with dome := { d.dome with spires := d'.dome.spires, head := d'.dome.head, groups := d'.dome.groups } }
  spire : ∀ m, m ≠ n → d'.spire m = d.spire m

theorem Alike.onlySpire {d d' : Device} (h : Alike d d') (n : Nat) : OnlySpire n d d' :=
  ⟨by conv_lhs => rw [h.dev]
      rw [show d'.dome.groups = d.dome.groups by rw [h.dev]], fun m _ => h.spire m⟩

namespace OnlySpire
variable {n : Nat} {d d' d'' : Device}

theorem refl (d : Device) : OnlySpire n d d := ⟨rfl, fun _ _ => rfl⟩

theorem trans (h : OnlySpire n d d') (h' : OnlySpire n d' d'') : OnlySpire n d d'' :=
  ⟨by rw [h'.dev, h.dev], fun m hm => (h'.spire m hm).trans (h.spire m hm)⟩

theorem mapSpire (h : OnlySpire n d d') (f : Spire → Spire) : OnlySpire n d (d'.mapSpire n f) :=
  h.trans ⟨rfl, fun _ hm => spire_setSpire_ne d' _ hm⟩

theorem mapVx (h : OnlySpire n d d') (f : Vx → Vx) : OnlySpire n d (d'.mapVx n f) := h.mapSpire _

theorem regs (h : OnlySpire n d d') : d'.regs = d.regs := by rw [h.dev]

theorem sameMemory (h : OnlySpire n d d') : SameMemory d d' := by
  rw [h.dev]
  exact ⟨rfl, rfl, rfl, rfl⟩

theorem keeps (h : OnlySpire n d d') (hd : (d'.vx n).d = (d.vx n).d) (ha : (d'.vx n).acc = (d.vx n).acc)
    (hp : (d'.vx n).ap = (d.vx n).ap) : VxKeeps d d' n := by
  refine ⟨hd, ha, hp, h.spire, ?_, ?_, ?_, ?_, fun a _ => congrArg (fun r => (mapFind r a).getD (regReset a)) h.regs⟩ <;>
    rw [h.dev]

end OnlySpire

theorem vx_mapSpire_ahead (d : Device) (n x : Nat) : (d.mapSpire n (fun s => { s with ahead := x })).vx n = d.vx n := by
  rw [Device.vx, Device.mapSpire, spire_setSpire, Device.vx]

/-! ### The device after a word's command (R112, R155) -/

/-- The device in which the Dome and Spire `n` have gone through dclk `x`. -/
def Device.through (d : Device) (n x : Nat) : Device := d.mapSpire n (fun s => { s with ahead := x + 1 })

@[simp] theorem vx_through (d : Device) (n x : Nat) : (d.through n x).vx n = d.vx n := vx_mapSpire_ahead d n _

theorem onlySpire_through (d : Device) (n x : Nat) : OnlySpire n d (d.through n x) := (OnlySpire.refl d).mapSpire _

@[simp] theorem vx_taken (d : Device) (n pc : Nat) : (d.taken n pc).vx n = { d.vx n with pc := pc } := vx_mapVx d n _

@[simp] theorem vx_goOn (d : Device) (n pc x len : Nat) : (d.goOn n pc x len).vx n = (d.vx n).goneOn pc x len := vx_mapVx d n _

/-- The effect that a program leaves pending, as the next of its engine. -/
def Vx.entry (v : Vx) (p : Prog) (due : Nat) (bus : Option (Nat × Nat)) (e : VxEffect) : VxPending :=
  { due := due, seq := v.nextSeq, pc := p.pc, prog := p.id, op := p.op, bus := bus, eff := if v.tainted p then e.poison else e }

@[simp] theorem vx_pend (d : Device) (n : Nat) (p : Prog) (due : Nat) (bus : Option (Nat × Nat)) (e : VxEffect) :
    (d.pend n p due bus e).vx n =
      { d.vx n with pending := (d.vx n).pending ++ [(d.vx n).entry p due bus e], nextSeq := (d.vx n).nextSeq + 1 } :=
  vx_mapVx d n _

theorem tainted_of_running {v : Vx} {p : Prog} (h : v.prog = some p) (hf : p.faulted = false) : v.tainted p = false := by
  simp [Vx.tainted, h, hf]

/-- The command of a control word, or of an illegal one, is that of its opcode. -/
theorem VxReady.vxCommand_eq {d : Device} {n x : Nat} {p : Prog} (h : VxReady d n x p) (env : VxEnv) {o : Nat}
    (hl : vxLegal (d.vxWord n p.pc) p.pc (d.vx n).loops = true) (ho : fld (d.vxWord n p.pc) 56 8 = o) :
    d.vxCommand n env (some o) = ((d.domeHead x).vxClock n x env).through n x :=
  vxCommand_of_ready h env (by rw [if_pos hl, ho])

theorem VxReady.vxCommand_illegal {d : Device} {n x : Nat} {p : Prog} (h : VxReady d n x p) (env : VxEnv)
    (hl : vxLegal (d.vxWord n p.pc) p.pc (d.vx n).loops = false) :
    d.vxCommand n env none = ((d.domeHead x).vxClock n x env).through n x :=
  vxCommand_of_ready h env (by rw [hl]; rfl)

theorem VxReady.pc_le {d : Device} {n x : Nat} {p : Prog} (h : VxReady d n x p) : p.pc ≤ 2047 := by
  obtain ⟨-, -, -, -, -, -, -, -, -, hpc, -, -⟩ := h
  exact hpc

theorem VxReady.running {d : Device} {n x : Nat} {p : Prog} (h : VxReady d n x p) : (d.vx n).prog = some p := by
  obtain ⟨-, -, -, -, -, hprog, -⟩ := h
  exact hprog

theorem VxReady.not_faulted {d : Device} {n x : Nat} {p : Prog} (h : VxReady d n x p) : p.faulted = false := by
  obtain ⟨-, -, -, -, -, -, -, -, -, -, hf, -⟩ := h
  exact hf

theorem VxReady.not_held {d : Device} {n x : Nat} {p : Prog} (h : VxReady d n x p) : (d.vx n).held = none := by
  obtain ⟨-, -, -, -, -, -, -, -, -, -, -, hh⟩ := h
  exact hh

end Sys2Proof.Machine
end

section
/-!
PROOFS. Control words and illegal words of the vector engine (R113, R122, R123, R130, R151 - R153, R156).
-/
namespace Sys2Proof.Machine

open Sys2Proof

/-! ### Faults of a vector engine (R130, R474) -/

/-- The registers at the offsets from 0x1000000 on, which are those of the Spires and of the units after them, are as they were. -/
def SameHigh (d d' : Device) : Prop := ∀ a, 0x1000000 ≤ a → d'.reg a = d.reg a

namespace SameHigh
variable {d d' d'' : Device}

theorem refl (d : Device) : SameHigh d d := fun _ _ => rfl

theorem trans (h : SameHigh d d') (h' : SameHigh d' d'') : SameHigh d d'' := fun a ha => (h' a ha).trans (h a ha)

theorem setReg (h : SameHigh d d') {b : Nat} (hb : b < 0x1000000) (v : Word) : SameHigh d (d'.setReg b v) :=
  h.trans fun _ ha => reg_setReg_ne d' v (by omega)

theorem foldl {α : Type} {l : List α} {f : Device → α → Device} (hf : ∀ x ∈ l, ∀ e, SameHigh e (f e x)) (d : Device) :
    SameHigh d (l.foldl f d) := by
  induction l generalizing d with
  | nil => exact refl d
  | cons x l ih =>
    exact (hf x (by simp) d).trans (ih (fun y hy => hf y (by simp [hy])) _)

end SameHigh

theorem sameHigh_putFaults (d : Device) (l : FaultLog) : SameHigh d (d.putFaults l) := by
  refine SameHigh.trans (d' := { d with lantern := { d.lantern with faults := l } }) (fun _ _ => rfl) ?_
  refine SameHigh.foldl (fun k _ e => SameHigh.foldl (fun w hw e' => ?_) e) _
  have hw8 : w < 8 := List.mem_range.1 hw
  exact (SameHigh.refl e').setReg (by simp only [faultWord, Reg.errFr]; omega) _

theorem sameHigh_msix (d : Device) (f vec : Nat) : SameHigh d (d.msix f vec) := fun a ha =>
  (msix_frame d f vec).2 a (by simp only [List.mem_singleton, Reg.hifWrDiscardCnt]; omega)

theorem sameHigh_faultRecord (d : Device) (kind unit : Nat) (f0 : List (Nat × Nat)) (f1 f2 f3 f4 f5 : Word) (g : Nat) (f7 : Word) :
    SameHigh d (d.faultRecord kind unit f0 f1 f2 f3 f4 f5 g f7) := by
  unfold Device.faultRecord
  lift_lets
  extract_lets l task first e d1 d2
  have h1 : SameHigh d d1 := sameHigh_putFaults d _
  have h2 : SameHigh d d2 := (h1.setReg (by simp only [Reg.errFrCnt]; omega) _).setReg (by simp only [Reg.errFrLast]; omega) _
  clear_value d2
  split
  · exact h2.trans (sameHigh_msix _ _ _)
  · exact h2

theorem sameHigh_cfgIntegrity (d : Device) (source where_ opnum causeBit : Nat) :
    SameHigh d (d.cfgIntegrity source where_ opnum causeBit) := by
  have h : SameHigh d ((d.bump Reg.errCfgIntegCnt 1).markPoison causeBit) :=
    (SameHigh.refl d).setReg (by simp only [Reg.errCfgIntegCnt]; omega) _
  simp only [Device.cfgIntegrity]
  split
  · exact h
  split
  · exact h
  · refine h.trans fun a ha => ?_
    rw [reg_mapRun]
    exact sameHigh_faultRecord _ _ _ _ _ _ _ _ _ _ _ a ha

theorem dome_of_still {d d' : Device} (h : d'.still = d.still) : d'.dome = d.dome :=
  (congrArg Device.dome h :)

theorem sameMemory_of_still {d d' : Device} (h : d'.still = d.still) : SameMemory d d' :=
  ⟨(congrArg (fun e : Device => e.hbm.mem) h :), (congrArg Device.tile h :),
    (congrArg (fun e : Device => e.streams.cache) h :), (congrArg Device.cfgMem h :)⟩

section
variable (d : Device) (n x kind pc id op : Nat)

/-- The device once the fault has been counted, before it is captured. -/
def Device.vxCounted : Device := (d.bump (Reg.sprVxFaultCnt n) 1).cfgIntegrity 1 n op 51

theorem vxCounted_still : (d.vxCounted n op).still = d.still := still_cfgIntegrity ..

/-- A fault is counted; it is captured or not; and what the program writes from then on is poisoned. -/
theorem vxFault_cases :
    (d.regBit (Reg.sprVxFault n) 63 = true ∧ d.vxFault n x kind pc id op = (d.vxCounted n op).mapVx n (·.poisonFrom id x)) ∨
    d.vxFault n x kind pc id op =
      (((d.vxCounted n op).setReg (Reg.sprVxFault n) (mkWord [(63, 1), (59, kind), (48, pc), (0, op)])).mapVx n
        (fun v => { v with faultAt := x })).mapVx n (·.poisonFrom id x) := by
  have hbit : (d.vxCounted n op).regBit (Reg.sprVxFault n) 63 = d.regBit (Reg.sprVxFault n) 63 := by
    have hne : Reg.sprVxFault n ≠ Reg.sprVxFaultCnt n := by simp only [Reg.sprVxFault, Reg.sprVxFaultCnt]; omega
    rw [Device.regBit, Device.vxCounted, sameHigh_cfgIntegrity _ _ _ _ _ _ (by simp only [Reg.sprVxFault]; omega),
      reg_bump_ne _ _ hne, Device.regBit]
  by_cases hc : (!(d.vxCounted n op).regBit (Reg.sprVxFault n) 63) = true ∨
      (((d.vxCounted n op).vx n).faultAt = x ∧ kind < (d.vxCounted n op).regF (Reg.sprVxFault n) 59 4)
  · exact .inr (congrArg (Device.mapVx · n (·.poisonFrom id x)) (if_pos hc))
  · refine .inl ⟨?_, congrArg (Device.mapVx · n (·.poisonFrom id x)) (if_neg hc)⟩
    rw [← hbit]
    simpa using (not_or.1 hc).1

theorem vx_vxFault : ∃ t, (d.vxFault n x kind pc id op).vx n = ({ d.vx n with faultAt := t }).poisonFrom id x := by
  have hvx : (d.vxCounted n op).vx n = d.vx n := by
    rw [Device.vx, Device.spire, dome_of_still (vxCounted_still d n op)]; rfl
  rcases vxFault_cases d n x kind pc id op with ⟨-, h⟩ | h
  · exact ⟨(d.vx n).faultAt, by rw [h, vx_mapVx, hvx]⟩
  · refine ⟨x, ?_⟩
    rw [h, vx_mapVx, vx_mapVx]
    exact congrArg (fun v : Vx => ({ v with faultAt := x }).poisonFrom id x) hvx

theorem sameMemory_vxFault : SameMemory d (d.vxFault n x kind pc id op) := by
  have h0 := sameMemory_of_still (vxCounted_still d n op)
  rcases vxFault_cases d n x kind pc id op with ⟨-, h⟩ | h <;> rw [h] <;> exact h0

theorem faultCnt_vxFault :
    (d.vxFault n x kind pc id op).reg (Reg.sprVxFaultCnt n) = d.reg (Reg.sprVxFaultCnt n) + 1 := by
  have h0 : (d.vxCounted n op).reg (Reg.sprVxFaultCnt n) = d.reg (Reg.sprVxFaultCnt n) + 1 := by
    rw [Device.vxCounted, sameHigh_cfgIntegrity _ _ _ _ _ _ (by simp only [Reg.sprVxFaultCnt]; omega), reg_bump]
    rfl
  have hne : Reg.sprVxFaultCnt n ≠ Reg.sprVxFault n := by simp only [Reg.sprVxFault, Reg.sprVxFaultCnt]; omega
  rcases vxFault_cases d n x kind pc id op with ⟨-, h⟩ | h
  · rw [h, reg_mapVx, h0]
  · rw [h, reg_mapVx, reg_mapVx, reg_setReg_ne _ _ hne, h0]

theorem captured_vxFault (hbit : d.regBit (Reg.sprVxFault n) 63 = false) :
    (d.vxFault n x kind pc id op).reg (Reg.sprVxFault n) = mkWord [(63, 1), (59, kind), (48, pc), (0, op)] := by
  rcases vxFault_cases d n x kind pc id op with ⟨h, -⟩ | h
  · simp [hbit] at h
  · rw [h, reg_mapVx, reg_mapVx, reg_setReg]

end

/-! ### The engine in which a word issues -/

theorem SameMemory.trans {d d' d'' : Device} (h : SameMemory d d') (h' : SameMemory d' d'') : SameMemory d d'' := by
  obtain ⟨hh, ht, hs, hc⟩ := h
  obtain ⟨hh', ht', hs', hc'⟩ := h'
  exact ⟨hh'.trans hh, ht'.trans ht, hs'.trans hs, hc'.trans hc⟩

theorem SameMemory.vxWord {d d' : Device} (h : SameMemory d d') (n pc : Nat) : d'.vxWord n pc = d.vxWord n pc := by
  obtain ⟨-, -, -, hc⟩ := h
  rw [Device.vxWord, Device.vxWord, hc]

section
variable {d : Device} {n x : Nat} {p : Prog} (h : VxReady d n x p)
include h

/-- A control word raises no fault unless it is a fifth loop (R122). -/
theorem VxReady.wordFaults_control {c : VxControl} (hc : decodeControl (d.vxWord n p.pc) = some c)
    (hl : vxLegal (d.vxWord n p.pc) p.pc (d.vx n).loops = true)
    (hfive : ∀ k b, c = .loop k b → (d.vx n).loops.length ≠ 4) : d.wordFaults n x p = [] := by
  have hpc := h.pc_le
  simp only [Device.wordFaults, hl, hc, if_neg (show p.pc ≠ 2048 by omega), Bool.true_eq_false, if_false]
  cases c with
  | loop k b => exact if_neg (hfive k b rfl)
  | halt => rfl
  | seta => rfl
  | ldi => rfl

/-- A word with one fault, in an engine in which no effect is pending, issues in the device in which the fault has come. -/
theorem VxReady.vxClock_fault (hq : (d.vx n).pending = []) {f : Nat × Nat} (hf : d.wordFaults n x p = [f]) (env : VxEnv) :
    ∃ e e' : Device, Alike d e ∧ Alike (e.vxFault n x f.1 f.2 p.id p.op) e' ∧
      (d.domeHead x).vxClock n x env = e'.issueWord n x env p := by
  have hj := h.alike_judging (noClash_nil hq)
  obtain ⟨t, hv⟩ := vx_vxFault (d.judging n x) n x f.1 f.2 p.id p.op
  rw [hj.vx] at hv
  have hpend : (((d.judging n x).vxFault n x f.1 f.2 p.id p.op).vx n).pending = [] := by
    rw [hv, Vx.poisonFrom, hq]; rfl
  have ha := alike_commitVx hpend x
  refine ⟨d.judging n x, _, hj, ha, ?_⟩
  rw [h.vxClock_eq (noClash_nil hq), hf]
  refine congrArg (·.issueWord n x env p) (actHeld_of_none ?_ x)
  rw [Device.vxFaults, List.foldl_cons, List.foldl_nil, ha.vx, hv]
  exact h.not_held

end

/-! ### HALT (R125, R151) -/

/-- With no DOP in the Dome the end of a program for one touches at most the ramps of the groups. -/
theorem dopEnded_of_noDops {d : Device} (h : d.dome.dops = []) (op x : Nat) :
    ∃ gs, d.dopEnded op x = { d with dome := { d.dome with groups := gs } } := by
  unfold Device.dopEnded
  extract_lets dome d1 d2 streams
  have h1 : d1 = d := by
    simp only [d1, dome, h, List.map_nil]
    rw [← h]
  clear_value d1
  subst h1
  have h2 : d2.dome.dops = [] ∧ ∃ gs, d2 = { d1 with dome := { d1.dome with groups := gs } } := by
    simp only [d2]
    split
    · simp only [Device.rampDownFrom, Device.setGroups]
      exact ⟨h, _, rfl⟩
    · exact ⟨h, d1.dome.groups, rfl⟩
  obtain ⟨hd2, hg⟩ := h2
  rw [hd2]
  exact hg

section
variable {d : Device} (h : d.dome.dops = []) (n x : Nat) (p : Prog) (halted : Bool)
include h

/-- The end of a program, as far as VX and the Dome's other Spires are concerned. -/
theorem endProgram_of_noDops : OnlySpire n d (d.endProgram n x p halted) ∧
    (d.endProgram n x p halted).vx n = { d.vx n with prog := none, loops := [] } := by
  unfold Device.endProgram
  lift_lets
  extract_lets v ended d1 d2 last
  have h1 : OnlySpire n d d1 := (OnlySpire.refl d).mapVx _
  have hv1 : d1.vx n = { d.vx n with prog := none, loops := [] } := vx_mapVx d n _
  have h2 : OnlySpire n d d2 ∧ d2.vx n = { d.vx n with prog := none, loops := [] } ∧ d2.dome.dops = [] := by
    simp only [d2]
    split
    · refine ⟨h1.mapSpire _, ?_, h⟩
      rw [Device.vx, Device.mapSpire, spire_setSpire]
      exact hv1
    · exact ⟨h1, hv1, h⟩
  obtain ⟨h2, hv2, hd2⟩ := h2
  clear_value d2 last ended
  split
  · obtain ⟨gs, hg⟩ := dopEnded_of_noDops hd2 p.op ended
    rw [hg]
    exact ⟨h2.trans ⟨rfl, fun _ _ => rfl⟩, hv2⟩
  · exact ⟨h2, hv2⟩

end

section
variable {d : Device} {n x : Nat} {p : Prog} {w : Word} (h : VxReady d n x p) (hw : w = d.vxWord n p.pc) (env : VxEnv)
include h hw

/-- A control word without a fault, in an engine in which no effect is pending, issues. -/
theorem VxReady.vxCommand_control {c : VxControl} {o : Nat} (ho : controlOpcode c = o) (hq : (d.vx n).pending = [])
    (hc : decodeControl w = some c) (hl : vxLegal w p.pc (d.vx n).loops = true)
    (hfive : ∀ k b, c = .loop k b → (d.vx n).loops.length ≠ 4) :
    ∃ e : Device, Alike d e ∧ e.vxWord n p.pc = w ∧ vxLegal w p.pc (e.vx n).loops = true ∧
      d.vxCommand n env (some o) = (e.issueWord n x env p).through n x := by
  subst hw ho
  obtain ⟨e, he, heq⟩ := h.vxClock_quiet hq (h.wordFaults_control hc hl hfive) env
  exact ⟨e, he, he.vxWord n p.pc, by rw [he.vx]; exact hl, by rw [h.vxCommand_eq env hl (opcode_of_decodeControl hc), heq]⟩

theorem VxReady.halt (hq : (d.vx n).pending = []) (hc : decodeControl w = some .halt) :
    OnlySpire n d (d.vxCommand n env (some 0x01)) ∧
    (d.vxCommand n env (some 0x01)).vx n = { d.vx n with pc := p.pc, prog := none, loops := [] } := by
  have hl : vxLegal w p.pc (d.vx n).loops = true := by rw [vxLegal, hc]; rfl
  obtain ⟨e, he, hew, hel, heq⟩ := h.vxCommand_control (o := 0x01) hw env rfl hq hc hl (by simp)
  have hdops : (e.taken n p.pc).dome.dops = [] := by
    obtain ⟨hd, -⟩ := he.idle h.idle
    exact hd
  obtain ⟨ho, hv⟩ := endProgram_of_noDops hdops n x p true
  have ht : OnlySpire n d (e.taken n p.pc) := (he.onlySpire n).mapVx _
  rw [heq, issueWord_halt h.pc_le hew hel hc]
  refine ⟨(ht.trans ho).trans (onlySpire_through _ n x), ?_⟩
  rw [vx_through, hv, vx_taken, he.vx]

/-! ### LOOP (R122, R152, R153) -/

theorem VxReady.loop {c : BitVec 16} {b : BitVec 11} (hq : (d.vx n).pending = []) (hc : decodeControl w = some (.loop c b))
    (hl : vxLegal w p.pc (d.vx n).loops = true) (hlen : (d.vx n).loops.length < 4) :
    OnlySpire n d (d.vxCommand n env (some 0x02)) ∧
    ((d.vxCommand n env (some 0x02)).vx n).loops =
      { first := p.pc + 1, last := p.pc + b.toNat + 1, left := c.toNat } :: (d.vx n).loops ∧
    ((d.vxCommand n env (some 0x02)).vx n).prog = some { p with pc := p.pc + 1, issue := x + 1 } := by
  obtain ⟨e, he, hew, hel, heq⟩ := h.vxCommand_control (o := 0x02) hw env rfl hq hc hl (fun _ _ _ => by omega)
  have hno : ¬ (e.vx n).loops.length = 4 := by rw [he.vx]; omega
  have ht : OnlySpire n d (e.taken n p.pc) := (he.onlySpire n).mapVx _
  rw [heq, issueWord_loop h.pc_le hew hel hc, if_neg hno]
  refine ⟨(ht.mapVx _).trans (onlySpire_through _ n x), ?_, ?_⟩
  · rw [vx_through, vx_mapVx, vx_taken, he.vx]
  · rw [vx_through, vx_mapVx, vx_taken, he.vx]
    simp [h.running]

/-! ### An effect, and the word that goes on (R113, R123) -/

omit hw in
/-- A word of one dclk that leaves one effect of its program pending and does nothing else, in device `e`. -/
theorem issued_pend_goOn {e : Device} {due : Nat} {bus : Option (Nat × Nat)} {eff : VxEffect} (he : Alike d e) :
    let d' := (((e.taken n p.pc).pend n p due bus eff).goOn n p.pc x 1).through n x
    VxIssued d d' n x p env 1 ∧ VxPends d' n due eff := by
  intro d'
  have ho : OnlySpire n d d' := ((((he.onlySpire n).mapVx _).mapVx _).mapVx _).trans (onlySpire_through _ n x)
  have hv : d'.vx n = ({ d.vx n with
      pc := p.pc, pending := (d.vx n).pending ++ [(d.vx n).entry p due bus eff],
      nextSeq := (d.vx n).nextSeq + 1 }).goneOn p.pc x 1 := by
    simp only [d', vx_through, vx_goOn, vx_pend, vx_taken, he.vx]
    rfl
  have heff : ((d.vx n).entry p due bus eff).eff = eff := by
    rw [Vx.entry, tainted_of_running h.running h.not_faulted]; rfl
  clear_value d'
  refine ⟨⟨?_, ?_, ?_, ?_, ho.keeps ?_ ?_ ?_, ho.sameMemory⟩, ?_⟩
  case refine_8 => exact ⟨(d.vx n).entry p due bus eff, by simp [hv, Vx.goneOn], rfl, heff⟩
  case refine_4 => simpa [hv, Vx.goneOn] using h.not_held
  all_goals simp [hv, Vx.goneOn, h.running]

theorem VxReady.seta {k : BitVec 2} {i : BitVec 3} {v : BitVec 12} (hq : (d.vx n).pending = [])
    (hc : decodeControl w = some (.seta k i v)) :
    VxIssued d (d.vxCommand n env (some 0x03)) n x p env 1 ∧
      VxPends (d.vxCommand n env (some 0x03)) n (x + 1) (.pointer k.toNat i.toNat v) := by
  have hl : vxLegal w p.pc (d.vx n).loops = true := by rw [vxLegal, hc]; rfl
  obtain ⟨e, he, hew, hel, heq⟩ := h.vxCommand_control (o := 0x03) hw env rfl hq hc hl (by simp)
  rw [heq, issueWord_seta h.pc_le hew hel hc]
  exact issued_pend_goOn h env he

theorem VxReady.ldi {i : BitVec 3} {bk : BitVec 1} {de : BitVec 8} {imm : BitVec 24} (hq : (d.vx n).pending = [])
    (hc : decodeControl w = some (.ldi i bk de imm)) (hbk : bk = 1 ∨ de = 0) :
    VxIssued d (d.vxCommand n env (some 0x04)) n x p env 1 ∧
      VxPends (d.vxCommand n env (some 0x04)) n (x + 1) (.dreg i.toNat
        { lanes := List.replicate 32 imm, bk := bk == 1, de := if bk = 1 then de else 150, pois := 0 }) := by
  have hl : vxLegal w p.pc (d.vx n).loops = true := by rw [vxLegal, hc]; simpa [controlLegal] using hbk
  obtain ⟨e, he, hew, hel, heq⟩ := h.vxCommand_control (o := 0x04) hw env rfl hq hc hl (by simp)
  rw [heq, issueWord_ldi h.pc_le hew hel hc]
  exact issued_pend_goOn h env he

/-! ### A word with a fault (R122, R130, R156) -/

/-- The engine and the registers of the fault once a word with one fault has issued and the program has gone on. -/
structure VxFaulted (d d' : Device) (n x : Nat) (p : Prog) (f : Nat × Nat) : Prop where
  count : d'.reg (Reg.sprVxFaultCnt n) = d.reg (Reg.sprVxFaultCnt n) + 1
  capture : d.regBit (Reg.sprVxFault n) 63 = false →
    d'.reg (Reg.sprVxFault n) = mkWord [(63, 1), (59, f.1), (48, f.2), (0, p.op)]
  pending : (d'.vx n).pending = []
  pc : (d'.vx n).pc = p.pc
  dregs : (d'.vx n).d = (d.vx n).d
  loops : (d'.vx n).loops = (nextIndex p.pc (d.vx n).cache (d.vx n).loops).2.2
  memory : SameMemory d d'

omit h hw env in
theorem vxFaulted_goOn {e e' : Device} {f : Nat × Nat} (hq : (d.vx n).pending = []) (he : Alike d e)
    (he' : Alike (e.vxFault n x f.1 f.2 p.id p.op) e') :
    VxFaulted d (((e'.taken n p.pc).goOn n p.pc x 1).through n x) n x p f := by
  obtain ⟨t, hv⟩ := vx_vxFault e n x f.1 f.2 p.id p.op
  rw [he.vx] at hv
  have hv' := (he'.vx n).trans hv
  have hreg : ∀ a, e'.reg a = (e.vxFault n x f.1 f.2 p.id p.op).reg a := fun a => by rw [Device.reg, he'.regs, Device.reg]
  have hrege : ∀ a, e.reg a = d.reg a := fun a => by rw [Device.reg, he.regs, Device.reg]
  have hmem := (he.sameMemory.trans (sameMemory_vxFault e n x f.1 f.2 p.id p.op)).trans he'.sameMemory
  refine ⟨?_, fun hbit => ?_, ?_, ?_, ?_, ?_, hmem⟩
  · exact (hreg _).trans ((faultCnt_vxFault e n x f.1 f.2 p.id p.op).trans (by rw [hrege]))
  · exact (hreg _).trans (captured_vxFault e n x f.1 f.2 p.id p.op (by rw [Device.regBit, hrege]; exact hbit))
  all_goals simp [hv', Vx.goneOn, Vx.poisonFrom, hq]

theorem VxReady.illegal (hq : (d.vx n).pending = []) (hl : vxLegal w p.pc (d.vx n).loops = false) :
    VxFaulted d (d.vxCommand n env none) n x p (2, p.pc) := by
  subst hw
  have hpc := h.pc_le
  have hf : d.wordFaults n x p = [(2, p.pc)] := by
    simp only [Device.wordFaults, hl, if_neg (show p.pc ≠ 2048 by omega), if_true]
  obtain ⟨e, e', he, he', heq⟩ := h.vxClock_fault hq hf env
  have hew : e'.vxWord n p.pc = d.vxWord n p.pc :=
    ((he.sameMemory.trans (sameMemory_vxFault ..)).trans he'.sameMemory).vxWord n p.pc
  obtain ⟨t, hv⟩ := vx_vxFault e n x 2 p.pc p.id p.op
  have hel : vxLegal (d.vxWord n p.pc) p.pc (e'.vx n).loops = false := by rw [he'.vx, hv, he.vx]; exact hl
  rw [h.vxCommand_illegal env hl, heq, issueWord_illegal hpc hew hel]
  exact vxFaulted_goOn hq he he'

theorem VxReady.fifthLoop {c : BitVec 16} {b : BitVec 11} (hq : (d.vx n).pending = [])
    (hc : decodeControl w = some (.loop c b)) (hl : vxLegal w p.pc (d.vx n).loops = true) (hlen : (d.vx n).loops.length = 4) :
    VxFaulted d (d.vxCommand n env (some 0x02)) n x p (6, p.pc) := by
  subst hw
  have hpc := h.pc_le
  have hf : d.wordFaults n x p = [(6, p.pc)] := by
    simp only [Device.wordFaults, hl, hc, hlen, if_neg (show p.pc ≠ 2048 by omega), Bool.true_eq_false, if_false, if_true]
  obtain ⟨e, e', he, he', heq⟩ := h.vxClock_fault hq hf env
  have hew : e'.vxWord n p.pc = d.vxWord n p.pc :=
    ((he.sameMemory.trans (sameMemory_vxFault ..)).trans he'.sameMemory).vxWord n p.pc
  obtain ⟨t, hv⟩ := vx_vxFault e n x 6 p.pc p.id p.op
  have hloops : (e'.vx n).loops = (d.vx n).loops := by rw [he'.vx, hv, he.vx]; rfl
  have hel : vxLegal (d.vxWord n p.pc) p.pc (e'.vx n).loops = true := by rw [hloops]; exact hl
  rw [h.vxCommand_eq (o := 0x02) env hl (opcode_of_decodeControl hc), heq, issueWord_loop hpc hew hel hc,
    if_pos (by rw [hloops]; exact hlen)]
  exact vxFaulted_goOn hq he he'

/-! ### An effect that has come due (R113) -/

omit h hw in
/-- The only pending effect of an engine is committed in a dclk from its own on. -/
theorem commitVx_of_due {e : Device} {q : VxPending} (hq : (e.vx n).pending = [q]) (hdue : q.due ≤ x) :
    e.commitVx n x = (e.mapVx n (fun v => { v with pending := v.pending.filter (fun q => decide (x < q.due)) })).effect n
      (e.vx n) q.eff := by
  have hf : [q].filter (fun q => decide (q.due ≤ x)) = [q] := List.filter_eq_self.2 (by simpa using hdue)
  simp only [Device.commitVx, hq, hf, List.foldl_cons, List.foldl_nil]

/-- Before a SETA that issues in its dclk, an effect does what it does to the D registers and the accumulators. -/
theorem VxReady.seta_after {q : VxPending} {k : BitVec 2} {j : BitVec 3} {v : BitVec 12} {fd : List DReg → List DReg}
    {fa : List AReg → List AReg} (hq : (d.vx n).pending = [q]) (hdue : q.due ≤ x) (hc : decodeControl w = some (.seta k j v))
    (hclash : q.eff ≠ .conflict)
    (heff : ∀ (e : Device) (v0 : Vx), e.effect n v0 q.eff = e.mapVx n (fun v => { v with d := fd v.d, acc := fa v.acc })) :
    ((d.vxCommand n env (some 0x03)).vx n).d = fd (d.vx n).d ∧ ((d.vxCommand n env (some 0x03)).vx n).acc = fa (d.vx n).acc ∧
      SameMemory d (d.vxCommand n env (some 0x03)) := by
  subst hw
  have hl : vxLegal (d.vxWord n p.pc) p.pc (d.vx n).loops = true := by rw [vxLegal, hc]; rfl
  have hno : NoClash (d.vx n) := by
    intro q' hq'
    rw [hq, List.mem_singleton] at hq'
    rwa [hq']
  have hj := h.alike_judging hno
  have hcommit := commitVx_of_due (n := n) (x := x) (by rw [hj.vx]; exact hq) hdue
  rw [heff] at hcommit
  have ho : OnlySpire n d ((d.judging n x).commitVx n x) := by
    rw [hcommit]; exact ((hj.onlySpire n).mapVx _).mapVx _
  have hv : ((d.judging n x).commitVx n x).vx n = { d.vx n with
      d := fd (d.vx n).d, acc := fa (d.vx n).acc, pending := [q].filter (fun q => decide (x < q.due)) } := by
    rw [hcommit, vx_mapVx, vx_mapVx, hj.vx, hq]
  have hheld : (((d.judging n x).commitVx n x).vx n).held = none := by rw [hv]; exact h.not_held
  have hew := ho.sameMemory.vxWord n p.pc
  have hel : vxLegal (d.vxWord n p.pc) p.pc (((d.judging n x).commitVx n x).vx n).loops = true := by rw [hv]; exact hl
  have heq : d.vxCommand n env (some 0x03) = (((d.judging n x).commitVx n x).issueWord n x env p).through n x := by
    rw [h.vxCommand_eq (o := 0x03) env hl (opcode_of_decodeControl hc), h.vxClock_eq hno, h.wordFaults_control hc hl (by simp)]
    exact congrArg (fun e => (Device.issueWord e n x env p).through n x) (actHeld_of_none hheld x)
  rw [heq, issueWord_seta h.pc_le hew hel hc]
  refine ⟨?_, ?_, ((((ho.mapVx _).mapVx _).mapVx _).trans (onlySpire_through _ n x)).sameMemory⟩ <;>
    rw [vx_through, vx_goOn, vx_pend, vx_taken, hv] <;> rfl

end

/-- Settles O44: each control word issues through `issueWord` in the device that the Dome's own work leaves alike. -/
theorem vxControlWordsRun : Obligations.VxControlWordsRun := by
  unfold Obligations.VxControlWordsRun
  intro s n env x p w ha h hw
  refine ⟨fun hq => ⟨fun hc => ?_, fun c b hc hl => ⟨fun hlen => ?_, fun hlen => ?_⟩, fun k i v hc => ?_,
    fun i bk de imm hc hbk => ?_, fun hl => ?_⟩, fun q k j v hq hdue hc => ⟨fun i r heff => ?_, fun i r heff => ?_⟩⟩
  · obtain ⟨ho, hv⟩ := h.halt hw env hq hc
    refine completes_took (f := (·.vxCommand n env (some 0x01))) rfl ha ?_
    simp only [hv]
    exact ⟨trivial, trivial, trivial, trivial, ho.spire, ho.regs, ho.sameMemory⟩
  · obtain ⟨ho, hloops, hprog⟩ := h.loop hw env hq hc hl hlen
    exact completes_took (f := (·.vxCommand n env (some 0x02))) rfl ha ⟨hloops, hprog, ho.regs, ho.sameMemory⟩
  · have hf := h.fifthLoop hw env hq hc hl hlen
    exact completes_took (f := (·.vxCommand n env (some 0x02))) rfl ha ⟨hf.loops, hf.count, hf.memory⟩
  · exact completes_took (f := (·.vxCommand n env (some 0x03))) rfl ha (h.seta hw env hq hc)
  · exact completes_took (f := (·.vxCommand n env (some 0x04))) rfl ha (h.ldi hw env hq hc hbk)
  · have hf := h.illegal hw env hq hl
    exact completes_took (f := (·.vxCommand n env none)) rfl ha
      ⟨hf.count, hf.capture, hf.pending, hf.pc, hf.dregs, hf.memory⟩
  · obtain ⟨hd, hacc, hm⟩ := h.seta_after hw env (fd := (·.set i r)) (fa := id) hq hdue hc (by simp [heff])
      (fun _ _ => by rw [heff]; rfl)
    exact completes_took (f := (·.vxCommand n env (some 0x03))) rfl ha ⟨hd, hacc, hm⟩
  · obtain ⟨hd, hacc, hm⟩ := h.seta_after hw env (fd := id) (fa := (·.set i r)) hq hdue hc (by simp [heff])
      (fun _ _ => by rw [heff]; rfl)
    exact completes_took (f := (·.vxCommand n env (some 0x03))) rfl ha ⟨hacc, hd, hm⟩

end Sys2Proof.Machine
end

section
/-!
PROOFS. What a vector-format word may touch as it acts (R113 - R118, R137): the steps that it is made of, and what each leaves.
-/
namespace Sys2Proof.Machine

open Sys2Proof

/-! ### Steps that only note something (R53, R117, R469) -/

/-- The registers of a Spire that the accesses and results of VX count and flag in. -/
def vxRegs (n : Nat) : List Nat :=
  [Reg.sprFlags n, Reg.sprTsCorrCnt n, Reg.sprTsUncorrCnt n, Reg.sprTsChkCnt n, Reg.sprCsCorrCnt n,
    Reg.sprCsUncorrCnt n, Reg.errCorrCnt, Reg.errUncorrCnt]

/-- Only registers at the offsets `vxRegs n` and the record of the running task may differ. -/
structure Noted (n : Nat) (d d' : Device) : Prop where
  dev : d' = { d with regs := d'.regs, lantern := { d.lantern with run := d'.lantern.run } }
  regs : SameRegs (vxRegs n) d d'

namespace Noted
variable {n : Nat} {d d' d'' : Device}

theorem refl (d : Device) : Noted n d d := ⟨rfl, fun _ _ => rfl⟩

theorem trans (h : Noted n d d') (h' : Noted n d' d'') : Noted n d d'' :=
  ⟨by rw [h'.dev, h.dev], fun a ha => (h'.regs a ha).trans (h.regs a ha)⟩

theorem setReg (h : Noted n d d') {a : Nat} (ha : a ∈ vxRegs n) (v : Word) : Noted n d (d'.setReg a v) :=
  h.trans ⟨rfl, fun _ hb => reg_setReg_ne d' v fun e => hb (e ▸ ha)⟩

theorem mapRun (h : Noted n d d') (f : Run → Run) : Noted n d (d'.mapRun f) := h.trans ⟨rfl, fun _ _ => rfl⟩

theorem foldl {α : Type} {f : Device → α → Device} (hf : ∀ e q, Noted n e (f e q)) (l : List α) (d : Device) :
    Noted n d (l.foldl f d) := by
  induction l generalizing d with
  | nil => exact refl d
  | cons q l ih => exact (hf d q).trans (ih _)

theorem tile (h : Noted n d d') : d'.tile = d.tile := by rw [h.dev]

theorem cfgMem (h : Noted n d d') : d'.cfgMem = d.cfgMem := by rw [h.dev]

theorem dome (h : Noted n d d') : d'.dome = d.dome := by rw [h.dev]

theorem spire (h : Noted n d d') (m : Nat) : d'.spire m = d.spire m := by rw [Device.spire, h.dome, Device.spire]

theorem vx (h : Noted n d d') (m : Nat) : d'.vx m = d.vx m := congrArg Spire.vx (h.spire m)

theorem idle (h : Noted n d d') (hi : DomeIdle d) : DomeIdle d' := hi.of_dome (by rw [h.dome])

end Noted

section
variable (n : Nat) (d : Device)

theorem noted_eccCount {corr uncorr : Nat} (hc : corr ∈ vxRegs n) (hu : uncorr ∈ vxRegs n) (e : Ecc) :
    Noted n d (d.eccCount corr uncorr e) := by
  have hcorr : Reg.errCorrCnt ∈ vxRegs n := by simp [vxRegs]
  have huncorr : Reg.errUncorrCnt ∈ vxRegs n := by simp [vxRegs]
  unfold Device.eccCount
  extract_lets d1
  have h1 : Noted n d d1 := by
    simp only [d1]
    split
    · exact Noted.refl d
    · exact ((Noted.refl d).setReg hc _).setReg hcorr _
  split
  · exact h1
  · exact (h1.setReg hu _).setReg huncorr _

theorem noted_vxFlags (f : BitVec 4) : Noted n d (d.vxFlags n f) := by
  unfold Device.vxFlags
  split
  · exact Noted.refl d
  · exact (Noted.refl d).setReg (by simp [vxRegs]) _

theorem noted_tileWord (bs : List Byte) (pois : Bool) (e : Ecc) : Noted n d (d.tileWord n bs pois e).2 := by
  have h := noted_eccCount n d (corr := Reg.sprTsCorrCnt n) (uncorr := Reg.sprTsUncorrCnt n) (by simp [vxRegs])
    (by simp [vxRegs]) e
  simp only [Device.tileWord]
  split
  · exact h.mapRun _
  · exact h

end

/-- What a word of the tile store reads as is a matter of its bytes, its mark and what SECDED found. -/
theorem tileWord_fst (d d' : Device) (n : Nat) (bs : List Byte) (pois : Bool) (e : Ecc) :
    (d.tileWord n bs pois e).1 = (d'.tileWord n bs pois e).1 := by
  simp only [Device.tileWord]
  split <;> rfl

/-! ### Reads that depend on the memory only (R115 - R117) -/

/-- A read of VX: what it finds, and the device in which it has been noted. -/
structure SameRead {α : Type} (n : Nat) (d d' : Device) (r r' : α × Device) : Prop where
  value : r.1 = r'.1
  left : Noted n d r.2
  right : Noted n d' r'.2

/-- A fold that gathers reads, over two devices in which each of them finds the same. -/
theorem sameRead_foldl {α β : Type} {n : Nat} {d d' : Device} {l : List β} {f : α × Device → β → α × Device}
    {r r' : α × Device}
    (h : SameRead n d d' r r')
    (hf : ∀ q ∈ l, ∀ s s' : α × Device, SameRead n d d' s s' → SameRead n d d' (f s q) (f s' q)) :
    SameRead n d d' (l.foldl f r) (l.foldl f r') := by
  induction l generalizing r r' with
  | nil => exact h
  | cons q l ih => exact ih (hf q (by simp) r r' h) fun q' hq' => hf q' (by simp [hq'])

section
variable {d d' : Device} (n : Nat)

theorem sameRead_loadLine (ht : d.tile = d'.tile) (l off len bus w : Nat) (ecc : List (Nat × Nat × Ecc)) :
    SameRead n d d' (d.loadLine n l off len bus w ecc) (d'.loadLine n l off len bus w ecc) := by
  have hu : d'.tile.unit (tileLine n l) = d.tile.unit (tileLine n l) := by rw [ht]
  unfold Device.loadLine
  rw [hu]
  extract_lets u words d1 bs r d1' r'
  have h1 : Noted n d d1 := by
    simp only [d1]
    split
    · exact (Noted.refl d).mapRun _
    · exact Noted.refl d
  have h1' : Noted n d' d1' := by
    simp only [d1']
    split
    · exact (Noted.refl d').mapRun _
    · exact Noted.refl d'
  have hr : SameRead n d d' r r' := by
    refine sameRead_foldl ⟨rfl, h1, h1'⟩ fun q _ s s' h => ?_
    obtain ⟨hv, hl, hr⟩ := h
    have hw := tileWord_fst s.2 s'.2 n ((bs.drop (8 * q)).take 8) u.pois (eccOf ecc bus (w + q))
    refine ⟨?_, hl.trans (noted_tileWord n s.2 _ _ _), hr.trans (noted_tileWord n s'.2 _ _ _)⟩
    simp only [hv, hw]
  clear_value r r'
  obtain ⟨hv, hl, hr⟩ := hr
  have hchk : ∀ e : Device, Noted n e ((e.uncorrected (Reg.sprTsChkCnt n)).markPoison 49) := fun e =>
    (((Noted.refl e).setReg (by simp [vxRegs]) _).setReg (by simp [vxRegs]) _).mapRun _
  split
  · exact ⟨hv, hl, hr⟩
  · exact ⟨rfl, hl.trans (hchk _), hr.trans (hchk _)⟩

theorem sameRead_loadBytes (ht : d.tile = d'.tile) (a len bus w : Nat) (ecc : List (Nat × Nat × Ecc)) :
    SameRead n d d' (d.loadBytes n a len bus w ecc) (d'.loadBytes n a len bus w ecc) := by
  refine sameRead_foldl ⟨rfl, Noted.refl d, Noted.refl d'⟩ fun q _ s s' h => ?_
  obtain ⟨hv, hl, hr⟩ := h
  have hline := sameRead_loadLine (d := s.2) (d' := s'.2) n (by rw [hl.tile, hr.tile, ht]) q.1 q.2.1 q.2.2 bus
    (w + s.1.length / 8) ecc
  rw [← hv]
  exact ⟨congrArg (s.1 ++ ·) hline.value, hl.trans hline.left, hr.trans hline.right⟩

theorem noted_coefWords (d : Device) (a k : Nat) (ecc : List (Nat × Nat × Ecc)) : Noted n d (d.coefWords n a k ecc).2 := by
  refine Noted.foldl (fun e q => ?_) _ d
  have hecc := noted_eccCount n e (corr := Reg.sprCsCorrCnt n) (uncorr := Reg.sprCsUncorrCnt n) (by simp [vxRegs])
    (by simp [vxRegs]) q.2
  dsimp only
  split
  · exact hecc.mapRun _
  · exact hecc

theorem sameRead_coefWords (hc : d.cfgMem = d'.cfgMem) (a k : Nat) (ecc : List (Nat × Nat × Ecc)) :
    SameRead n d d' (d.coefWords n a k ecc) (d'.coefWords n a k ecc) := by
  have hl := noted_coefWords n d a k ecc
  have hr := noted_coefWords n d' a k ecc
  have hm := hl.cfgMem.trans (hc.trans hr.cfgMem.symm)
  refine ⟨?_, hl, hr⟩
  simp only [Device.coefWords] at hm ⊢
  rw [hm]

end

/-! ### Steps of a word that acts (R113, R137) -/

/-- What steps of a word may touch beside what they leave pending: the buses that they may leave in use, the tile store, the
pack buffers, the drain registers. -/
structure VxMay where
  bus : Nat → Prop
  tile : Prop
  packs : Prop
  drain : Prop

/-- A step of a word that acts in Spire `n`, within `M`: it notes, it leaves effects pending, and it keeps those that are. -/
structure VxStep (n : Nat) (M : VxMay) (d d' : Device) : Prop where
  dev : d' = { d with
    regs := d'.regs, lantern := { d.lantern with run := d'.lantern.run }, dome := { d.dome with spires := d'.dome.spires },
    tile := d'.tile }
  spire : ∀ m, m ≠ n → d'.spire m = d.spire m
  regs : SameRegs (vxRegs n) d d'
  vx : d'.vx n = { d.vx n with
    pending := (d'.vx n).pending, nextSeq := (d'.vx n).nextSeq, packX := (d'.vx n).packX, packY := (d'.vx n).packY }
  pends : ∀ q ∈ (d.vx n).pending, q ∈ (d'.vx n).pending
  buses : ∀ q ∈ (d'.vx n).pending, q ∈ (d.vx n).pending ∨ ∀ u, q.bus = some u → M.bus u.1
  tile : ¬ M.tile → d'.tile = d.tile
  packs : ¬ M.packs → (d'.vx n).packX = (d.vx n).packX ∧ (d'.vx n).packY = (d.vx n).packY
  drain : ¬ M.drain → (d'.spire n).drain = (d.spire n).drain

/-- A later instruction's claim of bus `b` takes nothing from what is pending. -/
def BusFree (d : Device) (n b : Nat) : Prop := ∀ q ∈ (d.vx n).pending, ∀ u, q.bus = some u → u.1 ≠ b

theorem busFree_of_none {d : Device} {n : Nat} (h : (d.vx n).pending = []) (b : Nat) : BusFree d n b := by simp [BusFree, h]

theorem claimBus_of_free {d : Device} {n b : Nat} (h : BusFree d n b) (t : Nat) : d.claimBus n b t = d := by
  have hnone : (d.vx n).pending.find? (fun p => p.bus == some (b, t)) = none :=
    List.find?_eq_none.2 fun q hq hb => h q hq (b, t) (by simpa using hb) rfl
  rw [Device.claimBus, hnone]

namespace VxStep
variable {n : Nat} {M M' : VxMay} {d d' d'' : Device}

theorem refl (M : VxMay) (d : Device) : VxStep n M d d where
  dev := rfl
  spire _ _ := rfl
  regs _ _ := rfl
  vx := rfl
  pends _ h := h
  buses _ h := .inl h
  tile _ := rfl
  packs _ := ⟨rfl, rfl⟩
  drain _ := rfl

theorem trans (h : VxStep n M d d') (h' : VxStep n M d' d'') : VxStep n M d d'' where
  dev := by rw [h'.dev, h.dev]
  spire m hm := (h'.spire m hm).trans (h.spire m hm)
  regs a ha := (h'.regs a ha).trans (h.regs a ha)
  vx := by rw [h'.vx, h.vx]
  pends q hq := h'.pends q (h.pends q hq)
  buses q hq := (h'.buses q hq).elim (h.buses q) .inr
  tile hM := (h'.tile hM).trans (h.tile hM)
  packs hM := ⟨(h'.packs hM).1.trans (h.packs hM).1, (h'.packs hM).2.trans (h.packs hM).2⟩
  drain hM := (h'.drain hM).trans (h.drain hM)

theorem mono (h : VxStep n M d d') (hb : ∀ b, M.bus b → M'.bus b) (ht : M.tile → M'.tile) (hp : M.packs → M'.packs)
    (hd : M.drain → M'.drain) : VxStep n M' d d' where
  dev := h.dev
  spire := h.spire
  regs := h.regs
  vx := h.vx
  pends := h.pends
  buses q hq := (h.buses q hq).imp_right fun hu u e => hb _ (hu u e)
  tile hM := h.tile (mt ht hM)
  packs hM := h.packs (mt hp hM)
  drain hM := h.drain (mt hd hM)

theorem foldl {α : Type} {f : Device → α → Device} {l : List α} (hf : ∀ q ∈ l, ∀ e, VxStep n M e (f e q)) (d : Device) :
    VxStep n M d (l.foldl f d) := by
  induction l generalizing d with
  | nil => exact refl M d
  | cons q l ih => exact (hf q (by simp) d).trans (ih (fun q' hq' => hf q' (by simp [hq'])) _)

theorem idle (h : VxStep n M d d') (hi : DomeIdle d) : DomeIdle d' := hi.of_dome (by rw [h.dev])

theorem cfgMem (h : VxStep n M d d') : d'.cfgMem = d.cfgMem := by rw [h.dev]

theorem busFree (h : VxStep n M d d') {b : Nat} (hf : BusFree d n b) (hb : ¬ M.bus b) : BusFree d' n b := fun q hq u e =>
  (h.buses q hq).elim (fun hq' => hf q hq' u e) fun hu eq => hb (eq ▸ hu u e)

theorem vxPends (h : VxStep n M d d') {due : Nat} {e : VxEffect} : VxPends d n due e → VxPends d' n due e :=
  fun ⟨q, hq, hdue, he⟩ => ⟨q, h.pends q hq, hdue, he⟩

theorem d_eq (h : VxStep n M d d') : (d'.vx n).d = (d.vx n).d := by rw [h.vx]

theorem acc_eq (h : VxStep n M d d') : (d'.vx n).acc = (d.vx n).acc := by rw [h.vx]

theorem dreg (h : VxStep n M d d') (i : Nat) : (d'.vx n).dreg i = (d.vx n).dreg i := by rw [Vx.dreg, h.d_eq, Vx.dreg]

theorem tainted (h : VxStep n M d d') (p : Prog) : (d'.vx n).tainted p = (d.vx n).tainted p := by rw [h.vx]; rfl

theorem pack (h : VxStep n M d d') (hM : ¬ M.packs) (b : Nat) : (d'.vx n).pack b = (d.vx n).pack b := by
  obtain ⟨hx, hy⟩ := h.packs hM
  rw [Vx.pack, hx, hy, Vx.pack]

end VxStep

theorem Noted.step {n : Nat} {d d' : Device} (h : Noted n d d') (M : VxMay) : VxStep n M d d' where
  dev := by
    rw [h.dev]
  spire m _ := h.spire m
  regs := h.regs
  vx := by rw [h.vx]
  pends q hq := by rw [h.vx]; exact hq
  buses q hq := .inl (by rw [h.vx] at hq; exact hq)
  tile _ := h.tile
  packs _ := by rw [h.vx]; exact ⟨rfl, rfl⟩
  drain _ := by rw [h.spire]

/-! ### An effect is left pending (R113) -/

section
variable {n : Nat} {d : Device} {p : Prog} {due : Nat} {bus : Option (Nat × Nat)} {e : VxEffect}

theorem step_pend {M : VxMay} (hb : ∀ u, bus = some u → M.bus u.1) : VxStep n M d (d.pend n p due bus e) where
  dev := rfl
  spire _ hm := spire_mapVx_ne d _ hm
  regs _ _ := rfl
  vx := by rw [vx_pend]
  pends q hq := by rw [vx_pend]; exact List.mem_append_left _ hq
  buses q hq := by
    rw [vx_pend] at hq
    refine (List.mem_append.1 hq).imp_right fun h => ?_
    rw [List.mem_singleton.1 h]
    exact hb
  tile _ := rfl
  packs _ := by rw [vx_pend]; exact ⟨rfl, rfl⟩
  drain _ := by rw [Device.pend, Device.mapVx, Device.mapSpire, spire_setSpire]

theorem vxPends_pend (ht : (d.vx n).tainted p = false) : VxPends (d.pend n p due bus e) n due e := by
  refine ⟨(d.vx n).entry p due bus e, by rw [vx_pend]; simp, rfl, ?_⟩
  rw [Vx.entry, ht]
  rfl

end

end Sys2Proof.Machine
end

section
/-!
PROOFS. The loads and stores of a vector-format word (R113, R116 - R119, R134 - R137), when nothing meets them in the Dome.
-/
namespace Sys2Proof.Machine

open Sys2Proof

/-! ### One load (R116, R117) -/

/-- The bytes that a load of `z` granules finds from byte `at_` on, and the device in which that is noted. -/
def Device.readParts (d : Device) (n bs : Nat) (w : VxWord) (env : VxEnv) (bus at_ z : Nat) : List MByte × Device :=
  (accessParts w bs (32 * z)).foldl (fun (acc : List MByte × Device) q =>
    let r := acc.2.loadBytes n (at_ + q.1) q.2.1 bus (q.1 / 8) env.ecc
    (acc.1 ++ r.1, r.2)) ([], d)

/-- The vector that a word's load makes of its bytes. -/
def loadValue (w : VxWord) (bytes : List MByte) : BusVal :=
  busVal w.mfmt.toNat (w.mbk == 1) (if opcode w = 0x41 then w.sh.toNat % 2 else 0) bytes

/-- What a load of a word finds, and the device in which that is noted. -/
def Device.reads (d : Device) (n bs : Nat) (w : VxWord) (env : VxEnv) (a : VxAccess) (addr : BitVec 12) : List MByte × Device :=
  d.readParts n bs w env a.bus (busByte a.bus (granules w.mfmt.toNat) addr) (granules w.mfmt.toNat)

/-- The vector of a load. -/
def Device.readOf (d : Device) (n bs : Nat) (w : VxWord) (env : VxEnv) (a : VxAccess) (addr : BitVec 12) : BusVal :=
  loadValue w (d.reads n bs w env a addr).1

/-- The register of a load of value `v` is left pending. -/
def Device.loadInto (d : Device) (n bs : Nat) (w : VxWord) (p : Prog) (a : VxAccess) (v : BusVal) : Device :=
  let use := if wide w then some (a.bus, bs + 1) else none
  if a.reg < 8 then
    (d.vxFlags n (loadD w.mfmt.toNat (w.mbk == 1) v).2).pend n p (bs + 2) use
      (.dreg a.reg (loadD w.mfmt.toNat (w.mbk == 1) v).1)
  else if a.reg < 10 then d.pend n p (bs + 2) use (.acc (a.reg - 8) (loadA w.mfmt.toNat v))
  else d

theorem sameRead_reads {d d' : Device} (n : Nat) (ht : d.tile = d'.tile) (bs : Nat) (w : VxWord) (env : VxEnv) (a : VxAccess)
    (addr : BitVec 12) : SameRead n d d' (d.reads n bs w env a addr) (d'.reads n bs w env a addr) := by
  refine sameRead_foldl ⟨rfl, Noted.refl d, Noted.refl d'⟩ fun q _ s s' h => ?_
  obtain ⟨hv, hl, hr⟩ := h
  have hb := sameRead_loadBytes (d := s.2) (d' := s'.2) n (by rw [hl.tile, hr.tile, ht])
    (busByte a.bus (granules w.mfmt.toNat) addr + q.1) q.2.1 a.bus (q.1 / 8) env.ecc
  exact ⟨congrArg₂ (· ++ ·) hv hb.value, hl.trans hb.left, hr.trans hb.right⟩

theorem readOf_congr {d d' : Device} (ht : d.tile = d'.tile) (n bs : Nat) (w : VxWord) (env : VxEnv) (a : VxAccess)
    (addr : BitVec 12) : d.readOf n bs w env a addr = d'.readOf n bs w env a addr :=
  congrArg (loadValue w) (sameRead_reads n ht bs w env a addr).value

theorem noted_reads (d : Device) (n bs : Nat) (w : VxWord) (env : VxEnv) (a : VxAccess) (addr : BitVec 12) :
    Noted n d (d.reads n bs w env a addr).2 := (sameRead_reads n rfl bs w env a addr).left

theorem busVal_vals_length (f : Nat) (mbk : Bool) (half : Nat) (bs : List MByte) : (busVal f mbk half bs).vals.length = 32 := by
  unfold busVal
  split <;> simp

/-- Steps that leave pending what uses bus `b`, and no more. -/
def mayLoad (b : Nat) : VxMay := { bus := (· = b), tile := False, packs := False, drain := False }

section
variable {d : Device} {n bs : Nat} {w : VxWord} {env : VxEnv} {p : Prog} {a : VxAccess} {addr : BitVec 12}

theorem step_loadInto (v : BusVal) : VxStep n (mayLoad a.bus) d (d.loadInto n bs w p a v) := by
  have huse : ∀ u, (if wide w then some (a.bus, bs + 1) else none) = some u → (mayLoad a.bus).bus u.1 := by
    intro u hu
    split at hu
    · cases hu; rfl
    · cases hu
  unfold Device.loadInto
  dsimp only
  split
  · exact ((noted_vxFlags n d _).step _).trans (step_pend huse)
  split
  · exact step_pend huse
  · exact VxStep.refl _ d

/-- A load that nothing meets: what it reads, and its register left pending. -/
theorem doLoad_eq (hi : DomeIdle d) (hport : env.port = []) (hfree : BusFree d n a.bus) :
    d.doLoad n bs w env p a addr =
      (d.readOf n bs w env a addr, ((d.reads n bs w env a addr).2).loadInto n bs w p a (d.readOf n bs w env a addr)) := by
  have h1 : ∀ t b len, d.portMeets n bs t b len env = false := fun t b len => portMeets_of_idle hi hport n bs t b len
  have h2 : ∀ a' len' bus' w' t b len, (d.loadBytes n a' len' bus' w' env.ecc).2.portMeets n bs t b len env = false :=
    fun a' len' bus' w' t b len =>
      portMeets_of_idle ((sameRead_loadBytes n rfl a' len' bus' w' env.ecc : SameRead n d d _ _).left.idle hi) hport n bs t b len
  have hparts : (accessParts w bs (32 * granules w.mfmt.toNat)).foldl (fun (acc : List MByte × Device) q =>
      if acc.2.portMeets n bs q.2.2 (busByte a.bus (granules w.mfmt.toNat) addr + q.1) q.2.1 env then
        (acc.1 ++ List.replicate q.2.1 ((0 : Byte), true), acc.2.clashAt n q.2.2 p)
      else
        let (bs, d) := acc.2.loadBytes n (busByte a.bus (granules w.mfmt.toNat) addr + q.1) q.2.1 a.bus (q.1 / 8) env.ecc
        (acc.1 ++ bs, d)) ([], d) = d.reads n bs w env a addr := by
    unfold Device.reads Device.readParts accessParts
    split <;> simp [h1, h2]
  simp only [Device.doLoad, claimBus_of_free hfree, hparts]
  rfl

/-- What a load's registers are left with (R113, R135, R136). -/
def LoadPends (d : Device) (n bs : Nat) (w : VxWord) (a : VxAccess) (v : BusVal) : Prop :=
  (a.reg < 8 → VxPends d n (bs + 2) (.dreg a.reg (loadD w.mfmt.toNat (w.mbk == 1) v).1)) ∧
    (a.reg = 8 ∨ a.reg = 9 → VxPends d n (bs + 2) (.acc (a.reg - 8) (loadA w.mfmt.toNat v)))

theorem loadPends_loadInto (ht : (d.vx n).tainted p = false) (v : BusVal) : LoadPends (d.loadInto n bs w p a v) n bs w a v := by
  unfold Device.loadInto
  dsimp only
  refine ⟨fun h8 => ?_, fun h89 => ?_⟩
  · rw [if_pos h8]
    exact vxPends_pend (by rw [(noted_vxFlags n d _).vx]; exact ht)
  · rw [if_neg (by omega), if_pos (by omega)]
    exact vxPends_pend ht

end

/-! ### All loads of a word (R113) -/

/-- The vector read over a bus. -/
def Reads.on (r : Reads) (b : Nat) : BusVal := if b = 0 then r.x else r.y

def Reads.put (r : Reads) (b : Nat) (v : BusVal) : Reads := if b = 0 then { r with x := v } else { r with y := v }

theorem Reads.on_put (r : Reads) (b : Nat) (v : BusVal) : (r.put b v).on b = v := by
  by_cases hb : b = 0 <;> simp [Reads.on, Reads.put, hb]

theorem Reads.on_put_ne (r : Reads) {b c : Nat} (v : BusVal) (hb : b < 2) (hc : c < 2) (hne : b ≠ c) :
    (r.put b v).on c = r.on c := by
  rcases (by omega : b = 0 ∧ c = 1 ∨ b = 1 ∧ c = 0) with ⟨rfl, rfl⟩ | ⟨rfl, rfl⟩ <;> rfl

/-- Every vector of the reads has 32 lanes. -/
structure Reads.Full (r : Reads) : Prop where
  x : r.x.vals.length = 32
  y : r.y.vals.length = 32
  c : r.c.vals.length = 32

theorem Reads.Full.put {r : Reads} (h : r.Full) (b : Nat) {v : BusVal} (hv : v.vals.length = 32) : (r.put b v).Full := by
  unfold Reads.put
  split
  · exact ⟨hv, h.y, h.c⟩
  · exact ⟨h.x, hv, h.c⟩

/-- Accesses over different buses, X and Y. -/
structure Buses (l : List VxAccess) : Prop where
  lt : ∀ a ∈ l, a.bus < 2
  ne : l.Pairwise (fun a b => a.bus ≠ b.bus)

theorem Buses.tail {a : VxAccess} {l : List VxAccess} (h : Buses (a :: l)) : Buses l :=
  ⟨fun b hb => h.lt b (by simp [hb]), (List.pairwise_cons.1 h.ne).2⟩

theorem Buses.head_ne {a b : VxAccess} {l : List VxAccess} (h : Buses (a :: l)) (hb : b ∈ l) : a.bus ≠ b.bus :=
  (List.pairwise_cons.1 h.ne).1 b hb

theorem Buses.filter {l : List VxAccess} (h : Buses l) (f : VxAccess → Bool) : Buses (l.filter f) :=
  ⟨fun a ha => h.lt a (List.mem_filter.1 ha).1, h.ne.filter f⟩

theorem buses_accesses (w : VxWord) : Buses (accesses w) := by
  unfold accesses
  constructor <;> split <;> split <;> simp

/-- Steps that leave pending what uses the buses of `l`. -/
def mayLoads (l : List VxAccess) : VxMay :=
  { bus := fun b => ∃ a ∈ l, a.bus = b, tile := False, packs := False, drain := False }

theorem VxStep.mayLoads_cons {n : Nat} {a : VxAccess} {l : List VxAccess} {d d' d'' : Device} (h : VxStep n (mayLoad a.bus) d d')
    (h' : VxStep n (mayLoads l) d' d'') : VxStep n (mayLoads (a :: l)) d d'' := by
  refine VxStep.trans (h.mono ?_ id id id) (h'.mono ?_ id id id)
  · intro b hb
    exact ⟨a, by simp, hb.symm⟩
  · rintro b ⟨c, hc, hcb⟩
    exact ⟨c, by simp [hc], hcb⟩

section
variable {n bs : Nat} {w : VxWord} {env : VxEnv} {p : Prog} {addr : Nat → BitVec 12}

/-- One load of a word, with what has been read. -/
def loadStep (n bs : Nat) (w : VxWord) (env : VxEnv) (p : Prog) (addr : Nat → BitVec 12) (acc : Reads × Device) (a : VxAccess) :
    Reads × Device :=
  (acc.1.put a.bus (acc.2.doLoad n bs w env p a (addr a.ap)).1, (acc.2.doLoad n bs w env p a (addr a.ap)).2)

/-- The loads `l` of a word, from reads `r` and device `d` on, leave `out`. -/
structure LoadsDone (n bs : Nat) (w : VxWord) (env : VxEnv) (addr : Nat → BitVec 12) (l : List VxAccess) (d : Device)
    (r : Reads) (out : Reads × Device) : Prop where
  step : VxStep n (mayLoads l) d out.2
  reads : ∀ a ∈ l, out.1.on a.bus = d.readOf n bs w env a (addr a.ap)
  pends : ∀ a ∈ l, LoadPends out.2 n bs w a (d.readOf n bs w env a (addr a.ap))
  others : ∀ b < 2, (∀ a ∈ l, a.bus ≠ b) → out.1.on b = r.on b
  full : r.Full → out.1.Full

theorem LoadPends.step {M : VxMay} {d d' : Device} {a : VxAccess} {v : BusVal} (h : LoadPends d n bs w a v)
    (hs : VxStep n M d d') : LoadPends d' n bs w a v :=
  ⟨fun h8 => hs.vxPends (h.1 h8), fun h89 => hs.vxPends (h.2 h89)⟩

/-- One load, and those after it. -/
theorem LoadsDone.cons {a : VxAccess} {l : List VxAccess} (hl : Buses (a :: l)) {d d' : Device} {r : Reads} {out : Reads × Device}
    (hstep : VxStep n (mayLoad a.bus) d d') (hpend : LoadPends d' n bs w a (d.readOf n bs w env a (addr a.ap)))
    (h : LoadsDone n bs w env addr l d' (r.put a.bus (d.readOf n bs w env a (addr a.ap))) out) :
    LoadsDone n bs w env addr (a :: l) d r out where
  step := hstep.mayLoads_cons h.step
  reads c hc := by
    rcases List.mem_cons.1 hc with rfl | hc
    · rw [h.others c.bus (hl.lt c (by simp)) fun b hb => (hl.head_ne hb).symm, Reads.on_put]
    · rw [h.reads c hc, readOf_congr (hstep.tile id)]
  pends c hc := by
    rcases List.mem_cons.1 hc with rfl | hc
    · exact hpend.step h.step
    · rw [← readOf_congr (hstep.tile id)]
      exact h.pends c hc
  others b hb hne := by
    rw [h.others b hb fun c hc => hne c (by simp [hc]), Reads.on_put_ne _ _ (hl.lt a (by simp)) hb (hne a (by simp))]
  full hf := h.full (hf.put _ (busVal_vals_length ..))

theorem loadsDone (hport : env.port = []) (l : List VxAccess) (hl : Buses l) (r : Reads) (d : Device) (hi : DomeIdle d)
    (ht : (d.vx n).tainted p = false) (hfree : ∀ a ∈ l, BusFree d n a.bus) :
    LoadsDone n bs w env addr l d r (l.foldl (loadStep n bs w env p addr) (r, d)) := by
  induction l generalizing r d with
  | nil => exact ⟨VxStep.refl _ d, by simp, by simp, fun _ _ _ => rfl, id⟩
  | cons a l ih =>
    have hnoted := noted_reads d n bs w env a (addr a.ap)
    have hstep : VxStep n (mayLoad a.bus) d (((d.reads n bs w env a (addr a.ap)).2).loadInto n bs w p a
        (d.readOf n bs w env a (addr a.ap))) := (hnoted.step _).trans (step_loadInto _)
    have hpend := loadPends_loadInto (n := n) (bs := bs) (w := w) (p := p) (a := a)
      (by rw [hnoted.vx]; exact ht) (d.readOf n bs w env a (addr a.ap))
    have hrest := ih hl.tail (r.put a.bus (d.readOf n bs w env a (addr a.ap))) _ (hstep.idle hi)
      (by rw [hstep.tainted]; exact ht) fun b hb => hstep.busFree (hfree b (by simp [hb])) (hl.head_ne hb).symm
    rw [List.foldl_cons, loadStep, doLoad_eq hi hport (hfree a (by simp))]
    exact LoadsDone.cons hl hstep hpend hrest

end

/-! ### The C access (R116, R119) -/

theorem sameRead_doCoef {d d' : Device} (hc : d.cfgMem = d'.cfgMem) (n : Nat) (w : VxWord) (env : VxEnv) (addr : BitVec 12) :
    SameRead n d d' (d.doCoef n w env addr) (d'.doCoef n w env addr) := by
  obtain ⟨hv, hl, hr⟩ := sameRead_coefWords n hc (if w.ck == 1 then addr.toNat % 2048 / 32 * 32 else addr.toNat % 2048)
    (if w.ck == 1 then 32 else 1) env.ecc
  refine ⟨?_, hl, hr⟩
  simp only [Device.doCoef, hv]

theorem doCoef_vals_length (d : Device) (n : Nat) (w : VxWord) (env : VxEnv) (addr : BitVec 12) :
    (d.doCoef n w env addr).1.vals.length = 32 := by
  simp [Device.doCoef]

end Sys2Proof.Machine
end

section
/-!
PROOFS. The stores of a vector-format word (R106, R116 - R118, R134 - R137, R147 - R149), when nothing meets them in the Dome.
-/
namespace Sys2Proof.Machine

open Sys2Proof

/-! ### Bytes written (R117) -/

/-- Steps of a word's store over bus `b`: they may write the tile store, of an ACC56 word, and a pack buffer. -/
def mayStore (w : VxWord) (b : Nat) : VxMay :=
  { bus := (· = b), tile := wide w = true, packs := True, drain := False }

section
variable {n : Nat} {M : VxMay}

theorem step_storePiece (hM : M.tile) (d : Device) (a : Nat) (bs : List (Option Byte)) (pois : Bool) :
    VxStep n M d (d.storePiece n a bs pois) := by
  unfold Device.storePiece
  extract_lets l u p v
  split
  · exact VxStep.refl M d
  · exact {
      dev := rfl
      spire := fun _ _ => rfl
      regs := fun _ _ => rfl
      vx := rfl
      pends := fun _ h => h
      buses := fun _ h => .inl h
      tile := fun h => absurd hM h
      packs := fun _ => ⟨rfl, rfl⟩
      drain := fun _ => rfl }

/-- The pieces of a store that an effect writes. -/
def Device.storeAll (d : Device) (n : Nat) (ps : List (Nat × List (Option Byte) × Bool)) : Device :=
  ps.foldl (fun d q => d.storePiece n q.1 q.2.1 q.2.2) d

theorem step_storeAll (hM : M.tile) (d : Device) (ps : List (Nat × List (Option Byte) × Bool)) :
    VxStep n M d (d.storeAll n ps) := VxStep.foldl (fun q _ e => step_storePiece hM e q.1 q.2.1 q.2.2) d

/-- What the tile store holds after a store is a matter of what it held. -/
theorem tile_storeAll {d d' : Device} (h : d.tile = d'.tile) (ps : List (Nat × List (Option Byte) × Bool)) :
    (d.storeAll n ps).tile = (d'.storeAll n ps).tile := by
  induction ps generalizing d d' with
  | nil => exact h
  | cons q ps ih =>
    refine ih ?_
    simp only [Device.storePiece, h]
    split
    · exact h
    · rfl

theorem step_effectOf_store (hM : M.tile) (d : Device) (p : Prog) (ps : List (Nat × List (Option Byte) × Bool)) :
    VxStep n M d (d.effectOf n p (.store ps)) := by
  unfold Device.effectOf
  split <;> exact step_storeAll hM d _

theorem effectOf_store {d : Device} {p : Prog} (ht : (d.vx n).tainted p = false) (ps : List (Nat × List (Option Byte) × Bool)) :
    d.effectOf n p (.store ps) = d.storeAll n ps := by
  rw [Device.effectOf, ht]
  rfl

theorem step_setPack (hM : M.packs) (d : Device) (b : Nat) (bytes : List SByte) :
    VxStep n M d (d.mapVx n (fun v => v.setPack b bytes)) where
  dev := rfl
  spire _ hm := spire_mapVx_ne d _ hm
  regs _ _ := rfl
  vx := by
    rw [vx_mapVx]
    unfold Vx.setPack
    split <;> rfl
  pends q hq := by
    rw [vx_mapVx]
    unfold Vx.setPack
    split <;> exact hq
  buses q hq := by
    rw [vx_mapVx] at hq
    unfold Vx.setPack at hq
    split at hq <;> exact .inl hq
  tile _ := rfl
  packs h := absurd hM h
  drain _ := by rw [Device.mapVx, Device.mapSpire, spire_setSpire]

end

theorem pack_setPack (v : Vx) (b : Nat) (bytes : List SByte) : (v.setPack b bytes).pack b = bytes := by
  unfold Vx.setPack Vx.pack
  split <;> rfl

/-! ### One store (R116, R134, R135, R137, R147) -/

section
variable {d : Device} {n bs : Nat} {w : VxWord} {env : VxEnv} {p : Prog} {a : VxAccess} {addr : BitVec 12} {bytes : List SByte}

/-- What a store access does with its bytes: TAPM writes them two dclk after its issue, any other word as `doStore` says. -/
def Device.putStore (d : Device) (n bs : Nat) (w : VxWord) (env : VxEnv) (p : Prog) (a : VxAccess) (addr : BitVec 12)
    (bytes : List SByte) : Device :=
  if opcode w = 0x28 then
    let d := d.claimBus n a.bus (bs + 2)
    if d.portMeets n bs (bs + 2) (busByte a.bus 4 addr) 128 { env with ecc := [] } then d.clashAt n (bs + 2) p
    else d.pend n p (bs + 2) (some (a.bus, bs + 2)) (.store (cutPieces (busByte a.bus 4 addr) bytes))
  else d.doStore n bs w env p a addr bytes

/-- First byte that a store of `bytes` writes. -/
def storeAt (a : VxAccess) (addr : BitVec 12) (bytes : List SByte) : Nat := busByte a.bus (max 1 (bytes.length / 32)) addr

section
variable (hi : DomeIdle d) (hport : env.port = []) (hfree : BusFree d n a.bus)
include hi hport hfree

theorem doStore_narrow (hw : wide w = false) : d.doStore n bs w env p a addr bytes =
    d.pend n p (bs + 1) none (.store (cutPieces (storeAt a addr bytes) bytes)) := by
  simp [Device.doStore, accessParts, hw, claimBus_of_free hfree, portMeets_of_idle hi hport, storeAt]

theorem doStore_wide (hw : wide w = true) : d.doStore n bs w env p a addr bytes =
    (d.effectOf n p (.store (cutPieces (storeAt a addr bytes) (bytes.take 128)))).pend n p (bs + 1) (some (a.bus, bs + 1))
      (.store (cutPieces (storeAt a addr bytes + 128) ((bytes.drop 128).take (bytes.length - 128)))) := by
  have hi' : DomeIdle (d.effectOf n p (.store (cutPieces (storeAt a addr bytes) (bytes.take 128)))) :=
    (step_effectOf_store (n := n) (M := { mayStore w 0 with tile := True }) trivial d p _).idle hi
  simp only [storeAt] at hi' ⊢
  simp [Device.doStore, accessParts, hw, claimBus_of_free hfree, portMeets_of_idle hi hport, portMeets_of_idle hi' hport]

theorem putStore_tapm (ho : opcode w = 0x28) : d.putStore n bs w env p a addr bytes =
    d.pend n p (bs + 2) (some (a.bus, bs + 2)) (.store (cutPieces (busByte a.bus 4 addr) bytes)) := by
  have hm : d.portMeets n bs (bs + 2) (busByte a.bus 4 addr) 128 { env with ecc := [] } = false :=
    portMeets_of_idle hi (env := { env with ecc := [] }) hport n bs _ _ _
  simp [Device.putStore, ho, claimBus_of_free hfree, hm]

theorem step_putStore : VxStep n (mayStore w a.bus) d (d.putStore n bs w env p a addr bytes) := by
  by_cases ho : opcode w = 0x28
  · rw [putStore_tapm hi hport hfree ho]
    exact step_pend (by rintro _ ⟨⟩; rfl)
  · rw [Device.putStore, if_neg ho]
    cases hw : wide w with
    | false =>
      rw [doStore_narrow hi hport hfree hw]
      exact step_pend (by rintro _ ⟨⟩)
    | true =>
      rw [doStore_wide hi hport hfree hw]
      exact (step_effectOf_store (M := mayStore w a.bus) hw d p _).trans (step_pend (by rintro _ ⟨⟩; rfl))

end

theorem step_storeData {M : VxMay} (hM : M.packs) (r : Reads) : VxStep n M d (d.storeData n w p a r).2 := by
  have hflags : ∀ f, VxStep n M d (d.vxFlags n f) := fun f => (noted_vxFlags n d f).step _
  unfold Device.storeData
  dsimp only
  split
  · exact hflags _
  split
  · exact hflags _
  split
  · exact VxStep.refl _ d
  split
  · split
    · split
      · exact (hflags _).trans (step_setPack hM _ _ _)
      · exact (hflags _).trans (step_setPack hM _ _ _)
    · exact hflags _
  · split
    · exact VxStep.refl _ d
    · exact step_setPack hM _ _ _

/-- One store access of a word, its pointer aside. -/
def Device.storeAccess (d : Device) (n bs : Nat) (w : VxWord) (env : VxEnv) (p : Prog) (r : Reads) (a : VxAccess)
    (addr : BitVec 12) : Device :=
  match d.storeData n w p a r with
  | (none, d) => d
  | (some bytes, d) => d.putStore n bs w env p a addr bytes

theorem storeAccess_none {d' : Device} {r : Reads} (h : d.storeData n w p a r = (none, d')) :
    d.storeAccess n bs w env p r a addr = d' := by rw [Device.storeAccess, h]

theorem storeAccess_some {d' : Device} {r : Reads} (h : d.storeData n w p a r = (some bytes, d')) :
    d.storeAccess n bs w env p r a addr = d'.putStore n bs w env p a addr bytes := by rw [Device.storeAccess, h]

theorem busFree_storeData (hfree : BusFree d n a.bus) (r : Reads) : BusFree (d.storeData n w p a r).2 n a.bus :=
  (step_storeData (M := { bus := fun _ => False, tile := False, packs := True, drain := False }) trivial r).busFree hfree id

theorem step_storeAccess (hi : DomeIdle d) (hport : env.port = []) (hfree : BusFree d n a.bus) (r : Reads) :
    VxStep n (mayStore w a.bus) d (d.storeAccess n bs w env p r a addr) := by
  have hdata := step_storeData (d := d) (n := n) (w := w) (p := p) (a := a) (M := mayStore w a.bus) trivial r
  have hfree' := busFree_storeData (w := w) (p := p) hfree r
  cases h : d.storeData n w p a r with
  | mk o d' =>
    rw [h] at hdata hfree'
    cases o with
    | none => rw [storeAccess_none h]; exact hdata
    | some bytes => rw [storeAccess_some h]; exact hdata.trans (step_putStore (hdata.idle hi) hport hfree')

end

/-! ### All stores of a word (R113) -/

section
variable {n bs : Nat} {w : VxWord} {env : VxEnv} {p : Prog} {addr : Nat → BitVec 12} {r : Reads} {M : VxMay}

/-- The store accesses `l` of a word. -/
def Device.stores (d : Device) (n bs : Nat) (w : VxWord) (env : VxEnv) (p : Prog) (r : Reads) (addr : Nat → BitVec 12)
    (l : List VxAccess) : Device := l.foldl (fun d a => d.storeAccess n bs w env p r a (addr a.ap)) d

/-- The stores of a word stay within `M`, and keep what each of them leaves pending. -/
theorem step_stores (hport : env.port = []) (l : List VxAccess) (hl : Buses l)
    (hM : ∀ a ∈ l, ∀ e e', VxStep n (mayStore w a.bus) e e' → VxStep n M e e') (d : Device) (hi : DomeIdle d)
    (hfree : ∀ a ∈ l, BusFree d n a.bus) :
    VxStep n M d (d.stores n bs w env p r addr l) ∧
    ∀ a ∈ l, ∀ due eff, (∀ e, VxStep n M d e → DomeIdle e → BusFree e n a.bus →
      VxPends (e.storeAccess n bs w env p r a (addr a.ap)) n due eff) → VxPends (d.stores n bs w env p r addr l) n due eff := by
  induction l generalizing d with
  | nil => exact ⟨VxStep.refl M d, by simp⟩
  | cons a l ih =>
    have hstep := step_storeAccess (n := n) (bs := bs) (w := w) (env := env) (p := p) (a := a) (addr := addr a.ap) hi hport
      (hfree a (by simp)) r
    have hone := hM a (by simp) _ _ hstep
    obtain ⟨hrest, hpends⟩ := ih hl.tail (fun b hb => hM b (by simp [hb])) _ (hone.idle hi)
      fun b hb => hstep.busFree (hfree b (by simp [hb])) (hl.head_ne hb).symm
    refine ⟨hone.trans hrest, fun b hb due eff he => ?_⟩
    rcases List.mem_cons.1 hb with rfl | hb
    · exact hrest.vxPends (he d (VxStep.refl M d) hi (hfree b (by simp)))
    · exact hpends b hb due eff fun e hde => he e (hone.trans hde)

/-! ### Pointers (R119, R120) -/

/-- One access of a word as its stores are gone through: the store, and the pointer of any access. -/
def storeStep (n bs : Nat) (w : VxWord) (env : VxEnv) (p : Prog) (r : Reads) (addr : Nat → BitVec 12)
    (acc : List (BitVec 12) × Device) (a : VxAccess) : List (BitVec 12) × Device :=
  if a.store then
    let d := (acc.2.storeData n w p a r).2
    match (acc.2.storeData n w p a r).1 with
    | none => (acc.1, d)
    | some bytes =>
      ((d.putStore n bs w env p a (addr a.ap) bytes).stepPointer n acc.1 a.ap a.mode (max 1 (bytes.length / 32)),
        d.putStore n bs w env p a (addr a.ap) bytes)
  else (acc.2.stepPointer n acc.1 a.ap a.mode (granules w.mfmt.toNat), acc.2)

theorem snd_storeStep (acc : List (BitVec 12) × Device) (a : VxAccess) :
    (storeStep n bs w env p r addr acc a).2 = if a.store then acc.2.storeAccess n bs w env p r a (addr a.ap) else acc.2 := by
  unfold storeStep Device.storeAccess
  split
  · cases acc.2.storeData n w p a r with
    | mk o d => cases o <;> rfl
  · rfl

theorem snd_foldl_storeStep (l : List VxAccess) (acc : List (BitVec 12) × Device) :
    (l.foldl (storeStep n bs w env p r addr) acc).2 = acc.2.stores n bs w env p r addr (l.filter (·.store)) := by
  induction l generalizing acc with
  | nil => rfl
  | cons a l ih =>
    rw [List.foldl_cons, ih, snd_storeStep]
    cases hs : a.store <;> simp [hs, Device.stores]

/-- The modification of a pointer leaves the others, and the list its length. -/
theorem stepPointer_other (d : Device) (ap : List (BitVec 12)) (i mode z : Nat) :
    (d.stepPointer n ap i mode z).length = ap.length ∧
    ∀ j, j ≠ i → nth (d.stepPointer n ap i mode z) j 0 = nth ap j 0 := by
  unfold Device.stepPointer
  dsimp only
  split
  · exact ⟨rfl, fun _ _ => rfl⟩
  · refine ⟨List.length_set, fun j hj => ?_⟩
    simp [nth, List.getD_eq_getElem?_getD, List.getElem?_set_ne hj.symm]

/-- Mode 1 moves a pointer on by the access, within its buffer (R119, R120). -/
theorem stepPointer_on (d : Device) {ap : List (BitVec 12)} {i : Nat} (hi : i < ap.length) (z : Nat) :
    nth (d.stepPointer n ap i 1 z) i 0 = (d.vx n).modified i z ap := by
  simp [Device.stepPointer, nth, List.getD_eq_getElem?_getD, hi, modeDelta]

theorem modified_congr {v v' : Vx} (hb : v'.ab = v.ab) (hl : v'.al = v.al) {ap ap' : List (BitVec 12)} {i : Nat}
    (h : nth ap' i 0 = nth ap i 0) (delta : Int) : v'.modified i delta ap' = v.modified i delta ap := by
  simp only [Vx.modified, hb, hl, h]

theorem fst_storeStep_other (acc : List (BitVec 12) × Device) (a : VxAccess) :
    (storeStep n bs w env p r addr acc a).1.length = acc.1.length ∧
    ∀ j, j ≠ a.ap → nth (storeStep n bs w env p r addr acc a).1 j 0 = nth acc.1 j 0 := by
  unfold storeStep
  dsimp only
  split
  · split
    · exact ⟨rfl, fun _ _ => rfl⟩
    · exact stepPointer_other _ _ _ _ _
  · exact stepPointer_other _ _ _ _ _

theorem fst_foldl_storeStep_other (l : List VxAccess) (acc : List (BitVec 12) × Device) :
    (l.foldl (storeStep n bs w env p r addr) acc).1.length = acc.1.length ∧
    ∀ j, (∀ a ∈ l, a.ap ≠ j) → nth (l.foldl (storeStep n bs w env p r addr) acc).1 j 0 = nth acc.1 j 0 := by
  induction l generalizing acc with
  | nil => exact ⟨rfl, fun _ _ => rfl⟩
  | cons a l ih =>
    obtain ⟨hlen, hne⟩ := ih (storeStep n bs w env p r addr acc a)
    obtain ⟨hlen1, hne1⟩ := fst_storeStep_other (n := n) (bs := bs) (w := w) (env := env) (p := p) (r := r) (addr := addr) acc a
    refine ⟨hlen.trans hlen1, fun j hj => ?_⟩
    rw [List.foldl_cons, hne j fun b hb => hj b (by simp [hb]), hne1 j (hj a (by simp)).symm]

/-- The pointer of a load in mode 1, where no other access of the word names it. -/
theorem fst_foldl_storeStep_load {l : List VxAccess} (hl : Buses l) (acc : List (BitVec 12) × Device) {v : Vx}
    (hv : ∀ l₁, l₁ <+: l → ((acc.2.stores n bs w env p r addr (l₁.filter (·.store))).vx n).ab = v.ab ∧
      ((acc.2.stores n bs w env p r addr (l₁.filter (·.store))).vx n).al = v.al)
    {a : VxAccess} (ha : a ∈ l) (hs : a.store = false) (hmode : a.mode = 1) (hother : ∀ b ∈ l, b ≠ a → b.ap ≠ a.ap)
    (hlt : a.ap < acc.1.length) :
    nth (l.foldl (storeStep n bs w env p r addr) acc).1 a.ap 0 = v.modified a.ap (granules w.mfmt.toNat) acc.1 := by
  obtain ⟨l₁, l₂, rfl⟩ := List.append_of_mem ha
  obtain ⟨-, hne, hne'⟩ := List.pairwise_append.1 hl.ne
  have h₁ : ∀ b ∈ l₁, b.ap ≠ a.ap := fun b hb =>
    hother b (by simp [hb]) fun e => hne' b hb a (by simp) (congrArg VxAccess.bus e)
  have h₂ : ∀ b ∈ l₂, b.ap ≠ a.ap := fun b hb =>
    hother b (by simp [hb]) fun e => (List.pairwise_cons.1 hne).1 b hb (congrArg VxAccess.bus e.symm)
  obtain ⟨hb, hal⟩ := hv l₁ (List.prefix_append l₁ _)
  rw [← snd_foldl_storeStep] at hb hal
  obtain ⟨hlen₁, hsame₁⟩ := fst_foldl_storeStep_other (n := n) (bs := bs) (w := w) (env := env) (p := p) (r := r) (addr := addr)
    l₁ acc
  have hsame := hsame₁ a.ap h₁
  rw [List.foldl_append, List.foldl_cons, (fst_foldl_storeStep_other l₂ _).2 a.ap h₂]
  generalize l₁.foldl (storeStep n bs w env p r addr) acc = acc₁ at hb hal hsame hlen₁ ⊢
  have hstep : (storeStep n bs w env p r addr acc₁ a).1 = acc₁.2.stepPointer n acc₁.1 a.ap 1 (granules w.mfmt.toNat) := by
    simp only [storeStep, hs, hmode, Bool.false_eq_true, if_false]
  rw [hstep, stepPointer_on _ (by omega), modified_congr hb hal hsame]

end

end Sys2Proof.Machine
end

section
/-!
PROOFS. A vector-format word as it acts (R112 - R120, R137): its loads, its C access, its stores, its operation and its pointers,
one after another.
-/
namespace Sys2Proof.Machine

open Sys2Proof

/-! ### The operation (R138, R140 - R150) -/

/-- Steps of the operation of word `w`: effects are left pending, and a DRN reads a row of the drain registers. -/
def mayOperate (w : VxWord) : VxMay := { bus := fun _ => True, tile := False, packs := False, drain := opcode w = 0x05 }

section
variable {n : Nat} {d : Device} {p : Prog} {M : VxMay}

theorem step_pend_any (hM : ∀ b, M.bus b) {due : Nat} {bus : Option (Nat × Nat)} {e : VxEffect} :
    VxStep n M d (d.pend n p due bus e) := step_pend fun u _ => hM u.1

theorem step_flags_pend (hM : ∀ b, M.bus b) (f : BitVec 4) {due : Nat} {bus : Option (Nat × Nat)} {e : VxEffect} :
    VxStep n M d ((d.vxFlags n f).pend n p due bus e) := ((noted_vxFlags n d f).step M).trans (step_pend_any hM)

theorem step_pend_flags (hM : ∀ b, M.bus b) (f : BitVec 4) {due : Nat} {bus : Option (Nat × Nat)} {e : VxEffect} :
    VxStep n M d ((d.pend n p due bus e).vxFlags n f) := (step_pend_any hM).trans ((noted_vxFlags n _ f).step M)

theorem step_mapDrain (hM : M.drain) (f : Drain → Drain) :
    VxStep n M d (d.mapSpire n (fun s => { s with drain := f s.drain })) where
  dev := rfl
  spire _ hm := spire_setSpire_ne d _ hm
  regs _ _ := rfl
  vx := by rw [Device.vx, Device.mapSpire, spire_setSpire]; rfl
  pends q hq := by rw [Device.vx, Device.mapSpire, spire_setSpire]; exact hq
  buses q hq := by
    rw [Device.vx, Device.mapSpire, spire_setSpire] at hq
    exact .inl hq
  tile _ := rfl
  packs _ := by rw [Device.vx, Device.mapSpire, spire_setSpire]; exact ⟨rfl, rfl⟩
  drain h := absurd hM h

end

theorem step_ite {n : Nat} {M : VxMay} {d a b : Device} {c : Prop} [Decidable c] (ha : c → VxStep n M d a)
    (hb : ¬ c → VxStep n M d b) : VxStep n M d (if c then a else b) := by
  split
  · exact ha ‹c›
  · exact hb ‹¬ c›

theorem step_operate (d : Device) (n bs : Nat) (w : VxWord) (p : Prog) (r : Reads) :
    VxStep n (mayOperate w) d (d.operate n bs w p r) := by
  have hM : ∀ b, (mayOperate w).bus b := fun _ => trivial
  unfold Device.operate
  refine step_ite (fun _ => VxStep.refl _ d) fun _ => ?_
  refine step_ite (fun ho => step_ite (fun _ => step_pend_any hM) fun _ => ?drn) fun _ => ?_
  case drn =>
    have hdrain := step_mapDrain (n := n) (d := d) (M := mayOperate w) ho
      (fun q => { q with unread := q.unread &&& ~~~(BitVec.ofNat 32 (2 ^ (w.sh.toNat % 32))) })
    refine hdrain.trans (VxStep.trans ?_ (step_pend_any hM))
    exact step_ite (fun _ => ((Noted.refl (n := n) _).mapRun _).step _) fun _ => VxStep.refl _ _
  refine step_ite (fun _ => step_pend_any hM) fun _ => ?_
  refine step_ite (fun _ => ?dreg) fun _ => ?_
  case dreg =>
    cases plainMove (d.vx n) r w with
    | some reg => exact step_pend_any hM
    | none => exact step_flags_pend hM _
  refine step_ite (fun _ => step_pend_any hM) fun _ => ?_
  refine step_ite (fun _ => step_flags_pend hM _) fun _ => ?_
  refine step_ite (fun _ => step_pend_flags hM _) fun _ => ?_
  refine step_ite (fun _ => step_pend_flags hM _) fun _ => ?_
  refine step_ite (fun _ => step_pend_any hM) fun _ => ?_
  refine step_ite (fun _ => step_pend_any hM) fun _ => ?_
  refine step_ite (fun _ => step_pend_any hM) fun _ => ?_
  refine step_ite (fun _ => step_pend_any hM) fun _ => ?_
  refine step_ite (fun _ => step_pend_any hM) fun _ => ?_
  exact step_ite (fun _ => step_flags_pend hM _) fun _ => VxStep.refl _ d

/-! ### The pointers of a word (R113, R119) -/

/-- The pointers `ap` of a word that acts in dclk `bs` are left pending where they differ from the engine's. -/
def Device.pointers (d : Device) (n bs : Nat) (p : Prog) (old ap : List (BitVec 12)) : Device :=
  (List.range 8).foldl (fun d i =>
    if nth ap i 0 = nth old i 0 then d else d.pend n p (bs + 1) none (.pointer 0 i (nth ap i 0))) d

section
variable {n bs : Nat} {p : Prog} {old ap : List (BitVec 12)} {M : VxMay}

theorem step_pointer (d : Device) (i : Nat) :
    VxStep n M d (if nth ap i 0 = nth old i 0 then d else d.pend n p (bs + 1) none (.pointer 0 i (nth ap i 0))) := by
  split
  · exact VxStep.refl M d
  · exact step_pend (by rintro _ ⟨⟩)

theorem step_pointers (d : Device) : VxStep n M d (d.pointers n bs p old ap) :=
  VxStep.foldl (fun i _ e => step_pointer e i) d

theorem vxPends_pointers {d : Device} (ht : (d.vx n).tainted p = false) {i : Nat} (hi : i < 8) (hne : nth ap i 0 ≠ nth old i 0) :
    VxPends (d.pointers n bs p old ap) n (bs + 1) (.pointer 0 i (nth ap i 0)) := by
  obtain ⟨l₁, l₂, hl⟩ := List.append_of_mem (List.mem_range.2 hi)
  rw [Device.pointers, hl, List.foldl_append, List.foldl_cons]
  have h₁ : VxStep n (mayLoad 0) d (l₁.foldl (fun d i =>
    if nth ap i 0 = nth old i 0 then d else d.pend n p (bs + 1) none (.pointer 0 i (nth ap i 0))) d) :=
    VxStep.foldl (fun i _ e => step_pointer e i) d
  refine (VxStep.foldl (M := mayLoad 0) (fun i _ e => step_pointer e i) _).vxPends ?_
  rw [if_neg hne]
  exact vxPends_pend (by rw [h₁.tainted]; exact ht)

end

/-! ### The word (R112 - R120) -/

/-- Where a word's addresses point. -/
def Vx.addr (v : Vx) (i : Nat) : BitVec 12 := nth v.ap i 0

section
variable (d : Device) (n bs : Nat) (w : VxWord) (env : VxEnv) (p : Prog)

/-- The reads of a word before any has taken place. -/
def Vx.noReads (v : Vx) : Reads := { x := BusVal.none, y := BusVal.none, c := BusVal.none, ap := v.ap }

/-- A word's loads. -/
def Device.afterLoads : Reads × Device :=
  (accesses w).foldl (fun acc a => if a.store then acc else loadStep n bs w env p (d.vx n).addr acc a) ((d.vx n).noReads, d)

/-- A word's reads, of its loads and of its C access. -/
def Device.afterReads : Reads × Device :=
  if w.ck = 0 then d.afterLoads n bs w env p
  else ({ (d.afterLoads n bs w env p).1 with c := ((d.afterLoads n bs w env p).2.doCoef n w env ((d.vx n).addr w.cap.toNat)).1 },
    ((d.afterLoads n bs w env p).2.doCoef n w env ((d.vx n).addr w.cap.toNat)).2)

/-- The pointers after the X and Y accesses of a word, and what its stores leave. -/
def Device.afterAccesses : List (BitVec 12) × Device :=
  (accesses w).foldl (storeStep n bs w env p (d.afterReads n bs w env p).1 (d.vx n).addr)
    ((d.vx n).ap, (d.afterReads n bs w env p).2)

/-- The pointers after a word. -/
def Device.newPointers : List (BitVec 12) :=
  if w.ck = 0 then (d.afterAccesses n bs w env p).1
  else (d.afterAccesses n bs w env p).2.stepPointer n (d.afterAccesses n bs w env p).1 w.cap.toNat w.cmode.toNat
    (if w.ck = 1 then 32 else 1)

theorem issueVector_eq : d.issueVector n bs w env p =
    ((d.afterAccesses n bs w env p).2.operate n bs w p (d.afterReads n bs w env p).1).pointers n bs p (d.vx n).ap
      (d.newPointers n bs w env p) := by
  rfl

end

end Sys2Proof.Machine
end

section
/-!
PROOFS. What a vector-format word leaves in the engine once it has acted, when nothing meets it in the Dome (R112 - R120, R137).
-/
namespace Sys2Proof.Machine

open Sys2Proof

/-- The loads of a word, and its stores. -/
def loadsOf (w : VxWord) : List VxAccess := (accesses w).filter (fun a => !a.store)

def storesOf (w : VxWord) : List VxAccess := (accesses w).filter (·.store)

theorem mem_loadsOf {w : VxWord} {a : VxAccess} : a ∈ loadsOf w ↔ a ∈ accesses w ∧ a.store = false := by
  simp [loadsOf]

theorem mem_storesOf {w : VxWord} {a : VxAccess} : a ∈ storesOf w ↔ a ∈ accesses w ∧ a.store = true := by
  simp [storesOf]

theorem Buses.inj {l : List VxAccess} (h : Buses l) {a b : VxAccess} (ha : a ∈ l) (hb : b ∈ l) (hab : a.bus = b.bus) : a = b :=
  List.inj_on_of_nodup_map (List.pairwise_map.2 h.ne) ha hb hab

/-- A device in which nothing meets what engine `n` does for program `p`, which has not faulted, and in which no effect of it is
pending. -/
structure VxClear (d : Device) (n : Nat) (env : VxEnv) (p : Prog) : Prop where
  idle : DomeIdle d
  port : env.port = []
  pending : (d.vx n).pending = []
  sound : (d.vx n).tainted p = false

/-- What a word may touch as it acts. -/
def mayWord (w : VxWord) : VxMay :=
  { bus := fun _ => True, tile := wide w = true ∧ storesOf w ≠ [], packs := storesOf w ≠ [], drain := opcode w = 0x05 }

/-- Before its operation it leaves the drain registers. -/
def mayAccess (w : VxWord) : VxMay := { mayWord w with drain := False }

/-- What a word has read, and the device after its reads. -/
structure ReadsDone (d : Device) (n bs : Nat) (w : VxWord) (env : VxEnv) (out : Reads × Device) : Prop where
  step : VxStep n (mayLoads (loadsOf w)) d out.2
  reads : ∀ a ∈ loadsOf w, out.1.on a.bus = d.readOf n bs w env a ((d.vx n).addr a.ap)
  coef : w.ck ≠ 0 → out.1.c = (d.doCoef n w env ((d.vx n).addr w.cap.toNat)).1
  full : out.1.Full
  pends : ∀ a ∈ loadsOf w, LoadPends out.2 n bs w a (d.readOf n bs w env a ((d.vx n).addr a.ap))

section
variable {d : Device} {n bs : Nat} {w : VxWord} {env : VxEnv} {p : Prog} (h : VxClear d n env p)
include h

theorem VxClear.loads : LoadsDone n bs w env (d.vx n).addr (loadsOf w) d (d.vx n).noReads (d.afterLoads n bs w env p) := by
  have hfold : d.afterLoads n bs w env p = (loadsOf w).foldl (loadStep n bs w env p (d.vx n).addr) ((d.vx n).noReads, d) := by
    rw [loadsOf, List.foldl_filter, Device.afterLoads]
    congr 1
    funext acc a
    cases a.store <;> rfl
  rw [hfold]
  exact loadsDone h.port _ ((buses_accesses w).filter _) _ d h.idle h.sound fun a _ => busFree_of_none h.pending a.bus

theorem VxClear.reads : ReadsDone d n bs w env (d.afterReads n bs w env p) := by
  have hl := h.loads (bs := bs) (w := w)
  have hempty : BusVal.none.vals.length = 32 := List.length_replicate ..
  have hfull := hl.full ⟨hempty, hempty, hempty⟩
  unfold Device.afterReads
  by_cases hck : w.ck = 0
  · rw [if_pos hck]
    exact ⟨hl.step, hl.reads, fun hne => absurd hck hne, hfull, hl.pends⟩
  · rw [if_neg hck]
    obtain ⟨hv, hnoted, -⟩ := sameRead_doCoef hl.step.cfgMem n w env ((d.vx n).addr w.cap.toNat)
    exact ⟨hl.step.trans (hnoted.step _), hl.reads, fun _ => hv, ⟨hfull.x, hfull.y, doCoef_vals_length ..⟩,
      fun a ha => (hl.pends a ha).step (hnoted.step (mayLoad 0))⟩

theorem VxClear.busFree_store {a : VxAccess} (ha : a ∈ storesOf w) : BusFree (d.afterReads n bs w env p).2 n a.bus := by
  refine h.reads.step.busFree (busFree_of_none h.pending a.bus) ?_
  rintro ⟨b, hb, hab⟩
  obtain ⟨hb, hbs⟩ := mem_loadsOf.1 hb
  obtain ⟨ha, has⟩ := mem_storesOf.1 ha
  rw [(buses_accesses w).inj hb ha hab, has] at hbs
  cases hbs

theorem VxClear.stepReads : VxStep n (mayAccess w) d (d.afterReads n bs w env p).2 :=
  h.reads.step.mono (fun _ _ => trivial) False.elim False.elim id

omit h in
theorem mayAccess_of_mayStore {a : VxAccess} (ha : a ∈ storesOf w) {e e' : Device} (hs : VxStep n (mayStore w a.bus) e e') :
    VxStep n (mayAccess w) e e' :=
  hs.mono (fun _ _ => trivial) (fun hw => ⟨hw, List.ne_nil_of_mem ha⟩) (fun _ => List.ne_nil_of_mem ha) id

/-- The stores `l` of a word, the first ones or all. -/
theorem VxClear.stores {l : List VxAccess} (hl : Buses l) (hsub : ∀ a ∈ l, a ∈ storesOf w) :
    VxStep n (mayAccess w) d ((d.afterReads n bs w env p).2.stores n bs w env p (d.afterReads n bs w env p).1 (d.vx n).addr l) ∧
    ∀ a ∈ l, ∀ due eff, (∀ e, VxStep n (mayAccess w) d e → DomeIdle e → BusFree e n a.bus →
        VxPends (e.storeAccess n bs w env p (d.afterReads n bs w env p).1 a ((d.vx n).addr a.ap)) n due eff) →
      VxPends ((d.afterReads n bs w env p).2.stores n bs w env p (d.afterReads n bs w env p).1 (d.vx n).addr l) n due eff := by
  have hr := h.stepReads (bs := bs) (w := w)
  obtain ⟨hs, hp⟩ := step_stores (M := mayAccess w) (n := n) (bs := bs) (w := w) (p := p) (r := (d.afterReads n bs w env p).1)
    (addr := (d.vx n).addr) h.port l hl (fun a ha _ _ => mayAccess_of_mayStore (hsub a ha)) _ (hr.idle h.idle)
    fun a ha => h.busFree_store (hsub a ha)
  exact ⟨hr.trans hs, fun a ha due eff he => hp a ha due eff fun e hde => he e (hr.trans hde)⟩

omit h in
theorem snd_afterAccesses : (d.afterAccesses n bs w env p).2 =
    (d.afterReads n bs w env p).2.stores n bs w env p (d.afterReads n bs w env p).1 (d.vx n).addr (storesOf w) :=
  snd_foldl_storeStep _ _

theorem VxClear.stepAccesses : VxStep n (mayAccess w) d (d.afterAccesses n bs w env p).2 := by
  rw [snd_afterAccesses]
  exact (h.stores ((buses_accesses w).filter _) fun _ => id).1

omit h in
/-- What the operation has left pending stays so. -/
theorem vxPends_of_operate {due : Nat} {eff : VxEffect}
    (hp : VxPends ((d.afterAccesses n bs w env p).2.operate n bs w p (d.afterReads n bs w env p).1) n due eff) :
    VxPends (d.issueVector n bs w env p) n due eff := by
  rw [issueVector_eq]
  exact (step_pointers (M := mayWord w) _).vxPends hp

omit h in
theorem stepOperate : VxStep n (mayOperate w) (d.afterAccesses n bs w env p).2 (d.issueVector n bs w env p) := by
  rw [issueVector_eq]
  exact (step_operate ..).trans (step_pointers _)

omit h in
theorem vxPends_of_accesses {due : Nat} {eff : VxEffect} (hp : VxPends (d.afterAccesses n bs w env p).2 n due eff) :
    VxPends (d.issueVector n bs w env p) n due eff := stepOperate.vxPends hp

theorem VxClear.step : VxStep n (mayWord w) d (d.issueVector n bs w env p) :=
  (h.stepAccesses.mono (M' := mayWord w) (fun _ => id) id id False.elim).trans
    (stepOperate.mono (fun _ => id) False.elim False.elim id)

/-- A load's register is pending once its word has acted. -/
theorem VxClear.loadPends {a : VxAccess} (ha : a ∈ loadsOf w) :
    LoadPends (d.issueVector n bs w env p) n bs w a (d.readOf n bs w env a ((d.vx n).addr a.ap)) := by
  have hl := (h.reads (bs := bs) (w := w)).pends a ha
  have hs : VxStep n (mayAccess w) (d.afterReads n bs w env p).2 (d.afterAccesses n bs w env p).2 := by
    rw [snd_afterAccesses]
    exact (step_stores h.port _ ((buses_accesses w).filter _) (fun a ha _ _ => mayAccess_of_mayStore ha) _
      (h.stepReads.idle h.idle) fun a ha => h.busFree_store ha).1
  exact (hl.step hs).step stepOperate

/-- What each store access leaves pending, from a device within the word's accesses, is pending once the word has acted. -/
theorem VxClear.storePends {a : VxAccess} (ha : a ∈ storesOf w) {due : Nat} {eff : VxEffect}
    (he : ∀ e, VxStep n (mayAccess w) d e → DomeIdle e → BusFree e n a.bus →
      VxPends (e.storeAccess n bs w env p (d.afterReads n bs w env p).1 a ((d.vx n).addr a.ap)) n due eff) :
    VxPends (d.issueVector n bs w env p) n due eff := by
  refine vxPends_of_accesses ?_
  rw [snd_afterAccesses]
  exact (h.stores ((buses_accesses w).filter _) fun _ => id).2 a ha due eff he

/-- The new pointer of a load in mode 1 that alone names it. -/
theorem VxClear.pointerPends {a : VxAccess} (ha : a ∈ loadsOf w) (hmode : a.mode = 1)
    (hother : ∀ b ∈ accesses w, b ≠ a → b.ap ≠ a.ap) (hcap : w.ck = 0 ∨ w.cap.toNat ≠ a.ap)
    (hlt : a.ap < (d.vx n).ap.length) (h8 : a.ap < 8)
    (hne : (d.vx n).modified a.ap (granules w.mfmt.toNat) (d.vx n).ap ≠ nth (d.vx n).ap a.ap 0) :
    VxPends (d.issueVector n bs w env p) n (bs + 1)
      (.pointer 0 a.ap ((d.vx n).modified a.ap (granules w.mfmt.toNat) (d.vx n).ap)) := by
  obtain ⟨ha, hs⟩ := mem_loadsOf.1 ha
  have hmoved : nth (d.afterAccesses n bs w env p).1 a.ap 0 =
      (d.vx n).modified a.ap (granules w.mfmt.toNat) (d.vx n).ap := by
    refine fst_foldl_storeStep_load (buses_accesses w) _ (fun l₁ hl₁ => ?_) ha hs hmode hother hlt
    have hb : Buses (l₁.filter (·.store)) :=
      ⟨fun b hb => (buses_accesses w).lt b (hl₁.subset (List.mem_filter.1 hb).1),
        (((buses_accesses w).ne.sublist hl₁.sublist)).filter _⟩
    have hst := (h.stores (bs := bs) (w := w) hb fun b hb =>
      mem_storesOf.2 ⟨hl₁.subset (List.mem_filter.1 hb).1, (List.mem_filter.1 hb).2⟩).1
    rw [hst.vx]
    exact ⟨rfl, rfl⟩
  have hnew : nth (d.newPointers n bs w env p) a.ap 0 = (d.vx n).modified a.ap (granules w.mfmt.toNat) (d.vx n).ap := by
    unfold Device.newPointers
    split
    · exact hmoved
    · rw [(stepPointer_other ..).2 _ (hcap.resolve_left ‹_›).symm, hmoved]
  have hsound : (((d.afterAccesses n bs w env p).2.operate n bs w p (d.afterReads n bs w env p).1).vx n).tainted p = false := by
    rw [(step_operate ..).tainted, h.stepAccesses.tainted, h.sound]
  rw [issueVector_eq, ← hnew]
  exact vxPends_pointers hsound h8 (by rw [hnew]; exact hne)

end

end Sys2Proof.Machine
end

section
/-!
PROOFS. The command of a vector-format word, to the dclk in which it acts (R112, R113, R137).
-/
namespace Sys2Proof.Machine

open Sys2Proof

/-! ### The command of an opcode (R112) -/

/-- The command of each vector-format opcode is the engine's with that opcode. -/
theorem completes_vxVector {c : Nat × (Fin 4096 → VxEnv → Instr)} (hc : c ∈ vxVector) {s : State} (ha : s.dev.alive = true)
    {n : Fin 4096} {env : VxEnv} {P : Device → Prop} (hP : P (s.dev.vxCommand n env (some c.1))) :
    Completes (c.2 n env) s P := by
  refine completes_took (f := (·.vxCommand n env (some c.1))) ?_ ha hP
  simp only [vxVector, List.mem_cons, List.not_mem_nil, or_false] at hc
  rcases hc with rfl | rfl | rfl | rfl | rfl | rfl | rfl | rfl | rfl | rfl | rfl | rfl | rfl | rfl | rfl | rfl | rfl | rfl | rfl |
    rfl | rfl | rfl | rfl | rfl | rfl | rfl <;> rfl

theorem opcode_decodeVx (w : Word) : opcode (decodeVx w) = fld w 56 8 := by
  simp [opcode, decodeVx, fld, BitVec.extractLsb'_toNat]

/-! ### The device in which a word acts (R137) -/

/-- The device `b`, in which a word of program `p` acts, is `d` as far as the word is concerned. -/
structure VxBase (d b : Device) (n : Nat) (env : VxEnv) (p : Prog) : Prop where
  only : OnlySpire n d b
  clear : VxClear b n env p
  drain : (b.spire n).drain = (d.spire n).drain
  vx : b.vx n = { d.vx n with
    pc := (b.vx n).pc, pending := (b.vx n).pending, loops := (b.vx n).loops, prog := (b.vx n).prog, held := (b.vx n).held }

/-- The device `e` is `f` as far as the effects of a word are concerned that has acted in Spire `n`. -/
structure VxAfter (f e : Device) (n : Nat) : Prop where
  only : OnlySpire n f e
  drain : (e.spire n).drain = (f.spire n).drain
  vx : e.vx n = { f.vx n with pc := (e.vx n).pc, loops := (e.vx n).loops, prog := (e.vx n).prog, held := (e.vx n).held }

theorem VxAfter.refl (f : Device) (n : Nat) : VxAfter f f n := ⟨OnlySpire.refl f, rfl, rfl⟩

theorem drain_mapVx (d : Device) (n : Nat) (f : Vx → Vx) : ((d.mapVx n f).spire n).drain = (d.spire n).drain := by
  rw [Device.mapVx, Device.mapSpire, spire_setSpire]

theorem drain_through (d : Device) (n x : Nat) : ((d.through n x).spire n).drain = (d.spire n).drain := by
  rw [Device.through, Device.mapSpire, spire_setSpire]

theorem VxAfter.goOn_through (f : Device) (n pc x len : Nat) : VxAfter f ((f.goOn n pc x len).through n x) n where
  only := ((OnlySpire.refl f).mapVx _).trans (onlySpire_through _ n x)
  drain := by rw [drain_through, Device.goOn, drain_mapVx]
  vx := by rw [vx_through, vx_goOn]; rfl

theorem OnlySpire.idle {n : Nat} {d d' : Device} (h : OnlySpire n d d') (hi : DomeIdle d) : DomeIdle d' := by
  obtain ⟨hd, hp, hs, hc, hu⟩ := hi
  rw [h.dev]
  exact ⟨hd, hp, hs, hc, hu⟩

/-- A word held acts in its dclk, when nothing else does. -/
theorem vxClock_held {d : Device} {n t : Nat} {p p' : Prog} {env env' : VxEnv} {u : VxWord} (hi : DomeIdle d)
    (hpend : (d.vx n).pending = []) (hheld : (d.vx n).held = some { due := t, prog := p, env := env })
    (hu : decodeVx (d.vxWord n p.pc) = u) (hf : d.vectorFaults n t p u = []) (hprog : (d.vx n).prog = some p')
    (hissue : p'.issue ≠ t) :
    ∃ e, Alike d e ∧ d.vxClock n t env' = (e.mapVx n (fun v => { v with held := none })).issueVector n t u env p := by
  have hat : (d.vx n).heldAt t = some { due := t, prog := p, env := env } := by simp [Vx.heldAt, hheld]
  have hclaims : (accesses u).foldl (fun d a => d.claimBus n a.bus t) d = d := by
    generalize accesses u = l
    induction l with
    | nil => rfl
    | cons a l ih => rw [List.foldl_cons, claimBus_of_free (busFree_of_none hpend a.bus), ih]
  have hraise := alike_raiseClashes (noClash_nil hpend) t
  have hcommit := alike_commitVx (d := d.raiseClashes n t) (n := n) (by rw [hraise.vx]; exact hpend) t
  have ha := hraise.trans hcommit
  refine ⟨(d.raiseClashes n t).commitVx n t, ha, ?_⟩
  have hact : (((d.raiseClashes n t).commitVx n t).vx n).heldAt t = some { due := t, prog := p, env := env } := by
    rw [ha.vx]; exact hat
  simp only [Device.vxClock, hat, hu, hf, Device.vxFaults, List.foldl_nil, hclaims, losePort_of_idle hi, hraise.vx, hprog, ne_eq,
    hissue, not_false_eq_true, if_true, Device.actHeld, hact, ha.vxWord]

section
variable {d : Device} {n x : Nat} {p : Prog} {env : VxEnv} {u : VxWord} (hq : VxQuiet d n x p env)
include hq

theorem VxQuiet.ready : VxReady d n x p := hq.1

theorem VxQuiet.pending : (d.vx n).pending = [] := by
  obtain ⟨-, hpend, -⟩ := hq
  exact hpend

theorem VxQuiet.port : env.port = [] := by
  obtain ⟨-, -, hport, -⟩ := hq
  exact hport

variable (hc : decodeControl (d.vxWord n p.pc) = none) (hu : u = decodeVx (d.vxWord n p.pc)) (hl : vectorLegal u = true)
include hc hu hl

/-- The command of a vector-format word has it issue in a device that lists its Spires differently. -/
theorem VxQuiet.vxCommand {o : Nat} (ho : opcode u = o) : ∃ e, Alike d e ∧ e.vxWord n p.pc = d.vxWord n p.pc ∧
    vxLegal (d.vxWord n p.pc) p.pc (e.vx n).loops = true ∧ d.vxCommand n env (some o) = (e.issueWord n x env p).through n x := by
  subst hu
  have hlegal : vxLegal (d.vxWord n p.pc) p.pc (d.vx n).loops = true := by rw [vxLegal, hc]; exact hl
  obtain ⟨h, hpend, -, hf, -⟩ := hq
  obtain ⟨e, he, heq⟩ := h.vxClock_quiet hpend hf env
  refine ⟨e, he, he.vxWord n p.pc, by rw [he.vx]; exact hlegal, ?_⟩
  rw [h.vxCommand_eq env hlegal ((opcode_decodeVx _).symm.trans ho), heq]

/-- A word of one dclk acts as it issues. -/
theorem VxQuiet.acts_narrow {o : Nat} (ho : opcode u = o) (hw : wide u = false) : ∃ b, VxBase d b n env p ∧
    b.vx n = { d.vx n with pc := p.pc } ∧
    d.vxCommand n env (some o) = ((b.issueVector n x u env p).goOn n p.pc x 1).through n x := by
  obtain ⟨e, he, hew, hel, heq⟩ := hq.vxCommand hc hu hl ho
  have h := hq.ready
  have hv : (e.taken n p.pc).vx n = { d.vx n with pc := p.pc } := by rw [vx_taken, he.vx]
  have hpend : ((e.taken n p.pc).vx n).pending = [] := by rw [hv]; exact hq.pending
  refine ⟨e.taken n p.pc, ⟨(he.onlySpire n).mapVx _, ⟨?_, hq.port, hpend, ?_⟩, ?_, ?_⟩, hv, ?_⟩
  · exact ((he.onlySpire n).mapVx _).idle h.idle
  · rw [hv]
    exact tainted_of_running h.running h.not_faulted
  · rw [Device.taken, drain_mapVx, he.spire]
  · rw [hv]
  · rw [heq, issueWord_vector h.pc_le hew hel hc (by rw [← hu]; exact hw), ← hu]

/-- A word of two dclk is held as it issues. -/
theorem VxQuiet.holds_wide {o : Nat} (ho : opcode u = o) (hw : wide u = true) :
    OnlySpire n d (d.vxCommand n env (some o)) ∧
    ((d.vxCommand n env (some o)).spire n).drain = (d.spire n).drain ∧
    (d.vxCommand n env (some o)).vx n =
      ({ d.vx n with pc := p.pc, held := some { due := x + 1, prog := p, env := env } }).goneOn p.pc x 2 := by
  obtain ⟨e, he, hew, hel, heq⟩ := hq.vxCommand hc hu hl ho
  rw [heq, issueWord_wide hq.ready.pc_le hew hel hc (by rw [← hu]; exact hw)]
  refine ⟨(((he.onlySpire n).mapVx _).mapVx _ |>.mapVx _).trans (onlySpire_through _ n x), ?_, ?_⟩
  · rw [drain_through, Device.goOn, drain_mapVx, drain_mapVx, Device.taken, drain_mapVx, he.spire]
  · rw [vx_through, vx_goOn, vx_mapVx, vx_taken, he.vx]

/-- A word of two dclk acts in its second. -/
theorem VxQuiet.acts_wide {o : Nat} (ho : opcode u = o) (hw : wide u = true) : ∃ b, VxBase d b n env p ∧
    (d.vxCommand n env (some o)).acted n x u = b.issueVector n (x + 1) u env p := by
  obtain ⟨honly, hdrain, hv⟩ := hq.holds_wide hc hu hl ho hw
  have h := hq.ready
  obtain ⟨-, -, -, -, hf, -⟩ := id hq
  rw [← hu, actsAt, if_pos hw] at hf
  generalize d.vxCommand n env (some o) = d' at honly hdrain hv ⊢
  have hi := honly.idle h.idle
  have hpend : (d'.vx n).pending = [] := by rw [hv]; exact hq.pending
  have hmaint : d'.spireMaint n = d.spireMaint n := by rw [honly.dev]; rfl
  have hf' : d'.vectorFaults n (x + 1) p u = [] := by
    rw [← hf]
    simp only [Device.vectorFaults, hmaint, hdrain, hv]
    rfl
  have hissue : x + 2 + (nextIndex p.pc (d.vx n).cache (d.vx n).loops).2.1 ≠ x + 1 := by omega
  obtain ⟨e, he, heq⟩ := vxClock_held (env' := VxEnv.clean) hi hpend (t := x + 1) (p := p) (env := env) (u := u)
    (by rw [hv]; rfl) (by rw [honly.sameMemory.vxWord, hu]) hf' (p' := { p with
      pc := (nextIndex p.pc (d.vx n).cache (d.vx n).loops).1,
      issue := x + 2 + (nextIndex p.pc (d.vx n).cache (d.vx n).loops).2.1 }) (by rw [hv]; simp [Vx.goneOn, h.running]) hissue
  have hvb : (e.mapVx n (fun v => { v with held := none })).vx n = ({ d.vx n with pc := p.pc, held := none }).goneOn p.pc x 2 := by
    rw [vx_mapVx, he.vx, hv]; rfl
  have honly' : OnlySpire n d (e.mapVx n (fun v => { v with held := none })) := (honly.trans (he.onlySpire n)).mapVx _
  refine ⟨_, ⟨honly', ⟨honly'.idle h.idle, hq.port, ?_, ?_⟩, ?_, ?_⟩, ?_⟩
  · rw [hvb]; exact hq.pending
  · rw [hvb]
    simp [Vx.tainted, Vx.goneOn, h.running, h.not_faulted]
  · rw [drain_mapVx, he.spire, hdrain]
  · rw [hvb, Vx.goneOn]
  · rw [Device.acted, if_pos hw, spireClock_of_idle hi, heq]

end

/-! ### What a word has done (R113, R137) -/

/-- Word `u`, issued in device `d`, has acted in `b` and left `e`, which is `b` after the word as far as its effects go. -/
structure VxActed (d b e : Device) (n bs : Nat) (u : VxWord) (env : VxEnv) (p : Prog) : Prop where
  base : VxBase d b n env p
  after : VxAfter (b.issueVector n bs u env p) e n

section
variable {d b e : Device} {n bs : Nat} {u : VxWord} {env : VxEnv} {p : Prog} (h : VxActed d b e n bs u env p)
include h

theorem VxActed.step : VxStep n (mayWord u) b (b.issueVector n bs u env p) := h.base.clear.step

theorem VxActed.d_eq : (b.vx n).d = (d.vx n).d := by rw [h.base.vx]

theorem VxActed.acc_eq : (b.vx n).acc = (d.vx n).acc := by rw [h.base.vx]

theorem VxActed.addr_eq : (b.vx n).addr = (d.vx n).addr := by rw [h.base.vx]; rfl

theorem VxActed.keeps : VxKeeps d e n := by
  have hs := h.step
  have ha := h.after
  have hb := h.base
  have hreg : ∀ {f f' : Device} (_ : OnlySpire n f f') a, f'.reg a = f.reg a := fun ho a => by
    rw [Device.reg, ho.regs, Device.reg]
  refine ⟨?_, ?_, ?_, fun m hm => ?_, ?_, ?_, ?_, ?_, fun a hm => ?_⟩
  · rw [ha.vx, hs.vx, hb.vx]
  · rw [ha.vx, hs.vx, hb.vx]
  · rw [ha.vx, hs.vx, hb.vx]
  · rw [ha.only.spire m hm, hs.spire m hm, hb.only.spire m hm]
  · rw [ha.only.dev, hs.dev, hb.only.dev]
  · rw [ha.only.dev, hs.dev, hb.only.dev]
  · rw [ha.only.dev, hs.dev, hb.only.dev]
  · rw [ha.only.dev, hs.dev, hb.only.dev]
  · rw [hreg ha.only, hs.regs a hm, hreg hb.only]

theorem VxActed.tile_eq : e.tile = (b.issueVector n bs u env p).tile := by rw [h.after.only.dev]

theorem VxActed.sameMemory (hM : ¬ (mayWord u).tile) : SameMemory d e := by
  have ht : (b.issueVector n bs u env p).tile = b.tile := h.step.tile hM
  have hs : SameMemory b (b.issueVector n bs u env p) := ⟨by rw [h.step.dev], ht, by rw [h.step.dev], by rw [h.step.dev]⟩
  exact (h.base.only.sameMemory.trans hs).trans h.after.only.sameMemory

theorem VxActed.pends {due : Nat} {eff : VxEffect} (hp : VxPends (b.issueVector n bs u env p) n due eff) : VxPends e n due eff := by
  unfold VxPends
  rw [h.after.vx]
  exact hp

/-- What the word reads is what its accesses read in the device that it issued in. -/
theorem VxActed.readOf_eq (a : VxAccess) (addr : BitVec 12) : b.readOf n bs u env a addr = d.readOf n bs u env a addr := by
  obtain ⟨-, htile, -, -⟩ := h.base.only.sameMemory
  exact readOf_congr htile n bs u env a addr

theorem VxActed.doLoad_eq (hi : DomeIdle d) (hpend : (d.vx n).pending = []) {a : VxAccess} {addr : BitVec 12} :
    (d.doLoad n bs u env p a addr).1 = d.readOf n bs u env a addr := by
  rw [Machine.doLoad_eq hi h.base.clear.port (busFree_of_none hpend a.bus)]

theorem VxActed.vxReads (hi : DomeIdle d) (hpend : (d.vx n).pending = []) :
    VxReads d n bs u env p (b.afterReads n bs u env p).1 := by
  have hr := h.base.clear.reads (bs := bs) (w := u)
  obtain ⟨-, -, -, hcfg⟩ := h.base.only.sameMemory
  refine ⟨fun a ha hs => ?_, fun hck => ?_⟩
  · have hread := hr.reads a (mem_loadsOf.2 ⟨ha, hs⟩)
    rw [h.readOf_eq, h.addr_eq] at hread
    rw [h.doLoad_eq hi hpend]
    exact hread
  · rw [hr.coef hck, (sameRead_doCoef hcfg n u env _).value, h.addr_eq]
    rfl

theorem VxActed.loadPends {a : VxAccess} (ha : a ∈ loadsOf u) :
    LoadPends e n bs u a (d.readOf n bs u env a ((d.vx n).addr a.ap)) := by
  have hl := h.base.clear.loadPends (bs := bs) ha
  rw [h.readOf_eq, h.addr_eq] at hl
  exact ⟨fun h8 => h.pends (hl.1 h8), fun h89 => h.pends (hl.2 h89)⟩

end

section
variable {d : Device} {n x : Nat} {p : Prog} {env : VxEnv} {u : VxWord}

theorem VxQuiet.acts {o : Nat} (hq : VxQuiet d n x p env) (hc : decodeControl (d.vxWord n p.pc) = none)
    (hu : u = decodeVx (d.vxWord n p.pc)) (hl : vectorLegal u = true) (ho : opcode u = o) :
    VxIssued d (d.vxCommand n env (some o)) n x p env (if wide u then 2 else 1) ∧
    ∃ b, VxActed d b ((d.vxCommand n env (some o)).acted n x u) n (actsAt x u) u env p := by
  have h := hq.ready
  cases hw : wide u with
  | false =>
    obtain ⟨b, hb, hv, heq⟩ := hq.acts_narrow hc hu hl ho hw
    have hacted : VxActed d b ((d.vxCommand n env (some o)).acted n x u) n (actsAt x u) u env p := by
      rw [Device.acted, if_neg (by simp [hw]), actsAt, if_neg (by simp [hw]), heq]
      exact ⟨hb, VxAfter.goOn_through _ n p.pc x 1⟩
    refine ⟨⟨?_, ?_, ?_, ?_, ?_, ?_⟩, b, hacted⟩
    case refine_5 =>
      have hk := hacted.keeps
      rwa [Device.acted, if_neg (by simp [hw])] at hk
    case refine_6 =>
      have hm := hacted.sameMemory fun ⟨ht, _⟩ => by simp [hw] at ht
      rwa [Device.acted, if_neg (by simp [hw])] at hm
    all_goals rw [heq, vx_through, vx_goOn, hb.clear.step.vx, hv]
    · rfl
    · rfl
    · simp [Vx.goneOn, h.running]
    · exact h.not_held
  | true =>
    obtain ⟨honly, -, hv⟩ := hq.holds_wide hc hu hl ho hw
    obtain ⟨b, hb, heq⟩ := hq.acts_wide hc hu hl ho hw
    refine ⟨⟨?_, ?_, ?_, ?_, honly.keeps ?_ ?_ ?_, honly.sameMemory⟩, b, hb, ?_⟩
    case refine_8 => rw [heq, actsAt, if_pos hw]; exact VxAfter.refl _ n
    all_goals simp [hv, Vx.goneOn, h.running]

end

end Sys2Proof.Machine
end

section
/-!
PROOFS. Results in D registers (R113, R124, R137, R138, R140 - R143, R150).
-/
namespace Sys2Proof.Machine

open Sys2Proof

/-! ### Sources are a matter of the registers (R133) -/

section
variable {v v' : Vx} (hd : v'.d = v.d) (ha : v'.acc = v.acc)
include hd

theorem dreg_congr (i : Nat) : v'.dreg i = v.dreg i := by rw [Vx.dreg, hd, Vx.dreg]

theorem plainMove_congr (r : Reads) (w : VxWord) : plainMove v' r w = plainMove v r w := by
  simp only [plainMove, dreg_congr hd]

include ha

omit hd in
theorem areg_congr (i : Nat) : v'.areg i = v.areg i := by rw [Vx.areg, ha, Vx.areg]

theorem sourceOf_congr (r : Reads) (c : Nat) : sourceOf v' r c = sourceOf v r c := by
  simp only [sourceOf, dreg_congr hd, areg_congr ha]

theorem outOf_congr (c : Nat) : outOf v' c = outOf v c := by
  simp only [outOf, dreg_congr hd, areg_congr ha]

theorem dOut_congr (r : Reads) (w : VxWord) : dOut v' r w = dOut v r w := by
  simp only [dOut, sourceOf_congr hd ha, outOf_congr hd ha, dreg_congr hd]

theorem dResult_congr (r : Reads) (w : VxWord) : dResult v' r w = dResult v r w := by
  simp only [dResult, sourceOf_congr hd ha, dreg_congr hd]

end

/-! ### Lane by lane (R141 - R143) -/

/-- Every register list of the engine has 32 lanes. -/
def Vx.Lanes32 (v : Vx) : Prop := ∀ i, (v.dreg i).lanes.length = 32 ∧ (v.areg i).lanes.length = 32

theorem length_dvals {v : Vx} (h : v.Lanes32) (i : Nat) : (v.dreg i).vals.length = 32 := by
  simp [DReg.vals, (h i).1]

theorem length_avals {v : Vx} (h : v.Lanes32) (i : Nat) : (v.areg i).vals.length = 32 := by
  simp [AReg.vals, (h i).2]

theorem length_sourceOf {v : Vx} (h : v.Lanes32) {r : Reads} (hr : r.Full) (c : Nat) : (sourceOf v r c).1.length = 32 := by
  unfold sourceOf
  split
  · exact length_dvals h c
  split
  · exact length_avals h _
  split
  · exact hr.x
  split
  · exact hr.y
  split
  · exact hr.c
  · exact List.length_replicate ..

theorem map_eq_lanes {α β : Type} {l : List α} (h : l.length = 32) (f : α → β) (z : α) :
    l.map f = (List.range 32).map (fun j => f (nth l j z)) := by
  refine List.ext_getElem (by simp [h]) fun i h₁ h₂ => ?_
  have hi : i < l.length := by simpa using h₁
  simp [nth, List.getD_eq_getElem?_getD, hi]

theorem eq_lanes {α : Type} {l : List α} (h : l.length = 32) (z : α) : l = (List.range 32).map (fun j => nth l j z) := by
  exact (List.map_id l).symm.trans (map_eq_lanes h id z)

theorem lanewise_eq_lanes {a b : List Val} (ha : a.length = 32) (hb : b.length = 32) (f : Val → Val → Val × BitVec 4) :
    (lanewise f a b).1 = (List.range 32).map (fun j => (f (nth a j .nan) (nth b j .nan)).1) := by
  refine List.ext_getElem (by simp [lanewise, ha, hb]) fun i h₁ h₂ => ?_
  have hi : i < 32 := by simpa using h₂
  simp [lanewise, nth, List.getD_eq_getElem?_getD, ha, hb, hi]

/-- The operations with a D destination, PKLD aside (R140). -/
def dOpcodes : List Nat := [0x10, 0x11, 0x12, 0x13, 0x14, 0x15, 0x16, 0x17, 0x18, 0x30]

/-- The exact result of an operation with a D destination, lane by lane. -/
theorem dResult_lanes {v : Vx} (h : v.Lanes32) {r : Reads} (hr : r.Full) (w : VxWord) (ho : opcode w ∈ dOpcodes) :
    (dResult v r w).1 = (List.range 32).map (fun j => laneResult (opcode w) (nth (sourceOf v r w.sa.toNat).1 j .nan)
      (nth (sourceOf v r w.sb.toNat).1 j .nan) (nth (v.dreg w.ds.toNat).vals j .nan)) := by
  have ha := length_sourceOf h hr w.sa.toNat
  have hb := length_sourceOf h hr w.sb.toNat
  unfold dResult
  generalize sourceOf v r w.sa.toNat = a at ha ⊢
  generalize sourceOf v r w.sb.toNat = b at hb ⊢
  generalize opcode w = o at ho ⊢
  simp only [dOpcodes, List.mem_cons, List.not_mem_nil, or_false] at ho
  rcases ho with rfl | rfl | rfl | rfl | rfl | rfl | rfl | rfl | rfl | rfl
  · exact eq_lanes ha .nan
  · exact lanewise_eq_lanes ha hb Val.add
  · exact lanewise_eq_lanes ha hb fun q t => q.add t.neg
  · exact lanewise_eq_lanes ha hb fun q t => (q.pick false t, 0)
  · exact lanewise_eq_lanes ha hb fun q t => (q.pick true t, 0)
  · exact map_eq_lanes ha Val.abs .nan
  · exact map_eq_lanes ha Val.neg .nan
  · rfl
  · exact (List.map_map ..).trans (map_eq_lanes ha _ .nan)
  · exact eq_lanes ha .nan

/-! ### The register that an operation leaves pending (R113, R124, R138) -/

/-- What an operation with a D destination makes of it. -/
def dRegOf (v : Vx) (r : Reads) (w : VxWord) : DReg :=
  match plainMove v r w with
  | some reg => reg
  | none =>
    { (toDReg (w.bkr == 1) ((dResult v r w).1.map (fun q => q.scale (sext w.sh.toNat 7))) (dResult v r w).2.2).1 with
      out := dOut v r w }

theorem dRegOf_congr {v v' : Vx} (hd : v'.d = v.d) (ha : v'.acc = v.acc) (r : Reads) (w : VxWord) :
    dRegOf v' r w = dRegOf v r w := by
  simp only [dRegOf, plainMove_congr hd, dResult_congr hd ha, dOut_congr hd ha]

theorem operate_dreg {d : Device} {n bs : Nat} {w : VxWord} {p : Prog} {r : Reads} (ho : opcode w ∈ dOpcodes)
    (hds : w.ds.toNat < 8) (ht : (d.vx n).tainted p = false) :
    VxPends (d.operate n bs w p r) n
      (if isBus w.sa.toNat || isBus w.sb.toNat || isAcc w.sa.toNat then bs + 2 else bs + 1)
      (.dreg w.ds.toNat (dRegOf (d.vx n) r w)) := by
  have hne : opcode w ≠ 0x00 ∧ opcode w ≠ 0x40 ∧ opcode w ≠ 0x42 ∧ opcode w ≠ 0x05 ∧ opcode w ≠ 0x41 := by
    simp only [dOpcodes, List.mem_cons, List.not_mem_nil, or_false] at ho
    omega
  obtain ⟨h0, h40, h42, h5, h41⟩ := hne
  have hd : isD w.ds.toNat = true := decide_eq_true hds
  unfold Device.operate dRegOf
  dsimp only
  rw [if_neg (by simp [h0, h40, h42]), if_neg h5, if_neg h41, if_pos hd]
  cases plainMove (d.vx n) r w with
  | some reg => exact vxPends_pend ht
  | none => exact vxPends_pend (by rw [(noted_vxFlags n d _).vx]; exact ht)

theorem operate_pkld {d : Device} {n bs : Nat} {w : VxWord} {p : Prog} {r : Reads} (ho : opcode w = 0x41)
    (ht : (d.vx n).tainted p = false) :
    VxPends (d.operate n bs w p r) n (bs + 2) (.dreg w.ds.toNat
      (toDReg (w.mfmt == 6) (if w.xreg = 14 then r.x else r.y).vals (if w.xreg = 14 then r.x else r.y).pois).1) := by
  unfold Device.operate
  dsimp only
  rw [if_neg (by simp [ho]), if_neg (by simp [ho]), if_pos ho]
  exact vxPends_pend ht

theorem formOk_of_legal {w : VxWord} (h : vectorLegal w = true) : formOk w = true := by
  unfold vectorLegal at h
  exact (Bool.and_eq_true _ _ ▸ h : _ ∧ _).2

theorem wide_of_format {w : VxWord} (h : w.mfmt ≠ 14) : wide w = false := by
  simp only [wide, beq_eq_false_iff_ne.2 h, Bool.false_and]

theorem wide_of_pkld {w : VxWord} (h : vectorLegal w = true) (ho : opcode w = 0x41) : wide w = false := by
  have hf := formOk_of_legal h
  refine wide_of_format fun hm => ?_
  simp [formOk, ho, hm] at hf

theorem dRegOf_plain {v : Vx} {r : Reads} {w : VxWord} {m : DReg} (h : plainMove v r w = some m) : dRegOf v r w = m := by
  rw [dRegOf, h]

theorem dRegOf_lanes {v : Vx} (hv : v.Lanes32) {r : Reads} (hr : r.Full) {w : VxWord} (ho : opcode w ∈ dOpcodes)
    (h : plainMove v r w = none) : dRegOf v r w =
      { (toDReg (w.bkr == 1) ((List.range 32).map (fun j =>
          (laneResult (opcode w) (nth (sourceOf v r w.sa.toNat).1 j .nan) (nth (sourceOf v r w.sb.toNat).1 j .nan)
            (nth (v.dreg w.ds.toNat).vals j .nan)).scale (sext w.sh.toNat 7))) (dResult v r w).2.2).1 with
        out := dOut v r w } := by
  rw [dRegOf, h, dResult_lanes hv hr w ho, List.map_map]
  rfl

/-! ### The word has acted -/

section
variable {d b e : Device} {n bs : Nat} {u : VxWord} {env : VxEnv} {p : Prog} (h : VxActed d b e n bs u env p)
include h

/-- Before its operation the word has left the registers as they were, and its program is sound. -/
theorem VxActed.beforeOperation : ((b.afterAccesses n bs u env p).2.vx n).d = (d.vx n).d ∧
    ((b.afterAccesses n bs u env p).2.vx n).acc = (d.vx n).acc ∧
    ((b.afterAccesses n bs u env p).2.vx n).tainted p = false := by
  have hs := h.base.clear.stepAccesses (bs := bs) (w := u)
  exact ⟨hs.d_eq.trans h.d_eq, hs.acc_eq.trans h.acc_eq, (hs.tainted p).trans h.base.clear.sound⟩

theorem VxActed.dregPends (ho : opcode u ∈ dOpcodes) (hds : u.ds.toNat < 8) :
    VxPends e n (if isBus u.sa.toNat || isBus u.sb.toNat || isAcc u.sa.toNat then bs + 2 else bs + 1)
      (.dreg u.ds.toNat (dRegOf (d.vx n) (b.afterReads n bs u env p).1 u)) := by
  obtain ⟨hd, ha, ht⟩ := h.beforeOperation
  rw [← dRegOf_congr hd ha]
  exact h.pends (vxPends_of_operate (operate_dreg ho hds ht))

theorem VxActed.pkldPends (ho : opcode u = 0x41) :
    VxPends e n (bs + 2) (.dreg u.ds.toNat (toDReg (u.mfmt == 6)
      (if u.xreg = 14 then (b.afterReads n bs u env p).1.x else (b.afterReads n bs u env p).1.y).vals
      (if u.xreg = 14 then (b.afterReads n bs u env p).1.x else (b.afterReads n bs u env p).1.y).pois).1) := by
  obtain ⟨-, -, ht⟩ := h.beforeOperation
  exact h.pends (vxPends_of_operate (operate_pkld ho ht))

end

theorem VxQuiet.lanes32 {d : Device} {n x : Nat} {p : Prog} {env : VxEnv} (hq : VxQuiet d n x p env) : (d.vx n).Lanes32 := by
  obtain ⟨-, -, -, -, -, hlanes⟩ := hq
  exact hlanes

/-- Settles O45: what `operate` leaves pending for a D register stays so until the word has acted. -/
theorem vxResultsInDRegisters : Obligations.VxResultsInDRegisters := by
  unfold Obligations.VxResultsInDRegisters
  rintro s n env x p u ha hq hctl hu hl hds bs rfl c hc ho
  obtain ⟨hissued, b, h⟩ := hq.acts hctl hu hl ho
  have hreads := h.vxReads hq.ready.idle hq.pending
  have hfull := (h.base.clear.reads (bs := actsAt x u) (w := u)).full
  refine ⟨fun hmem => completes_vxVector hc ha ⟨hissued, h.keeps, _,
    (dResult (s.dev.vx n) (b.afterReads n (actsAt x u) u env p).1 u).2.2, hreads, _,
    h.dregPends (ho ▸ hmem) hds, fun m => dRegOf_plain, fun hnone => ?_⟩, fun h41 => ?_⟩
  · rw [← ho]
    exact dRegOf_lanes hq.lanes32 hfull (ho ▸ hmem) hnone
  · have hw := wide_of_pkld hl (ho.trans h41)
    have hpend := h.pkldPends (ho.trans h41)
    have hdue : actsAt x u + 2 = x + 2 := by rw [actsAt, if_neg (by simp [hw])]
    rw [Device.acted, if_neg (by simp [hw]), hdue] at hpend
    rw [if_neg (by simp [hw])] at hissued
    exact completes_vxVector hc ha ⟨hissued, _, hreads, hpend⟩

end Sys2Proof.Machine
end

section
/-!
PROOFS. Results in accumulators (R113, R126, R127, R137, R138, R140 - R145).
-/
namespace Sys2Proof.Machine

open Sys2Proof

/-! ### The operations with an accumulator destination (R140 - R145) -/

/-- An effect that differs from `e` in its marks at most waits for dclk `due`. -/
def AccPends (d : Device) (n due : Nat) (e : BitVec 32 → VxEffect) : Prop := ∃ pois, VxPends d n due (e pois)

/-- Engine `n` of device `d` holds what engine `v` holds, from which word `w` of sound program `p` takes its sources. -/
structure Operands (d : Device) (n : Nat) (v : Vx) (r : Reads) (w : VxWord) (p : Prog) : Prop where
  dregs : (d.vx n).d = v.d
  accs : (d.vx n).acc = v.acc
  sound : (d.vx n).tainted p = false
  lanes : v.Lanes32
  full : r.Full
  dest : isD w.ds.toNat = false

section
variable {d : Device} {n bs : Nat} {v : Vx} {w : VxWord} {p : Prog} {r : Reads}

/-- Lane `j` of a source. -/
def laneOf (v : Vx) (r : Reads) (c j : Nat) : Val := nth (sourceOf v r c).1 j .nan

/-- The lanes of a word's sources from outside the rows and columns of the DOP. -/
def outBoth (v : Vx) (w : VxWord) : BitVec 32 := outOf v w.sa.toNat ||| outOf v w.sb.toNat

theorem accPends_pend (ht : (d.vx n).tainted p = false) {due : Nat} {bus : Option (Nat × Nat)} {e : BitVec 32 → VxEffect}
    (pois : BitVec 32) {eff : VxEffect} (he : eff = e pois) : AccPends (d.pend n p due bus eff) n due e :=
  ⟨pois, he ▸ vxPends_pend ht⟩

theorem accPends_flags_pend (ht : (d.vx n).tainted p = false) (f : BitVec 4) {due : Nat} {bus : Option (Nat × Nat)}
    {e : BitVec 32 → VxEffect} (pois : BitVec 32) {eff : VxEffect} (he : eff = e pois) :
    AccPends ((d.vxFlags n f).pend n p due bus eff) n due e :=
  accPends_pend (by rw [(noted_vxFlags n d f).vx]; exact ht) pois he

theorem accPends_pend_flags (ht : (d.vx n).tainted p = false) (f : BitVec 4) {due : Nat} {bus : Option (Nat × Nat)}
    {e : BitVec 32 → VxEffect} (pois : BitVec 32) {eff : VxEffect} (he : eff = e pois) :
    AccPends ((d.pend n p due bus eff).vxFlags n f) n due e :=
  ⟨pois, ((noted_vxFlags n _ f).step (mayLoad 0)).vxPends (he ▸ vxPends_pend ht)⟩

section
variable (h : Operands d n v r w p)
include h

theorem Operands.length (c : Nat) : (sourceOf v r c).1.length = 32 := length_sourceOf h.lanes h.full c

theorem Operands.source (c : Nat) : sourceOf (d.vx n) r c = sourceOf v r c := sourceOf_congr h.dregs h.accs r c

theorem Operands.out (c : Nat) : outOf (d.vx n) c = outOf v c := outOf_congr h.dregs h.accs c

theorem operate_mov_acc (ho : opcode w = 0x10) (hsa : isAcc w.sa.toNat = true) :
    AccPends (d.operate n bs w p r) n (bs + 3) (fun pois => .acc (w.ds.toNat - 8)
      { lanes := (v.areg (w.sa.toNat - 8)).lanes, pois := pois, out := outBoth v w }) := by
  simp only [Device.operate, ho, h.dest, hsa, h.out, areg_congr h.accs]
  exact accPends_pend h.sound _ rfl

theorem operate_mov_value (ho : opcode w = 0x10) (hsa : isAcc w.sa.toNat = false) :
    AccPends (d.operate n bs w p r) n (bs + 3) (fun pois => .acc (w.ds.toNat - 8)
      { lanes := (List.range 32).map (fun j => accWord (enterAcc (laneOf v r w.sa.toNat j))), pois := pois,
        out := outBoth v w }) := by
  simp only [Device.operate, ho, h.dest, hsa, h.out, h.source, map_eq_lanes (h.length w.sa.toNat) _ .nan]
  exact accPends_pend h.sound _ rfl

theorem Operands.products : (lanewise Val.mul (sourceOf v r w.sa.toNat).1 (sourceOf v r w.sb.toNat).1).1 =
    (List.range 32).map (fun j => ((laneOf v r w.sa.toNat j).mul (laneOf v r w.sb.toNat j)).1) :=
  lanewise_eq_lanes (h.length _) (h.length _) Val.mul

theorem operate_mpy (ho : opcode w = 0x20) :
    AccPends (d.operate n bs w p r) n (bs + 3) (fun pois => .acc (w.ds.toNat - 8)
      { lanes := (List.range 32).map (fun j =>
          accWord (accAdd (.fin 0 (-167)) ((laneOf v r w.sa.toNat j).mul (laneOf v r w.sb.toNat j)).1).1),
        pois := pois, out := outBoth v w }) := by
  have hsum : ∀ f : Nat → Val, (lanewise (fun q _ => accAdd (.fin 0 (-167)) q) ((List.range 32).map f)
      ((List.range 32).map f)).1.map accWord = (List.range 32).map (fun j => accWord (accAdd (.fin 0 (-167)) (f j)).1) := by
    intro f
    simp [lanewise, List.zip_map']
  simp only [Device.operate, ho, h.dest, h.out, h.source, h.products, hsum]
  exact accPends_flags_pend h.sound _ _ rfl

theorem operate_mac (ho : opcode w = 0x21 ∨ opcode w = 0x28) :
    AccPends (d.operate n bs w p r) n (bs + 3) (fun pois => .accOp (w.ds.toNat - 8) .add
      ((List.range 32).map (fun j => ((laneOf v r w.sa.toNat j).mul (laneOf v r w.sb.toNat j)).1)) pois (outBoth v w)) := by
  rcases ho with ho | ho <;> simp only [Device.operate, ho, h.dest, h.out, h.source, h.products] <;>
    exact accPends_pend_flags h.sound _ _ rfl

theorem operate_msu (ho : opcode w = 0x22) :
    AccPends (d.operate n bs w p r) n (bs + 3) (fun pois => .accOp (w.ds.toNat - 8) .add
      ((List.range 32).map (fun j => ((laneOf v r w.sa.toNat j).mul (laneOf v r w.sb.toNat j)).1.neg)) pois (outBoth v w)) := by
  simp only [Device.operate, ho, h.dest, h.out, h.source, h.products, List.map_map]
  exact accPends_pend_flags h.sound _ _ rfl

theorem operate_adda (ho : opcode w = 0x23) :
    AccPends (d.operate n bs w p r) n (bs + 3) (fun pois => .accOp (w.ds.toNat - 8) .add
      ((List.range 32).map (fun j => enterAcc (laneOf v r w.sa.toNat j))) pois (outBoth v w)) := by
  simp only [Device.operate, ho, h.dest, h.out, h.source, map_eq_lanes (h.length w.sa.toNat) _ .nan]
  exact accPends_pend h.sound _ rfl

theorem operate_suba (ho : opcode w = 0x24) :
    AccPends (d.operate n bs w p r) n (bs + 3) (fun pois => .accOp (w.ds.toNat - 8) .add
      ((List.range 32).map (fun j => (enterAcc (laneOf v r w.sa.toNat j)).neg)) pois (outBoth v w)) := by
  simp only [Device.operate, ho, h.dest, h.out, h.source, map_eq_lanes (h.length w.sa.toNat) _ .nan]
  exact accPends_pend h.sound _ rfl

theorem operate_maxa (ho : opcode w = 0x25) :
    AccPends (d.operate n bs w p r) n (bs + 3) (fun pois => .accOp (w.ds.toNat - 8) .max
      ((List.range 32).map (laneOf v r w.sa.toNat)) pois (outBoth v w)) := by
  have hl : (sourceOf v r w.sa.toNat).1 = (List.range 32).map (laneOf v r w.sa.toNat) := eq_lanes (h.length w.sa.toNat) .nan
  rw [← hl]
  simp only [Device.operate, ho, h.dest, h.out, h.source]
  exact accPends_pend h.sound _ rfl

theorem operate_clr (ho : opcode w = 0x26) :
    AccPends (d.operate n bs w p r) n (bs + 3) (fun _ => .acc (w.ds.toNat - 8) { lanes := List.replicate 32 0, pois := 0 }) := by
  simp only [Device.operate, ho, h.dest]
  exact accPends_pend h.sound 0 rfl

theorem operate_scl (ho : opcode w = 0x27) :
    AccPends (d.operate n bs w p r) n (bs + 3) (fun pois => .accOp (w.ds.toNat - 8) .scale
      ((List.range 32).map (fun j => .fin (sext (nth (v.dreg w.sa.toNat).lanes j 0).toNat 24) 0)) pois (outBoth v w)) := by
  simp only [Device.operate, ho, h.dest, h.out, h.source, dreg_congr h.dregs, map_eq_lanes (h.lanes w.sa.toNat).1 _ 0]
  exact accPends_pend h.sound _ rfl

omit h in
theorem sourceOf_acc {c : Nat} (hc : isAcc c = true) : sourceOf v r c = ((v.areg (c - 8)).vals, (v.areg (c - 8)).pois) := by
  have h89 : c = 8 ∨ c = 9 := by simpa [isAcc] using hc
  rw [sourceOf, if_neg (by omega), if_pos h89]

theorem operate_lsum (ho : opcode w = 0x38) (hsa : isAcc w.sa.toNat = true) :
    AccPends (d.operate n bs w p r) n (bs + 6) (fun pois => .acc (w.ds.toNat - 8)
      { lanes := List.replicate 32 (accWord (nth (treeReduce accAdd 5 (v.areg (w.sa.toNat - 8)).vals).1 0 .nan)),
        pois := pois }) := by
  simp only [Device.operate, ho, h.dest, h.source, sourceOf_acc hsa]
  exact accPends_flags_pend h.sound _ _ rfl

theorem operate_lmax (ho : opcode w = 0x39) (hsa : isAcc w.sa.toNat = true) :
    AccPends (d.operate n bs w p r) n (bs + 6) (fun pois => .acc (w.ds.toNat - 8)
      { lanes := List.replicate 32 (accWord (nth (treeReduce accMax 5 (v.areg (w.sa.toNat - 8)).vals).1 0 .nan)),
        pois := pois }) := by
  simp only [Device.operate, ho, h.dest, h.source, sourceOf_acc hsa]
  exact accPends_flags_pend h.sound _ _ rfl

end

/-- A DRN that comes in time, from drain registers that are not poisoned. -/
theorem operate_drn (ht : (d.vx n).tainted p = false) (ho : opcode w = 0x05)
    (hearly : (d.spire n).drain.early (w.sh.toNat % 32) bs = false) (hpois : (d.spire n).drain.pois = false) :
    VxPends (d.operate n bs w p r) n (bs + 2) (.acc (w.ds.toNat - 8)
      { lanes := nth (d.spire n).drain.rows (w.sh.toNat % 32) [], pois := 0,
        out := nth (d.spire n).drain.out (w.sh.toNat % 32) 0 }) ∧
    bit ((d.operate n bs w p r).spire n).drain.unread (w.sh.toNat % 32) = false := by
  have heq : d.operate n bs w p r = (d.mapSpire n (fun s => { s with drain := { s.drain with
      unread := s.drain.unread &&& ~~~(BitVec.ofNat 32 (2 ^ (w.sh.toNat % 32))) } })).pend n p (bs + 2) none
      (.acc (w.ds.toNat - 8) { lanes := nth (d.spire n).drain.rows (w.sh.toNat % 32) [], pois := 0,
                               out := nth (d.spire n).drain.out (w.sh.toNat % 32) 0 }) := by
    simp [Device.operate, ho, hearly, hpois]
  rw [heq]
  refine ⟨vxPends_pend ?_, ?_⟩
  · rw [Device.vx, Device.mapSpire, spire_setSpire]
    exact ht
  · rw [Device.pend, drain_mapVx, Device.mapSpire, spire_setSpire]
    have hlt : w.sh.toNat % 32 < 32 := Nat.mod_lt _ (by decide)
    rw [bit, BitVec.getLsbD_and, BitVec.getLsbD_not, BitVec.getLsbD_ofNat, Nat.testBit_two_pow_self]
    simp [hlt]

end

/-! ### The word has acted -/

theorem specsOk_of_legal {w : VxWord} (h : vectorLegal w = true) : specsOk w = true := by
  simp only [vectorLegal, Bool.and_eq_true, and_assoc] at h
  exact h.1

theorem source_of_lsum {w : VxWord} (h : vectorLegal w = true) (ho : opcode w = 0x38 ∨ opcode w = 0x39) :
    isAcc w.sa.toNat = true := by
  have hs := specsOk_of_legal h
  rcases ho with ho | ho <;> simp [specsOk, ho] at hs <;> exact hs.1.1

section
variable {d b e : Device} {n bs : Nat} {u : VxWord} {env : VxEnv} {p : Prog} (h : VxActed d b e n bs u env p)
include h

theorem VxActed.operands (hv : (d.vx n).Lanes32) (hds : 8 ≤ u.ds.toNat) :
    Operands (b.afterAccesses n bs u env p).2 n (d.vx n) (b.afterReads n bs u env p).1 u p := by
  obtain ⟨hd, ha, ht⟩ := h.beforeOperation
  exact ⟨hd, ha, ht, hv, (h.base.clear.reads (bs := bs) (w := u)).full, decide_eq_false (by omega)⟩

theorem VxActed.accPends {due : Nat} {f : BitVec 32 → VxEffect}
    (hp : AccPends ((b.afterAccesses n bs u env p).2.operate n bs u p (b.afterReads n bs u env p).1) n due f) :
    AccPends e n due f := by
  obtain ⟨pois, hp⟩ := hp
  exact ⟨pois, h.pends (vxPends_of_operate hp)⟩

/-- A DRN reads the drain registers as they were. -/
theorem VxActed.drn (ho : opcode u = 0x05) (hearly : (d.spire n).drain.early (u.sh.toNat % 32) bs = false)
    (hpois : (d.spire n).drain.pois = false) :
    VxPends e n (bs + 2) (.acc (u.ds.toNat - 8)
      { lanes := nth (d.spire n).drain.rows (u.sh.toNat % 32) [], pois := 0,
        out := nth (d.spire n).drain.out (u.sh.toNat % 32) 0 }) ∧
    bit (e.spire n).drain.unread (u.sh.toNat % 32) = false := by
  have hdrain : ((b.afterAccesses n bs u env p).2.spire n).drain = (d.spire n).drain :=
    (h.base.clear.stepAccesses.drain id).trans h.base.drain
  obtain ⟨-, -, ht⟩ := h.beforeOperation
  obtain ⟨hp, hbit⟩ := operate_drn (bs := bs) (r := (b.afterReads n bs u env p).1) ht ho (by rw [hdrain]; exact hearly)
    (by rw [hdrain]; exact hpois)
  rw [hdrain] at hp
  refine ⟨h.pends (vxPends_of_operate hp), ?_⟩
  rw [h.after.drain, issueVector_eq, (step_pointers (M := mayLoad 0) _).drain id]
  exact hbit

end

/-- A DRN that raises no fault comes in time (R126). -/
theorem VxQuiet.not_early {d : Device} {n x : Nat} {p : Prog} {env : VxEnv} {u : VxWord} (hq : VxQuiet d n x p env)
    (hu : u = decodeVx (d.vxWord n p.pc)) (ho : opcode u = 0x05) :
    (d.spire n).drain.early (u.sh.toNat % 32) (actsAt x u) = false := by
  obtain ⟨-, -, -, -, hf, -⟩ := hq
  rw [← hu] at hf
  obtain ⟨-, hf⟩ := List.append_eq_nil_iff.1 hf
  cases he : (d.spire n).drain.early (u.sh.toNat % 32) (actsAt x u) with
  | false => rfl
  | true => simp [ho, he] at hf

/-- Settles O46: what `operate` leaves pending for an accumulator stays so until the word has acted. -/
theorem vxResultsInAccumulators : Obligations.VxResultsInAccumulators := by
  unfold Obligations.VxResultsInAccumulators
  rintro s n env x p u ha hq hctl hu hl hds bs k rfl hk c hc ho
  obtain ⟨hissued, b, h⟩ := hq.acts hctl hu hl ho
  have hreads := h.vxReads hq.ready.idle hq.pending
  have hops := h.operands hq.lanes32 hds
  obtain rfl : k = u.ds.toNat - 8 := by omega
  have leaves : ∀ {due : Nat} {f : BitVec 32 → VxEffect},
      AccPends ((b.afterAccesses n (actsAt x u) u env p).2.operate n (actsAt x u) u p
        (b.afterReads n (actsAt x u) u env p).1) n due f →
      Completes (c.2 n env) s (fun d => VxIssued s.dev d n x p env (if wide u then 2 else 1) ∧
        VxKeeps s.dev (d.acted n x u) n ∧ ∃ pois, VxPends (d.acted n x u) n due (f pois)) := fun hp =>
    completes_vxVector hc ha ⟨hissued, h.keeps, h.accPends hp⟩
  refine ⟨_, hreads, fun h10 hsa => leaves ?_, fun h10 hsa => leaves ?_, fun h20 => leaves ?_, fun h21 => leaves ?_,
    fun h22 => leaves ?_, fun h23 => leaves ?_, fun h24 => leaves ?_, fun h25 => leaves ?_, fun h26 => leaves ?_,
    fun h27 => leaves ?_, fun h38 => leaves ?_, fun h39 => leaves ?_, fun h05 hpois => ?_⟩
  · exact operate_mov_acc hops (ho.trans h10) hsa
  · exact operate_mov_value hops (ho.trans h10) hsa
  · exact operate_mpy hops (ho.trans h20)
  · exact operate_mac hops (h21.imp ho.trans ho.trans)
  · exact operate_msu hops (ho.trans h22)
  · exact operate_adda hops (ho.trans h23)
  · exact operate_suba hops (ho.trans h24)
  · exact operate_maxa hops (ho.trans h25)
  · exact operate_clr hops (ho.trans h26)
  · exact operate_scl hops (ho.trans h27)
  · exact operate_lsum hops (ho.trans h38) (source_of_lsum hl (.inl (ho.trans h38)))
  · exact operate_lmax hops (ho.trans h39) (source_of_lsum hl (.inr (ho.trans h39)))
  · exact completes_vxVector hc ha ⟨hissued, h.keeps, h.drn (ho.trans h05) (hq.not_early hu (ho.trans h05)) hpois⟩

end Sys2Proof.Machine
end

section
/-!
PROOFS. Loads, stores and pointers of every vector-format word (R113, R116 - R119, R134 - R137, R147 - R149).
-/
namespace Sys2Proof.Machine

open Sys2Proof

/-! ### Accesses of a legal word (R134, R135, R147 - R149, R155) -/

section
variable {w : VxWord} {a : VxAccess}

theorem mem_accesses (ha : a ∈ accesses w) :
    (hasX w = true ∧ a = { bus := 0, store := w.xdir == 1, ap := w.xap.toNat, mode := w.xmode.toNat, reg := w.xreg.toNat }) ∨
    (hasY w = true ∧ a = { bus := 1, store := w.ydir == 1, ap := w.yap.toNat, mode := w.ymode.toNat, reg := w.yreg.toNat }) := by
  simp only [accesses, List.mem_append] at ha
  refine ha.imp (fun h => ?_) fun h => ?_ <;> split at h
  · exact ⟨‹_›, List.mem_singleton.1 h⟩
  · cases h
  · exact ⟨‹_›, List.mem_singleton.1 h⟩
  · cases h

theorem ap_lt (ha : a ∈ accesses w) : a.ap < 8 := by
  rcases mem_accesses ha with ⟨-, rfl⟩ | ⟨-, rfl⟩
  · exact w.xap.isLt
  · exact w.yap.isLt

theorem storesOf_eq_singleton (ha : a ∈ storesOf w) (honly : ∀ b ∈ accesses w, b.store = true → b = a) : storesOf w = [a] := by
  have hnodup : (storesOf w).Nodup := ((buses_accesses w).filter _).ne.imp fun hne e => hne (congrArg VxAccess.bus e)
  refine List.perm_singleton.1 ((List.perm_ext_iff_of_nodup hnodup (List.nodup_singleton a)).2 fun b => ?_)
  rw [List.mem_singleton]
  exact ⟨fun hb => honly b (mem_storesOf.1 hb).1 (mem_storesOf.1 hb).2, fun hb => hb ▸ ha⟩

theorem format_of_store_pack {reg code : Nat} (h : formatOk w reg false code = true) (hreg : reg = 14) : w.mfmt ≠ 14 := by
  rintro hm
  subst hreg
  simp [formatOk, hm, isAcc] at h

/-- The store of a register code 0xE is not in ACC56 form. -/
theorem wide_of_store_pack (h : vectorLegal w = true) (ha : a ∈ storesOf w) (hreg : a.reg = 14) : wide w = false := by
  refine wide_of_format ?_
  simp only [vectorLegal, Bool.and_eq_true, and_assoc] at h
  obtain ⟨-, -, -, -, -, -, -, -, -, hx, hy, -⟩ := h
  obtain ⟨ha, hs⟩ := mem_storesOf.1 ha
  rcases mem_accesses ha with ⟨-, rfl⟩ | ⟨-, rfl⟩
  · have hdir : w.xdir = 1 := by simpa using hs
    exact format_of_store_pack (by simpa [hdir] using hx) hreg
  · have hdir : w.ydir = 1 := by simpa using hs
    exact format_of_store_pack (by simpa [hdir] using hy) hreg

/-- A word with a single access that stores with code 0xE has no other. -/
theorem soleAccess_store (h : soleAccess w true = true) (ha : a ∈ accesses w) :
    a.store = true ∧ a.reg = 14 ∧ ∀ b ∈ accesses w, b = a := by
  simp only [soleAccess, if_true, Bool.or_eq_true, Bool.and_eq_true, Bool.not_eq_true', storeX, storeY, beq_iff_eq] at h
  rcases h with ⟨⟨hreg, hdir⟩, hno⟩ | ⟨⟨hreg, hdir⟩, hno⟩
  · have hx : hasX w = true := by simp [hasX, hreg]
    have hl : accesses w = [{ bus := 0, store := true, ap := w.xap.toNat, mode := w.xmode.toNat, reg := 14 }] := by
      simp [accesses, hx, hno, hreg, hdir]
    rw [hl, List.mem_singleton] at ha
    subst ha
    exact ⟨rfl, rfl, by simp [hl]⟩
  · have hy : hasY w = true := by simp [hasY, hreg]
    have hl : accesses w = [{ bus := 1, store := true, ap := w.yap.toNat, mode := w.ymode.toNat, reg := 14 }] := by
      simp [accesses, hy, hno, hreg, hdir]
    rw [hl, List.mem_singleton] at ha
    subst ha
    exact ⟨rfl, rfl, by simp [hl]⟩

/-- A store of TAPM has code 0xE. -/
theorem reg_of_tapm (h : vectorLegal w = true) (ho : opcode w = 0x28) (ha : a ∈ storesOf w) : a.reg = 14 := by
  have hf := formOk_of_legal h
  simp only [formOk, ho] at hf
  simp [loadX, loadY, storeX, storeY] at hf
  obtain ⟨-, ⟨⟨⟨hpair, -⟩, -⟩, -⟩, -⟩ := hf
  obtain ⟨ha, hs⟩ := mem_storesOf.1 ha
  split at hpair <;> obtain ⟨⟨-, hdir⟩, hreg, -⟩ := hpair <;> rcases mem_accesses ha with ⟨-, rfl⟩ | ⟨-, rfl⟩
  · simp [hdir] at hs
  · simp [hreg]
  · simp [hreg]
  · simp [hdir] at hs

theorem sole_of_pkst (h : vectorLegal w = true) (ho : opcode w = 0x40) : soleAccess w true = true := by
  have hf := formOk_of_legal h
  simp only [formOk, ho] at hf
  simp at hf
  exact hf.2.1

theorem sole_of_pkfl (h : vectorLegal w = true) (ho : opcode w = 0x42) : soleAccess w true = true := by
  have hf := formOk_of_legal h
  simp only [formOk, ho] at hf
  simp at hf
  exact hf.2

end

/-! ### What a store writes (R134, R135, R147 - R149) -/

section
variable {d : Device} {n : Nat} {w : VxWord} {p : Prog} {a : VxAccess} {r : Reads}

theorem storeData_dreg (ha : a.reg < 8) : d.storeData n w p a r =
    (some (storeD w.mfmt.toNat (w.mbk == 1) ((d.vx n).dreg a.reg)).1,
      d.vxFlags n (storeD w.mfmt.toNat (w.mbk == 1) ((d.vx n).dreg a.reg)).2) := by
  simp only [Device.storeData, if_pos ha]

theorem storeData_acc (ha : a.reg = 8 ∨ a.reg = 9) : d.storeData n w p a r =
    (some (storeA w.mfmt.toNat (w.mbk == 1) ((d.vx n).areg (a.reg - 8))).1,
      d.vxFlags n (storeA w.mfmt.toNat (w.mbk == 1) ((d.vx n).areg (a.reg - 8))).2) := by
  simp only [Device.storeData, if_neg (show ¬ a.reg < 8 by omega), if_pos (show a.reg < 10 by omega)]

/-- PKFL fills up a pack buffer that holds something, and empties it. -/
theorem storeData_pkfl (ha : a.reg = 14) (ho : opcode w = 0x42) (hne : (d.vx n).pack a.bus ≠ []) : d.storeData n w p a r =
    (some ((d.vx n).pack a.bus ++ List.replicate (64 - ((d.vx n).pack a.bus).length) (some ((0 : Byte), false))),
      d.mapVx n (fun v => v.setPack a.bus [])) := by
  simp [Device.storeData, ha, ho, hne]

/-- PKST appends its block to a pack buffer that does not fill up. -/
theorem storeData_pkst (ha : a.reg = 14) (ho : opcode w = 0x40) (hf : w.mfmt.toNat = 4 ∨ w.mfmt.toNat = 5)
    (ht : (d.vx n).tainted p = false) {block : List SByte × BitVec 4}
    (hb : block = blockBytes w.mfmt.toNat (((d.vx n).dreg w.sa.toNat).vals.map (fun q => q.scale (sext w.sh.toNat 7)))
      ((d.vx n).dreg w.sa.toNat).pois ((d.vx n).dreg w.sa.toNat).out)
    (hlen : ((d.vx n).pack a.bus).length + block.1.length < 64) : d.storeData n w p a r =
    (none, (d.vxFlags n block.2).mapVx n (fun v => v.setPack a.bus ((d.vx n).pack a.bus ++ block.1))) := by
  have hmark : block.1.map (fun b => b.map (fun b => (b.1, b.2 || (d.vx n).tainted p))) = block.1 := by
    simp [ht]
  simp only [Device.storeData, ha, ho, hf, ← hb, hmark, List.length_append]
  simp [Nat.not_le.2 hlen]

theorem length_blockBytes {f : Nat} (vs : List Val) (pois out : BitVec 32) :
    (blockBytes f vs pois out).1.length = if f = 4 then 17 else 33 := by
  simp only [blockBytes, List.length_cons]
  split <;> simp

theorem length_storeA {v : AReg} (h : v.lanes.length = 32) (mbk : Bool) : (storeA 14 mbk v).1.length = 256 := by
  simp [storeA, laneBytes, List.length_flatMap, h]

end

/-! ### One store access (R113, R116, R137) -/

section
variable {d d' : Device} {n bs : Nat} {w : VxWord} {env : VxEnv} {p : Prog} {a : VxAccess} {addr : BitVec 12} {r : Reads}
  {bytes : List SByte} (hi : DomeIdle d) (hport : env.port = []) (hfree : BusFree d n a.bus)
  (ht : (d.vx n).tainted p = false) (hno : opcode w ≠ 0x28) (hdata : d.storeData n w p a r = (some bytes, d'))
include hi hport hfree ht hno hdata

omit hport hno in
/-- The device after a store's data, in which it is written. -/
theorem after_storeData : DomeIdle d' ∧ BusFree d' n a.bus ∧ (d'.vx n).tainted p = false := by
  have hs := step_storeData (d := d) (n := n) (w := w) (p := p) (a := a) (M := { mayStore w 0 with packs := True }) trivial r
  have hf := busFree_storeData (w := w) (p := p) hfree r
  rw [hdata] at hs hf
  exact ⟨hs.idle hi, hf, (hs.tainted p).trans ht⟩

theorem storeAccess_narrow (hw : wide w = false) : d.storeAccess n bs w env p r a addr =
    d'.pend n p (bs + 1) none (.store (cutPieces (storeAt a addr bytes) bytes)) := by
  obtain ⟨hi', hf', -⟩ := after_storeData hi hfree ht hdata
  rw [storeAccess_some hdata, Device.putStore, if_neg hno, doStore_narrow hi' hport hf' hw]

theorem vxPends_storeAccess (hw : wide w = false) : VxPends (d.storeAccess n bs w env p r a addr) n (bs + 1)
    (.store (cutPieces (storeAt a addr bytes) bytes)) := by
  obtain ⟨-, -, ht'⟩ := after_storeData hi hfree ht hdata
  rw [storeAccess_narrow hi hport hfree ht hno hdata hw]
  exact vxPends_pend ht'

/-- Of a store in two dclk the first half is written, and the second pends. -/
theorem storeAccess_wide (hw : wide w = true) (htile : d'.tile = d.tile) :
    (d.storeAccess n bs w env p r a addr).tile = (d.storeAll n (cutPieces (storeAt a addr bytes) (bytes.take 128))).tile ∧
    VxPends (d.storeAccess n bs w env p r a addr) n (bs + 1)
      (.store (cutPieces (storeAt a addr bytes + 128) (bytes.drop 128))) := by
  obtain ⟨hi', hf', ht'⟩ := after_storeData hi hfree ht hdata
  have hhalf : (bytes.drop 128).take (bytes.length - 128) = bytes.drop 128 :=
    List.take_of_length_le (by rw [List.length_drop])
  have hstored := effectOf_store ht' (cutPieces (storeAt a addr bytes) (bytes.take 128))
  have hs : VxStep n { mayStore w 0 with tile := True } d' (d'.storeAll n (cutPieces (storeAt a addr bytes) (bytes.take 128))) :=
    step_storeAll trivial d' _
  rw [storeAccess_some hdata, Device.putStore, if_neg hno, doStore_wide hi' hport hf' hw, hhalf, hstored]
  exact ⟨tile_storeAll htile _, vxPends_pend (by rw [hs.tainted]; exact ht')⟩

end

/-! ### The word has acted -/

section
variable {d b e : Device} {n bs : Nat} {u : VxWord} {env : VxEnv} {p : Prog} (h : VxActed d b e n bs u env p) {a : VxAccess}
include h

/-- A stored D register (R113, R135). -/
theorem VxActed.dregStored (hl : vectorLegal u = true) (ha : a ∈ storesOf u) (hreg : a.reg < 8) (hw : wide u = false) :
    VxPends e n (bs + 1) (.store (cutPieces
      (storeAt a ((d.vx n).addr a.ap) (storeD u.mfmt.toNat (u.mbk == 1) ((d.vx n).dreg a.reg)).1)
      (storeD u.mfmt.toNat (u.mbk == 1) ((d.vx n).dreg a.reg)).1)) := by
  have hno : opcode u ≠ 0x28 := fun ho => by have := reg_of_tapm hl ho ha; omega
  rw [← h.addr_eq]
  refine h.pends (h.base.clear.storePends ha fun e' hs hi hf => ?_)
  have hdreg : (e'.vx n).dreg a.reg = (d.vx n).dreg a.reg := (hs.dreg _).trans (dreg_congr h.d_eq _)
  rw [← hdreg]
  exact vxPends_storeAccess hi h.base.clear.port hf ((hs.tainted p).trans h.base.clear.sound) hno (storeData_dreg hreg) hw

/-- The device after the reads, in which the only store of a word takes place. -/
theorem VxActed.beforeStore (ha : a ∈ storesOf u) : DomeIdle (b.afterReads n bs u env p).2 ∧
    BusFree (b.afterReads n bs u env p).2 n a.bus ∧ ((b.afterReads n bs u env p).2.vx n).tainted p = false ∧
    ((b.afterReads n bs u env p).2.vx n).d = (d.vx n).d ∧ ((b.afterReads n bs u env p).2.vx n).acc = (d.vx n).acc ∧
    (∀ c, ((b.afterReads n bs u env p).2.vx n).pack c = (d.vx n).pack c) ∧ (b.afterReads n bs u env p).2.tile = d.tile := by
  have hs := (h.base.clear.reads (bs := bs) (w := u)).step
  obtain ⟨-, htile, -, -⟩ := h.base.only.sameMemory
  refine ⟨hs.idle h.base.clear.idle, h.base.clear.busFree_store ha, (hs.tainted p).trans h.base.clear.sound,
    hs.d_eq.trans h.d_eq, hs.acc_eq.trans h.acc_eq, fun c => (hs.pack id c).trans ?_, (hs.tile id).trans htile⟩
  rw [h.base.vx]
  rfl

omit h in
theorem afterAccesses_sole (hs : storesOf u = [a]) : (b.afterAccesses n bs u env p).2 =
    (b.afterReads n bs u env p).2.storeAccess n bs u env p (b.afterReads n bs u env p).1 a ((b.vx n).addr a.ap) := by
  rw [snd_afterAccesses, hs]
  rfl

theorem VxActed.pack_eq (c : Nat) : (e.vx n).pack c = ((b.afterAccesses n bs u env p).2.vx n).pack c := by
  rw [← stepOperate.pack id c, h.after.vx]
  rfl

/-- A stored accumulator of an ACC56 word (R135, R137). -/
theorem VxActed.accStored (hl : vectorLegal u = true) (hv : (d.vx n).Lanes32) (hw : wide u = true) (hs : storesOf u = [a])
    (hreg : a.reg = 8 ∨ a.reg = 9) {bytes : List SByte}
    (hb : bytes = (storeA 14 (u.mbk == 1) ((d.vx n).areg (a.reg - 8))).1) :
    e.tile = (d.storeAll n (cutPieces (busByte a.bus 8 ((d.vx n).addr a.ap)) (bytes.take 128))).tile ∧
    VxPends e n (bs + 1) (.store (cutPieces (busByte a.bus 8 ((d.vx n).addr a.ap) + 128) (bytes.drop 128))) := by
  have ha : a ∈ storesOf u := by simp [hs]
  have hno : opcode u ≠ 0x28 := fun ho => by have := reg_of_tapm hl ho ha; omega
  obtain ⟨hi, hf, ht, -, hacc, -, htile⟩ := h.beforeStore ha
  have hmfmt : u.mfmt.toNat = 14 := by
    simp only [wide, Bool.and_eq_true, beq_iff_eq] at hw
    rw [hw.1]
    rfl
  have hlen : bytes.length = 256 := by rw [hb]; exact length_storeA (hv _).2 _
  have hdata := storeData_acc (d := (b.afterReads n bs u env p).2) (n := n) (w := u) (p := p)
    (r := (b.afterReads n bs u env p).1) hreg
  rw [hmfmt, areg_congr hacc, ← hb] at hdata
  have hat : storeAt a ((d.vx n).addr a.ap) bytes = busByte a.bus 8 ((d.vx n).addr a.ap) := by simp [storeAt, hlen]
  have hstore := storeAccess_wide (bs := bs) (addr := (d.vx n).addr a.ap) hi h.base.clear.port hf ht hno hdata hw
    (noted_vxFlags n _ _).tile
  rw [hat, ← h.addr_eq, ← afterAccesses_sole hs, h.addr_eq] at hstore
  obtain ⟨htile', hpend⟩ := hstore
  refine ⟨?_, h.pends (vxPends_of_accesses hpend)⟩
  rw [h.tile_eq, stepOperate.tile id, htile']
  exact tile_storeAll htile _

/-- PKFL writes what its pack buffer holds, filled up with zeros, and empties it (R149). -/
theorem VxActed.flushed (hl : vectorLegal u = true) (ho : opcode u = 0x42) (ha : a ∈ storesOf u)
    (hne : (d.vx n).pack a.bus ≠ []) (hlen : ((d.vx n).pack a.bus).length ≤ 64) : (e.vx n).pack a.bus = [] ∧
    VxPends e n (bs + 1) (.store (cutPieces (busByte a.bus 2 ((d.vx n).addr a.ap)) ((d.vx n).pack a.bus ++
      List.replicate (64 - ((d.vx n).pack a.bus).length) (some ((0 : Byte), false))))) := by
  obtain ⟨-, hreg, hsole⟩ := soleAccess_store (sole_of_pkfl hl ho) (mem_storesOf.1 ha).1
  have hs := storesOf_eq_singleton ha fun c hc _ => hsole c hc
  have hw := wide_of_store_pack hl ha hreg
  have hno : opcode u ≠ 0x28 := by rw [ho]; decide
  obtain ⟨hi, hf, ht, -, -, hpack, -⟩ := h.beforeStore ha
  have hdata := storeData_pkfl (d := (b.afterReads n bs u env p).2) (n := n) (w := u) (p := p)
    (r := (b.afterReads n bs u env p).1) hreg ho (by rw [hpack]; exact hne)
  rw [hpack] at hdata
  have hat : ∀ z : List SByte, z.length = 64 → storeAt a ((d.vx n).addr a.ap) z = busByte a.bus 2 ((d.vx n).addr a.ap) :=
    fun z hz => by simp [storeAt, hz]
  have hpend := vxPends_storeAccess (bs := bs) (addr := (d.vx n).addr a.ap) hi h.base.clear.port hf ht hno hdata hw
  have heq := storeAccess_narrow (bs := bs) (addr := (d.vx n).addr a.ap) hi h.base.clear.port hf ht hno hdata hw
  rw [hat _ (by simp; omega)] at hpend
  rw [← h.addr_eq, ← afterAccesses_sole hs] at hpend heq
  rw [h.addr_eq] at hpend
  refine ⟨?_, h.pends (vxPends_of_accesses hpend)⟩
  rw [h.pack_eq, heq, vx_pend, vx_mapVx]
  exact pack_setPack _ _ _

/-- PKST appends its block to a pack buffer that does not fill up (R148). -/
theorem VxActed.appended (hl : vectorLegal u = true) (ho : opcode u = 0x40) (hf : u.mfmt.toNat = 4 ∨ u.mfmt.toNat = 5)
    (ha : a ∈ accesses u) (hlen : ((d.vx n).pack a.bus).length + (if u.mfmt.toNat = 4 then 17 else 33) < 64) :
    (e.vx n).pack a.bus = (d.vx n).pack a.bus ++ (blockBytes u.mfmt.toNat
      (((d.vx n).dreg u.sa.toNat).vals.map (fun q => q.scale (sext u.sh.toNat 7)))
      ((d.vx n).dreg u.sa.toNat).pois ((d.vx n).dreg u.sa.toNat).out).1 := by
  obtain ⟨hstore, hreg, hsole⟩ := soleAccess_store (sole_of_pkst hl ho) ha
  have has := mem_storesOf.2 ⟨ha, hstore⟩
  obtain ⟨-, -, ht, hd, -, hpack, -⟩ := h.beforeStore has
  have hdata := storeData_pkst (d := (b.afterReads n bs u env p).2) (n := n) (w := u) (p := p)
    (r := (b.afterReads n bs u env p).1) hreg ho hf ht rfl (by rw [hpack, length_blockBytes]; exact hlen)
  rw [h.pack_eq, afterAccesses_sole (storesOf_eq_singleton has fun c hc _ => hsole c hc), storeAccess_none hdata, vx_mapVx,
    pack_setPack, hpack, dreg_congr hd]

/-- The pointer of a load in mode 1 that alone names it moves on (R119, R120). -/
theorem VxActed.pointerPends (ha : a ∈ loadsOf u) (hmode : a.mode = 1) (hother : ∀ c ∈ accesses u, c ≠ a → c.ap ≠ a.ap)
    (hcap : u.ck = 0 ∨ u.cap.toNat ≠ a.ap) (hlt : a.ap < (d.vx n).ap.length)
    (hne : (d.vx n).modified a.ap (granules u.mfmt.toNat) (d.vx n).ap ≠ nth (d.vx n).ap a.ap 0) :
    VxPends e n (bs + 1) (.pointer 0 a.ap ((d.vx n).modified a.ap (granules u.mfmt.toNat) (d.vx n).ap)) := by
  have hap : (b.vx n).ap = (d.vx n).ap := by rw [h.base.vx]
  have hmod : (b.vx n).modified a.ap (granules u.mfmt.toNat) (b.vx n).ap =
      (d.vx n).modified a.ap (granules u.mfmt.toNat) (d.vx n).ap := by
    rw [h.base.vx]
    rfl
  have hp := h.base.clear.pointerPends (bs := bs) ha hmode hother hcap (by rw [hap]; exact hlt) (ap_lt (mem_loadsOf.1 ha).1)
    (by rw [hmod, hap]; exact hne)
  rw [hmod] at hp
  exact h.pends hp

end

/-- Settles O47: each access of a word, by the lemma that says what it leaves. -/
theorem vxLoadsAndStores : Obligations.VxLoadsAndStores := by
  unfold Obligations.VxLoadsAndStores
  rintro s n env x p u ha hq hctl hu hl bs rfl c hc ho
  obtain ⟨hissued, b, h⟩ := hq.acts hctl hu hl ho
  have hnarrow : wide u = false → (s.dev.vxCommand n env (some c.1)).acted n x u = s.dev.vxCommand n env (some c.1) ∧
      actsAt x u = x := fun hw => ⟨if_neg (by simp [hw]), if_neg (by simp [hw])⟩
  refine completes_vxVector hc ha ⟨hissued, h.keeps, fun a hmem hs => ?loads, fun a hmem hs hreg hw => ?dregs,
    fun _ hloads => ?memory, fun hw a hmem hs honly hreg => ?accs, fun h42 a hmem hs _ hne hlen => ?flush,
    fun h40 hf a hmem hlen => ?append, fun a hmem hs hmode hother hcap hlt q hqe hne => ?pointers⟩
  case loads =>
    have hload := h.loadPends (mem_loadsOf.2 ⟨hmem, hs⟩)
    rw [← h.doLoad_eq hq.ready.idle hq.pending] at hload
    exact ⟨_, rfl, hload⟩
  case dregs =>
    have hstore := h.dregStored hl (mem_storesOf.2 ⟨hmem, hs⟩) hreg hw
    obtain ⟨hacted, hx⟩ := hnarrow hw
    rw [hacted, hx] at hstore
    exact ⟨_, rfl, hstore⟩
  case memory =>
    refine h.sameMemory fun ⟨_, hstores⟩ => hstores (List.filter_eq_nil_iff.2 fun a hmem => ?_)
    simp [hloads a hmem]
  case accs =>
    have hsole := storesOf_eq_singleton (mem_storesOf.2 ⟨hmem, hs⟩) honly
    exact ⟨_, _, rfl, rfl, h.accStored hl hq.lanes32 hw hsole hreg rfl⟩
  case flush =>
    have hstore := mem_storesOf.2 ⟨hmem, hs⟩
    obtain ⟨-, hreg, -⟩ := soleAccess_store (sole_of_pkfl hl (ho.trans h42)) hmem
    obtain ⟨hacted, hx⟩ := hnarrow (wide_of_store_pack hl hstore hreg)
    have hflush := h.flushed hl (ho.trans h42) hstore hne hlen
    rw [hacted, hx] at hflush
    exact hflush
  case append =>
    obtain ⟨hs, hreg, -⟩ := soleAccess_store (sole_of_pkst hl (ho.trans h40)) hmem
    obtain ⟨hacted, -⟩ := hnarrow (wide_of_store_pack hl (mem_storesOf.2 ⟨hmem, hs⟩) hreg)
    have happend := h.appended hl (ho.trans h40) hf hmem hlen
    rw [hacted] at happend
    exact happend
  case pointers =>
    subst hqe
    exact h.pointerPends (mem_loadsOf.2 ⟨hmem, hs⟩) hmode hother hcap hlt hne

end Sys2Proof.Machine
end

section
/-!
PROOFS. The words of a vector engine's program and their fields determine each other, and no control-format word is a legal
vector-format one (R132, R151, R154, R155).
-/
namespace Sys2Proof.Machine

open Sys2Proof

/-! ### Vector-format words (R132) -/

/-- Each field is read from the bits in which the word holds it: past the fields below it, and short of those above. -/
theorem decodeVx_encodeVx (x : VxWord) : decodeVx (encodeVx x) = x := by
  cases x
  simp (disch := decide) only [decodeVx, encodeVx, BitVec.extractLsb'_append_eq_of_le,
    BitVec.extractLsb'_append_eq_of_add_le, Nat.reduceSub, BitVec.extractLsb'_eq_self]

/-- Each field begins where the next lower one ends, so that laid end to end they are the word. -/
theorem encodeVx_decodeVx (w : Word) : encodeVx (decodeVx w) = w := by
  simp (disch := decide) only [encodeVx, decodeVx, BitVec.extractLsb'_append_extractLsb'_eq_extractLsb',
    BitVec.extractLsb'_eq_self]

/-! ### Control-format words (R151) -/

/-- HALT as its opcode above reserved bits, as the other control words are written. -/
theorem encodeControl_halt : encodeControl .halt = (1 : BitVec 8) ++ (0 : BitVec 56) := rfl

theorem decodeControl_encodeControl (c : VxControl) : decodeControl (encodeControl c) = some c := by
  cases c with
  | halt => rfl
  | loop | seta | ldi =>
    simp (disch := decide) only [decodeControl, encodeControl, BitVec.extractLsb'_append_eq_of_le,
      BitVec.extractLsb'_append_eq_of_add_le, Nat.reduceSub, BitVec.extractLsb'_eq_self]
    rfl

/-- In each branch of `decodeControl` the opcode and the reserved bits are known, and the other fields are read from the word. -/
theorem encodeControl_of_decodeControl {w : Word} {c : VxControl} (h : decodeControl w = some c) : encodeControl c = w := by
  unfold decodeControl at h
  lift_lets at h
  extract_lets opc at h
  split_ifs at h with hopc hres hopc hres hopc hres hopc hres <;> cases h
  · rw [encodeControl_halt, ← hopc, ← hres]
    exact BitVec.extractLsb'_append_extractLsb' (w := 8) (len := 56)
  all_goals
    simp (disch := decide) only [encodeControl, ← hopc, ← hres, opc,
      BitVec.extractLsb'_append_extractLsb'_eq_extractLsb', BitVec.extractLsb'_eq_self]

/-! ### No word has both formats (R154, R155) -/

/-- The vector-format fields of a control word hold its opcode. -/
theorem opcode_of_encodeControl_eq {c : VxControl} {u : VxWord} (h : encodeControl c = encodeVx u) :
    opcode u = controlOpcode c := by
  calc opcode u = opcode (decodeVx (encodeControl c)) := by rw [h, decodeVx_encodeVx]
    _ = fld (encodeControl c) 56 8 := opcode_decodeVx _
    _ = controlOpcode c := opcode_of_decodeControl (decodeControl_encodeControl c)

/-- No operation has an opcode of the control format. -/
theorem specsOk_of_controlOpcode {c : VxControl} {u : VxWord} (h : opcode u = controlOpcode c) : specsOk u = false := by
  cases c <;> simp [specsOk, h, controlOpcode]

/-- Settles O60: both round trips of each format, and the opcodes that the formats do not share. -/
theorem vxWordsDecodeToTheirFields : Obligations.VxWordsDecodeToTheirFields := by
  unfold Obligations.VxWordsDecodeToTheirFields
  refine ⟨decodeVx_encodeVx, encodeVx_decodeVx, decodeControl_encodeControl, fun _ _ => encodeControl_of_decodeControl,
    fun c u h => Bool.eq_false_iff.2 fun hl => ?_⟩
  have hspecs := specsOk_of_controlOpcode (opcode_of_encodeControl_eq h)
  exact Bool.false_ne_true (hspecs.symm.trans (specsOk_of_legal hl))

end Sys2Proof.Machine
end

section
/-!
PROOFS. The short steps of a task (R179, R180, R210, R211, R234): the wheels that a SPLIT step loads, the threads that an END step
stops, and where the signal of a SIGNAL step goes.
-/
namespace Sys2Proof.Machine

open Sys2Proof

/-! ### Registers written one after the other -/

theorem OnlyRegs.foldl {α : Type} {as : List Nat} {l : List α} {f : Device → α → Device}
    (h : ∀ x ∈ l, ∀ e, OnlyRegs as e (f e x)) (d : Device) : OnlyRegs as d (l.foldl f d) := by
  induction l generalizing d with
  | nil => exact OnlyRegs.refl d as
  | cons x l ih =>
    obtain ⟨hx, hl⟩ := List.forall_mem_cons.1 h
    exact (hx d).trans (ih hl _)

/-- Of registers written one after the other, each at an offset of its own, every one reads what was written to it. -/
theorem reg_foldl_setReg {a : Nat → Nat} (ha : Function.Injective a) (v : Nat → Word) (n : Nat) (d : Device) {k : Nat}
    (hk : k < n) : ((List.range n).foldl (fun c i => c.setReg (a i) (v i)) d).reg (a k) = v k := by
  induction n with
  | zero => exact absurd hk (Nat.not_lt_zero k)
  | succ n ih =>
    rw [List.range_succ, List.foldl_append, List.foldl_cons, List.foldl_nil]
    by_cases hkn : k = n
    · rw [hkn, reg_setReg]
    · rw [reg_setReg_ne _ _ (ha.ne hkn)]
      exact ih (by omega)

/-! ### Bytes and the numbers that they spell (R7) -/

theorem bytesNat_append (xs ys : List Byte) : bytesNat (xs ++ ys) = bytesNat xs + 256 ^ xs.length * bytesNat ys := by
  induction xs with
  | nil => simp [bytesNat]
  | cons b xs ih =>
    rw [List.cons_append, bytesNat, bytesNat, ih, List.length_cons, pow_succ']
    ring

theorem bytesNat_lt (bs : List Byte) : bytesNat bs < 256 ^ bs.length := by
  induction bs with
  | nil => decide
  | cons b bs ih =>
    have hb := b.isLt
    rw [bytesNat, List.length_cons, pow_succ']
    omega

/-- Bytes that stand between others are a field of the number that all spell. -/
theorem bytesNat_middle {xs ys zs : List Byte} {i n : Nat} (hx : xs.length = i) (hy : ys.length = n) :
    bytesNat (xs ++ ys ++ zs) / 256 ^ i % 256 ^ n = bytesNat ys := by
  subst hx hy
  rw [List.append_assoc, bytesNat_append, Nat.add_mul_div_left _ _ (Nat.pow_pos (by decide)),
    Nat.div_eq_of_lt (bytesNat_lt xs), Nat.zero_add, bytesNat_append, Nat.add_mul_mod_self_left,
    Nat.mod_eq_of_lt (bytesNat_lt ys)]

theorem memRead_add (m : Mem) (a n k : Nat) : memRead m a (n + k) = memRead m a n ++ memRead m (a + n) k := by
  induction n generalizing a with
  | zero => simp [memRead]
  | succ n ih => rw [Nat.succ_add, memRead, memRead, ih, List.cons_append, Nat.add_right_comm, Nat.add_assoc]

/-- Bytes of the schedule store are a field of the number that a longer run of bytes spells. -/
theorem bytesNat_schedBytes_part (d : Device) (off : Nat) {i n len : Nat} (h : i + n ≤ len) :
    bytesNat (d.schedBytes off len) / 256 ^ i % 256 ^ n = bytesNat (d.schedBytes (off + i) n) := by
  obtain ⟨k, rfl⟩ := Nat.exists_eq_add_of_le h
  rw [Device.schedBytes, Device.schedBytes, memRead_add, memRead_add, ← Nat.add_assoc scheduleBase off i]
  exact bytesNat_middle (memRead_length _ _ i) (memRead_length _ _ n)

/-- Two words of the schedule store spell what their 16 bytes spell. -/
theorem schedWords_two (d : Device) (off : Nat) :
    (wd (d.schedWords off 2) 0).toNat + 2 ^ 64 * (wd (d.schedWords off 2) 1).toNat = bytesNat (d.schedBytes off 16) := by
  have hsplit : d.schedBytes off 16 = d.schedBytes off 8 ++ memRead d.cfgMem (scheduleBase + off + 8) 8 :=
    memRead_add _ _ 8 8
  have hlen : (d.schedBytes off 8).length = 8 := memRead_length _ _ 8
  have hlow : wd (d.schedWords off 2) 0 = BitVec.ofNat 64 (bytesNat (d.schedBytes off 8)) := by
    show BitVec.ofNat 64 (bytesNat ((d.schedBytes off 16).take 8)) = _
    rw [hsplit, List.take_left' hlen]
  have hhigh : wd (d.schedWords off 2) 1 = BitVec.ofNat 64 (bytesNat (memRead d.cfgMem (scheduleBase + off + 8) 8)) := by
    show BitVec.ofNat 64 (bytesNat (((d.schedBytes off 16).drop 8).take 8)) = _
    rw [hsplit, List.drop_left' hlen, List.take_of_length_le (memRead_length _ _ 8).le]
  have hlt0 := bytesNat_lt (d.schedBytes off 8)
  have hlt1 := bytesNat_lt (memRead d.cfgMem (scheduleBase + off + 8) 8)
  have hbase : 256 ^ 8 = 2 ^ 64 := by decide
  rw [hlen, hbase] at hlt0
  rw [memRead_length, hbase] at hlt1
  rw [hlow, hhigh, hsplit, bytesNat_append, hlen, hbase, BitVec.toNat_ofNat, BitVec.toNat_ofNat, Nat.mod_eq_of_lt hlt0,
    Nat.mod_eq_of_lt hlt1]

/-! ### SPLIT_STEP (R234) -/

theorem steWheel_injective : Function.Injective Reg.steWheel := fun i j h => by
  unfold Reg.steWheel at h
  omega

/-- What a SPLIT step of slot `slot` loads into the bandwidth wheel of engine `k` (R234, R420). -/
def Device.splitWheel (d : Device) (slot : Nat) (s1 : Word) (k : Nat) : Word :=
  BitVec.ofNat 64 (bytesNat (d.schedBytes (d.allocBase slot + 16 * fld s1 0 16 + 4 * k) 4))

/-- The device with the wheels of the four engines loaded. -/
def Device.loadWheels (d : Device) (v : Nat → Word) : Device :=
  (List.range 4).foldl (fun c k => c.setReg (Reg.steWheel k) (v k)) d

theorem onlyRegs_loadWheels (d : Device) (v : Nat → Word) :
    OnlyRegs [Reg.steWheel 0, Reg.steWheel 1, Reg.steWheel 2, Reg.steWheel 3] d (d.loadWheels v) := by
  refine OnlyRegs.foldl (fun k hk e => (onlyRegs_setReg e _ _).mono ?_) d
  have hk4 : k < 4 := List.mem_range.1 hk
  interval_cases k <;> simp

theorem splitStep_of_due {d : Device} {r : Run} {s1 : Word} {stamp : Nat} (hnext : d.nextStep 4 = some (r, s1, stamp))
    (h : stamp ≤ d.now) : d.splitStep = (d.setRun (some r.stepped)).loadWheels (d.splitWheel r.slot s1) := by
  have hwords := schedWords_two d (d.allocBase r.slot + 16 * fld s1 0 16)
  have hwheel (k : Nat) (hk : k ∈ List.range 4) : BitVec.ofNat 64
      (bytesNat (d.schedBytes (d.allocBase r.slot + 16 * fld s1 0 16) 16) / 2 ^ (32 * k) % 2 ^ 32) =
        d.splitWheel r.slot s1 k := by
    have hk4 : k < 4 := List.mem_range.1 hk
    have hpart := bytesNat_schedBytes_part d (d.allocBase r.slot + 16 * fld s1 0 16) (i := 4 * k) (n := 4) (len := 16)
      (by omega)
    have hshift : 2 ^ (32 * k) = 256 ^ (4 * k) := by rw [pow_mul, pow_mul]; norm_num
    have hsize : 256 ^ 4 = 2 ^ 32 := by decide
    rw [Device.splitWheel, ← hpart, hshift, hsize]
  unfold Device.splitStep
  simp only [hnext, issueStep_of_due (run_of_nextStep hnext) h]
  refine (List.foldl_ext _ _ _ fun c k hk => ?_)
  rw [← hwheel k hk, ← hwords]
  rfl

theorem splitStep_completes {s : State} {r : Run} {s1 : Word} {stamp : Nat} (ha : s.dev.alive = true)
    (h : stamp ≤ s.dev.now) (hnext : s.dev.nextStep 4 = some (r, s1, stamp)) :
    Completes .splitStep s (fun d =>
      (∀ k < 4, d.reg (Reg.steWheel k) = s.dev.splitWheel r.slot s1 k) ∧ d.lantern.run = some r.stepped ∧
      SameMemory s.dev d ∧ d.streams = s.dev.streams ∧
      SameRegs [Reg.steWheel 0, Reg.steWheel 1, Reg.steWheel 2, Reg.steWheel 3] s.dev d) := by
  refine completes_took (f := Device.splitStep) rfl ha ?_
  rw [splitStep_of_due hnext h]
  have honly := onlyRegs_loadWheels (s.dev.setRun (some r.stepped)) (s.dev.splitWheel r.slot s1)
  refine ⟨fun k hk => reg_foldl_setReg steWheel_injective _ _ _ hk, ?run, honly.sameMemory, ?streams, honly.2⟩
  case run => rw [honly.1]; rfl
  case streams => rw [honly.1]; rfl

/-! ### Threads that are stopped (R243) -/

/-- A thread after a stop: one that is stopped already stays as it is. -/
def Thread.stopped (x : Thread) (c : StopCause) : Thread := if x.stop.isSome then x else x.halted c

theorem Thread.stopped_of_none {x : Thread} (c : StopCause) (h : x.stop = none) : x.stopped c = x.halted c := by
  simp [Thread.stopped, h]

theorem Thread.stopped_stopped (x : Thread) (c : StopCause) : (x.stopped c).stopped c = x.stopped c := by
  cases h : x.stop with
  | none => rw [Thread.stopped_of_none c h]; rfl
  | some _ => simp [Thread.stopped, h]

theorem stopThread_only (d : Device) (tk : Nat) (c : StopCause) :
    d.stopThread tk c = { d with streams := { d.streams with threads := (d.stopThread tk c).streams.threads } } := by
  unfold Device.stopThread Device.mapThread
  dsimp only
  split
  · split <;> rfl
  · rfl

theorem threadState_stopThread (d : Device) (k tk : Nat) (c : StopCause) :
    (d.stopThread k c).threadState tk = d.threadState tk := by
  rw [stopThread_only]
  rfl

theorem thread_stopThread_ne (d : Device) {k tk : Nat} (c : StopCause) (h : tk ≠ k) :
    (d.stopThread k c).thread tk = d.thread tk := by
  unfold Device.stopThread Device.mapThread
  dsimp only
  split
  · split
    · exact thread_setThread_ne d _ h
    · rfl
  · rfl

/-- A RUNNING thread is stopped. -/
theorem thread_stopThread {d : Device} {tk : Nat} {x : Thread} (c : StopCause) (hx : d.thread tk = some x)
    (hst : d.threadState tk = 1) : (d.stopThread tk c).thread tk = some (x.stopped c) := by
  simp only [Device.stopThread, Device.mapThread, hst, hx, true_or, if_true, thread_setThread, Thread.stopped]

theorem stopThreads_only (d : Device) (c : StopCause) :
    d.stopThreads c = { d with streams := { d.streams with threads := (d.stopThreads c).streams.threads } } := by
  unfold Device.stopThreads
  generalize d.streams.threads.map (·.1) = l
  induction l generalizing d with
  | nil => rfl
  | cons k l ih =>
    rw [List.foldl_cons, ih, stopThread_only]

theorem thread_foldl_stopThread {tk : Nat} (c : StopCause) (l : List Nat) {d : Device} {x : Thread}
    (hx : d.thread tk = some x) (hst : d.threadState tk = 1) :
    (l.foldl (fun d k => d.stopThread k c) d).thread tk = some (if tk ∈ l then x.stopped c else x) := by
  induction l generalizing d x with
  | nil => simpa using hx
  | cons k l ih =>
    have hst' : (d.stopThread k c).threadState tk = 1 := (threadState_stopThread d k tk c).trans hst
    rw [List.foldl_cons]
    by_cases hk : tk = k
    · subst hk
      rw [ih (thread_stopThread c hx hst) hst', Thread.stopped_stopped, ite_self, if_pos List.mem_cons_self]
    · rw [ih ((thread_stopThread_ne d c hk).trans hx) hst']
      simp [hk]

/-- A RUNNING thread that nothing has stopped yet is stopped with the others. -/
theorem thread_stopThreads {d : Device} {tk : Nat} {x : Thread} (c : StopCause) (hx : d.thread tk = some x)
    (hst : d.threadState tk = 1) (hstop : x.stop = none) : (d.stopThreads c).thread tk = some (x.halted c) := by
  have hmem : tk ∈ d.streams.threads.map (·.1) := by
    cases hf : mapFind d.streams.threads tk with
    | none => simp [Device.thread, mapGet, hf] at hx
    | some v => exact List.mem_map_of_mem (f := Prod.fst) (mem_of_mapFind hf)
  rw [Device.stopThreads, thread_foldl_stopThread c _ hx hst, if_pos hmem, Thread.stopped_of_none c hstop]

/-! ### END_STEP (R189, R243) -/

/-- The task that a step belongs to is RUNNING. -/
theorem task_of_nextStep {d : Device} {k stamp : Nat} {r : Run} {s1 : Word} (h : d.nextStep k = some (r, s1, stamp)) :
    ∃ t, d.task r.task = some t ∧ t.state = .running := by
  unfold Device.nextStep at h
  split at h
  · cases h
  next r' hrun =>
    split at h
    next t start htask hstart =>
      dsimp only at h
      split at h
      next hc =>
        obtain ⟨rfl, -⟩ := Prod.mk.inj (Option.some.inj h)
        exact ⟨t, htask, hc.1⟩
      · cases h
    · cases h

/-- The task `t` after its END stamp. -/
def Task.completingFrom (t : Task) (stamp : Nat) : Task := { t with state := .completing, since := stamp }

theorem endStep_of_due {d : Device} {r : Run} {s1 : Word} {stamp : Nat} (hnext : d.nextStep 0xF = some (r, s1, stamp))
    (h : stamp ≤ d.now) :
    d.endStep = ((d.setRun (some r.stepped)).stopThreads .endOrStep).mapTask r.task (·.completingFrom stamp) := by
  unfold Device.endStep
  simp only [hnext, issueStep_of_due (run_of_nextStep hnext) h]
  rfl

theorem endStep_completes {s : State} {r : Run} {s1 : Word} {stamp : Nat} (ha : s.dev.alive = true)
    (h : stamp ≤ s.dev.now) (hnext : s.dev.nextStep 0xF = some (r, s1, stamp)) :
    Completes .endStep s (fun d =>
      d.lantern.run = some r.stepped ∧
      (d.task r.task).map (fun t => (t.state, t.since)) = some (.completing, stamp) ∧
      (∀ tk x, s.dev.thread tk = some x → s.dev.threadState tk = 1 → x.stop = none →
        (d.thread tk).map (fun y => y.stop) = some (some .endOrStep)) ∧
      d.regs = s.dev.regs ∧ SameMemory s.dev d) := by
  refine completes_took (f := Device.endStep) rfl ha ?_
  rw [endStep_of_due hnext h]
  have honly := stopThreads_only (s.dev.setRun (some r.stepped)) .endOrStep
  obtain ⟨t, htask, -⟩ := task_of_nextStep hnext
  refine ⟨?run, ?task, fun tk x hx hst hstop => ?threads, ?regs, ?memory⟩
  case run => rw [honly]; rfl
  case task =>
    have hkept : ((s.dev.setRun (some r.stepped)).stopThreads .endOrStep).task r.task = some t := by
      rw [honly]; exact htask
    rw [task_mapTask (f := (·.completingFrom stamp)) _ _ fun _ => rfl, hkept]
    rfl
  case threads =>
    have hthread := thread_stopThreads (d := s.dev.setRun (some r.stepped)) .endOrStep hx hst hstop
    exact congrArg (Option.map fun y : Thread => y.stop) hthread
  case regs => rw [mapTask_only, honly]; rfl
  case memory => rw [mapTask_only, honly]; exact ⟨rfl, rfl, rfl, rfl⟩

/-! ### SIGNAL_STEP (R210, R211) -/

/-- A packet with a control unit is behind the control units on their way. -/
theorem controls_enter (d : Device) (u : CtrlUnit) (w : Way) (h : Line) :
    (d.enter (.control u) w h []).controls = d.controls ++ [u] := by
  simp [Device.controls, Device.enter, packetFlits]

/-- While the network runs, a control unit goes to its Turret as a packet. -/
theorem sendMessage_of_netRuns {d : Device} (h : d.netRuns = true) (init cmd link typ : Nat) (ws : List Nat) :
    ∃ w header, d.sendMessage init cmd link typ ws = d.enter (.control { link := link, typ := typ, words := ws }) w header [] :=
  ⟨_, _, if_pos h⟩

theorem controls_sendMessage {d : Device} (h : d.netRuns = true) (init cmd link typ : Nat) (ws : List Nat) :
    (d.sendMessage init cmd link typ ws).controls = d.controls ++ [{ link := link, typ := typ, words := ws }] := by
  obtain ⟨w, header, he⟩ := sendMessage_of_netRuns h init cmd link typ ws
  rw [he, controls_enter]

/-- The descriptor that the word S1 of a SIGNAL step names. -/
def Device.signalDesc (d : Device) (s1 : Word) : List Word := d.schedWords (16 * fld s1 0 24) 2

section
variable {d : Device} {r : Run} {s1 g0 g1 : Word} {stamp : Nat} (hnext : d.nextStep 5 = some (r, s1, stamp))
  (h : stamp ≤ d.now) (hdesc : d.signalDesc s1 = [g0, g1])
include hnext h hdesc

/-- A signal to a remote device is sent as a message to the link that leads there. -/
theorem signalStep_remote (hscope : fld g0 0 2 = 2) :
    ∃ rest, d.signalStep = (d.setRun (some r.stepped)).sendMessage 4 6 (d.linkTo (fld g0 2 10)) 3
      ([d.device, fld g0 12 16, fld g0 28 8, fld g0 36 8 + 1] ++ rest) := by
  have hsched : (d.setRun (some r.stepped)).schedWords (16 * fld s1 0 24) 2 = [g0, g1] := hdesc
  refine ⟨[fld g1 0 1, fld g1 1 2, fld g1 3 8, fld g1 16 48, fld g0 2 10], ?_⟩
  unfold Device.signalStep
  simp only [hnext, issueStep_of_due (run_of_nextStep hnext) h, hsched, wd, List.getD_cons_zero, List.getD_cons_succ, hscope,
    if_true]
  rfl

/-- A signal without a fence to a context of this device is on its way to its tally. -/
theorem signalStep_local (hscope : fld g0 0 2 ≠ 2) (hfence : bit g1 0 = false) :
    d.signalStep = (d.setRun (some r.stepped)).scheduleSig
      { dev := d.device, ctx := if fld g0 0 2 = 0 then r.ctx else fld g0 12 16, vid := fld g0 28 8, inc := fld g0 36 8 + 1,
        phys := none, cross := decide (fld g0 0 2 ≠ 0), host := false, applyAt := d.now + 2 } := by
  have hsched : (d.setRun (some r.stepped)).schedWords (16 * fld s1 0 24) 2 = [g0, g1] := hdesc
  unfold Device.signalStep
  simp only [hnext, issueStep_of_due (run_of_nextStep hnext) h, hsched, wd, List.getD_cons_zero, List.getD_cons_succ, hscope,
    hfence, if_false, Bool.false_eq_true]
  rfl

end

/-- Settles O15: a SPLIT step writes the wheels alone, an END step stops the threads and completes the task, and a SIGNAL step
adds one control unit, or one signal, and nothing else. -/
theorem shortStepsTakePlaceAtTheirStamp : Obligations.ShortStepsTakePlaceAtTheirStamp := by
  intro s r s1 stamp ha h
  refine ⟨splitStep_completes ha h, endStep_completes ha h, fun hnext g0 g1 hdesc => ⟨fun hscope hnet => ?remote,
    fun hscope hfence g hg => ?here⟩⟩
  case remote =>
    refine completes_took (f := Device.signalStep) rfl ha ?_
    obtain ⟨rest, he⟩ := signalStep_remote hnext h hdesc hscope
    have hctrl := controls_sendMessage (d := s.dev.setRun (some r.stepped)) hnet 4 6 (s.dev.linkTo (fld g0 2 10)) 3
      ([s.dev.device, fld g0 12 16, fld g0 28 8, fld g0 36 8 + 1] ++ rest)
    rw [he]
    refine ⟨?_, ?_, ?_, _, hctrl, rfl, rfl, rfl⟩
    · rw [sendMessage_only]; rfl
    · rw [sendMessage_only]; rfl
    · rw [sendMessage_only]; exact ⟨rfl, rfl, rfl, rfl⟩
  case here =>
    refine completes_took (f := Device.signalStep) rfl ha ?_
    rw [signalStep_local hnext h hdesc hscope hfence, hg]
    rfl

end Sys2Proof.Machine
end

section
/-!
PROOFS. Control units and floods (R277, R325, R349, R350): where a control unit waits once it is given to a link or to the network,
and what the floods of a cluster leave as it was.
-/
namespace Sys2Proof.Machine

open Sys2Proof

/-! ### Control units on their way -/

theorem controls_congr {d d' : Device} (hctrl : d'.links.ctrl = d.links.ctrl) (hnet : d'.net = d.net) :
    d'.controls = d.controls := by rw [Device.controls, Device.controls, hctrl, hnet]

/-- A message is on its way or waits at its Turret, whether the network runs or not. -/
theorem mem_controls_sendMessage {d : Device} {init cmd link typ : Nat} {ws : List Nat} {u : CtrlUnit} :
    u ∈ (d.sendMessage init cmd link typ ws).controls ↔ u ∈ d.controls ∨ u = { link := link, typ := typ, words := ws } := by
  cases h : d.netRuns with
  | true => rw [controls_sendMessage h, List.mem_append, List.mem_singleton]
  | false =>
    have he : d.sendMessage init cmd link typ ws = d.sendControl link typ ws := if_neg (by simp [h])
    rw [he, sendControl_eq, Device.controls, Device.controls]
    simp only [List.mem_append, List.mem_singleton]
    tauto

theorem mem_controls_foldl_sendMessage {l : List Nat} {d : Device} {typ : Nat} {ws : List Nat} {u : CtrlUnit} :
    u ∈ (l.foldl (fun d i => d.sendMessage 4 7 i typ ws) d).controls ↔
      u ∈ d.controls ∨ ∃ i ∈ l, u = { link := i, typ := typ, words := ws } := by
  induction l generalizing d with
  | nil => simp
  | cons i l ih => rw [List.foldl_cons, ih, mem_controls_sendMessage]; simp [or_assoc]

/-! ### Floods (R350) -/

theorem foldl_sendMessage_only (l : List Nat) (d : Device) (typ : Nat) (ws : List Nat) :
    l.foldl (fun d i => d.sendMessage 4 7 i typ ws) d = { d with
      net := (l.foldl (fun d i => d.sendMessage 4 7 i typ ws) d).net
      links := (l.foldl (fun d i => d.sendMessage 4 7 i typ ws) d).links } := by
  induction l generalizing d with
  | nil => rfl
  | cons i l ih => rw [List.foldl_cons, ih, sendMessage_only]

theorem foldl_sendControl (l : List Nat) (d : Device) (typ : Nat) (ws : List Nat) :
    l.foldl (fun d i => d.sendControl i typ ws) d = { d with links := { d.links with
      ctrl := d.links.ctrl ++ l.map (fun i => { link := i, typ := typ, words := ws }) } } := by
  induction l generalizing d with
  | nil => simp
  | cons i l ih => rw [List.foldl_cons, ih, sendControl_eq]; simp

/-- The device once a flood of type `typ` has taken the next FLOOD_SEQ and is known (R350). -/
def Device.tookSeq (d : Device) (typ : Nat) : Device :=
  { d with cluster := { d.cluster with
    nextSeq := (d.cluster.nextSeq + 1) % 65536, seen := (typ, d.cluster.nextSeq) :: d.cluster.seen.take 1023 } }

theorem originate_eq (d : Device) (typ : Nat) (ws : List Nat) :
    d.originate typ ws = (d.tookSeq typ).sendFlood typ (ws ++ [d.cluster.nextSeq]) none := rfl

section
variable {d : Device} {m : Member} (hm : d.cluster.member = some m)
include hm

/-- A flood that the device originates goes out on every membership link. -/
theorem sendFlood_none (typ : Nat) (ws : List Nat) :
    d.sendFlood typ ws none = (linksOf m.links).foldl (fun d i => d.sendMessage 4 7 i typ ws) d := by
  have hall : (linksOf m.links).filter (fun i => some i != none) = linksOf m.links := List.filter_eq_self.2 fun _ _ => rfl
  simp only [Device.sendFlood, hm, hall]
  rfl

/-- A flood that is forwarded goes out on every membership link but the one that brought it, by the Turrets themselves. -/
theorem sendFlood_some (typ : Nat) (ws : List Nat) (n : Nat) :
    d.sendFlood typ ws (some n) = { d with links := { d.links with
      ctrl := d.links.ctrl ++ ((linksOf m.links).filter (· != n)).map (fun i => { link := i, typ := typ, words := ws }) } } := by
  have hothers : (fun i => some i != some n) = fun i : Nat => i != n := funext fun i => by simp [bne]
  rw [← foldl_sendControl, ← hothers]
  simp only [Device.sendFlood, hm]
  rfl

/-- What a message up the cluster tree leaves is one control unit more. -/
theorem sendUp_eq (typ : Nat) (ws : List Nat) : d.sendUp typ ws = d.sendMessage 4 7 m.upLink typ ws := by
  simp [Device.sendUp, hm]

theorem relayUp_eq (typ : Nat) (ws : List Nat) : d.relayUp typ ws = d.sendControl m.upLink typ ws := by
  simp [Device.relayUp, hm]

/-- The flood that the master originates is on its way on every membership link, with the next FLOOD_SEQ. -/
theorem mem_controls_originate (typ : Nat) (ws : List Nat) {i : Nat} (hi : i ∈ linksOf m.links) :
    { link := i, typ := typ, words := ws ++ [d.cluster.nextSeq] } ∈ (d.originate typ ws).controls := by
  have hkept : (d.tookSeq typ).cluster.member = some m := hm
  rw [originate_eq, sendFlood_none hkept]
  exact mem_controls_foldl_sendMessage.2 (.inr ⟨i, hi, rfl⟩)

end

theorem sendFlood_none_only (d : Device) (typ : Nat) (ws : List Nat) :
    d.sendFlood typ ws none =
      { d with net := (d.sendFlood typ ws none).net, links := (d.sendFlood typ ws none).links } := by
  cases hm : d.cluster.member with
  | none => simp only [Device.sendFlood, hm]
  | some m => rw [sendFlood_none hm, foldl_sendMessage_only]

/-- A flood takes the next FLOOD_SEQ, is known from then on, and touches the network and the links besides. -/
theorem originate_only (d : Device) (typ : Nat) (ws : List Nat) :
    d.originate typ ws = { d with
      net := (d.originate typ ws).net
      links := (d.originate typ ws).links
      cluster := { d.cluster with
        nextSeq := (d.cluster.nextSeq + 1) % 65536
        seen := (typ, d.cluster.nextSeq) :: d.cluster.seen.take 1023 } } := by
  rw [originate_eq, sendFlood_none_only]
  rfl

/-- The device that has forwarded a flood of type `typ` of link `n`, once it is a member's. -/
def Device.forwarded (d : Device) (m : Member) (n typ seq : Nat) (ws : List Nat) : Device :=
  { d with
    links := { d.links with ctrl := d.links.ctrl ++
      ((linksOf m.links).filter (· != n)).map (fun i => { link := i, typ := typ, words := ws ++ [seq] }) }
    cluster := { d.cluster with seen := (typ, seq) :: d.cluster.seen.take 1023 } }

section
variable {d : Device} {n typ seq : Nat}

/-- A flood that is known already is discarded. -/
theorem flooded_of_seen (h : (typ, seq) ∈ d.cluster.seen) (ws : List Nat) (act : Device → Device) :
    d.flooded n typ seq ws act = d := if_pos (by simp [h])

/-- The first copy of a flood is forwarded and acted on. -/
theorem flooded_of_new {m : Member} (hm : d.cluster.member = some m) (h : (typ, seq) ∉ d.cluster.seen) (ws : List Nat)
    (act : Device → Device) :
    d.flooded n typ seq ws act = act (d.forwarded m n typ seq ws) := by
  have hkept : (d.noteFlood typ seq).cluster.member = some m := hm
  rw [Device.flooded, if_neg (by simp [h, hm]), sendFlood_some hkept]
  rfl

end

end Sys2Proof.Machine
end

section
/-!
PROOFS. Selection (R185 - R188, R206, R207, R220): which READY task is taken, and what a new attempt at it changes.
-/
namespace Sys2Proof.Machine

open Sys2Proof

theorem reg_of_regs {d d' : Device} (h : d'.regs = d.regs) (a : Nat) : d'.reg a = d.reg a := by
  rw [Device.reg, h, Device.reg]

/-! ### The context record that a selection reads (R206) -/

/-- The attempt but for its marks of poison. -/
def Run.unmarked (r : Run) : Run := { r with poisoned := false, cause := 0 }

/-- From `d` to `d'` words of a context record have been read for a task: what SECDED found may have marked the running task and
counted, and rewritten registers of the context store. -/
structure CtxRead (d d' : Device) : Prop where
  only : d' = { d with regs := d'.regs, lantern := { d.lantern with run := d'.lantern.run } }
  run : d'.lantern.run.map Run.unmarked = d.lantern.run.map Run.unmarked
  regs : ∀ a, a < 0x2000000 → a ∉ [Reg.errUncorrCnt, Reg.errCorrCnt] → d'.reg a = d.reg a

namespace CtxRead

theorem refl (d : Device) : CtxRead d d := ⟨rfl, rfl, fun _ _ _ => rfl⟩

theorem trans {d d' d'' : Device} (h : CtxRead d d') (h' : CtxRead d' d'') : CtxRead d d'' :=
  ⟨by rw [h'.only, h.only], h'.run.trans h.run, fun a ha hc => (h'.regs a ha hc).trans (h.regs a ha hc)⟩

theorem of_onlyRegs {as : List Nat} {d d' : Device} (h : OnlyRegs as d d')
    (has : ∀ a ∈ as, 0x2000000 ≤ a ∨ a ∈ [Reg.errUncorrCnt, Reg.errCorrCnt]) : CtxRead d d' := by
  refine ⟨?_, ?_, fun a ha hc => h.2 a fun hm => ?_⟩
  · rw [h.1]
  · rw [h.1]
  · rcases has a hm with hlo | hin
    · omega
    · exact hc hin

end CtxRead

theorem ctxRead_markPoison (d : Device) (c : Nat) : CtxRead d (d.markPoison c) := by
  refine ⟨rfl, ?_, fun _ _ _ => rfl⟩
  show (d.lantern.run.map _).map _ = _
  cases d.lantern.run <;> rfl

theorem ctxRead_ctxEcc (d : Device) (n w : Nat) (e : Ecc) (mark : Bool) : CtxRead d (d.ctxEcc n w e mark) := by
  have hrow : 0x2000000 ≤ Reg.ctxW0 n + 8 * w := by unfold Reg.ctxW0; omega
  have hlost : CtxRead d ((d.setReg (Reg.ctxW0 n + 8 * w) 0).uncorrected Reg.tlyCtxUncorrCnt) :=
    (CtxRead.of_onlyRegs (onlyRegs_setReg d _ 0) (by simpa using .inl hrow)).trans
      (CtxRead.of_onlyRegs (uncorrected_onlyRegs _ _) (by decide))
  unfold Device.ctxEcc
  split
  · dsimp only
    split
    · exact hlost.trans (ctxRead_markPoison _ 49)
    · exact hlost
  · split
    · exact CtxRead.of_onlyRegs (corrected_onlyRegs d _) (by decide)
    · exact CtxRead.refl d

theorem ctxRead_ctxEccs (n : Nat) (mark : Bool) (es : List (Fin 16 × Bool)) (d : Device) : CtxRead d (d.ctxEccs n mark es) := by
  induction es generalizing d with
  | nil => exact CtxRead.refl d
  | cons e es ih => exact (ctxRead_ctxEcc d n _ _ mark).trans (ih _)

/-! ### Private tallies that come into a bank (R207, R220) -/

theorem tlyValue_ne {p q : Nat} (h : p ≠ q) : Reg.tlyValue p ≠ Reg.tlyValue q := by
  unfold Reg.tlyValue
  omega

theorem tally_setTally (d : Device) (p v : Nat) : (d.setTally p v).tally p = v % 2 ^ 32 := by
  rw [Device.tally, Device.setTally, Device.regF, reg_setReg, fld, BitVec.toNat_ofNat, Nat.shiftRight_zero,
    Nat.mod_mod_of_dvd _ (by decide), Nat.mod_mod]

theorem tally_setTally_ne (d : Device) {p q : Nat} (v : Nat) (h : q ≠ p) : (d.setTally p v).tally q = d.tally q :=
  regF_setReg_ne d _ 0 32 (tlyValue_ne h)

theorem reg_setTally_below (d : Device) {a : Nat} (p v : Nat) (h : a < 0x2800000) : (d.setTally p v).reg a = d.reg a :=
  reg_setReg_ne d _ (by unfold Reg.tlyValue; omega)

theorem ctxPt_below {n : Nat} (hn : n < 65536) {j : Nat} (hj : j < 8) : Reg.ctxPt n j < 0x2800000 := by
  unfold Reg.ctxPt
  omega

/-- Private tally `i` in the record of context `n` (R207). -/
def Device.savedTally (d : Device) (n i : Nat) : Nat := d.regF (Reg.ctxPt n (i / 2)) (32 * (i % 2)) 32

/-- The first `k` tallies of the record of context `n` loaded into a bank. -/
def Device.loadTallies (d : Device) (n bank k : Nat) : Device :=
  (List.range k).foldl (fun d i => d.setTally (16 * bank + i) (d.savedTally n i)) d

theorem loadTallies_succ (d : Device) (n bank k : Nat) :
    d.loadTallies n bank (k + 1) =
      (d.loadTallies n bank k).setTally (16 * bank + k) ((d.loadTallies n bank k).savedTally n k) := by
  simp [Device.loadTallies, List.range_succ]

theorem loadBank_eq (d : Device) (n bank : Nat) : d.loadBank n bank = d.loadTallies n bank 16 := rfl

theorem loadTallies_only (d : Device) (n bank k : Nat) :
    d.loadTallies n bank k = { d with regs := (d.loadTallies n bank k).regs } := by
  induction k with
  | zero => rfl
  | succ k ih => rw [loadTallies_succ, ih]; rfl

/-- Only tallies are written. -/
theorem reg_loadTallies (d : Device) (n bank k : Nat) {a : Nat} (h : a < 0x2800000) :
    (d.loadTallies n bank k).reg a = d.reg a := by
  induction k with
  | zero => rfl
  | succ k ih => rw [loadTallies_succ, reg_setTally_below _ _ _ h, ih]

theorem tally_loadTallies (d : Device) {n : Nat} (hn : n < 65536) (bank : Nat) {k : Nat} (hk : k ≤ 16) {i : Nat} (hi : i < k) :
    (d.loadTallies n bank k).tally (16 * bank + i) = d.savedTally n i := by
  induction k with
  | zero => exact absurd hi (Nat.not_lt_zero i)
  | succ k ih =>
    rw [loadTallies_succ]
    by_cases hik : i = k
    · subst hik
      have hsaved : (d.loadTallies n bank i).savedTally n i = d.savedTally n i := by
        rw [Device.savedTally, Device.regF, reg_loadTallies d n bank i (ctxPt_below hn (by omega)), Device.savedTally,
          Device.regF]
      rw [tally_setTally, hsaved]
      exact Nat.mod_eq_of_lt (fld_lt _ _ 32)
    · rw [tally_setTally_ne _ _ (by omega)]
      exact ih (by omega) (by omega)

/-! ### A new attempt at a task (R188) -/

/-- The task `t` taken in gcyc `g`. -/
def Task.startingFrom (t : Task) (g : Nat) : Task := { t with state := .starting, since := g }

/-- The device as attempt `r` at task `t` begins, before the context record is read. -/
def Device.taking (d : Device) (t : Task) (r : Run) : Device :=
  { (d.mapTask t.id (·.startingFrom r.sel)).setRun (some r) with belfry := { d.belfry with idleFrom := none } }

/-- The device with the tallies of the task loaded, before its clocks are asked for. -/
def Device.loaded (d : Device) (t : Task) (r : Run) (ecc : List (Fin 16 × Bool)) : Device :=
  ((d.taking t r).ctxEccs t.ctx true ecc).loadBank t.ctx r.bank

theorem beginRun_eq (d : Device) (t : Task) (r : Run) (ecc : List (Fin 16 × Bool)) :
    d.beginRun t r ecc =
      if (d.loaded t r ecc).power = 0 then (d.loaded t r ecc).chooseStart r.sel else (d.loaded t r ecc).requestWake true := rfl

/-- An attempt whose clocks reach Run in gcyc `w` (R188). -/
def Run.startsAt (r : Run) (w : Nat) : Run := { r with clocks := some w, start := some (max (r.sel + 16) w + r.lead) }

/-- Choosing the start cycle changes the running task, and the flood of a cluster's START besides. -/
theorem chooseStart_only {d : Device} {r : Run} (w : Nat) (hrun : d.lantern.run = some r) (hstart : r.start = none)
    (habort : r.aborted = false) :
    d.chooseStart w = { d with
      lantern := { d.lantern with run := some (r.startsAt w) }
      cluster := (d.chooseStart w).cluster, net := (d.chooseStart w).net, links := (d.chooseStart w).links } := by
  have hfresh : ¬(r.start.isSome = true ∨ r.aborted = true) := by simp [hstart, habort]
  simp only [Device.chooseStart, hrun, if_neg hfresh]
  split
  · rw [originate_only]; rfl
  · rfl

section
variable (d : Device) (t : Task) (r : Run) (ecc : List (Fin 16 × Bool))

theorem loaded_only : d.loaded t r ecc = { d with
    regs := (d.loaded t r ecc).regs
    belfry := { d.belfry with idleFrom := none }
    lantern := { d.lantern with
      tasks := (d.mapTask t.id (·.startingFrom r.sel)).lantern.tasks, run := (d.loaded t r ecc).lantern.run } } := by
  rw [Device.loaded, loadBank_eq, loadTallies_only, (ctxRead_ctxEccs t.ctx true ecc (d.taking t r)).only]
  rfl

theorem run_loaded : ∃ u, (d.loaded t r ecc).lantern.run = some u ∧ u.unmarked = r.unmarked ∧ (ecc = [] → u = r) := by
  have hrun : (d.loaded t r ecc).lantern.run = ((d.taking t r).ctxEccs t.ctx true ecc).lantern.run := by
    rw [Device.loaded, loadBank_eq, loadTallies_only]
  have hmarks : ((d.taking t r).ctxEccs t.ctx true ecc).lantern.run.map Run.unmarked = some r.unmarked :=
    (ctxRead_ctxEccs t.ctx true ecc (d.taking t r)).run
  obtain ⟨u, hu, hur⟩ := Option.map_eq_some_iff.1 hmarks
  refine ⟨u, hrun.trans hu, hur, fun he => ?_⟩
  subst he
  exact (Option.some.inj hu).symm

/-- The registers that a new attempt leaves: those below the context store, but for counters and the state of the clocks. -/
theorem reg_loaded {a : Nat} (h : a < 0x2000000) (hc : a ∉ [Reg.errUncorrCnt, Reg.errCorrCnt]) :
    (d.loaded t r ecc).reg a = d.reg a := by
  rw [Device.loaded, loadBank_eq, reg_loadTallies _ _ _ _ (by omega),
    (ctxRead_ctxEccs t.ctx true ecc (d.taking t r)).regs a h hc]
  rfl

theorem power_loaded : (d.loaded t r ecc).power = d.power := by
  rw [Device.power, Device.regF, reg_loaded d t r ecc (by decide) (by decide), Device.power, Device.regF]

theorem tally_loaded (hctx : t.ctx < 65536) {i : Nat} (hi : i < 16) :
    (d.loaded t r []).tally (16 * r.bank + i) = d.savedTally t.ctx i :=
  tally_loadTallies (d.taking t r) hctx r.bank le_rfl hi

variable {r} (hstart : r.start = none) (habort : r.aborted = false)
include hstart habort

/-- A new attempt in Run has its start cycle at once. -/
theorem beginRun_of_run (hpower : d.power = 0) : ∃ u, (d.loaded t r ecc).lantern.run = some u ∧ u.unmarked = r.unmarked ∧
    (ecc = [] → u = r) ∧ d.beginRun t r ecc = { d.loaded t r ecc with
      lantern := { (d.loaded t r ecc).lantern with run := some (u.startsAt r.sel) }
      cluster := (d.beginRun t r ecc).cluster, net := (d.beginRun t r ecc).net, links := (d.beginRun t r ecc).links } := by
  obtain ⟨u, hu, hur, hclean⟩ := run_loaded d t r ecc
  refine ⟨u, hu, hur, hclean, ?_⟩
  rw [beginRun_eq, if_pos ((power_loaded d t r ecc).trans hpower)]
  exact chooseStart_only r.sel hu ((congrArg Run.start hur).trans hstart) ((congrArg Run.aborted hur).trans habort)

omit hstart habort in
/-- From another state the clocks are asked to wake. -/
theorem beginRun_of_low (hpower : d.power ≠ 0) : d.beginRun t r ecc = (d.loaded t r ecc).requestWake true := by
  rw [beginRun_eq, if_neg (by rwa [power_loaded])]

/-- A new attempt changes the registers, the clocks and the idle timer, the tasks, and floods START in a cluster. -/
theorem beginRun_only : d.beginRun t r ecc = { d with
    regs := (d.beginRun t r ecc).regs
    belfry := { d.belfry with idleFrom := none, wake := (d.beginRun t r ecc).belfry.wake }
    lantern := { d.lantern with
      tasks := (d.mapTask t.id (·.startingFrom r.sel)).lantern.tasks, run := (d.beginRun t r ecc).lantern.run }
    cluster := (d.beginRun t r ecc).cluster, net := (d.beginRun t r ecc).net, links := (d.beginRun t r ecc).links } := by
  by_cases hpower : d.power = 0
  · obtain ⟨u, -, -, -, he⟩ := beginRun_of_run d t ecc hstart habort hpower
    rw [he, loaded_only]
  · rw [beginRun_of_low d t ecc hpower, (requestWake_frame _ true).1, loaded_only]

/-- The attempt as it stands once it has begun. -/
theorem run_beginRun : ∃ u, u.unmarked = r.unmarked ∧ (ecc = [] → u = r) ∧
    (d.beginRun t r ecc).lantern.run = some (if d.power = 0 then u.startsAt r.sel else u) := by
  by_cases hpower : d.power = 0
  · obtain ⟨u, -, hur, hclean, he⟩ := beginRun_of_run d t ecc hstart habort hpower
    refine ⟨u, hur, hclean, ?_⟩
    rw [he, if_pos hpower]
  · obtain ⟨u, hu, hur, hclean⟩ := run_loaded d t r ecc
    refine ⟨u, hur, hclean, ?_⟩
    rw [beginRun_of_low d t ecc hpower, (requestWake_frame _ true).1, if_neg hpower]
    exact hu

theorem reg_beginRun_loaded {a : Nat} (h : a ∉ [Reg.pwrStatus, Reg.pwrWakeCnt]) :
    (d.beginRun t r ecc).reg a = (d.loaded t r ecc).reg a := by
  by_cases hpower : d.power = 0
  · obtain ⟨u, -, -, -, he⟩ := beginRun_of_run d t ecc hstart habort hpower
    have hregs : (d.beginRun t r ecc).regs = (d.loaded t r ecc).regs := by rw [he]
    exact reg_of_regs hregs a
  · rw [beginRun_of_low d t ecc hpower]
    exact (requestWake_frame _ true).2 a h

end

/-! ### The turn of a context (R185, R186) -/

theorem before_iff {d : Device} {a b : Task} : d.before a b = true ↔
    d.taskClass a < d.taskClass b ∨ (d.taskClass a = d.taskClass b ∧ d.turn a ≤ d.turn b) := by
  simp [Device.before]

/-- Of some tasks the one is picked that no other is taken before. -/
theorem pickTask_first (d : Device) {l : List Task} (h : l ≠ []) :
    ∃ t ∈ l, d.pickTask l = some t ∧ ∀ u ∈ l, d.before t u = true := by
  induction l with
  | nil => exact absurd rfl h
  | cons a l ih =>
    rcases eq_or_ne l [] with rfl | hl
    · exact ⟨a, List.mem_cons_self, rfl, by simp [before_iff]⟩
    · obtain ⟨t, ht, hpick, hfirst⟩ := ih hl
      by_cases hat : d.before a t = true
      · refine ⟨a, List.mem_cons_self, by simp [Device.pickTask, hpick, hat], fun u hu => ?_⟩
        rcases List.mem_cons.1 hu with rfl | hu
        · simp [before_iff]
        · have htu := before_iff.1 (hfirst u hu)
          rw [before_iff] at hat ⊢
          omega
      · refine ⟨t, List.mem_cons_of_mem a ht, by simp [Device.pickTask, hpick, hat], fun u hu => ?_⟩
        rcases List.mem_cons.1 hu with rfl | hu
        · rw [before_iff] at hat ⊢
          omega
        · exact hfirst u hu

/-! ### When a task is selected (R185, R187) -/

theorem foldl_min_le (l : List Task) (x : Nat) :
    l.foldl (fun m u => min m (u.since + 1)) x ≤ x ∧
      ∀ u ∈ l, l.foldl (fun m u => min m (u.since + 1)) x ≤ u.since + 1 := by
  induction l generalizing x with
  | nil => simp
  | cons a l ih =>
    obtain ⟨hx, hl⟩ := ih (min x (a.since + 1))
    rw [List.foldl_cons]
    refine ⟨by omega, fun u hu => ?_⟩
    rcases List.mem_cons.1 hu with rfl | hu
    · omega
    · exact hl u hu

/-- With a candidate in gcyc `g`, a task is selected in `g`. -/
theorem selectAt_of_candidate {d : Device} {g : Nat} (h : d.candidates g ≠ []) : d.selectAt g = some g := by
  obtain ⟨u, hu⟩ := List.exists_mem_of_ne_nil _ h
  obtain ⟨hmem, hsince⟩ := List.mem_filter.1 hu
  have hsince : u.since + 1 ≤ g := by simpa using hsince
  unfold Device.selectAt
  cases he : d.eligible g with
  | nil => simp [he] at hmem
  | cons t ts =>
    obtain ⟨hfirst, hrest⟩ := foldl_min_le ts (t.since + 1)
    have hle : ts.foldl (fun m u => min m (u.since + 1)) (t.since + 1) ≤ g := by
      rcases List.mem_cons.1 (he ▸ hmem) with rfl | hin
      · exact hfirst.trans hsince
      · exact (hrest u hin).trans hsince
    exact congrArg some (max_eq_left hle)

/-- While selection is withheld nothing is selected. -/
theorem selectNext_withheld {d : Device} (h : d.mayselect = false) (ecc : List (Fin 16 × Bool)) : d.selectNext ecc = d :=
  if_pos h

/-- Selection in the present gcyc, of the candidate that is first in its turn. -/
theorem selectNext_of_candidate {d : Device} (hmay : d.mayselect = true) (hfree : d.lantern.domeFree ≤ d.now)
    (hcand : d.candidates d.now ≠ []) (ecc : List (Fin 16 × Bool)) :
    ∃ t ∈ d.candidates d.now, d.selectNext ecc = d.selectTask t d.now ecc ∧
      ∀ u ∈ d.candidates d.now, d.before t u = true := by
  obtain ⟨t, ht, hpick, hfirst⟩ := pickTask_first d hcand
  refine ⟨t, ht, ?_, hfirst⟩
  simp only [Device.selectNext, hmay, max_eq_left hfree, selectAt_of_candidate hcand, advance_past le_rfl, hpick,
    Bool.true_eq_false, if_false]

theorem task_congr {d d' : Device} (h : d'.lantern.tasks = d.lantern.tasks) (id : Nat) : d'.task id = d.task id := by
  rw [Device.task, h, Device.task]

theorem task_isSome_of_mem {d : Device} {t : Task} (h : t ∈ d.lantern.tasks) : ∃ u, d.task t.id = some u :=
  Option.isSome_iff_exists.1 (List.find?_isSome.2 ⟨t, h, by simp⟩)

/-! ### A first attempt (R185, R188, R207) -/

/-- The device as the first attempt at `t` begins: the class remembers the context, and the next task takes the other bank. -/
def Device.turned (d : Device) (t : Task) : Device :=
  { d with lantern := { d.lantern with
    lastSel := mapPut none d.lantern.lastSel (d.taskClass t) (some t.ctx), bank := 1 - d.lantern.bank } }

theorem selectTask_eq (d : Device) (t : Task) (g : Nat) (ecc : List (Fin 16 × Bool)) :
    d.selectTask t g ecc = (d.turned t).beginRun t (d.newRun t g 0 d.lantern.bank []) ecc := rfl

theorem ctx_lt (t : Task) : t.ctx < 65536 := fld_lt _ 0 16

/-- A selection in Warm asks for the clocks, and one wake is counted (R459, R461). -/
theorem wake_selectTask {d : Device} (hpower : d.power = 1) (t : Task) (g : Nat) (ecc : List (Fin 16 × Bool)) :
    (d.selectTask t g ecc).power = 6 ∧ (d.selectTask t g ecc).reg Reg.pwrWakeCnt = d.reg Reg.pwrWakeCnt + 1 := by
  have hlow : (d.turned t).power ≠ 0 := by
    show d.power ≠ 0
    omega
  rw [selectTask_eq, beginRun_of_low _ _ _ hlow]
  generalize hl : (d.turned t).loaded t (d.newRun t g 0 d.lantern.bank []) ecc = l
  have hl1 : l.power = 1 := by rw [← hl, power_loaded]; exact hpower
  have hcnt : l.reg Reg.pwrWakeCnt = d.reg Reg.pwrWakeCnt := by
    rw [← hl, reg_loaded _ _ _ _ (by decide) (by decide)]
    rfl
  have he : (l.requestWake true).regs = ((l.bump Reg.pwrWakeCnt 1).setPower 6).regs := by simp [Device.requestWake, hl1]
  constructor
  · rw [Device.power, Device.regF, reg_of_regs he, ← Device.regF, Device.setPower, regF_setF _ _ _ (by decide)]
    rfl
  · rw [reg_of_regs he, Device.setPower, reg_setF_ne _ _ _ _ (by decide), reg_bump, hcnt]
    rfl

theorem tally_selectTask (d : Device) (t : Task) (g : Nat) {i : Nat} (hbank : d.lantern.bank ≤ 1) (hi : i < 16) :
    (d.selectTask t g []).tally (16 * d.lantern.bank + i) = d.savedTally t.ctx i := by
  have hp : Reg.tlyValue (16 * d.lantern.bank + i) ∉ [Reg.pwrStatus, Reg.pwrWakeCnt] := by
    simp only [List.mem_cons, List.not_mem_nil, or_false, Reg.tlyValue, Reg.pwrStatus, Reg.pwrWakeCnt]
    omega
  rw [selectTask_eq, Device.tally, Device.regF, reg_beginRun_loaded _ _ _ rfl rfl hp]
  exact tally_loaded (d.turned t) t (d.newRun t g 0 d.lantern.bank []) (ctx_lt t) hi

/-- Settles O13: the task picked is first in its turn, and its first attempt is a new attempt in the bank that is next. -/
theorem selectionTakesTheHighestClass : Obligations.SelectionTakesTheHighestClass := by
  intro s ecc ha
  refine ⟨fun hwithheld => ?withheld, fun hmay hfree hbank hcand => ?selected⟩
  case withheld => exact completes_took (f := (·.selectNext ecc)) rfl ha (selectNext_withheld hwithheld ecc)
  case selected =>
    refine completes_took (f := (·.selectNext ecc)) rfl ha ?_
    obtain ⟨t, ht, he, hfirst⟩ := selectNext_of_candidate hmay hfree hcand ecc
    rw [he]
    have honly := beginRun_only (s.dev.turned t) t ecc (r := s.dev.newRun t s.dev.now 0 s.dev.lantern.bank []) rfl rfl
    obtain ⟨u, hur, -, hrun⟩ := run_beginRun (s.dev.turned t) t ecc
      (r := s.dev.newRun t s.dev.now 0 s.dev.lantern.bank []) rfl rfl
    rw [← selectTask_eq] at honly hrun
    obtain ⟨v, hv⟩ := task_isSome_of_mem (List.mem_filter.1 (List.mem_filter.1 ht).1).1
    replace hrun : _ = some (if s.dev.power = 0 then u.startsAt s.dev.now else u) := hrun
    generalize hr : (if s.dev.power = 0 then u.startsAt s.dev.now else u) = r at hrun
    have hkept {α : Type} (f : Run → α) (hf : ∀ x, f (x.startsAt s.dev.now) = f x) (hm : ∀ x, f x.unmarked = f x) :
        f r = f (s.dev.newRun t s.dev.now 0 s.dev.lantern.bank []) := by
      rw [← hr, apply_ite f, hf, ite_self, ← hm, hur, hm]
    refine ⟨t, ht, r, hrun, fun u hu => before_iff.1 (hfirst u hu),
      hkept Run.task (fun _ => rfl) fun _ => rfl, hkept Run.ctx (fun _ => rfl) fun _ => rfl,
      hkept Run.slot (fun _ => rfl) fun _ => rfl, hkept Run.sel (fun _ => rfl) fun _ => rfl,
      hkept Run.retries (fun _ => rfl) fun _ => rfl, hkept Run.header (fun _ => rfl) fun _ => rfl, ?state, ?last, ?bank,
      fun hecc i hi => ?tallies, fun hp hlocal => ?start, fun hp => ⟨(wake_selectTask hp t _ ecc).1, ?noStart,
        (wake_selectTask hp t _ ecc).2⟩, ?memory, ?queues, ?out⟩
    case state =>
      have htasks : (s.dev.selectTask t s.dev.now ecc).lantern.tasks =
          (s.dev.mapTask t.id (·.startingFrom s.dev.now)).lantern.tasks := by rw [honly]; rfl
      rw [task_congr htasks, task_mapTask (f := (·.startingFrom s.dev.now)) _ _ fun _ => rfl, hv]
      rfl
    case last => rw [honly]; exact mapGet_mapPut ..
    case bank => rw [honly]; rfl
    case tallies => subst hecc; exact tally_selectTask s.dev t s.dev.now hbank hi
    case start =>
      have hlead : u.lead = s.dev.regF Reg.lntCtl 0 8 := by
        have hlocal' : bit (wd (s.dev.slotHeader t.slot) 0) 23 = false :=
          (hkept Run.cluster (fun _ => rfl) fun _ => rfl).symm.trans hlocal
        exact (congrArg Run.lead hur).trans (if_neg (by simp [hlocal']))
      have hsel : u.sel = s.dev.now := congrArg Run.sel hur
      rw [if_pos hp] at hr
      rw [← hr, Run.startsAt, hsel, hlead, max_eq_left (by omega)]
    case noStart =>
      rw [if_neg (by rw [hp]; decide)] at hr
      rw [← hr]
      exact congrArg Run.start hur
    case memory => rw [honly]; exact ⟨rfl, rfl, rfl, rfl⟩
    case queues => rw [honly]; rfl
    case out => rw [honly]; rfl

end Sys2Proof.Machine
end

section
/-!
PROOFS. The end of holding the Dome (R184, R189, R200 - R204, R243, R327, R377): what a completion record counts, writes and
sends, and what the Dome's release leaves.
-/
namespace Sys2Proof.Machine

open Sys2Proof

/-! ### What is sent to the host -/

/-- A posted write changes one counter and what is sent or held. -/
theorem hostWrite_only (d : Device) (f : Nat) (pasid : Option Nat) (a : Nat) (bs : List Byte) (ep : Bool) :
    d.hostWrite f pasid a bs ep = { d with
      regs := (d.hostWrite f pasid a bs ep).regs, out := (d.hostWrite f pasid a bs ep).out
      hif := { d.hif with held := (d.hostWrite f pasid a bs ep).hif.held } } ∧
    SameRegs [Reg.hifWrDiscardCnt] d (d.hostWrite f pasid a bs ep) := by
  rcases hostWrite_cases d f pasid a bs ep with ⟨_, h⟩ | ⟨_, _, _, h⟩ | ⟨_, _, _, h⟩ | ⟨_, b, h⟩ <;> rw [h]
  · exact ⟨rfl, (onlyRegs_bump d _ 1).2⟩
  · exact ⟨rfl, fun _ _ => rfl⟩
  · exact ⟨rfl, fun _ _ => rfl⟩
  · exact ⟨rfl, fun _ _ => rfl⟩

/-- A function that issues requests and translates none writes at once. -/
theorem hostWrite_direct {d : Device} {f : Nat} (hcan : d.canIssue f = true) (hats : d.usesAts f = false) (pasid : Option Nat)
    (a : Nat) (bs : List Byte) (ep : Bool) : d.hostWrite f pasid a bs ep = d.emit (.hostWrite f pasid a bs ep) := by
  simp [Device.hostWrite, Device.hostOk, hcan, hats]

theorem canIssue_congr {d d' : Device} (hreg : d'.reg Reg.hifStatus = d.reg Reg.hifStatus) (hfuncs : d'.hif.funcs = d.hif.funcs)
    (hhold : d'.hif.hold = d.hif.hold) (f : Nat) : d'.canIssue f = d.canIssue f := by
  simp only [Device.canIssue, Device.regBit, Device.func, hreg, hfuncs, hhold]

theorem usesAts_congr {d d' : Device} (hreg : d'.reg Reg.hifCtl = d.reg Reg.hifCtl) (hfuncs : d'.hif.funcs = d.hif.funcs)
    (f : Nat) : d'.usesAts f = d.usesAts f := by
  simp only [Device.usesAts, Device.regBit, Device.func, hreg, hfuncs]

theorem pasid_congr {d d' : Device} {ring : Nat} (hreg : d'.reg (Reg.hifRingCtl ring) = d.reg (Reg.hifRingCtl ring)) :
    d'.pasid ring = d.pasid ring := by
  rw [Device.pasid, Device.pasid, Device.regBit, Device.regBit, Device.regF, Device.regF, hreg]

/-! ### Counters of the end states (R202) -/

theorem onlyRegs_countEnd (d : Device) (status : Nat) :
    OnlyRegs [Reg.lntTaskCnt, Reg.lntAbortCnt, Reg.lntFaultCnt, Reg.lntRefuseCnt] d (d.countEnd status) := by
  have htask : OnlyRegs [Reg.lntTaskCnt, Reg.lntAbortCnt, Reg.lntFaultCnt, Reg.lntRefuseCnt] d (d.bump Reg.lntTaskCnt 1) :=
    (OnlyRegs.refl d _).bump (by simp) 1
  unfold Device.countEnd
  dsimp only
  split
  · exact htask.bump (by simp) 1
  split
  · exact htask.bump (by simp) 1
  split
  · exact htask.bump (by simp) 1
  · exact htask

theorem reg_countEnd_task (d : Device) (status : Nat) : (d.countEnd status).reg Reg.lntTaskCnt = d.reg Reg.lntTaskCnt + 1 := by
  have hb (a : Nat) (ha : Reg.lntTaskCnt ≠ a) :
      ((d.bump Reg.lntTaskCnt 1).bump a 1).reg Reg.lntTaskCnt = d.reg Reg.lntTaskCnt + 1 :=
    (reg_bump_ne _ 1 ha).trans (reg_bump d _ 1)
  unfold Device.countEnd
  dsimp only
  split
  · exact hb _ (by decide)
  split
  · exact hb _ (by decide)
  split
  · exact hb _ (by decide)
  · exact reg_bump d _ 1

/-- An OK task moves no counter but that of all tasks. -/
theorem countEnd_ok (d : Device) : d.countEnd 8 = d.bump Reg.lntTaskCnt 1 := rfl

theorem reg_countEnd_aborted (d : Device) : (d.countEnd 0xA).reg Reg.lntAbortCnt = d.reg Reg.lntAbortCnt + 1 := by
  have h : d.countEnd 0xA = (d.bump Reg.lntTaskCnt 1).bump Reg.lntAbortCnt 1 := rfl
  rw [h, reg_bump, reg_bump_ne _ _ (by decide)]
  rfl

theorem reg_countEnd_dropTask (d : Device) (id status a : Nat) :
    ((d.dropTask id).countEnd status).reg a = (d.countEnd status).reg a := by
  have h : (d.dropTask id).countEnd status = (d.countEnd status).dropTask id := by
    unfold Device.countEnd
    dsimp only
    split
    · rfl
    split
    · rfl
    split <;> rfl
  rw [h, reg_dropTask]

/-! ### The context record after a completion record (R203, R204) -/

/-- The words of a context record that a completion record changes. -/
def ctxRegs (n : Nat) : List Nat := [Reg.ctxW0 n, Reg.ctxW1 n, Reg.ctxW2 n, Reg.ctxW3 n]

theorem mem_ctxRegs_above {n a : Nat} (h : a ∈ ctxRegs n) : 0x2000000 ≤ a := by
  simp only [ctxRegs, List.mem_cons, List.not_mem_nil, or_false, Reg.ctxW0, Reg.ctxW1, Reg.ctxW2, Reg.ctxW3] at h
  omega

theorem onlyRegs_refreshPend (d : Device) (n : Nat) : OnlyRegs [Reg.ctxW1 n] d (d.refreshPend n) := by
  unfold Device.refreshPend
  split
  · exact onlyRegs_setF d _ _ _ _
  · exact OnlyRegs.refl d _

theorem onlyRegs_endContext (d : Device) (t : Task) (status fin : Nat) :
    OnlyRegs (ctxRegs t.ctx) d (d.endContext t status fin) := by
  unfold Device.endContext
  dsimp only
  split
  · have h0 : Reg.ctxW0 t.ctx ∈ ctxRegs t.ctx := by simp [ctxRegs]
    have h1 : Reg.ctxW1 t.ctx ∈ ctxRegs t.ctx := by simp [ctxRegs]
    have h2 : Reg.ctxW2 t.ctx ∈ ctxRegs t.ctx := by simp [ctxRegs]
    have h3 : Reg.ctxW3 t.ctx ∈ ctxRegs t.ctx := by simp [ctxRegs]
    exact (((((OnlyRegs.refl d _).setF h0 _ _ _).setF h1 _ _ _).setReg h2 _).setF h3 _ _ _).trans
      ((onlyRegs_refreshPend _ t.ctx).mono (by simpa using h1))
  · exact OnlyRegs.refl d _

theorem ctx_zero (d : Device) (n : Nat) : d.ctx n 0 = d.reg (Reg.ctxW0 n) := rfl

theorem ctx_two (d : Device) (n : Nat) : d.ctx n 2 = d.reg (Reg.ctxW2 n) := by
  have h : Reg.ctxW0 n + 8 * 2 = Reg.ctxW2 n := by
    unfold Reg.ctxW0 Reg.ctxW2
    omega
  rw [Device.ctx, h]

section
variable (d : Device) {t : Task} (hn : t.ctx ≤ 49151) (fin : Nat)
include hn

/-- STATUS shows the end state, or that the context has more tasks. -/
theorem status_endContext (status : Nat) : fld ((d.endContext t status fin).reg (Reg.ctxW0 t.ctx)) 20 4 =
    (if (d.ctxTasks t.ctx).isEmpty then status else 5) % 16 := by
  have h1 : Reg.ctxW0 t.ctx ≠ Reg.ctxW1 t.ctx := by unfold Reg.ctxW0 Reg.ctxW1; omega
  have h2 : Reg.ctxW0 t.ctx ≠ Reg.ctxW2 t.ctx := by unfold Reg.ctxW0 Reg.ctxW2; omega
  have h3 : Reg.ctxW0 t.ctx ≠ Reg.ctxW3 t.ctx := by unfold Reg.ctxW0 Reg.ctxW3; omega
  simp only [Device.endContext, hn, if_true]
  rw [(onlyRegs_refreshPend _ t.ctx).2 _ (by simpa using h1), reg_setF_ne _ _ _ _ h3, reg_setReg_ne _ _ h2,
    reg_setF_ne _ _ _ _ h1, reg_setF, fld_putFld _ _ (by decide)]
  cases (d.ctxTasks t.ctx).isEmpty <;> rfl

/-- W2 is the gcyc of the completion record. -/
theorem fin_endContext (status : Nat) : (d.endContext t status fin).reg (Reg.ctxW2 t.ctx) = BitVec.ofNat 64 fin := by
  have h1 : Reg.ctxW2 t.ctx ≠ Reg.ctxW1 t.ctx := by unfold Reg.ctxW2 Reg.ctxW1; omega
  have h3 : Reg.ctxW2 t.ctx ≠ Reg.ctxW3 t.ctx := by unfold Reg.ctxW2 Reg.ctxW3; omega
  simp only [Device.endContext, hn, if_true]
  rw [(onlyRegs_refreshPend _ t.ctx).2 _ (by simpa using h1), reg_setF_ne _ _ _ _ h3, reg_setReg]

end

/-! ### Completion records (R200, R377) -/

/-- Registers that a completion record writes beside the counters of R202. -/
def recordRegs (t : Task) : List Nat := Reg.hifRingSeq t.ring :: Reg.hifWrDiscardCnt :: ctxRegs t.ctx

theorem not_mem_recordRegs {t : Task} (hring : t.ring < 256) {a : Nat} (h : 0x300000 ≤ a) (h' : a < 0x2000000) :
    a ∉ recordRegs t := by
  simp only [recordRegs, List.mem_cons, not_or]
  refine ⟨?_, ?_, fun hm => ?_⟩
  · unfold Reg.hifRingSeq; omega
  · unfold Reg.hifWrDiscardCnt; omega
  · have := mem_ctxRegs_above hm; omega

section
variable (d : Device) (t : Task) (e : EndRecord) (fin : Nat)

/-- The device with the task gone and counted, and its context record written. -/
def Device.closedTask : Device := ((d.dropTask t.id).countEnd e.status).endContext t e.status fin

/-- The device with bytes 0-55 of the record sent. -/
def Device.wroteRecord : Device :=
  (d.closedTask t e fin).hostWrite (ringFunc d t.ring) ((d.closedTask t e fin).pasid t.ring) (wd t.words 1).toNat
    (wordsBytes (recordWords t e fin)) false

/-- The device with the ring's next SEQ taken. -/
def Device.tookRingSeq : Device :=
  (d.wroteRecord t e fin).setReg (Reg.hifRingSeq t.ring) ((d.wroteRecord t e fin).reg (Reg.hifRingSeq t.ring) + 1)

/-- The device with the whole record sent. -/
def Device.sentRecord : Device :=
  (d.tookRingSeq t e fin).hostWrite (ringFunc d t.ring) ((d.tookRingSeq t e fin).pasid t.ring) ((wd t.words 1).toNat + 56)
    (natBytes 8 ((d.wroteRecord t e fin).reg (Reg.hifRingSeq t.ring) + 1).toNat) false

/-- The message of a record follows in the next gcyc, where the task asks for one (R378). -/
def msixAfter (t : Task) (f fin : Nat) : List Due :=
  if bit (wd t.words 0) 30 then [{ at_ := fin + 1, act := .msix f (fld (wd t.words 0) 32 5) }] else []

theorem putRecord_eq : d.putRecord t e fin = { d.sentRecord t e fin with lantern := { (d.sentRecord t e fin).lantern with
    dues := (d.sentRecord t e fin).lantern.dues ++ msixAfter t (ringFunc d t.ring) fin } } := by
  unfold msixAfter
  cases h : bit (wd t.words 0) 30 with
  | true => exact if_pos h
  | false =>
    rw [if_neg (by decide), List.append_nil]
    exact if_neg (by simp [h])

theorem closedTask_only : d.closedTask t e fin = { d with
    regs := (d.closedTask t e fin).regs
    lantern := { d.lantern with tasks := d.lantern.tasks.filter (fun u => u.id != t.id) } } := by
  rw [Device.closedTask, (onlyRegs_endContext _ t e.status fin).1, (onlyRegs_countEnd _ e.status).1]
  rfl

theorem sentRecord_only : d.sentRecord t e fin = { d with
    regs := (d.sentRecord t e fin).regs, out := (d.sentRecord t e fin).out
    lantern := { d.lantern with tasks := d.lantern.tasks.filter (fun u => u.id != t.id) }
    hif := { d.hif with held := (d.sentRecord t e fin).hif.held } } := by
  rw [Device.sentRecord, (hostWrite_only _ _ _ _ _ _).1, Device.tookRingSeq, Device.wroteRecord,
    (hostWrite_only (d.closedTask t e fin) _ _ _ _ _).1, closedTask_only]
  rfl

/-- A record changes registers, the tasks, what is sent or held, and what is to come. -/
theorem putRecord_only : d.putRecord t e fin = { d with
    regs := (d.putRecord t e fin).regs, out := (d.putRecord t e fin).out
    lantern := { d.lantern with
      tasks := d.lantern.tasks.filter (fun u => u.id != t.id)
      dues := d.lantern.dues ++ msixAfter t (ringFunc d t.ring) fin }
    hif := { d.hif with held := (d.putRecord t e fin).hif.held } } := by
  rw [putRecord_eq, sentRecord_only]

theorem reg_putRecord (a : Nat) : (d.putRecord t e fin).reg a = (d.sentRecord t e fin).reg a := by
  rw [putRecord_eq]
  rfl

theorem reg_sentRecord_closed {a : Nat} (hd : a ≠ Reg.hifWrDiscardCnt) (hs : a ≠ Reg.hifRingSeq t.ring) :
    (d.sentRecord t e fin).reg a = (d.closedTask t e fin).reg a := by
  have hnot : a ∉ [Reg.hifWrDiscardCnt] := by simpa using hd
  rw [Device.sentRecord, (hostWrite_only _ _ _ _ _ _).2 a hnot, Device.tookRingSeq, reg_setReg_ne _ _ hs, Device.wroteRecord,
    (hostWrite_only _ _ _ _ _ _).2 a hnot]

/-- Where the counters of end states and the context store do not lie, registers are as before. -/
theorem reg_closedTask {a : Nat} (h : a < 0x300000) : (d.closedTask t e fin).reg a = d.reg a := by
  have hctx : a ∉ ctxRegs t.ctx := fun hm => by have := mem_ctxRegs_above hm; omega
  have hcnt : a ∉ [Reg.lntTaskCnt, Reg.lntAbortCnt, Reg.lntFaultCnt, Reg.lntRefuseCnt] := by
    simp only [List.mem_cons, List.not_mem_nil, or_false, Reg.lntTaskCnt, Reg.lntAbortCnt, Reg.lntFaultCnt, Reg.lntRefuseCnt]
    omega
  rw [Device.closedTask, (onlyRegs_endContext _ t e.status fin).2 a hctx, (onlyRegs_countEnd _ e.status).2 a hcnt]
  rfl

/-- Every register outside the context record and the ring is as the counters leave it. -/
theorem reg_putRecord_other {a : Nat} (h : a ∉ recordRegs t) : (d.putRecord t e fin).reg a = (d.countEnd e.status).reg a := by
  simp only [recordRegs, List.mem_cons, not_or] at h
  obtain ⟨hs, hd, hc⟩ := h
  rw [reg_putRecord, reg_sentRecord_closed d t e fin hd hs, Device.closedTask, (onlyRegs_endContext _ t e.status fin).2 a hc,
    reg_countEnd_dropTask]

theorem ctxTasks_closing (n status : Nat) :
    ((d.dropTask t.id).countEnd status).ctxTasks n =
      (d.lantern.tasks.filter (fun u => u.id != t.id)).filter (fun u => u.ctx == n) := by
  rw [Device.ctxTasks, (onlyRegs_countEnd _ status).1]
  rfl

/-- STATUS of the task's context shows the end state, or that the context has more tasks. -/
theorem status_putRecord (hn : t.ctx ≤ 49151) :
    fld ((d.putRecord t e fin).ctx t.ctx 0) 20 4 =
      (if (d.lantern.tasks.filter (fun u => u.id != t.id)).any (fun u => u.ctx == t.ctx) then 5 else e.status) % 16 := by
  have hd : Reg.ctxW0 t.ctx ≠ Reg.hifWrDiscardCnt := by unfold Reg.ctxW0 Reg.hifWrDiscardCnt; omega
  have hs : Reg.ctxW0 t.ctx ≠ Reg.hifRingSeq t.ring := by unfold Reg.ctxW0 Reg.hifRingSeq; omega
  have hmore (l : List Task) : (l.filter (fun u => u.ctx == t.ctx)).isEmpty = !l.any (fun u => u.ctx == t.ctx) := by
    rw [Bool.eq_iff_iff, List.isEmpty_iff, List.filter_eq_nil_iff, Bool.not_eq_true', List.any_eq_false]
  rw [ctx_zero, reg_putRecord, reg_sentRecord_closed d t e fin hd hs, Device.closedTask, status_endContext _ hn,
    ctxTasks_closing, hmore]
  cases (d.lantern.tasks.filter (fun u => u.id != t.id)).any (fun u => u.ctx == t.ctx) <;> rfl

/-- W2 of the task's context is the gcyc of the record. -/
theorem fin_putRecord (hn : t.ctx ≤ 49151) : (d.putRecord t e fin).ctx t.ctx 2 = BitVec.ofNat 64 fin := by
  have hd : Reg.ctxW2 t.ctx ≠ Reg.hifWrDiscardCnt := by unfold Reg.ctxW2 Reg.hifWrDiscardCnt; omega
  have hs : Reg.ctxW2 t.ctx ≠ Reg.hifRingSeq t.ring := by unfold Reg.ctxW2 Reg.hifRingSeq; omega
  rw [ctx_two, reg_putRecord, reg_sentRecord_closed d t e fin hd hs, Device.closedTask, fin_endContext _ hn]

section
variable {t} (hring : t.ring < 256)
include hring

theorem hifRingSeq_mem_low : Reg.hifRingSeq t.ring < 0x300000 := by unfold Reg.hifRingSeq; omega

theorem seq_wroteRecord : (d.wroteRecord t e fin).reg (Reg.hifRingSeq t.ring) = d.reg (Reg.hifRingSeq t.ring) := by
  have hd : Reg.hifRingSeq t.ring ∉ [Reg.hifWrDiscardCnt] := by
    simp only [List.mem_singleton, Reg.hifRingSeq, Reg.hifWrDiscardCnt]
    omega
  rw [Device.wroteRecord, (hostWrite_only _ _ _ _ _ _).2 _ hd, reg_closedTask d t e fin (hifRingSeq_mem_low hring)]

/-- The ring's SEQ counts the record. -/
theorem seq_putRecord : (d.putRecord t e fin).reg (Reg.hifRingSeq t.ring) = d.reg (Reg.hifRingSeq t.ring) + 1 := by
  have hd : Reg.hifRingSeq t.ring ∉ [Reg.hifWrDiscardCnt] := by
    simp only [List.mem_singleton, Reg.hifRingSeq, Reg.hifWrDiscardCnt]
    omega
  rw [reg_putRecord, Device.sentRecord, (hostWrite_only _ _ _ _ _ _).2 _ hd, Device.tookRingSeq, reg_setReg,
    seq_wroteRecord d e fin hring]

/-- A function that issues requests and translates none sends the record in two writes: its words, then W7 with the SEQ. -/
theorem out_putRecord (hcan : d.canIssue (ringFunc d t.ring) = true) (hats : d.usesAts (ringFunc d t.ring) = false) :
    (d.putRecord t e fin).out = d.out ++
      [.hostWrite (ringFunc d t.ring) (d.pasid t.ring) (wd t.words 1).toNat (wordsBytes (recordWords t e fin)) false,
       .hostWrite (ringFunc d t.ring) (d.pasid t.ring) ((wd t.words 1).toNat + 56)
        (natBytes 8 (d.reg (Reg.hifRingSeq t.ring) + 1).toNat) false] := by
  have hctl : Reg.hifRingCtl t.ring < 0x300000 := by unfold Reg.hifRingCtl; omega
  have hlow {a : Nat} (ha : a < 0x300000) : (d.closedTask t e fin).reg a = d.reg a := reg_closedTask d t e fin ha
  have hhif : (d.closedTask t e fin).hif = d.hif := by rw [closedTask_only]
  have hcan1 : (d.closedTask t e fin).canIssue (ringFunc d t.ring) = true :=
    (canIssue_congr (hlow (by decide)) (congrArg Hif.funcs hhif) (congrArg Hif.hold hhif) _).trans hcan
  have hats1 : (d.closedTask t e fin).usesAts (ringFunc d t.ring) = false :=
    (usesAts_congr (hlow (by decide)) (congrArg Hif.funcs hhif) _).trans hats
  have hwrote : d.wroteRecord t e fin = (d.closedTask t e fin).emit
      (.hostWrite (ringFunc d t.ring) (d.pasid t.ring) (wd t.words 1).toNat (wordsBytes (recordWords t e fin)) false) := by
    rw [Device.wroteRecord, hostWrite_direct hcan1 hats1, pasid_congr (hlow hctl)]
  have hne {a : Nat} (ha : a % 64 ≠ 32) : a ≠ Reg.hifRingSeq t.ring := by unfold Reg.hifRingSeq; omega
  have htook {a : Nat} (ha : a < 0x300000) (hs : a % 64 ≠ 32) : (d.tookRingSeq t e fin).reg a = d.reg a := by
    rw [Device.tookRingSeq, reg_setReg_ne _ _ (hne hs), hwrote, reg_emit, hlow ha]
  have hhif2 : (d.tookRingSeq t e fin).hif = d.hif := by
    rw [Device.tookRingSeq, setReg_hif, hwrote, emit_hif, hhif]
  have hcan2 : (d.tookRingSeq t e fin).canIssue (ringFunc d t.ring) = true :=
    (canIssue_congr (htook (by decide) (by decide)) (congrArg Hif.funcs hhif2) (congrArg Hif.hold hhif2) _).trans hcan
  have hats2 : (d.tookRingSeq t e fin).usesAts (ringFunc d t.ring) = false :=
    (usesAts_congr (htook (by decide) (by decide)) (congrArg Hif.funcs hhif2) _).trans hats
  have hpasid2 : (d.tookRingSeq t e fin).pasid t.ring = d.pasid t.ring :=
    pasid_congr (htook hctl (by unfold Reg.hifRingCtl; omega))
  have hout : (d.closedTask t e fin).out = d.out := by rw [closedTask_only]
  have hsent : (d.putRecord t e fin).out = (d.sentRecord t e fin).out := by rw [putRecord_eq]
  rw [hsent, Device.sentRecord, hostWrite_direct hcan2 hats2, emit_out, hpasid2, seq_wroteRecord d e fin hring,
    Device.tookRingSeq, setReg_out, hwrote, emit_out, hout, List.append_assoc]
  rfl

end

end

/-! ### The Dome is left (R187, R234, R243, R327) -/

theorem onlyRegs_loadIdleWheels (d : Device) :
    OnlyRegs [Reg.steWheel 0, Reg.steWheel 1, Reg.steWheel 2, Reg.steWheel 3] d d.loadIdleWheels := by
  refine OnlyRegs.foldl (fun k hk e => (onlyRegs_setReg e _ _).mono ?_) d
  have hk4 : k < 4 := List.mem_range.1 hk
  interval_cases k <;> simp

theorem reg_dropTables (d : Device) (a : Nat) : d.dropTables.reg a = d.reg a := rfl

theorem reg_freeDome (d : Device) (g a : Nat) : (d.freeDome g).reg a = d.reg a := rfl

/-- The engines are told to stop, and the links are free of slot tables. -/
def Device.stilled (d : Device) : Device := (d.stopThreads .other).loadIdleWheels.dropTables

theorem stilled_only (d : Device) : d.stilled = { d with
    regs := d.stilled.regs
    streams := { d.streams with threads := d.stilled.streams.threads }
    links := { d.links with tables := [], before := [] } } := by
  rw [Device.stilled, (onlyRegs_loadIdleWheels _).1, stopThreads_only]
  rfl

theorem reg_stilled (d : Device) {a : Nat} (h : a < 0x500000 ∨ 0x540000 ≤ a) : d.stilled.reg a = d.reg a := by
  have ha : a ∉ [Reg.steWheel 0, Reg.steWheel 1, Reg.steWheel 2, Reg.steWheel 3] := by
    simp only [List.mem_cons, List.not_mem_nil, or_false, Reg.steWheel]
    omega
  have hstop : (d.stopThreads .other).reg a = d.reg a := reg_of_regs (by rw [stopThreads_only]) a
  rw [Device.stilled, reg_dropTables, (onlyRegs_loadIdleWheels _).2 a ha, hstop]

theorem rampDown_only (d : Device) : d.rampDown = { d with dome := d.rampDown.dome } := rfl

theorem reg_rampDown (d : Device) (a : Nat) : d.rampDown.reg a = d.reg a := reg_setGroups d _ a

theorem leaveDome_eq (d : Device) (g : Nat) : d.leaveDome g = d.stilled.rampDown.freeDome g := rfl

/-- Leaving the Dome touches the wheels, the threads, the slot tables, the Dome itself, and when it is free. -/
theorem leaveDome_only (d : Device) (g : Nat) : d.leaveDome g = { d with
    regs := (d.leaveDome g).regs
    lantern := { d.lantern with run := none, domeFree := g }
    hif := { d.hif with idleSince := g }
    streams := { d.streams with threads := (d.leaveDome g).streams.threads }
    links := { d.links with tables := [], before := [] }
    dome := (d.leaveDome g).dome } := by
  rw [leaveDome_eq, rampDown_only, stilled_only]
  rfl

theorem reg_leaveDome (d : Device) (g : Nat) {a : Nat} (h : a < 0x500000 ∨ 0x540000 ≤ a) :
    (d.leaveDome g).reg a = d.reg a := by
  rw [leaveDome_eq, reg_freeDome, reg_rampDown, reg_stilled d h]

theorem armIdle_only (d : Device) (g : Nat) :
    d.armIdle g = { d with belfry := { d.belfry with idleFrom := (d.armIdle g).belfry.idleFrom } } := by
  unfold Device.armIdle
  split
  · rfl
  · rfl

theorem nextHead_of_later {d : Device} (n : Nat) {g : Nat} (h : d.now < g) : d.nextHead n g = d.dueAt g (.head n) := if_pos h

/-! ### The record of the task that holds the Dome (R189, R200) -/

/-- The device with the task of the Dome gone: a local one with its completion record, a member's part of a cluster task
without. -/
def Device.recorded (d : Device) (t : Task) (e : EndRecord) (fin : Nat) : Device :=
  if t.remote then (d.dropTask t.id).countEnd e.status else d.putRecord t e fin

section
variable (d : Device) (t : Task) (e : EndRecord) (fin : Nat)

theorem recorded_local (h : t.remote = false) : d.recorded t e fin = d.putRecord t e fin := if_neg (by simp [h])

theorem recorded_remote (h : t.remote = true) : d.recorded t e fin = (d.dropTask t.id).countEnd e.status := if_pos h

theorem recorded_only : d.recorded t e fin = { d with
    regs := (d.recorded t e fin).regs, out := (d.recorded t e fin).out
    lantern := { d.lantern with
      tasks := d.lantern.tasks.filter (fun u => u.id != t.id), dues := (d.recorded t e fin).lantern.dues }
    hif := { d.hif with held := (d.recorded t e fin).hif.held } } := by
  cases h : t.remote with
  | true =>
    rw [recorded_remote d t e fin h, (onlyRegs_countEnd _ e.status).1]
    rfl
  | false => rw [recorded_local d t e fin h, putRecord_only]

theorem reg_recorded {a : Nat} (h : a ∉ recordRegs t) : (d.recorded t e fin).reg a = (d.countEnd e.status).reg a := by
  cases hr : t.remote with
  | true => rw [recorded_remote d t e fin hr, reg_countEnd_dropTask]
  | false => rw [recorded_local d t e fin hr, reg_putRecord_other d t e fin h]

variable (r : Run)

/-- What the task that leaves the Dome leaves in its bank: saved where it ends OK, dropped otherwise (R207). -/
def Run.saveAt (r : Run) (fin : Nat) : Save := { ctx := r.ctx, bank := r.bank, done := fin + 15 }

/-- The bank of a task that does not end OK is dropped, and the next task of its context becomes head in the next gcyc. -/
def Device.dropBank (d : Device) (r : Run) (fin : Nat) : Device :=
  (({ d with lantern := { d.lantern with oldBank := some (r.saveAt fin) } }).nextHead r.ctx (fin + 1)).armIdle (fin + 15)

theorem dropBank_only (h : d.now < fin + 1) : d.dropBank r fin = { d with
    belfry := { d.belfry with idleFrom := (d.dropBank r fin).belfry.idleFrom }
    lantern := { d.lantern with
      oldBank := some (r.saveAt fin), dues := d.lantern.dues ++ [{ at_ := fin + 1, act := .head r.ctx }] } } := by
  have hhead : ({ d with lantern := { d.lantern with oldBank := some (r.saveAt fin) } } : Device).nextHead r.ctx (fin + 1) =
      ({ d with lantern := { d.lantern with oldBank := some (r.saveAt fin) } } : Device).dueAt (fin + 1) (.head r.ctx) :=
    nextHead_of_later _ h
  rw [Device.dropBank, armIdle_only, hhead]
  rfl

theorem finishTask_eq (hq : r.queues = []) : d.finishTask r t e fin =
    if e.status = 8 then { (d.recorded t e fin).leaveDome (fin + 1) with
      lantern := { ((d.recorded t e fin).leaveDome (fin + 1)).lantern with save := some (r.saveAt fin) } }
    else ((d.recorded t e fin).leaveDome (fin + 1)).dropBank r fin := by
  unfold Device.finishTask
  rw [hq]
  rfl

theorem now_leaveDome_recorded (g : Nat) : ((d.recorded t e fin).leaveDome g).now = d.now := by
  rw [Device.now, leaveDome_only, recorded_only]
  rfl

/-- A task that took no cells ends: its record, the Dome free, and its bank saved or dropped. -/
theorem finishTask_only (hq : r.queues = []) (hfin : e.status ≠ 8 → d.now ≤ fin) : d.finishTask r t e fin = { d with
    regs := (d.finishTask r t e fin).regs, out := (d.recorded t e fin).out
    belfry := { d.belfry with idleFrom := (d.finishTask r t e fin).belfry.idleFrom }
    lantern := { d.lantern with
      run := none, domeFree := fin + 1, tasks := d.lantern.tasks.filter (fun u => u.id != t.id)
      dues := (d.finishTask r t e fin).lantern.dues
      save := if e.status = 8 then some (r.saveAt fin) else d.lantern.save
      oldBank := if e.status = 8 then d.lantern.oldBank else some (r.saveAt fin) }
    hif := { d.hif with held := (d.recorded t e fin).hif.held, idleSince := fin + 1 }
    streams := { d.streams with threads := (d.finishTask r t e fin).streams.threads }
    links := { d.links with tables := [], before := [] }
    dome := (d.finishTask r t e fin).dome } := by
  rw [finishTask_eq d t e fin r hq]
  by_cases he : e.status = 8
  · simp only [if_pos he]
    rw [leaveDome_only, recorded_only]
  · simp only [if_neg he]
    have hlater : ((d.recorded t e fin).leaveDome (fin + 1)).now < fin + 1 := by
      rw [now_leaveDome_recorded]
      exact Nat.lt_succ_of_le (hfin he)
    rw [dropBank_only _ fin r hlater, leaveDome_only, recorded_only]

theorem reg_withSave (d : Device) (v : Option Save) (a : Nat) :
    ({ d with lantern := { d.lantern with save := v } } : Device).reg a = d.reg a := rfl

/-- Every register but a wheel is as the record leaves it. -/
theorem reg_finishTask (hq : r.queues = []) (hfin : e.status ≠ 8 → d.now ≤ fin) {a : Nat}
    (h : a < 0x500000 ∨ 0x540000 ≤ a) : (d.finishTask r t e fin).reg a = (d.recorded t e fin).reg a := by
  rw [finishTask_eq d t e fin r hq]
  by_cases he : e.status = 8
  · rw [if_pos he, reg_withSave, reg_leaveDome _ _ h]
  · have hlater : ((d.recorded t e fin).leaveDome (fin + 1)).now < fin + 1 := by
      rw [now_leaveDome_recorded]
      exact Nat.lt_succ_of_le (hfin he)
    have hregs : (((d.recorded t e fin).leaveDome (fin + 1)).dropBank r fin).regs =
        ((d.recorded t e fin).leaveDome (fin + 1)).regs := by rw [dropBank_only _ fin r hlater]
    rw [if_neg he, reg_of_regs hregs, reg_leaveDome _ _ h]

/-- Every counter of end states is as R202 says. -/
theorem reg_finishTask_count (hq : r.queues = []) (hfin : e.status ≠ 8 → d.now ≤ fin) (hring : t.ring < 256) {a : Nat}
    (h : 0x300000 ≤ a) (h' : a < 0x500000) : (d.finishTask r t e fin).reg a = (d.countEnd e.status).reg a := by
  rw [reg_finishTask d t e fin r hq hfin (.inl h'), reg_recorded d t e fin (not_mem_recordRegs hring h (by omega))]

/-- An OK task leaves nothing to come but the message of its record. -/
theorem dues_finishTask (hq : r.queues = []) (he : e.status = 8) (hlocal : t.remote = false) :
    (d.finishTask r t e fin).lantern.dues = d.lantern.dues ++ msixAfter t (ringFunc d t.ring) fin := by
  have hdues : ((d.recorded t e fin).leaveDome (fin + 1)).lantern.dues = (d.recorded t e fin).lantern.dues := by
    rw [leaveDome_only]
  rw [finishTask_eq d t e fin r hq, if_pos he]
  dsimp only
  rw [hdues, recorded_local d t e fin hlocal, putRecord_only]

end

end Sys2Proof.Machine
end

section
/-!
PROOFS. The end state of the task that holds the Dome (R184, R188, R189, R193, R198, R200, R202, R203, R207, R377).
-/
namespace Sys2Proof.Machine

open Sys2Proof

/-! ### An automatic restart (R193) -/

/-- The device as a task is restarted, before its next attempt begins. -/
def Device.restarting (d : Device) : Device := ((d.stopThreads .other).bump Reg.lntRestartCnt 1).loadIdleWheels.dropTables

theorem restarting_only (d : Device) : d.restarting = { d with
    regs := d.restarting.regs
    streams := { d.streams with threads := d.restarting.streams.threads }
    links := { d.links with tables := [], before := [] } } := by
  rw [Device.restarting, (onlyRegs_loadIdleWheels _).1, stopThreads_only]
  rfl

theorem reg_restarting (d : Device) {a : Nat} (h : a < 0x500000) : d.restarting.reg a = (d.bump Reg.lntRestartCnt 1).reg a := by
  have ha : a ∉ [Reg.steWheel 0, Reg.steWheel 1, Reg.steWheel 2, Reg.steWheel 3] := by
    simp only [List.mem_cons, List.not_mem_nil, or_false, Reg.steWheel]
    omega
  have hregs : ((d.stopThreads .other).bump Reg.lntRestartCnt 1).regs = (d.bump Reg.lntRestartCnt 1).regs := by
    rw [stopThreads_only]
    rfl
  rw [Device.restarting, reg_dropTables, (onlyRegs_loadIdleWheels _).2 a ha, reg_of_regs hregs]

theorem restartTask_eq (d : Device) {r : Run} (hq : r.queues = []) (t : Task) (g : Nat) (ecc : List (Fin 16 × Bool)) :
    d.restartTask r t g ecc = d.restarting.beginRun t (d.restarting.newRun t g (r.retries + 1) r.bank []) ecc := by
  unfold Device.restartTask
  rw [hq]
  rfl

section
variable {d : Device} {r : Run} (hq : r.queues = []) (t : Task) (g : Nat)
include hq

theorem reg_restartTask {a : Nat} (h : a < 0x500000) (hc : a ∉ [Reg.errUncorrCnt, Reg.errCorrCnt])
    (hp : a ∉ [Reg.pwrStatus, Reg.pwrWakeCnt]) : (d.restartTask r t g []).reg a = (d.bump Reg.lntRestartCnt 1).reg a := by
  rw [restartTask_eq d hq, reg_beginRun_loaded _ _ _ rfl rfl hp, reg_loaded _ _ _ _ (by omega) hc, reg_restarting d h]

/-- The attempt that a restart begins: one more than the last, in the bank that the task has. -/
theorem run_restartTask : ∃ u, (d.restartTask r t g []).lantern.run = some u ∧ u.task = t.id ∧ u.retries = r.retries + 1 ∧
    u.bank = r.bank ∧ u.sel = g ∧ u.poisoned = false ∧ u.nextStep = 0 := by
  obtain ⟨u, -, hclean, hrun⟩ := run_beginRun d.restarting t []
    (r := d.restarting.newRun t g (r.retries + 1) r.bank []) rfl rfl
  rw [← restartTask_eq d hq] at hrun
  obtain rfl := hclean rfl
  refine ⟨_, hrun, ?_⟩
  split <;> exact ⟨rfl, rfl, rfl, rfl, rfl, rfl⟩

theorem task_restartTask (id : Nat) :
    (d.restartTask r t g []).task id = (d.mapTask t.id (·.startingFrom g)).task id := by
  have h := beginRun_only d.restarting t [] (r := d.restarting.newRun t g (r.retries + 1) r.bank []) rfl rfl
  rw [← restartTask_eq d hq] at h
  refine task_congr ?_ id
  rw [h, restarting_only]
  rfl

theorem kept_restartTask : SameMemory d (d.restartTask r t g []) ∧ (d.restartTask r t g []).out = d.out := by
  have h := beginRun_only d.restarting t [] (r := d.restarting.newRun t g (r.retries + 1) r.bank []) rfl rfl
  rw [← restartTask_eq d hq] at h
  rw [h, restarting_only]
  exact ⟨⟨rfl, rfl, rfl, rfl⟩, rfl⟩

end

/-! ### The decision (R184, R189, R193, R198) -/

theorem holder_of_run {d : Device} {r : Run} {t : Task} (hrun : d.lantern.run = some r) (htask : d.task r.task = some t) :
    d.holder = some (r, t) := by
  simp [Device.holder, hrun, htask]

section
variable {d : Device} {r : Run} {t : Task} (hrun : d.lantern.run = some r) (htask : d.task r.task = some t)
  (hst : t.state = .completing) (hdec : r.decided = none) (hnow : t.since + 1 ≤ d.now) (ecc : List (Fin 16 × Bool))
include hrun htask hst hdec hnow

/-- A cluster task's end state is decided and waits for its report. -/
theorem decideEnd_cluster (hclu : r.cluster = true) : d.decideEnd ecc = d.setRun (some { r with decided := some r.status }) := by
  simp [Device.decideEnd, holder_of_run hrun htask, hst, hdec, advance_past hnow, hrun, hclu]

/-- A task that may restart is POISONED: it is counted and attempted again. -/
theorem decideEnd_restart (hclu : r.cluster = false) (hmay : d.mayRestart r r.status = true) :
    d.decideEnd ecc = (d.bump Reg.lntPoisonCnt 1).restartTask r t (t.since + 1) ecc := by
  have h9 : r.status = 9 := by
    simp only [Device.mayRestart, Bool.and_eq_true, decide_eq_true_eq] at hmay
    exact hmay.1.1.1.1
  have hmay' : (d.bump Reg.lntPoisonCnt 1).mayRestart r 9 = true := by
    rw [← hmay, h9, Device.mayRestart, Device.mayRestart, Device.regBit, Device.regBit, reg_bump_ne _ _ (by decide)]
    rfl
  simp [Device.decideEnd, holder_of_run hrun htask, hst, hdec, advance_past hnow, hrun, hclu, h9, hmay']

/-- An OK task ends. -/
theorem decideEnd_ok (hclu : r.cluster = false) (hok : r.status = 8) :
    d.decideEnd ecc = d.finishTask r t (d.localRecord r 8 (t.since + 1)) (t.since + 1) := by
  simp [Device.decideEnd, holder_of_run hrun htask, hst, hdec, advance_past hnow, hrun, hclu, hok, Device.mayRestart]

end

/-- A word of the context record is as the record of the task leaves it. -/
theorem ctx_finishTask (d : Device) (t : Task) (e : EndRecord) (fin : Nat) {r : Run} (hq : r.queues = [])
    (hfin : e.status ≠ 8 → d.now ≤ fin) (hlocal : t.remote = false) (n w : Nat) : (d.finishTask r t e fin).ctx n w = (d.putRecord t e fin).ctx n w := by
  have ha : 0x540000 ≤ Reg.ctxW0 n + 8 * w := by unfold Reg.ctxW0; omega
  rw [Device.ctx, reg_finishTask d t e fin r hq hfin (.inr ha), recorded_local d t e fin hlocal, Device.ctx]

/-- Settles O17: a cluster task's end state waits for its report, an OK task leaves the Dome with its record, and a task that may
restart begins its next attempt. -/
theorem endStateIsDecidedAndRecorded : Obligations.EndStateIsDecidedAndRecorded := by
  intro s r t ha hrun htask hst hdec hnow
  refine ⟨fun hclu => ?cluster, fun hclu hok hq hlocal hring hctx => ?ok, fun hclu hmay hq => ?restart⟩
  case cluster =>
    exact completes_took (f := (·.decideEnd [])) rfl ha (decideEnd_cluster hrun htask hst hdec hnow [] hclu)
  case ok =>
    refine completes_took (f := (·.decideEnd [])) rfl ha ?_
    have hn : t.ctx ≤ 49151 := by omega
    rw [decideEnd_ok hrun htask hst hdec hnow [] hclu hok]
    generalize he : s.dev.localRecord r 8 (t.since + 1) = e
    have he8 : e.status = 8 := by rw [← he]; rfl
    have hfin : e.status ≠ 8 → s.dev.now ≤ t.since + 1 := fun h => absurd he8 h
    have honly := finishTask_only s.dev t e (t.since + 1) r hq hfin
    have hcount {a : Nat} (h : 0x300000 ≤ a) (h' : a < 0x500000) :
        (s.dev.finishTask r t e (t.since + 1)).reg a = (s.dev.bump Reg.lntTaskCnt 1).reg a := by
      rw [reg_finishTask_count s.dev t e _ r hq hfin hring h h', he8, countEnd_ok]
    refine ⟨?run, ?free, ?save, ?tasks, ?taskCnt, ?faultCnt, ?abortCnt, ?seq, ?status, ?fin, ?memory,
      fun f hf hcan hats => ⟨?out, ?dues⟩⟩
    case run => rw [honly]
    case free => rw [honly]
    case save => rw [honly, he8]; rfl
    case tasks => rw [honly]
    case taskCnt => exact (hcount (by decide) (by decide)).trans (reg_bump _ _ _)
    case faultCnt => rw [hcount (by decide) (by decide), reg_bump_ne _ _ (by decide)]
    case abortCnt => rw [hcount (by decide) (by decide), reg_bump_ne _ _ (by decide)]
    case seq =>
      have hlow : Reg.hifRingSeq t.ring < 0x500000 := by unfold Reg.hifRingSeq; omega
      rw [reg_finishTask s.dev t e _ r hq hfin (.inl hlow), recorded_local _ _ _ _ hlocal, seq_putRecord _ _ _ hring]
    case status =>
      rw [ctx_finishTask s.dev t e _ hq hfin hlocal, status_putRecord _ _ _ _ hn, he8]
      split <;> rfl
    case fin => rw [ctx_finishTask s.dev t e _ hq hfin hlocal, fin_putRecord _ _ _ _ hn]
    case memory => rw [honly]; exact ⟨rfl, rfl, rfl, rfl⟩
    case out =>
      subst hf
      have hout : (s.dev.finishTask r t e (t.since + 1)).out = (s.dev.recorded t e (t.since + 1)).out := by rw [honly]
      rw [hout, recorded_local _ _ _ _ hlocal, out_putRecord _ _ _ hring hcan hats, ← he]
      rfl
    case dues =>
      subst hf
      exact dues_finishTask s.dev t e _ r hq he8 hlocal
  case restart =>
    refine completes_took (f := (·.decideEnd [])) rfl ha ?_
    rw [decideEnd_restart hrun htask hst hdec hnow [] hclu hmay]
    have hreg {a : Nat} (h : a < 0x500000) (hc : a ∉ [Reg.errUncorrCnt, Reg.errCorrCnt])
        (hp : a ∉ [Reg.pwrStatus, Reg.pwrWakeCnt]) :=
      reg_restartTask (d := s.dev.bump Reg.lntPoisonCnt 1) hq t (t.since + 1) h hc hp
    refine ⟨?restarts, ?poisons, ?tasks, run_restartTask hq t (t.since + 1), ?state, ?memory, ?out⟩
    case restarts => 
      rw [hreg (by decide) (by decide) (by decide), reg_bump, reg_bump_ne _ _ (by decide)]
      rfl
    case poisons => 
      rw [hreg (by decide) (by decide) (by decide), reg_bump_ne _ _ (by decide), reg_bump]
      rfl
    case tasks => rw [hreg (by decide) (by decide) (by decide), reg_bump_ne _ _ (by decide), reg_bump_ne _ _ (by decide)]
    case state =>
      have hid : t.id = r.task := id_of_task htask
      have htask' : (s.dev.bump Reg.lntPoisonCnt 1).task r.task = some t := htask
      rw [task_restartTask hq, hid, task_mapTask (f := (·.startingFrom (t.since + 1))) _ _ fun _ => rfl, htask']
      rfl
    case memory => exact (onlyRegs_bump s.dev Reg.lntPoisonCnt 1).sameMemory.trans (kept_restartTask hq t (t.since + 1)).1
    case out => exact (kept_restartTask hq t (t.since + 1)).2.trans (bump_out s.dev _ _)

end Sys2Proof.Machine
end

section
/-!
PROOFS. The end of a tally save (R189, R220) and aborts (R190, R197, R202).
-/
namespace Sys2Proof.Machine

open Sys2Proof

/-! ### A tally save (R207, R220) -/

/-- The first `k` tallies of the bank that is being saved put into the context record. -/
def Device.saveTallies (d : Device) (v : Save) (k : Nat) : Device :=
  (List.range k).foldl (fun d i => d.setF (Reg.ctxPt v.ctx (i / 2)) (32 * (i % 2)) 32 (d.tally (16 * v.bank + i))) d

section
variable (d : Device) (v : Save)

theorem saveTallies_succ (k : Nat) : d.saveTallies v (k + 1) =
    (d.saveTallies v k).setF (Reg.ctxPt v.ctx (k / 2)) (32 * (k % 2)) 32 ((d.saveTallies v k).tally (16 * v.bank + k)) := by
  simp [Device.saveTallies, List.range_succ]

theorem onlyRegs_saveTallies {k : Nat} (hk : k ≤ 16) : OnlyRegs ((List.range 8).map (Reg.ctxPt v.ctx)) d (d.saveTallies v k) := by
  refine OnlyRegs.foldl (fun i hi e => (onlyRegs_setF e _ _ _ _).mono ?_) d
  have hi16 : i < k := List.mem_range.1 hi
  simp only [List.mem_singleton, forall_eq]
  exact List.mem_map_of_mem (List.mem_range.2 (by omega))

theorem tally_saveTallies (hn : v.ctx < 65536) {k : Nat} (hk : k ≤ 16) (p : Nat) : (d.saveTallies v k).tally p = d.tally p := by
  have hp : Reg.tlyValue p ∉ (List.range 8).map (Reg.ctxPt v.ctx) := by
    intro hm
    obtain ⟨j, hj, he⟩ := List.mem_map.1 hm
    have hbelow := ctxPt_below hn (List.mem_range.1 hj)
    rw [he] at hbelow
    unfold Reg.tlyValue at hbelow
    omega
  rw [Device.tally, Device.regF, (onlyRegs_saveTallies d v hk).2 _ hp, Device.tally, Device.regF]

theorem savedTally_saveTallies (hn : v.ctx < 65536) {k : Nat} (hk : k ≤ 16) {i : Nat} (hi : i < k) :
    (d.saveTallies v k).savedTally v.ctx i = d.tally (16 * v.bank + i) := by
  induction k with
  | zero => exact absurd hi (Nat.not_lt_zero i)
  | succ k ih =>
    rw [saveTallies_succ, Device.savedTally, tally_saveTallies d v hn (by omega)]
    by_cases hik : i = k
    · subst hik
      rw [regF_setF _ _ _ (by omega)]
      exact Nat.mod_eq_of_lt (fld_lt _ 0 32)
    · rw [← ih (by omega) (by omega), Device.savedTally]
      by_cases hsame : Reg.ctxPt v.ctx (i / 2) = Reg.ctxPt v.ctx (k / 2)
      · unfold Reg.ctxPt at hsame
        have hhalf : i / 2 = k / 2 := by omega
        rw [hhalf, regF_setF_ne _ _ _ (by omega)]
      · exact regF_setF_other _ _ _ _ _ _ hsame

end

theorem settleHead_of_none {d : Device} {n : Nat} (h : d.ctxTasks n = []) (g : Nat) : d.settleHead n g = d := by
  unfold Device.settleHead
  rw [h]
  split <;> rfl

/-- With no task and no attempt, the idle timer runs from gcyc `g` on. -/
theorem armIdle_of_idle {d : Device} (hrun : d.lantern.run = none) (htasks : d.lantern.tasks = []) (g : Nat) :
    d.armIdle g = { d with belfry := { d.belfry with idleFrom := some g } } := by
  simp [Device.armIdle, hrun, htasks]

/-- With no task, no attempt and no save, an end leaves only the idle timer to arm. -/
theorem nextHead_armIdle_of_idle {d : Device} (hrun : d.lantern.run = none) (htasks : d.lantern.tasks = []) (n : Nat) {g : Nat}
    (hg : g ≤ d.now) : (d.nextHead n g).armIdle g = { d with belfry := { d.belfry with idleFrom := some g } } := by
  have hnone : d.ctxTasks n = [] := by rw [Device.ctxTasks, htasks]; rfl
  rw [Device.nextHead, if_neg (by omega), settleHead_of_none hnone, armIdle_of_idle hrun htasks]

/-- The end of a save in its gcyc. -/
theorem saveDone_eq {d : Device} {v : Save} (hsave : d.lantern.save = some v) (hdone : v.done ≤ d.now) :
    d.saveDone = ((({ d.saveTallies v 16 with lantern := { (d.saveTallies v 16).lantern with save := none } } : Device)).nextHead
      v.ctx v.done).armIdle v.done := by
  simp only [Device.saveDone, hsave, advance_past hdone]
  rfl

/-- The end of a save with no task left: the tallies are in the record, and the idle timer runs. -/
theorem saveDone_of_idle {d : Device} {v : Save} (hsave : d.lantern.save = some v) (hdone : v.done ≤ d.now)
    (hrun : d.lantern.run = none) (htasks : d.lantern.tasks = []) :
    d.saveDone = { d with
      regs := (d.saveTallies v 16).regs
      lantern := { d.lantern with save := none }
      belfry := { d.belfry with idleFrom := some v.done } } := by
  obtain ⟨rs, hrs⟩ : ∃ rs, d.saveTallies v 16 = { d with regs := rs } := ⟨_, (onlyRegs_saveTallies d v le_rfl).1⟩
  rw [saveDone_eq hsave hdone, hrs]
  exact nextHead_armIdle_of_idle (d := { d with regs := rs, lantern := { d.lantern with save := none } }) hrun htasks v.ctx hdone

theorem reg_saveDone_of_idle {d : Device} {v : Save} (hsave : d.lantern.save = some v) (hdone : v.done ≤ d.now)
    (hrun : d.lantern.run = none) (htasks : d.lantern.tasks = []) (a : Nat) :
    d.saveDone.reg a = (d.saveTallies v 16).reg a :=
  reg_of_regs (by rw [saveDone_of_idle hsave hdone hrun htasks]) a

/-! ### An abort (R190, R197, R202) -/

/-- Where no cluster task is concerned, an abort is one of the context's own. -/
theorem abortRequest_local {d : Device} {n : Nat} (hrun : ∀ r, d.lantern.run = some r → r.cluster = false)
    (hpend : d.lantern.cluPend = none) (queuedToo : Bool) :
    d.abortRequest n queuedToo = d.abortContext n d.now queuedToo := by
  have hclu : (d.lantern.run.elim false (fun r => r.cluster && r.ctx == n)) = false := by
    cases h : d.lantern.run with
    | none => rfl
    | some r => simp [hrun r h]
  simp only [Device.abortRequest, hclu, hpend]
  rfl

theorem lntAbort_of_valid {w : BitVec 32} (hvalid : bit w 31 = true) (hn : fld w 0 16 ≤ 49151) (d : Device) :
    d.lntAbort w = d.abortRequest (fld w 0 16) (bit w 30) := if_neg (by simp [hvalid, hn])

/-- The attempt aborted in gcyc `g`, from which on it issues no step. -/
def Run.abortedAt (r : Run) (g : Nat) : Run := { r with aborted := true, stopAfter := some g }

/-- An abort of a context whose one task runs: the task issues no further step, and its threads stop. -/
theorem abortContext_running {d : Device} {n : Nat} {t : Task} {r : Run} (hone : d.ctxTasks n = [t]) (hst : t.state = .running)
    (hrun : d.lantern.run = some r) (hstop : r.stopAfter = none) (queuedToo : Bool) (g : Nat) :
    d.abortContext n g queuedToo = (d.setRun (some (r.abortedAt g))).stopThreads .other := by
  simp [Device.abortContext, hone, hst, Device.mapRun, hrun, hstop, Run.abortedAt]

/-- An abort of a context whose one task has not been selected and has consumed nothing: its record is to come. -/
theorem abortContext_waiting {d : Device} {n : Nat} {t : Task} (hone : d.ctxTasks n = [t]) (hst : t.state = .waiting)
    (hcons : t.consumed = []) (queuedToo : Bool) (g : Nat) :
    d.abortContext n g queuedToo = (d.recordUnstarted t 0xA (g + 1)).rearmIdle (g + 1) := by
  simp [Device.abortContext, hone, hst, Device.returnThresholds, hcons]

theorem rearmIdle_only (d : Device) (g : Nat) :
    d.rearmIdle g = { d with belfry := { d.belfry with idleFrom := (d.rearmIdle g).belfry.idleFrom } } := by
  unfold Device.rearmIdle
  split
  · rfl
  · exact armIdle_only d g

/-- What the record of a task that ends ABORTED before its selection says, issued in gcyc `fin` (R190, R201). -/
def Device.abortedRecord (d : Device) (t : Task) (fin : Nat) : EndRecord :=
  { status := 0xA, start := fin, retries := 0, flags := 0, cause := 0, epoch := fld (wd (d.slotHeader t.slot) 0) 32 32,
    firstFault := none, bad := 0, firstBad := none }

/-- The task `t` once it has ended without a start. -/
def Task.endedEarly (t : Task) : Task := { t with state := .ended, consumed := [] }

theorem Task.endedEarly_of_none {t : Task} (hcons : t.consumed = []) : t.endedEarly = { t with state := .ended } := by
  rw [Task.endedEarly, ← hcons]

theorem recordUnstarted_aborted {d : Device} {t : Task} (hlocal : t.remote = false) (fin : Nat) :
    d.recordUnstarted t 0xA fin =
      ((d.mapTask t.id Task.endedEarly).dueAt fin (.record t.id (d.abortedRecord t fin))).refreshPend t.ctx :=
  if_neg (by simp [hlocal])

/-- The one task of a context, waiting, ends ABORTED: its record is to come, and its context's PENDING follows. -/
theorem abortContext_waiting_only {d : Device} {n : Nat} {t : Task} (hone : d.ctxTasks n = [t]) (hst : t.state = .waiting)
    (hcons : t.consumed = []) (hlocal : t.remote = false) (queuedToo : Bool) :
    d.abortContext n d.now queuedToo = { d with
      regs := (d.abortContext n d.now queuedToo).regs
      belfry := { d.belfry with idleFrom := (d.abortContext n d.now queuedToo).belfry.idleFrom }
      lantern := { d.lantern with
        tasks := (d.mapTask t.id Task.endedEarly).lantern.tasks
        dues := d.lantern.dues ++ [{ at_ := d.now + 1, act := .record t.id (d.abortedRecord t (d.now + 1)) }] } } ∧
    SameRegs [Reg.ctxW1 t.ctx] d (d.abortContext n d.now queuedToo) := by
  rw [abortContext_waiting hone hst hcons, recordUnstarted_aborted hlocal]
  obtain ⟨honly, hregs⟩ := onlyRegs_refreshPend ((d.mapTask t.id Task.endedEarly).dueAt (d.now + 1)
    (.record t.id (d.abortedRecord t (d.now + 1)))) t.ctx
  rw [rearmIdle_only]
  refine ⟨?_, fun a ha => hregs a ha⟩
  rw [honly]
  rfl

/-! ### Records of aborted tasks (R190, R202, R203) -/

theorem task_of_only {d : Device} {t : Task} (h : d.lantern.tasks = [t]) : d.task t.id = some t := by
  simp [Device.task, h]

/-- The record that is due takes place, and the next task of the context follows in the next gcyc. -/
theorem act_record {d : Device} {t : Task} (htasks : d.lantern.tasks = [t]) {g : Nat} (hg : d.now ≤ g) (e : EndRecord) :
    d.act g (.record t.id e) = (d.putRecord t e g).dueAt (g + 1) (.head t.ctx) := by
  have hlater : (d.putRecord t e g).now < g + 1 := by
    rw [putRecord_only]
    exact Nat.lt_succ_of_le hg
  simp only [Device.act, task_of_only htasks, nextHead_of_later t.ctx hlater]

section
variable {d : Device} {r : Run} {t : Task} {a : Nat} (hrun : d.lantern.run = some r) (htask : d.task r.task = some t)
  (hstop : r.stopAfter = some a)
include hrun htask hstop

/-- While a DOP or a thread goes on, an aborted task has no record. -/
theorem abortDone_busy (hbusy : d.threadsBusy = true ∨ d.dopsOver = none) : d.abortDone = d := by
  simp only [Device.abortDone, holder_of_run hrun htask, hstop]
  refine if_pos ?_
  rcases hbusy with h | h
  · exact .inr (.inl h)
  · exact .inr (.inr (.inr h))

/-- Once both are over, the task leaves the Dome with its record. -/
theorem abortDone_over {x : Nat} (hst : t.state = .running) (hclu : r.cluster = false) (hdec : r.decided = none)
    (hthreads : d.threadsBusy = false) (hdops : d.dopsOver = some x) (ha : a + 1 ≤ d.now) (hx : x ≤ d.now) :
    d.abortDone = d.finishTask r t (d.localRecord r r.status d.now) d.now := by
  have hfin : max d.now (max (a + 1) x) = d.now := by omega
  simp [Device.abortDone, holder_of_run hrun htask, hst, hdec, hstop, hthreads, hdops, hfin, advance_past le_rfl, hrun, hclu]

end

/-- Settles O18: the idle end of a save, an abort by the state of its task, the record that is due, and the end of an aborted
task. -/
theorem savesAndAborts : Obligations.SavesAndAborts := by
  intro s ha
  refine ⟨fun v hsave hdone hctx hbank hrun htasks => ?save, fun w hw => ?invalid,
    fun w r t hvalid hqueued hn hrun hclu hstop hpend hsave hone hst => ?running,
    fun w t hvalid hn hctx hrun hpend htasks hst hcons hlocal hring e he => ?waiting,
    fun t e g htasks hctx hring he hg d hd => ?record, fun r t a x hrun hclu hstop hdec htask hst =>
      ⟨fun hbusy => ?busy, fun hthreads hdops hpast hx habort hq htasks hlocal hring => ?finished⟩⟩
  case save =>
    refine completes_took (f := Device.saveDone) rfl ha ?_
    have honly := saveDone_of_idle hsave hdone hrun htasks
    have hsaved := onlyRegs_saveTallies s.dev v le_rfl
    have hreg := reg_saveDone_of_idle hsave hdone hrun htasks
    refine ⟨fun i hi => ?_, ?_, ?_, ?_, fun a' ha' => (hreg a').trans (hsaved.2 a' ha')⟩
    · rw [← savedTally_saveTallies s.dev v (by omega) le_rfl hi, Device.savedTally, Device.regF, hreg, Device.regF]
    · rw [honly]
    · rw [honly]
    · rw [honly]; exact ⟨rfl, rfl, rfl, rfl⟩
  case invalid => exact completes_took (f := (·.lntAbort w)) rfl ha (if_pos hw)
  case running =>
    refine completes_took (f := (·.lntAbort w)) rfl ha ?_
    have hlocal : ∀ u, s.dev.lantern.run = some u → u.cluster = false := fun u hu => by
      rw [hrun] at hu
      cases hu
      exact hclu
    rw [lntAbort_of_valid hvalid hn, abortRequest_local hlocal hpend, abortContext_running hone hst hrun hstop]
    refine ⟨?_, fun tk x hx hx1 hx2 => ?_, ?_, ?_, ?_⟩
    · rw [stopThreads_only]; rfl
    · rw [thread_stopThreads .other (d := s.dev.setRun (some (r.abortedAt s.dev.now))) hx hx1 hx2]
      rfl
    · rw [stopThreads_only]; rfl
    · rw [stopThreads_only]; exact ⟨rfl, rfl, rfl, rfl⟩
    · rw [stopThreads_only]; rfl
  case waiting =>
    refine completes_took (f := (·.lntAbort w)) rfl ha ?_
    have hfree : ∀ u, s.dev.lantern.run = some u → u.cluster = false := fun u hu => by
      rw [hrun] at hu
      cases hu
    rw [lntAbort_of_valid hvalid (hn ▸ hctx), abortRequest_local hfree hpend, hn]
    have hone : s.dev.ctxTasks t.ctx = [t] := by simp [Device.ctxTasks, htasks]
    have hended : (s.dev.mapTask t.id Task.endedEarly).lantern.tasks = [{ t with state := .ended }] := by
      simp [Device.mapTask, htasks, Task.endedEarly_of_none hcons]
    obtain ⟨honly, hregs⟩ := abortContext_waiting_only hone hst hcons hlocal (bit w 30)
    refine ⟨?_, hregs, ?_, ?_⟩
    · rw [honly, he, hended]; rfl
    · rw [honly]; exact ⟨rfl, rfl, rfl, rfl⟩
    · rw [honly]
  case record =>
    rw [hd, act_record htasks hg]
    have hreg {a : Nat} (h : 0x300000 ≤ a) (h' : a < 0x2000000) :
        (s.dev.putRecord t e g).reg a = (s.dev.countEnd 0xA).reg a :=
      (reg_putRecord_other s.dev t e g (not_mem_recordRegs hring h h')).trans (by rw [he])
    have hgone : s.dev.lantern.tasks.filter (fun u => u.id != t.id) = [] := by simp [htasks]
    refine ⟨?_, ?_, ?_, ?_, ?_, ?_⟩
    · have hputs : (s.dev.putRecord t e g).lantern.tasks = s.dev.lantern.tasks.filter (fun u => u.id != t.id) := by
        rw [putRecord_only]
      exact hputs.trans hgone
    · exact (hreg (by decide) (by decide)).trans (reg_countEnd_aborted _)
    · exact (hreg (by decide) (by decide)).trans (reg_countEnd_task _ _)
    · have hstatus := status_putRecord s.dev t e g hctx
      rw [hgone, he] at hstatus
      exact hstatus
    · exact fin_putRecord s.dev t e g hctx
    · have hmem : SameMemory s.dev (s.dev.putRecord t e g) := by
        rw [putRecord_only]
        exact ⟨rfl, rfl, rfl, rfl⟩
      exact hmem
  case busy => exact completes_took (f := Device.abortDone) rfl ha (abortDone_busy hrun htask hstop hbusy)
  case finished =>
    refine completes_took (f := Device.abortDone) rfl ha ?_
    have hstatus : r.status = 0xA := if_pos habort
    rw [abortDone_over hrun htask hstop hst hclu hdec hthreads hdops hpast hx, hstatus]
    generalize he : s.dev.localRecord r 0xA s.dev.now = e
    have heA : e.status = 0xA := by rw [← he]; rfl
    have honly := finishTask_only s.dev t e s.dev.now r hq fun _ => le_rfl
    have hcount {a : Nat} (h : 0x300000 ≤ a) (h' : a < 0x500000) :
        (s.dev.finishTask r t e s.dev.now).reg a = (s.dev.countEnd 0xA).reg a := by
      rw [reg_finishTask_count s.dev t e _ r hq (fun _ => le_rfl) hring h h', heA]
    refine ⟨?_, ?_, ?_, ?_, ?_, ?_, ?_⟩
    · rw [honly]
    · rw [honly, htasks]; simp
    · rw [honly, heA]; rfl
    · rw [honly]
    · exact (hcount (by decide) (by decide)).trans (reg_countEnd_aborted _)
    · exact (hcount (by decide) (by decide)).trans (reg_countEnd_task _ _)
    · rw [honly]; exact ⟨rfl, rfl, rfl, rfl⟩

end Sys2Proof.Machine
end

section
/-!
PROOFS. A cluster task that its master aborts (R197, R353, R355, R475, R478).
-/
namespace Sys2Proof.Machine

open Sys2Proof

/-! ### Fault records (R475 - R478) -/

/-- The registers of the fault record store. -/
def faultRegs : List Nat := (List.range 4096).flatMap fun i => (List.range 8).map (faultWord i)

theorem onlyRegs_putFaults (d : Device) (l : FaultLog) :
    OnlyRegs faultRegs { d with lantern := { d.lantern with faults := l } } (d.putFaults l) := by
  refine OnlyRegs.foldl (fun k _ e => OnlyRegs.foldl (fun w hw e' => (onlyRegs_setReg e' _ _).mono ?_) e) _
  simp only [List.mem_singleton, forall_eq]
  exact List.mem_flatMap.2 ⟨_, List.mem_range.2 (Nat.mod_lt _ (by decide)), List.mem_map_of_mem hw⟩

theorem reg_putFaults_below (d : Device) (l : FaultLog) {a : Nat} (h : a < 0xB40000) : (d.putFaults l).reg a = d.reg a := by
  refine (onlyRegs_putFaults d l).2 a fun hm => ?_
  obtain ⟨i, -, hi⟩ := List.mem_flatMap.1 hm
  obtain ⟨w, -, rfl⟩ := List.mem_map.1 hi
  unfold faultWord Reg.errFr at h
  omega

/-- The attempt of a device whose task may have been given its first fault record. -/
def Run.withFirstFault (r : Run) (x : Option Nat) : Run := { r with firstFault := x }

theorem run_noteFirstFault {d : Device} {r : Run} (h : d.lantern.run = some r) :
    ∃ x, d.noteFirstFault.lantern.run = some (r.withFirstFault x) := by
  simp only [Device.noteFirstFault, Device.mapRun, Device.setRun, h, Option.map_some]
  split
  · exact ⟨_, rfl⟩
  · exact ⟨r.firstFault, rfl⟩

section
variable (d : Device) (kind unit : Nat) (f0 : List (Nat × Nat)) (f1 f2 f3 f4 f5 : Word) (g : Nat) (f7 : Word)

/-- A fault record is counted. -/
theorem reg_faultRecord_count :
    (d.faultRecord kind unit f0 f1 f2 f3 f4 f5 g f7).reg Reg.errFrCnt = d.reg Reg.errFrCnt + 1 := by
  unfold Device.faultRecord
  lift_lets
  extract_lets l task first e d1 d2
  have h : d2.reg Reg.errFrCnt = d.reg Reg.errFrCnt + 1 := by
    have h1 : d1.reg Reg.errFrCnt = d.reg Reg.errFrCnt := reg_putFaults_below d _ (by decide)
    simp only [d2]
    rw [reg_setReg_ne _ _ (by decide), reg_bump, h1]
    rfl
  clear_value d2
  split
  · rw [(msix_frame _ _ _).2 _ (by decide), h]
  · exact h

/-- The running task may have got its first fault record. -/
theorem run_faultRecord {r : Run} (hrun : d.lantern.run = some r) :
    ∃ x, (d.faultRecord kind unit f0 f1 f2 f3 f4 f5 g f7).lantern.run = some (r.withFirstFault x) := by
  unfold Device.faultRecord
  lift_lets
  extract_lets l task first e d1 d2
  have h : ∃ x, d2.lantern.run = some (r.withFirstFault x) :=
    run_noteFirstFault (by rw [(onlyRegs_putFaults d _).lantern_eq]; exact hrun)
  clear_value d2
  split
  · rw [(msix_frame _ _ _).1]
    exact h
  · exact h

end

/-! ### The master's decision (R197) -/

/-- The device whose master has decided an abort in this gcyc, before the flood. -/
def Device.abortDecided (d : Device) : Device :=
  { d with cluster := { d.cluster with abortFrom := some d.now, reports := [] } }

/-- With no report and another member to wait for, the ABORTED record waits. -/
theorem tryClusterAborted_of_silent {d : Device} {m : Member} (hm : d.cluster.member = some m) (hmembers : 0 < m.membersM1)
    (hreports : d.cluster.reports = []) : d.tryClusterAborted = d := by
  unfold Device.tryClusterAborted
  split
  · refine if_neg fun ⟨_, _, hle⟩ => ?_
    rw [hm, hreports] at hle
    exact absurd hmembers (Nat.not_lt.2 hle)
  · rfl

theorem abortClusterLocal_of_idle {d : Device} (hrun : d.lantern.run = none) (hpend : d.lantern.cluPend = none) (n : Nat) :
    d.abortClusterLocal n = d := by
  have he : d.abortClusterLocal n = { d with lantern := { d.lantern with cluPend := none } } := by
    simp only [Device.abortClusterLocal, hrun, hpend]
    rfl
  rw [he, ← hpend]

section
variable {d : Device} {r : Run} {t : Task} (hrun : d.lantern.run = some r) (hclu : r.cluster = true)
  (htask : d.task r.task = some t)
include hrun hclu htask

/-- A start that is cancelled by an abort touches the Lantern alone. -/
theorem abortClusterLocal_starting (hst : t.state = .starting) :
    d.abortClusterLocal r.ctx = { d with lantern := (d.abortClusterLocal r.ctx).lantern } ∧
    (d.abortClusterLocal r.ctx).lantern.run = some { r with aborted := true, start := none, decided := some 0xA } := by
  have hform : ∃ e : Device, e = { d with lantern := e.lantern } ∧ d.abortClusterLocal r.ctx =
      e.setRun (some { r with aborted := true, start := none, decided := some 0xA }) := by
    unfold Device.abortClusterLocal
    extract_lets lantern e
    have hrun' : e.lantern.run = some r := hrun
    have htask' : e.task r.task = some t := htask
    have honly : e = { d with lantern := e.lantern } := rfl
    clear_value e
    refine ⟨(e.returnThresholds t (e.now + 1)).mapTask r.task (fun t => { t with consumed := [] }), ?_, ?_⟩
    · unfold Device.returnThresholds
      split <;> rw [honly] <;> rfl
    · simp [hrun', hclu, htask', hst]
  obtain ⟨e, honly, he⟩ := hform
  rw [he]
  refine ⟨?_, rfl⟩
  rw [honly]
  rfl

/-- A COMPLETING task that is aborted has its end state decided. -/
theorem abortClusterLocal_completing (hst : t.state = .completing) :
    d.abortClusterLocal r.ctx = { d with lantern := (d.abortClusterLocal r.ctx).lantern } ∧
    (d.abortClusterLocal r.ctx).lantern.run = some { r with aborted := true, decided := some 0xA } := by
  have hform : ∃ e : Device, e = { d with lantern := e.lantern } ∧ d.abortClusterLocal r.ctx =
      e.setRun (some { r with aborted := true, decided := some 0xA }) := by
    unfold Device.abortClusterLocal
    extract_lets lantern e
    have hrun' : e.lantern.run = some r := hrun
    have htask' : e.task r.task = some t := htask
    have honly : e = { d with lantern := e.lantern } := rfl
    clear_value e
    exact ⟨e, honly, by simp [hrun', hclu, htask', hst]⟩
  obtain ⟨e, honly, he⟩ := hform
  rw [he]
  refine ⟨?_, rfl⟩
  rw [honly]
  rfl

end

/-- A master with members to wait for floods the abort and applies it; where that touches the Lantern alone, so does the decision
but for the flood. -/
theorem decideAbort_of_waiting {d : Device} {m : Member} (hm : d.cluster.member = some m) (hmembers : 0 < m.membersM1)
    (habort : d.cluster.abortFrom = none) {n : Nat} {u : Run}
    (hlocal : ∀ e : Device, e.lantern = d.lantern →
      e.abortClusterLocal n = { e with lantern := (e.abortClusterLocal n).lantern } ∧
        (e.abortClusterLocal n).lantern.run = some u) :
    d.decideAbort n = { d.abortDecided.originate 0x14 [n] with lantern := (d.decideAbort n).lantern } ∧
      (d.decideAbort n).lantern.run = some u := by
  generalize hf : d.abortDecided.originate 0x14 [n] = f
  have hflan : f.lantern = d.lantern := by rw [← hf, originate_only]; rfl
  have hfclu : f.cluster.member = some m ∧ f.cluster.reports = [] := by
    rw [← hf, originate_only]
    exact ⟨hm, rfl⟩
  obtain ⟨honly, hrun⟩ := hlocal f hflan
  have he : d.decideAbort n = f.abortClusterLocal n := by
    have hwait : (f.abortClusterLocal n).tryClusterAborted = f.abortClusterLocal n := by
      have hcluster : (f.abortClusterLocal n).cluster = f.cluster := by rw [honly]
      exact tryClusterAborted_of_silent (by rw [hcluster]; exact hfclu.1) hmembers (by rw [hcluster]; exact hfclu.2)
    rw [← hwait, ← hf]
    exact if_neg (by simp [habort])
  rw [he]
  exact ⟨honly, hrun⟩

/-- The flood of a decided abort is on its way on every membership link, and the rest of the device is as it was. -/
theorem decideAbort_effect {d : Device} {m : Member} (hm : d.cluster.member = some m) (hmembers : 0 < m.membersM1)
    (habort : d.cluster.abortFrom = none) {n : Nat} {u : Run}
    (hlocal : ∀ e : Device, e.lantern = d.lantern →
      e.abortClusterLocal n = { e with lantern := (e.abortClusterLocal n).lantern } ∧
        (e.abortClusterLocal n).lantern.run = some u) :
    (d.decideAbort n).cluster.abortFrom = some d.now ∧ (d.decideAbort n).lantern.run = some u ∧
    (d.decideAbort n).cluster.nextSeq = (d.cluster.nextSeq + 1) % 65536 ∧
    (∀ i ∈ linksOf m.links, { link := i, typ := 0x14, words := [n, d.cluster.nextSeq] } ∈ (d.decideAbort n).controls) ∧
    (d.decideAbort n).regs = d.regs ∧ SameMemory d (d.decideAbort n) := by
  obtain ⟨honly, hrun⟩ := decideAbort_of_waiting hm hmembers habort hlocal
  have hflood := originate_only d.abortDecided 0x14 [n]
  refine ⟨?_, hrun, ?_, fun i hi => ?_, ?_, ?_⟩
  · rw [honly, hflood]; rfl
  · rw [honly, hflood]; rfl
  · have hmem := mem_controls_originate (d := d.abortDecided) hm 0x14 [n] hi
    have hsame : (d.decideAbort n).controls = (d.abortDecided.originate 0x14 [n]).controls := by
      rw [honly]
      exact controls_congr rfl rfl
    rw [hsame]
    exact hmem
  · rw [honly, hflood]; rfl
  · rw [honly, hflood]; exact ⟨rfl, rfl, rfl, rfl⟩

end Sys2Proof.Machine
end

section
/-!
PROOFS. The start of a cluster task (R196, R348, R350, R353).
-/
namespace Sys2Proof.Machine

open Sys2Proof

/-! ### START (R348, R350, R353) -/

/-- What a member keeps of a START that is no restart. -/
def Device.pendingStart (d : Device) (start slot epoch ctx : Nat) : CluPending :=
  { start := start, slot := slot, epoch := epoch, ctx := ctx, retry := 0, late := decide (start < d.now) }

/-- A member in Run keeps a START that it has not seen, and prepares the slot. -/
theorem startReceived_of_new {d : Device} {m : Member} (hm : d.cluster.member = some m) (hmember : d.isMaster = false)
    (hpower : d.power = 0) {seq : Nat} (hnew : (0x13, seq) ∉ d.cluster.seen) (n start slot epoch ctx : Nat) :
    d.startReceived n start slot epoch ctx false seq =
      { d.forwarded m n 0x13 seq [start, slot, epoch, ctx, 0] with
        lantern := { d.lantern with cluPend := some (d.pendingStart start slot epoch ctx) }
        cluster := { (d.forwarded m n 0x13 seq [start, slot, epoch, ctx, 0]).cluster with
          reports := [], reported := false } } := by
  have hkept : (d.forwarded m n 0x13 seq [start, slot, epoch, ctx, b2n false]).isMaster = false := hmember
  rw [Device.startReceived, flooded_of_new hm hnew]
  refine (if_neg (by rw [hkept]; decide)).trans ?_
  exact requestWake_run true hpower

/-! ### START_READINESS (R196, R353) -/

theorem fld_mkWord (fs : List (Nat × Nat)) (lo w : Nat) :
    fld (mkWord fs) lo w = fs.foldl (fun a f => a + f.2 * 2 ^ f.1) 0 % 2 ^ 64 / 2 ^ lo % 2 ^ w := by
  rw [fld, mkWord, BitVec.toNat_ofNat, Nat.shiftRight_eq_div_pow]

/-- A field of a word made of two fields: with the places open, no power of 2 is computed to see it. -/
theorem fld_mkWord_pair (i a j b lo w : Nat) :
    fld (mkWord [(i, a), (j, b)]) lo w = (a * 2 ^ i + b * 2 ^ j) % 2 ^ 64 / 2 ^ lo % 2 ^ w := by
  rw [fld_mkWord, List.foldl_cons, List.foldl_cons, List.foldl_nil, Nat.zero_add]

/-- W0 of the record that stands for a member's part. -/
theorem word_remoteTask (id : Nat) (p : CluPending) : wd (remoteTask id p).words 0 = mkWord [(0, p.ctx), (16, p.slot)] := rfl

theorem ctx_remoteTask (id : Nat) {p : CluPending} (hctx : p.ctx < 65536) : (remoteTask id p).ctx = p.ctx := by
  rw [Task.ctx, word_remoteTask, fld_mkWord_pair]
  omega

theorem slot_remoteTask (id : Nat) {p : CluPending} (hctx : p.ctx < 65536) (hslot : p.slot < 1024) :
    (remoteTask id p).slot = p.slot := by
  rw [Task.slot, word_remoteTask, fld_mkWord_pair]
  omega

/-- The device with a member's part of a cluster task among its tasks. -/
def Device.joined (d : Device) (p : CluPending) : Device :=
  { d with lantern := { d.lantern with
    tasks := d.lantern.tasks ++ [remoteTask d.lantern.nextId p], nextId := d.lantern.nextId + 1, bank := 1 - d.lantern.bank
    cluPend := none } }

/-- A member's attempt at its part. -/
def Device.memberRun (d : Device) (p : CluPending) : Run :=
  { (d.joined p).newRun (remoteTask d.lantern.nextId p) p.start p.retry d.lantern.bank [] with
    cluster := true, clocks := some p.start, start := some p.start }

/-- The device with the private tallies of the part loaded. -/
def Device.joinedLoaded (d : Device) (p : CluPending) : Device :=
  { ((d.joined p).setRun (some (d.memberRun p))).loadBank p.ctx d.lantern.bank with belfry := { d.belfry with idleFrom := none } }

theorem startMember_eq (d : Device) (p : CluPending) :
    d.startMember p [] = (d.joinedLoaded p).startTask (d.memberRun p) (remoteTask d.lantern.nextId p) p.start := by
  have hbel : (((d.joined p).setRun (some (d.memberRun p))).loadBank p.ctx d.lantern.bank).belfry = d.belfry := by
    rw [loadBank_eq, loadTallies_only]
    rfl
  rw [Device.joinedLoaded, ← hbel]
  rfl

theorem joinedLoaded_only (d : Device) (p : CluPending) : d.joinedLoaded p = { d with
    regs := (d.joinedLoaded p).regs
    belfry := { d.belfry with idleFrom := none }
    lantern := { (d.joined p).lantern with run := some (d.memberRun p) } } := by
  rw [Device.joinedLoaded, loadBank_eq, loadTallies_only]
  rfl

theorem now_joinedLoaded (d : Device) (p : CluPending) : (d.joinedLoaded p).now = d.now := by
  rw [Device.now, joinedLoaded_only]
  rfl

theorem length_tasks_startTask {d : Device} (r : Run) (t : Task) {start : Nat} (h : start ≤ d.now) :
    (d.startTask r t start).lantern.tasks.length = d.lantern.tasks.length := by
  rw [startTask_eq r t h, (onlyRegs_noteDelay _ t start r.retries).lantern_eq, cleared_only]
  exact List.length_map _

theorem netRuns_bump (d : Device) {a : Nat} (ha : Reg.pwrStatus ≠ a) (n : Nat) : (d.bump a n).netRuns = d.netRuns := by
  rw [Device.netRuns, Device.power, Device.regF, reg_bump_ne _ _ ha, Device.netRuns, Device.power, Device.regF]

/-- A message up the tree of a device that gives a START up and counts it. -/
theorem unpended_sendUp {d : Device} {m : Member} (hm : d.cluster.member = some m) (hnet : d.netRuns = true) (typ : Nat)
    (ws : List Nat) {e : Device}
    (he : e = (({ d with lantern := { d.lantern with cluPend := none } } : Device).bump Reg.cluNostartCnt 1).sendUp typ ws) :
    e.lantern = { d.lantern with cluPend := none } ∧ e.reg Reg.cluNostartCnt = d.reg Reg.cluNostartCnt + 1 ∧
    e.controls = d.controls ++ [{ link := m.upLink, typ := typ, words := ws }] ∧ SameRegs [Reg.cluNostartCnt] d e ∧
    SameMemory d e := by
  generalize hf : ({ d with lantern := { d.lantern with cluPend := none } } : Device) = f at he
  have hregs : f.regs = d.regs := by rw [← hf]
  have hfm : (f.bump Reg.cluNostartCnt 1).cluster.member = some m := by rw [← hf]; exact hm
  have hfnet : (f.bump Reg.cluNostartCnt 1).netRuns = true := by
    rw [netRuns_bump _ (by decide), ← hf]
    exact hnet
  have hcount : e.regs = (f.bump Reg.cluNostartCnt 1).regs := by rw [he, sendUp_eq hfm, sendMessage_only]
  rw [sendUp_eq hfm] at he
  refine ⟨?_, ?_, ?_, fun a ha => ?_, ?_⟩
  · rw [he, sendMessage_only, ← hf]; rfl
  · rw [reg_of_regs hcount, reg_bump, reg_of_regs hregs]; rfl
  · rw [he, controls_sendMessage hfnet, ← hf]; rfl
  · rw [reg_of_regs hcount, (onlyRegs_bump f _ 1).2 a ha, reg_of_regs hregs]
  · rw [he, sendMessage_only, ← hf]; exact ⟨rfl, rfl, rfl, rfl⟩

/-- Where a member cannot start, it says so up the tree, with the lowest reason. -/
theorem startReadiness_refused {d : Device} {p : CluPending} (hpend : d.lantern.cluPend = some p)
    (hp : p.start ≤ d.now) {x : Nat} (hx : d.startReason p.slot p.epoch p.ctx p.late = some x) (ecc : List (Fin 16 × Bool)) :
    d.startReadiness ecc =
      (({ d with lantern := { d.lantern with cluPend := none } } : Device).bump Reg.cluNostartCnt 1).sendUp 0x17 [d.device, x] := by
  simp only [Device.startReadiness, hpend, advance_past hp, hx]
  rfl

theorem startReadiness_ready {d : Device} {p : CluPending} (hpend : d.lantern.cluPend = some p) (hp : p.start ≤ d.now)
    (hx : d.startReason p.slot p.epoch p.ctx p.late = none) (ecc : List (Fin 16 × Bool)) :
    d.startReadiness ecc = d.startMember p ecc := by
  simp only [Device.startReadiness, hpend, advance_past hp, hx]

/-! ### NOSTART (R353) -/

/-- The NOSTART of a device that waits for its start cycle aborts the cluster task. -/
theorem noStart_starting {d : Device} {m : Member} {r : Run} {t : Task} (hm : d.cluster.member = some m)
    (hmembers : 0 < m.membersM1) (hrun : d.lantern.run = some r) (hclu : r.cluster = true) (htask : d.task r.task = some t)
    (hst : t.state = .starting) (habort : d.cluster.abortFrom = none) (dev reason : Nat) :
    (d.noStart dev reason).cluster.abortFrom = some d.now ∧
    (d.noStart dev reason).lantern.run.map (fun u => (u.aborted, u.start, u.decided)) = some (true, none, some 0xA) ∧
    (d.noStart dev reason).reg Reg.errFrCnt = d.reg Reg.errFrCnt + 1 ∧
    (d.noStart dev reason).cluster.nextSeq = (d.cluster.nextSeq + 1) % 65536 ∧
    (∀ i ∈ linksOf m.links,
      { link := i, typ := 0x14, words := [r.ctx, d.cluster.nextSeq] } ∈ (d.noStart dev reason).controls) ∧
    SameMemory d (d.noStart dev reason) := by
  generalize hf : d.faultRecord 0x52 dev [(8, dev), (18, reason)] 0 0 0 0 0 d.now 0 = f
  have he : d.noStart dev reason = f.decideAbort r.ctx := by
    simp only [Device.noStart, hrun, hclu, hf, if_true]
  have hstill : f.still = d.still := by rw [← hf]; exact still_faultRecord d _ _ _ _ _ _ _ _ _ _
  have hcluster : f.cluster = d.cluster := (congrArg Device.cluster hstill :)
  have hbelfry : f.belfry = d.belfry := (congrArg Device.belfry hstill :)
  have htasks : f.lantern.tasks = d.lantern.tasks := (congrArg (fun e : Device => e.lantern.tasks) hstill :)
  obtain ⟨x, hfrun⟩ : ∃ x, f.lantern.run = some (r.withFirstFault x) := by
    rw [← hf]
    exact run_faultRecord d _ _ _ _ _ _ _ _ _ _ hrun
  have hftask : f.task r.task = some t := (task_congr htasks _).trans htask
  obtain ⟨hfrom, hfinal, hseq, hflood, hregs, hmem⟩ := decideAbort_effect (d := f) (m := m) (n := r.ctx) (hcluster ▸ hm)
    hmembers (hcluster ▸ habort) fun e hlan =>
      abortClusterLocal_starting (d := e) (r := r.withFirstFault x) (by rw [hlan, hfrun]) hclu
        ((task_congr (congrArg Lantern.tasks hlan) _).trans hftask) hst
  rw [he]
  refine ⟨hfrom.trans (congrArg (fun b : Belfry => some b.gcyc) hbelfry), by rw [hfinal]; rfl, ?_, ?_, ?_, ?_⟩
  · rw [reg_of_regs hregs, ← hf, reg_faultRecord_count]
  · rw [hseq, hcluster]
  · rw [← hcluster]; exact hflood
  · exact (sameMemory_of_still hstill).trans hmem

/-- Settles O32: a START is kept once, and at its start cycle it starts the member's part or is refused; a NOSTART goes up the tree
to the master, which aborts. -/
theorem clusterStartsReachEveryMember : Obligations.ClusterStartsReachEveryMember := by
  intro s n m ha hm
  refine ⟨fun hpins hcdone hrun => ?fall, fun hcdone => ?low, fun start epoch slot ctx seq restart =>
    ⟨fun hseen => ?seen, fun hnew hmember hpower => ?fresh⟩, fun p hpend hp => ⟨fun x hx hnet => ?refused,
      fun hx hctx hslot hthreads => ?ready⟩, fun hpend hrun => ?nothing, fun dev reason => ⟨fun hup => ?up,
        fun hup hmember => ?relay, fun r t hup hmaster hrun hclu htask hst habort hmembers => ?master⟩⟩
  case fall =>
    refine completes_took (f := (·.pinEvent Device.cdoneFell)) rfl ha ?_
    have he : s.dev.pinEvent Device.cdoneFell =
        ({ s.dev with belfry := { s.dev.belfry with cdone := false } } : Device).bump Reg.cluCdoneFallCnt 1 := by
      simp [Device.pinEvent, hpins, Device.cdoneFell, hcdone, hrun]
    rw [he]
    refine ⟨rfl, reg_bump _ _ _, ?_, ⟨rfl, rfl, rfl, rfl⟩, rfl⟩
    exact (onlyRegs_bump ({ s.dev with belfry := { s.dev.belfry with cdone := false } } : Device) Reg.cluCdoneFallCnt 1).2
  case low =>
    refine completes_took (f := (·.pinEvent Device.cdoneFell)) rfl ha ?_
    simp [Device.pinEvent, Device.cdoneFell, hcdone]
  case seen =>
    exact completes_took (f := (·.startReceived n start slot epoch ctx restart seq)) rfl ha (flooded_of_seen hseen _ _)
  case fresh =>
    refine completes_took (f := (·.startReceived n start slot epoch ctx false seq)) rfl ha ?_
    rw [startReceived_of_new hm hmember hpower hnew]
    exact ⟨⟨s.dev.pendingStart start slot epoch ctx, rfl, rfl, rfl, rfl, rfl, rfl, rfl⟩, rfl, List.mem_cons_self, hm, rfl,
      rfl, rfl, rfl, rfl⟩
  case refused =>
    refine completes_took (f := (·.startReadiness [])) rfl ha ?_
    have hdev : s.dev.device = m.device := by simp [Device.device, hm]
    rw [startReadiness_refused hpend hp hx, hdev]
    exact unpended_sendUp hm hnet 0x17 [m.device, x] rfl
  case ready =>
    refine completes_took (f := (·.startReadiness [])) rfl ha ?_
    have hnow : p.start ≤ (s.dev.joinedLoaded p).now := (now_joinedLoaded s.dev p).symm ▸ hp
    rw [startReadiness_ready hpend hp hx, startMember_eq]
    have honly := startTask_only (s.dev.memberRun p) (remoteTask s.dev.lantern.nextId p) hnow
    have hctx' : p.ctx < 65536 := by omega
    refine ⟨⟨s.dev.memberRun p, ?run, rfl, ctx_remoteTask _ hctx', slot_remoteTask _ hctx' hslot, rfl, rfl, rfl⟩, ?pend,
      ?tasks, ?threads, fun i hi => ?flags, ?memory⟩
    case run => rw [honly, joinedLoaded_only]
    case pend => rw [honly, joinedLoaded_only]; rfl
    case tasks =>
      rw [length_tasks_startTask _ _ hnow, joinedLoaded_only]
      exact List.length_append
    case threads => rw [honly]
    case flags =>
      exact reg_startTask_of_isSpireReg _ _ hnow (isSpireReg_page hi (off := 0x8) (by decide)) (by decide)
    case memory => rw [honly, joinedLoaded_only]; exact ⟨rfl, rfl, rfl, rfl⟩
  case nothing =>
    refine completes_took (f := (·.startReadiness [])) rfl ha ?_
    simp only [Device.startReadiness, hpend, hrun]
  case up => exact completes_took (f := fun d => if d.isUpLink n then d else d.noStartReceived dev reason) rfl ha (if_pos hup)
  case relay =>
    refine completes_took (f := fun d => if d.isUpLink n then d else d.noStartReceived dev reason) rfl ha ?_
    simp [hup, Device.noStartReceived, hmember, relayUp_eq hm, sendControl_eq]
  case master =>
    refine completes_took (f := fun d => if d.isUpLink n then d else d.noStartReceived dev reason) rfl ha ?_
    have he : (if s.dev.isUpLink n then s.dev else s.dev.noStartReceived dev reason) = s.dev.noStart dev reason := by
      simp [hup, Device.noStartReceived, hmaster]
    rw [he]
    exact noStart_starting hm hmembers hrun hclu htask hst habort dev reason

end Sys2Proof.Machine
end

section
/-!
PROOFS. Aborts, reports and the end of a cluster task (R197, R198, R349, R350, R352, R355).
-/
namespace Sys2Proof.Machine

open Sys2Proof

/-! ### Reports (R352) -/

/-- Of reports kept by link, that of link `n` is the one put last; those of the other links are as they were. -/
theorem find_putReport (l : List (Nat × ReportUnit)) (n : Nat) (rep : ReportUnit) (i : Nat) :
    (l.filter (fun e => e.1 != n) ++ [(n, rep)]).find? (fun e => e.1 == i) =
      if i = n then some (n, rep) else l.find? (fun e => e.1 == i) := by
  rw [List.find?_append]
  by_cases h : i = n
  · have hnone : (l.filter (fun e => e.1 != n)).find? (fun e => e.1 == i) = none := by
      rw [List.find?_eq_none]
      intro e he
      have hne : e.1 ≠ n := by simpa using (List.mem_filter.1 he).2
      simp [h, hne]
    rw [hnone, if_pos h]
    simp [h]
  · have hsame : (l.filter (fun e => e.1 != n)).find? (fun e => e.1 == i) = l.find? (fun e => e.1 == i) := by
      rw [List.find?_filter]
      congr 1
      funext e
      by_cases he : e.1 = i <;> simp [he, h]
    rw [hsame, if_neg h]
    simp [Ne.symm h]

/-- A device without children reports what it found itself. -/
theorem combined_of_leaf {d : Device} {m : Member} (hm : d.cluster.member = some m) (hleaf : m.children = [])
    (r : Run) (st : Nat) : d.combined r st = d.ownReport r st := by
  simp [Device.combined, hm, hleaf]

theorem noteMissing_of_leaf {d : Device} {m : Member} (hm : d.cluster.member = some m) (hleaf : m.children = [])
    (rep : ReportUnit) : d.noteMissing rep = d := by
  simp [Device.noteMissing, hm, hleaf]

theorem sendMessage_links {d : Device} (h : d.netRuns = true) (init cmd link typ : Nat) (ws : List Nat) :
    (d.sendMessage init cmd link typ ws).links = d.links := by
  obtain ⟨w, header, he⟩ := sendMessage_of_netRuns h init cmd link typ ws
  rw [he]
  rfl

/-! ### ABORT at a member with nothing to abort (R197, R350) -/

/-- The report of a member that an abort finds idle. -/
def idleReport (dev : Nat) : List Nat := [0xA, 0, 0, 0, 1, dev, 1, 1]

theorem abortReceived_idle {d : Device} {m : Member} (hm : d.cluster.member = some m) (hmember : d.isMaster = false)
    (hrun : d.lantern.run = none) (hpend : d.lantern.cluPend = none) {seq : Nat} (hnew : (0x14, seq) ∉ d.cluster.seen)
    (n ctx : Nat) : d.abortReceived n ctx seq = (d.forwarded m n 0x14 seq [ctx]).sendMessage 4 7 m.upLink 0x16 (idleReport m.device) := by
  generalize hf : d.forwarded m n 0x14 seq [ctx] = f
  have hfm : f.cluster.member = some m := by rw [← hf]; exact hm
  have hfmaster : f.isMaster = false := by rw [← hf]; exact hmember
  have hfrun : f.lantern.run = none := by rw [← hf]; exact hrun
  have hfpend : f.lantern.cluPend = none := by rw [← hf]; exact hpend
  have hdev : f.device = m.device := by simp [Device.device, hfm]
  rw [Device.abortReceived, flooded_of_new hm hnew, hf]
  simp only [hfmaster, abortClusterLocal_of_idle hfrun hfpend, hfrun]
  rw [if_neg (by decide), Device.reportIdle, sendUp_eq hfm, hdev]
  rfl

/-! ### The end with FINAL (R197, R198) -/

section
variable {d : Device} (t : Task) (e : EndRecord) (fin : Nat) {r : Run} (hq : r.queues = [])
  (hfin : e.status ≠ 8 → d.now ≤ fin)
include hq hfin

theorem controls_finishTask : (d.finishTask r t e fin).controls = d.controls := by
  rw [finishTask_only d t e fin r hq hfin]
  exact controls_congr rfl rfl

theorem sameMemory_finishTask : SameMemory d (d.finishTask r t e fin) := by
  rw [finishTask_only d t e fin r hq hfin]
  exact ⟨rfl, rfl, rfl, rfl⟩

/-- The end of a task on the master, whose FINAL goes out on every membership link. -/
theorem finishTask_final {m : Member} (hm : d.cluster.member = some m) (hring : t.ring < 256) (st : Nat) {x : Device}
    (hx : x = (d.originate 0x15 [st]).finishTask r t e fin) :
    x.lantern.run = none ∧ x.lantern.tasks = d.lantern.tasks.filter (fun u => u.id != t.id) ∧
    x.lantern.save = (if e.status = 8 then some (r.saveAt fin) else d.lantern.save) ∧
    x.cluster.abortFrom = d.cluster.abortFrom ∧
    (∀ a, 0x300000 ≤ a → a < 0x500000 → x.reg a = ((d.originate 0x15 [st]).countEnd e.status).reg a) ∧
    (∀ i ∈ linksOf m.links, { link := i, typ := 0x15, words := [st, d.cluster.nextSeq] } ∈ x.controls) ∧
    SameMemory d x := by
  have hflood := originate_only d 0x15 [st]
  have hmem : SameMemory d (d.originate 0x15 [st]) := by
    rw [hflood]
    exact ⟨rfl, rfl, rfl, rfl⟩
  have hsent (i : Nat) (hi : i ∈ linksOf m.links) := mem_controls_originate hm 0x15 [st] hi
  have hlan : (d.originate 0x15 [st]).lantern = d.lantern := by rw [hflood]
  have hfrom : (d.originate 0x15 [st]).cluster.abortFrom = d.cluster.abortFrom := by rw [hflood]
  have hnow : (d.originate 0x15 [st]).now = d.now := by rw [Device.now, hflood]; rfl
  generalize d.originate 0x15 [st] = f at hmem hsent hlan hfrom hnow hx ⊢
  subst hx
  have hfin' : e.status ≠ 8 → f.now ≤ fin := fun h => hnow ▸ hfin h
  have honly := finishTask_only f t e fin r hq hfin'
  refine ⟨?_, ?_, ?_, ?_, fun a h h' => reg_finishTask_count f t e fin r hq hfin' hring h h', fun i hi => ?_,
    hmem.trans (sameMemory_finishTask t e fin hq hfin')⟩
  · rw [honly]
  · rw [honly, ← hlan]
  · rw [honly, ← hlan]
  · rw [honly, ← hfrom]
  · rw [controls_finishTask t e fin hq hfin']
    exact hsent i hi

end

theorem reg_originate (d : Device) (typ : Nat) (ws : List Nat) (a : Nat) : (d.originate typ ws).reg a = d.reg a :=
  reg_of_regs (by rw [originate_only]) a

/-- What the record of a cluster's task says that ends in gcyc `g` with the combined report `rep` (R200, R352). -/
def Run.clusterRecord (r : Run) (rep : ReportUnit) (g : Nat) : EndRecord :=
  { r.endRecord rep.status (r.start.getD g) with
    flags := mkWord [(0, rep.mx), (8, rep.vx)], cause := rep.cause, bad := rep.bad, firstBad := rep.firstBad }

/-- The device whose master awaits no report and no abort any more. -/
def Device.settled (d : Device) : Device := { d with cluster := { d.cluster with abortFrom := none, reports := [] } }

/-- The master's record of an aborted task that runs: it leaves the Dome ABORTED, and FINAL is flooded. -/
theorem clusterAborted_running (d : Device) (r : Run) {t : Task} (hst : t.state = .running) (fin : Nat) :
    ∃ e : EndRecord, e.status = 0xA ∧
      d.clusterAborted r t fin = (d.settled.originate 0x15 [0xA]).finishTask r t e fin := by
  unfold Device.clusterAborted
  lift_lets
  extract_lets rep covered silent missing first own e cluster d1 d2
  refine ⟨e, rfl, if_neg ?_⟩
  simp [hst]

section
variable {d : Device} {r : Run} {t : Task} (hrun : d.lantern.run = some r) (htask : d.task r.task = some t)
include hrun htask

/-- At its deadline a master without children ends an OK task with FINAL. -/
theorem reportDeadline_ok {m : Member} (hm : d.cluster.member = some m) (hleaf : m.children = []) (hmaster : d.isMaster = true)
    (habort : d.cluster.abortFrom = none) (hclu : r.cluster = true) (hst : t.state = .completing) (hdec : r.decided = some 8)
    {g : Nat} (hg : g = t.since + 1 + fld (wd r.header 2) 32 16) (hnow : g ≤ d.now) :
    ∃ e : EndRecord, e.status = 8 ∧ d.reportDeadline [] = (d.settled.originate 0x15 [8]).finishTask r t e g := by
  subst hg
  have hmay (e : Device) : e.mayRestart r 8 = false := rfl
  have hrep : (d.ownReport r 8).status = 8 := rfl
  refine ⟨r.clusterRecord (d.ownReport r 8) (t.since + 1 + fld (wd r.header 2) 32 16), rfl, ?_⟩
  simp only [Device.reportDeadline, holder_of_run hrun htask, hclu, hst, hdec, hmaster, habort, advance_past hnow,
    combined_of_leaf hm hleaf, noteMissing_of_leaf hm hleaf, hrun, Option.getD_some, hrep, hmay, Device.settled]
  rfl

/-- The master's record of an aborted RUNNING task is issued in the present gcyc once it has waited long enough. -/
theorem abortTimeout_running (hst : t.state = .running) {g : Nat} (habort : d.cluster.abortFrom = some g)
    (hnow : g + 10000 ≤ d.now) :
    ∃ e : EndRecord, e.status = 0xA ∧ d.abortTimeout = (d.settled.originate 0x15 [0xA]).finishTask r t e d.now := by
  obtain ⟨e, he, hrec⟩ := clusterAborted_running d r hst d.now
  refine ⟨e, he, ?_⟩
  rw [← hrec]
  simp only [Device.abortTimeout, holder_of_run hrun htask, habort, advance_past hnow, Option.getD_some]

/-- FINAL ends a member's part of an OK task in its gcyc. -/
theorem finalReceived_ok {m : Member} (hm : d.cluster.member = some m) (hmember : d.isMaster = false) (hclu : r.cluster = true)
    {seq : Nat} (hnew : (0x15, seq) ∉ d.cluster.seen) (n : Nat) :
    d.finalReceived n 8 seq = (d.forwarded m n 0x15 seq [8]).finishTask r t (r.endRecord 8 (r.start.getD d.now)) d.now := by
  generalize hf : d.forwarded m n 0x15 seq [8] = f
  have hfrun : f.lantern.run = some r := by rw [← hf]; exact hrun
  have hftask : f.task r.task = some t := by rw [← hf]; exact htask
  have hfmaster : f.isMaster = false := by rw [← hf]; exact hmember
  have hnow : d.now = f.now := by rw [← hf]; rfl
  rw [Device.finalReceived, flooded_of_new hm hnew, hf, hnow]
  simp [hfrun, hftask, hfmaster, hclu]

end

/-! ### Reports that come and go (R350, R352) -/

/-- A COMPLETING device that may still hear a report keeps it, by the link that brought it. -/
theorem reportReceived_kept {d : Device} {r : Run} {t : Task} (hrun : d.lantern.run = some r) (hclu : r.cluster = true)
    (htask : d.task r.task = some t) (hst : t.state = .completing)
    (hopen : d.isMaster = true ∧ d.cluster.abortFrom = none ∨
      d.isMaster = false ∧ r.aborted = false ∧ d.cluster.reported = false)
    (n : Nat) (rep : ReportUnit) :
    d.reportReceived n rep = { d with cluster := { d.cluster with
      reports := d.cluster.reports.filter (fun e => e.1 != n) ++ [(n, rep)] } } := by
  rcases hopen with ⟨hmaster, habort⟩ | ⟨hmember, haborted, hreported⟩
  · simp [Device.reportReceived, hrun, hclu, htask, hst, hmaster, habort]
  · simp [Device.reportReceived, hrun, hclu, htask, hst, hmember, haborted, hreported]

/-- The one report of a member without children, sent in its gcyc. -/
theorem reportSend_leaf {d : Device} {m : Member} {r : Run} {t : Task} {st : Nat} (hm : d.cluster.member = some m)
    (hleaf : m.children = []) (hrun : d.lantern.run = some r) (hclu : r.cluster = true) (htask : d.task r.task = some t)
    (hst : t.state = .completing) (hdec : r.decided = some st) (hmember : d.isMaster = false)
    (hreported : d.cluster.reported = false) (haborted : r.aborted = false) (hnow : t.since + 1 + m.reportOff ≤ d.now) :
    d.reportSend = ({ d with cluster := { d.cluster with reported := true } } : Device).sendMessage 4 7 m.upLink 0x16
      (reportWords (d.ownReport r st)) := by
  have hm' : ({ d with cluster := { d.cluster with reported := true } } : Device).cluster.member = some m := hm
  rw [← sendUp_eq hm']
  simp [Device.reportSend, hrun, hm, htask, hdec, hclu, hst, hmember, hreported, haborted, advance_past hnow,
    combined_of_leaf hm hleaf]

/-- Settles O33: an ABORT_REQ and an ABORT go where they belong, reports are kept, forwarded and sent, and the task ends with FINAL
at the deadline, on its arrival, or 10,000 gcyc after an abort. -/
theorem clusterTasksEndTogether : Obligations.ClusterTasksEndTogether := by
  intro s n m ha hm
  refine ⟨fun dev ctx => ⟨fun hup => ?askUp, fun hup hmember => ?askRelay,
      fun r t hup hmaster hrun hclu hctx htask hst habort hmembers => ?askMaster⟩,
    fun ctx seq => ⟨fun hseen => ?abortSeen, fun hnew hmember hrun hpend hnet => ?abortIdle⟩,
    fun rep => ⟨fun hup => ?reportUp, fun hup hmember hrun => ?reportRelay,
      fun r t hup hrun hclu htask hst hopen => ?reportKept⟩,
    fun r t st hrun hclu htask hst hdec hleaf => ⟨fun hmember hreported haborted hnow hnet => ?send,
      fun hmaster => ?sendMaster, fun hmember => ?deadlineMember,
      fun hmaster habort hok hq hlocal hring hnow => ?deadline⟩,
    fun st seq => ⟨fun hseen => ?finalSeen, fun r t hnew hmember hrun hclu hq htask hremote => ?final⟩,
    fun hidle => ?noTimeout, fun r t g hrun habort htasks hid hst hq hlocal hring hnow => ?timeout⟩
  case askUp => exact completes_took (f := fun d => if d.isUpLink n then d else d.abortAsked dev ctx) rfl ha (if_pos hup)
  case askRelay =>
    refine completes_took (f := fun d => if d.isUpLink n then d else d.abortAsked dev ctx) rfl ha ?_
    simp [hup, Device.abortAsked, hmember, relayUp_eq hm, sendControl_eq]
  case askMaster =>
    refine completes_took (f := fun d => if d.isUpLink n then d else d.abortAsked dev ctx) rfl ha ?_
    have he : (if s.dev.isUpLink n then s.dev else s.dev.abortAsked dev ctx) = s.dev.decideAbort r.ctx := by
      simp [hup, Device.abortAsked, hmaster, hrun, hclu, hctx]
    obtain ⟨hfrom, hfinal, -, hflood, hregs, hmem⟩ := decideAbort_effect hm hmembers habort fun e hlan =>
      abortClusterLocal_completing (d := e) (by rw [hlan, hrun]) hclu
        ((task_congr (congrArg Lantern.tasks hlan) _).trans htask) hst
    rw [he, ← hctx]
    exact ⟨hfrom, hfinal, hflood, hregs, hmem⟩
  case abortSeen => exact completes_took (f := (·.abortReceived n ctx seq)) rfl ha (flooded_of_seen hseen _ _)
  case abortIdle =>
    refine completes_took (f := (·.abortReceived n ctx seq)) rfl ha ?_
    have hnet' : (s.dev.forwarded m n 0x14 seq [ctx.val]).netRuns = true := hnet
    rw [abortReceived_idle hm hmember hrun hpend hnew]
    refine ⟨by rw [sendMessage_links hnet']; rfl, ?reports, by rw [sendMessage_only]; rfl, by rw [sendMessage_only]; rfl,
      by rw [sendMessage_only]; exact ⟨rfl, rfl, rfl, rfl⟩⟩
    rw [controls_sendMessage hnet', List.filter_append]
    simp only [Device.controls, Device.forwarded, idleReport, List.filter_append, List.filter_map]
    simp
  case reportUp => exact completes_took (f := fun d => if d.isUpLink n then d else d.reportReceived n rep) rfl ha (if_pos hup)
  case reportRelay =>
    refine completes_took (f := fun d => if d.isUpLink n then d else d.reportReceived n rep) rfl ha ?_
    simp [hup, Device.reportReceived, hmember, hrun, relayUp_eq hm, sendControl_eq]
  case reportKept =>
    refine completes_took (f := fun d => if d.isUpLink n then d else d.reportReceived n rep) rfl ha ?_
    have he : (if s.dev.isUpLink n then s.dev else s.dev.reportReceived n rep) = s.dev.reportReceived n rep :=
      if_neg (by simp [hup])
    rw [he, reportReceived_kept hrun hclu htask hst hopen]
    exact ⟨(find_putReport _ _ _ _).trans (if_pos rfl), fun i hi => (find_putReport _ _ _ _).trans (if_neg hi), rfl⟩
  case send =>
    refine completes_took (f := Device.reportSend) rfl ha ?_
    rw [reportSend_leaf hm hleaf hrun hclu htask hst hdec hmember hreported haborted hnow]
    have hnet' : ({ s.dev with cluster := { s.dev.cluster with reported := true } } : Device).netRuns = true := hnet
    refine ⟨?_, ?_, ?_, ⟨_, controls_sendMessage hnet' _ _ _ _ _, rfl, rfl⟩, ?_⟩ <;> rw [sendMessage_only]
    exact ⟨rfl, rfl, rfl, rfl⟩
  case sendMaster =>
    refine completes_took (f := Device.reportSend) rfl ha ?_
    simp [Device.reportSend, hrun, hm, htask, hdec, hmaster]
  case deadlineMember =>
    refine completes_took (f := (·.reportDeadline [])) rfl ha ?_
    simp [Device.reportDeadline, holder_of_run hrun htask, hmember]
  case deadline =>
    refine completes_took (f := (·.reportDeadline [])) rfl ha ?_
    subst hok
    obtain ⟨e, he, hfinal⟩ := reportDeadline_ok hrun htask hm hleaf hmaster habort hclu hst hdec rfl hnow
    rw [hfinal]
    obtain ⟨hnone, htasks, hsave, -, hcount, hflood, hmem⟩ := finishTask_final (d := s.dev.settled) t e _ hq
      (fun h => absurd he h) hm hring 8 rfl
    refine ⟨hnone, ?_, ?_, fun u hu => ?_, hflood, hmem⟩
    · rw [hsave, if_pos he]; rfl
    · rw [hcount _ (by decide) (by decide), reg_countEnd_task, reg_originate]; rfl
    · rw [htasks] at hu
      simpa using (List.mem_filter.1 hu).2
  case finalSeen => exact completes_took (f := (·.finalReceived n st seq)) rfl ha (flooded_of_seen hseen _ _)
  case final =>
    refine completes_took (f := (·.finalReceived n 8 seq)) rfl ha ?_
    rw [finalReceived_ok hrun htask hm hmember hclu hnew]
    generalize he : r.endRecord 8 (r.start.getD s.dev.now) = e
    have he8 : e.status = 8 := by rw [← he]; rfl
    have hmem : SameMemory s.dev (s.dev.forwarded m n 0x15 seq [8]) := ⟨rfl, rfl, rfl, rfl⟩
    have hlan : (s.dev.forwarded m n 0x15 seq [8]).lantern = s.dev.lantern := rfl
    have hregs : (s.dev.forwarded m n 0x15 seq [8]).regs = s.dev.regs := rfl
    have hout : (s.dev.forwarded m n 0x15 seq [8]).out = s.dev.out := rfl
    generalize s.dev.forwarded m n 0x15 seq [8] = f at hmem hlan hregs hout ⊢
    have hfin : e.status ≠ 8 → f.now ≤ s.dev.now := fun h => absurd he8 h
    have honly := finishTask_only f t e s.dev.now r hq hfin
    refine ⟨?_, ?_, ?_, ?_, ?_, hmem.trans (sameMemory_finishTask t e _ hq hfin)⟩
    · rw [honly]
    · rw [honly, he8]; rfl
    · rw [honly, ← hlan]
    · rw [reg_finishTask f t e _ r hq hfin (.inl (by decide)), recorded_remote f t e _ hremote, reg_countEnd_dropTask,
        reg_countEnd_task, reg_of_regs hregs]
    · have hsent : (f.finishTask r t e s.dev.now).out = (f.recorded t e s.dev.now).out := by rw [honly]
      rw [hsent, recorded_remote f t e _ hremote, (onlyRegs_countEnd _ _).1, ← hout]
      rfl
  case noTimeout =>
    refine completes_took (f := Device.abortTimeout) rfl ha ?_
    rcases hidle with h | h
    · simp only [Device.abortTimeout, h]
      cases s.dev.holder <;> rfl
    · simp [Device.abortTimeout, Device.holder, h]
  case timeout =>
    refine completes_took (f := Device.abortTimeout) rfl ha ?_
    have htask : s.dev.task r.task = some t := by rw [hid]; exact task_of_only htasks
    obtain ⟨e, he, hfinal⟩ := abortTimeout_running hrun htask hst habort hnow
    rw [hfinal]
    obtain ⟨hnone, hgone, -, hfrom, hcount, hflood, hmem⟩ := finishTask_final (d := s.dev.settled) t e s.dev.now hq
      (fun _ => le_rfl) hm hring 0xA rfl
    refine ⟨hnone, ?_, hfrom, ?_, ?_, hflood, hmem⟩
    · rw [hgone]
      show s.dev.lantern.tasks.filter _ = []
      simp [htasks]
    · rw [hcount _ (by decide) (by decide), he, reg_countEnd_aborted, reg_originate]; rfl
    · rw [hcount _ (by decide) (by decide), reg_countEnd_task, reg_originate]; rfl

end Sys2Proof.Machine
end

section
/-!
PROOFS. A virtual function's page (R190, R209, R297, R306, R384): what its writes reach, and that they reach nothing of others.
-/
namespace Sys2Proof.Machine

open Sys2Proof

/-! ### Changes to one queue -/

/-- From `d` to `d'` the memories and every queue but `q` are as they were. -/
def OnlyQueue (q : Nat) (d d' : Device) : Prop := (∀ p, p ≠ q → d'.queue p = d.queue p) ∧ SameMemory d d'

namespace OnlyQueue
variable {q : Nat} {d d' d'' : Device}

theorem refl (q : Nat) (d : Device) : OnlyQueue q d d := ⟨fun _ _ => rfl, rfl, rfl, rfl, rfl⟩

theorem trans (h : OnlyQueue q d d') (h' : OnlyQueue q d' d'') : OnlyQueue q d d'' :=
  ⟨fun p hp => (h'.1 p hp).trans (h.1 p hp), h.2.trans h'.2⟩

theorem of_queues (h : d'.queues = d.queues) (hmem : SameMemory d d') : OnlyQueue q d d' :=
  ⟨fun p _ => by rw [Device.queue, h, Device.queue], hmem⟩

end OnlyQueue

theorem onlyQueue_setQueue (d : Device) (q : Nat) (x : Queue) : OnlyQueue q d (d.setQueue q x) :=
  ⟨fun _ hp => queue_setQueue_ne d x hp, rfl, rfl, rfl, rfl⟩

theorem onlyQueue_bump (d : Device) (q a n : Nat) : OnlyQueue q d (d.bump a n) := .of_queues rfl (onlyRegs_bump d a n).sameMemory

theorem onlyQueue_noteEval (d : Device) (q : Nat) (p : Task → Bool) (g : Nat) : OnlyQueue q d (d.noteEval p g) :=
  .of_queues rfl ⟨rfl, rfl, rfl, rfl⟩

theorem onlyQueue_gateQueue (d : Device) (q lag : Nat) (x : Queue) : OnlyQueue q d (d.gateQueue q lag x) := by
  unfold Device.gateQueue
  split
  · exact (onlyQueue_setQueue d q _).trans (onlyQueue_noteEval _ q _ _)
  · exact onlyQueue_setQueue d q x

/-- The queue itself becomes what it is to become, but for when its gate opens. -/
theorem queue_gateQueue (d : Device) (q lag : Nat) (x : Queue) :
    ∃ g, (d.gateQueue q lag x).queue q = { x with openFrom := g } := by
  unfold Device.gateQueue
  split
  · exact ⟨_, queue_setQueue d q _⟩
  · exact ⟨x.openFrom, queue_setQueue d q x⟩

theorem onlyQueue_spillCell (d : Device) (q : Nat) (c : QCell) : OnlyQueue q d (d.spillCell c).2 := by
  unfold Device.spillCell
  split
  · exact .refl q d
  · obtain ⟨-, hmem, -, hqueues, -⟩ := newTxn_rest d 5 .write _ 1 _ 0 _
    exact .of_queues hqueues hmem

theorem onlyQueue_linkCell (d : Device) (q : Nat) (c : QCell) : OnlyQueue q d (d.linkCell q c) := by
  have hin : OnlyQueue q d (d.bump Reg.qmgCellsInCnt 1) := onlyQueue_bump d q _ 1
  unfold Device.linkCell
  dsimp only
  split
  · exact hin.trans ((onlyQueue_setQueue _ q _).trans (onlyQueue_bump _ q _ 1))
  · exact hin.trans ((onlyQueue_spillCell _ q c).trans (onlyQueue_gateQueue _ q 2 _))

theorem onlyQueue_truncatePacket (d : Device) (q : Nat) : OnlyQueue q d (d.truncatePacket q) := by
  unfold Device.truncatePacket
  dsimp only
  split
  · exact .refl q d
  next a _ =>
    have hcount : OnlyQueue q d ((d.setQueue q { d.queue q with asm := none }).bump Reg.qmgTruncCnt 1) :=
      (onlyQueue_setQueue d q _).trans (onlyQueue_bump _ q _ 1)
    split
    · split
      · split
        · exact hcount.trans (onlyQueue_setQueue _ q _)
        · exact hcount.trans (onlyQueue_gateQueue _ q 2 _)
      · exact hcount
    · exact hcount.trans (onlyQueue_linkCell _ q _)

/-! ### Start markers and flushes (R297, R306) -/

/-- A valid start marker opens a packet in its queue. -/
theorem startMarker_valid (d : Device) (q init : Nat) {len : Nat} (hpos : len ≠ 0) (hmax : len ≤ 1048576) :
    OnlyQueue q d (d.startMarker q len init) ∧
      ∃ a : Assembly, ((d.startMarker q len init).queue q).asm = some a ∧ a.length = len ∧ a.init = init ∧ a.got = 0 := by
  have hlen : ¬(len = 0 ∨ 1048576 < len) := by omega
  simp only [Device.startMarker, if_neg hlen]
  exact ⟨(onlyQueue_truncatePacket d q).trans (onlyQueue_setQueue _ q _), _, congrArg Queue.asm (queue_setQueue _ q _),
    rfl, rfl, rfl⟩

theorem serveCopies_of_none {d : Device} (h : d.cluster.copies = []) : d.serveCopies = d := by
  unfold Device.serveCopies
  generalize List.range 256 = gs
  induction gs with
  | nil => rfl
  | cons g gs ih =>
    rw [List.foldl_cons, h]
    cases d.group g <;> exact ih

/-- A flush keeps the cells before the read position, and drops the packet in assembly. -/
theorem flushQueue_effect (d : Device) (q : Nat) : OnlyQueue q d (d.flushQueue q) ∧
    ((d.flushQueue q).queue q).cells = (d.queue q).cells.take ((d.queue q).rd - (d.queue q).head) ∧
    ((d.flushQueue q).queue q).asm = none ∧ (d.flushQueue q).cluster = d.cluster := by
  have hclu (lag : Nat) (x : Queue) : (d.gateQueue q lag x).cluster = d.cluster := by
    unfold Device.gateQueue
    split <;> rfl
  have hgate (x : Queue) : OnlyQueue q d (d.gateQueue q 1 x) ∧ ((d.gateQueue q 1 x).queue q).cells = x.cells ∧
      ((d.gateQueue q 1 x).queue q).asm = x.asm ∧ (d.gateQueue q 1 x).cluster = d.cluster := by
    obtain ⟨g, hq⟩ := queue_gateQueue d q 1 x
    exact ⟨onlyQueue_gateQueue d q 1 x, by rw [hq], by rw [hq], hclu 1 x⟩
  unfold Device.flushQueue
  dsimp only
  obtain ⟨honly, hcells, hasm, hcluster⟩ := hgate { d.queue q with
    cells := (d.queue q).cells.take ((d.queue q).rd - (d.queue q).head), asm := none, freeing := false }
  split
  · exact ⟨honly, hcells, hasm, hcluster⟩
  · exact ⟨honly.trans (onlyQueue_bump _ q _ _), hcells, hasm, hcluster⟩

/-! ### What a virtual function's page does (R384) -/

section
variable {d : Device} {v : Nat} {w : BitVec 32}

theorem vfAbort_own (hn : fld w 0 16 ≤ 49151) (hvalid : bit w 31 = true) (hown : d.ctxFunc (fld w 0 16) = v) :
    d.vfAbort v w = d.lntAbort w := by
  simp [Device.vfAbort, hvalid, hown, hn]

theorem vfAbort_other (hvalid : bit w 31 = true) (hother : d.ctxFunc (fld w 0 16) ≠ v) : d.vfAbort v w = d.deny := by
  simp [Device.vfAbort, hvalid, hother]

theorem vfFlush_own (hown : d.queueFunc (fld w 0 16) = v) : d.vfFlush v w = d.flushWrite w := if_neg (not_not.2 hown)

theorem vfFlush_other (hother : d.queueFunc (fld w 0 16) ≠ v) : d.vfFlush v w = d.deny := if_pos hother

/-- A start marker of an own queue, while the clocks of the queue manager run. -/
theorem vfSop_own {x : Word} (hown : d.queueFunc (fld x 0 16) = v) (hpower : d.power ≤ 1) (hvalid : bit x 63 = true) :
    d.vfSop v x = d.startMarker (fld x 0 16) (fld x 16 21) (0x80 + v) := by
  have hwake : d.requestWake false = d := by
    rcases Nat.le_one_iff_eq_zero_or_eq_one.1 hpower with h | h
    · exact requestWake_run false h
    · exact requestWake_warm h
  simp [Device.vfSop, hown, hwake, Device.sopWrite, hvalid]

end

/-- The denial of what is not the function's own is counted, and changes nothing else. -/
theorem deny_effect (d : Device) :
    d.deny.reg Reg.hifVfDenyCnt = d.reg Reg.hifVfDenyCnt + 1 ∧ OnlyRegs [Reg.hifVfDenyCnt] d d.deny :=
  ⟨reg_bump d _ 1, onlyRegs_bump d _ 1⟩

/-- A change to the one task of a context that leaves it there. -/
theorem ctxTasks_mapTask {d : Device} {n : Nat} {t : Task} (hone : d.ctxTasks n = [t]) {f : Task → Task}
    (hctx : ∀ u, (f u).ctx = u.ctx) : (d.mapTask t.id f).ctxTasks n = [f t] := by
  have hpred : (fun u : Task => u.ctx == n) ∘ (fun u => if u.id = t.id then f u else u) = fun u => u.ctx == n := by
    funext u
    by_cases hu : u.id = t.id <;> simp [hu, hctx]
  have hone' : d.lantern.tasks.filter (fun u => u.ctx == n) = [t] := hone
  rw [Device.ctxTasks, Device.mapTask, List.filter_map, hpred, hone']
  simp

/-- Settles O8: own writes are those of the physical function's registers, and others are denied. -/
theorem virtualFunctionActsOnItsOwn : Obligations.VirtualFunctionActsOnItsOwn := by
  intro s v w x ha
  refine ⟨fun hn hvalid => ⟨fun hown => ⟨?abortSame, fun t hrun hpend hone hst hlocal hcons => ?abort⟩,
      fun hother => ?abortDenied⟩,
    fun hown => ⟨?flushSame, fun hvalid hcopies => ?flush⟩, fun hother => ?flushDenied,
    fun hown hpower hvalid hpos hmax => ?sop, fun hn hown hinc hvid => ?sig⟩
  case abortSame =>
    refine ⟨_, took_alive (·.vfAbort v w) ha, ?_⟩
    rw [vfAbort_own hn hvalid hown]
    exact took_alive (·.lntAbort w) ha
  case abort =>
    refine completes_took (f := (·.vfAbort v w)) rfl ha ?_
    have hfree : ∀ u, s.dev.lantern.run = some u → u.cluster = false := fun u hu => by
      rw [hrun] at hu
      cases hu
    rw [vfAbort_own hn hvalid hown, lntAbort_of_valid hvalid hn, abortRequest_local hfree hpend]
    have hended : (s.dev.mapTask t.id Task.endedEarly).ctxTasks (fld w 0 16) = [{ t with state := .ended }] := by
      rw [ctxTasks_mapTask hone (f := Task.endedEarly) fun _ => rfl, Task.endedEarly_of_none hcons]
    obtain ⟨honly, -⟩ := abortContext_waiting_only hone hst hcons hlocal (bit w 30)
    rw [honly]
    exact ⟨hended, ⟨_, List.mem_append_right _ List.mem_cons_self, rfl, rfl, rfl⟩, rfl, rfl, rfl, rfl, rfl, rfl⟩
  case abortDenied =>
    refine completes_took (f := (·.vfAbort v w)) rfl ha ?_
    rw [vfAbort_other hvalid hother]
    exact deny_effect s.dev
  case flushSame =>
    refine ⟨_, took_alive (·.vfFlush v w) ha, ?_⟩
    rw [vfFlush_own hown]
    exact took_alive (·.flushWrite w) ha
  case flush =>
    refine completes_took (f := (·.vfFlush v w)) rfl ha ?_
    obtain ⟨honly, hcells, hasm, hcluster⟩ := flushQueue_effect s.dev (fld w 0 16)
    have he : s.dev.flushWrite w = s.dev.flushQueue (fld w 0 16) := by
      rw [Device.flushWrite, if_pos hvalid]
      exact serveCopies_of_none (by rw [hcluster, hcopies])
    rw [vfFlush_own hown, he]
    exact ⟨hcells, hasm, honly.1, honly.2⟩
  case flushDenied =>
    refine completes_took (f := (·.vfFlush v w)) rfl ha ?_
    rw [vfFlush_other hother]
    exact deny_effect s.dev
  case sop =>
    refine completes_took (f := (·.vfSop v x)) rfl ha ?_
    obtain ⟨honly, hasm⟩ := startMarker_valid s.dev (fld x 0 16) (0x80 + v) hpos hmax
    rw [vfSop_own hown hpower hvalid]
    exact ⟨hasm, honly.1, honly.2⟩
  case sig =>
    refine completes_took (f := (·.vfSig v x)) rfl ha ?_
    have hpass : ¬(49151 < fld x 40 16 ∨ s.dev.ctxFunc (fld x 40 16) ≠ v) := by
      rw [not_or, not_not]
      exact ⟨by omega, hown⟩
    simp only [Device.vfSig, if_neg hpass, if_neg hinc]
    exact ⟨⟨_, rfl, rfl, rfl, rfl, rfl⟩, rfl, rfl, rfl, rfl, rfl, rfl⟩

end Sys2Proof.Machine
end

section
/-!
PROOFS. Slots and regions of a load, and its end (R182, R396, R399, R421 - R426).
-/
namespace Sys2Proof.Machine

open Sys2Proof

/-! ### A device without tasks -/

section
variable {d : Device} (htasks : d.lantern.tasks = [])
include htasks

theorem noteEval_of_none (p : Task → Bool) (g : Nat) : d.noteEval p g = d := by
  have hnone : d.lantern.tasks.filter (fun t => t.state == .waiting && p t) = [] := by rw [htasks]; rfl
  simp [Device.noteEval, hnone]

theorem refuseWhere_of_none (p : Task → Bool) : d.refuseWhere p = d := by
  simp [Device.refuseWhere, htasks]

theorem selectionDue_of_none (n : Nat) : d.selectionDue n = false := by
  have hpick : d.pickTask (d.candidates d.now) = none := by
    rw [Device.candidates, Device.eligible, htasks]
    rfl
  rw [Device.selectionDue, hpick]
  simp

end

/-! ### Validity of slots (R181, R182) -/

theorem lntSlotValid_ne {i j : Nat} (h : i ≠ j) : Reg.lntSlotValid i ≠ Reg.lntSlotValid j := by
  unfold Reg.lntSlotValid
  omega

theorem onlyRegs_setSlotValid (d : Device) (n : Nat) (b : Bool) : OnlyRegs [Reg.lntSlotValid (n / 64)] d (d.setSlotValid n b) :=
  onlyRegs_setF d _ _ _ _

theorem regBit_setSlotValid (d : Device) (n : Nat) (b : Bool) :
    (d.setSlotValid n b).regBit (Reg.lntSlotValid (n / 64)) (n % 64) = b := by
  rw [Device.setSlotValid, regBit_setF_one _ _ _ (by omega), testBit_b2n]

theorem regBit_setSlotValid_ne (d : Device) {n m : Nat} (b : Bool) (h : m ≠ n) :
    (d.setSlotValid n b).regBit (Reg.lntSlotValid (m / 64)) (m % 64) = d.regBit (Reg.lntSlotValid (m / 64)) (m % 64) := by
  by_cases hw : m / 64 = n / 64
  · rw [Device.setSlotValid, hw]
    exact regBit_setF_outside d _ _ (by omega)
  · exact regBit_setF_other d _ _ _ _ (lntSlotValid_ne hw)

/-! ### Packets without data (R414, R415) -/

/-- What is known of a load whose next packet has operation `op`. -/
theorem packet_some {d : Device} {op : Nat} {l : Load} (h : d.packet op = some l) :
    d.load = some l ∧ l.phase = .body ∧ l.slotHeld = false := by
  unfold Device.packet at h
  split at h
  · cases h
  next k hk =>
    split at h
    next hc =>
      cases h
      exact ⟨hk, hc.1, hc.2.1⟩
    · cases h

/-- The load past a packet that is its header alone. -/
def Load.past16 (l : Load) : Load := { l with body := l.body.drop 16, done := l.done + 16 }

/-- Past a packet of 16 bytes, with less than another one there and room for it in the body, the load waits for more. -/
theorem consume_bare {d : Device} {k l : Load} (hk : d.load = some k) (hphase : k.phase = .body) (hlen : k.body.length < 32)
    (hroom : k.done + 32 ≤ k.bodyLen) (hplen : l.plen = 0) : d.consume l = { d with load := some k.past16 } := by
  have hmap : d.mapLoad (fun x => { x with body := x.body.drop (16 + l.plen), done := x.done + 16 + l.plen }) =
      { d with load := some k.past16 } := by
    simp [Device.mapLoad, hk, hplen, Load.past16]
  have hbody : ¬k.past16.bodyLen < k.past16.done + 16 := by
    show ¬k.bodyLen < k.done + 16 + 16
    omega
  have hfew : ¬(16 ≤ k.past16.body.length ∧ k.past16.packetBad = true) := by
    rintro ⟨hlong, -⟩
    simp only [Load.past16, List.length_drop] at hlong
    omega
  rw [Device.consume, hmap, Device.screen]
  simp only [hbody, hfew, if_false]
  exact if_neg (not_not.2 hphase)

/-! ### Slots (R182, R421, R426) -/

section
variable {d : Device} {l : Load} {n : Nat} (htasks : d.lantern.tasks = []) (hn : fld l.p1 0 10 = n)
include htasks hn

/-- A SLOT_BEGIN of a slot whose task does not run opens the slot. -/
theorem slotBegins_free (hpacket : d.packet 0x05 = some l) (hrun : d.lantern.run = none) :
    d.slotBegins = ((d.openSlot n).mapLoad (fun l => { l with openSlot := some n, headerIn := false })).consume l := by
  simp [Device.slotBegins, hpacket, hn, selectionDue_of_none htasks, hrun]

/-- A SLOT_BEGIN of the slot of the running task is held. -/
theorem slotBegins_held (hpacket : d.packet 0x05 = some l) {r : Run} (hrun : d.lantern.run = some r) (hslot : r.slot = n) :
    d.slotBegins = (d.mapLoad (fun l => { l with slotHeld := true })).setHeld true := by
  simp [Device.slotBegins, hpacket, hn, selectionDue_of_none htasks, hrun, hslot]

end

/-- The rewrite of a slot is over, on a device without tasks. -/
def Device.slotClosed (d : Device) (n : Nat) (ok : Bool) : Device :=
  ({ d with lantern := { d.lantern with rewriting := d.lantern.rewriting.filter (fun x => x != n) } } : Device).setSlotValid n ok

theorem slotRewritten_of_none {d : Device} (htasks : d.lantern.tasks = []) (n : Nat) (ok : Bool) :
    d.slotRewritten n ok = d.slotClosed n ok := by
  cases ok with
  | true => exact noteEval_of_none (d := d.slotClosed n true) htasks _ _
  | false => exact refuseWhere_of_none (d := d.slotClosed n false) htasks _

theorem slotClosed_only (d : Device) (n : Nat) (ok : Bool) : d.slotClosed n ok = { d with
    regs := (d.slotClosed n ok).regs
    lantern := { d.lantern with rewriting := d.lantern.rewriting.filter (fun x => x != n) } } := by
  rw [Device.slotClosed, (onlyRegs_setSlotValid _ n ok).1]

theorem sameRegs_slotClosed (d : Device) (n : Nat) (ok : Bool) : SameRegs [Reg.lntSlotValid (n / 64)] d (d.slotClosed n ok) :=
  fun a ha => (onlyRegs_setSlotValid _ n ok).2 a ha

theorem regBit_slotClosed (d : Device) (n : Nat) (ok : Bool) :
    (d.slotClosed n ok).regBit (Reg.lntSlotValid (n / 64)) (n % 64) = ok := regBit_setSlotValid _ n ok

theorem not_mem_rewriting_slotClosed (d : Device) (n : Nat) (ok : Bool) : n ∉ (d.slotClosed n ok).lantern.rewriting := by
  rw [slotClosed_only]
  simp

/-- The device on which slot `n` has been refused with code `c`. -/
def Device.refusedSlot (d : Device) (n c : Nat) : Device :=
  (d.setReg Reg.cfgSlotErr (mkWord [(31, 1), (16, c), (0, n)])).bump Reg.cfgSlotRefuseCnt 1

theorem onlyRegs_refusedSlot (d : Device) (n c : Nat) : OnlyRegs [Reg.cfgSlotErr, Reg.cfgSlotRefuseCnt] d (d.refusedSlot n c) :=
  ((OnlyRegs.refl d _).setReg (by simp) _).bump (by simp) 1

section
variable {d : Device} (htasks : d.lantern.tasks = []) {n : Nat}
include htasks

theorem checkSlot_empty (hempty : d.slotEmpty n = true) : d.checkSlot n = d.slotClosed n false := by
  rw [Device.checkSlot, if_pos hempty, slotRewritten_of_none htasks]

theorem checkSlot_passed (hempty : d.slotEmpty n = false) (hcode : d.slotCode n d.validSlots = none) :
    d.checkSlot n = d.slotClosed n true := by
  simp only [Device.checkSlot, hempty, hcode, Bool.false_eq_true, if_false, slotRewritten_of_none htasks]

theorem checkSlot_refused (hempty : d.slotEmpty n = false) {c : Nat} (hcode : d.slotCode n d.validSlots = some c) :
    d.checkSlot n = (d.refusedSlot n c).slotClosed n false := by
  have htasks' : (d.refusedSlot n c).lantern.tasks = [] := htasks
  simp only [Device.checkSlot, hempty, hcode, Bool.false_eq_true, if_false]
  exact slotRewritten_of_none htasks' n false

end

/-- A SLOT_END passes on once the slot has been checked. -/
theorem slotEnds_eq {d : Device} {l : Load} {n : Nat} (hpacket : d.packet 0x06 = some l) (hn : fld l.p1 0 10 = n) :
    d.slotEnds = ((d.checkSlot n).mapLoad (fun l => { l with openSlot := none })).consume l := by
  simp [Device.slotEnds, hpacket, hn]

/-! ### Regions (R396, R399, R406, R425) -/

theorem onlyRegs_setAps (d : Device) (r : Nat) (b : Bool) : OnlyRegs [Reg.cfgFabApStatus] d (d.setAps r b) := by
  refine OnlyRegs.foldl (fun a _ e => ?_) d
  split
  · exact onlyRegs_setF e _ _ _ _
  · exact OnlyRegs.refl e _

/-- The registers that show the banks and the lanes. -/
def ioRegs : List Nat := Reg.cfgFabBankStatus :: (List.range 16).map Reg.cfgFabLaneStatus

theorem onlyRegs_releaseIo (d : Device) (p : Nat → Bool) : OnlyRegs ioRegs d (d.releaseIo p) := by
  have hbank : Reg.cfgFabBankStatus ∈ ioRegs := List.mem_cons_self
  refine OnlyRegs.trans (OnlyRegs.foldl (fun q _ e => ?_) d) (OnlyRegs.foldl (fun k hk e => ?_) _)
  · split
    · exact (OnlyRegs.refl e _).setF hbank _ _ _
    · exact OnlyRegs.refl e _
  · have hlane : Reg.cfgFabLaneStatus k ∈ ioRegs := List.mem_cons_of_mem _ (List.mem_map_of_mem hk)
    split
    · split
      · exact (OnlyRegs.refl e _).setF hlane _ _ _
      · exact (OnlyRegs.refl e _).setF hlane _ _ _
    · exact OnlyRegs.refl e _

/-- The device whose region `n` is closed for its rewrite. -/
def Device.regionOpened (d : Device) (n : Nat) : Device :=
  (((d.engage n d.now).setF Reg.cfgRegionValid n 1 0).setAps n false).setRegion n false

/-- The device whose region `n` is released. -/
def Device.regionReleased (d : Device) (n : Nat) : Device :=
  ((((d.restartRegion n).setRegion n true).releaseIo (· == n)).setAps n true).setF Reg.cfgRegionValid n 1 1

theorem regionOpened_only (d : Device) (n : Nat) : d.regionOpened n =
    { d with regs := (d.regionOpened n).regs, fabric := (d.regionOpened n).fabric } := by
  have h : d.regionOpened n = ((((d.engage n d.now).setF Reg.cfgRegionValid n 1 0).setAps n false)).setRegion n false := rfl
  rw [h, (onlyRegs_setAps _ n false).1]
  rfl

theorem sameRegs_regionOpened (d : Device) (n : Nat) :
    SameRegs [Reg.cfgRegionValid, Reg.cfgFabApStatus] d (d.regionOpened n) := by
  have hvalid : OnlyRegs [Reg.cfgRegionValid, Reg.cfgFabApStatus] (d.engage n d.now)
      (((d.engage n d.now).setF Reg.cfgRegionValid n 1 0).setAps n false) :=
    ((OnlyRegs.refl _ _).setF (by simp) _ _ _).trans ((onlyRegs_setAps _ n false).mono (by simp))
  exact fun a ha => hvalid.2 a ha

section
variable (d : Device) {n : Nat} (hn : n < 48)
include hn

theorem bit_setRegion (b : Bool) :
    bit (d.setRegion n b).fabric.running n = b ∧ bit (d.setRegion n b).fabric.writeEn n = b := by
  have hbit (v : BitVec 48) : bit (putFld v n 1 (b2n b)) n = b := by
    rw [bit_putFld, if_pos (by omega), Nat.sub_self, testBit_b2n]
  exact ⟨hbit _, hbit _⟩

theorem bit_regionOpened :
    bit (d.regionOpened n).fabric.running n = false ∧ bit (d.regionOpened n).fabric.writeEn n = false :=
  bit_setRegion (((d.engage n d.now).setF Reg.cfgRegionValid n 1 0).setAps n false) hn false

theorem regBit_regionOpened : (d.regionOpened n).regBit Reg.cfgRegionValid n = false := by
  have h := (onlyRegs_setAps ((d.engage n d.now).setF Reg.cfgRegionValid n 1 0) n false).2 Reg.cfgRegionValid (by decide)
  rw [Device.regBit, Device.regionOpened, reg_setRegion, h, ← Device.regBit, regBit_setF_one _ _ _ (by omega)]
  rfl

omit hn in
theorem regBit_regionOpened_ne {i : Nat} (h : i ≠ n) :
    (d.regionOpened n).regBit Reg.cfgRegionValid i = d.regBit Reg.cfgRegionValid i := by
  have haps := (onlyRegs_setAps ((d.engage n d.now).setF Reg.cfgRegionValid n 1 0) n false).2 Reg.cfgRegionValid (by decide)
  rw [Device.regBit, Device.regionOpened, reg_setRegion, haps, ← Device.regBit, regBit_setF_outside _ _ _ (by omega),
    Device.regBit, Device.engage, reg_mapFabric, ← Device.regBit]

end

theorem fabric_regionReleased (d : Device) (n : Nat) :
    (d.regionReleased n).fabric = ((d.restartRegion n).setRegion n true).fabric := by
  have h : d.regionReleased n =
      ((((d.restartRegion n).setRegion n true).releaseIo (· == n)).setAps n true).setF Reg.cfgRegionValid n 1 1 := rfl
  rw [h, (onlyRegs_setF _ _ _ _ _).1, (onlyRegs_setAps _ n true).1, (onlyRegs_releaseIo _ _).1]

theorem regionReleased_only (d : Device) (n : Nat) : d.regionReleased n =
    { d with regs := (d.regionReleased n).regs, fabric := (d.regionReleased n).fabric } := by
  have h : d.regionReleased n =
      ((((d.restartRegion n).setRegion n true).releaseIo (· == n)).setAps n true).setF Reg.cfgRegionValid n 1 1 := rfl
  rw [h, (onlyRegs_setF _ _ _ _ _).1, (onlyRegs_setAps _ n true).1, (onlyRegs_releaseIo _ _).1]
  rfl

theorem bit_regionReleased (d : Device) {n : Nat} (hn : n < 48) :
    bit (d.regionReleased n).fabric.running n = true ∧ bit (d.regionReleased n).fabric.writeEn n = true := by
  rw [fabric_regionReleased]
  exact bit_setRegion (d.restartRegion n) hn true

theorem regBit_regionReleased (d : Device) {n : Nat} (hn : n < 48) : (d.regionReleased n).regBit Reg.cfgRegionValid n = true :=
  regBit_setF_one _ _ _ (by omega)

section
variable {d : Device} {l : Load} {n : Nat} (hn : fld l.p1 0 6 = n)
include hn

theorem regionBegins_eq (hpacket : d.packet 0x07 = some l) :
    d.regionBegins = ((d.regionOpened n).mapLoad (fun l => { l with openRegion := some n })).consume l := by
  simp only [Device.regionBegins, hpacket, hn]
  rfl

theorem regionEnds_passed (hpacket : d.packet 0x08 = some l) (hcode : d.fabricCode (· == n) = none) :
    d.regionEnds = ((d.regionReleased n).mapLoad (fun l => { l with openRegion := none })).consume l := by
  simp only [Device.regionEnds, hpacket, hn, hcode]
  rfl

theorem regionEnds_failed (hpacket : d.packet 0x08 = some l) {c : Nat} (hcode : d.fabricCode (· == n) = some c) :
    d.regionEnds = d.loadFail c := by
  simp only [Device.regionEnds, hpacket, hn, hcode]

end

/-! ### A load that ends (R408, R422 - R424) -/

/-- The device on which the error of the load has been recorded. -/
def Device.errored (d : Device) (l : Load) (code : Nat) : Device :=
  (d.setReg Reg.cfgErr (mkWord [(63, 1), (48, code), (0, l.offset)])).setReg Reg.cfgErrLoc
    (mkWord [(50, l.openRegion.getD 0), (40, l.openSlot.getD 0), (0, l.faddr.toNat)])

theorem onlyRegs_errored (d : Device) (l : Load) (code : Nat) : OnlyRegs [Reg.cfgErr, Reg.cfgErrLoc] d (d.errored l code) :=
  ((OnlyRegs.refl d _).setReg (by simp) _).setReg (by simp) _

/-- The first error of a load is recorded. -/
theorem loadError_first {d : Device} {l : Load} (hl : d.load = some l) (hfirst : d.regBit Reg.cfgErr 63 = false) (code : Nat) :
    d.loadError code = d.errored l code := by
  simp [Device.loadError, hl, hfirst, Device.errored]

/-- The position of a byte that has a place in CFG_ERR. -/
theorem offset_lt {l : Load} (h : l.done < 2 ^ 40) : l.offset < 2 ^ 48 := by
  unfold Load.offset
  split <;> omega

/-- CFG_ERR shows the code, and that it holds an error. -/
theorem cfgErr_errored (d : Device) {l : Load} (h : l.done < 2 ^ 40) {code : Nat} (hcode : code < 256) :
    (d.errored l code).regF Reg.cfgErr 48 8 = code ∧ (d.errored l code).regBit Reg.cfgErr 63 = true := by
  have hoff := offset_lt h
  have hreg : (d.errored l code).reg Reg.cfgErr = mkWord [(63, 1), (48, code), (0, l.offset)] := by
    rw [Device.errored, reg_setReg_ne _ _ (by decide), reg_setReg]
  have hfld (lo w : Nat) : (d.errored l code).regF Reg.cfgErr lo w = fld (mkWord [(63, 1), (48, code), (0, l.offset)]) lo w := by
    rw [Device.regF, hreg]
  constructor
  · rw [hfld, fld_mkWord]
    simp only [List.foldl_cons, List.foldl_nil]
    omega
  · have hone : b2n ((d.errored l code).regBit Reg.cfgErr 63) = 1 := by
      rw [← regF_one, hfld, fld_mkWord]
      simp only [List.foldl_cons, List.foldl_nil]
      omega
    cases hb : (d.errored l code).regBit Reg.cfgErr 63 with
    | true => rfl
    | false => rw [hb] at hone; exact absurd hone (by decide)

theorem load_closeLoad (d : Device) : d.closeLoad.load = none := rfl

theorem sameMemory_closeLoad (d : Device) : SameMemory d d.closeLoad := ⟨rfl, rfl, rfl, rfl⟩

theorem load_setCfgState (d : Device) (x : Nat) : (d.setCfgState x).load = d.load := rfl

theorem sameRegs_closeLoad (d : Device) : SameRegs [Reg.cfgStatus] d d.closeLoad := by
  have h : OnlyRegs [Reg.cfgStatus] d ((d.setF Reg.cfgStatus 4 1 0).setHeld false) :=
    ((OnlyRegs.refl d _).setF (by simp) _ _ _).setF (by simp) _ _ _
  exact fun a ha => h.2 a ha

/-- CFG_STATUS shows that no load is in progress. -/
theorem regBit_closeLoad (d : Device) : d.closeLoad.regBit Reg.cfgStatus 4 = false := by
  have h : ((d.setF Reg.cfgStatus 4 1 0).setHeld false).regBit Reg.cfgStatus 4 = false := by
    rw [Device.setHeld, regBit_setF_outside _ _ _ (by omega), regBit_setF_one _ _ _ (by omega)]
    rfl
  exact h

theorem cfgState_closeLoad (d : Device) : d.closeLoad.cfgState = d.cfgState := by
  have h : ((d.setF Reg.cfgStatus 4 1 0).setHeld false).cfgState = d.cfgState := by
    rw [Device.setHeld, Device.cfgState, regF_setF_ne _ _ _ (by omega), regF_setF_ne _ _ _ (by omega), Device.cfgState]
  exact h

theorem cfgState_setCfgState (d : Device) {x : Nat} (h : x < 16) : (d.setCfgState x).cfgState = x := by
  rw [Device.cfgState, Device.setCfgState, regF_setF _ _ _ (by omega)]
  omega

/-- The error of a load of the fabric's regions leaves the device configured. -/
theorem loadFail_regions {d : Device} {l : Load} (hl : d.load = some l) (hphase : l.phase = .body) (hkind : l.kind = 3)
    (hfirst : d.regBit Reg.cfgErr 63 = false) (code : Nat) :
    d.loadFail code = (((d.errored l code).bump Reg.cfgLoadFailCnt 1).closeLoad).setCfgState 4 := by
  simp [Device.loadFail, hl, hphase, Device.failedKind, hkind, loadError_first hl hfirst]

/-- The error of a load whose header has not come leaves the device as it was. -/
theorem loadFail_header {d : Device} {l : Load} (hl : d.load = some l) (hphase : l.phase = .header)
    (hfirst : d.regBit Reg.cfgErr 63 = false) (code : Nat) : d.loadFail code = (d.errored l code).closeLoad := by
  simp [Device.loadFail, hl, hphase, loadError_first hl hfirst]

/-- What such an error shows. -/
theorem loadFail_regions_effect {d : Device} {l : Load} (hl : d.load = some l) (hphase : l.phase = .body) (hkind : l.kind = 3)
    (hdone : l.done < 2 ^ 40) (hfirst : d.regBit Reg.cfgErr 63 = false) (code : Nat) :
    (d.loadFail code).load = none ∧ (code < 256 → (d.loadFail code).regF Reg.cfgErr 48 8 = code) ∧
    (d.loadFail code).reg Reg.cfgLoadFailCnt = d.reg Reg.cfgLoadFailCnt + 1 ∧ (d.loadFail code).cfgState = 4 ∧
    SameMemory d (d.loadFail code) := by
  have hstate (e : Device) : OnlyRegs [Reg.cfgStatus] e (e.setCfgState 4) := onlyRegs_setF e _ _ _ _
  have herr := onlyRegs_errored d l code
  have hcount := onlyRegs_bump (d.errored l code) Reg.cfgLoadFailCnt 1
  rw [loadFail_regions hl hphase hkind hfirst]
  have hclose := sameRegs_closeLoad ((d.errored l code).bump Reg.cfgLoadFailCnt 1)
  refine ⟨load_setCfgState _ 4, fun hcode => ?_, ?_, cfgState_setCfgState _ (by decide),
    ((herr.sameMemory.trans hcount.sameMemory).trans (sameMemory_closeLoad _)).trans (hstate _).sameMemory⟩
  · rw [Device.setCfgState, regF_setF_other _ _ _ _ _ _ (by decide), Device.regF, hclose _ (by decide),
      reg_bump_ne _ _ (by decide), ← Device.regF]
    exact (cfgErr_errored d hdone hcode).1
  · rw [Device.setCfgState, reg_setF_ne _ _ _ _ (by decide), hclose _ (by decide), reg_bump, herr.2 _ (by decide)]
    rfl

/-! ### END (R421, R424) -/

/-- A load that is no FULL load, with no slot open and no task to refuse, ends CONFIGURED with a new measurement. -/
theorem loadDone_regions {d : Device} {l : Load} (htasks : d.lantern.tasks = []) (hkind : l.kind = 3)
    (hslot : l.openSlot = none) : ∃ m, d.loadDone l = { (d.setCfgState 4).closeLoad with keep := { d.keep with measure := m } } := by
  refine ⟨Config.shake256 (d.keep.measure ++ l.header ++ l.trailers), ?_⟩
  generalize he : ({ (d.setCfgState 4).closeLoad with keep := { d.keep with
    measure := Config.shake256 (d.keep.measure ++ l.header ++ l.trailers) } } : Device) = e
  have hnone : e.lantern.tasks = [] := by rw [← he]; exact htasks
  have hdone : d.loadDone l =
      (e.refuseWhere (fun t => t.state != .queued && !e.slotValid t.slot && !e.lantern.rewriting.contains t.slot)).reevaluate := by
    simp [Device.loadDone, hkind, hslot, ← he]
  rw [hdone, refuseWhere_of_none hnone, Device.reevaluate, noteEval_of_none hnone]

section
variable {d : Device} {l : Load} (hpacket : d.packet 0x0F = some l)
include hpacket

theorem endPacket_short (hframes : fld l.p1 0 40 ≠ l.frames) : d.endPacket = d.loadFail 0x14 := by
  simp [Device.endPacket, hpacket, hframes]

theorem endPacket_regions (hframes : fld l.p1 0 40 = l.frames) (hkind : l.kind = 3) :
    d.endPacket = (d.mapLoad Load.past16).loadDone l := by
  simp only [Device.endPacket, hpacket, hframes, ne_eq, not_true_eq_false, if_false, hkind]
  rfl

end

/-! ### A source that stays silent (R408, R422) -/

theorem idleLimit_header {d : Device} {l : Load} (hl : d.load = some l) (hneed : l.need ≠ 0) (hheld : l.slotHeld = false)
    (hnow : l.waitFrom + 1000 * d.regF Reg.cfgCtl 0 24 ≤ d.now) : d.idleLimit = d.loadFail 0x15 := by
  simp [Device.idleLimit, hl, hneed, hheld, advance_past hnow]

theorem idleLimit_held {d : Device} {l : Load} (hl : d.load = some l) (hheld : l.slotHeld = true) : d.idleLimit = d := by
  simp [Device.idleLimit, hl, hheld]

end Sys2Proof.Machine
end

section
/-!
PROOFS. Each packet that opens or closes a slot or a region, and the end of a load, as R182, R396, R399 and R421 - R426 state it.
-/
namespace Sys2Proof.Machine

open Sys2Proof

/-! ### A packet that has been acted on -/

/-- The load of a device, changed and past its packet. -/
theorem consume_mapLoad {d : Device} {l : Load} {f : Load → Load} (hl : d.load = some l) (hphase : (f l).phase = .body)
    (hbody : (f l).body = l.body) (hdone : (f l).done = l.done) (hheader : (f l).header = l.header) (hlen : l.body.length < 32)
    (hroom : l.done + 32 ≤ l.bodyLen) (hplen : l.plen = 0) :
    (d.mapLoad f).consume l = { d with load := some (f l).past16 } := by
  have hmap : d.mapLoad f = { d with load := some (f l) } := by simp [Device.mapLoad, hl]
  have hlen' : (f l).body.length < 32 := by rw [hbody]; exact hlen
  have hroom' : (f l).done + 32 ≤ (f l).bodyLen := by
    rw [hdone, Load.bodyLen, hheader, ← Load.bodyLen]
    exact hroom
  rw [hmap, consume_bare (d := { d with load := some (f l) }) rfl hphase hlen' hroom' hplen]

section
variable {d : Device} {l : Load} {n : Nat} (hl : d.load = some l) (hlen : l.body.length < 32)
  (hplen : l.plen = 0) (hroom : l.done + 32 ≤ l.bodyLen)
include hl hlen hplen hroom

/-- The slot that a SLOT_BEGIN opens. -/
theorem slotBegins_opens (htasks : d.lantern.tasks = []) (hpacket : d.packet 0x05 = some l) (hn : fld l.p1 0 10 = n)
    (hrun : d.lantern.run = none) :
    d.slotBegins = { d.openSlot n with load := some ({ l with openSlot := some n, headerIn := false } : Load).past16 } := by
  obtain ⟨-, hphase, -⟩ := packet_some hpacket
  have hl' : (d.openSlot n).load = some l := hl
  rw [slotBegins_free htasks hn hpacket hrun]
  exact consume_mapLoad (f := fun l => { l with openSlot := some n, headerIn := false }) hl' hphase rfl rfl rfl hlen hroom hplen

omit hl in
/-- What the check of a slot leaves stands once its SLOT_END is past. -/
theorem slotEnds_checked (hpacket : d.packet 0x06 = some l) (hn : fld l.p1 0 10 = n) {e : Device} (he : d.checkSlot n = e)
    (hel : e.load = some l) : d.slotEnds = { e with load := some ({ l with openSlot := none } : Load).past16 } := by
  obtain ⟨-, hphase, -⟩ := packet_some hpacket
  rw [slotEnds_eq hpacket hn, he]
  exact consume_mapLoad (f := fun l => { l with openSlot := none }) hel hphase rfl rfl rfl hlen hroom hplen

theorem regionBegins_opens (hpacket : d.packet 0x07 = some l) (hn : fld l.p1 0 6 = n) :
    d.regionBegins = { d.regionOpened n with load := some ({ l with openRegion := some n } : Load).past16 } := by
  obtain ⟨-, hphase, -⟩ := packet_some hpacket
  have hl' : (d.regionOpened n).load = some l := by rw [regionOpened_only]; exact hl
  rw [regionBegins_eq hn hpacket]
  exact consume_mapLoad (f := fun l => { l with openRegion := some n }) hl' hphase rfl rfl rfl hlen hroom hplen

theorem regionEnds_releases (hpacket : d.packet 0x08 = some l) (hn : fld l.p1 0 6 = n) (hcode : d.fabricCode (· == n) = none) :
    d.regionEnds = { d.regionReleased n with load := some ({ l with openRegion := none } : Load).past16 } := by
  obtain ⟨-, hphase, -⟩ := packet_some hpacket
  have hl' : (d.regionReleased n).load = some l := by rw [regionReleased_only]; exact hl
  rw [regionEnds_passed hn hpacket hcode]
  exact consume_mapLoad (f := fun l => { l with openRegion := none }) hl' hphase rfl rfl rfl hlen hroom hplen

end

/-- A region's number has no more than six bits. -/
theorem fld_six {v : Word} {n : Nat} (h : fld v 0 10 = n) (hn : n < 48) : fld v 0 6 = n := by
  rw [fld, Nat.shiftRight_zero] at h ⊢
  omega

/-! ### Slots as the Lantern sees them (R181, R182) -/

theorem slotValid_openSlot (d : Device) (n : Nat) : (d.openSlot n).slotValid n = false := by
  have hbit : (d.openSlot n).regBit (Reg.lntSlotValid (n / 64)) (n % 64) = false := regBit_setSlotValid d n false
  rw [Device.slotValid, hbit, Bool.false_and]

theorem slotValid_openSlot_ne (d : Device) {n m : Nat} (h : m ≠ n) : (d.openSlot n).slotValid m = d.slotValid m := by
  have hbit : (d.openSlot n).regBit (Reg.lntSlotValid (m / 64)) (m % 64) = d.regBit (Reg.lntSlotValid (m / 64)) (m % 64) :=
    regBit_setSlotValid_ne d false h
  have hlist : (d.openSlot n).lantern.rewriting.contains m = d.lantern.rewriting.contains m := by
    have hcons : (d.openSlot n).lantern.rewriting = n :: d.lantern.rewriting := rfl
    rw [hcons, List.contains_cons, beq_false_of_ne h, Bool.false_or]
  rw [Device.slotValid, hbit, hlist, Device.slotValid]

theorem slotValid_slotClosed (d : Device) (n : Nat) : (d.slotClosed n false).slotValid n = false := by
  rw [Device.slotValid, regBit_slotClosed, Bool.false_and]

/-- CFG_SLOT_ERR and its count after a refusal (R430). -/
theorem cfgSlotErr_refusedSlot (d : Device) {n c : Nat} (hn : n < 1024) (hc : c < 256) :
    (d.refusedSlot n c).reg Reg.cfgSlotRefuseCnt = d.reg Reg.cfgSlotRefuseCnt + 1 ∧
    (d.refusedSlot n c).regF Reg.cfgSlotErr 0 10 = n ∧ (d.refusedSlot n c).regF Reg.cfgSlotErr 16 8 = c ∧
    (d.refusedSlot n c).regBit Reg.cfgSlotErr 31 = true := by
  have hfld (lo w : Nat) : (d.refusedSlot n c).regF Reg.cfgSlotErr lo w = fld (mkWord [(31, 1), (16, c), (0, n)]) lo w := by
    rw [Device.regF, Device.refusedSlot, reg_bump_ne _ _ (by decide), reg_setReg]
  have hone : b2n ((d.refusedSlot n c).regBit Reg.cfgSlotErr 31) = 1 := by
    rw [← regF_one, hfld, fld_mkWord]
    simp only [List.foldl_cons, List.foldl_nil]
    omega
  refine ⟨?_, ?_, ?_, ?_⟩
  · rw [Device.refusedSlot, reg_bump, reg_setReg_ne _ _ (by decide)]
    rfl
  · rw [hfld, fld_mkWord]
    simp only [List.foldl_cons, List.foldl_nil]
    omega
  · rw [hfld, fld_mkWord]
    simp only [List.foldl_cons, List.foldl_nil]
    omega
  · cases hb : (d.refusedSlot n c).regBit Reg.cfgSlotErr 31 with
    | true => rfl
    | false => rw [hb] at hone; exact absurd hone (by decide)

/-- A refused slot is not valid, and CFG_SLOT_ERR shows why. -/
theorem refusedSlot_closed (d : Device) {n c : Nat} (hn : n < 1024) (hc : c < 256) {e : Device}
    (he : e = (d.refusedSlot n c).slotClosed n false) :
    e.slotValid n = false ∧ e.reg Reg.cfgSlotRefuseCnt = d.reg Reg.cfgSlotRefuseCnt + 1 ∧ e.regF Reg.cfgSlotErr 0 10 = n ∧
    e.regF Reg.cfgSlotErr 16 8 = c ∧ e.regBit Reg.cfgSlotErr 31 = true ∧ SameMemory d e := by
  obtain ⟨hcnt, hslot, hcode, hset⟩ := cfgSlotErr_refusedSlot d hn hc
  have hreg {a : Nat} (h : a < 0x300000) : e.reg a = (d.refusedSlot n c).reg a := by
    rw [he]
    refine sameRegs_slotClosed _ n false a ?_
    rw [List.mem_singleton, Reg.lntSlotValid]
    omega
  have hmem : SameMemory (d.refusedSlot n c) e := by
    rw [he, slotClosed_only]
    exact ⟨rfl, rfl, rfl, rfl⟩
  refine ⟨he ▸ slotValid_slotClosed _ n, ?_, ?_, ?_, ?_, (onlyRegs_refusedSlot d n c).sameMemory.trans hmem⟩
  · rw [hreg (by decide), hcnt]
  · rw [Device.regF, hreg (by decide), ← Device.regF, hslot]
  · rw [Device.regF, hreg (by decide), ← Device.regF, hcode]
  · rw [Device.regBit, hreg (by decide), ← Device.regBit, hset]

/-! ### A load that ends in its header, or whole (R408, R422, R424) -/

/-- A load that ends before its header is accepted shows its error and leaves the rest as it was. -/
theorem loadFail_header_effect {d : Device} {l : Load} (hl : d.load = some l) (hphase : l.phase = .header)
    (hdone : l.done < 2 ^ 40) (hfirst : d.regBit Reg.cfgErr 63 = false) {code : Nat} (hcode : code < 256) :
    (d.loadFail code).load = none ∧ (d.loadFail code).regF Reg.cfgErr 48 8 = code ∧
    (d.loadFail code).regBit Reg.cfgErr 63 = true ∧ SameMemory d (d.loadFail code) ∧
    SameRegs [Reg.cfgErr, Reg.cfgErrLoc, Reg.cfgStatus] d (d.loadFail code) := by
  have herr := onlyRegs_errored d l code
  have hclose := sameRegs_closeLoad (d.errored l code)
  obtain ⟨hshown, hset⟩ := cfgErr_errored d hdone hcode
  rw [loadFail_header hl hphase hfirst]
  refine ⟨load_closeLoad _, ?_, ?_, herr.sameMemory.trans (sameMemory_closeLoad _), fun a ha => ?_⟩
  · rw [Device.regF, hclose _ (by decide), ← Device.regF, hshown]
  · rw [Device.regBit, hclose _ (by decide), ← Device.regBit, hset]
  · simp only [List.mem_cons, List.not_mem_nil, or_false, not_or] at ha
    obtain ⟨herr', hloc, hstatus⟩ := ha
    rw [hclose a (by simpa using hstatus), herr.2 a (by simp [herr', hloc])]

/-- A load of regions that ends whole leaves the device CONFIGURED, with no load in progress. -/
theorem loadDone_regions_effect {d : Device} {l : Load} (htasks : d.lantern.tasks = []) (hkind : l.kind = 3)
    (hslot : l.openSlot = none) :
    (d.loadDone l).load = none ∧ (d.loadDone l).cfgState = 4 ∧ (d.loadDone l).regBit Reg.cfgStatus 4 = false ∧
    (d.loadDone l).keep.fuses = d.keep.fuses ∧ SameRegs [Reg.cfgStatus] d (d.loadDone l) ∧ SameMemory d (d.loadDone l) := by
  obtain ⟨m, he⟩ := loadDone_regions htasks hkind hslot
  have hstate : OnlyRegs [Reg.cfgStatus] d (d.setCfgState 4) := onlyRegs_setF d _ _ _ _
  have hmem := hstate.sameMemory.trans (sameMemory_closeLoad (d.setCfgState 4))
  have hshown : (d.setCfgState 4).closeLoad.cfgState = 4 := by rw [cfgState_closeLoad, cfgState_setCfgState _ (by decide)]
  have hbit := regBit_closeLoad (d.setCfgState 4)
  have hnone := load_closeLoad (d.setCfgState 4)
  have hregs : SameRegs [Reg.cfgStatus] d (d.setCfgState 4).closeLoad := fun a ha =>
    (sameRegs_closeLoad _ a ha).trans (hstate.2 a ha)
  rw [he]
  generalize (d.setCfgState 4).closeLoad = e at hmem hshown hbit hnone hregs ⊢
  exact ⟨hnone, hshown, hbit, rfl, fun a ha => hregs a ha, hmem⟩

/-- Settles O36: each packet by the state that it meets, END by the frames counted, and the idle limit. -/
theorem slotsRegionsAndTheEndOfALoad : Obligations.SlotsRegionsAndTheEndOfALoad := by
  intro s l ha hl hdone hfirst htasks
  refine ⟨fun op n hpacket hlen hplen hroom hn => ⟨fun hop hrun => ?slotBegin, fun r hop hrun hslot => ?slotHeld,
      fun hop => ⟨fun hempty hcode => ?slotPassed, fun c hempty hcode hc => ?slotRefused, fun hempty => ?slotEmpty⟩,
      fun hop hn48 => ?regionBegin, fun hop hn48 hkind => ?regionEnd⟩,
    fun hpacket hkind hslot => ⟨fun hframes => ?endShort, fun hframes => ?endWhole⟩,
    fun hphase hneed hheld hnow => ?idle, fun hheld => ?idleHeld⟩
  case slotBegin =>
    subst hop
    refine completes_took (f := Device.slotBegins) rfl ha ?_
    rw [slotBegins_opens hl hlen hplen hroom htasks hpacket hn hrun]
    exact ⟨rfl, slotValid_openSlot s.dev n, List.mem_cons_self, fun m _ hm => slotValid_openSlot_ne s.dev hm,
      ⟨rfl, rfl, rfl, rfl⟩, (onlyRegs_setSlotValid s.dev n false).2⟩
  case slotHeld =>
    subst hop
    refine completes_took (f := Device.slotBegins) rfl ha ?_
    rw [slotBegins_held htasks hn hpacket hrun hslot]
    have hheld := onlyRegs_setF (s.dev.mapLoad (fun l => { l with slotHeld := true })) Reg.cfgStatus 12 1 (b2n true)
    refine ⟨?_, (regBit_setF_one _ _ _ (by omega)).trans (testBit_b2n true), rfl, hheld.2, ⟨rfl, rfl, rfl, rfl⟩⟩
    exact congrArg (Option.map fun l : Load => { l with slotHeld := true }) hl
  case slotPassed =>
    subst hop
    refine completes_took (f := Device.slotEnds) rfl ha ?_
    have he := checkSlot_passed htasks hempty hcode
    rw [slotEnds_checked hlen hplen hroom hpacket hn he (by rw [slotClosed_only]; exact hl)]
    refine ⟨regBit_slotClosed s.dev n true, not_mem_rewriting_slotClosed s.dev n true, rfl,
      sameRegs_slotClosed s.dev n true, ?_⟩
    rw [slotClosed_only]
    exact ⟨rfl, rfl, rfl, rfl⟩
  case slotRefused =>
    subst hop
    refine completes_took (f := Device.slotEnds) rfl ha ?_
    have hn10 : n < 1024 := hn ▸ fld_lt l.p1 0 10
    have he := checkSlot_refused htasks hempty hcode
    rw [slotEnds_checked hlen hplen hroom hpacket hn he (by rw [slotClosed_only]; exact hl)]
    obtain ⟨hvalid, hcnt, hslot, hcode', hset, hmem⟩ := refusedSlot_closed s.dev hn10 hc rfl
    exact ⟨hvalid, hcnt, hslot, hcode', hset, rfl, hmem⟩
  case slotEmpty =>
    subst hop
    refine completes_took (f := Device.slotEnds) rfl ha ?_
    have he := checkSlot_empty htasks hempty
    rw [slotEnds_checked hlen hplen hroom hpacket hn he (by rw [slotClosed_only]; exact hl)]
    refine ⟨slotValid_slotClosed s.dev n, rfl, sameRegs_slotClosed s.dev n false, ?_⟩
    rw [slotClosed_only]
    exact ⟨rfl, rfl, rfl, rfl⟩
  case regionBegin =>
    subst hop
    refine completes_took (f := Device.regionBegins) rfl ha ?_
    rw [regionBegins_opens hl hlen hplen hroom hpacket (fld_six hn hn48)]
    have hvalid := regBit_regionOpened s.dev hn48
    have hbits := bit_regionOpened s.dev hn48
    have hothers (i : Nat) (hi : i ≠ n) := regBit_regionOpened_ne s.dev hi
    have hregs := sameRegs_regionOpened s.dev n
    have honly := regionOpened_only s.dev n
    generalize s.dev.regionOpened n = e at hvalid hbits hothers hregs honly ⊢
    refine ⟨hvalid, hbits.1, hbits.2, rfl, fun i _ hi => hothers i hi, hregs, ?_⟩
    rw [honly]
    exact ⟨rfl, rfl, rfl, rfl⟩
  case regionEnd =>
    subst hop
    refine completes_took (f := Device.regionEnds) rfl ha ?_
    obtain ⟨-, hphase, -⟩ := packet_some hpacket
    cases hcode : s.dev.fabricCode (· == n) with
    | none =>
      rw [regionEnds_releases hl hlen hplen hroom hpacket (fld_six hn hn48) hcode]
      have hvalid := regBit_regionReleased s.dev hn48
      have hbits := bit_regionReleased s.dev hn48
      have honly := regionReleased_only s.dev n
      generalize s.dev.regionReleased n = e at hvalid hbits honly ⊢
      refine ⟨?_, fun _ => ⟨hvalid, hbits.1, hbits.2, rfl⟩, fun c hc => absurd hc (by simp)⟩
      rw [honly]
      exact ⟨rfl, rfl, rfl, rfl⟩
    | some c =>
      rw [regionEnds_failed (fld_six hn hn48) hpacket hcode]
      obtain ⟨hnone, -, hcnt, hstate, hmem⟩ := loadFail_regions_effect hl hphase hkind hdone hfirst c
      exact ⟨hmem, fun h => absurd h (by simp), fun _ _ => ⟨hnone, hcnt, hstate⟩⟩
  case endShort =>
    refine completes_took (f := Device.endPacket) rfl ha ?_
    obtain ⟨-, hphase, -⟩ := packet_some hpacket
    obtain ⟨hnone, hcode, hcnt, hstate, hmem⟩ := loadFail_regions_effect hl hphase hkind hdone hfirst 0x14
    rw [endPacket_short hpacket hframes]
    exact ⟨hnone, hcode (by decide), hcnt, hstate, hmem⟩
  case endWhole =>
    refine completes_took (f := Device.endPacket) rfl ha ?_
    rw [endPacket_regions hpacket hframes hkind]
    exact loadDone_regions_effect (d := s.dev.mapLoad Load.past16) htasks hkind hslot
  case idle =>
    refine completes_took (f := Device.idleLimit) rfl ha ?_
    rw [idleLimit_header hl hneed hheld hnow]
    exact loadFail_header_effect hl hphase hdone hfirst (by decide)
  case idleHeld => exact completes_took (f := Device.idleLimit) rfl ha (idleLimit_held hl hheld)

end Sys2Proof.Machine
end

section
/-!
PROOFS. Writes of context records, tallies and translation tables (R203, R205, R208, R213, R215, R221, R384).
-/
namespace Sys2Proof.Machine

open Sys2Proof

/-! ### A register written in part (R14) -/

/-- A bit of a register of which both halves are written: the written one where the mask has it, else the old one. -/
theorem bit_mergeWord_both (old new mask : Word) (i : Nat) :
    bit (mergeWord old new mask .both) i = if bit mask i then bit new i else bit old i := by
  have hall : (0xFFFFFFFFFFFFFFFF : Word) = BitVec.allOnes 64 := by decide
  have hbit : bit (mergeWord old new mask .both) i =
      (bit old i && (decide (i < 64) && !bit mask i) || bit new i && bit mask i) := by
    simp only [mergeWord, hall, BitVec.and_allOnes, bit, BitVec.getLsbD_or, BitVec.getLsbD_and, BitVec.getLsbD_not]
  rw [hbit]
  by_cases hm : bit mask i = true
  · simp [hm]
  · by_cases hi : i < 64
    · simp [hm, hi]
    · have hold : bit old i = false := BitVec.getLsbD_of_ge old i (Nat.le_of_not_lt hi)
      simp [hm, hi, hold]

/-- Under a mask of ones the whole register takes the written value. -/
theorem mergeWord_all (old new : Word) : mergeWord old new 0xFFFFFFFFFFFFFFFF .both = new := by
  have hall : (0xFFFFFFFFFFFFFFFF : Word) = BitVec.allOnes 64 := by decide
  simp only [mergeWord, hall, BitVec.and_allOnes]
  simp

/-- Words that agree in the bits of a field agree in the field. -/
theorem fld_congr {u v : Word} {lo w : Nat} (h : ∀ j < w, bit u (lo + j) = bit v (lo + j)) : fld u lo w = fld v lo w := by
  refine Nat.eq_of_testBit_eq fun j => ?_
  rw [testBit_fld, testBit_fld]
  by_cases hj : j < w
  · rw [show u.getLsbD (lo + j) = v.getLsbD (lo + j) from h j hj]
  · simp [hj]

/-- A field that the mask covers takes the written value. -/
theorem fld_mergeWord_in (old new : Word) {mask : Word} {lo w : Nat} (h : ∀ j < w, bit mask (lo + j) = true) :
    fld (mergeWord old new mask .both) lo w = fld new lo w :=
  fld_congr fun j hj => by rw [bit_mergeWord_both, if_pos (h j hj)]

/-- A field outside the mask keeps its value. -/
theorem fld_mergeWord_out (old new : Word) {mask : Word} {lo w : Nat} (h : ∀ j < w, bit mask (lo + j) = false) :
    fld (mergeWord old new mask .both) lo w = fld old lo w :=
  fld_congr fun j hj => by rw [bit_mergeWord_both, if_neg (by simp [h j hj])]

/-! ### Context records (R203, R205, R384) -/

section
variable {d : Device} {f n w : Nat} (v : Word)

/-- A record that the function does not own is out of its reach. -/
theorem writeContext_denied (h : Half) (hf : f ≠ 0) (hn : d.ctxFunc n ≠ f) :
    d.writeContext f n w v h = d.bump Reg.hifVfDenyCnt 1 := if_pos ⟨hf, hn⟩

theorem writeContext_busy (h : Half) (hown : f = 0 ∨ d.ctxFunc n = f) (hst : fld (d.ctx n 0) 20 4 = 5) :
    d.writeContext f n w v h = d.bump Reg.tlyCtxWdropCnt 1 := by
  rw [Device.writeContext, if_neg (by tauto), if_pos hst]

/-- A word of private tallies takes the written value. -/
theorem writeContext_tallies (hown : f = 0 ∨ d.ctxFunc n = f) (hst : fld (d.ctx n 0) 20 4 ≠ 5) (hw : 8 ≤ w) (hw' : w ≤ 15) :
    d.writeContext f n w v .both = d.setReg (Reg.ctxW0 n + 8 * w) v := by
  have hzero : ¬(w = 0 ∧ f = 0) := by omega
  rw [Device.writeContext, if_neg (by tauto), if_neg hst]
  simp only [if_neg hzero, if_pos (And.intro hw hw'), mergeWord_all]

/-- Of W0 the physical function sets the fields that are RW. -/
theorem writeContext_zero (hst : fld (d.ctx n 0) 20 4 ≠ 5) :
    d.writeContext 0 n 0 v .both = d.setReg (Reg.ctxW0 n) (mergeWord (d.ctx n 0) v 0xFFFF0001FFFF .both) := by
  rw [Device.writeContext, if_neg (by tauto), if_neg hst]
  rfl

end

theorem ctx_setReg (d : Device) (n w : Nat) (v : Word) : (d.setReg (Reg.ctxW0 n + 8 * w) v).ctx n w = v := reg_setReg d _ v

theorem contextRecordWrite_completes {s : State} {f : Fin 64} {n : Fin 49152} {w : Fin 16} {v : Word} {h : Half}
    {P : Device → Prop} (ha : s.dev.alive = true) (hp : P (s.dev.writeContext f n w v h)) :
    Completes (.contextRecordWrite f n w v h) s P := completes_took (f := (·.writeContext f n w v h)) rfl ha hp

/-! ### Evaluations that are noted (R215) -/

/-- A WAITING task that is concerned is to be evaluated. -/
theorem mem_evals_noteEval {d : Device} {p : Task → Bool} {t : Task} (ht : t ∈ d.lantern.tasks) (hst : t.state = .waiting)
    (hp : p t = true) (g : Nat) : (t.ctx, g) ∈ (d.noteEval p g).lantern.evals := by
  have hnew : (t.ctx, g) ∈ (d.lantern.tasks.filter (fun t => t.state == .waiting && p t)).map (fun t => (t.ctx, g)) :=
    List.mem_map.2 ⟨t, List.mem_filter.2 ⟨ht, by simp [hst, hp]⟩, rfl⟩
  by_cases hold : (t.ctx, g) ∈ d.lantern.evals
  · exact List.mem_append_left _ hold
  · exact List.mem_append_right _ (List.mem_filter.2 ⟨hnew, by simpa using hold⟩)

/-! ### Translation reads context records and tables alone (R208) -/

/-- The registers that translation reads: those of the context store and of the translation tables. -/
def isMapReg (a : Nat) : Prop := 0x2000000 ≤ a ∧ a < 0x2800000 ∨ 0x2840000 ≤ a ∧ a < 0x287C000

theorem isMapReg_ctxW0 {n : Nat} (hn : n < 65536) : isMapReg (Reg.ctxW0 n) := by
  unfold isMapReg Reg.ctxW0
  omega

theorem isMapReg_tlyTmap {t u : Nat} (ht : t < 480) (hu : u < 128) : isMapReg (Reg.tlyTmap t u) := by
  unfold isMapReg Reg.tlyTmap
  omega

/-- Devices that agree in those registers translate alike. -/
theorem translateVid_congr {d d' : Device} (h : ∀ a, isMapReg a → d'.reg a = d.reg a) {n v : Nat} (hn : n < 65536) (hv : v < 256) :
    d'.translateVid n v = d.translateVid n v := by
  have hctx : d'.ctx n 0 = d.ctx n 0 := h _ (isMapReg_ctxW0 hn)
  unfold Device.translateVid
  simp only [hctx]
  split
  · rfl
  next hmap =>
    have ht : fld (d.ctx n 0) 8 9 < 480 := by
      push Not at hmap
      exact hmap.2.2
    have hentry : d'.tmapEntry (fld (d.ctx n 0) 8 9) v = d.tmapEntry (fld (d.ctx n 0) 8 9) v := by
      simp only [Device.tmapEntry, Device.regF, h _ (isMapReg_tlyTmap ht (show v / 2 < 128 by omega))]
    rw [hentry]

/-- A write of a tally value changes nothing that translation reads. -/
theorem reg_setTally_of_isMapReg (d : Device) {p : Nat} (hp : p < 65536) (v : Nat) {a : Nat} (ha : isMapReg a) :
    (d.setTally p v).reg a = d.reg a := reg_setReg_ne d _ (by unfold isMapReg at ha; unfold Reg.tlyValue; omega)

theorem namesTally_setTally (d : Device) {p : Nat} (hp : p < 65536) (v : Nat) : (d.setTally p v).namesTally p = d.namesTally p := by
  funext t
  have htrans (e : Word) : (d.setTally p v).translateVid t.ctx (fld e 48 8) = d.translateVid t.ctx (fld e 48 8) :=
    translateVid_congr (fun a ha => reg_setTally_of_isMapReg d hp v ha) (ctx_lt t) (fld_lt e 48 8)
  simp only [Device.namesTally, htrans]
  rfl

/-! ### Tallies and tables (R208, R213, R221) -/

/-- A host write of a shared tally to which nothing has been added in this gcyc. -/
theorem writeTally_of_unadded {d : Device} {p : Nat} (hp : 32 ≤ p) (hadd : d.added p = none) (v : BitVec 32) :
    d.writeTally p v = (d.setTally p v.toNat).tallyTouched p := by
  simp [Device.writeTally, Device.undoSaturation, Device.satNow, Device.appliedNow, hadd, Nat.not_lt.2 hp]

theorem writeTally_bank {p : Nat} (hp : p < 32) (d : Device) (v : BitVec 32) : d.writeTally p v = d.bump Reg.tlyUnmapCnt 1 :=
  if_pos hp

theorem writeTmap_reserved {u : Nat} (hu : u < 8) (d : Device) (t : Nat) (v : BitVec 32) : d.writeTmap t u v = d := if_pos hu

theorem writeTmap_open {u : Nat} (hu : 8 ≤ u) (d : Device) (t : Nat) (v : BitVec 32) :
    d.writeTmap t u v = (d.setReg (Reg.tlyTmap t u) (v.setWidth 64)).noteEval (fun x => d.usesTmap x.ctx t) (d.now + 1) :=
  if_neg (Nat.not_lt.2 hu)

theorem fld_setWidth (v : BitVec 32) (lo w : Nat) : fld (v.setWidth 64) lo w = fld v lo w := by
  have hv := v.isLt
  rw [fld, fld, BitVec.toNat_setWidth, Nat.mod_eq_of_lt (show v.toNat < 2 ^ 64 by omega)]

/-- The two entries of a pair, for a register that holds `v`. -/
theorem tmapEntry_pair {d : Device} {t u : Nat} {v : BitVec 32} (hu : 8 ≤ u) (hreg : d.reg (Reg.tlyTmap t u) = v.setWidth 64) :
    d.tmapEntry t (2 * u) = fld v 0 16 ∧ d.tmapEntry t (2 * u + 1) = fld v 16 16 := by
  have heven : 2 * u / 2 = u ∧ 2 * u % 2 = 0 := by omega
  have hodd : (2 * u + 1) / 2 = u ∧ (2 * u + 1) % 2 = 1 := by omega
  constructor
  · rw [Device.tmapEntry, if_neg (by omega), heven.1, heven.2, Device.regF, hreg, fld_setWidth]
  · rw [Device.tmapEntry, if_neg (by omega), hodd.1, hodd.2, Device.regF, hreg, fld_setWidth]

theorem tallyWrite_completes {s : State} {p : Fin 65536} {v : BitVec 32} {P : Device → Prop} (ha : s.dev.alive = true)
    (hp : P (s.dev.writeTally p v)) : Completes (.tallyWrite p v) s P := completes_took (f := (·.writeTally p v)) rfl ha hp

theorem translationEntryWrite_completes {s : State} {t : Fin 480} {u : Fin 128} {v : BitVec 32} {P : Device → Prop}
    (ha : s.dev.alive = true) (hp : P (s.dev.writeTmap t u v)) : Completes (.translationEntryWrite t u v) s P :=
  completes_took (f := (·.writeTmap t u v)) rfl ha hp

/-- What a host write of a shared tally leaves. -/
theorem setTally_touched_effect (d : Device) {p : Nat} (hp : p < 65536) (v : BitVec 32) :
    let e := (d.setTally p v.toNat).tallyTouched p
    e.tally p = v.toNat ∧
      (∀ t ∈ d.lantern.tasks, t.state = .waiting → d.namesTally p t = true → (t.ctx, d.now + 1) ∈ e.lantern.evals) ∧
      SameRegs [Reg.tlyValue p] d e := by
  refine ⟨?_, fun t ht hst hnames => ?_, (onlyRegs_setReg d _ _).2⟩
  · exact (tally_setTally d p _).trans (Nat.mod_eq_of_lt v.isLt)
  · have hnames' : (d.setTally p v.toNat).namesTally p t = true := by rw [namesTally_setTally d hp]; exact hnames
    exact mem_evals_noteEval (d := d.setTally p v.toNat) ht hst hnames' _

/-- Settles O9: each write by who makes it and the STATUS of the record, and each write of a tally or a table by what it names. -/
theorem contextTallyAndTranslationWrites : Obligations.ContextTallyAndTranslationWrites := by
  refine ⟨fun s f n w v ha => ⟨fun hst hown hw => ?_, fun hst => ?_, fun h => ⟨fun hst hown => ?_, fun hf hn => ?_⟩⟩,
    fun s ha => ⟨fun p v => ⟨fun hp hadd => ?_, fun hp => ?_⟩, fun t u v => ⟨fun hu => ?_, fun hu => ?_⟩⟩⟩
  · have hown' : f.val = 0 ∨ s.dev.ctxFunc n = f := hown.imp (fun h => by rw [h]; rfl) id
    refine contextRecordWrite_completes ha ?_
    rw [writeContext_tallies v hown' hst hw (Nat.le_of_lt_succ w.isLt)]
    exact ⟨ctx_setReg s.dev n w v, onlyRegs_setReg s.dev _ v⟩
  · refine contextRecordWrite_completes ha ?_
    refine (writeContext_zero v hst).symm ▸ ⟨?_, ?_, ?_, ?_, onlyRegs_setReg s.dev _ _⟩
    all_goals rw [ctx_zero, reg_setReg]
    · exact fld_mergeWord_in _ _ (by decide)
    · exact fld_mergeWord_in _ _ (by decide)
    · exact fld_mergeWord_out _ _ (by decide)
    · exact fld_mergeWord_out _ _ (by decide)
  · have hown' : f.val = 0 ∨ s.dev.ctxFunc n = f := hown.imp (fun h => by rw [h]; rfl) id
    refine contextRecordWrite_completes ha ?_
    rw [writeContext_busy v h hown' hst]
    exact ⟨reg_bump _ _ _, onlyRegs_bump _ _ _⟩
  · refine contextRecordWrite_completes ha ?_
    rw [writeContext_denied v h (fun h0 => hf (Fin.ext h0)) hn]
    exact ⟨reg_bump _ _ _, onlyRegs_bump _ _ _⟩
  · refine tallyWrite_completes ha ?_
    rw [writeTally_of_unadded hp hadd]
    obtain ⟨hval, hevals, hregs⟩ := setTally_touched_effect s.dev p.isLt v
    exact ⟨hval, hevals, rfl, ⟨rfl, rfl, rfl, rfl⟩, rfl, hregs⟩
  · refine tallyWrite_completes ha ?_
    rw [writeTally_bank hp]
    exact ⟨reg_bump _ _ _, onlyRegs_bump _ _ _⟩
  · refine translationEntryWrite_completes ha ?_
    rw [writeTmap_open hu]
    have hentry := tmapEntry_pair (d := s.dev.setReg (Reg.tlyTmap t u) (v.setWidth 64)) hu (reg_setReg s.dev _ _)
    refine ⟨hentry.1, hentry.2, fun x hx hst huses => ?_, rfl, ⟨rfl, rfl, rfl, rfl⟩, rfl, (onlyRegs_setReg s.dev _ _).2⟩
    exact mem_evals_noteEval (d := s.dev.setReg (Reg.tlyTmap t u) (v.setWidth 64)) hx hst huses _
  · exact translationEntryWrite_completes ha (writeTmap_reserved hu s.dev t v)

end Sys2Proof.Machine
end

section
/-!
PROOFS. The arrival of signals: host signals, remote signals and the pending table (R211, R218, R219, R221, R284).
-/
namespace Sys2Proof.Machine

open Sys2Proof

/-! ### TLY_LAST_ERR (R221) -/

/-- The word that TLY_LAST_ERR shows for an event. -/
def tallyErrWord (kind dev ctx vid phys : Nat) : Word := mkWord [(61, kind), (48, dev), (32, ctx), (24, vid), (0, phys)]

/-- The fields KIND and TALLY, where every field of the event has its own place. -/
theorem fld_tallyErrWord {kind dev ctx vid phys : Nat} (hkind : kind < 8) (hdev : dev < 1024) (hctx : ctx < 65536)
    (hvid : vid < 256) (hphys : phys < 65536) :
    fld (tallyErrWord kind dev ctx vid phys) 61 3 = kind ∧ fld (tallyErrWord kind dev ctx vid phys) 0 16 = phys := by
  simp only [tallyErrWord, fld_mkWord, List.foldl_cons, List.foldl_nil]
  omega

section
variable (d : Device) (kind dev ctx vid phys : Nat)

theorem reg_tallyError_ne {a : Nat} (h : a ≠ Reg.tlyLastErr) : (d.tallyError kind dev ctx vid phys).reg a = d.reg a :=
  reg_setReg_ne d _ h

/-- The first event of a gcyc is the one that the register shows. -/
theorem reg_tallyError_first {d : Device} (h : d.errsNow = []) :
    (d.tallyError kind dev ctx vid phys).reg Reg.tlyLastErr = tallyErrWord kind dev ctx vid phys := by
  refine (reg_setReg d _ _).trans ?_
  simp [h, lastError, tallyErrWord]

end

/-! ### A full pending table, or an expiry, while no task holds the Dome (R219) -/

/-- What agrees but for registers, what is sent, the running task and the fault log agrees in the rest of the Lantern. -/
theorem lantern_of_still {d d' : Device} (h : d'.still = d.still) :
    d'.lantern = { d.lantern with run := d'.lantern.run, faults := d'.lantern.faults } := by
  have hl := congrArg Device.lantern h
  simp only [Device.still] at hl
  generalize d'.lantern = l' at hl ⊢
  generalize d.lantern = l at hl ⊢
  cases l'
  cases l
  simp only [Lantern.mk.injEq] at hl ⊢
  tauto

theorem run_noteFirstFault_none {d : Device} (h : d.lantern.run = none) : d.noteFirstFault.lantern.run = none := by
  simp only [Device.noteFirstFault, Device.mapRun, Device.setRun, h, Option.map_none]

theorem run_faultRecord_none {d : Device} (h : d.lantern.run = none) (kind unit : Nat) (f0 : List (Nat × Nat))
    (f1 f2 f3 f4 f5 : Word) (g : Nat) (f7 : Word) : (d.faultRecord kind unit f0 f1 f2 f3 f4 f5 g f7).lantern.run = none := by
  unfold Device.faultRecord
  lift_lets
  extract_lets l task first e d1 d2
  have h2 : d2.lantern.run = none := run_noteFirstFault_none (by rw [(onlyRegs_putFaults d _).lantern_eq]; exact h)
  clear_value d2
  split
  · rw [(msix_frame _ _ _).1]
    exact h2
  · exact h2

theorem faultTask_none {d : Device} (h : d.lantern.run = none) (g : Nat) : d.faultTask g = d := by
  simp only [Device.faultTask, h]

/-- The device in which a full table or an expiry has been recorded, before the task takes its fault. -/
def Device.fenceRecorded (d : Device) (kind err : Nat) (p : Parked) (park : Nat) : Device :=
  let tk := 256 * p.engine + p.thread
  let d := d.tallyError err p.sig.dev p.sig.ctx p.sig.vid 0
  d.faultRecord kind tk [(8, p.sig.dev)] (mkWord [(0, p.sig.ctx), (16, p.sig.vid), (24, p.engine), (26, p.thread)])
    (BitVec.ofNat 64 p.bytes) (BitVec.ofNat 64 (d.committedBytes tk)) (BitVec.ofNat 64 park) 0 d.now 0

theorem fenceFault_eq (d : Device) (kind err : Nat) (p : Parked) (park : Nat) :
    d.fenceFault kind err p park = (d.fenceRecorded kind err p park).faultTask (d.fenceRecorded kind err p park).now := rfl

theorem fenceFault_none {d : Device} (hrun : d.lantern.run = none) (kind err : Nat) (p : Parked) (park : Nat) :
    d.fenceFault kind err p park = d.fenceRecorded kind err p park := by
  have hidle : (d.fenceRecorded kind err p park).lantern.run = none :=
    run_faultRecord_none (d := d.tallyError err p.sig.dev p.sig.ctx p.sig.vid 0) hrun ..
  rw [fenceFault_eq, faultTask_none hidle]

/-- The event is recorded, and nothing of the Lantern but its logs is changed. -/
theorem fenceRecorded_effect {d : Device} (hrun : d.lantern.run = none) (hnone : d.errsNow = []) {kind err : Nat} {p : Parked}
    (herr : err < 8) (hdev : p.sig.dev < 1024) (hctx : p.sig.ctx < 65536) (hvid : p.sig.vid < 256) (park : Nat) :
    let e := d.fenceRecorded kind err p park
    e.regF Reg.tlyLastErr 61 3 = err ∧ e.reg Reg.errFrCnt = d.reg Reg.errFrCnt + 1 ∧
      (∀ a, 0x1000000 ≤ a → a ≠ Reg.tlyLastErr → e.reg a = d.reg a) ∧
      e.lantern = { d.lantern with errs := e.lantern.errs, faults := e.lantern.faults } ∧ SameMemory d e := by
  intro e
  let d1 := d.tallyError err p.sig.dev p.sig.ctx p.sig.vid 0
  have hhigh : SameHigh d1 e := sameHigh_faultRecord _ _ _ _ _ _ _ _ _ _ _
  have hstill : e.still = d1.still := still_faultRecord ..
  have hidle : e.lantern.run = none := run_faultRecord_none (d := d1) hrun ..
  have hregs (a : Nat) (ha : a ≠ Reg.tlyLastErr) : d1.reg a = d.reg a := reg_tallyError_ne d _ _ _ _ _ ha
  refine ⟨?_, ?_, fun a ha hne => (hhigh a ha).trans (hregs a hne), ?_, ?_⟩
  · rw [Device.regF, hhigh _ (by decide), reg_tallyError_first _ _ _ _ _ hnone]
    exact (fld_tallyErrWord herr hdev hctx hvid (by decide)).1
  · rw [← hregs _ (by decide)]
    exact reg_faultRecord_count d1 ..
  · rw [lantern_of_still hstill, hidle, ← hrun]
    rfl
  · exact SameMemory.trans (d' := d1) ⟨rfl, rfl, rfl, rfl⟩ (sameMemory_of_still hstill)

/-! ### Arrival (R211, R218, R219) -/

/-- The signal `g` as it is applied when it waits for no fence. -/
def Sig.arriving (g : Sig) (d : Device) : Sig := { g with applyAt := d.now + 2 }

/-- The entry of the pending table for the signal `g`, whose fence is `f`. -/
def Sig.parking (g : Sig) (d : Device) (f : Nat × Nat × Nat) : Parked :=
  { sig := g.arriving d, engine := f.1, thread := f.2.1, bytes := f.2.2, parkedAt := d.now,
    limit := d.regF Reg.tlyCtl 0 24, metAt := none }

section
variable {d : Device} (g : Sig)

theorem arrive_met {fence : Option (Nat × Nat × Nat)}
    (h : fence.all (fun f => decide (f.2.2 ≤ d.committedBytes (256 * f.1 + f.2.1))) = true) :
    d.arrive g fence = d.scheduleSig (g.arriving d) := by
  cases fence with
  | none => rfl
  | some f => exact if_pos (by simpa using h)

variable {f : Nat × Nat × Nat} (hunmet : d.committedBytes (256 * f.1 + f.2.1) < f.2.2)
include hunmet

theorem arrive_parked (hroom : d.lantern.parked.length < 256) :
    d.arrive g (some f) =
      { d with lantern := { d.lantern with parked := d.lantern.parked ++ [g.parking d f] } }.notePending := by
  rw [Device.arrive, if_neg (Nat.not_le.2 hunmet)]
  exact if_neg (Nat.not_le.2 hroom)

theorem arrive_full (hfull : 256 ≤ d.lantern.parked.length) :
    d.arrive g (some f) = (d.bump Reg.tlyPendFullCnt 1).fenceFault 0x11 3 (g.parking d f) 0 := by
  rw [Device.arrive, if_neg (Nat.not_le.2 hunmet)]
  exact if_pos hfull

end

theorem onlyRegs_notePending (d : Device) : OnlyRegs [Reg.tlyStatus] d d.notePending := by
  unfold Device.notePending
  split
  · exact onlyRegs_setF d _ _ _ _
  · exact OnlyRegs.refl d _

/-! ### TLY_HOST_SIG (R211, R221) -/

section
variable {d : Device} {w : Word}

theorem hostSig_zero (h : fld w 16 32 = 0) : d.hostSig w = d := if_pos h

theorem hostSig_bank (h : fld w 16 32 ≠ 0) (hp : fld w 0 16 < 32) :
    d.hostSig w = (d.bump Reg.tlyUnmapCnt 1).tallyError 2 d.device 0 0 (fld w 0 16) := by
  rw [Device.hostSig, if_neg h, if_pos hp]

/-- The signal of a host write. -/
def Device.hostSignal (d : Device) (w : Word) : Sig :=
  { dev := d.device, ctx := 0, vid := 0, inc := fld w 16 32, phys := some (fld w 0 16), cross := false, host := true, applyAt := 0 }

theorem hostSig_shared (h : fld w 16 32 ≠ 0) (hp : 32 ≤ fld w 0 16) :
    d.hostSig w = d.scheduleSig ((d.hostSignal w).arriving d) := by
  rw [Device.hostSig, if_neg h, if_neg (Nat.not_lt.2 hp)]
  rfl

end

theorem tlyHostSig_completes {s : State} {w : Word} {P : Device → Prop} (ha : s.dev.alive = true) (hp : P (s.dev.hostSig w)) :
    Completes (.tlyHostSig w) s P := completes_took (f := (·.hostSig w)) rfl ha hp

/-- The signal of a message. -/
def messageSig (m : SignalMsg) : Sig :=
  { dev := m.device, ctx := m.ctx, vid := m.vid, inc := m.inc, phys := none, cross := true, host := false, applyAt := 0 }

theorem remoteSignal_completes {s : State} {m : SignalMsg} {P : Device → Prop} (ha : s.dev.alive = true)
    (hp : P (s.dev.arrive (messageSig m) m.fence)) : Completes (.remoteSignal m true) s P :=
  completes_took (f := (·.remoteSignal m)) rfl ha hp

theorem remoteSignal_completes_of_failed {s : State} {m : SignalMsg} {P : Device → Prop} (ha : s.dev.alive = true)
    (hp : P (s.dev.bump Reg.sncHdrDropCnt 1)) : Completes (.remoteSignal m false) s P :=
  completes_took (f := (·.bump Reg.sncHdrDropCnt 1)) rfl ha hp

/-- Settles O10: a host signal by its INC and its tally, a remote signal by its header, its fence and the room in the pending
table. -/
theorem signalsArriveAndWaitForTheirFence : Obligations.SignalsArriveAndWaitForTheirFence := by
  intro s w m ha hdev hmdev hmctx hmvid
  refine ⟨fun hinc => ?_, fun hinc hp hnone => ?_, fun hinc hp => ?_, ?_⟩
  · exact tlyHostSig_completes ha (hostSig_zero hinc)
  · refine tlyHostSig_completes ha ?_
    rw [hostSig_bank hinc hp]
    have hword := fld_tallyErrWord (kind := 2) (by decide) hdev (by decide : 0 < 65536) (by decide : 0 < 256)
      (hp.trans (by decide))
    have hreg := reg_tallyError_first (d := s.dev.bump Reg.tlyUnmapCnt 1) 2 s.dev.device 0 0 (fld w 0 16) hnone
    refine ⟨?_, ?_, ?_, rfl, rfl, fun a hm => ?_⟩
    · rw [reg_tallyError_ne _ _ _ _ _ _ (by decide)]
      exact reg_bump s.dev _ 1
    · rw [Device.regF, hreg, hword.1]
    · rw [Device.regF, hreg, hword.2]
    · obtain ⟨hcnt, herr⟩ : a ≠ Reg.tlyUnmapCnt ∧ a ≠ Reg.tlyLastErr := by simpa using hm
      exact (reg_tallyError_ne _ _ _ _ _ _ herr).trans (reg_bump_ne s.dev 1 hcnt)
  · refine tlyHostSig_completes ha ?_
    rw [hostSig_shared hinc hp]
    exact ⟨(s.dev.hostSignal w).arriving s.dev, rfl, rfl, rfl, rfl⟩
  · rintro g rfl
    refine ⟨fun hmet => ?_, ?_, fun f hf hunmet => ⟨fun hroom => ?_, fun hfull hrun hnone => ?_⟩⟩
    · refine remoteSignal_completes ha ?_
      rw [arrive_met (messageSig m) hmet]
      rfl
    · exact remoteSignal_completes_of_failed ha ⟨reg_bump _ _ _, onlyRegs_bump _ _ _⟩
    · refine remoteSignal_completes ha ?_
      rw [hf, arrive_parked (messageSig m) hunmet hroom]
      have honly := onlyRegs_notePending
        { s.dev with lantern := { s.dev.lantern with parked := s.dev.lantern.parked ++ [(messageSig m).parking s.dev f] } }
      refine ⟨honly.lantern_eq, ?_⟩
      rw [honly.lantern_eq]
      exact honly
    · refine remoteSignal_completes ha ?_
      have hidle : (s.dev.bump Reg.tlyPendFullCnt 1).lantern.run = none := hrun
      rw [hf, arrive_full (messageSig m) hunmet hfull, fenceFault_none hidle]
      obtain ⟨herr, hcnt, hregs, hlantern, hmem⟩ := fenceRecorded_effect (d := s.dev.bump Reg.tlyPendFullCnt 1) (kind := 0x11)
        (p := (messageSig m).parking s.dev f) hrun hnone (by decide : 3 < 8) hmdev hmctx hmvid 0
      refine ⟨?_, herr, ?_, hlantern, (onlyRegs_bump s.dev _ 1).sameMemory.trans hmem⟩
      · rw [hregs _ (by decide) (by decide), reg_bump]
        rfl
      · rw [hcnt, reg_bump_ne s.dev 1 (by decide)]

end Sys2Proof.Machine
end

section
/-!
PROOFS. Signals that become due together (R208, R213), for a virtual id that is none of 0-255.
-/
namespace Sys2Proof.Machine

open Sys2Proof

/-! ### A virtual id beyond the tables (R208, R221)

A translation table has 256 entries, and an entry is read at an offset reckoned from its number. Entry 272 of table 479, the last,
would lie in the word of TLY_SIG_CNT, since `Reg.tlyTmap 479 (272 / 2) = Reg.tlySigCnt`: what it maps to moves with each signal
that is counted. -/

/-- A signal to tally 40 itself. -/
def plainSig : Sig :=
  { dev := 0, ctx := 0, vid := 0, inc := 1, phys := some 40, cross := false, host := true, applyAt := 0 }

/-- A signal of context 0 to the virtual id 272. -/
def straySig : Sig := { plainSig with vid := 272, phys := none, host := false }

/-- The reset device with context 0 on table 479, 40 signals counted, and both signals due. -/
def strayDev : Device :=
  { (State.reset.dev.setReg (Reg.ctxW0 0) (mkWord [(7, 1), (8, 479)])).setReg Reg.tlySigCnt 40 with
    lantern := { State.reset.dev.lantern with sigs := [plainSig, straySig] } }

/-- Before either is added, both reach tally 40. -/
theorem resolveSig_strayDev : strayDev.resolveSig plainSig = some 40 ∧ strayDev.resolveSig straySig = some 40 := by decide

/-- The second reaches tally 41 instead, for the first is counted before it is resolved. -/
theorem tally_strayDev : strayDev.tally 40 = 0 ∧ (strayDev.applySignals []).tally 40 = 1 := by decide

/-- Refutes O11: its first clause bounds no virtual id. Id 272 of table 479 is read from TLY_SIG_CNT, so two signals that both
reach tally 40 before they are added do not both reach it while they are: the first is counted between. -/
theorem not_signalsAddReleaseAndExpire : ¬ Obligations.SignalsAddReleaseAndExpire := by
  rintro ⟨happly, -⟩
  obtain ⟨hplain, hstray⟩ := resolveSig_strayDev
  obtain ⟨hsum, -, -⟩ := happly { dev := strayDev, pending := [] } plainSig straySig 40 (by decide) rfl (Nat.zero_le _) rfl
    (by decide) (by decide) (by decide)
  obtain ⟨d, hexec, htally, -⟩ := hsum rfl rfl hplain hstray (by decide)
  have hd : d = strayDev.applySignals [] := by
    have hnext := took_alive (s := { dev := strayDev, pending := [] }) (·.applySignals []) (by decide)
    exact congrArg State.dev (Host.Outcome.next.inj (hexec.symm.trans hnext))
  rw [hd, tally_strayDev.2] at htally
  exact absurd htally (by rw [show ({ dev := strayDev, pending := [] } : State).dev.tally 40 = 0 from tally_strayDev.1]; decide)

end Sys2Proof.Machine
end

section
/-!
PROOFS. The start conditions of a head task (R208, R209, R214 - R217).
-/
namespace Sys2Proof.Machine

open Sys2Proof

/-! ### The test of the conditions (R215) -/

theorem tally_lt (d : Device) (p : Nat) : d.tally p < 2 ^ 32 := fld_lt _ 0 32

/-- Entries that are not in use let the test pass. -/
theorem testWaits_unused (d : Device) (ctx : Nat) (acc : List (Nat × Nat)) : d.testWaits ctx [0, 0, 0] acc = some (d, acc) := by
  simp [Device.testWaits, bit]

section
variable {d : Device} {ctx p : Nat} {e : Word} (hen : bit e 63 = true) (hmap : d.translateVid ctx (fld e 48 8) = some p)
  (es : List Word) (acc : List (Nat × Nat))
include hen hmap

/-- A tally below the threshold fails the whole test. -/
theorem testWaits_below (hlow : d.tally p < fld e 0 32) : d.testWaits ctx (e :: es) acc = none := by
  simp [Device.testWaits, hen, hmap, hlow]

/-- An entry that is met and consumes takes its threshold from the working copy. -/
theorem testWaits_consume (hmet : fld e 0 32 ≤ d.tally p) (hcons : bit e 62 = true) :
    d.testWaits ctx (e :: es) acc =
      (d.setTally p (d.tally p - fld e 0 32)).testWaits ctx es (acc ++ [(p, fld e 0 32)]) := by
  simp [Device.testWaits, hen, hmap, hmet, hcons]

/-- An entry that is met and does not consume leaves the working copy. -/
theorem testWaits_keep (hmet : fld e 0 32 ≤ d.tally p) (hcons : bit e 62 = false) :
    d.testWaits ctx (e :: es) acc = d.testWaits ctx es acc := by
  simp [Device.testWaits, hen, hmap, hmet, hcons]

end

/-! ### The evaluation of one task (R215, R301) -/

/-- The task `id` is READY from gcyc `g` on and has consumed `used`; the idle timer stops (R189). -/
def Device.readied (d : Device) (id g : Nat) (used : List (Nat × Nat)) : Device :=
  { d.mapTask id (fun t => { t with state := .ready, since := g, consumed := used }) with
    belfry := { d.belfry with idleFrom := none } }

theorem sameMemory_readied (d : Device) (id g : Nat) (used : List (Nat × Nat)) : SameMemory d (d.readied id g used) :=
  ⟨rfl, rfl, rfl, rfl⟩

/-- Where the task is the only one, it is the one that is READY. -/
theorem lantern_readied {d : Device} {t : Task} (htasks : d.lantern.tasks = [t]) (g : Nat) (used : List (Nat × Nat)) :
    (d.readied t.id g used).lantern =
      { d.lantern with tasks := [{ t with state := .ready, since := g, consumed := used }] } := by
  simp [Device.readied, Device.mapTask, htasks]

/-- An invalid slot, a closed gate or a condition that is not met: the task stays as it is. -/
theorem evaluateTask_unmet {d : Device} {g : Nat} {t : Task}
    (h : d.slotValid t.slot = false ∨ d.gateOpen (d.ctxQueue t.ctx) g = false ∨
      d.testWaits t.ctx (((d.slotHeader t.slot).drop 3).take 4) [] = none) : d.evaluateTask g t = d := by
  unfold Device.evaluateTask
  by_cases hshut : d.slotValid t.slot = false ∨ d.gateOpen (d.ctxQueue t.ctx) g = false
  · exact if_pos hshut
  · obtain hslot | hgate | hwait := h
    · exact absurd (.inl hslot) hshut
    · exact absurd (.inr hgate) hshut
    · rw [if_neg hshut, hwait]

/-- A valid slot, an open gate and every condition met: the task is READY. -/
theorem evaluateTask_met {d d' : Device} {g : Nat} {t : Task} {used : List (Nat × Nat)} (hslot : d.slotValid t.slot = true)
    (hgate : d.gateOpen (d.ctxQueue t.ctx) g = true)
    (hwait : d.testWaits t.ctx (((d.slotHeader t.slot).drop 3).take 4) [] = some (d', used)) :
    d.evaluateTask g t = d'.readied t.id g used := by
  rw [Device.evaluateTask, if_neg (by simp [hslot, hgate]), hwait]
  rfl

/-! ### The head tasks that are due (R215, R216) -/

/-- The device whose evaluations up to gcyc `g` have been made. -/
def Device.evaluated (d : Device) (g : Nat) : Device :=
  { d with lantern := { d.lantern with evals := d.lantern.evals.filter (fun e => decide (g < e.2)) } }

/-- The least of a list is at most each of its members. -/
theorem foldl_min_le_of_mem {a x : Nat} {l : List Nat} (h : x ∈ a :: l) : l.foldl min a ≤ x := by
  induction l generalizing a x with
  | nil => simp_all
  | cons b l ih =>
    obtain rfl | rfl | hx : x = a ∨ x = b ∨ x ∈ l := by simpa using h
    · exact (ih List.mem_cons_self).trans (min_le_left _ _)
    · exact (ih List.mem_cons_self).trans (min_le_right _ _)
    · exact ih (List.mem_cons_of_mem _ hx)

section
variable {d : Device} {t : Task} (htasks : d.lantern.tasks = [t]) (hst : t.state = .waiting) (hsince : t.since + 1 ≤ d.now)
include htasks hst

theorem waitingTasks_one : d.waitingTasks = [t] := by simp [Device.waitingTasks, htasks, hst]

include hsince

/-- With one task, WAITING and due by now, it is evaluated in this gcyc. -/
theorem evaluateHeads_one (hdue : ∃ e ∈ d.lantern.evals, e.1 = t.ctx ∧ e.2 ≤ d.now) :
    d.evaluateHeads [] = (d.evaluated d.now).evaluateTask d.now t := by
  obtain ⟨e, he, hctx, hle⟩ := hdue
  have hone := waitingTasks_one htasks hst
  have hevalDue : d.evalDue d.now t = true := by
    simp only [Device.evalDue, hsince, decide_true, Bool.true_and, List.any_eq_true, Bool.and_eq_true, beq_iff_eq,
      decide_eq_true_eq]
    exact ⟨e, he, hctx, hle⟩
  have hmem : max e.2 (t.since + 1) ∈ d.waitingTasks.flatMap (fun t =>
      (d.lantern.evals.filter (fun e => e.1 == t.ctx)).map (fun e => max e.2 (t.since + 1))) := by
    rw [hone, List.flatMap_singleton]
    exact List.mem_map.2 ⟨e, List.mem_filter.2 ⟨he, by simp [hctx]⟩, rfl⟩
  unfold Device.evaluateHeads
  extract_lets gs
  have hgs : max e.2 (t.since + 1) ∈ gs := hmem
  clear_value gs
  cases gs with
  | nil => simp at hgs
  | cons g rest =>
    have hnow : max d.now (rest.foldl min g) = d.now :=
      max_eq_left ((foldl_min_le_of_mem hgs).trans (max_le hle hsince))
    simp only [hnow, advance_past le_rfl, Device.evaluateDue, hone, List.filter_cons_of_pos hevalDue]
    rfl

end

/-- Settles O12: the one task that is due is evaluated in this gcyc; below the threshold the test fails, and at or above it the
task is READY, with the threshold taken where CONSUME is set. -/
theorem startConditionsMakeTheHeadReady : Obligations.StartConditionsMakeTheHeadReady := by
  intro s t e p halive htasks hst hsince hdue hheader hen hmap
  have heval := evaluateHeads_one htasks hst hsince hdue
  have hmap' : (s.dev.evaluated s.dev.now).translateVid t.ctx (fld e 48 8) = some p := hmap
  have hheader' : (((s.dev.evaluated s.dev.now).slotHeader t.slot).drop 3).take 4 = [e, 0, 0, 0] := hheader
  refine ⟨fun hunmet => ?_, fun hvalid hblocks hopen hmet => ?_⟩
  · refine completes_took (f := (·.evaluateHeads [])) rfl halive (heval.trans (evaluateTask_unmet ?_))
    obtain hslot | hgate | hlow := hunmet
    · exact .inl hslot
    · exact .inr (.inl hgate)
    · rw [hheader']
      exact .inr (.inr (testWaits_below hen hmap' _ _ hlow))
  · have hgate : (s.dev.evaluated s.dev.now).gateOpen (s.dev.ctxQueue t.ctx) s.dev.now = true := by
      simp only [Device.gateOpen, Bool.and_eq_true, Bool.not_eq_true', decide_eq_true_eq]
      exact ⟨hblocks, hopen⟩
    have hvalid' : (s.dev.evaluated s.dev.now).slotValid t.slot = true := hvalid
    refine ⟨fun hcons => ?_, fun hcons => ?_⟩
    · refine completes_took (f := (·.evaluateHeads [])) rfl halive ?_
      have hwait := (testWaits_consume hen hmap' [0, 0, 0] [] hmet hcons).trans (testWaits_unused _ _ _)
      rw [← hheader'] at hwait
      rw [heval, evaluateTask_met hvalid' hgate hwait]
      have honly := onlyRegs_setReg s.dev (Reg.tlyValue p) (BitVec.ofNat 64 ((s.dev.tally p - fld e 0 32) % 2 ^ 32))
      refine ⟨lantern_readied (d := (s.dev.evaluated s.dev.now).setTally p _) htasks _ _, ?_, rfl, ⟨rfl, rfl, rfl, rfl⟩, honly.2⟩
      refine (tally_setTally s.dev p _).trans (Nat.mod_eq_of_lt ?_)
      exact lt_of_le_of_lt (Nat.sub_le _ _) (tally_lt s.dev p)
    · refine completes_took (f := (·.evaluateHeads [])) rfl halive ?_
      have hwait := (testWaits_keep hen hmap' [0, 0, 0] [] hmet hcons).trans (testWaits_unused _ _ _)
      rw [← hheader'] at hwait
      rw [heval, evaluateTask_met hvalid' hgate hwait]
      exact ⟨lantern_readied (d := s.dev.evaluated s.dev.now) htasks _ _, rfl, rfl, sameMemory_readied _ _ _ _⟩

end Sys2Proof.Machine
end

section
/-!
PROOFS. Accesses of BAR2 (R240, R365): what a read leaves in the network while the prefetcher is off, and what a write of a whole
line does.
-/
namespace Sys2Proof.Machine

open Sys2Proof

/-! ### Reads (R240, R365) -/

/-- Without the prefetcher a read is a miss, and travels as one READ of the units that it touches. -/
theorem bar2Read_of_off {d : Device} (h : d.regBit Reg.stePfCtl 31 = false) (f off len tag : Nat) (ecc : List (Nat × Ecc)) :
    d.bar2Read f off len tag ecc = (d.bump Reg.stePfMissCnt 1).newTxn (0x80 + f) false .read
      (.mem (d.bar2Addr f off / 64 * 64)) ((d.bar2Addr f off + len + 63) / 64 - d.bar2Addr f off / 64) [] 0
      (.bar2 f tag (d.bar2Addr f off % 64) len) := by
  simp [Device.bar2Read, h]

/-! ### Writes (R365) -/

/-- Every byte of a whole line is enabled. -/
theorem lineEnables_whole {bs : List Byte} (h : bs.length = 64) : lineEnables (bs.map some) = -1 := by
  have hall : (List.range 64).map (fun i => if ((bs.map some).getD i none).isSome then 2 ^ i else 0) =
      (List.range 64).map (fun i => 2 ^ i) := by
    refine List.map_congr_left fun i hi => if_pos ?_
    rw [List.mem_range, ← h] at hi
    simp [hi]
  rw [lineEnables, hall]
  decide

/-- A write of 64 bytes at an aligned address is one line. -/
theorem cutLines_whole {bs : List Byte} (h : bs.length = 64) {a : Nat} (ha : a % 64 = 0) (fuel : Nat) :
    cutLines (fuel + 2) a (bs.map some) = [(a, bs.map some)] := by
  have hne : bs ≠ [] := by
    rintro rfl
    simp at h
  have hfirst : a / 64 * 64 = a := by omega
  simp [cutLines, ha, hne, hfirst, List.take_of_length_le, List.drop_of_length_le, h]

/-- A whole line travels as one WRITE. -/
theorem bar2Lines_whole (d : Device) (f : Nat) (ep : Bool) (a : Nat) {bs : List Byte} (h : bs.length = 64) :
    d.bar2Lines f ep 2 [(a, bs.map some)] = d.newTxn (0x80 + f) false .write (.mem a) 1
      [if ep then poisonUnit else freshUnit (bytesLine bs)] 0 (.bar2 f 0 0 0) := by
  have hbytes : (bs.map some).map (·.getD 0) = bs := by simp [Function.comp_def]
  simp only [Device.bar2Lines, lineEnables_whole h, if_true, List.takeWhile_cons, beq_self_eq_true, List.takeWhile_nil, hbytes,
    List.take_succ_cons, List.take_nil, List.map_cons, List.map_nil, List.length_cons, List.length_nil, List.drop_succ_cons,
    List.drop_zero, Nat.zero_add]

/-- The device once a TLP of function `f` has been received: a poisoned one is reported (R382). -/
def Device.tlpTaken (d : Device) (f : Nat) (ep : Bool) : Device := if ep then d.poisonedTlp f else d

/-- A TLP counts when it is poisoned, and touches neither the network nor a memory. -/
theorem tlpTaken_effect (d : Device) (f : Nat) (ep : Bool) :
    (d.tlpTaken f ep).reg Reg.hifPoisRxCnt = d.reg Reg.hifPoisRxCnt + (if ep then 1 else 0) ∧
    SameRegs [Reg.hifPoisRxCnt] d (d.tlpTaken f ep) ∧ (d.tlpTaken f ep).net = d.net ∧ SameMemory d (d.tlpTaken f ep) := by
  cases ep with
  | false => exact ⟨(BitVec.add_zero _).symm, fun _ _ => rfl, rfl, ⟨rfl, rfl, rfl, rfl⟩⟩
  | true => exact ⟨reg_bump d _ 1, (onlyRegs_bump d _ 1).2, rfl, ⟨rfl, rfl, rfl, rfl⟩⟩

/-- BAR2 lies where its base register says. -/
theorem bar2Addr_congr {d d' : Device} {f : Nat} (h : SameRegs [Reg.hifPoisRxCnt] d d') (off : Nat) :
    d'.bar2Addr f off = d.bar2Addr f off := by
  have hbase : (if f = 0 then Reg.hifBar2Base else Reg.hifVfBar2Base f) ∉ [Reg.hifPoisRxCnt] := by
    rw [List.mem_singleton, Reg.hifBar2Base, Reg.hifVfBar2Base, Reg.hifPoisRxCnt]
    split <;> omega
  rw [Device.bar2Addr, Device.regF, h _ hbase, Device.bar2Addr, Device.regF]

theorem bar2Write_whole {d : Device} {f off : Nat} (ha : d.bar2Addr f off % 64 = 0) {bs : List Byte} (h : bs.length = 64)
    (ep : Bool) : d.bar2Write f off (bs.map some) ep =
      (d.tlpTaken f ep).newTxn (0x80 + f) false .write (.mem (d.bar2Addr f off)) 1
        [if ep then poisonUnit else freshUnit (bytesLine bs)] 0 (.bar2 f 0 0 0) := by
  have haddr : (d.tlpTaken f ep).bar2Addr f off = d.bar2Addr f off := bar2Addr_congr (tlpTaken_effect d f ep).2.1 off
  have hunfold : d.bar2Write f off (bs.map some) ep = (d.tlpTaken f ep).bar2Lines f ep
      ((cutLines ((bs.map some).length + 1) ((d.tlpTaken f ep).bar2Addr f off) (bs.map some)).length + 1)
      (cutLines ((bs.map some).length + 1) ((d.tlpTaken f ep).bar2Addr f off) (bs.map some)) := rfl
  rw [hunfold, haddr, List.length_map, h, cutLines_whole h ha 63]
  exact bar2Lines_whole _ f ep _ h

/-- Settles O4: a read, with the prefetcher off, and a write of a whole line each leave one transaction waiting in the network;
the counter of misses, or that of poisoned TLPs, is moved before. -/
theorem bar2TravelsAsDynamicTraffic : Obligations.Bar2TravelsAsDynamicTraffic := by
  intro s f off tag halive
  refine ⟨fun len ecc hoff => ?read, fun bs hlen haligned ep => ?write⟩
  case read =>
    refine completes_took (f := fun d => d.linkUse.bar2Read f off len tag ecc) rfl halive ?_
    dsimp only
    rw [bar2Read_of_off (d := s.dev.linkUse) hoff]
    obtain ⟨-, hmem, -, -, -, -, -, -, -, hregs⟩ := newTxn_rest (s.dev.linkUse.bump Reg.stePfMissCnt 1) (0x80 + f) .read
      (.mem (s.dev.bar2Addr f off / 64 * 64)) ((s.dev.bar2Addr f off + len + 63) / 64 - s.dev.bar2Addr f off / 64) [] 0
      (.bar2 f tag (s.dev.bar2Addr f off % 64) len)
    refine ⟨⟨_, congrArg Net.txns (newTxn_net ..), rfl, rfl, rfl, rfl, rfl, rfl⟩, ?_, hmem⟩
    exact (hregs _ (by decide)).trans (reg_bump s.dev.linkUse _ 1)
  case write =>
    refine completes_took (f := fun d => d.linkUse.bar2Write f off (bs.map some) ep) rfl halive ?_
    rw [bar2Write_whole (d := s.dev.linkUse) haligned hlen]
    obtain ⟨hcount, -, hnet, hkept⟩ := tlpTaken_effect s.dev.linkUse f ep
    obtain ⟨-, hmem, -, -, -, -, -, -, -, hregs⟩ := newTxn_rest (s.dev.linkUse.tlpTaken f ep) (0x80 + f) .write
      (.mem (s.dev.bar2Addr f off)) 1 [if ep then poisonUnit else freshUnit (bytesLine bs)] 0 (.bar2 f 0 0 0)
    refine ⟨⟨_, (congrArg Net.txns (newTxn_net ..)).trans (congrArg (fun n : Net => n.txns ++ [_]) hnet), rfl, rfl, rfl, rfl, rfl⟩, ?_,
      hkept.trans hmem⟩
    exact (hregs _ (by decide)).trans hcount

end Sys2Proof.Machine
end

section
/-!
PROOFS. Host reads of the network (R249, R382, R472): a read of several units is answered with its last unit, and what the end of a
host read reports.
-/
namespace Sys2Proof.Machine

open Sys2Proof

/-! ### Reads of several units (R277) -/

/-- What a read has received once its first units `us` are there. -/
def gotUnits (us : List DUnit) : SMap (Option DUnit) := us.zipIdx.map (fun e => (e.2, some e.1))

theorem length_gotUnits (us : List DUnit) : (gotUnits us).length = us.length := by simp [gotUnits]

theorem key_lt_of_mem_gotUnits {us : List DUnit} {e : Nat × Option DUnit} (h : e ∈ gotUnits us) : e.1 < us.length := by
  obtain ⟨x, hx, rfl⟩ := List.mem_map.1 h
  simpa using (List.mem_zipIdx hx).2.1

/-- The next unit comes behind the others. -/
theorem mapPut_gotUnits (us : List DUnit) (u : DUnit) :
    mapPut none (gotUnits us) us.length (some u) = gotUnits (us ++ [u]) := by
  have hbelow : (gotUnits us).filter (fun e => decide (e.1 < us.length)) = gotUnits us :=
    List.filter_eq_self.2 fun e he => decide_eq_true (key_lt_of_mem_gotUnits he)
  have habove : (gotUnits us).filter (fun e => decide (us.length < e.1)) = [] :=
    List.filter_eq_nil_iff.2 fun e he => by simpa using (key_lt_of_mem_gotUnits he).le
  rw [mapPut, hbelow, habove, List.append_nil]
  simp [gotUnits, List.zipIdx_append]

theorem mapGet_gotUnits (us : List DUnit) (i : Nat) : mapGet none (gotUnits us) i = us[i]? := by
  induction us using List.reverseRecOn with
  | nil => simp [gotUnits, mapGet, mapFind]
  | append_singleton us u ih =>
    rw [← mapPut_gotUnits]
    by_cases h : i = us.length
    · subst h
      simp
    · rw [mapGet_mapPut_ne _ _ _ h, ih, List.getElem?_append]
      split
      · rfl
      · rw [List.getElem?_eq_none (by omega), List.getElem?_eq_none (by simp; omega)]

theorem units_of_got {t : Txn} {us : List DUnit} (hgot : t.got = gotUnits us) (hlen : us.length = t.len) : t.units = us := by
  refine List.ext_getElem (by simp [Txn.units, hlen]) fun i h h' => ?_
  simp [Txn.units, hgot, mapGet_gotUnits, h']

section
variable {d : Device} {t : Txn} (ht : d.txn t.id = some t) {us : List DUnit} (hgot : t.got = gotUnits us) (u : DUnit)
include ht hgot

theorem txn_gotNext : (d.mapTxn t.id (fun t => { t with got := mapPut none t.got us.length (some u) })).txn t.id =
    some { t with got := gotUnits (us ++ [u]) } := by
  rw [← mapPut_gotUnits us u, ← hgot]
  exact txn_mapTxn ht fun _ => rfl

/-- A unit before the last one waits for the others. -/
theorem txn_deliver_more (hlen : us.length + 1 < t.len) :
    (d.deliver t.id us.length u).txn t.id = some { t with got := gotUnits (us ++ [u]) } := by
  have hnext := txn_gotNext ht hgot u
  have hwait : (gotUnits (us ++ [u])).length ≠ t.len := by
    rw [length_gotUnits, List.length_append, List.length_singleton]
    omega
  unfold Device.deliver
  dsimp only
  rw [hnext, if_neg (by simpa using hwait), hnext]

/-- With the last unit the response goes back. -/
theorem txn_deliver_last (hlen : us.length + 1 = t.len) :
    (d.deliver t.id us.length u).txn t.id =
      some { t with got := gotUnits (us ++ [u]), phase := .responded, rank := d.net.nextRank } := by
  have hnext := txn_gotNext ht hgot u
  have hover : (gotUnits (us ++ [u])).length = t.len := by
    rw [length_gotUnits, List.length_append, List.length_singleton, hlen]
  unfold Device.deliver
  dsimp only
  rw [hnext, if_pos (by simpa using hover)]
  exact txn_answer hnext

end

/-- The units that are still missing come one after the other: the read is answered with all of them. -/
theorem txn_deliverAll {d : Device} {t : Txn} (ht : d.txn t.id = some t) {us vs : List DUnit} (hgot : t.got = gotUnits us)
    (hlen : us.length + vs.length = t.len) (hvs : vs ≠ []) :
    ∃ v : Txn, (d.deliverAll t.id us.length vs).txn t.id = some v ∧ v.phase = .responded ∧ v.status = t.status ∧
      v.units = us ++ vs := by
  induction vs generalizing d t us with
  | nil => exact absurd rfl hvs
  | cons u vs ih =>
    rw [Device.deliverAll]
    rw [List.length_cons] at hlen
    by_cases hlast : vs = []
    · subst hlast
      refine ⟨_, txn_deliver_last ht hgot u hlen, rfl, rfl, units_of_got rfl ?_⟩
      rw [List.length_append]
      exact hlen
    · have hpos := List.length_pos_iff.2 hlast
      have hmore := txn_deliver_more ht hgot u (by omega)
      obtain ⟨v, hv, hphase, hstatus, hunits⟩ := ih (t := { t with got := gotUnits (us ++ [u]) }) (us := us ++ [u]) hmore rfl
        (by rw [List.length_append, List.length_singleton]; exact (by omega : us.length + 1 + vs.length = t.len)) hlast
      rw [List.length_append, List.length_singleton] at hv
      exact ⟨v, hv, hphase, hstatus, by rw [hunits, List.append_assoc]; rfl⟩

theorem deliverAll_only (d : Device) (id i : Nat) (us : List DUnit) :
    d.deliverAll id i us = { d with net := (d.deliverAll id i us).net } := by
  induction us generalizing d i with
  | nil => rfl
  | cons u us ih => rw [Device.deliverAll, ih, deliver_only]

/-! ### The end of a host read (R249, R380, R472) -/

/-- Invalidations that a read was waited for are answered: nothing else changes. -/
theorem settleInvals_only (d : Device) : d.settleInvals = { d with
    hif := { d.hif with invals := d.settleInvals.hif.invals }, out := d.settleInvals.out } := by
  have hfold (l : List (Nat × Nat)) (e : Device) : l.foldl (fun d e => d.emit (.atsInvalidated e.1 (4096 * e.2))) e =
      { e with out := (l.foldl (fun d e => d.emit (.atsInvalidated e.1 (4096 * e.2))) e).out } := by
    induction l generalizing e with
    | nil => rfl
    | cons x l ih => rw [List.foldl_cons, ih]; rfl
  rw [Device.settleInvals]
  dsimp only
  rw [hfold]
  rfl

theorem settleInvals_kept (d : Device) : d.settleInvals.net = d.net ∧ (∀ f, d.settleInvals.func f = d.func f) ∧
    d.settleInvals.lantern = d.lantern ∧ d.settleInvals.regs = d.regs ∧ SameMemory d d.settleInvals := by
  rw [settleInvals_only]
  exact ⟨rfl, fun _ => rfl, rfl, rfl, rfl, rfl, rfl, rfl⟩

/-- The units that the bytes of a host read make, with their checks computed here (R249). -/
def hostUnits (n : Nat) (bs : List Byte) : List DUnit := (List.range n).map (fun i => freshUnit (bytesLine (bs.drop (64 * i))))

section
variable {d : Device} {t : Txn} {f a : Nat} (ht : d.txn t.id = some t) (htarget : t.target = .host f a)
  (hphase : t.phase = .atTarget) (hcmd : t.cmd = .read)
include ht htarget hphase hcmd

theorem hostData_ok (bs : List Byte) : d.hostData t.id (.ok bs) = d.deliverAll t.id 0 (hostUnits t.len bs) := by
  simp [Device.hostData, ht, htarget, hphase, hcmd, hostUnits]

/-- A read that no thread has issued is refused after a timeout, which is logged (R382, R472). -/
theorem hostData_timeout (hthread : ∀ tk n st c, t.purpose ≠ .thread tk n st c) :
    d.hostData t.id .timeout = (d.aerLog f 14 1).refuseRead t := by
  simp only [Device.hostData, ht, htarget, hphase, hcmd, Device.logRead]

end

theorem bit_aerLog (d : Device) (f severity : Nat) {i : Nat} (h : i < 32) :
    bit ((d.aerLog f i severity).func f).aer i = true := by
  have hfunc : (d.aerLog f i severity).func f = { d.func f with aer := (d.func f).aer ||| BitVec.ofNat 32 (2 ^ i) } :=
    mapGet_mapPut ..
  rw [hfunc, bit, BitVec.getLsbD_or, BitVec.getLsbD_ofNat, Nat.testBit_two_pow_self]
  simp [h]

/-- A refused read is answered with poisoned zeros, and each of its units counted (R277). -/
theorem refuseRead_answers {d : Device} {t : Txn} (ht : d.txn t.id = some t) (hgot : t.got = []) (hlen : 0 < t.len) :
    (∃ v : Txn, (d.refuseRead t).txn t.id = some v ∧ v.phase = .responded ∧ v.status = 1 ∧
      v.units = List.replicate t.len poisonUnit) ∧
    d.refuseRead t = { d.bump Reg.errUncorrCnt t.len with net := (d.refuseRead t).net } := by
  have hstatus : ((d.bump Reg.errUncorrCnt t.len).mapTxn t.id (fun t => { t with status := 1 })).txn t.id =
      some { t with status := 1 } := txn_mapTxn (d := d.bump Reg.errUncorrCnt t.len) ht fun _ => rfl
  refine ⟨?_, deliverAll_only ..⟩
  exact txn_deliverAll (us := []) (t := { t with status := 1 }) hstatus hgot (by simp) (by simpa using hlen.ne')

/-- Settles O5: with data the read is answered unit by unit; a timeout is logged in the AER of its function and refuses the read. -/
theorem hostReadsEnd : Obligations.HostReadsEnd := by
  intro s t f a halive ht htarget hphase hcmd hgot hlen
  refine ⟨fun bs => ?data, fun hthread => ?timeout⟩
  case data =>
    refine completes_took (f := fun d => (d.linkUse.hostData t.id (.ok bs)).settleInvals) rfl halive ?_
    rw [hostData_ok (d := s.dev.linkUse) ht htarget hphase hcmd]
    obtain ⟨v, hv, hresponded, hstatus, hunits⟩ := txn_deliverAll (d := s.dev.linkUse) ht (us := []) hgot
      (vs := hostUnits t.len bs) (by simp [hostUnits]) (by simpa [hostUnits] using hlen.ne')
    have honly := deliverAll_only s.dev.linkUse t.id 0 (hostUnits t.len bs)
    obtain ⟨hnet, -, hlantern, hregs, hmem⟩ := settleInvals_kept (s.dev.linkUse.deliverAll t.id 0 (hostUnits t.len bs))
    refine ⟨v, ?_, hresponded, hstatus, hunits, ?_, ?_, SameMemory.trans ?_ hmem⟩
    · rw [Device.txn, hnet]
      exact hv
    · rw [hlantern, honly]
      rfl
    · exact hregs.trans (regs_of_net (d := s.dev.linkUse) honly)
    · exact sameMemory_of_net (d := s.dev.linkUse) honly
  case timeout =>
    refine completes_took (f := fun d => (d.hostData t.id .timeout).settleInvals) rfl halive ?_
    rw [hostData_timeout ht htarget hphase hcmd hthread]
    obtain ⟨⟨v, hv, hresponded, hstatus, hunits⟩, honly⟩ := refuseRead_answers (d := s.dev.aerLog f 14 1) ht hgot hlen
    obtain ⟨hnet, hfunc, -, hregs, hmem⟩ := settleInvals_kept ((s.dev.aerLog f 14 1).refuseRead t)
    refine ⟨?_, ⟨v, ?_, hresponded, hstatus, hunits⟩, ?_, SameMemory.trans ?_ hmem⟩
    · rw [hfunc, honly]
      exact bit_aerLog s.dev f 1 (by decide)
    · rw [Device.txn, hnet]
      exact hv
    · rw [reg_of_regs hregs, honly]
      exact reg_bump (s.dev.aerLog f 14 1) _ _
    · rw [honly]
      exact ⟨rfl, rfl, rfl, rfl⟩

end Sys2Proof.Machine
end

section
/-!
PROOFS. Translations (R244 - R248, R254): what a walk leaves behind when it waits, when it ends with a translation and when it ends
with a page fault, and the life of an invalidation.
-/
namespace Sys2Proof.Machine

open Sys2Proof

/-! ### One thread changes -/

theorem mapThread_eq {d : Device} {tk : Nat} {x : Thread} (h : d.thread tk = some x) (f : Thread → Thread) :
    d.mapThread tk f = d.setThread tk (some (f x)) := by
  simp only [Device.mapThread, h]

/-- A thread that is neither RUNNING nor DRAINING is left alone when the threads are stopped. -/
theorem thread_stopThreads_of_over {d : Device} {tk : Nat} (c : StopCause) (hst : d.threadState tk ≠ 1 ∧ d.threadState tk ≠ 2) :
    (d.stopThreads c).thread tk = d.thread tk := by
  unfold Device.stopThreads
  generalize d.streams.threads.map (·.1) = l
  induction l generalizing d with
  | nil => rfl
  | cons k l ih =>
    rw [List.foldl_cons, ih (by rwa [threadState_stopThread])]
    by_cases hk : tk = k
    · subst hk
      simp [Device.stopThread, hst]
    · exact thread_stopThread_ne d c hk

/-! ### A stream fault ends the running task (R248) -/

/-- The device with a stream fault of thread `tk` counted, and the attempt marked. -/
def Device.faultCounted (d : Device) (tk : Nat) (f : StreamFault) : Device :=
  (d.mapRun (fun r => { r with streamFault := true })).bump
    (if f.kind = 0x21 then Reg.stePgfaultCnt (tk / 256) else Reg.steCplFaultCnt (tk / 256)) 1

/-- A thread that has met a fault. -/
def Thread.faulted (x : Thread) (f : StreamFault) : Thread := { x with fault := some f, walk := none, inbox := [] }

/-- The device with the fault of thread `tk` counted and noted, before the task takes it. -/
def Device.threadFaulted (d : Device) (tk : Nat) (f : StreamFault) : Device :=
  ((d.faultCounted tk f).mapThread tk (·.faulted f)).setThreadState tk 5

theorem streamFault_first {d : Device} {r : Run} (hrun : d.lantern.run = some r) (hfirst : r.streamFault = false) (tk : Nat)
    (f : StreamFault) : d.streamFault tk f = (d.threadFaulted tk f).faultTask (d.threadFaulted tk f).now := by
  rw [Device.streamFault, hrun, if_neg (by simp [hfirst])]
  rfl

/-- A running task that no cluster shares takes its fault: it issues no step after the next gcyc, and its threads are stopped. -/
theorem faultTask_running {d : Device} {r : Run} {u : Task} (hrun : d.lantern.run = some r) (htask : d.task r.task = some u)
    (hst : u.state = .running) (hgoes : r.stopAfter = none) (halone : r.cluster = false) (g : Nat) :
    d.faultTask g = (d.setRun (some { r with fault := true, stopAfter := some (g + 1) })).stopThreads .other := by
  simp [Device.faultTask, hrun, htask, hst, hgoes, halone]

theorem threadReg_ne_stePgfaultCnt (tk k : Nat) : threadReg tk ≠ Reg.stePgfaultCnt k := by
  rw [threadReg, Reg.steThread, Reg.stePgfaultCnt]
  omega

section
variable {d : Device} {tk : Nat} {x : Thread} {f : StreamFault} (hx : d.thread tk = some x) (hkind : f.kind = 0x21)
include hx hkind

/-- A page fault is counted, its thread FAULTED and the run marked. -/
theorem threadFaulted_effect :
    (d.threadFaulted tk f).thread tk = some (x.faulted f) ∧
    (d.threadFaulted tk f).threadState tk = 5 ∧
    (d.threadFaulted tk f).reg (Reg.stePgfaultCnt (tk / 256)) = d.reg (Reg.stePgfaultCnt (tk / 256)) + 1 ∧
    SameRegs [threadReg tk, Reg.stePgfaultCnt (tk / 256)] d (d.threadFaulted tk f) ∧ SameMemory d (d.threadFaulted tk f) ∧
    (d.threadFaulted tk f).lantern = (d.mapRun (fun r => { r with streamFault := true })).lantern ∧
    (d.threadFaulted tk f).now = d.now := by
  have hx' : (d.faultCounted tk f).thread tk = some x := hx
  rw [Device.threadFaulted, mapThread_eq hx', Device.faultCounted, if_pos hkind]
  refine ⟨thread_setThread .., threadState_setThreadState _ tk (by decide), ?_, fun a ha => ?_, ⟨rfl, rfl, rfl, rfl⟩, rfl, rfl⟩
  · rw [Device.setThreadState, reg_setF_ne _ _ _ _ (threadReg_ne_stePgfaultCnt tk (tk / 256)).symm, reg_setThread]
    exact reg_bump (d.mapRun _) _ 1
  · simp only [List.mem_cons, List.not_mem_nil, or_false, not_or] at ha
    rw [Device.setThreadState, reg_setF_ne _ _ _ _ ha.1, reg_setThread, reg_bump_ne _ _ ha.2, reg_mapRun]

/-- The first stream fault of a running task, a page fault (R248). -/
theorem streamFault_page {r : Run} {u : Task} (hrun : d.lantern.run = some r) (hfirst : r.streamFault = false)
    (halone : r.cluster = false) (hgoes : r.stopAfter = none) (htask : d.task r.task = some u) (hst : u.state = .running) :
    (d.streamFault tk f).thread tk = some (x.faulted f) ∧
    (d.streamFault tk f).threadState tk = 5 ∧
    (d.streamFault tk f).reg (Reg.stePgfaultCnt (tk / 256)) = d.reg (Reg.stePgfaultCnt (tk / 256)) + 1 ∧
    (d.streamFault tk f).lantern.run =
      some { r with streamFault := true, fault := true, stopAfter := some (d.now + 1) } ∧
    SameMemory d (d.streamFault tk f) ∧ SameRegs [threadReg tk, Reg.stePgfaultCnt (tk / 256)] d (d.streamFault tk f) := by
  obtain ⟨hthread, hfaulted, hcount, hregs, hmem, hlantern, hnow⟩ := threadFaulted_effect hx hkind
  have hrun' : (d.threadFaulted tk f).lantern.run = some { r with streamFault := true } := by
    rw [hlantern, Device.mapRun, hrun]
    rfl
  have htask' : (d.threadFaulted tk f).task r.task = some u := by
    rw [Device.task, hlantern]
    exact htask
  rw [streamFault_first hrun hfirst, faultTask_running hrun' htask' hst hgoes halone, hnow]
  refine ⟨?_, ?_, ?_, ?_, ?_, ?_⟩
  · rw [thread_stopThreads_of_over .other (by
      have h : ((d.threadFaulted tk f).setRun (some { { r with streamFault := true } with
        fault := true, stopAfter := some (d.now + 1) })).threadState tk = 5 := hfaulted
      rw [h]
      decide)]
    exact hthread
  all_goals rw [stopThreads_only]
  · exact hfaulted
  · exact hcount
  · rfl
  · exact hmem
  · exact hregs

end

/-! ### Walks (R244 - R248) -/

/-- The translation `e` stands first among the 2,048 of engine `k` (R247). -/
def Device.keepTranslation (d : Device) (k : Nat) (e : TlbEntry) : Device :=
  { d with streams := { d.streams with tlb := mapPut [] d.streams.tlb k ((e :: mapGet [] d.streams.tlb k).take 2048) } }

section
variable {d v : Device} {tk : Nat} {x : Thread} {q : WalkReq} (hx : d.thread tk = some x) (hwalk : x.walk = some q)
include hx hwalk

theorem walk_ends (hroot : bit (d.reg (Reg.stePtroot x.func)) 63 = true) {reads : List WalkRead} {e : TlbEntry}
    (hfrom : d.walkFrom (tk / 256) x.func q (4 - q.level) reads = (.ended (.page e), v)) (hv : v.thread tk = some x) :
    d.walk tk reads = (v.setThread tk (some { x with walk := none })).keepTranslation (tk / 256) e := by
  have hroot' : d.regBit (Reg.stePtroot x.func) 63 = true := hroot
  simp only [Device.walk, hx, hwalk, Option.bind_some, Option.map_some, hroot', if_true, hfrom, mapThread_eq hv]
  rfl

theorem walk_waits (hroot : bit (d.reg (Reg.stePtroot x.func)) 63 = true) {reads : List WalkRead} {p : WalkReq}
    (hfrom : d.walkFrom (tk / 256) x.func q (4 - q.level) reads = (.waits p, v)) (hv : v.thread tk = some x) :
    d.walk tk reads = v.setThread tk (some { x with walk := some p }) := by
  have hroot' : d.regBit (Reg.stePtroot x.func) 63 = true := hroot
  simp only [Device.walk, hx, hwalk, Option.bind_some, Option.map_some, hroot', if_true, hfrom, mapThread_eq hv]

/-- Without a page-table root the walk ends at once, in a page fault of cause 8 (R246, R248). -/
theorem walk_unrooted (hroot : bit (d.reg (Reg.stePtroot x.func)) 63 = false) (reads : List WalkRead) :
    d.walk tk reads = (d.setThread tk (some { x with walk := none })).streamFault tk
      { kind := 0x21, cause := 8, level := 0, dst := q.dst, addr := q.addr, unit := q.unit, gcyc := d.now, entry := 0 } := by
  have hroot' : d.regBit (Reg.stePtroot x.func) 63 = false := hroot
  simp only [Device.walk, hx, hwalk, Option.bind_some, Option.map_some, hroot', Bool.false_eq_true, if_false, mapThread_eq hx]
  rfl

end

/-! ### Invalidations (R247, R254) -/

/-- An invalidation under way. -/
def Device.invalidating (d : Device) (w : Word) : Device :=
  { d with streams := { d.streams with inval := d.streams.inval ++ [w] } }

theorem tlbInv_go {w : Word} (h : bit w 63 = true) (d : Device) :
    d.tlbInv w = (d.invalidating w).setF Reg.steTlbStatus 0 1 1 := by
  rw [Device.tlbInv, if_neg (by simp [h])]
  rfl

/-- The translations of the engines that the invalidations `ws` leave. -/
def leftBy (ws : List Word) (t : SMap (List TlbEntry)) : SMap (List TlbEntry) :=
  (List.range 4).foldl (fun t k => mapPut [] t k ((mapGet [] t k).filter (fun e => !ws.any (fun v => invalidates v e)))) t

theorem tlbInvDone_eq {d : Device} (h : d.streams.inval ≠ []) : d.tlbInvDone =
    ({ d with streams := { d.streams with inval := [], tlb := leftBy d.streams.inval d.streams.tlb } }).setF
      Reg.steTlbStatus 0 1 0 := by
  rw [Device.tlbInvDone, if_neg (by simpa using h)]
  rfl

/-- Every engine is rid of what the invalidations name. -/
theorem mapGet_leftBy (ws : List Word) (t : SMap (List TlbEntry)) {k : Nat} (hk : k < 4) :
    mapGet [] (leftBy ws t) k = (mapGet [] t k).filter (fun e => !ws.any (fun v => invalidates v e)) := by
  have hfold (n : Nat) : mapGet [] ((List.range n).foldl (fun t k => mapPut [] t k ((mapGet [] t k).filter
      (fun e => !ws.any (fun v => invalidates v e)))) t) k =
      if k < n then (mapGet [] t k).filter (fun e => !ws.any (fun v => invalidates v e)) else mapGet [] t k := by
    induction n with
    | zero => rfl
    | succ n ih =>
      rw [List.range_succ, List.foldl_append, List.foldl_cons, List.foldl_nil]
      by_cases h : k = n
      · subst h
        rw [mapGet_mapPut, ih, if_neg (lt_irrefl k), if_pos (Nat.lt_succ_self k)]
      · rw [mapGet_mapPut_ne _ _ _ h, ih]
        exact if_congr (by omega) rfl rfl
  exact (hfold 4).trans (if_pos hk)

/-- Settles O20: a walk's end and its wait change the thread and the engine's translations alone; without a root it is the task's
first stream fault; an invalidation is noted, shown, and carried out when it completes. -/
theorem translationsAreWalkedAndInvalidated : Obligations.TranslationsAreWalkedAndInvalidated := by
  intro s halive
  refine ⟨fun k t x q e tk htk hx hwalk => ⟨fun hroot reads v hv => ⟨fun hfrom => ?ends, fun p hfrom => ?waits⟩,
    fun hroot r u hrun hfirst halone hgoes htask hst => ?faults⟩, fun w => ⟨fun hgo => ?none, fun hgo => ?begins, fun hpend => ?done⟩⟩
  case none =>
    exact completes_took (f := (·.tlbInv w)) rfl halive (if_pos hgo)
  case begins =>
    refine completes_took (f := (·.tlbInv w)) rfl halive ?_
    rw [tlbInv_go hgo]
    refine ⟨rfl, ?_, onlyRegs_setF (s.dev.invalidating w) _ _ _ _⟩
    rw [regBit_setF]
    rfl
  case done =>
    refine completes_took (f := Device.tlbInvDone) rfl halive ?_
    rw [tlbInvDone_eq hpend]
    refine ⟨rfl, ?_, fun k hk => mapGet_leftBy _ _ hk, onlyRegs_setF _ _ _ _ _⟩
    rw [regBit_setF]
    rfl
  all_goals have hk : (k : Nat) = tk / 256 := by omega
  case ends =>
    refine completes_took (f := (·.walk (256 * k + t) reads)) rfl halive ?_
    rw [hk] at hfrom
    rw [← htk, walk_ends hx hwalk hroot hfrom hv, hk]
    exact ⟨mapGet_mapPut .., thread_setThread v tk _, rfl, rfl, rfl, rfl, rfl, rfl⟩
  case waits =>
    refine completes_took (f := (·.walk (256 * k + t) reads)) rfl halive ?_
    rw [hk] at hfrom
    rw [← htk, walk_waits hx hwalk hroot hfrom hv]
    exact ⟨thread_setThread v tk _, rfl, rfl, rfl, rfl, rfl, rfl, rfl⟩
  case faults =>
    refine completes_took (f := (·.walk (256 * k + t) [])) rfl halive ?_
    rw [← htk, walk_unrooted hx hwalk hroot, hk]
    obtain ⟨hthread, hfaulted, hcount, hafter, hmem, hregs⟩ :=
      streamFault_page (thread_setThread s.dev tk (some { x with walk := none }))
        (f := { kind := 0x21, cause := 8, level := 0, dst := q.dst, addr := q.addr, unit := q.unit, gcyc := s.dev.now, entry := 0 })
        rfl hrun hfirst halone hgoes htask hst
    exact ⟨hcount, hfaulted, ⟨_, congrArg _ hthread, rfl, rfl, rfl, rfl, rfl⟩, ⟨_, hafter, rfl, rfl, rfl⟩, hmem, hregs⟩

end Sys2Proof.Machine
end

section
/-!
PROOFS. The injection of a request without data (R277, R285, R289), and what a step changes of the threads.
-/
namespace Sys2Proof.Machine

open Sys2Proof

/-! ### Statistics (R291, R293) -/

theorem onlyRegs_bumpStat (d : Device) (a n : Nat) : OnlyRegs [a] d (d.bumpStat a n) := by
  unfold Device.bumpStat
  split
  · exact OnlyRegs.refl d _
  · exact onlyRegs_bump d a n

theorem onlyRegs_statMoved (d : Device) (i bytes units : Nat) :
    OnlyRegs [Reg.sncStatBytes i, Reg.sncStatUnits i] d (d.statMoved i bytes units) :=
  ((onlyRegs_bumpStat d _ bytes).mono (by simp)).trans ((onlyRegs_bumpStat _ _ units).mono (by simp))

/-! ### Injection (R285, R289, R481) -/

theorem injectError_only (d : Device) (i : Nat) (us : List DUnit) : OnlyRegs [Reg.errInj] d (d.injectError i us).2 := by
  unfold Device.injectError
  split
  · exact OnlyRegs.refl d _
  · split
    · exact onlyRegs_setF d _ _ _ _
    · exact OnlyRegs.refl d _

/-- An injection changes registers and the network, and nothing else. -/
theorem inject_only (d : Device) (id : Nat) : d.inject id = { d with regs := (d.inject id).regs, net := (d.inject id).net } := by
  unfold Device.inject
  split
  · rfl
  · next t _ =>
    dsimp only
    split
    · rw [(injectError_only d t.init t.data).1]
      rfl
    all_goals
      rw [(onlyRegs_statMoved _ _ _ _).1, (injectError_only d t.init t.data).1]
      rfl

/-- A transaction whose header has been injected in this gcyc. -/
def Txn.launched (t : Txn) (d : Device) : Txn :=
  { t with phase := .sent, injected := d.now, limit := d.regF Reg.sncCtl 0 24, sentAt := 2 * d.now }

/-- A read is injected as its header alone: no data, and so neither an error injected nor volume counted. -/
theorem inject_read {d : Device} {id : Nat} {t : Txn} (ht : d.txn id = some t) (hcmd : t.cmd = .read) (hdata : t.data = []) :
    d.inject id = (d.mapTxn id (fun _ => t.launched d)).launchRequest (t.launched d) := by
  have hus : d.injectError t.init t.data = (t.data, d) := by rw [hdata]; rfl
  simp only [Device.inject, ht, hus, hcmd, Txn.launched]

/-- A new scheduled transaction changes registers and the network, and nothing else. -/
theorem newTxn_scheduled_only (d : Device) (init : Nat) (cmd : NetCmd) (target : NetTarget) (len : Nat) (data : List DUnit)
    (be : Word) (purpose : NetFor) : d.newTxn init true cmd target len data be purpose = { d with
      regs := (d.newTxn init true cmd target len data be purpose).regs
      net := (d.newTxn init true cmd target len data be purpose).net } := by
  rw [Device.newTxn, if_pos rfl, inject_only]

/-- The device with a transaction behind the others. -/
def Device.withTxn (d : Device) (t : Txn) : Device :=
  { d with net := { d.net with txns := d.net.txns ++ [t], nextId := d.net.nextId + 1 } }

section
variable {d : Device} {t : Txn} (hnew : d.txn d.net.nextId = none) (hid : t.id = d.net.nextId)
include hnew hid

theorem txn_withTxn : (d.withTxn t).txn d.net.nextId = some t := by
  have hnone : d.net.txns.find? (fun t => t.id == d.net.nextId) = none := hnew
  simp only [Device.txn, Device.withTxn, List.find?_append, hnone, Option.none_or, List.find?_singleton, hid, beq_self_eq_true,
    if_true]

/-- The last transaction alone has its number. -/
theorem mapTxn_withTxn (u : Txn) : ((d.withTxn t).mapTxn d.net.nextId (fun _ => u)) = d.withTxn u := by
  have hother : d.net.txns.map (fun t => if t.id = d.net.nextId then u else t) = d.net.txns := by
    refine (List.map_congr_left fun v hv => if_neg ?_).trans (List.map_id _)
    simpa using List.find?_eq_none.1 hnew v hv
  simp only [Device.mapTxn, Device.withTxn, List.map_append, hother, List.map_singleton, hid, if_true]

end

/-- A scheduled read goes out at once, behind the transactions that stand (R280, R289). -/
theorem newTxn_scheduled_read {d : Device} (hnew : d.txn d.net.nextId = none) (init : Nat) (target : NetTarget) (len : Nat)
    (purpose : NetFor) : d.newTxn init true .read target len [] 0 purpose =
      (d.withTxn ((Txn.fresh d.net.nextId init true .read target len [] 0 purpose).launched d)).launchRequest
        ((Txn.fresh d.net.nextId init true .read target len [] 0 purpose).launched d) := by
  have hfound := txn_withTxn (t := Txn.fresh d.net.nextId init true .read target len [] 0 purpose) hnew rfl
  refine (inject_read hfound rfl rfl).trans ?_
  rw [mapTxn_withTxn hnew rfl]
  rfl

/-! ### The thread behind a number and a stamp (R223, R243) -/

section
variable {d : Device} {tk : Nat} {x : Thread} (hx : d.thread tk = some x)
include hx

theorem threadOf_self : d.threadOf tk x.stamp = some x := by
  simp [Device.threadOf, hx]

theorem mapThreadOf_self (f : Thread → Thread) : d.mapThreadOf tk x.stamp f = d.setThread tk (some (f x)) := by
  simp [Device.mapThreadOf, Device.mapThread, hx]

end

end Sys2Proof.Machine
end

section
/-!
PROOFS. Stream threads issue, drain and end (R224, R231, R233, R241, R243): the request that an engine issues, the units that a LINK
thread passes on, and the states in which a thread ends.
-/
namespace Sys2Proof.Machine

open Sys2Proof

/-! ### Units that go on (R226, R227, R250) -/

/-- What passing units on keeps: of thread `tk` its place, its inbox and its commits; the issue ports, the queues and the memories. -/
structure UnitsGo (tk : Nat) (d d' : Device) : Prop where
  thread : ∀ x, d.thread tk = some x → ∃ y, d'.thread tk = some y ∧ y.next = x.next ∧ y.inbox = x.inbox ∧ y.committed = x.committed
  port : d'.streams.port = d.streams.port
  queues : d'.queues = d.queues
  memory : SameMemory d d'

namespace UnitsGo
variable {tk : Nat} {d d' d'' : Device}

theorem refl (tk : Nat) (d : Device) : UnitsGo tk d d := ⟨fun x hx => ⟨x, hx, rfl, rfl, rfl⟩, rfl, rfl, rfl, rfl, rfl, rfl⟩

theorem trans (h : UnitsGo tk d d') (h' : UnitsGo tk d' d'') : UnitsGo tk d d'' where
  thread x hx := by
    obtain ⟨y, hy, hnext, hinbox, hcommitted⟩ := h.thread x hx
    obtain ⟨z, hz, hnext', hinbox', hcommitted'⟩ := h'.thread y hy
    exact ⟨z, hz, hnext'.trans hnext, hinbox'.trans hinbox, hcommitted'.trans hcommitted⟩
  port := h'.port.trans h.port
  queues := h'.queues.trans h.queues
  memory := h.memory.trans h'.memory

/-- A step that leaves the streams, the queues and the memories. -/
theorem of_streams (hs : d'.streams = d.streams) (hq : d'.queues = d.queues)
    (hm : d'.hbm = d.hbm ∧ d'.tile = d.tile ∧ d'.cfgMem = d.cfgMem) : UnitsGo tk d d' where
  thread x hx := ⟨x, by rw [Device.thread, hs]; exact hx, rfl, rfl, rfl⟩
  port := by rw [hs]
  queues := hq
  memory := ⟨by rw [hm.1], hm.2.1, by rw [hs], hm.2.2⟩

theorem ite {c : Prop} [Decidable c] (h : UnitsGo tk d d') (h' : UnitsGo tk d d'') : UnitsGo tk d (if c then d' else d'') := by
  split
  · exact h
  · exact h'

end UnitsGo

section
variable (tk : Nat) (d : Device)

/-- A thread is changed in what does not say how far it has come. -/
theorem unitsGo_mapThreadOf (stamp : Nat) {f : Thread → Thread}
    (hf : ∀ x, (f x).next = x.next ∧ (f x).inbox = x.inbox ∧ (f x).committed = x.committed) :
    UnitsGo tk d (d.mapThreadOf tk stamp f) := by
  unfold Device.mapThreadOf
  split
  · cases hx : d.thread tk with
    | none => simpa only [Device.mapThread, hx] using UnitsGo.refl tk d
    | some x =>
      rw [mapThread_eq hx]
      refine ⟨fun y hy => ?_, rfl, rfl, rfl, rfl, rfl, rfl⟩
      obtain rfl := Option.some.inj (hx.symm.trans hy)
      exact ⟨f x, thread_setThread d tk _, hf x⟩
  · exact ⟨fun x hx => ⟨x, hx, rfl, rfl, rfl⟩, rfl, rfl, rfl, rfl, rfl, rfl⟩

theorem unitsGo_markOwner (x : Thread) (c : Nat) : UnitsGo tk d (d.markOwner x c) := by
  unfold Device.markOwner Device.markStamp
  split
  · exact .of_streams rfl rfl ⟨rfl, rfl, rfl⟩
  · exact .refl tk d

theorem unitsGo_takeUnit (x : Thread) (u : DUnit) : UnitsGo tk d (d.takeUnit tk x u).2 := by
  have hconsumed : UnitsGo tk d d.markConsumed := .of_streams rfl rfl ⟨rfl, rfl, rfl⟩
  have hbad : UnitsGo tk d (d.uncorrected (Reg.steChkCnt (tk / 256))) := .of_streams rfl rfl ⟨rfl, rfl, rfl⟩
  unfold Device.takeUnit
  split
  · exact hconsumed.ite (.refl tk d)
  split
  · exact .refl tk d
  · exact hbad.trans (unitsGo_markOwner tk _ x 49)

theorem unitsGo_takeUnits (x : Thread) (us : List DUnit) : UnitsGo tk d (d.takeUnits tk x us).2 := by
  induction us generalizing d with
  | nil => exact .refl tk d
  | cons u us ih => exact (unitsGo_takeUnit tk d x u).trans (ih _)

theorem unitsGo_newTxn (init : Nat) (cmd : NetCmd) (target : NetTarget) (len : Nat) (data : List DUnit) (be : Word)
    (purpose : NetFor) : UnitsGo tk d (d.newTxn init true cmd target len data be purpose) := by
  rw [newTxn_scheduled_only]
  exact .of_streams rfl rfl ⟨rfl, rfl, rfl⟩

/-- Units go to an outbox or leave as a write. -/
theorem unitsGo_forward (n stamp : Nat) (us : List DUnit) (dst : NetTarget) : UnitsGo tk d (d.forward tk n stamp us dst) := by
  unfold Device.forward
  split
  · exact unitsGo_mapThreadOf tk d stamp fun x => ⟨rfl, rfl, rfl⟩
  · exact UnitsGo.trans (unitsGo_mapThreadOf tk d stamp (by exact fun _ => ⟨rfl, rfl, rfl⟩)) (unitsGo_newTxn tk _ ..)

theorem unitsGo_sendOn (stamp : Nat) (dst : NetTarget) (fuel : Nat) : UnitsGo tk d (d.sendOn tk stamp dst fuel) := by
  induction fuel generalizing d with
  | zero => exact .refl tk d
  | succ fuel ih =>
    rw [Device.sendOn]
    split
    · exact .refl tk d
    · next x e _ =>
      have hturn := unitsGo_mapThreadOf tk d stamp (f := fun x => { x with onward := e.1 + e.2.1, early := x.early.erase e })
        fun _ => ⟨rfl, rfl, rfl⟩
      exact (hturn.trans ((UnitsGo.refl tk _).ite (unitsGo_forward tk _ _ stamp _ dst))).trans (ih _)

theorem unitsGo_passOn (n count stamp : Nat) (us : List DUnit) (dst : NetTarget) :
    UnitsGo tk d (d.passOn tk n count stamp us dst) := by
  unfold Device.passOn
  refine UnitsGo.ite ?_ (UnitsGo.ite (.refl tk d) (unitsGo_forward tk d n stamp us dst))
  exact UnitsGo.trans (unitsGo_mapThreadOf tk d stamp (by exact fun _ => ⟨rfl, rfl, rfl⟩)) (unitsGo_sendOn tk _ stamp dst _)

theorem unitsGo_requestOver (stamp : Nat) : UnitsGo tk d (d.requestOver tk stamp) :=
  unitsGo_mapThreadOf tk d stamp fun _ => ⟨rfl, rfl, rfl⟩

theorem unitsGo_threadData (n stamp : Nat) (dst : NetTarget) (us : List DUnit) (refused last : Bool) :
    UnitsGo tk d (d.threadData tk n stamp dst us refused last) := by
  have hover (e : Device) : UnitsGo tk e (if last then e.requestOver tk stamp else e) :=
    (unitsGo_requestOver tk e stamp).ite (.refl tk e)
  unfold Device.threadData
  split
  · exact .refl tk d
  · next x _ =>
    dsimp only
    refine UnitsGo.ite (hover d) ?_
    have hmark : UnitsGo tk d (if refused then d.markOwner x 49 else d) := (unitsGo_markOwner tk d x 49).ite (.refl tk d)
    have hgone := (hmark.trans (unitsGo_takeUnits tk _ x us)).trans (unitsGo_passOn tk _ n us.length stamp
      (Device.takeUnits (if refused then d.markOwner x 49 else d) tk x us).1 dst)
    exact (hgone.trans (hover _)).ite hgone

end

/-! ### The choice of the next request (R231, R233) -/

theorem portClock_ge {d : Device} {k cls c : Nat} (h : d.portClock k cls = some c) : 2 * d.now ≤ c := by
  obtain ⟨i, -, rfl⟩ := Option.map_eq_some_iff.1 h
  omega

/-- The thread picked is one of the engine's, and ready. -/
theorem of_pickThread {d : Device} {k cls g units tk : Nat} (h : d.pickThread k cls g units = some tk) :
    tk / 256 = k ∧ d.ready tk cls g units = true := by
  have hready := List.find?_some h
  obtain ⟨i, -, rfl⟩ := List.mem_map.1 (List.mem_of_find?_eq_some h)
  exact ⟨by omega, hready⟩

/-- A thread that is ready has units left, and the next request may carry one. -/
theorem of_ready {d : Device} {tk cls g units : Nat} {x : Thread} (hx : d.thread tk = some x)
    (h : d.ready tk cls g units = true) : x.next < totalUnits x.desc ∧ 1 ≤ d.requestMax (tk / 256) x g units := by
  simp only [Device.ready, hx, Bool.and_eq_true, decide_eq_true_eq] at h
  obtain ⟨⟨⟨-, hleft⟩, -⟩, hmax⟩ := h
  exact ⟨hleft, hmax⟩

theorem availUnits_le (x : Thread) (g u n : Nat) : x.availUnits g u n ≤ n := by
  induction n generalizing u with
  | zero => exact le_rfl
  | succ n ih =>
    rw [Thread.availUnits]
    split
    · exact Nat.succ_le_succ (ih _)
    · exact Nat.zero_le _

/-- A request carries no more units than the slot, a packet, the descriptor and, of a LINK thread, the inbox have (R231). -/
theorem requestMax_le (d : Device) (k : Nat) (x : Thread) (g units : Nat) :
    d.requestMax k x g units ≤ units ∧ d.requestMax k x g units ≤ 32 ∧
    d.requestMax k x g units ≤ totalUnits x.desc - x.next ∧
    (srcKind x.desc = 4 → d.requestMax k x g units ≤ x.inbox.length) := by
  have hle {b : Nat} (hb : b ∈ [32, units, 32, runUnits x.desc - x.next % runUnits x.desc, totalUnits x.desc - x.next,
      d.creditsOf k x, dvaUnits (srcKind x.desc) (x.srcAddr x.next), dvaUnits (dstKind x.desc) (x.dstAddr x.next),
      if srcKind x.desc = 4 then x.inbox.length else 32]) : d.requestMax k x g units ≤ b :=
    (availUnits_le x g x.next _).trans (foldl_min_le_of_mem hb)
  exact ⟨hle (by simp), hle (by simp), hle (by simp), fun hlink => hle (by simp [hlink])⟩

/-! ### The issue of a request (R231, R233) -/

/-- A thread with a request of `n` units out. -/
def Thread.asked (x : Thread) (n : Nat) : Thread :=
  { x with
    next := x.next + n, reqs := x.reqs + 1, credits := x.credits.map (· - n),
    inbox := if decide (srcKind x.desc = 4) then x.inbox.drop n else x.inbox }

/-- The engine of thread `tk` has served it with a request of `n` units: its last one leaves it DRAINING. -/
def Device.asking (d : Device) (tk cls clock : Nat) (x : Thread) (n : Nat) : Device :=
  let d := d.setThread tk (some (x.asked n))
  let d := if (x.asked n).next = totalUnits x.desc then d.setThreadState tk 2 else d
  let d := { d with streams := { d.streams with served := mapPut none d.streams.served (4 * (tk / 256) + cls) (some (tk % 256)) } }
  d.takePort (tk / 256) clock

section
variable (d : Device) (tk cls clock : Nat) (x : Thread) (n : Nat)

theorem asking_only : d.asking tk cls clock x n = { d with
    regs := (d.asking tk cls clock x n).regs
    streams := { d.streams with
      threads := mapPut none d.streams.threads tk (some (x.asked n))
      port := mapPut 0 d.streams.port (tk / 256) (clock + 1)
      served := mapPut none d.streams.served (4 * (tk / 256) + cls) (some (tk % 256)) } } := by
  unfold Device.asking
  dsimp only
  split <;> rfl

theorem thread_asking : (d.asking tk cls clock x n).thread tk = some (x.asked n) := by
  rw [asking_only]
  exact mapGet_mapPut ..

theorem asking_kept :
    (d.asking tk cls clock x n).net = d.net ∧ (d.asking tk cls clock x n).lantern = d.lantern ∧
    (d.asking tk cls clock x n).queues = d.queues ∧ (d.asking tk cls clock x n).now = d.now ∧
    SameMemory d (d.asking tk cls clock x n) ∧ mapGet 0 (d.asking tk cls clock x n).streams.port (tk / 256) = clock + 1 := by
  rw [asking_only]
  exact ⟨rfl, rfl, rfl, rfl, ⟨rfl, rfl, rfl, rfl⟩, mapGet_mapPut ..⟩

theorem sameRegs_asking : SameRegs [threadReg tk] d (d.asking tk cls clock x n) := by
  intro a ha
  unfold Device.asking
  dsimp only
  split
  · exact (onlyRegs_setF (d.setThread tk (some (x.asked n))) _ _ _ _).2 a ha
  · rfl

end

section
variable {d : Device} {k cls units c tk : Nat} {x : Thread} (hport : d.portClock k cls = some c) (hdue : c / 2 ≤ d.now)
  (hpick : d.pickThread k cls (c / 2) units = some tk) (hx : d.thread tk = some x)
include hport hdue hpick hx

/-- What the next request of the thread picked carries. -/
theorem requestMax_picked :
    1 ≤ d.requestMax k x d.now units ∧ x.next + d.requestMax k x d.now units ≤ totalUnits x.desc := by
  obtain ⟨hengine, hready⟩ := of_pickThread hpick
  obtain ⟨hleft, hone⟩ := of_ready hx hready
  have hnow : c / 2 = d.now := le_antisymm hdue (by have := portClock_ge hport; omega)
  rw [hengine, hnow] at hone
  have hrest := (requestMax_le d k x d.now units).2.2.1
  exact ⟨hone, by omega⟩

variable {src dst : NetTarget} (hsrc : d.endTarget k x false x.next = some src) (hdst : d.endTarget k x true x.next = some dst)
include hsrc hdst

theorem streamIssue_link (hlink : srcKind x.desc = 4) : d.streamIssue k cls units =
    (d.asking tk cls c x (d.requestMax k x d.now units)).threadData tk x.next x.stamp dst
      (x.inbox.take (d.requestMax k x d.now units)) false true := by
  obtain ⟨rfl, -⟩ := of_pickThread hpick
  simp only [Device.streamIssue, hport, hpick, advance_past hdue, Device.issueRequest, hx, hsrc, hdst, hlink, decide_true, if_true,
    Device.asking, Thread.asked]

theorem streamIssue_read (hkind : srcKind x.desc ≠ 4) : d.streamIssue k cls units =
    (d.asking tk cls c x (d.requestMax k x d.now units)).newTxn k true .read src
      (d.requestMax k x d.now units) [] 0 (.thread tk x.next x.stamp dst) := by
  obtain ⟨rfl, -⟩ := of_pickThread hpick
  simp only [Device.streamIssue, hport, hpick, advance_past hdue, Device.issueRequest, hx, hsrc, hdst, hkind, decide_false,
    Bool.false_eq_true, if_false, Device.asking, Thread.asked]

end

/-! ### Drains (R241) -/

theorem committedBytes_setThreadState (d : Device) (tk st : Nat) :
    (d.setThreadState tk st).committedBytes tk = d.committedBytes tk :=
  regF_setF_ne d _ st (.inr (by decide))

/-- A thread in a full drain. -/
def Thread.inDrain (x : Thread) : Thread := { x with draining := true }

theorem beginDrain_running {d : Device} {tk : Nat} {x : Thread} (hx : d.thread tk = some x) (hst : d.threadState tk = 1) :
    d.beginDrain tk = ((d.setThread tk (some x.inDrain)).setThreadState tk 2).dueAt (x.drainLimit + 1) (.drain tk x.stamp) := by
  simp only [Device.beginDrain, hx, hst, true_or, if_true, Thread.inDrain]

/-- The device past the first of its drain points. -/
def Device.drainTaken (d : Device) (rest : List (Nat × List Nat)) : Device := { d with streams := { d.streams with drains := rest } }

theorem layerDrain_one {d : Device} {g tk : Nat} {rest : List (Nat × List Nat)} (h : d.streams.drains = (g, [tk]) :: rest)
    (hg : g ≤ d.now) : d.layerDrain = (d.drainTaken rest).beginDrain tk := by
  simp only [Device.layerDrain, h, advance_past hg, List.foldl_cons, List.foldl_nil, Device.drainTaken]

/-! ### Threads that are over (R224, R243) -/

section
variable {d : Device} {tk : Nat} {x : Thread} (hx : d.thread tk = some x)
include hx

theorem threadDone_settled (hst : d.threadState tk = 2) (hstop : x.stop = none) (hdrain : x.draining = false)
    (hall : totalUnits x.desc ≤ x.settled) : d.threadDone tk = (d.drainOver tk x.stamp).setThreadState tk 3 := by
  simp [Device.threadDone, hx, hst, hstop, hdrain, Nat.not_lt.2 hall]

theorem threadDone_unsettled (hleft : x.settled < totalUnits x.desc) : d.threadDone tk = d := by
  simp [Device.threadDone, hx, hleft]

section
variable (hleft : d.streams.left.find? (fun e => e.1 == tk && decide (e.2.writes = 0)) = none)
include hleft

theorem threadFinished_waits (hwrites : x.writes ≠ 0) : d.threadFinished tk = d := by
  simp [Device.threadFinished, hleft, hx, Thread.mayFinish, hwrites]

theorem threadFinished_stopped {c : StopCause} (hstop : x.stop = some c) (hwrites : x.writes = 0) :
    d.threadFinished tk = (d.finish tk x true).setThread tk none := by
  simp [Device.threadFinished, hleft, hx, Thread.mayFinish, hstop, hwrites]

end
end

/-- The device with a thread counted whose stop has left units missing (R243). -/
def Device.stopCounted (d : Device) (tk : Nat) (x : Thread) : Device :=
  let d := d.bump (Reg.steStopCnt (tk / 256)) 1
  if x.stop == some .endOrStep then d.markOwner x 52 else d

theorem finish_short {x : Thread} (hfault : x.fault = none) (hshort : x.committed < totalUnits x.desc) (d : Device) (tk : Nat) :
    d.finish tk x true = (d.stopCounted tk x).setThreadState tk 4 := by
  simp [Device.finish, hfault, hshort, Device.stopCounted]

section
variable (d : Device) (tk : Nat) (x : Thread)

theorem stopCounted_other (hstop : x.stop = some .other) : d.stopCounted tk x = d.bump (Reg.steStopCnt (tk / 256)) 1 := by
  simp [Device.stopCounted, hstop]

/-- A thread that its task's end or step has stopped short marks the task (R243, R469). -/
theorem stopCounted_endOrStep (hstop : x.stop = some .endOrStep) (hown : d.ownThread x = true) :
    d.stopCounted tk x = (d.bump (Reg.steStopCnt (tk / 256)) 1).markPoison 52 := by
  simp only [Device.stopCounted, hstop, beq_self_eq_true, if_true]
  exact if_pos hown

theorem stopCounted_only : d.stopCounted tk x = { d.bump (Reg.steStopCnt (tk / 256)) 1 with
    lantern := (d.stopCounted tk x).lantern } := by
  unfold Device.stopCounted Device.markOwner Device.markStamp
  dsimp only
  split
  · split <;> rfl
  · rfl

theorem stopCounted_effect :
    (d.stopCounted tk x).reg (Reg.steStopCnt (tk / 256)) = d.reg (Reg.steStopCnt (tk / 256)) + 1 ∧
    SameRegs [Reg.steStopCnt (tk / 256)] d (d.stopCounted tk x) ∧ SameMemory d (d.stopCounted tk x) := by
  rw [stopCounted_only]
  exact ⟨reg_bump d _ 1, (onlyRegs_bump d _ 1).2, rfl, rfl, rfl, rfl⟩

end

theorem ownThread_run {d : Device} {x : Thread} (h : d.ownThread x = true) : ∃ r, d.lantern.run = some r := by
  cases hrun : d.lantern.run with
  | none => simp [Device.ownThread, Device.ownStamp, hrun] at h
  | some r => exact ⟨r, rfl⟩

/-- POISON_CAUSE bit 52 is bit 4 of the eight (R200). -/
theorem bit_markedCause (c : BitVec 8) : bit (c ||| BitVec.ofNat 8 (2 ^ (52 - 48))) 4 = true := by
  rw [bit, BitVec.getLsbD_or]
  simp

theorem finish_stopped {d : Device} {tk : Nat} {x : Thread} (hfault : x.fault = none) (hshort : x.committed < totalUnits x.desc) :
    (d.finish tk x true).threadState tk = 4 ∧ (d.finish tk x true).committedBytes tk = d.committedBytes tk ∧
    (d.finish tk x true).reg (Reg.steStopCnt (tk / 256)) = d.reg (Reg.steStopCnt (tk / 256)) + 1 ∧
    (d.finish tk x true).lantern = (d.stopCounted tk x).lantern ∧ SameMemory d (d.finish tk x true) ∧
    SameRegs [threadReg tk, Reg.steStopCnt (tk / 256)] d (d.finish tk x true) := by
  obtain ⟨hcount, hregs, hmem⟩ := stopCounted_effect d tk x
  rw [finish_short hfault hshort]
  refine ⟨threadState_setThreadState _ tk (by decide), ?_, ?_, rfl, hmem, fun a ha => ?_⟩
  · rw [committedBytes_setThreadState]
    exact committedBytes_congr (hregs _ (by simpa using threadReg_ne_steStopCnt tk (tk / 256)))
  · rw [Device.setThreadState, reg_setF_ne _ _ _ _ (threadReg_ne_steStopCnt tk (tk / 256)).symm]
    exact hcount
  · simp only [List.mem_cons, List.not_mem_nil, or_false, not_or] at ha
    rw [Device.setThreadState, reg_setF_ne _ _ _ _ ha.1]
    exact hregs a (by simpa using ha.2)

/-- Settles O19: a request changes its thread, the engine's port and the network; a LINK thread's units go on from there; what a
drain and the two ends of a thread leave behind is said for each. -/
theorem threadsIssueDrainAndEnd : Obligations.ThreadsIssueDrainAndEnd := by
  intro s k t halive
  refine ⟨fun cls units c tk x src dst hport hdue hpick hx hsrc hdst => ⟨fun hlink => ?link, fun hkind hnew => ?read⟩,
    fun cls units c hport hnone => ?idle, fun g tk rest x hdrains hg hx hst => ?drains, fun tk x htk hx hdrain hleft =>
    ⟨fun hst hstop => ⟨fun hall => ?done, fun hmissing => ?undone⟩,
      fun hfault c hstop => ⟨fun hwrites hshort hown => ?finished, fun hwrites => ?waits⟩⟩⟩
  case idle =>
    refine completes_took (f := (·.streamIssue k cls units)) rfl halive ?_
    simp only [Device.streamIssue, hport, hnone]
  case drains =>
    refine completes_took (f := Device.layerDrain) rfl halive ?_
    rw [layerDrain_one hdrains hg, beginDrain_running (d := s.dev.drainTaken rest) hx hst]
    refine ⟨rfl, thread_setThread (s.dev.drainTaken rest) tk _, threadState_setThreadState _ tk (by decide),
      committedBytes_setThreadState _ tk 2, rfl, ⟨rfl, rfl, rfl, rfl⟩, (onlyRegs_setF (s.dev.drainTaken rest) _ _ _ _).2⟩
  case done =>
    refine completes_took (f := (·.threadDone (256 * k + t))) rfl halive ?_
    rw [← htk, threadDone_settled hx hst hstop hdrain hall]
    exact ⟨threadState_setThreadState _ tk (by decide), committedBytes_setThreadState _ tk 3, onlyRegs_setF _ _ _ _ _⟩
  case undone =>
    exact completes_took (f := (·.threadDone (256 * k + t))) rfl halive (htk ▸ threadDone_unsettled hx hmissing)
  case waits =>
    exact completes_took (f := (·.threadFinished (256 * k + t))) rfl halive (htk ▸ threadFinished_waits hx hleft hwrites)
  case finished =>
    have hk : (k : Nat) = tk / 256 := by omega
    refine completes_took (f := (·.threadFinished (256 * k + t))) rfl halive ?_
    rw [← htk, hk, threadFinished_stopped hx hleft hstop hwrites]
    obtain ⟨hstate, hbytes, hcount, hlantern, hmem, hregs⟩ := finish_stopped (d := s.dev) (tk := tk) hfault hshort
    refine ⟨thread_setThread _ tk _, hstate, hbytes, hcount, fun hc => ?_, fun hc => ?_, hmem, hregs⟩
    · subst hc
      exact hlantern.trans (by rw [stopCounted_other _ _ _ hstop]; rfl)
    · subst hc
      obtain ⟨r, hrun⟩ := ownThread_run hown
      have hmarked : (s.dev.stopCounted tk x).lantern.run =
          some { r with poisoned := true, cause := r.cause ||| BitVec.ofNat 8 (2 ^ (52 - 48)) } := by
        rw [stopCounted_endOrStep _ _ _ hstop hown]
        exact congrArg (Option.map _) hrun
      rw [setThread_only]
      dsimp only
      rw [hlantern, hmarked]
      exact congrArg some (bit_markedCause r.cause)
  all_goals
    refine completes_took (f := (·.streamIssue k cls units)) rfl halive ?_
    have hk := (of_pickThread hpick).1
    obtain ⟨hone, htotal⟩ := requestMax_picked hport hdue hpick hx
    obtain ⟨hunits, hmax, -, hinbox⟩ := requestMax_le s.dev k x s.dev.now units
  case link =>
    rw [streamIssue_link hport hdue hpick hx hsrc hdst hlink]
    generalize s.dev.requestMax k x s.dev.now units = n at *
    obtain ⟨hnet, hlantern, hqueues, hnow, hmem, hslot⟩ := asking_kept s.dev tk cls c x n
    have hgone := unitsGo_threadData tk (s.dev.asking tk cls c x n) x.next x.stamp dst (x.inbox.take n) false true
    obtain ⟨y, hy, hynext, hyinbox, hycommitted⟩ := hgone.thread _ (thread_asking s.dev tk cls c x n)
    refine ⟨n, hone, hinbox hlink, hmax, ⟨y, hy, hynext, hyinbox.trans ?_, hycommitted⟩, ?_, hgone.queues.trans hqueues,
      hmem.trans hgone.memory⟩
    · simp [Thread.asked, hlink]
    · rw [hgone.port, ← hk]
      exact hslot
  case read =>
    rw [streamIssue_read hport hdue hpick hx hsrc hdst hkind]
    generalize s.dev.requestMax k x s.dev.now units = n at *
    obtain ⟨hnet, hlantern, hqueues, hnow, hmem, hslot⟩ := asking_kept s.dev tk cls c x n
    rw [newTxn_scheduled_read (by rw [Device.txn, hnet]; exact hnew)]
    refine ⟨_, congrArg (fun m : Net => m.txns ++ [_]) hnet, rfl, rfl, rfl, rfl, rfl, hnow, rfl, hone, hmax, hunits, htotal,
      ⟨_, thread_asking s.dev tk cls c x n, rfl, rfl, rfl, rfl⟩, hk ▸ hslot, hlantern, hqueues, hmem, sameRegs_asking s.dev tk cls c x n⟩

end Sys2Proof.Machine
end

section
/-!
PROOFS. Responses, injections and timeouts (R230, R277, R285, R289, R291, R365): what is measured when a response has come, what a
read's data and an acknowledgement do, and how a packet leaves its interface or is given up.
-/
namespace Sys2Proof.Machine

open Sys2Proof

/-! ### What is measured (R291, R292) -/

theorem reg_bump_if (d : Device) (a b n : Nat) :
    (d.bump a n).reg b = if b = a then d.reg a + BitVec.ofNat 64 n else d.reg b := reg_setReg_if d a b _

theorem latencyBin_lt (v : Nat) : latencyBin v < 16 := by
  unfold latencyBin
  split <;> omega

/-- The statistics registers of initiator `i` (R291). -/
def statRegs (i : Nat) : List Nat := (List.range 32).map (fun j => Reg.sncStatBytes i + 8 * j)

theorem mem_statRegs {i a : Nat} (j : Nat) (hj : j < 32) (ha : a = Reg.sncStatBytes i + 8 * j) : a ∈ statRegs i :=
  List.mem_map.2 ⟨j, List.mem_range.2 hj, ha.symm⟩

theorem bounds_of_mem_statRegs {i a : Nat} (hi : i < 256) (ha : a ∈ statRegs i) : 0x710000 ≤ a ∧ a < 0x720000 := by
  obtain ⟨j, hj, rfl⟩ := List.mem_map.1 ha
  rw [List.mem_range] at hj
  rw [Reg.sncStatBytes]
  omega

/-- Minimum, maximum and histogram of the latencies take `v` in. -/
def Device.latencySpread (d : Device) (i v : Nat) : Device :=
  let d := if v < d.regF (Reg.sncStatLatMin i) 0 64 then d.setReg (Reg.sncStatLatMin i) (BitVec.ofNat 64 v) else d
  let d := if d.regF (Reg.sncStatLatMax i) 0 64 < v then d.setReg (Reg.sncStatLatMax i) (BitVec.ofNat 64 v) else d
  d.bump (Reg.sncStatHist i (latencyBin v)) 1

theorem statLatency_open {d : Device} (h : d.regBit Reg.sncStatCtl 0 = false) (i v : Nat) :
    d.statLatency i v = ((d.bump (Reg.sncStatLatN i) 1).bump (Reg.sncStatLatSum i) v).latencySpread i v := by
  rw [Device.statLatency, if_neg (by simp [h])]
  rfl

theorem statMoved_open {d : Device} (h : d.regBit Reg.sncStatCtl 0 = false) {i : Nat} (bytes units : Nat) :
    d.statMoved i bytes units = (d.bump (Reg.sncStatBytes i) bytes).bump (Reg.sncStatUnits i) units := by
  have hne : Reg.sncStatCtl ≠ Reg.sncStatBytes i := by
    rw [Reg.sncStatCtl, Reg.sncStatBytes]
    omega
  have h' : (d.bump (Reg.sncStatBytes i) bytes).regBit Reg.sncStatCtl 0 = false := by
    rw [Device.bump, regBit_setReg_ne d _ _ hne, h]
  simp only [Device.statMoved, Device.bumpStat, h, h', Bool.false_eq_true, if_false]

section
variable (d : Device) (i v : Nat)

theorem onlyRegs_latencySpread : OnlyRegs [Reg.sncStatLatMin i, Reg.sncStatLatMax i, Reg.sncStatHist i (latencyBin v)] d
    (d.latencySpread i v) := by
  have hset (e : Device) (c : Prop) [Decidable c] {a : Nat}
      (ha : a ∈ [Reg.sncStatLatMin i, Reg.sncStatLatMax i, Reg.sncStatHist i (latencyBin v)]) (w : Word) :
      OnlyRegs [Reg.sncStatLatMin i, Reg.sncStatLatMax i, Reg.sncStatHist i (latencyBin v)] e (if c then e.setReg a w else e) := by
    split
    · exact (OnlyRegs.refl e _).setReg ha w
    · exact OnlyRegs.refl e _
  exact ((hset d _ (by simp) _).trans (hset _ _ (by simp) _)).bump (by simp) 1

/-- A measured latency touches the statistics of its initiator alone. -/
theorem onlyRegs_statLatency : OnlyRegs (statRegs i) d (d.statLatency i v) := by
  by_cases h : d.regBit Reg.sncStatCtl 0 = true
  · rw [Device.statLatency, if_pos h]
    exact OnlyRegs.refl d _
  · rw [statLatency_open (by simpa using h)]
    refine ((OnlyRegs.refl d _).bump (mem_statRegs 2 (by decide) ?_) 1 |>.bump (mem_statRegs 5 (by decide) ?_) v).trans
      ((onlyRegs_latencySpread _ i v).mono fun a ha => ?_)
    · rw [Reg.sncStatLatN, Reg.sncStatBytes]; omega
    · rw [Reg.sncStatLatSum, Reg.sncStatBytes]; omega
    · have hbin := latencyBin_lt v
      simp only [List.mem_cons, List.not_mem_nil, or_false] at ha
      rcases ha with rfl | rfl | rfl
      · refine mem_statRegs 3 (by decide) ?_
        rw [Reg.sncStatLatMin, Reg.sncStatBytes]; omega
      · refine mem_statRegs 4 (by decide) ?_
        rw [Reg.sncStatLatMax, Reg.sncStatBytes]; omega
      · refine mem_statRegs (6 + latencyBin v) (by omega) ?_
        rw [Reg.sncStatHist, Reg.sncStatBytes]; omega

end

/-- A transaction of this device that has not been given up is measured for its initiator. -/
def Txn.measured (t : Txn) : Prop := t.purpose ≠ .nobody ∧ ∀ l tag, t.purpose ≠ .remote l tag

section
variable {t : Txn} (h : t.measured) (d : Device) (units : Nat)
include h

theorem measure_eq : d.measure t units =
    (d.statMoved t.init (64 * units) units).statLatency t.init (t.backAt.getD (2 * d.now) - t.sentAt) := by
  obtain ⟨hnobody, hremote⟩ := h
  unfold Device.measure
  split
  · exact absurd ‹_› hnobody
  · exact absurd ‹_› (hremote _ _)
  · rfl

theorem onlyRegs_measure : OnlyRegs (statRegs t.init) d (d.measure t units) := by
  rw [measure_eq h]
  refine ((onlyRegs_statMoved d _ _ _).mono fun a ha => ?_).trans (onlyRegs_statLatency _ _ _)
  simp only [List.mem_cons, List.not_mem_nil, or_false] at ha
  rcases ha with rfl | rfl
  · exact mem_statRegs 0 (by decide) rfl
  · refine mem_statRegs 1 (by decide) ?_
    rw [Reg.sncStatUnits, Reg.sncStatBytes]; omega

/-- Volume and latency, while the statistics are not frozen (R291, R293). -/
theorem reg_measure (hopen : d.regBit Reg.sncStatCtl 0 = false) :
    (d.measure t units).reg (Reg.sncStatUnits t.init) = d.reg (Reg.sncStatUnits t.init) + BitVec.ofNat 64 units ∧
    (d.measure t units).reg (Reg.sncStatBytes t.init) = d.reg (Reg.sncStatBytes t.init) + BitVec.ofNat 64 (64 * units) ∧
    (d.measure t units).reg (Reg.sncStatLatN t.init) = d.reg (Reg.sncStatLatN t.init) + 1 ∧
    (d.measure t units).reg (Reg.sncStatLatSum t.init) =
      d.reg (Reg.sncStatLatSum t.init) + BitVec.ofNat 64 (t.backAt.getD (2 * d.now) - t.sentAt) := by
  have hmoved := onlyRegs_statMoved d t.init (64 * units) units
  have hopen' : (d.statMoved t.init (64 * units) units).regBit Reg.sncStatCtl 0 = false := by
    rw [Device.regBit, hmoved.2 _ ?_]
    · exact hopen
    · simp only [List.mem_cons, List.not_mem_nil, or_false, Reg.sncStatCtl, Reg.sncStatBytes, Reg.sncStatUnits]
      omega
  rw [measure_eq h, statLatency_open hopen', statMoved_open hopen]
  generalize t.backAt.getD (2 * d.now) - t.sentAt = v
  have hspread (e : Device) {a : Nat} (ha : a < Reg.sncStatLatMin t.init ∨ a = Reg.sncStatLatSum t.init) :
      (e.latencySpread t.init v).reg a = e.reg a := by
    refine (onlyRegs_latencySpread e t.init v).2 a ?_
    simp only [List.mem_cons, List.not_mem_nil, or_false, Reg.sncStatLatMin, Reg.sncStatLatMax, Reg.sncStatHist,
      Reg.sncStatLatSum] at ha ⊢
    omega
  refine ⟨?_, ?_, ?_, ?_⟩ <;>
    rw [hspread _ (by simp [Reg.sncStatUnits, Reg.sncStatBytes, Reg.sncStatLatN, Reg.sncStatLatMin])] <;>
    simp [reg_bump_if, Reg.sncStatUnits, Reg.sncStatBytes, Reg.sncStatLatN, Reg.sncStatLatSum]

end

/-! ### Responses (R277, R282) -/

theorem txn_dropTxn (d : Device) (id : Nat) : (d.dropTxn id).txn id = none := by
  simp [Device.txn, Device.dropTxn]

section
variable {d : Device} {t : Txn} (ht : d.txn t.id = some t) (hphase : t.phase = .responded)
  (hcame : d.travels (.response t.id) = false) (hturn : ∀ v ∈ d.net.txns, d.responseBefore t v = false)
include ht hcame hturn

/-- A response that has come, with none before it on its way, is taken. -/
theorem onResponse_of_arrived (f : Device → Txn → Device) : d.onResponse t.id f = f d t := by
  have hnone : d.net.txns.any (d.responseBefore t) = false := by
    rw [List.any_eq_false]
    exact fun v hv => by simp [hturn v hv]
  simp [Device.onResponse, arriveBy_of_arrived hcame, ht, hcame, hnone]

include hphase

theorem netReadData_of_arrived (hcmd : t.cmd = .read) :
    d.netReadData t.id true = (d.measure t t.len).finishRead t t.units t.status := by
  simp only [Device.netReadData, ht, hcmd, hphase, ne_eq, not_true_eq_false, if_false, if_true]
  exact onResponse_of_arrived ht hcame hturn _

theorem netWriteAck_of_arrived (hcmd : t.cmd = .write) :
    d.netWriteAck t.id true = (d.measure t 0).finishWrite t t.status := by
  simp only [Device.netWriteAck, ht, hcmd, hphase, ne_eq, not_true_eq_false, or_false, if_true, reduceCtorEq, if_false]
  exact onResponse_of_arrived ht hcame hturn _

end

/-! ### The answer to a BAR2 read (R365, R472) -/

section
variable {us : List DUnit} (d : Device) (tag off len : Nat)

theorem answerHost_good (h : us.all (fun u => !u.pois && unitOk u) = true) : d.answerHost tag off len us =
    d.emit (.completion tag 0 (((us.map (fun u => lineBytes u.data)).flatten.drop off).take len) false) := by
  have hgood : us.any (fun u => u.pois || !unitOk u) = false := by
    rw [List.any_eq_false]
    intro u hu
    simpa using List.all_eq_true.1 h u hu
  simp only [Device.answerHost, hgood, Bool.false_eq_true, if_false]

theorem answerHost_bad (h : us.any (fun u => u.pois || !unitOk u) = true) : d.answerHost tag off len us =
    (d.bump Reg.hifPoisCplCnt 1).emit (.completion tag 0 (List.replicate len 0) true) := by
  simp only [Device.answerHost, h, if_true]

/-- An answer to the host changes one counter and what is sent. -/
theorem answerHost_kept (us : List DUnit) : SameRegs [Reg.hifPoisCplCnt] d (d.answerHost tag off len us) ∧
    (d.answerHost tag off len us).lantern = d.lantern ∧ (d.answerHost tag off len us).net = d.net ∧
    SameMemory d (d.answerHost tag off len us) := by
  unfold Device.answerHost
  dsimp only
  split
  · exact ⟨(onlyRegs_bump d _ 1).2, rfl, rfl, rfl, rfl, rfl, rfl⟩
  · exact ⟨fun _ _ => rfl, rfl, rfl, rfl, rfl, rfl, rfl⟩

end

theorem finishRead_bar2 {t : Txn} {f tag off len : Nat} (h : t.purpose = .bar2 f tag off len) (d : Device) (us : List DUnit)
    (status : Nat) : d.finishRead t us status = (d.dropTxn t.id).answerHost tag off len us := by
  simp only [Device.finishRead, h]

/-! ### The commit of a unit (R218, R230) -/

theorem noteFences_only (d : Device) (tk : Nat) :
    d.noteFences tk = { d with lantern := { d.lantern with parked := (d.noteFences tk).lantern.parked } } := by
  unfold Device.noteFences
  dsimp only
  split <;> rfl

/-- The counter of an engine for the units of a thread's class (R254). -/
def unitCounter (tk : Nat) (x : Thread) : Nat :=
  match wheelClass x.desc with
  | 0 => Reg.steRdUnitCnt (tk / 256)
  | 1 => Reg.steWrUnitCnt (tk / 256)
  | _ => Reg.steRmUnitCnt (tk / 256)

theorem threadReg_ne_unitCounter (tk : Nat) (x : Thread) : threadReg tk ≠ unitCounter tk x := by
  unfold unitCounter
  split <;> simp only [threadReg, Reg.steThread, Reg.steRdUnitCnt, Reg.steWrUnitCnt, Reg.steRmUnitCnt] <;> omega

/-- The device with 64 bytes more committed in the register of a thread, the fences that they meet, and the unit counted. -/
def Device.unitCommitted (d : Device) (tk : Nat) (x : Thread) : Device :=
  ((d.setF (threadReg tk) 0 48 (d.committedBytes tk + 64)).noteFences tk).bump (unitCounter tk x) 1

theorem unitCommitted_only (d : Device) (tk : Nat) (x : Thread) : d.unitCommitted tk x = { d with
    regs := (d.unitCommitted tk x).regs, lantern := { d.lantern with parked := (d.unitCommitted tk x).lantern.parked } } := by
  rw [Device.unitCommitted, noteFences_only]
  rfl

theorem reg_threadReg_unitCommitted (d : Device) (tk : Nat) (x : Thread) :
    (d.unitCommitted tk x).reg (threadReg tk) = putFld (d.reg (threadReg tk)) 0 48 (d.committedBytes tk + 64) := by
  rw [Device.unitCommitted, reg_bump_ne _ _ (threadReg_ne_unitCounter tk x), noteFences_only]
  exact reg_setF d (threadReg tk) 0 48 _

/-- A thread of which one unit has been committed, with its write. -/
def Thread.acked (x : Thread) : Thread :=
  { x with committed := x.committed + 1, settled := x.settled + 1, reqs := x.reqs - 1, writes := x.writes - 1 }

section
variable {d : Device} {tk : Nat} {x : Thread} (hx : d.thread tk = some x)
include hx

theorem commitUnit_self : d.commitUnit tk x.stamp =
    (d.unitCommitted tk x).setThread tk (some { x with committed := x.committed + 1, settled := x.settled + 1 }) := by
  have hx' : (d.unitCommitted tk x).thread tk = some x := by
    rw [unitCommitted_only]
    exact hx
  refine Eq.trans ?_ (mapThreadOf_self hx' fun x => { x with committed := x.committed + 1, settled := x.settled + 1 })
  simp only [Device.commitUnit, threadOf_self hx, hx, Option.elim_some, beq_self_eq_true, if_true]
  rfl

/-- The acknowledgement of a write of one unit commits it (R230). -/
theorem threadAck_one : d.threadAck tk x.stamp 1 false = (d.commitUnit tk x.stamp).setThread tk (some x.acked) := by
  have hcommitted : (d.commitUnit tk x.stamp).thread tk =
      some { x with committed := x.committed + 1, settled := x.settled + 1 } := by
    rw [commitUnit_self hx, thread_setThread]
  simp only [Device.threadAck, threadOf_self hx, Bool.false_eq_true, if_false, List.range_one, List.foldl_cons, List.foldl_nil]
  exact mapThreadOf_self hcommitted _

end

/-! ### Injection (R285, R289, R460) -/

theorem injectNext_gated {d : Device} (h : 1 < d.power) (i : Nat) : d.injectNext i = d := if_pos h

/-- The only packet that waits, of an initiator without a regulator, is injected in this gcyc. -/
theorem injectNext_free {d : Device} {t : Txn} (hpower : d.power ≤ 1) (htxns : d.net.txns = [t]) (hphase : t.phase = .waiting)
    (hinit : t.init ≠ 7) (hrate : d.regF (Reg.sncReg t.init) 0 24 = 0) : d.injectNext t.init = d.inject t.id := by
  have hat : d.injectAt t.init (64 * max t.len 1) = d.now := if_pos (.inl hrate)
  have htokens : d.takeTokens t.init (64 * max t.len 1) = d := if_pos hrate
  have hfind : d.net.txns.find? (fun u => u.init == t.init && u.phase == .waiting) = some t := by simp [htxns, hphase]
  simp only [Device.injectNext, if_neg (Nat.not_lt.2 hpower), hfind, hinit, if_false, hat, advance_past le_rfl, htokens]

/-- A request given to the network is on its way. -/
theorem travels_launchRequest (d : Device) (t : Txn) : (d.launchRequest t).travels (.request t.id) = true := by
  have hflit : ∃ k, k ≤ t.data.length := ⟨0, Nat.zero_le _⟩
  simp [Device.travels, Device.launchRequest, Device.enter, packetFlits, hflit]

theorem mapTxn_single {d : Device} {t : Txn} (htxns : d.net.txns = [t]) (u : Txn) :
    d.mapTxn t.id (fun _ => u) = { d with net := { d.net with txns := [u] } } := by
  simp [Device.mapTxn, htxns]

/-! ### Timeouts (R285) -/

/-- A dynamic read of the host whose response has not come is answered with poisoned zeros. -/
theorem timeoutTxn_bar2 {d : Device} {t : Txn} {f tag off len : Nat} (ht : d.txn t.id = some t) (hphase : t.phase = .lost)
    (hdue : t.injected + t.limit ≤ d.now) (hcmd : t.cmd = .read) (hsched : t.sched = false) (hfor : t.purpose = .bar2 f tag off len) :
    d.timeoutTxn t.id = (((d.bump Reg.sncRespTmoCnt 1).bump Reg.errUncorrCnt t.len).dropTxn t.id).answerHost tag off len
      (List.replicate t.len poisonUnit) := by
  simp only [Device.timeoutTxn, ht, hfor, hphase, advance_past hdue, hsched, hcmd, finishRead_bar2 hfor, Bool.false_eq_true,
    if_false, if_true, true_or]

/-! ### What the host sees of a read's end -/

/-- The data of a read goes to the host, with what is measured (R277, R291, R365). -/
theorem readData_effect {d : Device} {t : Txn} {f tag off len : Nat} (hinit : t.init < 256)
    (hfor : t.purpose = .bar2 f tag off len) (us : List DUnit) :
    let e := ((d.measure t t.len).dropTxn t.id).answerHost tag off len us
    e.txn t.id = none ∧ (∀ a, 0x710000 ≤ a → e.reg a = (d.measure t t.len).reg a) ∧
    (us.all (fun u => !u.pois && unitOk u) = true →
      e.out = d.out ++ [.completion tag 0 (((us.map (fun u => lineBytes u.data)).flatten.drop off).take len) false]) ∧
    (us.any (fun u => u.pois || !unitOk u) = true →
      e.out = d.out ++ [.completion tag 0 (List.replicate len 0) true] ∧
      e.reg Reg.hifPoisCplCnt = d.reg Reg.hifPoisCplCnt + 1) ∧
    e.lantern = d.lantern ∧ SameMemory d e := by
  intro e
  have hmeasured : OnlyRegs (statRegs t.init) d (d.measure t t.len) := onlyRegs_measure (by simp [Txn.measured, hfor]) d t.len
  have hcounter : (d.measure t t.len).reg Reg.hifPoisCplCnt = d.reg Reg.hifPoisCplCnt :=
    hmeasured.2 _ fun h => absurd (bounds_of_mem_statRegs hinit h).1 (by decide)
  have hout : (d.measure t t.len).out = d.out := by rw [hmeasured.1]
  obtain ⟨hregs, hlantern, hnet, hmem⟩ := answerHost_kept ((d.measure t t.len).dropTxn t.id) tag off len us
  refine ⟨?_, fun a ha => ?_, fun hgood => ?_, fun hbad => ⟨?_, ?_⟩, ?_, ?_⟩
  · rw [Device.txn, hnet]
    exact txn_dropTxn _ _
  · refine hregs a ?_
    rw [List.mem_singleton, Reg.hifPoisCplCnt]
    omega
  · simp only [e]
    rw [answerHost_good _ tag off len hgood, ← hout]
    rfl
  · simp only [e]
    rw [answerHost_bad _ tag off len hbad, ← hout]
    rfl
  · simp only [e]
    rw [answerHost_bad _ tag off len hbad, ← hcounter]
    exact reg_bump (Device.dropTxn _ _) _ 1
  · exact hlantern.trans hmeasured.lantern_eq
  · exact hmeasured.sameMemory.trans hmem

/-- The acknowledgement of a thread's write of one unit commits the unit (R230, R277, R291). -/
theorem writeAck_effect {d : Device} {t : Txn} {tk n : Nat} {dst : NetTarget} {x : Thread} (hinit : t.init < 256)
    (hfor : t.purpose = .thread tk n x.stamp dst) (hx : d.thread tk = some x) (hdata : t.data.length = 1) (hgot : t.got = [])
    (htk : tk < 1024) :
    let e := (d.measure t 0).finishWrite t 0
    e.txn t.id = none ∧ e.thread tk = some x.acked ∧
    e.reg (threadReg tk) = putFld (d.reg (threadReg tk)) 0 48 (d.committedBytes tk + 64) ∧
    e.lantern = { d.lantern with parked := e.lantern.parked } ∧ e.out = d.out ∧ SameMemory d e := by
  have hmeasured : OnlyRegs (statRegs t.init) d (d.measure t 0) := onlyRegs_measure (by simp [Txn.measured, hfor]) d 0
  have hx' : ((d.measure t 0).dropTxn t.id).thread tk = some x := by
    rw [hmeasured.1]
    exact hx
  have hreg : ((d.measure t 0).dropTxn t.id).reg (threadReg tk) = d.reg (threadReg tk) :=
    hmeasured.2 _ fun h => by
      have hbounds := (bounds_of_mem_statRegs hinit h).1
      rw [threadReg, Reg.steThread] at hbounds
      omega
  have hack : (d.measure t 0).finishWrite t 0 = ((((d.measure t 0).dropTxn t.id).unitCommitted tk x).setThread tk
      (some { x with committed := x.committed + 1, settled := x.settled + 1 })).setThread tk (some x.acked) := by
    rw [← commitUnit_self hx', ← threadAck_one hx']
    simp [Device.finishWrite, hfor, hdata, hgot]
  intro e
  refine ⟨?_, ?_, ?_, ?_, ?_, ?_⟩ <;> simp only [e, hack]
  · rw [unitCommitted_only]
    exact txn_dropTxn _ _
  · exact thread_setThread ..
  · rw [reg_setThread, reg_setThread, reg_threadReg_unitCommitted, hreg, committedBytes_congr hreg]
  all_goals rw [unitCommitted_only, hmeasured.1]
  · rfl
  · rfl
  · exact ⟨rfl, rfl, rfl, rfl⟩

/-- The end of a lost read counts its units and answers the host with zeros, poisoned (R285). -/
theorem timeout_effect {d : Device} {t : Txn} (tag off len : Nat) (hlen : 0 < t.len) :
    let e := (((d.bump Reg.sncRespTmoCnt 1).bump Reg.errUncorrCnt t.len).dropTxn t.id).answerHost tag off len
      (List.replicate t.len poisonUnit)
    e.txn t.id = none ∧ e.reg Reg.sncRespTmoCnt = d.reg Reg.sncRespTmoCnt + 1 ∧
    e.reg Reg.errUncorrCnt = d.reg Reg.errUncorrCnt + BitVec.ofNat 64 t.len ∧
    e.out = d.out ++ [.completion tag 0 (List.replicate len 0) true] ∧ e.lantern = d.lantern ∧ SameMemory d e := by
  have hbad : (List.replicate t.len poisonUnit).any (fun u => u.pois || !unitOk u) = true := by
    simp [poisonUnit, hlen.ne']
  intro e
  obtain ⟨hregs, hlantern, hnet, hmem⟩ := answerHost_kept
    (((d.bump Reg.sncRespTmoCnt 1).bump Reg.errUncorrCnt t.len).dropTxn t.id) tag off len (List.replicate t.len poisonUnit)
  refine ⟨?_, ?_, ?_, ?_, hlantern, hmem⟩
  · rw [Device.txn, hnet]
    exact txn_dropTxn _ _
  · rw [hregs _ (by decide), reg_dropTxn, reg_bump_ne _ _ (by decide), reg_bump]
    rfl
  · rw [hregs _ (by decide), reg_dropTxn, reg_bump, reg_bump_ne _ _ (by decide)]
  · simp only [e]
    rw [answerHost_bad _ tag off len hbad]
    rfl

/-- Settles O24: a response that has come in its turn ends its transaction; a packet that waits alone is injected when the clocks
run; a lost one is answered by its interface when its limit has passed. -/
theorem responsesInjectionsAndTimeouts : Obligations.ResponsesInjectionsAndTimeouts := by
  intro s t halive ht hinit
  refine ⟨fun hphase hcame hturn => ⟨fun f tag off len hcmd hfor hopen => ?data,
    fun tk n dst x hcmd hfor hx hlen hgot hstatus htk => ?ack⟩,
    fun hphase => ⟨fun hgated => ?gated, fun hpower htxns hfree hrate hcmd hdata => ?injected⟩,
    fun hphase hdue hcmd hsched f tag off len hfor hlen => ?timeout⟩
  case data =>
    refine completes_took (f := (·.netReadData t.id true)) rfl halive ?_
    rw [netReadData_of_arrived ht hphase hcame hturn hcmd, finishRead_bar2 hfor]
    obtain ⟨hunits, hbytes, hcount, hsum⟩ := reg_measure (t := t) (by simp [Txn.measured, hfor]) s.dev t.len hopen
    obtain ⟨hgone, hregs, hgood, hbad, hlantern, hmem⟩ := readData_effect (d := s.dev) hinit hfor t.units
    exact ⟨hgone, (hregs _ (by rw [Reg.sncStatUnits]; omega)).trans hunits, (hregs _ (by rw [Reg.sncStatBytes]; omega)).trans hbytes,
      (hregs _ (by rw [Reg.sncStatLatN]; omega)).trans hcount, (hregs _ (by rw [Reg.sncStatLatSum]; omega)).trans hsum,
      hgood, hbad, hlantern, hmem⟩
  case ack =>
    refine completes_took (f := (·.netWriteAck t.id true)) rfl halive ?_
    rw [netWriteAck_of_arrived ht hphase hcame hturn hcmd, hstatus]
    obtain ⟨hgone, hthread, hreg, hlantern, hout, hmem⟩ := writeAck_effect hinit hfor hx hlen hgot htk
    refine ⟨hgone, ?_, ⟨_, hthread, rfl, rfl, rfl, rfl, rfl⟩, ?_, hlantern, hout, hmem⟩
    · rw [Device.committedBytes, Device.regF, hreg, fld_putFld _ _ (by decide)]
    · rw [Device.threadState, Device.regF, hreg, fld_putFld_ne _ _ (.inl (by decide))]
      rfl
  case gated =>
    exact completes_took (f := (·.injectNext (t.init % 256))) rfl halive (injectNext_gated hgated _)
  case injected =>
    refine completes_took (f := (·.injectNext (t.init % 256))) rfl halive ?_
    rw [Nat.mod_eq_of_lt hinit, injectNext_free hpower htxns hphase hfree hrate, inject_read ht hcmd hdata, mapTxn_single htxns]
    exact ⟨rfl, ⟨_, rfl⟩, travels_launchRequest _ (t.launched s.dev), rfl, ⟨rfl, rfl, rfl, rfl⟩, rfl⟩
  case timeout =>
    refine completes_took (f := (·.timeoutTxn t.id)) rfl halive ?_
    rw [timeoutTxn_bar2 ht hphase hdue hcmd hsched hfor]
    exact timeout_effect tag off len hlen

end Sys2Proof.Machine
end

section
/-!
PROOFS. The HBM controllers (R262 - R265, R268 - R273): reads compared with the write queue, accesses that issue, reads that
return, refresh, parity alerts and replay, HBC_SUSPECT, and training with its retained record.
-/
namespace Sys2Proof.Machine

open Sys2Proof

/-! ### Registers written field by field -/

/-- A field of each of the registers `a 0`, `a 1`, ... is written: a register among the first `n` has it, the others keep
theirs. -/
theorem reg_foldl_setF_range {a : Nat → Nat} (ha : Function.Injective a) (lo w : Nat) (x : Nat → Nat) (n : Nat) (d : Device)
    (k : Nat) : ((List.range n).foldl (fun d s => d.setF (a s) lo w (x s)) d).reg (a k) =
      if k < n then putFld (d.reg (a k)) lo w (x k) else d.reg (a k) := by
  induction n with
  | zero => rfl
  | succ n ih =>
    rw [List.range_succ, List.foldl_append, List.foldl_cons, List.foldl_nil]
    by_cases hk : k = n
    · subst hk
      rw [reg_setF, ih, if_neg (lt_irrefl k), if_pos (Nat.lt_succ_self k)]
    · rw [reg_setF_ne _ _ _ _ (ha.ne hk), ih]
      exact if_congr (by omega) rfl rfl

theorem onlyRegs_foldl_setF_range (a : Nat → Nat) (lo w : Nat) (x : Nat → Nat) (n : Nat) (d : Device) :
    OnlyRegs ((List.range n).map a) d ((List.range n).foldl (fun d s => d.setF (a s) lo w (x s)) d) :=
  OnlyRegs.foldl (fun _ hs e => (OnlyRegs.refl e _).setF (List.mem_map_of_mem hs) _ _ _) d

theorem hbcStatus_injective : Function.Injective Reg.hbcStatus := fun i j h => by unfold Reg.hbcStatus at h; omega

/-! ### Units that reach a reader (R265, R269, R270) -/

theorem sameMemory_setPc (d : Device) (pk : Nat) (x : PseudoChannel) : SameMemory d (d.setPc pk x) := ⟨rfl, rfl, rfl, rfl⟩

/-- The unit delivered is there. -/
theorem got_deliver {d : Device} {id : Nat} {t : Txn} (h : d.txn id = some t) (i : Nat) (u : DUnit) :
    ((d.deliver id i u).txn id).map (fun v => mapGet none v.got i) = some (some u) := by
  have hm : (d.mapTxn id (fun t => { t with got := mapPut none t.got i (some u) })).txn id =
      some { t with got := mapPut none t.got i (some u) } := txn_mapTxn h fun _ => rfl
  unfold Device.deliver
  dsimp only
  split
  · rw [txn_answer hm, Option.map_some, mapGet_mapPut]
  · rw [hm, Option.map_some, mapGet_mapPut]

theorem pc_deliver (d : Device) (id i : Nat) (u : DUnit) (k : Nat) : (d.deliver id i u).pc k = d.pc k := by
  rw [deliver_only]
  rfl

theorem regs_deliver (d : Device) (id i : Nat) (u : DUnit) : (d.deliver id i u).regs = d.regs :=
  regs_of_net (deliver_only d id i u)

theorem reg_deliver (d : Device) (id i : Nat) (u : DUnit) (a : Nat) : (d.deliver id i u).reg a = d.reg a := by
  rw [deliver_only]
  rfl

theorem sameMemory_deliver (d : Device) (id i : Nat) (u : DUnit) : SameMemory d (d.deliver id i u) :=
  sameMemory_of_net (deliver_only d id i u)

/-! ### Reads that arrive (R265, R269) -/

section
variable {d : Device} {pk : Nat} {r : RdEntry} {t : Txn}

/-- Whether a unit's write was lost does not rest on the queues of its pseudo-channel. -/
theorem hbmLost_setPc {x : PseudoChannel} (h : x.lost = (d.pc pk).lost) (u : Nat) :
    (d.setPc pk x).hbmLost u = d.hbmLost u := by
  have hs : (d.setPc pk x).suspect (u / pcUnits) = d.suspect (u / pcUnits) := rfl
  have hl : ((d.setPc pk x).pc (u / pcUnits)).lost = (d.pc (u / pcUnits)).lost := by
    by_cases hk : u / pcUnits = pk
    · rw [hk, pc_setPc, h]
    · rw [pc_setPc_ne d x hk]
  rw [Device.hbmLost, hs, hl, Device.hbmLost]

/-- The device without the reads that have arrived at a pseudo-channel. -/
def Device.withoutArrivals (d : Device) (pk : Nat) : Device := d.setPc pk { d.pc pk with arriving := [] }

theorem pc_withoutArrivals : (d.withoutArrivals pk).pc pk = { d.pc pk with arriving := [] } := pc_setPc ..

theorem hbmLost_withoutArrivals (u : Nat) : (d.withoutArrivals pk).hbmLost u = d.hbmLost u :=
  hbmLost_setPc (x := { d.pc pk with arriving := [] }) rfl u

theorem comparePc_one (h : (d.pc pk).arriving = [r]) : d.comparePc pk = (d.withoutArrivals pk).compareRead pk r := by
  simp [Device.comparePc, h, Device.withoutArrivals]

theorem arriving_compareRead : ((d.compareRead pk r).pc pk).arriving = (d.pc pk).arriving := by
  unfold Device.compareRead
  dsimp only
  split
  · rw [pc_deliver]
  split
  · rw [pc_setPc]
  split
  · rw [pc_deliver]
    rfl
  · rw [pc_setPc]
    rfl

theorem compareRead_lost (h : d.hbmLost r.unit = true) : d.compareRead pk r = d.deliver r.txn r.index poisonUnit := by
  simp [Device.compareRead, h]

theorem compareRead_unmatched (h : d.hbmLost r.unit = false) (hy : youngest r.unit (d.pc pk).writes = none) :
    d.compareRead pk r = d.setPc pk { d.pc pk with reads := (d.pc pk).reads ++ [r] } := by
  simp [Device.compareRead, h, hy]

theorem compareRead_forwarded {w : WrEntry} (h : d.hbmLost r.unit = false) (hy : youngest r.unit (d.pc pk).writes = some w)
    (hbe : w.be = -1) :
    d.compareRead pk r = (d.bump (Reg.hbcFwdCnt (pk / 32)) 1).deliver r.txn r.index w.data := by
  simp [Device.compareRead, h, hy, hbe]

section
variable (harr : (d.pc pk).arriving = [r])
include harr

theorem arriving_comparePc : ((d.comparePc pk).pc pk).arriving = [] := by
  rw [comparePc_one harr, arriving_compareRead, pc_withoutArrivals]

theorem got_comparePc_lost (hlost : d.hbmLost r.unit = true) (ht : d.txn r.txn = some t) :
    ((d.comparePc pk).txn r.txn).map (fun u => mapGet none u.got r.index) = some (some poisonUnit) := by
  rw [comparePc_one harr, compareRead_lost ((hbmLost_withoutArrivals _).trans hlost)]
  exact got_deliver (d := d.withoutArrivals pk) ht _ _

theorem comparePc_unmatched (hlost : d.hbmLost r.unit = false) (hy : youngest r.unit (d.pc pk).writes = none) :
    ((d.comparePc pk).pc pk).reads = (d.pc pk).reads ++ [r] ∧ (d.comparePc pk).regs = d.regs := by
  have hy' : youngest r.unit ((d.withoutArrivals pk).pc pk).writes = none := by rw [pc_withoutArrivals, hy]
  rw [comparePc_one harr, compareRead_unmatched ((hbmLost_withoutArrivals _).trans hlost) hy', pc_setPc, pc_withoutArrivals]
  exact ⟨rfl, rfl⟩

theorem comparePc_forwarded {w : WrEntry} (hlost : d.hbmLost r.unit = false)
    (hy : youngest r.unit (d.pc pk).writes = some w) (hbe : w.be = -1) :
    (d.comparePc pk).reg (Reg.hbcFwdCnt (pk / 32)) = d.reg (Reg.hbcFwdCnt (pk / 32)) + 1 ∧ ∀ t, d.txn r.txn = some t →
      ((d.comparePc pk).txn r.txn).map (fun u => mapGet none u.got r.index) = some (some w.data) := by
  have hy' : youngest r.unit ((d.withoutArrivals pk).pc pk).writes = some w := by rw [pc_withoutArrivals, hy]
  rw [comparePc_one harr, compareRead_forwarded ((hbmLost_withoutArrivals _).trans hlost) hy' hbe, reg_deliver, reg_bump]
  exact ⟨rfl, fun t ht => got_deliver (d := (d.withoutArrivals pk).bump _ 1) ht _ _⟩

end

end

/-! ### Accesses that issue (R262, R264, R265, R270) -/

section
variable {d : Device} {st c pk : Nat}

theorem hbmIssue_of_not_ready (harr : (d.pc (32 * st + c)).arriving = []) (hready : d.stackReady st = false) :
    d.hbmIssue st c = d := by
  simp [Device.hbmIssue, harr, hready]

theorem hbmIssue_of_ready (harr : (d.pc (32 * st + c)).arriving = []) (hready : d.stackReady st = true) :
    d.hbmIssue st c = ((d.pc (32 * st + c)).next d.bankFree).elim d (d.issueAccess (32 * st + c)) := by
  simp only [Device.hbmIssue, harr, hready, List.isEmpty_nil, if_true, Bool.true_eq_false, if_false]
  cases (d.pc (32 * st + c)).next d.bankFree <;> rfl

/-- The only access of a pseudo-channel is a write: it is next once its bank is free. -/
theorem next_write {x : PseudoChannel} {w : WrEntry} (hw : x.writes = [w]) (hr : x.reads = []) (free : Nat → Bool) :
    x.next free = if free w.unit then some (.wr w) else none := by
  have helig : x.eligible (.wr w) = true := by simp [PseudoChannel.eligible, hw]
  have hwrites : [Access.wr w].filter Access.isWrite = [.wr w] := rfl
  cases hfree : free w.unit <;> cases hs : w.sched <;>
    simp [PseudoChannel.next, hw, hr, helig, Access.unit, hfree, Access.sched, hs, oldest, hwrites]

/-- The only access of a pseudo-channel is a read, whose bank is free: a re-read or not, it is next. -/
theorem next_read {x : PseudoChannel} {r : RdEntry} (hr : x.reads = [r]) (hw : x.writes = []) {free : Nat → Bool}
    (hfree : free r.unit = true) : x.next free = some (.rd r) := by
  have helig : x.eligible (.rd r) = true := by simp [PseudoChannel.eligible, hw]
  cases hre : r.reread <;> cases hs : r.sched <;>
    simp [PseudoChannel.next, hw, hr, hre, helig, Access.unit, hfree, Access.sched, hs, oldest, Access.isWrite]

/-- The only write of a queue reaches the stack and leaves the queue. -/
theorem issueAccess_write {w : WrEntry} (hw : (d.pc pk).writes = [w]) (hin : (d.pc pk).input = []) :
    ∃ x : PseudoChannel, x.writes = [] ∧ d.issueAccess pk (.wr w) =
      ({ d with hbm := { d.hbm with mem := d.hbm.mem.putUnit w.unit w.data } } : Device).setPc pk x := by
  simp only [Device.issueAccess, pc_setPc, hin, List.length_nil, Device.takeInputs]
  exact ⟨_, by simp [hw], rfl⟩

/-- The only read of a pseudo-channel takes what the stack holds. -/
theorem issueAccess_read {r : RdEntry} (hr : (d.pc pk).reads = [r]) (hlost : d.hbmLost r.unit = false) :
    ∃ x : PseudoChannel, x.reads = [] ∧ x.flight = (d.pc pk).flight ++ [{ r with data := d.hbm.mem.unit r.unit }] ∧
      d.issueAccess pk (.rd r) = d.setPc pk x := by
  simp only [Device.issueAccess, hlost, Bool.false_eq_true, if_false]
  exact ⟨_, by simp [hr], rfl, rfl⟩

end

/-! ### Reads that return (R270) -/

section
variable {d : Device} {st c : Nat} {r : RdEntry} {rest : List RdEntry} {t : Txn}

/-- The device once the oldest read in flight of a pseudo-channel has returned. -/
def Device.returned (d : Device) (pk : Nat) (rest : List RdEntry) : Device := d.setPc pk { d.pc pk with flight := rest }

theorem pc_returned (d : Device) (pk : Nat) (rest : List RdEntry) :
    (d.returned pk rest).pc pk = { d.pc pk with flight := rest } := pc_setPc ..

theorem sameMemory_returned (d : Device) (pk : Nat) (rest : List RdEntry) : SameMemory d (d.returned pk rest) :=
  sameMemory_setPc d pk _

theorem OnlyRegs.suspect_eq {cnts : List Nat} {d d' : Device} (h : OnlyRegs cnts d d') {pk : Nat}
    (hn : Reg.hbcSuspect (pk / 32) ∉ cnts) : d'.suspect pk = d.suspect pk := by
  rw [Device.suspect, Device.regBit, h.2 _ hn, Device.suspect, Device.regBit]

theorem hbmComplete_of_none (hf : (d.pc (32 * st + c)).flight = []) (e : Ecc) : d.hbmComplete st c e = d := by
  simp [Device.hbmComplete, hf]

section
variable (hf : (d.pc (32 * st + c)).flight = r :: rest) (hs : d.suspect (32 * st + c) = false)
include hf hs

theorem hbmComplete_clean (hre : r.reread = false) (hpois : r.data.pois = false) (hok : unitOk r.data = true) :
    d.hbmComplete st c .clean = (d.returned (32 * st + c) rest).deliver r.txn r.index r.data := by
  have hs' : (d.returned (32 * st + c) rest).suspect (32 * st + c) = false := hs
  simp only [Device.returned] at hs'
  simp [Device.hbmComplete, hf, hs', Ecc.bad, Ecc.fixed, hpois, hok, hre, Device.returned]

theorem hbmComplete_corrected (hre : r.reread = false) (hpois : r.data.pois = false) (hok : unitOk r.data = true) :
    d.hbmComplete st c .corrected =
      ((d.returned (32 * st + c) rest).corrected (Reg.hbcCorrCnt st)).deliver r.txn r.index r.data := by
  have hs' : ((d.returned (32 * st + c) rest).corrected (Reg.hbcCorrCnt st)).suspect (32 * st + c) = false :=
    ((corrected_onlyRegs (d.returned (32 * st + c) rest) _).suspect_eq (by
      simp only [Reg.hbcSuspect, Reg.hbcCorrCnt, Reg.errCorrCnt, List.mem_cons, List.not_mem_nil, or_false]
      omega)).trans hs
  simp only [Device.returned] at hs'
  simp [Device.hbmComplete, hf, hs', Ecc.bad, Ecc.fixed, hpois, hok, hre, Device.returned]

/-- A first reading that is uncorrectable puts the read before the others of its pseudo-channel. -/
theorem hbmComplete_reread (hre : r.reread = false) :
    d.hbmComplete st c .uncorrectable = (d.returned (32 * st + c) rest).setPc (32 * st + c)
      { d.pc (32 * st + c) with flight := rest, reads := { r with reread := true } :: (d.pc (32 * st + c)).reads } := by
  have hs' : (d.returned (32 * st + c) rest).suspect (32 * st + c) = false := hs
  simp only [Device.returned] at hs'
  simp [Device.hbmComplete, hf, hs', Ecc.bad, hre, Device.returned]

theorem hbmComplete_uncorrectable (hre : r.reread = true) :
    d.hbmComplete st c .uncorrectable =
      (((d.returned (32 * st + c) rest).uncorrected (Reg.hbcUncorrCnt st)).markReader r.txn).deliver r.txn r.index
        poisonUnit := by
  have hs' : (d.returned (32 * st + c) rest).suspect (32 * st + c) = false := hs
  simp only [Device.returned] at hs'
  simp [Device.hbmComplete, hf, hs', Ecc.bad, hre, Device.returned]

end

/-- A corrected word moves its counter and ERR_CORR_CNT by one. -/
theorem corrected_counts (d : Device) {cnt : Nat} (h : cnt ≠ Reg.errCorrCnt) :
    (d.corrected cnt).reg cnt = d.reg cnt + 1 ∧ (d.corrected cnt).reg Reg.errCorrCnt = d.reg Reg.errCorrCnt + 1 := by
  rw [Device.corrected, reg_bump_ne _ _ h, reg_bump, reg_bump, reg_bump_ne _ _ h.symm]
  exact ⟨rfl, rfl⟩

theorem uncorrected_counts (d : Device) {cnt : Nat} (h : cnt ≠ Reg.errUncorrCnt) :
    (d.uncorrected cnt).reg cnt = d.reg cnt + 1 ∧ (d.uncorrected cnt).reg Reg.errUncorrCnt = d.reg Reg.errUncorrCnt + 1 := by
  rw [Device.uncorrected, reg_bump_ne _ _ h, reg_bump, reg_bump, reg_bump_ne _ _ h.symm]
  exact ⟨rfl, rfl⟩

/-- Marking the task that a unit is for leaves all but the attempt. -/
theorem markReader_only (d : Device) (id : Nat) : d.markReader id = { d with lantern := (d.markReader id).lantern } := by
  unfold Device.markReader
  split <;> rfl

theorem reg_markReader (d : Device) (id a : Nat) : (d.markReader id).reg a = d.reg a := by
  rw [markReader_only]
  rfl

theorem sameMemory_markReader (d : Device) (id : Nat) : SameMemory d (d.markReader id) := by
  rw [markReader_only]
  exact ⟨rfl, rfl, rfl, rfl⟩

end

/-! ### Refresh (R263) -/

theorem nextMultiple_of_multiple {i g : Nat} (hi : 0 < i) (hg : 0 < g) (h : g % i = 0) : nextMultiple i (g - 1) = g := by
  obtain ⟨k, rfl⟩ := Nat.dvd_of_mod_eq_zero h
  have hk : 0 < k := Nat.pos_of_mul_pos_left hg
  have hdiv : (i * k - 1) / i = k - 1 := by
    rw [Nat.div_eq_iff hi]
    obtain ⟨j, rfl⟩ : ∃ j, k = j + 1 := ⟨k - 1, by omega⟩
    rw [Nat.add_sub_cancel, Nat.mul_succ, Nat.mul_comm]
    omega
  rw [nextMultiple, hdiv, Nat.sub_add_cancel hk, Nat.mul_comm]

theorem lt_nextMultiple {i : Nat} (hi : 0 < i) (g : Nat) : g < nextMultiple i g := by
  rw [nextMultiple, Nat.mul_comm]
  exact Nat.lt_mul_div_succ g hi

/-- What a map holds once the keys of a list that satisfy `P` have been written. -/
theorem mapGet_foldl_mapPut_if {α : Type} [DecidableEq α] (dflt : α) (P : Nat → Prop) [DecidablePred P] (v : Nat → α)
    (l : List Nat) (m : SMap α) (k : Nat) :
    mapGet dflt (l.foldl (fun m s => if P s then mapPut dflt m s (v s) else m) m) k =
      if k ∈ l ∧ P k then v k else mapGet dflt m k := by
  induction l generalizing m with
  | nil => simp
  | cons s l ih =>
    rw [List.foldl_cons, ih]
    by_cases hk : k ∈ l ∧ P k
    · rw [if_pos hk, if_pos ⟨List.mem_cons_of_mem _ hk.1, hk.2⟩]
    · rw [if_neg hk]
      by_cases hks : k = s
      · subst hks
        by_cases hP : P k <;> simp [hP]
      · have hput : mapGet dflt (if P s then mapPut dflt m s (v s) else m) k = mapGet dflt m k := by
          split
          · exact mapGet_mapPut_ne _ _ _ hks
          · rfl
        rw [hput, if_neg (by simpa [hks] using hk)]

/-- HBC_STATUS.HOT of every stack as the intervals `hot` are. -/
def Device.showHot (d : Device) (hot : BitVec 12) : Device :=
  (List.range 12).foldl (fun d s => d.setF (Reg.hbcStatus s) 9 1 (b2n (bit hot s))) d

theorem onlyRegs_showHot (d : Device) (hot : BitVec 12) : OnlyRegs ((List.range 12).map Reg.hbcStatus) d (d.showHot hot) :=
  onlyRegs_foldl_setF_range _ _ _ _ _ d

/-- HOT is neither TRAIN nor SELF_REF. -/
theorem stackReady_showHot (d : Device) (hot : BitVec 12) (s : Nat) : (d.showHot hot).stackReady s = d.stackReady s := by
  have hreg : (d.showHot hot).reg (Reg.hbcStatus s) =
      if s < 12 then putFld (d.reg (Reg.hbcStatus s)) 9 1 (b2n (bit hot s)) else d.reg (Reg.hbcStatus s) :=
    reg_foldl_setF_range hbcStatus_injective 9 1 (fun s => b2n (bit hot s)) 12 d s
  simp only [Device.stackReady, Device.regF, Device.regBit, hreg]
  split
  · rw [fld_putFld_ne _ _ (.inr (by decide)), bit_putFld_ne _ _ (.inl (by decide))]
    rfl
  · rfl

/-- The bank that a stack refreshes at gcyc `g`, with the interval of 81 gcyc. -/
def Device.refreshCold (d : Device) (g : Nat) (m : SMap (Option (Nat × Nat))) : SMap (Option (Nat × Nat)) :=
  (List.range 12).foldl (fun m s => if d.stackReady s = true then mapPut none m s (some (g, g / 81 % 48)) else m) m

theorem mapGet_refreshCold (d : Device) (g : Nat) (m : SMap (Option (Nat × Nat))) {n : Nat} (hn : n < 12) :
    mapGet none (d.refreshCold g m) n = if d.stackReady n = true then some (g, g / 81 % 48) else mapGet none m n := by
  rw [Device.refreshCold, mapGet_foldl_mapPut_if]
  simp [hn]

/-- With no hot stack, and none about to be, a gcyc at a multiple of 81 refreshes the stacks that are ready. -/
theorem hbmRefresh_of_cold {d : Device} (hcount : d.belfry.counting = true) (hhot : d.hbm.hot = 0) (hwant : d.hbm.wantHot = 0)
    (hlast : d.hbm.lastRefresh < d.now) (hnow : d.now % 81 = 0) :
    d.hbmRefresh = { d.showHot 0 with
      hbm := { d.hbm with hot := 0, refreshed := d.refreshCold d.now d.hbm.refreshed, lastRefresh := d.now } } := by
  rw [Device.hbmRefresh, if_neg (by simp [hcount])]
  extract_lets last cold a b g d1 hot d2 done
  have hg : g = d.now := by
    have hlt := lt_nextMultiple (i := 3888) (by decide) (d.now - 1)
    have hnext : nextMultiple 81 (d.now - 1) = d.now := nextMultiple_of_multiple (by decide) (by omega) hnow
    have hmax : last = d.now - 1 := by simp only [last]; omega
    simp only [g, a, b, cold, hmax, hhot, hwant, hnext]
    simp
    omega
  have hd1 : d1 = d := advance_past hg.le
  have hzero : hot = 0 := by simp [hot, hd1, hhot, hwant]
  have hd2 : d2 = d.showHot 0 := by simp only [d2, hd1, hzero, Device.showHot]
  have hhbm : d2.hbm = d.hbm := by rw [hd2, (onlyRegs_showHot d 0).1]
  have hdone : done = d.refreshCold d.now d.hbm.refreshed := by
    rw [Device.refreshCold, ← hhbm]
    refine List.foldl_ext _ _ _ fun m s _ => ?_
    have hbit : bit hot s = false := by simp [hzero, bit]
    simp [hbit, hg, hnow, hd2, stackReady_showHot]
  change ({ d2 with hbm := { d2.hbm with hot := hot, refreshed := done, lastRefresh := g } } : Device) = _
  rw [hhbm, hd2, hzero, hdone, hg]

/-- Of the registers those of `as` may have moved, and of the controllers only their refreshes. -/
theorem refreshed_effect {as : List Nat} {d b : Device} (h : OnlyRegs as d b) (m : SMap (Option (Nat × Nat))) (g : Nat) :
    let e : Device := { b with hbm := { d.hbm with hot := 0, refreshed := m, lastRefresh := g } }
    e.hbm.lastRefresh = g ∧ e.hbm.refreshed = m ∧ SameRegs as d e ∧ SameMemory d e := by
  obtain ⟨-, htile, hcache, hcfg⟩ := h.sameMemory
  exact ⟨rfl, rfl, h.2, rfl, htile, hcache, hcfg⟩

theorem hbmRefresh_effect {d : Device} (hcount : d.belfry.counting = true) (hhot : d.hbm.hot = 0) (hwant : d.hbm.wantHot = 0)
    (hlast : d.hbm.lastRefresh < d.now) (hnow : d.now % 81 = 0) :
    d.hbmRefresh.hbm.lastRefresh = d.now ∧ d.hbmRefresh.hbm.refreshed = d.refreshCold d.now d.hbm.refreshed ∧
    SameRegs ((List.range 12).map Reg.hbcStatus) d d.hbmRefresh ∧ SameMemory d d.hbmRefresh := by
  rw [hbmRefresh_of_cold hcount hhot hwant hlast hnow]
  exact refreshed_effect (onlyRegs_showHot d 0) _ _

/-! ### A fault record in registers (R475 - R477) -/

/-- The low field of a word whose other fields lie above it. -/
theorem fld_mkWord_low (k : Nat) {w : Nat} (hw : w ≤ 64) {fs : List (Nat × Nat)} (h : ∀ f ∈ fs, w ≤ f.1) :
    fld (mkWord ((0, k) :: fs)) 0 w = k % 2 ^ w := by
  have hsum (a : Nat) : fs.foldl (fun a f => a + f.2 * 2 ^ f.1) a % 2 ^ w = a % 2 ^ w := by
    induction fs generalizing a with
    | nil => rfl
    | cons f fs ih =>
      obtain ⟨hf, hfs⟩ := List.forall_mem_cons.1 h
      obtain ⟨j, hj⟩ := Nat.exists_eq_add_of_le hf
      rw [List.foldl_cons, ih hfs, hj, pow_add, Nat.mul_left_comm, Nat.add_mul_mod_self_left]
  rw [fld, mkWord, BitVec.toNat_ofNat, Nat.shiftRight_zero, Nat.mod_mod_of_dvd _ (Nat.pow_dvd_pow 2 hw), List.foldl_cons, hsum]
  simp

section
variable {d : Device}

/-- With no record of the present gcyc, its records begin at the count (R475). -/
theorem base_faultsNow (h : d.faultsNow.entries = []) : d.faultsNow.base = (d.reg Reg.errFrCnt).toNat := by
  unfold Device.faultsNow at h ⊢
  dsimp only at h ⊢
  split at h
  · rename_i hc
    rw [if_pos hc, ← hc.2, h, List.length_nil, Nat.add_zero]
  · rename_i hc
    rw [if_neg hc]

theorem faultsNow_congr {d' : Device} (hlog : d'.lantern.faults = d.lantern.faults)
    (hcount : d'.reg Reg.errFrCnt = d.reg Reg.errFrCnt) (hnow : d'.now = d.now) : d'.faultsNow = d.faultsNow := by
  simp only [Device.faultsNow, hlog, hcount, hnow]

theorem faultWord_injective (i : Nat) : Function.Injective (faultWord i) := fun k k' h => by
  unfold faultWord Reg.errFr at h
  omega

/-- The only record of a gcyc stands at the first index of that gcyc, word by word. -/
theorem reg_putFaults_one (d : Device) {l : FaultLog} {e : FaultEntry} (h : l.entries = [e]) {w : Nat} (hw : w < 8) :
    (d.putFaults l).reg (faultWord (l.base % 4096) w) = e.words.getD w 0 := by
  simp only [Device.putFaults, h, List.length_singleton, List.range_one, List.foldl_cons, List.foldl_nil, Nat.add_zero]
  exact reg_foldl_setReg (faultWord_injective _) (fun w => e.words.getD w 0) 8 _ hw

variable (kind unit : Nat) (f0 : List (Nat × Nat)) (f1 f2 f3 f4 f5 : Word) (g : Nat) (f7 : Word)

/-- A fault record leaves the registers of the other blocks, but for the count of discarded messages. -/
theorem reg_faultRecord_below {a : Nat} (ha : a < 0xB00000) (hne : a ≠ Reg.hifWrDiscardCnt) :
    (d.faultRecord kind unit f0 f1 f2 f3 f4 f5 g f7).reg a = d.reg a := by
  unfold Device.faultRecord
  lift_lets
  extract_lets l task first e d1 d2
  have h : d2.reg a = d.reg a := by
    have h1 : d1.reg a = d.reg a := reg_putFaults_below d _ (by omega)
    simp only [d2]
    rw [reg_setReg_ne _ _ (by unfold Reg.errFrLast; omega), reg_bump_ne _ _ (by unfold Reg.errFrCnt; omega), h1]
  clear_value d2
  split
  · rw [(msix_frame _ _ _).2 _ (by simpa using hne), h]
  · exact h

/-- The first record of a gcyc stands at the count, and its first word begins with its kind. -/
theorem kind_faultRecord (hlog : d.faultsNow.entries = []) (hf0 : ∀ f ∈ f0, 8 ≤ f.1) :
    (d.faultRecord kind unit f0 f1 f2 f3 f4 f5 g f7).regF (Reg.errFr ((d.reg Reg.errFrCnt).toNat % 4096) 0) 0 8 =
      kind % 256 := by
  unfold Device.faultRecord
  lift_lets
  extract_lets l task first e d1 d2
  have htask : ∀ f ∈ f0 ++ task, 8 ≤ f.1 := by
    intro f hf
    obtain hf | hf := List.mem_append.1 hf
    · exact hf0 f hf
    · cases hrun : d.lantern.run with
      | none =>
        obtain rfl : f = (63, 1) := by simpa [task, hrun] using hf
        decide
      | some r =>
        obtain rfl | rfl : f = (32, r.ctx) ∨ f = (48, r.slot) := by simpa [task, hrun] using hf
        · simp
        · simp
  have hword : (d.putFaults { l with entries := insertFault e l.entries }).reg
      (faultWord ((d.reg Reg.errFrCnt).toNat % 4096) 0) = mkWord ((0, kind) :: (f0 ++ task)) := by
    have hent : insertFault e l.entries = [e] := by simp only [l, hlog]; rfl
    rw [← base_faultsNow hlog]
    exact reg_putFaults_one d (l := { l with entries := insertFault e l.entries }) hent (w := 0) (by decide)
  have h : d2.regF (faultWord ((d.reg Reg.errFrCnt).toNat % 4096) 0) 0 8 = kind % 256 := by
    simp only [d2]
    rw [regF_setReg_ne _ _ _ _ (by unfold faultWord Reg.errFr Reg.errFrLast; omega), Device.bump,
      regF_setReg_ne _ _ _ _ (by unfold faultWord Reg.errFr Reg.errFrCnt; omega), Device.regF]
    exact (congrArg (fun v => fld v 0 8) hword).trans (fld_mkWord_low kind (by decide) htask)
  clear_value d2
  split
  · rw [Device.regF, (msix_frame _ _ _).2 _ (by
      rw [List.mem_singleton, Reg.errFr, Reg.hifWrDiscardCnt]
      omega)]
    exact h
  · exact h

end

theorem hbm_of_still {d d' : Device} (h : d'.still = d.still) : d'.hbm = d.hbm := 
  (congrArg Device.hbm h : d'.still.hbm = d.still.hbm)

/-! ### Parity alerts, replay and confirmation (R268, R269) -/

section
variable {d : Device} {st c : Nat}

/-- The counter of a parity alert: write data, or command and address. -/
def parityCnt (st : Nat) (wd : Bool) : Nat := if wd then Reg.hbcWdparCnt st else Reg.hbcCaparCnt st

theorem parityAlert_of_empty (h : (d.pc (32 * st + c)).retry = []) (wd : Bool) : d.parityAlert st c wd = d := by
  simp [Device.parityAlert, h]

theorem parityAlert_replays (hne : (d.pc (32 * st + c)).retry ≠ []) (hr : (d.pc (32 * st + c)).replays < 3) (wd : Bool) :
    d.parityAlert st c wd = ((d.bump (parityCnt st wd) 1).bump (Reg.hbcReplayCnt st) 1).setPc (32 * st + c)
      { d.pc (32 * st + c) with replays := (d.pc (32 * st + c)).replays + 1 } := by
  simp only [Device.parityAlert, List.isEmpty_iff, if_neg hne, if_neg (not_le.2 hr)]
  rfl

theorem parityAlert_abandons (hne : (d.pc (32 * st + c)).retry ≠ []) (hr : 3 ≤ (d.pc (32 * st + c)).replays) (wd : Bool) :
    d.parityAlert st c wd = (d.bump (parityCnt st wd) 1).abandon (32 * st + c) := by
  simp only [Device.parityAlert, List.isEmpty_iff, if_neg hne, if_pos hr]
  rfl

/-- A replay counts the alert and the replay. -/
theorem replay_counts (d : Device) (st : Nat) (wd : Bool) :
    let e := (d.bump (parityCnt st wd) 1).bump (Reg.hbcReplayCnt st) 1
    e.reg (Reg.hbcReplayCnt st) = d.reg (Reg.hbcReplayCnt st) + 1 ∧
    e.reg (Reg.hbcWdparCnt st) = d.reg (Reg.hbcWdparCnt st) + (if wd then 1 else 0) ∧
    e.reg (Reg.hbcCaparCnt st) = d.reg (Reg.hbcCaparCnt st) + (if wd then 0 else 1) ∧
    SameRegs [Reg.hbcReplayCnt st, Reg.hbcWdparCnt st, Reg.hbcCaparCnt st] d e := by
  intro e
  have hwr : Reg.hbcWdparCnt st ≠ Reg.hbcReplayCnt st := by simp [Reg.hbcWdparCnt, Reg.hbcReplayCnt]
  have hcr : Reg.hbcCaparCnt st ≠ Reg.hbcReplayCnt st := by simp [Reg.hbcCaparCnt, Reg.hbcReplayCnt]
  have hwc : Reg.hbcWdparCnt st ≠ Reg.hbcCaparCnt st := by simp [Reg.hbcWdparCnt, Reg.hbcCaparCnt]
  have hsame : OnlyRegs [Reg.hbcReplayCnt st, Reg.hbcWdparCnt st, Reg.hbcCaparCnt st] d e :=
    ((OnlyRegs.refl d _).bump (by cases wd <;> simp [parityCnt]) 1).bump (by simp) 1
  refine ⟨?_, ?_, ?_, hsame.2⟩ <;> cases wd <;>
    simp [e, parityCnt, reg_bump_ne, hwr, hwr.symm, hcr, hcr.symm, hwc, hwc.symm]

theorem loseWrite_of_none {pk : Nat} (h : (d.pc pk).lost = []) (u : Nat) :
    d.loseWrite pk u = d.setPc pk { d.pc pk with lost := [u] } := by
  simp [Device.loseWrite, h]

/-- The only unconfirmed command, a write, is abandoned: the stack keeps what it held, the unit enters the table of lost
writes, and the loss is counted and recorded. -/
theorem abandon_write {pk : Nat} {e : RetryEntry} {u : DUnit} (hretry : (d.pc pk).retry = [e]) (hold : e.old = some u)
    (hrd : e.rd = none) (hlost : (d.pc pk).lost = []) :
    ∃ b : Device, b = { d with hbm := b.hbm } ∧ (b.pc pk).retry = [] ∧ (b.pc pk).lost = [e.unit] ∧
      b.hbm.mem = d.hbm.mem.putUnit e.unit u ∧
      ∃ f1 f2 : Word, d.abandon pk = ((b.bump (Reg.hbcLostWrCnt (pk / 32)) 1).markPoison 49).faultRecord 0x31 (pk / 32)
        [(8, pk / 32), (12, pk % 32)] f1 f2 0 0 0 d.now 0 := by
  unfold Device.abandon
  extract_lets s x reads writes flying d1 d2 d3 full d4 d5
  have hreads : reads = [] := by simp [reads, x, hretry, hrd]
  have hwrites : writes = [e] := by simp [writes, x, hretry, hold]
  have hd2 : d2 = d1 := by simp [d2, flying, hreads]
  have hd3 : d3 = { d1 with hbm := { d1.hbm with mem := d1.hbm.mem.putUnit e.unit u } } := by
    simp [d3, hd2, hwrites, hold]
  have hpc : (d3.pc pk).lost = [] ∧ (d3.pc pk).retry = [] := by
    have h1 : d3.pc pk = d1.pc pk := by rw [hd3]; rfl
    simp only [h1, d1, pc_setPc, x, hlost, and_self]
  have hd4 : d4 = (d3.setPc pk { d3.pc pk with lost := [e.unit] }).bump (Reg.hbcLostWrCnt s) 1 := by
    simp only [d4, hwrites, List.foldl_cons, List.foldl_nil, loseWrite_of_none hpc.1]
  have hnow : d5.now = d.now := by simp only [d5, hd4, hd3]; rfl
  refine ⟨d3.setPc pk { d3.pc pk with lost := [e.unit] }, ?_, ?_, ?_, ?_, ?_⟩
  · rw [hd3]
    rfl
  · rw [pc_setPc, hpc.2]
  · rw [pc_setPc]
  · rw [hd3]
    rfl
  · rw [hnow]
    simp only [d5, hd4]
    exact ⟨_, _, rfl⟩

/-- The oldest unconfirmed command is confirmed. -/
theorem confirm_cons {e : RetryEntry} {rest : List RetryEntry} (h : (d.pc (32 * st + c)).retry = e :: rest) :
    d.confirm st c = d.setPc (32 * st + c) { d.pc (32 * st + c) with
      retry := rest, replays := 0,
      lost := if e.full && e.old.isSome then (d.pc (32 * st + c)).lost.filter (fun u => u != e.unit)
        else (d.pc (32 * st + c)).lost } := by
  simp only [Device.confirm, h]

/-- A confirmed whole-unit write takes its unit from the lost writes, and no other leaves them. -/
theorem confirm_effect {pk : Nat} {e : RetryEntry} {rest : List RetryEntry} (hpk : pk = 32 * st + c)
    (h : (d.pc pk).retry = e :: rest) :
    ((d.confirm st c).pc pk).retry = rest ∧ ((d.confirm st c).pc pk).replays = 0 ∧ (d.confirm st c).regs = d.regs ∧
    SameMemory d (d.confirm st c) ∧
    (e.full = true → e.old.isSome = true → e.unit ∉ ((d.confirm st c).pc pk).lost) ∧
    ∀ u ∈ (d.pc pk).lost, u ≠ e.unit → u ∈ ((d.confirm st c).pc pk).lost := by
  subst hpk
  rw [confirm_cons h, pc_setPc]
  refine ⟨rfl, rfl, rfl, sameMemory_setPc _ _ _, fun hfull hold => ?_, fun u hu hne => ?_⟩
  · simp [hfull, hold]
  · dsimp only
    split
    · exact List.mem_filter.2 ⟨hu, by simpa using hne⟩
    · exact hu

end

/-! ### HBC_SUSPECT (R269) -/

/-- The lost-write tables of the pseudo-channels of a stack that `v` names are emptied, as far as the list goes. -/
def Device.emptyTables (d : Device) (st : Nat) (v : BitVec 32) (l : List Nat) : Device :=
  l.foldl (fun d p => if bit v p then d.setPc (32 * st + p) { d.pc (32 * st + p) with lost := [] } else d) d

theorem emptyTables_only (d : Device) (st : Nat) (v : BitVec 32) (l : List Nat) :
    d.emptyTables st v l = { d with hbm := { d.hbm with pcs := (d.emptyTables st v l).hbm.pcs } } := by
  induction l generalizing d with
  | nil => rfl
  | cons p l ih =>
    rw [Device.emptyTables, List.foldl_cons, ← Device.emptyTables, ih]
    split <;> rfl

theorem pc_emptyTables (d : Device) (st : Nat) (v : BitVec 32) (l : List Nat) (p : Nat) :
    (d.emptyTables st v l).pc (32 * st + p) =
      if p ∈ l ∧ bit v p = true then { d.pc (32 * st + p) with lost := [] } else d.pc (32 * st + p) := by
  induction l generalizing d with
  | nil => simp [Device.emptyTables]
  | cons q l ih =>
    rw [Device.emptyTables, List.foldl_cons, ← Device.emptyTables, ih]
    by_cases hpq : p = q
    · subst hpq
      by_cases hv : bit v p = true <;> simp [hv]
    · have hpc : (if bit v q then d.setPc (32 * st + q) { d.pc (32 * st + q) with lost := [] } else d).pc (32 * st + p) =
          d.pc (32 * st + p) := by
        split
        · exact pc_setPc_ne d _ (by omega)
        · rfl
      simp [hpc, hpq]

/-- The bits of a write to HBC_SUSPECT that no event sets in the same clock (R16, R269). -/
def Device.suspectCleared (d : Device) (st : Nat) (v : BitVec 32) : BitVec 32 :=
  v &&& ~~~((d.raised (Reg.hbcSuspect st)).setWidth 32)

theorem bit_suspectCleared (d : Device) (st : Nat) (v : BitVec 32) {p : Nat} (hp : p < 32) :
    bit (d.suspectCleared st v) p = (bit v p && !bit (d.raised (Reg.hbcSuspect st)) p) := by
  simp [Device.suspectCleared, bit, hp]

theorem clearSuspect_eq (d : Device) (st : Nat) (v : BitVec 32) :
    d.clearSuspect st v = (d.clearBits (Reg.hbcSuspect st) ((d.suspectCleared st v).setWidth 64)).emptyTables st
      (d.suspectCleared st v) (List.range 32) := rfl

theorem suspect_at (d : Device) (st : Nat) {p : Nat} (hp : p < 32) :
    d.suspect (32 * st + p) = d.regBit (Reg.hbcSuspect st) p := by
  rw [Device.suspect, show (32 * st + p) / 32 = st by omega, show (32 * st + p) % 32 = p by omega]

/-- A pseudo-channel is SUSPECT after the write unless the write clears its bit. -/
theorem suspect_clearSuspect (d : Device) (st : Nat) (v : BitVec 32) {p : Nat} (hp : p < 32) :
    (d.clearSuspect st v).suspect (32 * st + p) = (d.suspect (32 * st + p) && !bit (d.suspectCleared st v) p) := by
  have hreg : (d.clearSuspect st v).regBit (Reg.hbcSuspect st) p =
      (d.clearBits (Reg.hbcSuspect st) ((d.suspectCleared st v).setWidth 64)).regBit (Reg.hbcSuspect st) p := by
    rw [clearSuspect_eq, emptyTables_only]
    rfl
  rw [suspect_at _ _ hp, suspect_at _ _ hp, hreg, regBit_clearBits _ _ _ (by omega)]
  have hw : bit ((d.suspectCleared st v).setWidth 64) p = bit (d.suspectCleared st v) p := by
    simp [bit, show p < 64 by omega]
  rw [hw, bit_suspectCleared _ _ _ hp]
  cases bit v p <;> cases bit (d.raised (Reg.hbcSuspect st)) p <;> rfl

/-- And its table is as it was unless the write clears its bit. -/
theorem pc_clearSuspect (d : Device) (st : Nat) (v : BitVec 32) {p : Nat} (hp : p < 32) :
    (d.clearSuspect st v).pc (32 * st + p) =
      if bit (d.suspectCleared st v) p = true then { d.pc (32 * st + p) with lost := [] } else d.pc (32 * st + p) := by
  rw [clearSuspect_eq, pc_emptyTables]
  simp [hp]
  split <;> rfl

/-- A write of 1s to HBC_SUSPECT clears what it names and no event sets in the same clock, with the tables. -/
theorem clearSuspect_effect (d : Device) (st : Nat) (v : BitVec 32) :
    (∀ p < 32,
      (bit v p = true → bit (d.raised (Reg.hbcSuspect st)) p = false →
        (d.clearSuspect st v).suspect (32 * st + p) = false ∧ ((d.clearSuspect st v).pc (32 * st + p)).lost = []) ∧
      (bit v p = false ∨ bit (d.raised (Reg.hbcSuspect st)) p = true →
        (d.clearSuspect st v).suspect (32 * st + p) = d.suspect (32 * st + p) ∧
        (d.clearSuspect st v).pc (32 * st + p) = d.pc (32 * st + p))) ∧
    SameRegs [Reg.hbcSuspect st] d (d.clearSuspect st v) ∧ SameMemory d (d.clearSuspect st v) ∧
    (d.clearSuspect st v).lantern = d.lantern := by
  refine ⟨fun p hp => ?_, ?_, ?_, ?_⟩
  · rw [suspect_clearSuspect _ _ _ hp, pc_clearSuspect _ _ _ hp, bit_suspectCleared _ _ _ hp]
    refine ⟨fun hv hraised => ?_, fun hkept => ?_⟩
    · simp [hv, hraised]
    · rcases hkept with h | h <;> simp [h]
  all_goals rw [clearSuspect_eq, emptyTables_only]
  · exact (onlyRegs_clearBits d _ _).2
  · exact (onlyRegs_clearBits d _ _).sameMemory
  · rfl

/-! ### Training (R272, R273) -/

section
variable {d : Device} {st : Nat} (hphy : d.keep.noPhy = false) (hnot : d.regF (Reg.hbcStatus st) 2 2 = 0)
include hphy hnot

theorem trained_short (hvalid : d.recordValid st = true) (hfull : d.regBit (Reg.hbcCtl st) 0 = false) :
    d.trained st .verified = d.setF (Reg.hbcStatus st) 2 2 1 := by
  simp [Device.trained, hphy, hnot, hvalid, hfull]

/-- HBC_STATUS.TRAIN and HBC_CTL.FULL_TRAIN after a full training. -/
def Device.trainedFull (d : Device) (st : Nat) (reached : Bool) : Device :=
  (d.setF (Reg.hbcStatus st) 2 2 (if reached then 2 else 3)).setF (Reg.hbcCtl st) 0 1 0

theorem trained_margins (reached : Bool) :
    d.trained st (.margins reached) = if reached then (d.trainedFull st reached).retainRecord st
      else ((d.trainedFull st reached).retainRecord st).raise (Reg.hbcSuspect st) 0xFFFFFFFF := by
  simp [Device.trained, hphy, hnot, Device.trainedFull]

end

theorem trained_again {d : Device} {st : Nat} (h : d.regF (Reg.hbcStatus st) 2 2 ≠ 0) (o : TrainOutcome) :
    d.trained st o = d := by
  simp [Device.trained, h]

/-- The record that a training retains is valid. -/
theorem recordValid_retainRecord (d : Device) (st : Nat) : (d.retainRecord st).recordValid st = true := by
  simp [Device.recordValid, Device.retainRecord, Device.chipVersion, Device.takeFree]
  rfl

theorem recordValid_congr {d d' : Device} {st : Nat} (hb : d'.belfry = d.belfry) (hid : d'.reg Reg.bfyId = d.reg Reg.bfyId) :
    d'.recordValid st = d.recordValid st := by
  simp only [Device.recordValid, Device.chipVersion, Device.regF, hb, hid]

theorem trainedFull_effect (d : Device) (st : Nat) (reached : Bool) :
    (d.trainedFull st reached).regF (Reg.hbcStatus st) 2 2 = (if reached then 2 else 3) ∧
    (d.trainedFull st reached).regBit (Reg.hbcCtl st) 0 = false ∧
    OnlyRegs [Reg.hbcStatus st, Reg.hbcCtl st] d (d.trainedFull st reached) := by
  refine ⟨?_, regBit_setF_one _ _ _ (by decide), ((OnlyRegs.refl d _).setF (by simp) _ _ _).setF (by simp) _ _ _⟩
  rw [Device.trainedFull, regF_setF_other _ _ _ _ _ _ (by simp [Reg.hbcStatus, Reg.hbcCtl]), regF_setF _ _ _ (by decide)]
  cases reached <;> rfl

/-- A full training shows its result, clears FULL_TRAIN and retains a valid record; one that does not reach the margins makes
every pseudo-channel of the stack SUSPECT. -/
theorem margins_effect {d : Device} {st : Nat} (hphy : d.keep.noPhy = false) (hnot : d.regF (Reg.hbcStatus st) 2 2 = 0)
    (reached : Bool) {e : Device} (he : e = d.trained st (.margins reached)) :
    e.regF (Reg.hbcStatus st) 2 2 = (if reached then 2 else 3) ∧ e.regBit (Reg.hbcCtl st) 0 = false ∧
    e.recordValid st = true ∧ (reached = false → ∀ p < 32, e.suspect (32 * st + p) = true) ∧
    SameRegs ([Reg.hbcStatus st, Reg.hbcCtl st] ++ (if reached then [] else [Reg.hbcSuspect st])) d e ∧ SameMemory d e := by
  obtain ⟨hstatus, hctl, honly⟩ := trainedFull_effect d st reached
  have hrec := recordValid_retainRecord (d.trainedFull st reached) st
  have hmem := honly.sameMemory
  subst he
  rw [trained_margins hphy hnot]
  cases reached with
  | true => exact ⟨hstatus, hctl, hrec, fun h => absurd h (by decide), fun a ha => honly.2 a (by simpa using ha), hmem⟩
  | false =>
    have hs : Reg.hbcStatus st ≠ Reg.hbcSuspect st := by simp [Reg.hbcStatus, Reg.hbcSuspect]
    have hc : Reg.hbcCtl st ≠ Reg.hbcSuspect st := by simp [Reg.hbcCtl, Reg.hbcSuspect]
    have hid : Reg.bfyId ≠ Reg.hbcSuspect st := by unfold Reg.bfyId Reg.hbcSuspect; omega
    refine ⟨?_, ?_, ?_, fun _ p hp => ?_, fun a ha => ?_, hmem⟩
    · rw [Device.regF, if_neg (by decide), reg_raise_ne _ _ hs]
      exact hstatus
    · rw [Device.regBit, if_neg (by decide), reg_raise_ne _ _ hc]
      exact hctl
    · exact (recordValid_congr (by rfl) (reg_raise_ne _ _ hid)).trans hrec
    · have hbits : (0xFFFFFFFF : Word) = BitVec.ofNat 64 (2 ^ 32 - 1) := rfl
      rw [suspect_at _ _ hp, Device.regBit, if_neg (by decide), reg_raise, hbits, bit, BitVec.getLsbD_or, BitVec.getLsbD_ofNat,
        Nat.testBit_two_pow_sub_one]
      simp [hp]
      omega
    · simp only [List.cons_append, List.nil_append, List.mem_cons, List.not_mem_nil, or_false, Bool.false_eq_true, if_false,
        not_or] at ha
      rw [if_neg (by decide), reg_raise_ne _ _ ha.2.2]
      exact honly.2 a (by simp [ha.1, ha.2.1])

/-! ### The commands complete -/

section
variable {s : State} {st : Fin 12} {c : Fin 32} {pk : Nat} (ha : s.dev.alive = true) (hpk : pk = 32 * st + c)
include ha hpk

/-- HBM_ACCESS_ISSUE of the only write of a pseudo-channel, whose bank is free. -/
theorem issue_write_completes (harr : (s.dev.pc pk).arriving = []) (hready : s.dev.stackReady st = true) {w : WrEntry}
    (hw : (s.dev.pc pk).writes = [w]) (hr : (s.dev.pc pk).reads = []) (hin : (s.dev.pc pk).input = [])
    (hbank : s.dev.bankFree w.unit = true) :
    Completes (.hbmAccessIssue st c) s (fun d =>
      (d.pc pk).writes = [] ∧ d.hbm.mem.unit w.unit = w.data ∧
      (∀ u, u ≠ w.unit → d.hbm.mem.unit u = s.dev.hbm.mem.unit u) ∧
      d.regs = s.dev.regs ∧ d.tile = s.dev.tile ∧ d.streams = s.dev.streams ∧ d.cfgMem = s.dev.cfgMem ∧
      d.lantern = s.dev.lantern) := by
  subst hpk
  obtain ⟨x, hx, hissue⟩ := issueAccess_write hw hin
  refine completes_took (f := (·.hbmIssue st c)) rfl ha ?_
  rw [hbmIssue_of_ready harr hready, next_write hw hr, if_pos hbank, Option.elim_some, hissue]
  refine ⟨?_, unit_putUnit _ _ _, fun u hu => unit_putUnit_ne _ _ hu, rfl, rfl, rfl, rfl, rfl⟩
  rw [pc_setPc, hx]

/-- HBM_ACCESS_ISSUE of the only read of a pseudo-channel, whose bank is free. -/
theorem issue_read_completes (harr : (s.dev.pc pk).arriving = []) (hready : s.dev.stackReady st = true) {r : RdEntry}
    (hr : (s.dev.pc pk).reads = [r]) (hw : (s.dev.pc pk).writes = []) (hbank : s.dev.bankFree r.unit = true)
    (hlost : s.dev.hbmLost r.unit = false) :
    Completes (.hbmAccessIssue st c) s (fun d =>
      (d.pc pk).reads = [] ∧ (d.pc pk).flight = (s.dev.pc pk).flight ++ [{ r with data := s.dev.hbm.mem.unit r.unit }] ∧
      SameMemory s.dev d ∧ d.regs = s.dev.regs ∧ d.lantern = s.dev.lantern) := by
  subst hpk
  obtain ⟨x, hreads, hflight, hissue⟩ := issueAccess_read hr hlost
  refine completes_took (f := (·.hbmIssue st c)) rfl ha ?_
  rw [hbmIssue_of_ready harr hready, next_read hr hw hbank, Option.elim_some, hissue, pc_setPc]
  exact ⟨hreads, hflight, sameMemory_setPc _ _ _, rfl, rfl⟩

section
variable {r : RdEntry} {rest : List RdEntry} {t : Txn} (hf : (s.dev.pc pk).flight = r :: rest)
  (hs : s.dev.suspect pk = false) (ht : s.dev.txn r.txn = some t)
include hf hs

include ht in
theorem readComplete_clean_completes (hre : r.reread = false) (hpois : r.data.pois = false) (hok : unitOk r.data = true) :
    Completes (.hbmReadComplete st c .clean) s (fun d =>
      (d.txn r.txn).map (fun u => mapGet none u.got r.index) = some (some r.data) ∧ (d.pc pk).flight = rest ∧
      d.regs = s.dev.regs ∧ SameMemory s.dev d) := by
  subst hpk
  refine completes_took (f := (·.hbmComplete st c .clean)) rfl ha ?_
  rw [hbmComplete_clean hf hs hre hpois hok, pc_deliver, pc_returned]
  exact ⟨got_deliver (d := s.dev.returned _ rest) ht _ _, rfl, regs_deliver _ _ _ _,
    (sameMemory_returned _ _ _).trans (sameMemory_deliver _ _ _ _)⟩

include ht in
theorem readComplete_corrected_completes (hre : r.reread = false) (hpois : r.data.pois = false) (hok : unitOk r.data = true) :
    Completes (.hbmReadComplete st c .corrected) s (fun d =>
      (d.txn r.txn).map (fun u => mapGet none u.got r.index) = some (some r.data) ∧ (d.pc pk).flight = rest ∧
      d.reg (Reg.hbcCorrCnt st) = s.dev.reg (Reg.hbcCorrCnt st) + 1 ∧
      d.reg Reg.errCorrCnt = s.dev.reg Reg.errCorrCnt + 1 ∧
      SameRegs [Reg.hbcCorrCnt st, Reg.errCorrCnt] s.dev d ∧ SameMemory s.dev d) := by
  subst hpk
  have hne : Reg.hbcCorrCnt st ≠ Reg.errCorrCnt := by unfold Reg.hbcCorrCnt Reg.errCorrCnt; omega
  obtain ⟨hcorr, herr⟩ := corrected_counts (s.dev.returned (32 * st + c) rest) hne
  refine completes_took (f := (·.hbmComplete st c .corrected)) rfl ha ?_
  rw [hbmComplete_corrected hf hs hre hpois hok, pc_deliver, reg_deliver, reg_deliver]
  refine ⟨got_deliver (d := (s.dev.returned _ rest).corrected _) ht _ _, ?_, hcorr, herr, fun a ha => ?_,
    (sameMemory_returned _ _ _).trans ((corrected_onlyRegs _ _).sameMemory.trans (sameMemory_deliver _ _ _ _))⟩
  · exact congrArg PseudoChannel.flight (pc_returned s.dev _ rest)
  · rw [reg_deliver]
    exact (corrected_onlyRegs (s.dev.returned _ rest) _).2 a ha

theorem readComplete_reread_completes (hre : r.reread = false) :
    Completes (.hbmReadComplete st c .uncorrectable) s (fun d =>
      (d.pc pk).reads = { r with reread := true } :: (s.dev.pc pk).reads ∧ (d.pc pk).flight = rest ∧ d.net = s.dev.net ∧
      d.regs = s.dev.regs ∧ SameMemory s.dev d) := by
  subst hpk
  refine completes_took (f := (·.hbmComplete st c .uncorrectable)) rfl ha ?_
  rw [hbmComplete_reread hf hs hre, pc_setPc]
  exact ⟨rfl, rfl, rfl, rfl, sameMemory_setPc (s.dev.returned _ rest) _ _⟩

include ht in
theorem readComplete_uncorrectable_completes (hre : r.reread = true) :
    Completes (.hbmReadComplete st c .uncorrectable) s (fun d =>
      (d.txn r.txn).map (fun u => mapGet none u.got r.index) = some (some poisonUnit) ∧ (d.pc pk).flight = rest ∧
      d.reg (Reg.hbcUncorrCnt st) = s.dev.reg (Reg.hbcUncorrCnt st) + 1 ∧
      d.reg Reg.errUncorrCnt = s.dev.reg Reg.errUncorrCnt + 1 ∧
      SameRegs [Reg.hbcUncorrCnt st, Reg.errUncorrCnt] s.dev d ∧ SameMemory s.dev d) := by
  subst hpk
  have hne : Reg.hbcUncorrCnt st ≠ Reg.errUncorrCnt := by unfold Reg.hbcUncorrCnt Reg.errUncorrCnt; omega
  obtain ⟨huncorr, herr⟩ := uncorrected_counts (s.dev.returned (32 * st + c) rest) hne
  refine completes_took (f := (·.hbmComplete st c .uncorrectable)) rfl ha ?_
  rw [hbmComplete_uncorrectable hf hs hre, pc_deliver, reg_deliver, reg_deliver, reg_markReader, reg_markReader]
  refine ⟨got_deliver (by rw [markReader_only]; exact ht) _ _, ?_, huncorr, herr, fun a ha => ?_,
    (sameMemory_returned _ _ _).trans ((uncorrected_onlyRegs _ _).sameMemory.trans
      ((sameMemory_markReader _ _).trans (sameMemory_deliver _ _ _ _)))⟩
  · rw [markReader_only]
    exact congrArg PseudoChannel.flight (pc_returned s.dev _ rest)
  · rw [reg_deliver, reg_markReader]
    exact (uncorrected_onlyRegs (s.dev.returned _ rest) _).2 a ha

end

/-- PARITY_ALERT after three failed replays of a write. -/
theorem parityAlert_abandon_completes (wd : Bool) {e : RetryEntry} {u : DUnit} (hretry : (s.dev.pc pk).retry = [e])
    (hr : 3 ≤ (s.dev.pc pk).replays) (hold : e.old = some u) (hrd : e.rd = none) (hlost : (s.dev.pc pk).lost = [])
    (hlog : s.dev.faultsNow.entries = []) :
    Completes (.parityAlert st c wd) s (fun d =>
      (d.pc pk).retry = [] ∧ (d.pc pk).lost = [e.unit] ∧ d.hbm.mem.unit e.unit = u ∧
      (∀ v, v ≠ e.unit → d.hbm.mem.unit v = s.dev.hbm.mem.unit v) ∧
      d.reg (Reg.hbcLostWrCnt st) = s.dev.reg (Reg.hbcLostWrCnt st) + 1 ∧
      d.reg Reg.errFrCnt = s.dev.reg Reg.errFrCnt + 1 ∧
      d.regF (Reg.errFr ((s.dev.reg Reg.errFrCnt).toNat % 4096) 0) 0 8 = 0x31) := by
  subst hpk
  have hst : (32 * st.val + c.val) / 32 = st := by omega
  have hcnt : Reg.errFrCnt ≠ parityCnt st wd := by
    cases wd <;> simp only [parityCnt, Reg.errFrCnt, Reg.hbcWdparCnt, Reg.hbcCaparCnt, if_true, Bool.false_eq_true, if_false] <;>
      omega
  have hlostCnt : Reg.hbcLostWrCnt st ≠ parityCnt st wd := by
    cases wd <;> simp [parityCnt, Reg.hbcLostWrCnt, Reg.hbcWdparCnt, Reg.hbcCaparCnt]
  have hfrLost : Reg.errFrCnt ≠ Reg.hbcLostWrCnt st := by unfold Reg.errFrCnt Reg.hbcLostWrCnt; omega
  obtain ⟨b, hb, hbretry, hblost, hbmem, f1, f2, habandon⟩ :=
    abandon_write (d := s.dev.bump (parityCnt st wd) 1) hretry hold hrd hlost
  have hbreg (a : Nat) : b.reg a = (s.dev.bump (parityCnt st wd) 1).reg a := by rw [hb]; rfl
  obtain ⟨m, hm⟩ : ∃ m, m = (b.bump (Reg.hbcLostWrCnt st) 1).markPoison 49 := ⟨_, rfl⟩
  have hmcount : m.reg Reg.errFrCnt = s.dev.reg Reg.errFrCnt := by
    rw [hm, reg_markPoison, reg_bump_ne _ _ hfrLost, hbreg, reg_bump_ne _ _ hcnt]
  have hmlog : m.faultsNow.entries = [] := by
    rw [faultsNow_congr (d := s.dev) (by rw [hm, hb]; rfl) hmcount (by rw [hm, hb]; rfl), hlog]
  refine completes_took (f := (·.parityAlert st c wd)) rfl ha ?_
  rw [parityAlert_abandons (by rw [hretry]; exact List.cons_ne_nil _ _) hr, habandon, hst, ← hm]
  have hhbm (f0 : List (Nat × Nat)) (g : Nat) : (m.faultRecord 0x31 st f0 f1 f2 0 0 0 g 0).hbm = b.hbm :=
    (hbm_of_still (still_faultRecord ..)).trans (by rw [hm]; rfl)
  refine ⟨?_, ?_, ?_, fun v hv => ?_, ?_, ?_, ?_⟩
  · rw [Device.pc, hhbm]
    exact hbretry
  · rw [Device.pc, hhbm]
    exact hblost
  · rw [hhbm, hbmem]
    exact unit_putUnit _ _ _
  · rw [hhbm, hbmem]
    exact unit_putUnit_ne _ _ hv
  · rw [reg_faultRecord_below _ _ _ _ _ _ _ _ _ _ (by unfold Reg.hbcLostWrCnt; omega)
      (by unfold Reg.hbcLostWrCnt Reg.hifWrDiscardCnt; omega), hm, reg_markPoison, reg_bump, hbreg, reg_bump_ne _ _ hlostCnt]
    rfl
  · rw [reg_faultRecord_count, hmcount]
  · rw [← hmcount]
    exact kind_faultRecord _ _ _ _ _ _ _ _ _ _ hmlog (by simp)

end

/-- Settles O21: an arrived read goes by the loss of its write and the youngest match; an access issues by readiness, bank and
queue; a returned read goes by what SECDED found and whether it was read before; and refresh, parity, SUSPECT and training each
change what they name. -/
theorem hbmStacksServeRefreshAndTrain : Obligations.HbmStacksServeRefreshAndTrain := by
  refine ⟨fun s st c pk x ha hpk hx => ?serves, fun s st c pk x ha hpk hx => ?keeps⟩
  case serves =>
    subst hx
    have hst : pk / 32 = st := by omega
    refine ⟨fun r harr d hd => ⟨?compared, fun hlost t ht => ?lost, fun hlost hy hown => ?queued,
        fun hlost w hy hbe _ => ?forwarded⟩,
      fun harr hready => ?notReady,
      fun harr hready => ⟨fun w hw hr hbank => ?bankBusy,
        fun w hw hr hin hbank => issue_write_completes ha hpk harr hready hw hr hin hbank,
        fun r hr hw hbank hlost => issue_read_completes ha hpk harr hready hr hw hbank hlost⟩,
      fun hf e => ?noneInFlight,
      fun r rest t hf hs ht => ⟨fun hre hpois hok => ⟨readComplete_clean_completes ha hpk hf hs ht hre hpois hok,
        readComplete_corrected_completes ha hpk hf hs ht hre hpois hok⟩,
        readComplete_reread_completes ha hpk hf hs, readComplete_uncorrectable_completes ha hpk hf hs ht⟩⟩
    case compared => rw [hd, arriving_comparePc harr]
    case lost => rw [hd, got_comparePc_lost harr hlost ht]
    case queued =>
      rw [hown] at hy
      rw [hd]
      exact comparePc_unmatched harr hlost hy
    case forwarded =>
      rw [hd, ← hst]
      exact comparePc_forwarded harr hlost hy hbe
    all_goals subst hpk
    case notReady => exact completes_took (f := (·.hbmIssue st c)) rfl ha (hbmIssue_of_not_ready harr hready)
    case bankBusy =>
      refine completes_took (f := (·.hbmIssue st c)) rfl ha ?_
      rw [hbmIssue_of_ready harr hready, next_write hw hr, if_neg (by simp [hbank]), Option.elim_none]
    case noneInFlight => exact completes_took (f := (·.hbmComplete st c e)) rfl ha (hbmComplete_of_none hf e)
  case keeps =>
    subst hx
    refine ⟨fun hcount hhot hwant hlast hnow => ?refresh,
      fun wd => ⟨fun hretry => ?noCommand, fun hne hr => ?replay,
        fun e u hretry hr hold hrd hlost hlog => parityAlert_abandon_completes ha hpk wd hretry hr hold hrd hlost hlog⟩,
      fun e rest hretry => ?confirm, fun v => ?suspect, ?retain,
      fun hphy hnot => ⟨fun hvalid hfull => ?short, fun reached => ?margins⟩, fun hdone o => ?again⟩
    case refresh =>
      refine completes_took (f := Device.hbmRefresh) rfl ha ?_
      obtain ⟨hlastNow, hrefreshed, hregs, hmem⟩ := hbmRefresh_effect hcount hhot hwant hlast hnow
      refine ⟨hlastNow, fun n hn => ?_, hregs, hmem⟩
      have hget := mapGet_refreshCold s.dev s.dev.now s.dev.hbm.refreshed hn
      rw [hrefreshed]
      exact ⟨fun hready => hget.trans (if_pos hready), fun hready => hget.trans (if_neg (by simp [hready]))⟩
    case noCommand =>
      subst hpk
      exact completes_took (f := (·.parityAlert st c wd)) rfl ha (parityAlert_of_empty hretry wd)
    case replay =>
      subst hpk
      refine completes_took (f := (·.parityAlert st c wd)) rfl ha ?_
      rw [parityAlert_replays hne hr]
      obtain ⟨hreplay, hwdpar, hcapar, hsame⟩ := replay_counts s.dev st wd
      exact ⟨pc_setPc .., hreplay, hwdpar, hcapar, hsame, ⟨rfl, rfl, rfl, rfl⟩⟩
    case confirm => exact completes_took (f := (·.confirm st c)) rfl ha (confirm_effect hpk hretry)
    case suspect => exact completes_took (f := (·.clearSuspect st v)) rfl ha (clearSuspect_effect s.dev st v)
    case retain =>
      exact completes_took (f := (·.clrRetain st)) rfl ha ⟨mapGet_mapPut .., fun n hn => mapGet_mapPut_ne _ _ _ hn, rfl⟩
    case short =>
      refine completes_took (f := (·.trained st .verified)) rfl ha ?_
      rw [trained_short hphy hnot hvalid hfull]
      exact ⟨regF_setF _ _ _ (by decide), onlyRegs_setF _ _ _ _ _⟩
    case margins => exact completes_took (f := (·.trained st (.margins reached))) rfl ha (margins_effect hphy hnot reached rfl)
    case again => exact completes_took (f := (·.trained st o)) rfl ha (trained_again hdone o)

end Sys2Proof.Machine
end

section
/-!
PROOFS. The power states (R263, R271, R335, R459 - R462): what each entry, each wake and the idle timer leave in PWR_STATUS, in the
links and in the controllers; and what a stack's temperature asks for.
-/
namespace Sys2Proof.Machine

open Sys2Proof

/-! ### PWR_STATUS (R467) -/

theorem power_setPower (d : Device) {x : Nat} (h : x < 8) : (d.setPower x).power = x := by
  rw [Device.power, Device.setPower, regF_setF _ _ _ (by decide)]
  exact Nat.mod_eq_of_lt h

theorem power_congr {d d' : Device} (h : d'.reg Reg.pwrStatus = d.reg Reg.pwrStatus) : d'.power = d.power := by
  rw [Device.power, Device.regF, h, Device.power, Device.regF]

theorem regBit_congr {d d' : Device} {a : Nat} (h : d'.reg a = d.reg a) (i : Nat) : d'.regBit a i = d.regBit a i := by
  rw [Device.regBit, h, Device.regBit]

theorem regBit_setPower (d : Device) {a : Nat} (x i : Nat) (h : a ≠ Reg.pwrStatus) :
    (d.setPower x).regBit a i = d.regBit a i := regBit_setF_other d _ _ _ _ h

/-- A request for Standby shows, and the state stays. -/
theorem standbyReq_effect {d : Device} (h3 : d.power ≠ 3) (h5 : d.power ≠ 5) :
    d.standbyReq.regBit Reg.pwrStatus 13 = true ∧ d.standbyReq.power = d.power ∧ OnlyRegs [Reg.pwrStatus] d d.standbyReq := by
  have heq : d.standbyReq = d.setF Reg.pwrStatus 13 1 1 := by
    rw [Device.standbyReq, if_neg (by simp [h3, h5])]
    rfl
  rw [heq]
  exact ⟨regBit_setF_one _ _ _ (by decide), regF_setF_ne _ _ _ (.inr (by decide)), onlyRegs_setF _ _ _ _ _⟩

/-! ### Links that change state (R314, R335) -/

/-- Of the registers, only those at the offsets `as` may differ; besides, only the links do. -/
def LinksOnly (as : List Nat) (d d' : Device) : Prop :=
  d' = { d with regs := d'.regs, links := d'.links } ∧ SameRegs as d d'

namespace LinksOnly
variable {as bs : List Nat} {d d' d'' : Device}

theorem refl (as : List Nat) (d : Device) : LinksOnly as d d := ⟨rfl, fun _ _ => rfl⟩

theorem trans (h : LinksOnly as d d') (h' : LinksOnly as d' d'') : LinksOnly as d d'' :=
  ⟨by rw [h'.1, h.1], fun a ha => (h'.2 a ha).trans (h.2 a ha)⟩

theorem mono (h : LinksOnly as d d') (hs : ∀ a ∈ as, a ∈ bs) : LinksOnly bs d d' :=
  ⟨h.1, fun a ha => h.2 a fun hx => ha (hs a hx)⟩

theorem of_onlyRegs (h : OnlyRegs as d d') : LinksOnly as d d' := ⟨by rw [h.1], h.2⟩

theorem setF (h : LinksOnly as d d') {a : Nat} (ha : a ∈ as) (lo w x : Nat) : LinksOnly as d (d'.setF a lo w x) :=
  h.trans (of_onlyRegs ((OnlyRegs.refl d' as).setF ha lo w x))

theorem mapLink (h : LinksOnly as d d') (n : Nat) (f : Link → Link) : LinksOnly as d (d'.mapLink n f) :=
  h.trans ⟨rfl, fun _ _ => rfl⟩

theorem foldl {α : Type} {l : List α} {f : Device → α → Device} (h : ∀ x ∈ l, ∀ e, LinksOnly as e (f e x))
    (d : Device) : LinksOnly as d (l.foldl f d) := by
  induction l generalizing d with
  | nil => exact refl as d
  | cons x l ih =>
    obtain ⟨hx, hl⟩ := List.forall_mem_cons.1 h
    exact (hx d).trans (ih hl _)

theorem sameMemory (h : LinksOnly as d d') : SameMemory d d' := by
  rw [h.1]
  exact ⟨rfl, rfl, rfl, rfl⟩

/-- The parts other than registers and links that claims name. -/
theorem parts (h : LinksOnly as d d') : d'.streams = d.streams ∧ d'.hbm = d.hbm ∧ d'.tile = d.tile ∧ d'.cfgMem = d.cfgMem ∧
    d'.belfry = d.belfry ∧ d'.lantern = d.lantern := by
  rw [h.1]
  exact ⟨rfl, rfl, rfl, rfl, rfl, rfl⟩

end LinksOnly

/-- TUR_LINK_STATUS of every link. -/
def linkStatusRegs : List Nat := (List.range 64).map Reg.turLinkStatus

theorem turLinkStatus_injective : Function.Injective Reg.turLinkStatus := fun i j h => by
  unfold Reg.turLinkStatus at h
  omega

theorem mem_linkStatusRegs {n : Nat} (h : n < 64) : Reg.turLinkStatus n ∈ linkStatusRegs :=
  List.mem_map_of_mem (List.mem_range.2 h)

theorem not_mem_linkStatusRegs {a : Nat} (h : a < 0x800000 ∨ 0x900000 ≤ a) : a ∉ linkStatusRegs := fun hm => by
  obtain ⟨n, hn, rfl⟩ := List.mem_map.1 hm
  have := List.mem_range.1 hn
  unfold Reg.turLinkStatus at h
  omega

theorem hbcStatus_not_mem_linkStatusRegs {k : Nat} (h : k < 12) : Reg.hbcStatus k ∉ linkStatusRegs :=
  not_mem_linkStatusRegs (.inl (by unfold Reg.hbcStatus; omega))

theorem pwrStatus_not_mem_linkStatusRegs : Reg.pwrStatus ∉ linkStatusRegs := not_mem_linkStatusRegs (.inr (by decide))

theorem linksOnly_toLinkState (d : Device) (n st : Nat) : LinksOnly [Reg.turLinkStatus n] d (d.toLinkState n st) := by
  unfold Device.toLinkState
  extract_lets d1 l d2 d3 d4
  have hd3 : LinksOnly [Reg.turLinkStatus n] d d3 := by
    have hd1 : LinksOnly [Reg.turLinkStatus n] d d1 := .of_onlyRegs (onlyRegs_setFs d _ _)
    simp only [d3]
    split
    · exact (hd1.trans (d'' := d2) ⟨rfl, fun _ _ => rfl⟩).mapLink _ _
    · exact .refl _ d
  have hd4 : LinksOnly [Reg.turLinkStatus n] d d4 := hd3.setF (List.mem_singleton_self _) _ _ _
  clear_value d4
  split
  · exact (hd4.setF (List.mem_singleton_self _) _ _ _).mapLink _ _
  split
  · exact hd4.mapLink _ _
  · exact hd4

/-- A link that goes to DOWN is DOWN. -/
theorem linkState_toLinkState_down (d : Device) (n : Nat) : (d.toLinkState n 0).linkState n = 0 := by
  unfold Device.toLinkState
  extract_lets d1 l d2 d3 d4
  have hd4 : d4.regF (Reg.turLinkStatus n) 0 4 = 0 := by
    simp only [d4]
    rw [regF_setF _ _ _ (by decide), Nat.zero_mod]
  rw [if_pos (by decide), Device.linkState, Device.regF, reg_mapLink, ← Device.regF, regF_setF_ne _ _ _ (.inr (by decide)), hd4]

theorem linkState_toLinkState_ne (d : Device) {n m : Nat} (st : Nat) (h : m ≠ n) :
    (d.toLinkState n st).linkState m = d.linkState m := by
  rw [Device.linkState, Device.regF, (linksOnly_toLinkState d n st).2 _ (by simpa using turLinkStatus_injective.ne h)]
  rfl

theorem linkState_foldl_down (l : List Nat) (d : Device) {n : Nat} (h : n ∈ l ∨ d.linkState n = 0) :
    (l.foldl (fun d n => d.toLinkState n 0) d).linkState n = 0 := by
  induction l generalizing d with
  | nil => simpa using h
  | cons m l ih =>
    refine ih _ ?_
    by_cases hm : n = m
    · subst hm
      exact .inr (linkState_toLinkState_down d n)
    · rw [linkState_toLinkState_ne d 0 hm]
      simpa [hm] using h

theorem linkState_downLinks (d : Device) {n : Nat} (h : n < 64) : d.downLinks.linkState n = 0 :=
  linkState_foldl_down _ d (.inl (List.mem_range.2 h))

theorem linksOnly_downLinks (d : Device) : LinksOnly linkStatusRegs d d.downLinks :=
  .foldl (fun n hn e => (linksOnly_toLinkState e n 0).mono (by simpa using mem_linkStatusRegs (List.mem_range.1 hn))) d

theorem linksOnly_startLinks (d : Device) : LinksOnly linkStatusRegs d d.startLinks := by
  refine .foldl (fun n hn e => ?_) d
  rw [Device.startLink]
  split
  · exact (linksOnly_toLinkState e n 1).mono (by simpa using mem_linkStatusRegs (List.mem_range.1 hn))
  · exact .refl _ e

/-! ### Keep-alive (R335) -/

/-- Keep-alive of the first `k` links follows their states before the command. -/
theorem foldl_keepAlive (d : Device) (on : Bool) (k : Nat) :
    (List.range k).foldl (fun e n => e.setF (Reg.turLinkStatus n) 48 1 (b2n (on && decide (e.linkState n = 5)))) d =
      (List.range k).foldl (fun e n => e.setF (Reg.turLinkStatus n) 48 1 (b2n (on && decide (d.linkState n = 5)))) d := by
  induction k with
  | zero => rw [List.range_zero, List.foldl_nil, List.foldl_nil]
  | succ k ih =>
    have hreg := reg_foldl_setF_range turLinkStatus_injective 48 1 (fun n => b2n (on && decide (d.linkState n = 5))) k d k
    rw [if_neg (lt_irrefl k)] at hreg
    rw [List.range_succ, List.foldl_append, List.foldl_append, ih, List.foldl_cons, List.foldl_cons, List.foldl_nil,
      List.foldl_nil, Device.linkState, Device.regF, hreg]
    rfl

theorem keepAlive_eq (d : Device) (on : Bool) : d.keepAlive on = (List.range 64).foldl
    (fun e n => e.setF (Reg.turLinkStatus n) 48 1 (b2n (on && decide (d.linkState n = 5)))) d := foldl_keepAlive d on 64

theorem onlyRegs_keepAlive (d : Device) (on : Bool) : OnlyRegs linkStatusRegs d (d.keepAlive on) := by
  rw [keepAlive_eq]
  exact onlyRegs_foldl_setF_range _ _ _ _ _ d

theorem reg_keepAlive (d : Device) (on : Bool) {n : Nat} (h : n < 64) : (d.keepAlive on).reg (Reg.turLinkStatus n) =
    putFld (d.reg (Reg.turLinkStatus n)) 48 1 (b2n (on && decide (d.linkState n = 5))) := by
  rw [keepAlive_eq, reg_foldl_setF_range turLinkStatus_injective, if_pos h]

theorem linkState_keepAlive (d : Device) (on : Bool) {n : Nat} (h : n < 64) : (d.keepAlive on).linkState n = d.linkState n := by
  rw [Device.linkState, Device.regF, reg_keepAlive d on h, fld_putFld_ne _ _ (.inr (by decide))]
  rfl

theorem regBit_keepAlive (d : Device) (on : Bool) {n : Nat} (h : n < 64) :
    (d.keepAlive on).regBit (Reg.turLinkStatus n) 48 = (on && decide (d.linkState n = 5)) := by
  rw [Device.regBit, reg_keepAlive d on h, bit_putFld, if_pos (by decide), Nat.sub_self, testBit_b2n]

/-! ### Self-refresh (R271) -/

/-- With no write waiting at an input, the queues are drained once. -/
theorem drainAll_of_noInput {d : Device} (h : ∀ e ∈ d.hbm.pcs, e.2.input = []) (fuel : Nat) :
    d.drainAll fuel = d.drainWrites := by
  cases fuel with
  | zero => rfl
  | succ fuel =>
    have hins : d.drainWrites.hbm.pcs.filter (fun e => !e.2.input.isEmpty) = [] := by
      rw [List.filter_eq_nil_iff]
      intro e he
      obtain ⟨f, hf, hfe⟩ := List.mem_filterMap.1 he
      dsimp only at hfe
      split at hfe
      · cases hfe
      · obtain rfl := Option.some.inj hfe
        simp [h f hf]
    simp only [Device.drainAll, hins, List.isEmpty_nil, if_true]

/-- HBC_STATUS.SELF_REF of every stack. -/
def Device.showSelfRefresh (d : Device) (on : Bool) : Device :=
  (List.range 12).foldl (fun d s => d.setF (Reg.hbcStatus s) 8 1 (b2n on)) d

theorem onlyRegs_showSelfRefresh (d : Device) (on : Bool) :
    OnlyRegs ((List.range 12).map Reg.hbcStatus) d (d.showSelfRefresh on) := onlyRegs_foldl_setF_range _ _ _ _ _ d

theorem regBit_showSelfRefresh (d : Device) (on : Bool) {k : Nat} (h : k < 12) :
    (d.showSelfRefresh on).regBit (Reg.hbcStatus k) 8 = on := by
  rw [Device.regBit, Device.showSelfRefresh, reg_foldl_setF_range hbcStatus_injective 8 1 (fun _ => b2n on), if_pos h, bit_putFld,
    if_pos (by decide), Nat.sub_self, testBit_b2n]

theorem not_mem_hbcStatusRegs {a : Nat} (h : 0x700000 ≤ a) : a ∉ (List.range 12).map Reg.hbcStatus := fun hm => by
  obtain ⟨n, hn, rfl⟩ := List.mem_map.1 hm
  have := List.mem_range.1 hn
  unfold Reg.hbcStatus at h
  omega

theorem selfRefresh_on {d : Device} (h : ∀ e ∈ d.hbm.pcs, e.2.input = []) :
    d.selfRefresh true = d.drainWrites.showSelfRefresh true := by
  rw [Device.selfRefresh, if_pos rfl, drainAll_of_noInput h, Device.showSelfRefresh]

theorem selfRefresh_off (d : Device) : d.selfRefresh false = d.showSelfRefresh false := rfl

/-! ### Entries (R335, R460, R461) -/

theorem runWake_of_none {d : Device} (h : d.belfry.wake = none) : d.runWake = d := by simp [Device.runWake, h]

theorem standbyEntry_of_busy {d : Device} (h : d.lantern.tasks ≠ [] ∨ d.load.isSome = true) : d.standbyEntry = d := by
  rcases h with h | h
  · simp [Device.standbyEntry, h]
  · simp [Device.standbyEntry, Option.isSome_iff_ne_none.1 h]

/-- Entry to Standby begins: the request is taken, and every link goes to DOWN. -/
theorem standbyEntry_effect {d : Device} (hreq : d.regBit Reg.pwrStatus 13 = true) (hpower : d.power ≤ 1)
    (htasks : d.lantern.tasks = []) (hrun : d.lantern.run = none) (hload : d.load = none) :
    d.standbyEntry.power = 5 ∧ d.standbyEntry.regBit Reg.pwrStatus 13 = false ∧ d.standbyEntry.belfry.enterFrom = d.now ∧
    d.standbyEntry.belfry.wake = none ∧ (∀ n < 64, d.standbyEntry.linkState n = 0) ∧ d.standbyEntry.lantern = d.lantern ∧
    SameMemory d d.standbyEntry := by
  obtain ⟨b, hb⟩ : ∃ b, b = ((d.setPwrBit 13 false).setPower 5).mapBelfry
      (fun b => { b with enterFrom := d.now, wake := none }) := ⟨_, rfl⟩
  have heq : d.standbyEntry = b.downLinks := by simp [Device.standbyEntry, hreq, hpower, htasks, hrun, hload, hb]
  obtain ⟨hdown, hregs⟩ := linksOnly_downLinks b
  have hstatus := hregs _ pwrStatus_not_mem_linkStatusRegs
  have hbit : ((d.setPwrBit 13 false).setPower 5).regBit Reg.pwrStatus 13 = false :=
    (regBit_setF_outside _ _ _ (.inr (by decide))).trans (regBit_setF_one _ _ _ (by decide))
  have hmem := (linksOnly_downLinks b).sameMemory
  rw [heq]
  refine ⟨(power_congr hstatus).trans ?_, (regBit_congr hstatus 13).trans ?_, ?_, ?_,
    fun n hn => linkState_downLinks b hn, ?_, ?_⟩
  · rw [hb]
    exact power_setPower _ (by decide)
  · rw [hb]
    exact hbit
  · rw [hdown, hb]
    rfl
  · rw [hdown, hb]
    rfl
  · rw [hdown, hb]
    rfl
  · rw [hb] at hmem ⊢
    exact hmem

section
variable {d : Device} (hwake : d.belfry.wake = none) (hin : ∀ e ∈ d.hbm.pcs, e.2.input = [])
include hwake hin

/-- Cold: the stacks are in self-refresh, ACTIVE links in keep-alive. -/
theorem coldEntered_effect (hpower : d.power = 4) :
    d.coldEntered.power = 2 ∧ (∀ k < 12, d.coldEntered.regBit (Reg.hbcStatus k) 8 = true) ∧
    d.coldEntered.hbm = d.drainWrites.hbm ∧
    (∀ n < 64, d.coldEntered.linkState n = d.linkState n ∧
      d.coldEntered.regBit (Reg.turLinkStatus n) 48 = decide (d.linkState n = 5)) ∧ d.coldEntered.lantern = d.lantern := by
  obtain ⟨b, hb⟩ : ∃ b, b = d.drainWrites.showSelfRefresh true := ⟨_, rfl⟩
  obtain ⟨hshow, hshowRegs⟩ := onlyRegs_showSelfRefresh d.drainWrites true
  obtain ⟨hkeep, hkeepRegs⟩ := onlyRegs_keepAlive b true
  rw [← hb] at hshow hshowRegs
  have heq : d.coldEntered = (b.keepAlive true).setPower 2 := by
    rw [Device.coldEntered, if_pos hpower, selfRefresh_on hin, ← hb]
    refine runWake_of_none ?_
    rw [Device.setPower, setF_belfry, hkeep, hshow]
    exact hwake
  have hstate (n : Nat) (hn : n < 64) : b.linkState n = d.linkState n := by
    rw [Device.linkState, Device.regF, hshowRegs _ (not_mem_hbcStatusRegs (by unfold Reg.turLinkStatus; omega))]
    rfl
  rw [heq]
  refine ⟨power_setPower _ (by decide), fun k hk => ?_, ?_, fun n hn => ⟨?_, ?_⟩, ?_⟩
  · rw [regBit_setPower _ _ _ (by unfold Reg.hbcStatus Reg.pwrStatus; omega),
      regBit_congr (hkeepRegs _ (hbcStatus_not_mem_linkStatusRegs hk)), hb, regBit_showSelfRefresh _ _ hk]
  · rw [Device.setPower, setF_hbm, hkeep, hshow]
  · rw [← hstate n hn, ← linkState_keepAlive b true hn]
    exact regF_setF_other _ _ _ _ _ _ (by unfold Reg.turLinkStatus Reg.pwrStatus; omega)
  · rw [regBit_setPower _ _ _ (by unfold Reg.turLinkStatus Reg.pwrStatus; omega), regBit_keepAlive _ _ hn, hstate n hn,
      Bool.true_and]
  · rw [Device.setPower, setF_lantern, hkeep, hshow]
    rfl

/-- Standby: the stacks are in self-refresh. -/
theorem standbyEntered_effect (hpower : d.power = 5) :
    d.standbyEntered.power = 3 ∧ (∀ k < 12, d.standbyEntered.regBit (Reg.hbcStatus k) 8 = true) ∧
    d.standbyEntered.hbm = d.drainWrites.hbm ∧ d.standbyEntered.lantern = d.lantern := by
  obtain ⟨b, hb⟩ : ∃ b, b = d.drainWrites.showSelfRefresh true := ⟨_, rfl⟩
  obtain ⟨hshow, -⟩ := onlyRegs_showSelfRefresh d.drainWrites true
  rw [← hb] at hshow
  have heq : d.standbyEntered = b.setPower 3 := by
    rw [Device.standbyEntered, if_pos hpower, selfRefresh_on hin, ← hb]
    refine runWake_of_none ?_
    rw [Device.setPower, setF_belfry, hshow]
    exact hwake
  rw [heq]
  refine ⟨power_setPower _ (by decide), fun k hk => ?_, ?_, ?_⟩
  · rw [regBit_setPower _ _ _ (by unfold Reg.hbcStatus Reg.pwrStatus; omega), hb, regBit_showSelfRefresh _ _ hk]
  · rw [Device.setPower, setF_hbm, hshow]
  · rw [Device.setPower, setF_lantern, hshow]
    rfl

end

/-! ### Wakes (R459 - R461) -/

/-- A wake to Warm from Cold and from Standby takes its full time. -/
theorem requestWake_warm_effect {d : Device} (h : d.power = 2 ∨ d.power = 3) :
    let e := d.requestWake false
    e.power = 6 ∧ e.reg Reg.pwrWakeCnt = d.reg Reg.pwrWakeCnt + 1 ∧
    e.belfry.wake = some {
      toRun := false, done := some (d.now + if d.power = 2 then 20000 else 2000000), standby := decide (d.power = 3) } ∧
    SameRegs [Reg.pwrStatus, Reg.pwrWakeCnt] d e ∧ SameMemory d e ∧ e.lantern = d.lantern := by
  have htime : wakeTime d.power = if d.power = 2 then 20000 else 2000000 := by rcases h with h | h <;> rw [h] <;> rfl
  have hsame := (requestWake_frame d false).2
  intro e
  simp only [e] at hsame ⊢
  rw [requestWake_low false h, htime] at hsame ⊢
  refine ⟨power_setPower (d.bump Reg.pwrWakeCnt 1) (by decide), ?_, rfl, hsame, ⟨rfl, rfl, rfl, rfl⟩, rfl⟩
  exact (reg_setF_ne (d.bump Reg.pwrWakeCnt 1) _ _ _ (by decide)).trans (reg_bump d _ 1)

/-- The two commands that ask for a wake to Warm, where the pins are the core's. -/
theorem wake_command {c : Instr} {s : State} (hc : c ∈ [Instr.pwrCtlWake, Instr.smbusWake])
    (hpins : c = .smbusWake → s.dev.pinsTaken = false) :
    ∃ f : Device → Device, exec c s = took s f ∧ f s.dev = s.dev.requestWake false := by
  obtain rfl | rfl : c = .pwrCtlWake ∨ c = .smbusWake := by simpa using hc
  · exact ⟨(·.requestWake false), rfl, rfl⟩
  · exact ⟨(·.pinEvent (·.requestWake false)), rfl, if_neg (by simp [hpins rfl])⟩

theorem requestWake_of_awake {d : Device} (h : d.power ≤ 1) : d.requestWake false = d := by
  obtain h | h : d.power = 0 ∨ d.power = 1 := by omega
  · exact requestWake_run false h
  · exact requestWake_warm h

/-- A wake to Warm whose stacks are not in self-refresh. -/
theorem wakeDone_warm_effect {d : Device} {g : Nat} (hpower : d.power = 6)
    (hwake : d.belfry.wake = some { toRun := false, done := some g, standby := false }) (hg : g ≤ d.now)
    (hself : d.regBit (Reg.hbcStatus 0) 8 = false) :
    d.wakeDone.power = 1 ∧ d.wakeDone.belfry.wake = none ∧ d.wakeDone.now = d.now ∧ d.wakeDone.lantern = d.lantern ∧
    OnlyRegs [Reg.pwrStatus] { d with belfry := d.wakeDone.belfry } d.wakeDone := by
  obtain ⟨b, hb⟩ : ∃ b, b = (d.mapBelfry (fun b => { b with wake := none })).setPower 1 := ⟨_, rfl⟩
  have hstay : b.returnCold = b := by
    rw [Device.returnCold, if_neg]
    rw [hb, regBit_setPower _ _ _ (by decide)]
    exact (Bool.not_eq_true _).mpr hself
  have heq : d.wakeDone = b.armIdle b.now := by
    simp only [Device.wakeDone, hwake, hpower, ne_eq, not_true_eq_false, if_false, advance_past hg, Bool.false_eq_true,
      ← hb, hstay]
  obtain ⟨x, hx⟩ : ∃ x, b.armIdle b.now = { b with belfry := { b.belfry with idleFrom := x } } :=
    ⟨_, armIdle_only b b.now⟩
  rw [heq, hx, hb]
  exact ⟨power_setPower _ (by decide), rfl, rfl, rfl, rfl, (onlyRegs_setF _ _ _ _ _).2⟩

theorem chooseStart_of_none {d : Device} (h : d.lantern.run = none) (w : Nat) : d.chooseStart w = d := by
  simp [Device.chooseStart, h]

@[simp] theorem reg_clearCache (d : Device) (a : Nat) : d.clearCache.reg a = d.reg a := rfl

/-- The return from Cold: the stacks leave self-refresh, the stream cache is cleared, links leave keep-alive or come up. -/
theorem returnCold_effect {d : Device} (hself : d.regBit (Reg.hbcStatus 0) 8 = true) :
    (∀ k < 12, d.returnCold.regBit (Reg.hbcStatus k) 8 = false) ∧ d.returnCold.reg Reg.pwrStatus = d.reg Reg.pwrStatus ∧
    d.returnCold.streams.cache = Store.initial ∧ d.returnCold.hbm = d.hbm ∧ d.returnCold.tile = d.tile ∧
    d.returnCold.cfgMem = d.cfgMem ∧ d.returnCold.belfry = d.belfry ∧ d.returnCold.lantern = d.lantern := by
  obtain ⟨b, hb⟩ : ∃ b, b = d.showSelfRefresh false := ⟨_, rfl⟩
  have heq : d.returnCold = (b.clearCache.keepAlive false).startLinks := by
    rw [Device.returnCold, if_pos hself, selfRefresh_off, hb]
  have hshow : LinksOnly ((List.range 12).map Reg.hbcStatus) d b := by
    rw [hb]
    exact .of_onlyRegs (onlyRegs_showSelfRefresh d false)
  have hlinks : LinksOnly linkStatusRegs b.clearCache (b.clearCache.keepAlive false).startLinks :=
    (LinksOnly.of_onlyRegs (onlyRegs_keepAlive _ false)).trans (linksOnly_startLinks _)
  obtain ⟨-, hhbm, htile, hcfg, hbelfry, hlantern⟩ := hshow.parts
  obtain ⟨hstreams', hhbm', htile', hcfg', hbelfry', hlantern'⟩ := hlinks.parts
  rw [heq, hstreams', hhbm', htile', hcfg', hbelfry', hlantern']
  refine ⟨fun k hk => ?_, ?_, rfl, hhbm, htile, hcfg, hbelfry, hlantern⟩
  · rw [regBit_congr ((hlinks.2 _ (hbcStatus_not_mem_linkStatusRegs hk)).trans (reg_clearCache b _)), hb]
    exact regBit_showSelfRefresh d false hk
  · rw [hlinks.2 _ pwrStatus_not_mem_linkStatusRegs, reg_clearCache]
    exact hshow.2 _ (not_mem_hbcStatusRegs (by decide))

/-- A wake to Run with the stacks in self-refresh, and no task that waits for it. -/
theorem wakeDone_run_effect {d : Device} {g : Nat} (hpower : d.power = 6)
    (hwake : d.belfry.wake = some { toRun := true, done := some g, standby := false }) (hg : g ≤ d.now)
    (hrun : d.lantern.run = none) (hself : d.regBit (Reg.hbcStatus 0) 8 = true) :
    d.wakeDone.power = 0 ∧ d.wakeDone.belfry.wake = none ∧ (∀ k < 12, d.wakeDone.regBit (Reg.hbcStatus k) 8 = false) ∧
    d.wakeDone.streams.cache = Store.initial ∧ d.wakeDone.hbm = d.hbm ∧ d.wakeDone.tile = d.tile ∧
    d.wakeDone.cfgMem = d.cfgMem := by
  obtain ⟨b, hb⟩ : ∃ b, b = (d.mapBelfry (fun b => { b with wake := none })).setPower 0 := ⟨_, rfl⟩
  have hbself : b.regBit (Reg.hbcStatus 0) 8 = true := by
    rw [hb, regBit_setPower _ _ _ (by decide)]
    exact hself
  obtain ⟨hsref, hstatus, hcache, hhbm, htile, hcfg, hbelfry, hlantern⟩ := returnCold_effect hbself
  have heq : d.wakeDone = b.returnCold := by
    simp only [Device.wakeDone, hwake, hpower, ne_eq, not_true_eq_false, if_false, if_true, advance_past hg, Bool.false_eq_true,
      ← hb]
    refine chooseStart_of_none ?_ _
    rw [hlantern, hb]
    exact hrun
  rw [heq]
  refine ⟨(power_congr hstatus).trans ?_, ?_, hsref, hcache, hhbm.trans ?_, htile.trans ?_, hcfg.trans ?_⟩
  · rw [hb]
    exact power_setPower _ (by decide)
  · rw [hbelfry, hb]
    rfl
  all_goals rw [hb]; rfl

/-! ### The idle timer (R23, R460) -/

/-- With no evaluation to come, nothing becomes READY in a gcyc that has come. -/
theorem readyFirst_of_quiet {d : Device} {g : Nat} (hg : g ≤ d.now) (hevals : d.lantern.evals = []) : d.readyFirst g = d := by
  have hnone : d.waitingTasks.filter (d.evalDue d.now) = [] := by
    rw [List.filter_eq_nil_iff]
    intro t _
    simp [Device.evalDue, hevals]
  rw [Device.readyFirst, advance_past hg, Device.evaluateDue, hnone]
  simp only [hevals, List.filter_nil, List.foldl_nil]
  rw [← hevals]

section
variable {d : Device} {g : Nat} (hidle : d.idleSince = some g) (hevals : d.lantern.evals = [])
include hidle hevals

theorem idleWarm_of_due (hpower : d.power = 0) (hon : d.regF Reg.pwrIdle 0 32 ≠ 0)
    (hdue : g + d.regF Reg.pwrIdle 0 32 ≤ d.now) :
    d.idleWarm = d.setPower 1 := by
  simp only [Device.idleWarm, hidle, if_pos (And.intro hpower hon), readyFirst_of_quiet hdue hevals, if_true]

theorem idleCold_of_due (hpower : d.power = 1) (hon : d.regF Reg.pwrIdle 32 32 ≠ 0)
    (hdue : g + d.regF Reg.pwrIdle 0 32 + 1000 * d.regF Reg.pwrIdle 32 32 ≤ d.now) :
    d.idleCold = { d.setPower 4 with belfry := { d.belfry with enterFrom := d.now } } := by
  simp only [Device.idleCold, hidle, if_pos (And.intro hpower hon), readyFirst_of_quiet hdue hevals, if_true]

end

/-! ### Temperatures, alerts and holds (R263, R462, R466) -/

/-- Besides registers at the offsets `as`, only the note of the bits that events have just set may differ. -/
def RaisedOnly (as : List Nat) (d d' : Device) : Prop :=
  d' = { d with regs := d'.regs, justSet := d'.justSet } ∧ SameRegs as d d'

theorem raisedOnly_alert (d : Device) (i : Nat) (b : Bool) : RaisedOnly [Reg.pwrAlert] d (d.alert i b) := by
  cases b with
  | false => exact ⟨rfl, fun _ _ => rfl⟩
  | true => exact ⟨rfl, fun a ha => reg_raise_ne d _ (by simpa using ha)⟩

theorem regBit_alert (d : Device) {i : Nat} (h : i < 64) : (d.alert i true).regBit Reg.pwrAlert i = true := by
  rw [Device.alert, if_pos rfl, Device.regBit, reg_raise, bit, BitVec.getLsbD_or, BitVec.getLsbD_ofNat]
  simp [h]

/-- The number of holds that begin. -/
def Device.newHolds (d : Device) : Nat :=
  ((List.range 5).filter (fun i => d.holds.getD i false && !d.regBit Reg.pwrStatus (8 + i))).length

/-- PWR_STATUS with the holds in force. -/
def Device.showHolds (d : Device) : Device := d.setF Reg.pwrStatus 8 5 (d.holds.foldr (fun b a => b2n b + 2 * a) 0)

theorem evalHolds_eq (d : Device) : d.evalHolds =
    if d.newHolds = 0 then d.showHolds else (d.showHolds.bump Reg.pwrHoldCnt d.newHolds).raise Reg.pwrAlert 1 := rfl

theorem raisedOnly_evalHolds (d : Device) : RaisedOnly [Reg.pwrAlert, Reg.pwrStatus, Reg.pwrHoldCnt] d d.evalHolds := by
  rw [evalHolds_eq]
  have hshow : OnlyRegs [Reg.pwrAlert, Reg.pwrStatus, Reg.pwrHoldCnt] d d.showHolds := (OnlyRegs.refl d _).setF (by simp) _ _ _
  split
  · exact ⟨rfl, hshow.2⟩
  · refine ⟨rfl, fun a ha => ?_⟩
    rw [reg_raise_ne _ _ (List.ne_of_not_mem_cons ha)]
    exact (hshow.bump (by simp) _).2 a ha

/-- PWR_STATUS shows the hold of the stacks. -/
theorem regBit_evalHolds_stacks (d : Device) : d.evalHolds.regBit Reg.pwrStatus 9 = d.holds.getD 1 false := by
  have hreg : d.evalHolds.reg Reg.pwrStatus = d.showHolds.reg Reg.pwrStatus := by
    rw [evalHolds_eq]
    split
    · rfl
    · rw [reg_raise_ne _ _ (by decide), reg_bump_ne _ _ (by decide)]
  have hbits : ∀ a b c e f : Bool, ([a, b, c, e, f].foldr (fun b a => b2n b + 2 * a) 0).testBit 1 = b := by decide
  rw [Device.regBit, hreg, Device.showHolds, reg_setF, bit_putFld, if_pos (by decide), Device.holds]
  exact hbits _ _ _ _ _

theorem regBit_evalHolds_alert {d : Device} {i : Nat} (h : d.regBit Reg.pwrAlert i = true) :
    d.evalHolds.regBit Reg.pwrAlert i = true := by
  have hshow : d.showHolds.reg Reg.pwrAlert = d.reg Reg.pwrAlert := reg_setF_ne _ _ _ _ (by decide)
  rw [evalHolds_eq]
  split
  · rw [regBit_congr hshow, h]
  · rw [Device.regBit, reg_raise, reg_bump_ne _ _ (by decide), hshow, bit, BitVec.getLsbD_or]
    rw [Device.regBit, bit] at h
    rw [h, Bool.true_or]

/-- A stack at 95 °C holds, whether or not the hold was in force. -/
theorem stackHold_of_hot {d : Device} {k : Nat} (hk : k < 12) (h : 95 ≤ d.regF (Reg.hbcStatus k) 24 8) :
    d.holds.getD 1 false = true := by
  have hmem : d.regF (Reg.hbcStatus k) 24 8 ∈ d.stackTemps := List.mem_map.2 ⟨k, List.mem_range.2 hk, rfl⟩
  have hany (x : Nat) (hx : x ≤ 95) : d.stackTemps.any (fun t => decide (x ≤ t)) = true :=
    List.any_eq_true.2 ⟨_, hmem, by simp; omega⟩
  change (if d.regBit Reg.pwrStatus 9 then d.stackTemps.any (fun t => decide (91 ≤ t))
    else d.stackTemps.any (fun t => decide (95 ≤ t))) = true
  split
  · exact hany 91 (by decide)
  · exact hany 95 (by decide)

/-- The stacks for which an interval of 40 gcyc is asked for after stack `s` has read `temp` (R263). -/
def hotAfter (w : BitVec 12) (s : Nat) (temp : BitVec 8) : BitVec 12 :=
  if 85 ≤ temp.toNat then putFld w s 1 1 else if temp.toNat < 80 then putFld w s 1 0 else w

theorem bit_hotAfter_hot (w : BitVec 12) {s : Nat} (hs : s < 12) {temp : BitVec 8} (h : 85 ≤ temp.toNat) :
    bit (hotAfter w s temp) s = true := by
  rw [hotAfter, if_pos h, bit_putFld, if_pos (by omega), Nat.sub_self]
  rfl

theorem bit_hotAfter_cool (w : BitVec 12) {s : Nat} (hs : s < 12) {temp : BitVec 8} (h : temp.toNat < 80) :
    bit (hotAfter w s temp) s = false := by
  rw [hotAfter, if_neg (by omega), if_pos h, bit_putFld, if_pos (by omega), Nat.sub_self]
  rfl

/-- The device with a reading entered, before alert and holds follow it. -/
def Device.readTemp (d : Device) (s : Nat) (temp : BitVec 8) : Device :=
  { d.setF (Reg.hbcStatus s) 24 8 temp.toNat with hbm := { d.hbm with wantHot := hotAfter d.hbm.wantHot s temp } }

theorem stackTemp_eq (d : Device) (s : Nat) (temp : BitVec 8) :
    d.stackTemp s temp = ((d.readTemp s temp).alert 6 (decide (95 ≤ temp.toNat))).evalHolds := rfl

theorem stackTemp_effect (d : Device) {s : Nat} (hs : s < 12) (temp : BitVec 8) {e : Device} (he : e = d.stackTemp s temp) :
    e.regF (Reg.hbcStatus s) 24 8 = temp.toNat ∧ (95 ≤ temp.toNat → e.regBit Reg.pwrAlert 6 = true) ∧
    (85 ≤ temp.toNat → bit e.hbm.wantHot s = true) ∧ (temp.toNat < 80 → bit e.hbm.wantHot s = false) ∧
    (95 ≤ temp.toNat → e.regBit Reg.pwrStatus 9 = true) ∧
    SameRegs [Reg.hbcStatus s, Reg.pwrAlert, Reg.pwrStatus, Reg.pwrHoldCnt] d e ∧ SameMemory d e := by
  obtain ⟨a, ha⟩ : ∃ a, a = (d.readTemp s temp).alert 6 (decide (95 ≤ temp.toNat)) := ⟨_, rfl⟩
  rw [stackTemp_eq, ← ha] at he
  obtain ⟨halert, halertRegs⟩ := raisedOnly_alert (d.readTemp s temp) 6 (decide (95 ≤ temp.toNat))
  obtain ⟨hhold, hholdRegs⟩ := raisedOnly_evalHolds a
  rw [← ha] at halert halertRegs
  rw [← he] at hhold hholdRegs
  have hstatus : a.reg (Reg.hbcStatus s) = (d.readTemp s temp).reg (Reg.hbcStatus s) :=
    halertRegs _ (by unfold Reg.hbcStatus Reg.pwrAlert; simp; omega)
  have htemp : a.regF (Reg.hbcStatus s) 24 8 = temp.toNat := by
    rw [Device.regF, hstatus]
    exact (regF_setF d _ _ (by decide)).trans (Nat.mod_eq_of_lt temp.isLt)
  have hwant : e.hbm.wantHot = hotAfter d.hbm.wantHot s temp := by
    rw [hhold, halert]
    rfl
  refine ⟨?_, fun h => ?_, fun h => ?_, fun h => ?_, fun h => ?_, fun b hb => ?_, ?_⟩
  · rw [Device.regF, hholdRegs _ (by unfold Reg.hbcStatus Reg.pwrAlert Reg.pwrStatus Reg.pwrHoldCnt; simp; omega)]
    exact htemp
  · rw [he]
    refine regBit_evalHolds_alert ?_
    rw [ha, decide_eq_true h, regBit_alert _ (by decide)]
  · rw [hwant, bit_hotAfter_hot _ hs h]
  · rw [hwant, bit_hotAfter_cool _ hs h]
  · rw [he, regBit_evalHolds_stacks, stackHold_of_hot hs (by rw [htemp]; exact h)]
  · simp only [List.mem_cons, List.not_mem_nil, or_false, not_or] at hb
    obtain ⟨hbs, hba, hbp, hbh⟩ := hb
    rw [hholdRegs _ (by simp [hba, hbp, hbh]), halertRegs _ (by simp [hba])]
    exact reg_setF_ne d _ _ _ hbs
  · rw [hhold, halert]
    exact ⟨rfl, rfl, rfl, rfl⟩

/-- Settles O41: an entry, its completion, a wake and its completion, the idle timer and a temperature, each by the state that it
needs. -/
theorem powerStatesAndWakes : Obligations.PowerStatesAndWakes := by
  intro s ha
  refine ⟨fun h3 h5 => ?request, fun hreq hpower htasks hrun hload => ?entry, fun hbusy => ?busy,
    fun hwake hin => ⟨fun hpower => ?cold, fun hpower => ?standby⟩,
    fun c hc hpins => ⟨fun hpower => ?low, fun hpower => ?awake⟩,
    fun g hpower hwake hg hself => ?toWarm, fun g hpower hwake hg hrun hself => ?toRun,
    fun g hidle hevals => ⟨fun hpower hon hdue => ?idleWarm, fun hpower hon hdue => ?idleCold⟩, fun k t => ?temperature⟩
  case request => exact completes_took (f := Device.standbyReq) rfl ha (standbyReq_effect h3 h5)
  case entry => exact completes_took (f := Device.standbyEntry) rfl ha (standbyEntry_effect hreq hpower htasks hrun hload)
  case busy => exact completes_took (f := Device.standbyEntry) rfl ha (standbyEntry_of_busy hbusy)
  case cold => exact completes_took (f := Device.coldEntered) rfl ha (coldEntered_effect hwake hin hpower)
  case standby => exact completes_took (f := Device.standbyEntered) rfl ha (standbyEntered_effect hwake hin hpower)
  case low =>
    obtain ⟨f, hexec, hf⟩ := wake_command hc hpins
    refine completes_took hexec ha ?_
    rw [hf]
    exact requestWake_warm_effect hpower
  case awake =>
    obtain ⟨f, hexec, hf⟩ := wake_command hc hpins
    refine completes_took hexec ha ?_
    rw [hf, requestWake_of_awake hpower]
  case toWarm => exact completes_took (f := Device.wakeDone) rfl ha (wakeDone_warm_effect hpower hwake hg hself)
  case toRun => exact completes_took (f := Device.wakeDone) rfl ha (wakeDone_run_effect hpower hwake hg hrun hself)
  case idleWarm =>
    refine completes_took (f := Device.idleWarm) rfl ha ?_
    rw [idleWarm_of_due hidle hevals hpower hon hdue]
    exact ⟨power_setPower _ (by decide), onlyRegs_setF _ _ _ _ _⟩
  case idleCold =>
    refine completes_took (f := Device.idleCold) rfl ha ?_
    rw [idleCold_of_due hidle hevals hpower hon hdue]
    exact ⟨power_setPower s.dev (by decide), rfl, rfl, (onlyRegs_setF s.dev _ _ _ _).2⟩
  case temperature => exact completes_took (f := (·.stackTemp k t)) rfl ha (stackTemp_effect s.dev k.isLt t rfl)

end Sys2Proof.Machine
end

section
/-!
PROOFS. Regulators and statistics (R289 - R294): the bins of the latency histogram and what a measured transaction adds to them,
what a write of a regulator sets, and what a clear of the statistics reaches.
-/
namespace Sys2Proof.Machine

open Sys2Proof

/-! ### The latency histogram (R292) -/

/-- A latency lies in bin `b` or above from `2 ^ (b + 3)` on. -/
theorem le_latencyBin_iff {b : Nat} (hb : 1 ≤ b) (hb' : b ≤ 15) (v : Nat) : b ≤ latencyBin v ↔ 2 ^ (b + 3) ≤ v := by
  unfold latencyBin
  split
  case isTrue hv =>
    have hpow : 2 ^ 4 ≤ 2 ^ (b + 3) := Nat.pow_le_pow_right (by decide) (by omega)
    omega
  case isFalse hv =>
    rw [← Nat.le_log2 (by omega : v ≠ 0)]
    omega

theorem latencyBin_eq_zero_iff (v : Nat) : latencyBin v = 0 ↔ v < 16 := by
  have h := le_latencyBin_iff (b := 1) le_rfl (by decide) v
  omega

theorem latencyBin_eq_iff {b : Nat} (hb : 1 ≤ b) (hb' : b ≤ 14) (v : Nat) :
    latencyBin v = b ↔ 2 ^ (b + 3) ≤ v ∧ v ≤ 2 ^ (b + 4) - 1 := by
  have hlow := le_latencyBin_iff hb (by omega) v
  have hhigh : b + 1 ≤ latencyBin v ↔ 2 ^ (b + 4) ≤ v := le_latencyBin_iff (by omega) (by omega) v
  have hpos : 0 < 2 ^ (b + 4) := Nat.two_pow_pos _
  omega

theorem latencyBin_eq_last_iff (v : Nat) : latencyBin v = 15 ↔ 2 ^ 18 ≤ v := by
  have hlast := le_latencyBin_iff (b := 15) (by decide) le_rfl v
  have hlt := latencyBin_lt v
  omega

/-- Of the histogram, a measured latency adds 1 to the counter of its own bin alone. -/
theorem reg_sncStatHist_statLatency {d : Device} (hopen : d.regBit Reg.sncStatCtl 0 = false) (i v b : Nat) :
    (d.statLatency i v).reg (Reg.sncStatHist i b) =
      d.reg (Reg.sncStatHist i b) + if b = latencyBin v then 1 else 0 := by
  obtain ⟨hsum, hcount, hmin, hmax⟩ : Reg.sncStatHist i b ≠ Reg.sncStatLatSum i ∧ Reg.sncStatHist i b ≠ Reg.sncStatLatN i ∧
      Reg.sncStatHist i b ≠ Reg.sncStatLatMin i ∧ Reg.sncStatHist i b ≠ Reg.sncStatLatMax i := by
    simp only [Reg.sncStatHist, Reg.sncStatLatSum, Reg.sncStatLatN, Reg.sncStatLatMin, Reg.sncStatLatMax]
    omega
  have hkept (e : Device) (c : Prop) [Decidable c] {a : Nat} (ha : Reg.sncStatHist i b ≠ a) (w : Word) :
      (if c then e.setReg a w else e).reg (Reg.sncStatHist i b) = e.reg (Reg.sncStatHist i b) := by
    split
    · exact reg_setReg_ne e w ha
    · rfl
  rw [statLatency_open hopen, Device.latencySpread]
  by_cases hb : b = latencyBin v
  · rw [if_pos hb, hb, reg_bump, ← hb, hkept _ _ hmax, hkept _ _ hmin, reg_bump_ne _ _ hsum, reg_bump_ne _ _ hcount]
    rfl
  · have hbin : Reg.sncStatHist i b ≠ Reg.sncStatHist i (latencyBin v) := by
      simp only [Reg.sncStatHist]
      omega
    rw [if_neg hb, reg_bump_ne _ _ hbin, hkept _ _ hmax, hkept _ _ hmin, reg_bump_ne _ _ hsum, reg_bump_ne _ _ hcount]
    exact (BitVec.add_zero _).symm

/-- Settles O53: every boundary is one of "in bin `b` or above", and a measured latency adds to one counter of the
histogram. -/
theorem latencyBinsSplitAtPowersOfTwo : Obligations.LatencyBinsSplitAtPowersOfTwo := by
  refine fun v => ⟨latencyBin_eq_zero_iff v, fun b hb hb' => latencyBin_eq_iff hb hb' v, latencyBin_eq_last_iff v,
    fun d i hopen => ⟨?own, fun b _ hb => ?other⟩⟩
  case own => rw [reg_sncStatHist_statLatency hopen, if_pos rfl]
  case other =>
    rw [reg_sncStatHist_statLatency hopen, if_neg hb]
    exact BitVec.add_zero _

/-! ### Regulators (R289, R290, R294) -/

/-- A field that a mask covers is the same under the mask. -/
theorem fld_and_of_covers (v : Word) {mask : Word} {lo w : Nat} (h : ∀ j < w, bit mask (lo + j) = true) :
    fld (v &&& mask) lo w = fld v lo w :=
  fld_congr fun j hj => by
    have hmask : mask.getLsbD (lo + j) = true := h j hj
    rw [bit, BitVec.getLsbD_and, hmask, Bool.and_true, bit]

/-- A regulator takes RATE and BURST from the write, and its bucket is full: it lists no token count. -/
theorem regulator_effect {i : Nat} (hi : initAssigned i = true) (d : Device) (w : Word) :
    (d.regulator i w).regF (Reg.sncReg i) 0 24 = fld w 0 24 ∧ (d.regulator i w).regF (Reg.sncReg i) 32 24 = fld w 32 24 ∧
    mapGet none (d.regulator i w).net.tokens i = none ∧
    (∀ j : Nat, j ≠ i → mapGet none (d.regulator i w).net.tokens j = mapGet none d.net.tokens j) ∧
    OnlyRegs [Reg.sncReg i] { d with net := (d.regulator i w).net } (d.regulator i w) := by
  have heq : d.regulator i w = { d.setReg (Reg.sncReg i) (w &&& 0x00FFFFFF00FFFFFF) with
      net := { d.net with tokens := mapPut none d.net.tokens i none } } := by
    rw [Device.regulator, if_neg (by simp [hi])]
    rfl
  have hreg : (d.regulator i w).reg (Reg.sncReg i) = w &&& 0x00FFFFFF00FFFFFF := by
    rw [heq]
    exact reg_setReg d _ _
  refine ⟨?rate, ?burst, ?full, fun j hj => ?others, ?only⟩
  case rate => rw [Device.regF, hreg, fld_and_of_covers w (by decide)]
  case burst => rw [Device.regF, hreg, fld_and_of_covers w (by decide)]
  case full => rw [heq, mapGet_mapPut]
  case others => rw [heq, mapGet_mapPut_ne _ _ _ hj]
  case only =>
    rw [heq]
    exact onlyRegs_setReg { d with net := _ } _ _

/-! ### Control and clearing of the statistics (R293) -/

theorem statControl_effect (d : Device) (v : BitVec 32) :
    (d.statControl v).regBit Reg.sncStatCtl 0 = bit v 0 ∧ OnlyRegs [Reg.sncStatCtl] d (d.statControl v) := by
  refine ⟨?_, onlyRegs_setReg d _ _⟩
  rw [Device.statControl, Device.regBit, reg_setReg, fld_one]
  cases bit v 0 <;> decide

/-- Cleared registers read their reset values, and the others as before. -/
theorem reg_clearRegs (d : Device) (lo hi a : Nat) :
    (d.clearRegs lo hi).reg a = if lo ≤ a ∧ a < hi then regReset a else d.reg a := by
  simp only [Device.clearRegs, Device.reg, mapFind_mapClear]
  split <;> rfl

/-- A clear that acts reaches the registers of all initiators, or those of the named one. -/
theorem statClear_of_open {d : Device} {v : BitVec 32} (hclr : bit v 31 = true) (hopen : d.regBit Reg.sncStatCtl 0 = false) :
    d.statClear v = if bit v 30 then d.clearRegs 0x710000 0x720000
      else d.clearRegs (Reg.sncStatBytes (fld v 0 8)) (Reg.sncStatBytes (fld v 0 8) + 0x100) := by
  rw [Device.statClear, if_neg (by simp [hclr, hopen])]
  cases bit v 30 <;> rfl

theorem statClear_effect {d : Device} {v : BitVec 32} (hclr : bit v 31 = true) (hopen : d.regBit Reg.sncStatCtl 0 = false) :
    (∀ o : Nat, o < 32 →
      (d.statClear v).reg (Reg.sncStatBytes (fld v 0 8) + 8 * o) = regReset (Reg.sncStatBytes (fld v 0 8) + 8 * o)) ∧
    (bit v 30 = false → ∀ a, a < Reg.sncStatBytes (fld v 0 8) ∨ Reg.sncStatBytes (fld v 0 8) + 256 ≤ a →
      (d.statClear v).reg a = d.reg a) ∧
    (∀ a, a < 0x710000 ∨ 0x720000 ≤ a → (d.statClear v).reg a = d.reg a) ∧
    d.statClear v = { d with regs := (d.statClear v).regs } := by
  have hinit : fld v 0 8 < 256 := fld_lt v 0 8
  have hbytes : Reg.sncStatBytes (fld v 0 8) = 0x710000 + 0x100 * fld v 0 8 := rfl
  rw [statClear_of_open hclr hopen]
  cases bit v 30 with
  | true =>
    refine ⟨fun o ho => ?_, fun h => absurd h (by decide), fun a ha => ?_, rfl⟩
    · rw [if_pos rfl, reg_clearRegs, if_pos (by omega)]
    · rw [if_pos rfl, reg_clearRegs, if_neg (by omega)]
  | false =>
    refine ⟨fun o ho => ?_, fun _ a ha => ?_, fun a ha => ?_, rfl⟩
    · rw [if_neg (by decide), reg_clearRegs, if_pos (by omega)]
    · rw [if_neg (by decide), reg_clearRegs, if_neg (by omega)]
    · rw [if_neg (by decide), reg_clearRegs, if_neg (by omega)]

/-- Settles O25: a regulator's write by whether its initiator is assigned, and a clear by whether GO is set and the statistics are
not frozen. -/
theorem regulatorsAndStatisticsAreControlled : Obligations.RegulatorsAndStatisticsAreControlled := by
  refine fun s i w v ha => ⟨fun hi => ?unassigned, fun hi => ?assigned, ?control, fun hidle => ?idle, fun hclr hopen => ?clear⟩
  case unassigned => exact completes_took (f := (·.regulator i w)) rfl ha (if_pos hi)
  case assigned => exact completes_took (f := (·.regulator i w)) rfl ha (regulator_effect hi s.dev w)
  case control => exact completes_took (f := (·.statControl v)) rfl ha (statControl_effect s.dev v)
  case idle => exact completes_took (f := (·.statClear v)) rfl ha (if_pos hidle)
  case clear => exact completes_took (f := (·.statClear v)) rfl ha (statClear_effect hclr hopen)

end Sys2Proof.Machine
end

section
/-! PROOFS. What a step keeps: fuses are only blown (R433), the canonical forms stay, and the numbers of transactions only
grow. Without a reset on the way, and without time passing, so do the clock and its gate. -/

namespace Sys2Proof.Machine

open Sys2Proof

set_option Elab.async false -- one thread: there are some 800 short proofs

/-- From `d` to `d'` fuses are only blown (R433), and the canonical forms stay. -/
structure Safe (d d' : Device) : Prop where
  fuses : FusesKept d.keep.fuses d'.keep.fuses
  wf : d.wf = true → d'.wf = true

/-- Besides, no number of a transaction is given again: there is no reset on the way. -/
structure Kept (d d' : Device) : Prop extends Safe d d' where
  numbers : d.net.nextId ≤ d'.net.nextId

/-- Besides, no time passes. -/
structure Calm (d d' : Device) : Prop extends Kept d d' where
  now : d'.now = d.now
  counting : d'.belfry.counting = d.belfry.counting

theorem CopyKept.refl (f : FuseCopy) : CopyKept f f := ⟨rfl, rfl, id, fun _ => id, fun _ => id, fun _ _ => id⟩

theorem CopyKept.trans {f g h : FuseCopy} (a : CopyKept f g) (b : CopyKept g h) : CopyKept f h := by
  obtain ⟨ar, as, ak, ap, av, an⟩ := a
  obtain ⟨br, bs, bk, bp, bv, bn⟩ := b
  exact ⟨br.trans ar, bs.trans as, bk ∘ ak, fun i => bp i ∘ ap i, fun i => bv i ∘ av i, fun t i => bn t i ∘ an t i⟩

theorem FusesKept.refl (f : Fuses) : FusesKept f f := ⟨.refl _, .refl _, rfl, rfl, fun _ => ⟨rfl, rfl⟩⟩

/-- A key that is set in one copy stays set. -/
theorem FusesKept.keySet {f g : Fuses} (h : FusesKept f g) (hf : f.keySet = true) : g.keySet = true := by
  obtain ⟨⟨-, -, ha, -⟩, ⟨-, -, hb, -⟩, -⟩ := h
  simp only [Fuses.keySet, Bool.or_eq_true] at hf ⊢
  exact hf.imp ha hb

theorem FusesKept.trans {f g h : Fuses} (a : FusesKept f g) (b : FusesKept g h) : FusesKept f h := by
  have hset := a.keySet
  obtain ⟨aa, ab, au, av, ak⟩ := a
  obtain ⟨ba, bb, bu, bv, bk⟩ := b
  refine ⟨aa.trans ba, ab.trans bb, bu.trans au, bv.trans av, fun hf => ?_⟩
  obtain ⟨hk, hv⟩ := ak hf
  obtain ⟨hk', hv'⟩ := bk (hset hf)
  exact ⟨hk'.trans hk, hv'.trans hv⟩

theorem Safe.refl (d : Device) : Safe d d := ⟨.refl _, id⟩

theorem Safe.trans {a b c : Device} (h : Safe a b) (h' : Safe b c) : Safe a c :=
  ⟨h.fuses.trans h'.fuses, h'.wf ∘ h.wf⟩

theorem Kept.refl (d : Device) : Kept d d := ⟨.refl _, le_rfl⟩

theorem Kept.trans {a b c : Device} (h : Kept a b) (h' : Kept b c) : Kept a c :=
  ⟨h.toSafe.trans h'.toSafe, h.numbers.trans h'.numbers⟩

theorem Calm.refl (d : Device) : Calm d d := ⟨.refl _, rfl, rfl⟩

theorem Calm.trans {a b c : Device} (h : Calm a b) (h' : Calm b c) : Calm a c :=
  ⟨h.toKept.trans h'.toKept, h'.now.trans h.now, h'.counting.trans h.counting⟩

theorem wf_iff (d : Device) :
    d.wf = true ↔ mapWf regReset d.regs = true ∧ d.hbm.mem.wf = true ∧ d.tile.wf = true ∧ d.streams.cache.wf = true ∧
      memWf d.cfgMem = true ∧ ∀ t ∈ d.net.txns, t.id < d.net.nextId := by
  simp only [Device.wf, Device.regsWf, Device.memoriesWf, Bool.and_eq_true, List.all_eq_true, decide_eq_true_eq, and_assoc]

theorem Kept.ite {p : Prop} [Decidable p] {d a b : Device} (ha : Kept d a) (hb : Kept d b) :
    Kept d (if p then a else b) := by split <;> assumption

theorem Safe.ite {p : Prop} [Decidable p] {d a b : Device} (ha : Safe d a) (hb : Safe d b) :
    Safe d (if p then a else b) := by split <;> assumption

theorem Calm.ite {p : Prop} [Decidable p] {d a b : Device} (ha : Calm d a) (hb : Calm d b) :
    Calm d (if p then a else b) := by split <;> assumption

theorem Calm.iteFst {α : Type} {p : Prop} [Decidable p] {d : Device} {a b : Device × α} (ha : Calm d a.1) (hb : Calm d b.1) :
    Calm d (if p then a else b).1 := by split <;> assumption

theorem Calm.iteSnd {α : Type} {p : Prop} [Decidable p] {d : Device} {a b : α × Device} (ha : Calm d a.2) (hb : Calm d b.2) :
    Calm d (if p then a else b).2 := by split <;> assumption

theorem Kept.iteFst {α : Type} {p : Prop} [Decidable p] {d : Device} {a b : Device × α} (ha : Kept d a.1) (hb : Kept d b.1) :
    Kept d (if p then a else b).1 := by split <;> assumption

theorem Kept.iteSnd {α : Type} {p : Prop} [Decidable p] {d : Device} {a b : α × Device} (ha : Kept d a.2) (hb : Kept d b.2) :
    Kept d (if p then a else b).2 := by split <;> assumption

theorem Calm.foldl {α : Type} {f : Device → α → Device} (h : ∀ d x, Calm d (f d x)) (l : List α) (d : Device) :
    Calm d (l.foldl f d) := by
  induction l generalizing d with
  | nil => exact .refl _
  | cons x l ih => exact (h d x).trans (ih _)

theorem Kept.foldl {α : Type} {f : Device → α → Device} (h : ∀ d x, Kept d (f d x)) (l : List α) (d : Device) :
    Kept d (l.foldl f d) := by
  induction l generalizing d with
  | nil => exact .refl _
  | cons x l ih => exact (h d x).trans (ih _)

/-- A fold that carries a value beside the device. -/
theorem Calm.foldlSnd {α β : Type} {f : β × Device → α → β × Device} (h : ∀ a x, Calm a.2 (f a x).2) (l : List α)
    (a : β × Device) : Calm a.2 (l.foldl f a).2 := by
  induction l generalizing a with
  | nil => exact .refl _
  | cons x l ih => exact (h a x).trans (ih _)

theorem Calm.foldlPair {α β : Type} {f : β × Device → α → β × Device} {b : β} {d : Device} {l : List α}
    (h : ∀ a x, Calm a.2 (f a x).2) : Calm d (l.foldl f (b, d)).2 := Calm.foldlSnd h l (b, d)

theorem Calm.elim {α : Type} {d a : Device} {f : α → Device} {o : Option α} (ha : Calm d a) (hf : ∀ x, Calm d (f x)) :
    Calm d (o.elim a f) := by
  cases o with
  | none => exact ha
  | some x => exact hf x

/-- Part by part: what is not named stays as it is. -/

theorem Safe.ofParts {d d' : Device} (fuses : d'.keep.fuses = d.keep.fuses := by rfl)
    (regs : mapWf regReset d.regs = true → mapWf regReset d'.regs = true := by exact fun h => h)
    (hbm : d.hbm.mem.wf = true → d'.hbm.mem.wf = true := by exact fun h => h)
      (tile : d.tile.wf = true → d'.tile.wf = true := by exact fun h => h)
    (cache : d.streams.cache.wf = true → d'.streams.cache.wf = true := by exact fun h => h)
    (cfgMem : memWf d.cfgMem = true → memWf d'.cfgMem = true := by exact fun h => h)
    (txns : (∀ t ∈ d.net.txns, t.id < d.net.nextId) → ∀ t ∈ d'.net.txns, t.id < d'.net.nextId := by exact fun h => h) : Safe d d' := by
  refine ⟨fuses ▸ .refl _, fun h => ?_⟩
  rw [wf_iff] at h ⊢
  obtain ⟨hr, hm, ht, hs, hg, hx⟩ := h
  exact ⟨regs hr, hbm hm, tile ht, cache hs, cfgMem hg, txns hx⟩

theorem Kept.ofParts {d d' : Device} (fuses : d'.keep.fuses = d.keep.fuses := by rfl)
    (numbers : d.net.nextId ≤ d'.net.nextId := by rfl)
    (regs : mapWf regReset d.regs = true → mapWf regReset d'.regs = true := by exact fun h => h)
    (hbm : d.hbm.mem.wf = true → d'.hbm.mem.wf = true := by exact fun h => h)
      (tile : d.tile.wf = true → d'.tile.wf = true := by exact fun h => h)
    (cache : d.streams.cache.wf = true → d'.streams.cache.wf = true := by exact fun h => h)
    (cfgMem : memWf d.cfgMem = true → memWf d'.cfgMem = true := by exact fun h => h)
    (txns : (∀ t ∈ d.net.txns, t.id < d.net.nextId) → ∀ t ∈ d'.net.txns, t.id < d'.net.nextId := by exact fun h => h) : Kept d d' :=
  ⟨.ofParts fuses regs hbm tile cache cfgMem txns, numbers⟩

theorem Calm.ofParts {d d' : Device} (fuses : d'.keep.fuses = d.keep.fuses := by rfl)
    (numbers : d.net.nextId ≤ d'.net.nextId := by rfl) (now : d'.belfry.gcyc = d.belfry.gcyc := by rfl)
      (counting : d'.belfry.counting = d.belfry.counting := by rfl)
    (regs : mapWf regReset d.regs = true → mapWf regReset d'.regs = true := by exact fun h => h)
    (hbm : d.hbm.mem.wf = true → d'.hbm.mem.wf = true := by exact fun h => h)
      (tile : d.tile.wf = true → d'.tile.wf = true := by exact fun h => h)
    (cache : d.streams.cache.wf = true → d'.streams.cache.wf = true := by exact fun h => h)
    (cfgMem : memWf d.cfgMem = true → memWf d'.cfgMem = true := by exact fun h => h)
    (txns : (∀ t ∈ d.net.txns, t.id < d.net.nextId) → ∀ t ∈ d'.net.txns, t.id < d'.net.nextId := by exact fun h => h) : Calm d d' :=
  ⟨.ofParts fuses numbers regs hbm tile cache cfgMem txns, now, counting⟩
/-- What these parts do not show is as it was. -/
theorem Calm.same {d d' : Device} (fuses : d'.keep.fuses = d.keep.fuses := by rfl) (regs : d'.regs = d.regs := by rfl)
    (hbm : d'.hbm.mem = d.hbm.mem := by rfl) (tile : d'.tile = d.tile := by rfl)
    (cache : d'.streams.cache = d.streams.cache := by rfl) (cfgMem : d'.cfgMem = d.cfgMem := by rfl)
    (txns : d'.net.txns = d.net.txns := by rfl) (nextId : d'.net.nextId = d.net.nextId := by rfl)
    (now : d'.belfry.gcyc = d.belfry.gcyc := by rfl) (counting : d'.belfry.counting = d.belfry.counting := by rfl) :
    Calm d d' :=
  .ofParts fuses nextId.ge now counting (fun h => regs ▸ h) (fun h => hbm ▸ h) (fun h => tile ▸ h) (fun h => cache ▸ h)
    (fun h => cfgMem ▸ h) (fun h => by rwa [txns, nextId])

theorem Kept.same {d d' : Device} (fuses : d'.keep.fuses = d.keep.fuses := by rfl) (regs : d'.regs = d.regs := by rfl)
    (hbm : d'.hbm.mem = d.hbm.mem := by rfl) (tile : d'.tile = d.tile := by rfl)
    (cache : d'.streams.cache = d.streams.cache := by rfl) (cfgMem : d'.cfgMem = d.cfgMem := by rfl)
    (txns : d'.net.txns = d.net.txns := by rfl) (nextId : d'.net.nextId = d.net.nextId := by rfl) :
    Kept d d' :=
  .ofParts fuses nextId.ge (fun h => regs ▸ h) (fun h => hbm ▸ h) (fun h => tile ▸ h) (fun h => cache ▸ h)
    (fun h => cfgMem ▸ h) (fun h => by rwa [txns, nextId])

theorem Safe.same {d d' : Device} (fuses : d'.keep.fuses = d.keep.fuses := by rfl) (regs : d'.regs = d.regs := by rfl)
    (hbm : d'.hbm.mem = d.hbm.mem := by rfl) (tile : d'.tile = d.tile := by rfl)
    (cache : d'.streams.cache = d.streams.cache := by rfl) (cfgMem : d'.cfgMem = d.cfgMem := by rfl)
    (txns : d'.net.txns = d.net.txns := by rfl) (nextId : d'.net.nextId = d.net.nextId := by rfl) :
    Safe d d' :=
  (Kept.same fuses regs hbm tile cache cfgMem txns nextId).toSafe

end Sys2Proof.Machine
end

section
/-! PROOFS. What the operations of `Sys2Proof/Machine/Ops.lean` keep. -/

namespace Sys2Proof.Machine

open Sys2Proof

set_option Elab.async false -- one thread: there are some 800 short proofs

theorem calm_setReg (d : Device) (a : Nat) (v : Word) : Calm d (d.setReg a v) :=
  .ofParts (regs := fun h => mapWf_mapPut h a v)

theorem calm_setF (d : Device) (a lo : Nat) (w x : Nat) : Calm d (d.setF a lo w x) :=
  calm_setReg ..

theorem calm_bump (d : Device) (a n : Nat) : Calm d (d.bump a n) :=
  calm_setReg ..

theorem calm_emit (d : Device) (o : Output) : Calm d (d.emit o) :=
  Calm.same

theorem calm_takeFree (d : Device) (w : Nat) : Calm d (d.takeFree w).2 :=
  Calm.same

theorem calm_setFs (d : Device) (a : Nat) (fs : List (Nat × Nat × Nat)) : Calm d (d.setFs a fs) := by
  induction fs generalizing d with
  | nil => exact .refl _
  | cons f fs ih => exact (calm_setF ..).trans (ih _)

theorem calm_raise (d : Device) (a : Nat) (m : Word) : Calm d (d.raise a m) := by
  unfold Device.raise
  extract_lets +onlyGivenNames e2
  refine Calm.trans (b := e2) (calm_setReg ..) ?_
  clear_value e2
  exact Calm.same

theorem calm_clearBits (d : Device) (a : Nat) (m : Word) : Calm d (d.clearBits a m) :=
  calm_setReg ..

theorem calm_setPower (d : Device) (x : Nat) : Calm d (d.setPower x) :=
  calm_setF ..

theorem calm_requestWake (d : Device) (toRun : Bool) : Calm d (d.requestWake toRun) := by
  unfold Device.requestWake
  extract_lets +onlyGivenNames _
  split
  · exact .refl _
  split
  · exact Calm.same
  split
  · exact Calm.same
  split
  · exact .refl _
  extract_lets +onlyGivenNames e2
  refine Calm.trans (b := e2) ((calm_bump ..).trans (calm_setPower ..)) ?_
  clear_value e2
  exact Calm.same

theorem calm_setFunc (d : Device) (f : Nat) (x : Func) : Calm d (d.setFunc f x) :=
  Calm.same

theorem calm_holdRequest (d : Device) (h : AtsHeld) : Calm d (d.holdRequest h) :=
  Calm.same

theorem calm_hostWrite (d : Device) (f : Nat) (pasid : Option Nat) (a : Nat) (bs : List Byte) (ep : Bool) :
    Calm d (d.hostWrite f pasid a bs ep) := by
  unfold Device.hostWrite
  split
  · exact calm_bump ..
  split
  · split
    · exact Calm.ite (calm_holdRequest ..) (calm_emit ..)
    · exact (calm_emit ..).trans (calm_holdRequest ..)
  exact calm_emit ..

theorem calm_hostRead (d : Device) (f : Nat) (pasid : Option Nat) (a n : Nat) (what : HostReadFor) :
    Calm d (d.hostRead f pasid a n what).1 := by
  unfold Device.hostRead
  split
  · exact .refl _
  split
  · split
    · exact calm_emit ..
    · exact (calm_emit ..).trans (calm_holdRequest ..)
  exact calm_emit ..

theorem calm_msix (d : Device) (f vec : Nat) : Calm d (d.msix f vec) :=
  Calm.ite (calm_bump ..) (Calm.ite (calm_holdRequest ..) (calm_emit ..))

theorem calm_sendControl (d : Device) (link typ : Nat) (words : List Nat) : Calm d (d.sendControl link typ words) :=
  Calm.same

theorem calm_noteEval (d : Device) (p : Task → Bool) (g : Nat) : Calm d (d.noteEval p g) :=
  Calm.same

theorem calm_setRun (d : Device) (r : Option Run) : Calm d (d.setRun r) :=
  Calm.same

theorem calm_mapRun (d : Device) (f : Run → Run) : Calm d (d.mapRun f) :=
  calm_setRun ..

theorem calm_markPoison (d : Device) (causeBit : Nat) : Calm d (d.markPoison causeBit) :=
  calm_mapRun ..

theorem calm_markConsumed (d : Device) : Calm d d.markConsumed :=
  calm_mapRun ..

theorem calm_corrected (d : Device) (cnt : Nat) : Calm d (d.corrected cnt) :=
  (calm_bump ..).trans (calm_bump ..)

theorem calm_uncorrected (d : Device) (cnt : Nat) : Calm d (d.uncorrected cnt) :=
  (calm_bump ..).trans (calm_bump ..)

theorem calm_eccCount (d : Device) (corr uncorr : Nat) (e : Ecc) : Calm d (d.eccCount corr uncorr e) :=
  (Calm.ite (.refl _) ((calm_bump ..).trans (calm_bump ..))).trans (Calm.ite (.refl _) ((calm_bump ..).trans (calm_bump ..)))

theorem calm_putFaults (d : Device) (l : FaultLog) : Calm d (d.putFaults l) :=
  (Calm.same).trans (Calm.foldl (fun _ _ => Calm.foldl (fun _ _ => calm_setReg ..) _ _) _ _)

theorem calm_noteFirstFault (d : Device) : Calm d d.noteFirstFault :=
  calm_mapRun ..

theorem calm_faultRecord (d : Device) (kind unit : Nat) (f0 : List (Nat × Nat)) (f1 f2 : Word) (f3 f4 f5 : Word)
  (g : Nat) (f7 : Word) : Calm d (d.faultRecord kind unit f0 f1 f2 f3 f4 f5 g f7) :=
  ((((calm_putFaults ..).trans (calm_noteFirstFault ..)).trans (calm_bump ..)).trans (calm_setReg ..)).trans (Calm.ite
    (calm_msix ..) (.refl _))

theorem calm_cfgIntegrity (d : Device) (source where_ : Nat) (opnum causeBit : Nat) :
    Calm d (d.cfgIntegrity source where_ opnum causeBit) := by
  unfold Device.cfgIntegrity
  extract_lets +onlyGivenNames e2
  split
  · exact (calm_bump ..).trans (calm_markPoison ..)
  · exact Calm.ite ((calm_bump ..).trans (calm_markPoison ..)) ((((calm_bump ..).trans (calm_markPoison ..)).trans
      (calm_faultRecord ..)).trans (calm_mapRun ..))

theorem safe_pinEvent (d : Device) (f : Device → Device) (h : ∀ d, Safe d (f d)) : Safe d (d.pinEvent f) :=
  Safe.ite (.refl _) (h d)

end Sys2Proof.Machine
end

section
/-! PROOFS. What the operations of `Sys2Proof/Machine/Units.lean` keep. -/

namespace Sys2Proof.Machine

open Sys2Proof

set_option Elab.async false -- one thread: there are some 800 short proofs

theorem calm_domeRead (d : Device) (l : Nat) (e : Ecc) : Calm d (d.domeRead l e).2 :=
  (calm_eccCount ..).trans (Calm.iteSnd (calm_markPoison ..) (.refl _))

theorem calm_domeTake (d : Device) (u : DUnit) : Calm d (d.domeTake u).2 :=
  Calm.iteSnd (.refl _) ((calm_bump ..).trans (calm_markPoison ..))

theorem calm_domeWrite (d : Device) (l : Nat) (u : DUnit) : Calm d (d.domeWrite l u) :=
  (calm_domeTake d u).trans (.ofParts (tile := fun h => wf_putUnit h ..))

end Sys2Proof.Machine
end

section
/-! PROOFS. What the operations of `Sys2Proof/Machine/SpireOps.lean` keep. -/

namespace Sys2Proof.Machine

open Sys2Proof

set_option Elab.async false -- one thread: there are some 800 short proofs

theorem calm_setSpire (d : Device) (n : Nat) (x : Spire) : Calm d (d.setSpire n x) :=
  Calm.same

theorem calm_mapSpire (d : Device) (n : Nat) (f : Spire → Spire) : Calm d (d.mapSpire n f) :=
  calm_setSpire ..

theorem calm_mapVx (d : Device) (n : Nat) (f : Vx → Vx) : Calm d (d.mapVx n f) :=
  calm_mapSpire ..

theorem calm_vxFlags (d : Device) (n : Nat) (f : BitVec 4) : Calm d (d.vxFlags n f) :=
  Calm.ite (.refl _) (calm_setF ..)

theorem calm_mxFlags (d : Device) (n : Nat) (f : BitVec 4) : Calm d (d.mxFlags n f) :=
  Calm.ite (.refl _) (calm_setF ..)

theorem calm_vxFault (d : Device) (n x : Nat) (kind pc : Nat) (id op : Nat) : Calm d (d.vxFault n x kind pc id op) := by
  unfold Device.vxFault
  extract_lets +onlyGivenNames e2 _ e2
  refine Calm.trans (b := e2) (Calm.ite ((((calm_bump ..).trans (calm_cfgIntegrity ..)).trans (calm_setReg ..)).trans
    (calm_mapVx ..)) ((calm_bump ..).trans (calm_cfgIntegrity ..))) ?_
  clear_value e2
  exact calm_mapVx ..

theorem calm_tileWord (d : Device) (n : Nat) (bs : List Byte) (pois : Bool) (e : Ecc) : Calm d (d.tileWord n bs pois e).2 :=
  (calm_eccCount ..).trans (Calm.iteSnd (calm_markPoison ..) (.refl _))

theorem calm_loadLine (d : Device) (n l off len bus w : Nat) (ecc : List (Nat × Nat × Ecc)) :
    Calm d (d.loadLine n l off len bus w ecc).2 := by
  unfold Device.loadLine
  extract_lets +onlyGivenNames u words e bs r
  have he : Calm d e := Calm.ite (calm_markConsumed ..) (.refl _)
  have hr : Calm e r.2 := Calm.foldlPair fun a i =>
    calm_tileWord a.2 n ((bs.drop (8 * i)).take 8) u.pois (eccOf ecc bus (w + i))
  clear_value r
  exact Calm.iteSnd (he.trans hr) (((he.trans hr).trans (calm_uncorrected ..)).trans (calm_markPoison ..))

theorem calm_loadBytes (d : Device) (n a len bus w : Nat) (ecc : List (Nat × Nat × Ecc)) :
    Calm d (d.loadBytes n a len bus w ecc).2 := by
  unfold Device.loadBytes
  exact Calm.foldlPair fun acc p => calm_loadLine acc.2 n p.1 p.2.1 p.2.2 bus (w + acc.1.length / 8) ecc

theorem calm_storePiece (d : Device) (n a : Nat) (bs : List (Option Byte)) (pois : Bool) :
    Calm d (d.storePiece n a bs pois) :=
  Calm.ite (.refl _) (.ofParts (tile := fun h => wf_putUnit h ..))

theorem calm_coefWords (d : Device) (n a k : Nat) (ecc : List (Nat × Nat × Ecc)) : Calm d (d.coefWords n a k ecc).2 :=
  (Calm.foldl (fun _ _ => (calm_eccCount ..).trans (Calm.ite (calm_markPoison ..) (.refl _))) _ _).trans (.refl _)

end Sys2Proof.Machine
end

section
/-! PROOFS. What the operations of `Sys2Proof/Machine/Flits.lean` keep. -/

namespace Sys2Proof.Machine

open Sys2Proof

set_option Elab.async false -- one thread: there are some 800 short proofs

theorem calm_enter (d : Device) (p : Packet) (w : Way) (header : Line) (us : List DUnit) : Calm d (d.enter p w header us) :=
  Calm.same

theorem calm_sendMessage (d : Device) (init cmd : Nat) (link typ : Nat) (words : List Nat) :
    Calm d (d.sendMessage init cmd link typ words) :=
  Calm.ite (calm_enter ..) (calm_sendControl ..)

theorem calm_mapTxn (d : Device) (i : Nat) (f : Txn → Txn) (hf : ∀ t, t.id = i → (f t).id = t.id) :
    Calm d (d.mapTxn i f) :=
  .ofParts (txns := fun h t ht => by
    obtain ⟨x, hx, rfl⟩ := List.mem_map.1 ht
    split
    · rw [hf x ‹_›]; exact h x hx
    · exact h x hx)

theorem calm_dropTxn (d : Device) (i : Nat) : Calm d (d.dropTxn i) :=
  .ofParts (txns := fun h t ht => h t (List.mem_of_mem_filter ht))

theorem calm_answer (d : Device) (id : Nat) : Calm d (d.answer id) := by
  unfold Device.answer
  split
  · exact .refl _
  · extract_lets +onlyGivenNames _ _ _ e4
    refine Calm.trans (b := e4) ((calm_mapTxn _ _ _ (by intros; rfl))) ?_
    clear_value e4
    exact (Calm.same).trans (calm_enter ..)

theorem calm_deliver (d : Device) (id i : Nat) (u : DUnit) : Calm d (d.deliver id i u) :=
  ((calm_mapTxn _ _ _ (by intros; rfl))).trans (Calm.ite (calm_answer ..) (.refl _))

theorem calm_respond (d : Device) (id status : Nat) : Calm d (d.respond id status) :=
  ((calm_mapTxn _ _ _ (by intros; rfl))).trans (calm_answer ..)

theorem calm_bumpStat (d : Device) (a n : Nat) : Calm d (d.bumpStat a n) :=
  Calm.ite (.refl _) (calm_bump ..)

theorem calm_statMoved (d : Device) (i bytes units : Nat) : Calm d (d.statMoved i bytes units) :=
  (calm_bumpStat ..).trans (calm_bumpStat ..)

theorem calm_statLatency (d : Device) (i v : Nat) : Calm d (d.statLatency i v) :=
  Calm.ite (.refl _) ((Calm.ite ((Calm.ite (((calm_bump ..).trans (calm_bump ..)).trans (calm_setReg ..))
    ((calm_bump ..).trans (calm_bump ..))).trans (calm_setReg ..)) (Calm.ite (((calm_bump ..).trans
      (calm_bump ..)).trans (calm_setReg ..)) ((calm_bump ..).trans (calm_bump ..)))).trans (calm_bump ..))

theorem calm_injectError (d : Device) (init : Nat) (us : List DUnit) : Calm d (d.injectError init us).2 := by
  unfold Device.injectError
  split
  · exact .refl _
  · exact Calm.iteSnd (calm_setF ..) (.refl _)

theorem calm_takeTokens (d : Device) (i b : Nat) : Calm d (d.takeTokens i b) :=
  Calm.ite (.refl _) (Calm.same)

theorem calm_launchRequest (d : Device) (t : Txn) : Calm d (d.launchRequest t) :=
  calm_enter ..

theorem txn_id {d : Device} {id : Nat} {t : Txn} (h : d.txn id = some t) : t.id = id := by
  simpa using List.find?_some h

theorem calm_inject (d : Device) (id : Nat) : Calm d (d.inject id) := by
  unfold Device.inject
  split
  · exact .refl _
  next t ht =>
    refine (calm_injectError d t.init t.data).trans ?_
    generalize d.injectError t.init t.data = a
    obtain ⟨us, d1⟩ := a
    dsimp -zeta only
    extract_lets +onlyGivenNames t' e
    have h : Calm d1 e := (calm_mapTxn _ id (fun _ => t') fun x hx => (txn_id ht).trans hx.symm).trans
      (calm_launchRequest ..)
    clear_value e
    refine h.trans ?_
    split
    · exact .refl _
    · exact calm_statMoved ..
    · exact calm_statMoved ..

theorem txns_below_of_added {l : List Txn} {n : Nat} (h : ∀ t ∈ l, t.id < n) {x : Txn} (hx : x.id = n) :
    ∀ t ∈ l ++ [x], t.id < n + 1 := by
  intro t ht
  rcases List.mem_append.1 ht with ht | ht
  · exact (h t ht).trans (Nat.lt_succ_self n)
  · rw [List.mem_singleton.1 ht, hx]
    exact Nat.lt_succ_self n

theorem calm_newTxn (d : Device) (init : Nat) (sched : Bool) (cmd : NetCmd) (target : NetTarget) (len : Nat)
    (data : List DUnit) (be : Word) (purpose : NetFor) : Calm d (d.newTxn init sched cmd target len data be purpose) :=
  Calm.trans (.ofParts (numbers := Nat.le_succ _) (txns := fun h => txns_below_of_added h rfl))
    (Calm.ite (calm_inject ..) (calm_requestWake ..))

theorem calm_scheduledWait (d : Device) (f : DieFlit) : Calm d (d.scheduledWait f) :=
  (calm_bump ..).trans (calm_cfgIntegrity ..)

theorem calm_arrived (d : Device) (p : Packet) (c : Nat) : Calm d (d.arrived p c) := by
  unfold Device.arrived
  split
  · exact .refl _
  · exact (calm_mapTxn _ _ _ (by intros; rfl))
  · exact Calm.same

theorem calm_moveFlit (d : Device) (c : Nat) (f : DieFlit) : Calm d (d.moveFlit c f) :=
  (Calm.same).trans (Calm.ite (calm_arrived ..) (.refl _))

theorem calm_noteInjected (d : Device) (f : DieFlit) (c : Nat) : Calm d (d.noteInjected f c) := by
  unfold Device.noteInjected
  split
  · exact Calm.ite ((calm_mapTxn _ _ _ (by intros; rfl))) (.refl _)
  · exact .refl _

theorem calm_netClock (d : Device) (c : Nat) : Calm d (d.netClock c) := by
  unfold Device.netClock
  extract_lets +onlyGivenNames _ _ _ _ e2 e2
  exact (((Calm.foldl (fun _ _ => calm_moveFlit ..) _ _).trans (Calm.foldl
    (fun _ _ => calm_scheduledWait ..) _ _)).trans (Calm.same)).trans (Calm.foldl (fun _ _ => (Calm.same).trans
      (calm_noteInjected ..)) _ _)

theorem calm_dropPacket (d : Device) (p : Packet) : Calm d (d.dropPacket p) :=
  Calm.same

end Sys2Proof.Machine
end

section
/-! PROOFS. What the operations of `Sys2Proof/Machine/QueueOps.lean` keep. -/

namespace Sys2Proof.Machine

open Sys2Proof

set_option Elab.async false -- one thread: there are some 800 short proofs

theorem calm_setQueue (d : Device) (q : Nat) (x : Queue) : Calm d (d.setQueue q x) :=
  Calm.same

theorem calm_spillCell (d : Device) (c : QCell) : Calm d (d.spillCell c).2 := by
  unfold Device.spillCell
  split
  · exact .refl _
  · dsimp only
    exact calm_newTxn ..

theorem calm_gateQueue (d : Device) (q lag : Nat) (x : Queue) : Calm d (d.gateQueue q lag x) :=
  Calm.ite ((calm_setQueue ..).trans (calm_noteEval ..)) (calm_setQueue ..)

theorem calm_linkCell (d : Device) (q : Nat) (c : QCell) : Calm d (d.linkCell q c) :=
  (calm_bump ..).trans (Calm.ite ((calm_setQueue ..).trans (calm_bump ..)) ((calm_spillCell ..).trans (calm_gateQueue ..)))

theorem calm_linkedLater (d : Device) (q : Nat) : Calm d (d.linkedLater q) :=
  Calm.ite ((calm_setQueue ..).trans (calm_noteEval ..)) (.refl _)

theorem calm_truncatePacket (d : Device) (q : Nat) : Calm d (d.truncatePacket q) := by
  unfold Device.truncatePacket
  extract_lets +onlyGivenNames _
  split
  · exact .refl _
  · exact ((calm_setQueue ..).trans (calm_bump ..)).trans (Calm.ite (Calm.ite (Calm.ite (calm_setQueue ..)
      (calm_gateQueue ..)) (.refl _)) (calm_linkCell ..))

theorem calm_startMarker (d : Device) (q len init : Nat) : Calm d (d.startMarker q len init) :=
  (calm_truncatePacket ..).trans (Calm.ite (calm_bump ..) (calm_setQueue ..))

theorem calm_noSpace (d : Device) (q : Nat) : Calm d (d.noSpace q) :=
  (calm_truncatePacket ..).trans (calm_bump ..)

theorem calm_pushLoop (d : Device) (q : Nat) (check : Option (BitVec 32)) (bad : Bool) (fuel : Nat) (bs : List Byte) :
    Calm d (d.pushLoop q check bad fuel bs) := by
  induction fuel generalizing d bs with
  | zero => exact .refl _
  | succ fuel ih =>
    unfold Device.pushLoop
    split
    · exact .refl _
    split
    · exact calm_bump ..
    · exact Calm.ite ((calm_noSpace ..).trans (calm_bump ..))
        (Calm.ite (((calm_setQueue ..).trans (calm_linkCell ..)).trans (ih ..)) ((calm_setQueue ..).trans (ih ..)))

theorem calm_pushBytes (d : Device) (q : Nat) (bs : List Byte) (poisoned : Bool) : Calm d (d.pushBytes q bs poisoned) :=
  calm_pushLoop ..

theorem calm_pushUnit (d : Device) (q : Nat) (u : DUnit) : Calm d (d.pushUnit q u) :=
  Calm.ite (calm_pushLoop ..) (Calm.ite (calm_pushLoop ..) ((calm_uncorrected ..).trans (calm_pushLoop ..)))

theorem calm_takeCell (d : Device) (q : Nat) : Calm d (d.takeCell q).2 := by
  unfold Device.takeCell
  extract_lets +onlyGivenNames _
  split
  · exact .refl _
  · exact (calm_gateQueue ..).trans (calm_mapRun ..)

theorem calm_releaseQueue (d : Device) (q : Nat) : Calm d (d.releaseQueue q) :=
  Calm.ite (calm_gateQueue ..) ((calm_gateQueue ..).trans (calm_bump ..))

theorem calm_rewindQueue (d : Device) (q : Nat) : Calm d (d.rewindQueue q) :=
  calm_gateQueue ..

theorem calm_flushQueue (d : Device) (q : Nat) : Calm d (d.flushQueue q) :=
  (calm_gateQueue ..).trans (Calm.ite (.refl _) (calm_bump ..))

end Sys2Proof.Machine
end

section
/-! PROOFS. What the operations of `Sys2Proof/Machine/StreamOps.lean` keep. -/

namespace Sys2Proof.Machine

open Sys2Proof

set_option Elab.async false -- one thread: there are some 800 short proofs

theorem calm_setThread (d : Device) (tk : Nat) (x : Option Thread) : Calm d (d.setThread tk x) :=
  Calm.same

theorem calm_mapThread (d : Device) (tk : Nat) (f : Thread → Thread) : Calm d (d.mapThread tk f) := by
  unfold Device.mapThread
  split
  · exact calm_setThread ..
  · exact .refl _

theorem calm_mapThreadOf (d : Device) (tk stamp : Nat) (f : Thread → Thread) : Calm d (d.mapThreadOf tk stamp f) :=
  Calm.ite (calm_mapThread ..) (Calm.same)

theorem calm_setThreadState (d : Device) (tk st : Nat) : Calm d (d.setThreadState tk st) :=
  calm_setF ..

theorem calm_markStamp (d : Device) (stamp causeBit : Nat) : Calm d (d.markStamp stamp causeBit) :=
  Calm.ite (calm_markPoison ..) (.refl _)

theorem calm_markOwner (d : Device) (x : Thread) (causeBit : Nat) : Calm d (d.markOwner x causeBit) :=
  calm_markStamp ..

theorem calm_noteFences (d : Device) (tk : Nat) : Calm d (d.noteFences tk) :=
  Calm.ite (Calm.same) (.refl _)

theorem calm_commitUnit (d : Device) (tk stamp : Nat) : Calm d (d.commitUnit tk stamp) := by
  unfold Device.commitUnit
  split
  · exact .refl _
  · exact (Calm.ite ((calm_setF ..).trans (calm_noteFences ..)) (.refl _)).trans ((calm_bump ..).trans (calm_mapThreadOf ..))

theorem calm_lateUnit (d : Device) (tk stamp : Nat) : Calm d (d.lateUnit tk stamp) := by
  unfold Device.lateUnit
  split
  · exact .refl _
  · exact ((calm_bump ..).trans (calm_markOwner ..)).trans (calm_mapThreadOf ..)

theorem calm_setQuarter (d : Device) (k r : Nat) (x : Option Quarter) : Calm d (d.setQuarter k r x) :=
  Calm.same

theorem calm_resetQuarter (d : Device) (k r : Nat) (writer : Option (Nat × Nat)) : Calm d (d.resetQuarter k r writer) :=
  (Calm.same).trans (calm_setQuarter ..)

theorem calm_clearCache (d : Device) : Calm d d.clearCache := .ofParts (cache := fun _ => rfl)

theorem calm_writeCacheLine (d : Device) (line : Nat) (u : DUnit) (lap : Option Nat) :
    Calm d (d.writeCacheLine line u lap) :=
  .ofParts (cache := fun h => wf_putUnit h ..)

theorem calm_readCacheLine (d : Device) (line : Nat) (e : Ecc) : Calm d (d.readCacheLine line e).2 :=
  (calm_eccCount ..).trans (Calm.iteSnd (calm_markPoison ..) (Calm.iteSnd (.refl _) (.refl _)))

theorem calm_sendCredit (d : Device) (tk : Nat) : Calm d (d.sendCredit tk) := by
  unfold Device.sendCredit
  split
  · exact .refl _
  · exact Calm.ite (.refl _) ((calm_setThread ..).trans (calm_sendMessage ..))

theorem calm_offerCells (d : Device) : Calm d d.offerCells :=
  Calm.foldl (fun _ _ => calm_sendCredit ..) _ _

theorem calm_takeRing (d : Device) (k r : Nat) (e : Ecc) : Calm d (d.takeRing k r e).2 := by
  unfold Device.takeRing
  extract_lets +onlyGivenNames w q m line d1
  have h1 : Calm d d1 := calm_setQuarter ..
  clear_value d1
  refine h1.trans (Calm.iteSnd ((calm_readCacheLine d1 line e).trans ?_) ((calm_bump ..).trans (calm_markPoison ..)))
  generalize d1.readCacheLine line e = a
  obtain ⟨u, d2⟩ := a
  dsimp -zeta only
  extract_lets +onlyGivenNames _ d3 d4
  have h3 : Calm d2 d3 := .same
  have h4 : Calm d3 d4 := by
    unfold d4
    clear_value d3
    split
    · exact Calm.ite ((calm_mapThread ..).trans (calm_sendCredit ..)) (.refl _)
    · exact .refl _
  exact h3.trans h4

theorem calm_drainLate (d : Device) (tk stamp : Nat) : Calm d (d.drainLate tk stamp) :=
  (calm_bump ..).trans (calm_markStamp ..)

theorem calm_stopThread (d : Device) (tk : Nat) (c : StopCause) : Calm d (d.stopThread tk c) :=
  Calm.ite (calm_mapThread ..) (.refl _)

theorem calm_stopThreads (d : Device) (c : StopCause) : Calm d (d.stopThreads c) :=
  Calm.foldl (fun _ _ => calm_stopThread ..) _ _

theorem calm_idleThreads (d : Device) : Calm d d.idleThreads := by
  unfold Device.idleThreads
  extract_lets +onlyGivenNames e2
  refine Calm.trans (b := e2) (Calm.foldl (fun _ _ => calm_setF ..) _ _) ?_
  clear_value e2
  exact Calm.same

end Sys2Proof.Machine
end

section
/-! PROOFS. What the operations of `Sys2Proof/Machine/Tasks.lean` keep. -/

namespace Sys2Proof.Machine

open Sys2Proof

set_option Elab.async false -- one thread: there are some 800 short proofs

theorem calm_mapTask (d : Device) (id : Nat) (f : Task → Task) : Calm d (d.mapTask id f) :=
  Calm.same

theorem calm_dropTask (d : Device) (id : Nat) : Calm d (d.dropTask id) :=
  Calm.same

theorem calm_reevaluate (d : Device) : Calm d d.reevaluate :=
  calm_noteEval ..

theorem calm_refreshPend (d : Device) (n : Nat) : Calm d (d.refreshPend n) :=
  Calm.ite (calm_setF ..) (.refl _)

theorem calm_dueAt (d : Device) (g : Nat) (a : DueAct) : Calm d (d.dueAt g a) :=
  Calm.same

theorem calm_sendFlood (d : Device) (typ : Nat) (words : List Nat) (from_ : Option Nat) :
    Calm d (d.sendFlood typ words from_) := by
  unfold Device.sendFlood
  split
  · exact .refl _
  · exact Calm.foldl (fun _ _ => Calm.ite (calm_sendControl ..) (calm_sendMessage ..)) _ _

theorem calm_noteFlood (d : Device) (typ seq : Nat) : Calm d (d.noteFlood typ seq) :=
  Calm.same

theorem calm_originate (d : Device) (typ : Nat) (words : List Nat) : Calm d (d.originate typ words) :=
  ((Calm.same).trans (calm_noteFlood ..)).trans (calm_sendFlood ..)

theorem calm_sendUp (d : Device) (typ : Nat) (words : List Nat) : Calm d (d.sendUp typ words) :=
  Calm.elim (.refl _) (fun _ => calm_sendMessage ..)

theorem calm_relayUp (d : Device) (typ : Nat) (words : List Nat) : Calm d (d.relayUp typ words) :=
  Calm.elim (.refl _) (fun _ => calm_sendControl ..)

theorem calm_countEnd (d : Device) (status : Nat) : Calm d (d.countEnd status) :=
  (calm_bump ..).trans (Calm.ite (calm_bump ..) (Calm.ite (calm_bump ..) (Calm.ite (calm_bump ..) (.refl _))))

theorem calm_endContext (d : Device) (t : Task) (status fin : Nat) : Calm d (d.endContext t status fin) :=
  Calm.ite ((((calm_setF ..).trans (calm_setF ..)).trans (calm_setReg ..)).trans ((calm_setF ..).trans
    (calm_refreshPend ..))) (.refl _)

theorem calm_putRecord (d : Device) (t : Task) (e : EndRecord) (fin : Nat) : Calm d (d.putRecord t e fin) :=
  ((((((calm_dropTask ..).trans (calm_countEnd ..)).trans (calm_endContext ..)).trans (calm_hostWrite ..)).trans
    (calm_setReg ..)).trans (calm_hostWrite ..)).trans (Calm.ite (calm_dueAt ..) (.refl _))

theorem calm_endUnstarted (d : Device) (t : Task) (e : EndRecord) (fin : Nat) : Calm d (d.endUnstarted t e fin) :=
  Calm.ite ((calm_dropTask ..).trans (calm_countEnd ..)) (((calm_mapTask ..).trans (calm_dueAt ..)).trans
    (calm_refreshPend ..))

theorem calm_recordUnstarted (d : Device) (t : Task) (status fin : Nat) : Calm d (d.recordUnstarted t status fin) :=
  calm_endUnstarted ..

theorem calm_settleHead (d : Device) (n g : Nat) : Calm d (d.settleHead n g) := by
  unfold Device.settleHead
  split
  · exact .refl _
  split
  · exact .refl _
  · exact Calm.ite (.refl _) (Calm.ite (calm_recordUnstarted ..) (((calm_mapTask ..).trans (calm_refreshPend ..)).trans
      (calm_noteEval ..)))

theorem calm_nextHead (d : Device) (n g : Nat) : Calm d (d.nextHead n g) :=
  Calm.ite (calm_dueAt ..) (calm_settleHead ..)

theorem calm_setTally (d : Device) (p v : Nat) : Calm d (d.setTally p v) :=
  calm_setReg ..

theorem calm_setErrs (d : Device) (es : List Word) : Calm d (d.setErrs es) := by
  unfold Device.setErrs
  extract_lets +onlyGivenNames _ e2
  refine Calm.trans (b := e2) (calm_setReg ..) ?_
  clear_value e2
  exact Calm.same

theorem calm_tallyError (d : Device) (kind dev : Nat) (ctx vid phys : Nat) : Calm d (d.tallyError kind dev ctx vid phys) :=
  calm_setErrs ..

theorem calm_tallyTouched (d : Device) (p : Nat) : Calm d (d.tallyTouched p) :=
  calm_noteEval ..

theorem calm_setAdded (d : Device) (p n : Nat) (sat : Bool) : Calm d (d.setAdded p n sat) :=
  Calm.same

theorem calm_addTally (d : Device) (p n dev : Nat) : Calm d (d.addTally p n dev) :=
  (((calm_setAdded ..).trans (calm_setTally ..)).trans (calm_tallyTouched ..)).trans (Calm.ite ((calm_bump ..).trans
    (calm_tallyError ..)) (.refl _))

theorem calm_undoSaturation (d : Device) (p : Nat) : Calm d (d.undoSaturation p) :=
  Calm.ite (.refl _) ((calm_setReg ..).trans (calm_setErrs ..))

theorem calm_writeTally (d : Device) (p : Nat) (v : BitVec 32) : Calm d (d.writeTally p v) :=
  Calm.ite (calm_bump ..) ((((calm_undoSaturation ..).trans (calm_setTally ..)).trans (calm_tallyTouched ..)).trans
    (Calm.ite (.refl _) ((calm_setAdded ..).trans (calm_addTally ..))))

theorem calm_returnThresholds (d : Device) (t : Task) (g : Nat) : Calm d (d.returnThresholds t g) :=
  Calm.ite (.refl _) (calm_dueAt ..)

theorem calm_loadIdleWheels (d : Device) : Calm d d.loadIdleWheels :=
  Calm.foldl (fun _ _ => calm_setReg ..) _ _

theorem calm_armIdle (d : Device) (g : Nat) : Calm d (d.armIdle g) :=
  Calm.ite (.refl _) (Calm.same)

theorem calm_rearmIdle (d : Device) (g : Nat) : Calm d (d.rearmIdle g) :=
  Calm.ite (.refl _) (calm_armIdle ..)

theorem calm_freeDome (d : Device) (g : Nat) : Calm d (d.freeDome g) :=
  Calm.same

theorem calm_cancelStart (d : Device) (r : Run) (e : EndRecord) (fin : Nat) : Calm d (d.cancelStart r e fin) := by
  unfold Device.cancelStart
  split
  · exact calm_freeDome ..
  · exact (((calm_returnThresholds ..).trans (calm_freeDome ..)).trans (calm_endUnstarted ..)).trans (calm_armIdle ..)

theorem calm_floodAbort (d : Device) (ctx g : Nat) : Calm d (d.floodAbort ctx g) :=
  Calm.ite (.refl _) ((Calm.same).trans (calm_originate ..))

theorem calm_faultTask (d : Device) (g : Nat) : Calm d (d.faultTask g) := by
  unfold Device.faultTask
  split
  · exact .refl _
  · split
    · exact .refl _
    · split
      · exact Calm.ite (((calm_returnThresholds ..).trans (calm_mapTask ..)).trans ((calm_setRun ..).trans
          (calm_floodAbort ..))) (calm_cancelStart ..)
      · exact Calm.ite (calm_setRun ..) (((calm_setRun ..).trans (calm_stopThreads ..)).trans (Calm.ite (.refl _)
          (Calm.ite (calm_floodAbort ..) (calm_sendUp ..))))
      · exact calm_setRun ..
      · exact .refl _

theorem calm_abortContext (d : Device) (n g : Nat) (queuedToo : Bool) : Calm d (d.abortContext n g queuedToo) := by
  unfold Device.abortContext
  extract_lets +onlyGivenNames later d1
  have h1 : Calm d d1 := by
    unfold d1
    cases d.ctxTasks n with
    | nil => exact .refl _
    | cons t _ =>
      dsimp only
      split
      iterate 3 exact ((calm_returnThresholds ..).trans (calm_recordUnstarted ..)).trans (calm_rearmIdle ..)
      · exact Calm.elim (.refl _) (fun _ => calm_cancelStart ..)
      · exact (calm_mapRun ..).trans (calm_stopThreads ..)
      · exact calm_mapRun ..
      · exact .refl _
  exact h1.trans (Calm.ite (Calm.foldl (fun _ _ => calm_recordUnstarted ..) _ _) (.refl _))

theorem calm_abortClusterLocal (d : Device) (n : Nat) : Calm d (d.abortClusterLocal n) := by
  unfold Device.abortClusterLocal
  extract_lets +onlyGivenNames _ e2
  split
  · exact Calm.same
  · split
    · exact Calm.same
    split
    · exact ((Calm.elim (Calm.same) (fun _ => (Calm.same).trans (calm_returnThresholds ..))).trans
        (calm_mapTask ..)).trans (calm_setRun ..)
    · exact ((Calm.same).trans (calm_setRun ..)).trans (calm_stopThreads ..)
    · exact (Calm.same).trans (calm_setRun ..)
    · exact Calm.same

theorem calm_dropTables (d : Device) : Calm d d.dropTables :=
  Calm.same

theorem calm_ctxEcc (d : Device) (n w : Nat) (e : Ecc) (mark : Bool) : Calm d (d.ctxEcc n w e mark) :=
  Calm.ite (((calm_setReg ..).trans (calm_uncorrected ..)).trans (Calm.ite (calm_markPoison ..) (.refl _))) (Calm.ite
    (calm_corrected ..) (.refl _))

theorem calm_act (d : Device) (g : Nat) (x2 : DueAct) : Calm d (d.act g x2) := by
  unfold Device.act
  split
  · split
    · exact (calm_putRecord ..).trans (calm_nextHead ..)
    · exact .refl _
  · exact calm_msix ..
  · exact Calm.foldl (fun _ _ => calm_addTally ..) _ _
  · exact calm_settleHead ..
  · exact calm_writeTally ..
  · exact calm_drainLate ..

end Sys2Proof.Machine
end

section
/-! PROOFS. What the operations of `Sys2Proof/Machine/HbmOps.lean` keep. -/

namespace Sys2Proof.Machine

open Sys2Proof

set_option Elab.async false -- one thread: there are some 800 short proofs

theorem calm_setPc (d : Device) (pk : Nat) (x : PseudoChannel) : Calm d (d.setPc pk x) :=
  Calm.same

theorem calm_stackRead (d : Device) (u : Nat) (e1 : Ecc) (e2 : Ecc) : Calm d (d.stackRead u e1 e2).2 :=
  Calm.iteSnd (Calm.ite (calm_corrected ..) (.refl _)) ((Calm.ite ((Calm.ite (calm_corrected ..) (.refl _)).trans
    (calm_corrected ..)) (Calm.ite (calm_corrected ..) (.refl _))).trans (Calm.iteSnd (calm_bump ..) (calm_uncorrected ..)))

theorem calm_directRead (d : Device) (u : Nat) (e1 : Ecc) (e2 : Ecc) : Calm d (d.directRead u e1 e2).2 := by
  unfold Device.directRead
  split
  · exact .refl _
  split
  · exact Calm.iteSnd (calm_bump ..) (calm_bump ..)
  · exact calm_stackRead ..

theorem calm_staleFills (d : Device) (u : Nat) : Calm d (d.staleFills u) := by
  refine Calm.ite (.ofParts (txns := fun h t ht => ?_)) (.refl _)
  obtain ⟨x, hx, rfl⟩ := List.mem_map.1 ht
  split <;> exact h x hx

theorem calm_queueWrite (d : Device) (u : Nat) (x : DUnit) (be : Word) (sched : Bool) :
    Calm d (d.queueWrite u x be sched) := by
  unfold Device.queueWrite
  extract_lets +onlyGivenNames _ _ _ _ _ e2
  refine Calm.trans (b := e2) (calm_setPc ..) ?_
  clear_value e2
  exact (Calm.same).trans (calm_staleFills ..)

theorem calm_unmapped (d : Device) : Calm d d.unmapped :=
  (calm_bump ..).trans (calm_markPoison ..)

theorem calm_compareRead (d : Device) (pk : Nat) (r : RdEntry) : Calm d (d.compareRead pk r) := by
  unfold Device.compareRead
  split
  · exact calm_deliver ..
  extract_lets +onlyGivenNames _
  split
  · exact calm_setPc ..
  · exact Calm.ite ((calm_bump ..).trans (calm_deliver ..)) ((calm_bump ..).trans (calm_setPc ..))

theorem calm_comparePc (d : Device) (pk : Nat) : Calm d (d.comparePc pk) :=
  Calm.ite (.refl _) ((calm_setPc ..).trans (Calm.foldl (fun _ _ => calm_compareRead ..) _ _))

theorem calm_compareReads (d : Device) : Calm d d.compareReads :=
  Calm.foldl (fun _ _ => calm_comparePc ..) _ _

theorem calm_discardLate (d : Device) (t : Txn) (i : Nat) : Calm d (d.discardLate t i) := by
  unfold Device.discardLate
  split
  · exact (calm_lateUnit ..).trans ((calm_mapTxn _ _ _ (by intros; rfl)))
  · exact .refl _

end Sys2Proof.Machine
end

section
/-! PROOFS. What the operations of `Sys2Proof/Machine/Dops.lean` keep. -/

namespace Sys2Proof.Machine

open Sys2Proof

set_option Elab.async false -- one thread: there are some 800 short proofs

theorem calm_setGroups (d : Device) (f : Nat → List (Nat × Option Nat)) : Calm d (d.setGroups f) := by
  unfold Device.setGroups
  exact .same

theorem calm_rampUp (d : Device) (tr code : Nat) : Calm d (d.rampUp tr code) :=
  calm_setGroups ..

theorem calm_rampDownFrom (d : Device) (td : Nat) : Calm d (d.rampDownFrom td) :=
  calm_setGroups ..

theorem calm_rampDown (d : Device) : Calm d d.rampDown :=
  calm_rampDownFrom ..

end Sys2Proof.Machine
end

section
/-! PROOFS. What the operations of `Sys2Proof/Machine/Matrix.lean` keep. -/

namespace Sys2Proof.Machine

open Sys2Proof

set_option Elab.async false -- one thread: there are some 800 short proofs

theorem calm_busClock (d : Device) (n x : Nat) : Calm d (d.busClock n x) := by
  unfold Device.busClock
  exact calm_mapSpire ..

theorem calm_convert (d : Device) (p : Dop) (n x : Nat) : Calm d (d.convert p n x) := by
  unfold Device.convert
  extract_lets +onlyGivenNames _
  split
  · exact .refl _
  · exact calm_mapSpire ..

theorem calm_takeProducts (d : Device) (p : Dop) (n x pass : Nat) (q : Pass) (m : Nat) :
    Calm d (d.takeProducts p n x pass q m) :=
  (Calm.ite (calm_bump ..) (.refl _)).trans (Calm.ite (calm_mapSpire ..) (calm_mapSpire ..))

theorem calm_mxCapture (d : Device) (n : Nat) (w : Word) : Calm d (d.mxCapture n w) :=
  Calm.ite (.refl _) (calm_setReg ..)

theorem calm_rckError (d : Device) (n : Nat) (w : Word) : Calm d (d.rckError n w) :=
  (Calm.ite (.refl _) (calm_setReg ..)).trans (Calm.ite (.refl _) ((((calm_bump ..).trans (calm_bump ..)).trans
    (calm_markPoison ..)).trans (calm_mapSpire ..)))

theorem calm_flagIrq (d : Device) (p : Dop) : Calm d (d.flagIrq p) := by
  unfold Device.flagIrq
  split
  · exact .refl _
  · split
    · exact .refl _
    · exact Calm.ite ((calm_setRun ..).trans (calm_msix ..)) (.refl _)

theorem calm_compareCells (d : Device) (p : Dop) (n : Nat) (c : ClosedGroup) : Calm d (d.compareCells p n c) := by
  unfold Device.compareCells
  split
  · exact calm_rckError ..
  · exact .refl _

theorem calm_addGroup (d : Device) (p : Dop) (n : Nat) (c : ClosedGroup) : Calm d (d.addGroup p n c) := by
  unfold Device.addGroup
  extract_lets +onlyGivenNames e start sp cells outs d1 d2 fl d3 event d4
  have h2 : Calm d d2 := (calm_setSpire ..).trans (Calm.ite (calm_markConsumed ..) (.refl _))
  have h3 : Calm d2 d3 := calm_mxFlags ..
  have h4 : Calm d3 d4 := by
    unfold d4
    split
    · exact calm_mxCapture ..
    · exact .refl _
  exact ((h2.trans h3).trans h4).trans (Calm.ite (.refl _) (calm_flagIrq ..))

theorem calm_compareSpire (d : Device) (p : Dop) (n : Nat) (c : ClosedGroup) : Calm d (d.compareSpire p n c) :=
  (Calm.ite (.refl _) (calm_rckError ..)).trans (Calm.ite (calm_setF ..) (.refl _))

theorem calm_closeStages (d : Device) (n x : Nat) : Calm d (d.closeStages n x) := by
  unfold Device.closeStages
  extract_lets +onlyGivenNames _ e2
  refine Calm.trans (b := e2) (calm_mapSpire ..) ?_
  clear_value e2
  refine Calm.foldl (fun _ _ => ?_) _ _
  split
  · exact .refl _
  · exact Calm.ite (calm_compareCells ..) (Calm.ite (calm_addGroup ..) (Calm.ite (calm_compareSpire ..) (.refl _)))

theorem calm_loadDrain (d : Device) (p : Dop) (n x : Nat) : Calm d (d.loadDrain p n x) :=
  (Calm.ite ((((Calm.ite ((calm_bump ..).trans (calm_cfgIntegrity ..)) (.refl _)).trans (calm_bump ..)).trans
    (calm_bump ..)).trans (calm_setF ..)) (Calm.ite ((calm_bump ..).trans (calm_cfgIntegrity ..)) (.refl _))).trans
      (calm_setSpire ..)

theorem calm_mxClock (d : Device) (n x : Nat) : Calm d (d.mxClock n x) := by
  unfold Device.mxClock
  refine (calm_closeStages d n x).trans (Calm.foldl (fun d p => ?_) _ _)
  extract_lets +onlyGivenNames d1 d2 d3
  have h2 : Calm d d2 := (Calm.ite (calm_loadDrain ..) (.refl _)).trans (Calm.ite (calm_mapSpire ..) (.refl _))
  have h3 : Calm d2 d3 := by
    unfold d3
    split
    · exact Calm.ite (calm_takeProducts ..) (.refl _)
    · exact .refl _
  exact (h2.trans h3).trans (calm_convert ..)

theorem calm_mxAll (d : Device) (x : Nat) : Calm d (d.mxAll x) :=
  Calm.ite (.refl _) (Calm.foldl (fun _ _ => (calm_mxClock ..).trans (calm_busClock ..)) _ _)

end Sys2Proof.Machine
end

section
/-! PROOFS. What the operations of `Sys2Proof/Machine/VxOps.lean` keep. -/

namespace Sys2Proof.Machine

open Sys2Proof

set_option Elab.async false -- one thread: there are some 800 short proofs

theorem calm_effect (d : Device) (n : Nat) (v0 : Vx) (e : VxEffect) : Calm d (d.effect n v0 e) := by
  unfold Device.effect
  split
  · exact calm_mapVx ..
  · exact calm_mapVx ..
  · exact (calm_vxFlags ..).trans (calm_mapVx ..)
  · exact calm_mapVx ..
  · exact Calm.foldl (fun _ _ => calm_storePiece ..) _ _
  · exact .refl _

theorem calm_commitVx (d : Device) (n x : Nat) : Calm d (d.commitVx n x) :=
  (calm_mapVx ..).trans (Calm.foldl (fun _ _ => calm_effect ..) _ _)

theorem calm_claimBus (d : Device) (n b t : Nat) : Calm d (d.claimBus n b t) := by
  unfold Device.claimBus
  split
  · exact .refl _
  · exact calm_mapVx ..

theorem calm_raiseClashes (d : Device) (n x : Nat) : Calm d (d.raiseClashes n x) :=
  (calm_mapVx ..).trans (Calm.foldl (fun _ _ => (calm_bump ..).trans (calm_vxFault ..)) _ _)

theorem calm_losePort (d : Device) (n x : Nat) : Calm d (d.losePort n x) :=
  Calm.ite (.refl _) (calm_mapVx ..)

theorem calm_effectOf (d : Device) (n : Nat) (p : Prog) (e : VxEffect) : Calm d (d.effectOf n p e) :=
  calm_effect ..

theorem calm_pend (d : Device) (n : Nat) (p : Prog) (due : Nat) (bus : Option (Nat × Nat)) (e : VxEffect) :
    Calm d (d.pend n p due bus e) :=
  calm_mapVx ..

theorem calm_clashAt (d : Device) (n t : Nat) (p : Prog) : Calm d (d.clashAt n t p) :=
  calm_mapVx ..

theorem calm_doLoad (d : Device) (n bs : Nat) (w : VxWord) (env : VxEnv) (p : Prog) (a : VxAccess) (addr : BitVec 12) :
    Calm d (d.doLoad n bs w env p a addr).2 := by
  unfold Device.doLoad
  extract_lets +onlyGivenNames f z at_
  generalize ha : (accessParts w bs (32 * z)).foldl _ ([], d.claimBus n a.bus (bs + 1)) = acc
  have h1 : Calm (d.claimBus n a.bus (bs + 1)) acc.2 := by
    rw [← ha]
    exact Calm.foldlPair fun acc q =>
      Calm.iteSnd (calm_clashAt ..) (calm_loadBytes acc.2 n (at_ + q.1) q.2.1 a.bus (q.1 / 8) env.ecc)
  obtain ⟨bytes, d1⟩ := acc
  refine ((calm_claimBus ..).trans h1).trans ?_
  dsimp -zeta only
  extract_lets +onlyGivenNames v use d2
  exact Calm.ite ((calm_vxFlags ..).trans (calm_pend ..)) (Calm.ite (calm_pend ..) (.refl _))

theorem calm_doCoef (d : Device) (n : Nat) (w : VxWord) (env : VxEnv) (addr : BitVec 12) :
    Calm d (d.doCoef n w env addr).2 := by
  unfold Device.doCoef
  extract_lets +onlyGivenNames vec a
  exact calm_coefWords d n a (if vec then 32 else 1) env.ecc

theorem calm_doStore (d : Device) (n bs : Nat) (w : VxWord) (env : VxEnv) (p : Prog) (a : VxAccess) (addr : BitVec 12)
  (bytes : List SByte) : Calm d (d.doStore n bs w env p a addr bytes) :=
  (calm_claimBus ..).trans (Calm.foldl (fun _ _ => Calm.ite (Calm.ite ((calm_clashAt ..).trans (calm_raiseClashes ..))
    (calm_effectOf ..)) (Calm.ite (calm_clashAt ..) (calm_pend ..))) _ _)

theorem calm_operate (d : Device) (n bs : Nat) (w : VxWord) (p : Prog) (r : Reads) : Calm d (d.operate n bs w p r) := by
  have hp : ∀ (d : Device) b u x, Calm d (d.pend n p b u x) := fun d b u x => calm_pend ..
  have hf : ∀ (d : Device) fl b u x, Calm d ((d.vxFlags n fl).pend n p b u x) := fun d fl b u x =>
    (calm_vxFlags ..).trans (hp ..)
  unfold Device.operate
  extract_lets +onlyGivenNames v o sa sb ds a b use ddue out accPend
  have ha : ∀ op vs pois, Calm d (accPend op vs pois) := fun op vs pois => hp ..
  refine Calm.ite (.refl _) (Calm.ite ?_ (Calm.ite (hp ..) (Calm.ite ?_ (Calm.ite (hp ..) (Calm.ite (hf ..)
    (Calm.ite ((ha ..).trans (calm_vxFlags ..)) (Calm.ite ((ha ..).trans (calm_vxFlags ..)) (Calm.ite (ha ..)
    (Calm.ite (ha ..) (Calm.ite (ha ..) (Calm.ite (hp ..) (Calm.ite (ha ..) (Calm.ite ?_ (.refl _))))))))))))))
  · exact Calm.ite (hp ..) (((calm_mapSpire ..).trans (Calm.ite (calm_markConsumed ..) (.refl _))).trans (hp ..))
  · cases plainMove v r w with
    | some reg => exact hp ..
    | none => exact hf ..
  · exact hf ..

theorem calm_storeData (d : Device) (n : Nat) (w : VxWord) (p : Prog) (a : VxAccess) (r : Reads) :
    Calm d (d.storeData n w p a r).2 := by
  unfold Device.storeData
  extract_lets +onlyGivenNames v f o sh s vs t
  refine .iteSnd (calm_vxFlags ..) (.iteSnd (calm_vxFlags ..) (.iteSnd (.refl _) (.iteSnd (.iteSnd ?_ ?_) (.iteSnd
    (.refl _) ?_))))
  · split
    next bs fl _ =>
    extract_lets +onlyGivenNames d1 buf
    have h1 : Calm d d1 := calm_vxFlags ..
    clear_value d1
    refine h1.trans ?_
    split
    · dsimp only; exact calm_mapVx ..
    · dsimp only; exact calm_mapVx ..
  · exact calm_vxFlags ..
  · dsimp only; exact calm_mapVx ..

theorem calm_issueVector (d : Device) (n bs : Nat) (w : VxWord) (env : VxEnv) (p : Prog) :
    Calm d (d.issueVector n bs w env p) := by
  unfold Device.issueVector
  extract_lets +onlyGivenNames v f r0 addr
  generalize ha : (accesses w).foldl _ (r0, d) = acc
  have h1 : Calm d acc.2 := by
    rw [← ha]
    exact Calm.foldlPair fun acc a => Calm.iteSnd (.refl _) (calm_doLoad acc.2 n bs w env p a (addr a.ap))
  clear ha
  obtain ⟨r1, d1⟩ := acc
  refine h1.trans ?_
  clear h1
  dsimp -zeta only
  generalize ha : (if w.ck = 0 then (r1, d1) else _) = acc
  have h2 : Calm d1 acc.2 := by
    rw [← ha]
    exact Calm.iteSnd (.refl _) (calm_doCoef d1 n w env (addr w.cap.toNat))
  clear ha
  obtain ⟨r2, d2⟩ := acc
  refine h2.trans ?_
  clear h2
  dsimp -zeta only
  generalize ha : (accesses w).foldl _ (v.ap, d2) = acc
  have h3 : Calm d2 acc.2 := by
    rw [← ha]
    refine Calm.foldlPair fun acc a => Calm.iteSnd ?_ (.refl _)
    refine (calm_storeData acc.2 n w p a r2).trans ?_
    generalize acc.2.storeData n w p a r2 = r
    obtain ⟨bytes, e⟩ := r
    cases bytes with
    | none => exact .refl _
    | some bytes =>
      exact Calm.ite ((calm_claimBus ..).trans (Calm.ite (calm_clashAt ..) (calm_pend ..))) (calm_doStore ..)
  clear ha
  obtain ⟨ap, d3⟩ := acc
  refine h3.trans ((calm_operate ..).trans (Calm.foldl (fun d i => ?_) _ _))
  exact Calm.ite (.refl _) (calm_pend ..)

theorem calm_dopEnded (d : Device) (op x : Nat) : Calm d (d.dopEnded op x) := by
  unfold Device.dopEnded
  extract_lets +onlyGivenNames _ e2 e2
  refine Calm.trans (b := e2) (Calm.ite ((Calm.same).trans (calm_rampDownFrom ..)) (Calm.same)) ?_
  clear_value e2
  split
  · exact Calm.ite (Calm.same) (.refl _)
  · exact .refl _

theorem calm_endProgram (d : Device) (n x : Nat) (p : Prog) (halted : Bool) : Calm d (d.endProgram n x p halted) :=
  (Calm.ite ((calm_mapVx ..).trans (calm_mapSpire ..)) (calm_mapVx ..)).trans (Calm.ite (calm_dopEnded ..) (.refl _))

theorem calm_startProgram (d : Device) (n x : Nat) (kind : ProgKind) (op pc : Nat) :
    Calm d (d.startProgram n x kind op pc) := by
  unfold Device.startProgram
  extract_lets +onlyGivenNames d1
  have h1 : Calm d d1 := by
    unfold d1
    cases (d.vx n).prog with
    | none => exact .refl _
    | some p => exact (calm_vxFault ..).trans (calm_endProgram ..)
  clear_value d1
  exact h1.trans (calm_mapVx ..)

theorem calm_issueWord (d : Device) (n x : Nat) (env : VxEnv) (p : Prog) : Calm d (d.issueWord n x env p) := by
  unfold Device.issueWord
  extract_lets +onlyGivenNames _
  split
  · exact calm_endProgram ..
  extract_lets +onlyGivenNames _ _ e2
  refine Calm.trans (b := e2) (calm_mapVx ..) ?_
  clear_value e2
  extract_lets +onlyGivenNames _
  split
  · exact calm_mapVx ..
  split
  · exact calm_endProgram ..
  · exact Calm.ite (calm_mapVx ..) (calm_mapVx ..)
  · exact (calm_pend ..).trans (calm_mapVx ..)
  · exact (calm_pend ..).trans (calm_mapVx ..)
  · exact Calm.ite ((calm_mapVx ..).trans (calm_mapVx ..)) ((calm_issueVector ..).trans (calm_mapVx ..))

theorem calm_actHeld (d : Device) (n x : Nat) : Calm d (d.actHeld n x) := by
  unfold Device.actHeld
  split
  · exact .refl _
  · exact (calm_mapVx ..).trans (calm_issueVector ..)

theorem calm_vxFaults (d : Device) (n x : Nat) (p : Prog) (fs : List (Nat × Nat)) : Calm d (d.vxFaults n x p fs) :=
  Calm.foldl (fun _ _ => calm_vxFault ..) _ _

theorem calm_vxClock (d : Device) (n x : Nat) (env : VxEnv) : Calm d (d.vxClock n x env) := by
  unfold Device.vxClock
  extract_lets +onlyGivenNames d1 d2
  have h1 : Calm d d1 := by
    simp only [d1]
    split
    · exact .refl _
    · exact (calm_vxFaults ..).trans (Calm.foldl (fun _ _ => calm_claimBus ..) _ _)
  have h2 : Calm d d2 := (h1.trans (calm_losePort ..)).trans (calm_raiseClashes ..)
  have hc : Calm d ((d2.commitVx n x).actHeld n x) := (h2.trans (calm_commitVx ..)).trans (calm_actHeld ..)
  clear_value d2
  split
  · exact hc
  · exact Calm.ite hc ((((h2.trans (calm_vxFaults ..)).trans (calm_commitVx ..)).trans (calm_actHeld ..)).trans
      (calm_issueWord ..))

end Sys2Proof.Machine
end

section
/-! PROOFS. What the operations of `Sys2Proof/Machine/DomeNet.lean` keep. -/

namespace Sys2Proof.Machine

open Sys2Proof

set_option Elab.async false -- one thread: there are some 800 short proofs

theorem calm_copyClock (d : Device) (x : Nat) : Calm d (d.copyClock x) :=
  Calm.ite (.refl _) (Calm.same)

theorem calm_loseClaim (d : Device) (c : Claim) : Calm d (d.loseClaim c) := by
  unfold Device.loseClaim
  refine Calm.trans ?_ (((calm_bump ..).trans (calm_bump ..)).trans (calm_cfgIntegrity ..))
  split
  · exact .same
  · exact .same
  · exact .refl _

theorem calm_meetings (d : Device) (x : Nat) : Calm d (d.meetings x) :=
  Calm.ite (.refl _) (Calm.foldl (fun _ _ => calm_loseClaim ..) _ _)

theorem calm_tileArrives (d : Device) (id i l : Nat) (u : DUnit) : Calm d (d.tileArrives id i l u) := by
  unfold Device.tileArrives
  split
  · exact .refl _
  · exact ((Calm.ite (calm_discardLate ..) (calm_domeWrite ..)).trans ((calm_mapTxn _ _ _ (by intros; rfl)))).trans
      (Calm.ite (calm_respond ..) (.refl _))

theorem calm_unitArrives (d : Device) (u : DomeUnit) (v : DUnit) : Calm d (d.unitArrives u v) := by
  unfold Device.unitArrives
  split
  · exact calm_domeWrite ..
  · exact calm_tileArrives ..
  · extract_lets +onlyGivenNames _ e4
    refine Calm.trans (b := e4) (calm_domeTake ..) ?_
    clear_value e4
    exact Calm.same
  · extract_lets +onlyGivenNames _ e4
    refine Calm.trans (b := e4) (calm_domeTake ..) ?_
    clear_value e4
    exact Calm.same
  · exact calm_deliver ..

theorem calm_unitLeaves (d : Device) (u : DomeUnit) : Calm d (d.unitLeaves u).2 := by
  unfold Device.unitLeaves
  split
  · exact calm_domeRead ..
  · exact .refl _
  · exact .refl _

theorem calm_networkClock (d : Device) (x : Nat) : Calm d (d.networkClock x) := by
  unfold Device.networkClock
  refine Calm.ite (.refl _) ?_
  extract_lets +onlyGivenNames r here _ _ e
  have hr : Calm d r.2 := Calm.foldlPair fun acc u =>
    Calm.iteSnd (.refl _) (Calm.iteSnd (.refl _) (calm_unitLeaves ..))
  clear_value r
  have he : Calm r.2 e := .same
  exact (hr.trans he).trans (Calm.foldl (fun _ _ => calm_unitArrives ..) _ _)

theorem calm_takeB (d : Device) (p : DopPlan) (k m : Nat) : Calm d (d.takeB p k m).2 :=
  Calm.iteSnd (Calm.iteSnd (calm_readCacheLine ..) (calm_takeRing ..)) (((Calm.iteSnd (calm_readCacheLine ..)
    (calm_takeRing ..)).trans (calm_uncorrected ..)).trans (calm_markPoison ..))

theorem calm_takeMore (d : Device) (p : DopPlan) (k fuel : Nat) : Calm d (d.takeMore p k fuel) := by
  induction fuel generalizing d with
  | zero => exact .refl _
  | succ fuel ih => exact ((calm_takeB ..).trans .same).trans (ih _)

theorem calm_northClock (d : Device) (x : Nat) : Calm d (d.northClock x) :=
  Calm.foldl (fun _ _ => Calm.ite (Calm.foldl (fun _ _ => calm_takeMore ..) _ _) (.refl _)) _ _

theorem calm_putStats (d : Device) (op j : Nat) (l : List (List Word × Bool)) : Calm d (d.putStats op j l) :=
  Calm.same

theorem calm_readStats (d : Device) (p : Dop) : Calm d (d.readStats p) :=
  Calm.foldl (fun _ _ => (Calm.ite (calm_markConsumed ..) (.refl _)).trans (calm_putStats ..)) _ _

theorem calm_combineLevel (d : Device) (p : Dop) (l : Nat) : Calm d (d.combineLevel p l) := by
  refine Calm.foldl (fun e j => ?_) _ _
  extract_lets +onlyGivenNames band r
  exact (Calm.foldlSnd (fun _ _ => calm_vxFlags ..) _ ([], e)).trans (calm_putStats ..)

theorem calm_writeStats (d : Device) (p : Dop) : Calm d (d.writeStats p) :=
  Calm.foldl (fun _ _ => Calm.foldl (fun _ _ => Calm.foldl (fun _ _ => Calm.foldl
    (fun _ _ => calm_storePiece ..) _ _) _ _) _ _) _ _

theorem calm_statClock (d : Device) (x : Nat) : Calm d (d.statClock x) := by
  unfold Device.statClock
  refine Calm.foldl (fun _ _ => ?_) _ _
  extract_lets +onlyGivenNames _
  split
  · exact .refl _
  split
  · exact calm_readStats ..
  split
  · exact calm_writeStats ..
  split
  · exact calm_combineLevel ..
  · exact .refl _

theorem calm_headMoves (d : Device) (x : Nat) : Calm d { d with dome := { d.dome with head := x } } := .same

theorem calm_domeHead (d : Device) (x : Nat) : Calm d (d.domeHead x) :=
  Calm.ite (.refl _) (((((((calm_copyClock ..).trans (calm_meetings ..)).trans (calm_networkClock ..)).trans
    (calm_northClock ..)).trans (calm_mxAll ..)).trans (calm_statClock ..)).trans (calm_headMoves ..))

theorem calm_spireClock (d : Device) (n x : Nat) (env : VxEnv) : Calm d (d.spireClock n x env) :=
  (Calm.foldl (fun _ _ => calm_startProgram ..) _ _).trans (calm_vxClock ..)

theorem calm_domeClock (d : Device) (x : Nat) : Calm d (d.domeClock x) :=
  (calm_domeHead ..).trans (Calm.foldl (fun _ _ => Calm.ite (.refl _) (calm_spireClock ..)) _ _)

theorem calm_nextClock (d : Device) : Calm d { d with dome := { d.dome with clock := d.dome.clock + 1 } } := .same

theorem calm_domeRun (d : Device) (k : Nat) : Calm d (d.domeRun k) := by
  induction k generalizing d with
  | zero => exact .refl _
  | succ k ih =>
    unfold Device.domeRun
    exact ((calm_domeClock ..).trans (calm_nextClock _)).trans (ih _)

theorem calm_domeTo (d : Device) (x : Nat) : Calm d (d.domeTo x) :=
  Calm.ite (.refl _) (Calm.ite (calm_domeRun ..) (Calm.same))

end Sys2Proof.Machine
end

section
/-! PROOFS. What the operations of `Sys2Proof/Machine/FabricNet.lean` keep. -/

namespace Sys2Proof.Machine

open Sys2Proof

set_option Elab.async false -- one thread: there are some 800 short proofs

theorem calm_mapFabric (d : Device) (f : Fabric → Fabric) : Calm d (d.mapFabric f) :=
  Calm.same

theorem calm_engage (d : Device) (r g : Nat) : Calm d (d.engage r g) := by
  unfold Device.engage
  exact calm_mapFabric ..

theorem calm_fabricClock (d : Device) (g : Nat) : Calm d (d.fabricClock g) :=
  Calm.ite (.refl _) (calm_mapFabric ..)

end Sys2Proof.Machine
end

section
/-! PROOFS. What the operations of `Sys2Proof/Machine/Time.lean` keep. -/

namespace Sys2Proof.Machine

open Sys2Proof

set_option Elab.async false -- one thread: there are some 800 short proofs

theorem calm_countHeld (d : Device) (n : Nat) : Calm d (d.countHeld n) :=
  Calm.ite (.refl _) (calm_bump ..)

theorem kept_clock (d : Device) (g c : Nat) :
    Kept d { d with belfry := { d.belfry with gcyc := g }, net := { d.net with clock := c } } := .same

theorem kept_gcycStep (d : Device) : Kept d d.gcycStep := by
  unfold Device.gcycStep
  extract_lets +onlyGivenNames g d1 d2 d3
  have h1 : Calm d d1 := (calm_countHeld ..).trans (calm_domeTo ..)
  have h2 : Calm d1 d2 := Calm.ite (.refl _) ((calm_netClock ..).trans (calm_netClock ..))
  have h3 : Calm d2 d3 := calm_fabricClock ..
  clear_value d3
  exact (((h1.trans h2).trans h3).toKept.trans (kept_clock ..)).trans ((calm_compareReads ..).trans
    (calm_offerCells ..)).toKept

theorem kept_clockRun (d : Device) (n : Nat) : Kept d (d.clockRun n) := by
  induction n generalizing d with
  | zero => exact .refl _
  | succ n ih =>
    exact Kept.ite (((calm_countHeld ..).trans (calm_domeTo ..)).toKept.trans .ofParts) ((kept_gcycStep d).trans (ih _))

theorem kept_clockTo (d : Device) (g : Nat) : Kept d (d.clockTo g) :=
  Kept.ite (((calm_offerCells ..).toKept).trans (kept_clockRun ..)) (.refl _)

end Sys2Proof.Machine
end

section
/-! PROOFS. What the operations of `Sys2Proof/Machine/Agenda.lean` keep. -/

namespace Sys2Proof.Machine

open Sys2Proof

set_option Elab.async false -- one thread: there are some 800 short proofs

theorem kept_runDues (d : Device) (g fuel : Nat) : Kept d (d.runDues g fuel) := by
  induction fuel generalizing d with
  | zero => exact .refl _
  | succ fuel ih =>
    unfold Device.runDues
    split
    · exact .refl _
    · exact (((kept_clockTo ..).trans .same).trans (calm_act ..).toKept).trans (ih _)

theorem kept_advance (d : Device) (g : Nat) : Kept d (d.advance g) :=
  Kept.ite ((kept_runDues ..).trans (kept_clockTo ..)) (.refl _)

end Sys2Proof.Machine
end

section
/-! PROOFS. What the operations of `Sys2Proof/Machine/DomeOps.lean` keep. -/

namespace Sys2Proof.Machine

open Sys2Proof

set_option Elab.async false -- one thread: there are some 800 short proofs

theorem calm_startSpires (d : Device) (h : List Word) (start : Nat) : Calm d (d.startSpires h start) := by
  unfold Device.startSpires
  extract_lets +onlyGivenNames plan starts copies spires _ d1
  have h1 : Calm d d1 := .same
  clear_value d1
  refine h1.trans ?_
  cases plan with
  | nil => exact .refl _
  | cons p _ => exact Calm.ite (calm_rampUp ..) (.refl _)

theorem calm_launch (d : Device) (op : Nat) (e : List Word) (t0 : Nat) (env : DopEnv) : Calm d (d.launch op e t0 env) :=
  (Calm.same).trans (Calm.ite (calm_rampUp ..) (.refl _))

end Sys2Proof.Machine
end

section
/-! PROOFS. What the operations of `Sys2Proof/Machine/Lantern.lean` keep. -/

namespace Sys2Proof.Machine

open Sys2Proof

set_option Elab.async false -- one thread: there are some 800 short proofs

theorem calm_testWaits (d e : Device) (ctx : Nat) (ws : List Word) (acc used : List (Nat × Nat))
    (h : d.testWaits ctx ws acc = some (e, used)) : Calm d e := by
  induction ws generalizing d acc with
  | nil =>
    cases h
    exact .refl _
  | cons w ws ih =>
    unfold Device.testWaits at h
    split at h
    · exact ih _ _ h
    split at h
    · cases h
    split at h
    · cases h
    split at h
    · exact (calm_setTally ..).trans (ih _ _ h)
    · exact ih _ _ h

theorem calm_evaluateTask (d : Device) (g : Nat) (t : Task) : Calm d (d.evaluateTask g t) := by
  unfold Device.evaluateTask
  split
  · exact .refl _
  split
  · exact .refl _
  · exact ((calm_testWaits _ _ _ _ _ _ ‹_›).trans (calm_mapTask ..)).trans .same

theorem calm_ctxEccs (d : Device) (n : Nat) (mark : Bool) (es : List (Fin 16 × Bool)) : Calm d (d.ctxEccs n mark es) := by
  induction es generalizing d with
  | nil => exact .refl _
  | cons e es ih => exact (calm_ctxEcc ..).trans (ih _)

theorem calm_evaluateDue (d : Device) (g : Nat) (ecc : List (Fin 49152 × Bool)) : Calm d (d.evaluateDue g ecc) :=
  (Calm.same).trans (Calm.foldl (fun _ _ => (calm_ctxEccs ..).trans (calm_evaluateTask ..)) _ _)

theorem kept_evaluateHeads (d : Device) (ecc : List (Fin 49152 × Bool)) : Kept d (d.evaluateHeads ecc) := by
  unfold Device.evaluateHeads
  extract_lets +onlyGivenNames gs
  cases gs with
  | nil => exact .refl _
  | cons g rest => exact (kept_advance ..).trans (calm_evaluateDue ..).toKept

theorem calm_loadBank (d : Device) (ctx bank : Nat) : Calm d (d.loadBank ctx bank) :=
  Calm.foldl (fun _ _ => calm_setTally ..) _ _

theorem calm_chooseStart (d : Device) (w : Nat) : Calm d (d.chooseStart w) := by
  unfold Device.chooseStart
  split
  · exact .refl _
  · exact Calm.ite (.refl _) ((calm_setRun ..).trans (Calm.ite (calm_originate ..) (.refl _)))

theorem calm_beginRun (d : Device) (t : Task) (r : Run) (ecc : List (Fin 16 × Bool)) : Calm d (d.beginRun t r ecc) := by
  unfold Device.beginRun
  extract_lets +onlyGivenNames e2
  exact (((((calm_mapTask ..).trans (calm_setRun ..)).trans (Calm.same)).trans (calm_ctxEccs ..)).trans
    (calm_loadBank ..)).trans (Calm.ite (calm_chooseStart ..) (calm_requestWake ..))

theorem calm_selectTask (d : Device) (t : Task) (g : Nat) (ecc : List (Fin 16 × Bool)) : Calm d (d.selectTask t g ecc) := by
  unfold Device.selectTask
  extract_lets +onlyGivenNames r l
  exact Calm.trans .same (calm_beginRun _ t r ecc)

theorem kept_selectNext (d : Device) (ecc : List (Fin 16 × Bool)) : Kept d (d.selectNext ecc) := by
  unfold Device.selectNext
  split
  · exact .refl _
  split
  · exact .refl _
  · extract_lets +onlyGivenNames e4
    refine Kept.trans (b := e4) (kept_advance ..) ?_
    clear_value e4
    split
    · exact .refl _
    · exact (calm_selectTask ..).toKept

theorem calm_clearCaptures (d : Device) : Calm d d.clearCaptures := .ofParts (regs := fun h => mapWf_filter h _)

theorem calm_noteDelay (d : Device) (t : Task) (start retries : Nat) : Calm d (d.noteDelay t start retries) :=
  Calm.ite (calm_setReg ..) (.refl _)

theorem kept_startTask (d : Device) (r : Run) (t : Task) (start : Nat) : Kept d (d.startTask r t start) :=
  (((((kept_advance ..).trans ((calm_clearCaptures ..).toKept)).trans ((calm_startSpires ..).toKept)).trans
    ((calm_idleThreads ..).toKept)).trans ((calm_setReg ..).toKept)).trans (((calm_mapTask ..).toKept).trans
      ((calm_noteDelay ..).toKept))

theorem kept_startLocal (d : Device) : Kept d d.startLocal := by
  unfold Device.startLocal
  split
  · exact .refl _
  · split
    · exact Kept.ite ((kept_advance ..).trans (Kept.ite ((calm_setRun ..).toKept) (kept_startTask ..))) (.refl _)
    · exact .refl _

theorem kept_issueStep (d : Device) (stamp : Nat) : Kept d (d.issueStep stamp) :=
  (kept_advance ..).trans ((calm_mapRun ..).toKept)

theorem kept_splitStep (d : Device) : Kept d d.splitStep := by
  unfold Device.splitStep
  split
  · exact .refl _
  · exact (kept_issueStep ..).trans (Kept.foldl (fun _ _ => (calm_setReg ..).toKept) _ _)

theorem kept_endStep (d : Device) : Kept d d.endStep := by
  unfold Device.endStep
  split
  · exact .refl _
  · exact ((kept_issueStep ..).trans ((calm_stopThreads ..).toKept)).trans ((calm_mapTask ..).toKept)

theorem calm_leaveDome (d : Device) (g : Nat) : Calm d (d.leaveDome g) :=
  ((((calm_stopThreads ..).trans (calm_loadIdleWheels ..)).trans (calm_dropTables ..)).trans (calm_rampDown ..)).trans
    (calm_freeDome ..)

theorem calm_finishTask (d : Device) (r : Run) (t : Task) (e : EndRecord) (fin : Nat) : Calm d (d.finishTask r t e fin) := by
  unfold Device.finishTask
  extract_lets +onlyGivenNames e2 e2 e2
  refine Calm.trans (b := e2) ((Calm.ite (((Calm.foldl (fun _ _ => calm_releaseQueue ..) _ _).trans
    (calm_dropTask ..)).trans (calm_countEnd ..)) ((Calm.foldl (fun _ _ => calm_releaseQueue ..) _ _).trans
      (calm_putRecord ..))).trans (calm_leaveDome ..)) ?_
  clear_value e2
  exact Calm.ite (Calm.same) (((Calm.same).trans (calm_nextHead ..)).trans (calm_armIdle ..))

theorem calm_restartTask (d : Device) (r : Run) (t : Task) (g : Nat) (ecc : List (Fin 16 × Bool)) :
    Calm d (d.restartTask r t g ecc) := by
  unfold Device.restartTask
  extract_lets +onlyGivenNames e2 e2
  refine Calm.trans (b := e2) (((((Calm.foldl (fun _ _ => calm_rewindQueue ..) _ _).trans (calm_stopThreads ..)).trans
    (calm_bump ..)).trans (calm_loadIdleWheels ..)).trans (calm_dropTables ..)) ?_
  clear_value e2
  exact calm_beginRun ..

theorem kept_decideEnd (d : Device) (ecc : List (Fin 16 × Bool)) : Kept d (d.decideEnd ecc) := by
  unfold Device.decideEnd
  split
  · exact .refl _
  · exact Kept.ite (.refl _) ((Kept.ite ((kept_advance ..).trans ((calm_bump ..).toKept)) (kept_advance ..)).trans
      (Kept.ite ((calm_setRun ..).toKept) (Kept.ite ((calm_restartTask ..).toKept) ((calm_finishTask ..).toKept))))

theorem calm_saved (d : Device) (v : Option Save) : Calm d { d with lantern := { d.lantern with save := v } } := .same

theorem kept_saveDone (d : Device) : Kept d d.saveDone := by
  unfold Device.saveDone
  split
  · exact .refl _
  next v _ =>
    have hcells : ∀ d : Device, Calm d ((List.range 16).foldl
        (fun d i => d.setF (Reg.ctxPt v.ctx (i / 2)) (32 * (i % 2)) 32 (d.tally (16 * v.bank + i))) d) := fun d =>
      Calm.foldl (fun _ _ => calm_setF ..) _ _
    exact (kept_advance d v.done).trans
      (((hcells _).trans (calm_saved ..)).trans ((calm_nextHead ..).trans (calm_armIdle ..))).toKept

theorem kept_readyFirst (d : Device) (g : Nat) : Kept d (d.readyFirst g) :=
  (kept_advance ..).trans ((calm_evaluateDue ..).toKept)

theorem kept_idleWarm (d : Device) : Kept d d.idleWarm := by
  unfold Device.idleWarm
  split
  · exact .refl _
  · exact Kept.ite ((kept_readyFirst ..).trans (Kept.ite ((calm_setPower ..).toKept) (.refl _))) (.refl _)

theorem kept_idleCold (d : Device) : Kept d d.idleCold := by
  unfold Device.idleCold
  split
  · exact .refl _
  · extract_lets +onlyGivenNames _ _
    split
    · extract_lets +onlyGivenNames e6
      split
      · extract_lets +onlyGivenNames e8
        refine Kept.trans (b := e8) ((kept_readyFirst ..).trans ((calm_setPower ..).toKept)) ?_
        clear_value e8
        exact Kept.same
      exact kept_readyFirst ..
    exact .refl _

theorem calm_clusterAborted (d : Device) (r : Run) (t : Task) (fin : Nat) : Calm d (d.clusterAborted r t fin) :=
  ((Calm.same).trans (calm_originate ..)).trans (Calm.ite ((((calm_putRecord ..).trans (calm_freeDome ..)).trans
    (calm_nextHead ..)).trans (calm_armIdle ..)) (calm_finishTask ..))

theorem kept_tryClusterAborted (d : Device) : Kept d d.tryClusterAborted := by
  unfold Device.tryClusterAborted
  split
  · exact Kept.ite ((kept_advance ..).trans ((calm_clusterAborted ..).toKept)) (.refl _)
  · exact .refl _

theorem kept_decideAbort (d : Device) (n : Nat) : Kept d (d.decideAbort n) :=
  Kept.ite (.refl _) ((Kept.same).trans ((((calm_originate ..).toKept).trans ((calm_abortClusterLocal ..).toKept)).trans
    (kept_tryClusterAborted ..)))

theorem kept_abortRequest (d : Device) (n : Nat) (queuedToo : Bool) : Kept d (d.abortRequest n queuedToo) :=
  Kept.ite ((Kept.ite (kept_decideAbort ..) ((calm_sendUp ..).toKept)).trans (Kept.ite (Kept.foldl (fun _ _ =>
    (calm_recordUnstarted ..).toKept) _ _) (.refl _))) ((calm_abortContext ..).toKept)

theorem kept_lntAbort (d : Device) (w : BitVec 32) : Kept d (d.lntAbort w) :=
  Kept.ite (.refl _) (kept_abortRequest ..)

theorem kept_abortDone (d : Device) : Kept d d.abortDone := by
  unfold Device.abortDone
  split
  · exact .refl _
  · split
    · split
      · exact .refl _
      extract_lets +onlyGivenNames _ e6 _ _
      split
      · extract_lets +onlyGivenNames e8
        refine Kept.trans (b := e8) ((kept_advance ..).trans ((calm_setRun ..).toKept)) ?_
        clear_value e8
        exact Kept.ite (kept_tryClusterAborted ..) ((Kept.same).trans ((calm_sendUp ..).toKept))
      exact (kept_advance ..).trans ((calm_finishTask ..).toKept)
    · exact Kept.ite (kept_tryClusterAborted ..) (.refl _)

end Sys2Proof.Machine
end

section
/-! PROOFS. What the operations of `Sys2Proof/Machine/Tally.lean` keep. -/

namespace Sys2Proof.Machine

open Sys2Proof

set_option Elab.async false -- one thread: there are some 800 short proofs

theorem calm_writeContext (d : Device) (f n w : Nat) (v : Word) (h : Half) : Calm d (d.writeContext f n w v h) :=
  Calm.ite (calm_bump ..) (Calm.ite (calm_bump ..) (calm_setReg ..))

theorem calm_writeTmap (d : Device) (t u : Nat) (v : BitVec 32) : Calm d (d.writeTmap t u v) :=
  Calm.ite (.refl _) ((calm_setReg ..).trans (calm_noteEval ..))

theorem calm_scheduleSig (d : Device) (g : Sig) : Calm d (d.scheduleSig g) :=
  Calm.same

theorem calm_notePending (d : Device) : Calm d d.notePending :=
  Calm.ite (calm_setF ..) (.refl _)

theorem calm_fenceFault (d : Device) (kind err : Nat) (p : Parked) (park : Nat) : Calm d (d.fenceFault kind err p park) :=
  ((calm_tallyError ..).trans (calm_faultRecord ..)).trans (calm_faultTask ..)

theorem calm_arrive (d : Device) (g : Sig) (fence : Option (Nat × Nat × Nat)) : Calm d (d.arrive g fence) := by
  unfold Device.arrive
  extract_lets +onlyGivenNames _
  split
  · exact calm_scheduleSig ..
  · exact Calm.ite (calm_scheduleSig ..) (Calm.ite ((calm_bump ..).trans (calm_fenceFault ..)) ((Calm.same).trans
      (calm_notePending ..)))

theorem calm_hostSig (d : Device) (w : Word) : Calm d (d.hostSig w) :=
  Calm.ite (.refl _) (Calm.ite ((calm_bump ..).trans (calm_tallyError ..)) (calm_arrive ..))

theorem calm_remoteSignal (d : Device) (m : SignalMsg) : Calm d (d.remoteSignal m) :=
  calm_arrive ..

theorem kept_signalStep (d : Device) : Kept d d.signalStep := by
  unfold Device.signalStep
  split
  · exact .refl _
  · exact (kept_issueStep ..).trans (Kept.ite ((calm_sendMessage ..).toKept) ((calm_arrive ..).toKept))

theorem calm_collectSigs (d : Device) (gs : List Sig) (acc : List (Nat × Nat × Nat)) : Calm d (d.collectSigs gs acc).1 := by
  induction gs generalizing d acc with
  | nil => exact .refl _
  | cons g gs ih =>
    unfold Device.collectSigs
    split
    · exact (calm_bump ..).trans (ih ..)
    split
    · exact ((calm_bump ..).trans (calm_tallyError ..)).trans (ih ..)
    · exact (calm_bump ..).trans (ih ..)

theorem kept_applySignals (d : Device) (ecc : List (Fin 49152 × Bool)) : Kept d (d.applySignals ecc) := by
  unfold Device.applySignals
  split
  · exact .refl _
  · extract_lets +onlyGivenNames _ e4
    exact (((kept_advance ..).trans (Kept.same)).trans (Kept.foldl (fun _ _ => (calm_ctxEccs ..).toKept) _ _)).trans
      (((calm_collectSigs ..).toKept).trans (Kept.foldl (fun _ _ => (calm_addTally ..).toKept) _ _))

theorem kept_releaseFence (d : Device) : Kept d d.releaseFence := by
  unfold Device.releaseFence
  split
  · exact .refl _
  · extract_lets +onlyGivenNames _ e4
    refine Kept.trans (b := e4) (kept_advance ..) ?_
    clear_value e4
    exact (Kept.same).trans ((calm_scheduleSig ..).toKept)

theorem kept_expireFence (d : Device) : Kept d d.expireFence := by
  unfold Device.expireFence
  split
  · exact .refl _
  · extract_lets +onlyGivenNames e4
    exact ((kept_advance ..).trans (Kept.same)).trans (((calm_bump ..).toKept).trans ((calm_fenceFault ..).toKept))

end Sys2Proof.Machine
end

section
/-! PROOFS. What the operations of `Sys2Proof/Machine/NetOps.lean` keep. -/

namespace Sys2Proof.Machine

open Sys2Proof

set_option Elab.async false -- one thread: there are some 800 short proofs

theorem calm_sendPacket (d : Device) (l : Nat) (response : Bool) (header : Line) (us : List DUnit) :
    Calm d (d.sendPacket l response header us) :=
  Calm.same

theorem calm_spilledUnit (d : Device) (i : Nat) (e : Ecc) : Calm d (d.spilledUnit i e).2 := by
  unfold Device.spilledUnit
  extract_lets +onlyGivenNames _
  split
  · exact .refl _
  · exact calm_unmapped ..
  · exact calm_directRead ..

theorem calm_cellUnit (d : Device) (c : QCell) (e : Ecc) : Calm d (d.cellUnit c e).2 := by
  unfold Device.cellUnit
  split
  · exact calm_spilledUnit ..
  · exact (calm_eccCount ..).trans (.refl _)

theorem calm_deliverAll (d : Device) (id i : Nat) (us : List DUnit) : Calm d (d.deliverAll id i us) := by
  induction us generalizing d i with
  | nil => exact .refl _
  | cons u us ih => exact (calm_deliver ..).trans (ih ..)

theorem calm_refuseRead (d : Device) (t : Txn) : Calm d (d.refuseRead t) :=
  ((calm_bump ..).trans ((calm_mapTxn _ _ _ (by intros; rfl)))).trans (calm_deliverAll ..)

theorem calm_hbmRead (d : Device) (id i u : Nat) (sched : Bool) : Calm d (d.hbmRead id i u sched) :=
  (Calm.same).trans (calm_setPc ..)

theorem calm_hbmReads (d : Device) (t : Txn) (as : List Nat) : Calm d (d.hbmReads t as) :=
  Calm.ite (Calm.foldl (fun _ _ => calm_hbmRead ..) _ _) ((Calm.foldl (fun _ _ => calm_unmapped ..) _ _).trans
    (calm_refuseRead ..))

theorem calm_takeWrite (d : Device) (e : WrInput) : Calm d (d.takeWrite e) := by
  unfold Device.takeWrite
  split
  · exact calm_queueWrite ..
  · exact ((Calm.ite (calm_discardLate ..) (Calm.ite (calm_queueWrite ..) ((calm_directRead ..).trans
      (calm_queueWrite ..)))).trans ((calm_mapTxn _ _ _ (by intros; rfl)))).trans (Calm.ite (calm_respond ..) (.refl _))

theorem calm_takeInputs (d : Device) (pk fuel : Nat) : Calm d (d.takeInputs pk fuel) := by
  induction fuel generalizing d with
  | zero => exact .refl _
  | succ fuel ih =>
    unfold Device.takeInputs
    split
    · exact .refl _
    · exact ((calm_setPc ..).trans (calm_takeWrite ..)).trans (ih _)

theorem calm_hbmWrites (d : Device) (t : Txn) (a : Nat) (be : Word) (ecc : Ecc) (reread : Ecc) :
    Calm d (d.hbmWrites t a be ecc reread) :=
  Calm.ite (((Calm.foldl (fun _ _ => calm_unmapped ..) _ _).trans ((calm_mapTxn _ _ _ (by intros; rfl)))).trans
    (calm_respond ..)) ((((Calm.foldl (fun _ _ => calm_unmapped ..) _ _).trans ((calm_mapTxn _ _ _
      (by intros; rfl)))).trans (Calm.foldl (fun _ _ => calm_setPc ..) _ _)).trans (Calm.foldl
        (fun _ _ => calm_takeInputs ..) _ _))

end Sys2Proof.Machine
end

section
/-! PROOFS. What the operations of `Sys2Proof/Machine/Multicast.lean` keep. -/

namespace Sys2Proof.Machine

open Sys2Proof

set_option Elab.async false -- one thread: there are some 800 short proofs

theorem calm_setCopies (d : Device) (cs : List McCopy) : Calm d (d.setCopies cs) :=
  Calm.same

theorem calm_finishCopies (d : Device) : Calm d d.finishCopies := by
  unfold Device.finishCopies
  extract_lets +onlyGivenNames _ _ _ e2
  refine Calm.trans (b := e2) (calm_setCopies ..) ?_
  clear_value e2
  refine Calm.foldl (fun _ _ => ?_) _ _
  split
  · exact calm_respond ..
  · exact .refl _

theorem calm_sendCopy (d : Device) (g l : Nat) (u : DUnit) : Calm d (d.sendCopy g l u) := by
  unfold Device.sendCopy
  exact calm_newTxn ..

theorem calm_offerCopy (d : Device) (c : McCopy) : Calm d (d.offerCopy c) := by
  unfold Device.offerCopy
  split
  · exact .refl _
  · exact ((calm_bump ..).trans (calm_setCopies ..)).trans (Calm.foldl (fun _ _ => calm_sendCopy ..) _ _)

theorem calm_admitCopies (d : Device) (fuel : Nat) : Calm d (d.admitCopies fuel) := by
  induction fuel generalizing d with
  | zero => exact .refl _
  | succ fuel ih =>
    unfold Device.admitCopies
    split
    · exact .refl _
    · exact (Calm.trans (Calm.trans .same (calm_offerCopy ..)) (calm_finishCopies ..)).trans (ih _)

theorem calm_settleCopies (d : Device) : Calm d d.settleCopies :=
  (calm_finishCopies ..).trans (calm_admitCopies ..)

theorem calm_acceptCopy (d : Device) (g o : Nat) : Calm d (d.acceptCopy g o) :=
  (calm_setCopies ..).trans (calm_settleCopies ..)

theorem calm_serveCopies (d : Device) : Calm d d.serveCopies := by
  unfold Device.serveCopies
  refine Calm.foldl (fun _ _ => ?_) _ _
  split
  · exact Calm.ite (((calm_startMarker ..).trans (calm_pushUnit ..)).trans (calm_acceptCopy ..)) (.refl _)
  · exact .refl _

theorem calm_portWrite (d : Device) (g init : Nat) (link : Option Nat) (full : Bool) (u : DUnit) (txn : Option Nat) :
    Calm d (d.portWrite g init link full u txn) :=
  Calm.ite ((calm_bump ..).trans (Calm.elim (.refl _) (fun _ => calm_respond ..))) (Calm.ite (Calm.same)
    (((calm_offerCopy ..).trans (calm_settleCopies ..)).trans (calm_serveCopies ..)))

theorem calm_setDetachedBit (d : Device) (g : Nat) : Calm d (d.setDetachedBit g) :=
  calm_setF ..

/-- A change of transactions that leaves their numbers. -/
theorem calm_mapTxns (d : Device) {f : Txn → Txn} (hf : ∀ t, (f t).id = t.id) :
    Calm d { d with net := { d.net with txns := d.net.txns.map f } } :=
  .ofParts (txns := fun h t ht => by
    obtain ⟨x, hx, rfl⟩ := List.mem_map.1 ht
    rw [hf]
    exact h x hx)

theorem calm_dropCopies (d : Device) (g o : Nat) : Calm d (d.dropCopies g o) := by
  unfold Device.dropCopies
  refine Calm.trans ((calm_setCopies ..).trans (calm_mapTxns _ fun t => ?_)) ((calm_bump ..).trans (calm_settleCopies ..))
  split <;> rfl

theorem kept_detachOutput (d : Device) (g o : Nat) : Kept d (d.detachOutput g o) := by
  unfold Device.detachOutput
  split
  · exact .refl _
  · split
    · exact .refl _
    extract_lets +onlyGivenNames e4
    exact (((((kept_advance ..).trans (Kept.same)).trans ((calm_bump ..).toKept)).trans
      ((calm_setDetachedBit ..).toKept)).trans ((calm_dropCopies ..).toKept)).trans (Kept.ite
        ((calm_markPoison ..).toKept) ((calm_sendControl ..).toKept))

theorem calm_detachedBy (d : Device) (g : Nat) : Calm d (d.detachedBy g) :=
  (calm_markPoison ..).trans (calm_setDetachedBit ..)

theorem calm_attach (d : Device) (w : BitVec 32) : Calm d (d.attach w) :=
  Calm.ite (.refl _) ((Calm.same).trans (calm_setF ..))

end Sys2Proof.Machine
end

section
/-! PROOFS. What the operations of `Sys2Proof/Machine/Streams.lean` keep. -/

namespace Sys2Proof.Machine

open Sys2Proof

set_option Elab.async false -- one thread: there are some 800 short proofs

theorem calm_streamFault (d : Device) (tk : Nat) (f : StreamFault) : Calm d (d.streamFault tk f) :=
  Calm.ite (.refl _) (((((calm_mapRun ..).trans (calm_bump ..)).trans (calm_mapThread ..)).trans
    (calm_setThreadState ..)).trans (calm_faultTask ..))

theorem calm_streamIndex (d : Device) (r : Run) (e : List Word) (ecc : Ecc) : Calm d (d.streamIndex r e ecc).2 := by
  unfold Device.streamIndex
  extract_lets +onlyGivenNames _ _ _
  split
  · exact .refl _
  · extract_lets +onlyGivenNames _ _
    split
    · exact .refl _
    · exact Calm.iteSnd (calm_cellUnit ..) (calm_cellUnit ..)
  · exact .refl _

theorem calm_streamRecord (d : Device) (tk : Nat) (x : Thread) (f : StreamFault) : Calm d (d.streamRecord tk x f) :=
  calm_faultRecord ..

theorem calm_finish (d : Device) (tk : Nat) (x : Thread) (here : Bool) : Calm d (d.finish tk x here) := by
  unfold Device.finish
  extract_lets +onlyGivenNames _ e2 e2
  refine Calm.trans (b := e2) (Calm.ite ((Calm.ite (calm_bump ..) (.refl _)).trans (calm_markOwner ..)) (Calm.ite
    (calm_bump ..) (.refl _))) ?_
  clear_value e2
  split
  · exact calm_streamRecord ..
  · exact Calm.ite (calm_setThreadState ..) (.refl _)

theorem calm_replaceOld (d : Device) (tk : Nat) : Calm d (d.replaceOld tk) := by
  unfold Device.replaceOld
  split
  · exact .refl _
  · extract_lets +onlyGivenNames e4
    refine Calm.trans (b := e4) (calm_setThread ..) ?_
    clear_value e4
    exact Calm.ite (.refl _) (Calm.ite (calm_finish ..) (Calm.same))

theorem calm_startThread (d : Device) (tk stamp : Nat) (f v : Nat) (e : List Word) : Calm d (d.startThread tk stamp f v e) :=
  (((Calm.ite (calm_resetQuarter ..) (.refl _)).trans (calm_setReg ..)).trans (calm_setThreadState ..)).trans
    ((calm_setThread ..).trans (calm_sendCredit ..))

theorem kept_streamStep (d : Device) (ecc : Ecc) : Kept d (d.streamStep ecc) := by
  unfold Device.streamStep
  split
  · exact .refl _
  next r s1 stamp _ =>
    extract_lets +onlyGivenNames d1 tk e d2
    have h : Kept d d2 := (kept_issueStep ..).trans (calm_replaceOld ..).toKept
    clear_value d2
    have hi := calm_streamIndex d2 r e ecc
    split
    next v d3 hd3 =>
      rw [hd3] at hi
      exact h.trans (hi.trans (calm_startThread ..)).toKept
    next d3 hd3 =>
      rw [hd3] at hi
      exact h.trans ((((hi.trans (calm_setReg ..)).trans (calm_setThreadState ..)).trans (calm_bump ..)).trans
        (calm_markPoison ..)).toKept

theorem calm_takePort (d : Device) (k clock : Nat) : Calm d (d.takePort k clock) :=
  Calm.same

theorem calm_requestOver (d : Device) (tk stamp : Nat) : Calm d (d.requestOver tk stamp) :=
  calm_mapThreadOf ..

theorem calm_takeUnit (d : Device) (tk : Nat) (x : Thread) (u : DUnit) : Calm d (d.takeUnit tk x u).2 :=
  Calm.iteSnd (Calm.ite (calm_markConsumed ..) (.refl _)) (Calm.iteSnd (.refl _) ((calm_uncorrected ..).trans
    (calm_markOwner ..)))

theorem calm_takeUnits (d : Device) (tk : Nat) (x : Thread) (us : List DUnit) : Calm d (d.takeUnits tk x us).2 := by
  induction us generalizing d with
  | nil => exact .refl _
  | cons u us ih => exact (calm_takeUnit ..).trans (ih _)

theorem calm_forward (d : Device) (tk n stamp : Nat) (us : List DUnit) (dst : NetTarget) :
    Calm d (d.forward tk n stamp us dst) := by
  unfold Device.forward
  split
  · exact calm_mapThreadOf ..
  · exact (calm_mapThreadOf ..).trans (calm_newTxn ..)

theorem calm_sendOn (d : Device) (tk stamp : Nat) (dst : NetTarget) (fuel : Nat) : Calm d (d.sendOn tk stamp dst fuel) := by
  induction fuel generalizing d with
  | zero => exact .refl _
  | succ fuel ih =>
    unfold Device.sendOn
    split
    · exact .refl _
    · exact ((calm_mapThreadOf ..).trans (Calm.ite (.refl _) (calm_forward ..))).trans (ih _)

theorem calm_passOn (d : Device) (tk n : Nat) (count stamp : Nat) (us : List DUnit) (dst : NetTarget) :
    Calm d (d.passOn tk n count stamp us dst) :=
  Calm.ite ((calm_mapThreadOf ..).trans (calm_sendOn ..)) (Calm.ite (.refl _) (calm_forward ..))

theorem calm_threadData (d : Device) (tk n stamp : Nat) (dst : NetTarget) (us : List DUnit) (refused last : Bool) :
    Calm d (d.threadData tk n stamp dst us refused last) := by
  unfold Device.threadData
  split
  · exact .refl _
  · exact Calm.ite (Calm.ite (calm_requestOver ..) (.refl _)) ((((Calm.ite (calm_markOwner ..) (.refl _)).trans
      (calm_takeUnits ..)).trans (calm_passOn ..)).trans (Calm.ite (Calm.ite (calm_requestOver ..) (.refl _)) (.refl _)))

theorem calm_threadLost (d : Device) (tk n : Nat) (count stamp : Nat) (dst : NetTarget) :
    Calm d (d.threadLost tk n count stamp dst) :=
  (calm_requestOver ..).trans (Calm.ite (.refl _) (calm_passOn ..))

theorem calm_threadFails (d : Device) (tk n : Nat) (count stamp : Nat) (dst : NetTarget) (f : StreamFault) :
    Calm d (d.threadFails tk n count stamp dst f) :=
  (calm_threadLost ..).trans (Calm.ite (calm_streamFault ..) (.refl _))

theorem calm_threadAck (d : Device) (tk stamp good : Nat) (refused : Bool) : Calm d (d.threadAck tk stamp good refused) := by
  unfold Device.threadAck
  split
  · exact .refl _
  · exact ((Calm.ite (calm_markOwner ..) (.refl _)).trans (Calm.foldl (fun _ _ => calm_commitUnit ..) _ _)).trans
      (calm_mapThreadOf ..)

theorem calm_linkDeliver (d : Device) (tk : Nat) (u : DUnit) : Calm d (d.linkDeliver tk u) := by
  unfold Device.linkDeliver
  split
  · exact Calm.ite (calm_setThread ..) ((calm_bump ..).trans (calm_markPoison ..))
  · exact (calm_bump ..).trans (calm_markPoison ..)

theorem calm_issueRequest (d : Device) (tk cls clock units : Nat) : Calm d (d.issueRequest tk cls clock units) := by
  unfold Device.issueRequest
  split
  · exact .refl _
  extract_lets +onlyGivenNames k miss
  have hmiss : ∀ b, Calm d (miss b) := fun b => (calm_bump ..).trans (calm_setThread ..)
  split
  · exact hmiss false
  · exact hmiss true
  · extract_lets +onlyGivenNames n link y d1 d2 _ d3 d4
    have h2 : Calm d d2 := (calm_setThread ..).trans (Calm.ite (calm_setThreadState ..) (.refl _))
    have h3 : Calm d2 d3 := by
      unfold d3
      clear_value d2
      exact .same
    have h4 : Calm d3 d4 := calm_takePort ..
    clear_value d4
    exact ((h2.trans h3).trans h4).trans (Calm.ite (calm_threadData ..) (calm_newTxn ..))

theorem kept_streamIssue (d : Device) (k cls units : Nat) : Kept d (d.streamIssue k cls units) := by
  unfold Device.streamIssue
  split
  · exact .refl _
  · split
    · exact .refl _
    · exact (kept_advance ..).trans ((calm_issueRequest ..).toKept)

theorem kept_walkRead (d : Device) (k a clock : Nat) (w : WalkRead) : Kept d (d.walkRead k a clock w).2 := by
  unfold Device.walkRead
  extract_lets +onlyGivenNames d1 c d2 r
  have h2 : Kept d d2 := (kept_advance ..).trans
    (((calm_takePort ..).trans (calm_takeTokens ..)).toKept.trans (kept_advance ..))
  have hr : Calm d2 r.2 := by
    unfold r
    split
    · exact (calm_unmapped ..).trans (calm_bump ..)
    · exact calm_directRead ..
  exact h2.trans (hr.trans ((calm_statMoved ..).trans (calm_statLatency ..))).toKept

theorem kept_walkFrom (d : Device) (k f : Nat) (q : WalkReq) (fuel : Nat) (reads : List WalkRead) :
    Kept d (d.walkFrom k f q fuel reads).2 := by
  induction fuel generalizing d q reads with
  | zero => exact .refl _
  | succ fuel ih =>
    unfold Device.walkFrom
    split
    · exact .refl _
    extract_lets +onlyGivenNames l at_ x e r w
    have hx : Kept d x.2 := kept_walkRead ..
    clear_value x
    refine Kept.iteSnd hx ?_
    split
    · exact hx
    · exact Kept.iteSnd hx (hx.trans (ih ..))

theorem calm_tlb (d : Device) (t : SMap (List TlbEntry)) : Calm d { d with streams := { d.streams with tlb := t } } := .same

theorem kept_walk (d : Device) (tk : Nat) (reads : List WalkRead) : Kept d (d.walk tk reads) := by
  unfold Device.walk
  split
  · exact .refl _
  next x q _ =>
    extract_lets +onlyGivenNames k res over_
    have hres : Kept d res.2 := Kept.iteSnd (kept_walkFrom ..) (.refl _)
    have hover : Kept d over_ := hres.trans (calm_mapThread ..).toKept
    clear_value over_
    split
    · exact hres.trans (calm_mapThread ..).toKept
    · exact hover.trans (calm_tlb ..).toKept
    · exact hover.trans (calm_streamFault ..).toKept

theorem calm_tlbInv (d : Device) (w : Word) : Calm d (d.tlbInv w) :=
  Calm.ite (.refl _) ((Calm.same).trans (calm_setF ..))

theorem calm_tlbInvDone (d : Device) : Calm d d.tlbInvDone :=
  Calm.ite (.refl _) ((Calm.same).trans (calm_setF ..))

theorem calm_beginDrain (d : Device) (tk : Nat) : Calm d (d.beginDrain tk) := by
  unfold Device.beginDrain
  split
  · exact .refl _
  · exact Calm.ite (((calm_setThread ..).trans (calm_setThreadState ..)).trans (calm_dueAt ..)) (.refl _)

theorem kept_layerDrain (d : Device) : Kept d d.layerDrain := by
  unfold Device.layerDrain
  split
  · exact .refl _
  · exact ((kept_advance ..).trans .same).trans (Kept.foldl (fun _ _ => (calm_beginDrain ..).toKept) _ _)

theorem calm_drainOver (d : Device) (tk stamp : Nat) : Calm d (d.drainOver tk stamp) :=
  Calm.same

theorem calm_threadDone (d : Device) (tk : Nat) : Calm d (d.threadDone tk) := by
  unfold Device.threadDone
  split
  · exact .refl _
  · exact Calm.ite (.refl _) ((Calm.ite ((calm_drainOver ..).trans (calm_resetQuarter ..)) (calm_drainOver ..)).trans
      (calm_setThreadState ..))

theorem calm_threadFinished (d : Device) (tk : Nat) : Calm d (d.threadFinished tk) := by
  unfold Device.threadFinished
  split
  · exact (Calm.same).trans (calm_finish ..)
  · split
    · exact .refl _
    · exact Calm.ite ((calm_finish ..).trans (calm_setThread ..)) (.refl _)

end Sys2Proof.Machine
end

section
/-! PROOFS. What the operations of `Sys2Proof/Machine/LinkOps.lean` keep. -/

namespace Sys2Proof.Machine

open Sys2Proof

set_option Elab.async false -- one thread: there are some 800 short proofs

theorem calm_mapLink (d : Device) (n : Nat) (f : Link → Link) : Calm d (d.mapLink n f) :=
  Calm.same

theorem calm_judgeLink (d : Device) (n : Nat) : Calm d (d.judgeLink n) := by
  unfold Device.judgeLink
  split
  · exact calm_setFs ..
  · exact calm_setF ..

theorem calm_judgeLinks (d : Device) : Calm d d.judgeLinks :=
  Calm.foldl (fun _ _ => calm_judgeLink ..) _ _

theorem calm_sendAlign (d : Device) (n : Nat) : Calm d (d.sendAlign n) :=
  calm_sendControl ..

theorem calm_alignChildren (d : Device) : Calm d d.alignChildren := by
  unfold Device.alignChildren
  extract_lets +onlyGivenNames e2
  refine Calm.trans (b := e2) (Calm.foldl (fun _ _ => Calm.ite (calm_sendAlign ..) (.refl _)) _ _) ?_
  clear_value e2
  exact Calm.same

theorem calm_assembly (d : Device) (a : SMap (List NetFlit)) : Calm d { d with links := { d.links with asm := a } } := .same

theorem calm_toLinkState (d : Device) (n st : Nat) : Calm d (d.toLinkState n st) := by
  unfold Device.toLinkState
  extract_lets +onlyGivenNames d1 _ d2 d3 d4
  have h3 : Calm d d3 := Calm.ite (((calm_setFs ..).trans (calm_assembly ..)).trans (calm_mapLink ..)) (.refl _)
  have h4 : Calm d3 d4 := calm_setF ..
  exact (h3.trans h4).trans (Calm.ite ((calm_setF ..).trans (calm_mapLink ..)) (Calm.ite (calm_mapLink ..) (.refl _)))

theorem calm_activate (d : Device) (n : Nat) : Calm d (d.activate n) :=
  (Calm.ite (((calm_toLinkState ..).trans (calm_judgeLink ..)).trans (calm_setF ..)) ((calm_toLinkState ..).trans
    (calm_judgeLink ..))).trans (Calm.ite (calm_sendAlign ..) (.refl _))

theorem calm_startLink (d : Device) (n : Nat) : Calm d (d.startLink n) :=
  Calm.ite (calm_toLinkState ..) (.refl _)

theorem calm_startLinks (d : Device) : Calm d d.startLinks :=
  Calm.foldl (fun _ _ => calm_startLink ..) _ _

theorem calm_downLinks (d : Device) : Calm d d.downLinks :=
  Calm.foldl (fun _ _ => calm_toLinkState ..) _ _

theorem calm_keepAlive (d : Device) (on : Bool) : Calm d (d.keepAlive on) :=
  Calm.foldl (fun _ _ => calm_setF ..) _ _

end Sys2Proof.Machine
end

section
/-! PROOFS. What the operations of `Sys2Proof/Machine/LoadOps.lean` keep. -/

namespace Sys2Proof.Machine

open Sys2Proof

set_option Elab.async false -- one thread: there are some 800 short proofs

theorem calm_mapLoad (d : Device) (f : Load → Load) : Calm d (d.mapLoad f) :=
  Calm.same

theorem calm_setCfgState (d : Device) (x : Nat) : Calm d (d.setCfgState x) :=
  calm_setF ..

theorem calm_setStage (d : Device) (x : Nat) : Calm d (d.setStage x) :=
  calm_setF ..

theorem calm_setHeld (d : Device) (b : Bool) : Calm d (d.setHeld b) :=
  calm_setF ..

theorem calm_setSchedValid (d : Device) (b : Bool) : Calm d (d.setSchedValid b) :=
  calm_setF ..

theorem calm_setDomeValid (d : Device) (b : Bool) : Calm d (d.setDomeValid b) :=
  calm_setF ..

theorem calm_setSlotValid (d : Device) (s : Nat) (b : Bool) : Calm d (d.setSlotValid s b) :=
  calm_setF ..

theorem calm_dropSlots (d : Device) : Calm d d.dropSlots :=
  Calm.foldl (fun _ _ => calm_setReg ..) _ _

theorem calm_loadError (d : Device) (code : Nat) : Calm d (d.loadError code) := by
  unfold Device.loadError
  split
  · exact .refl _
  · exact Calm.ite (.refl _) ((calm_setReg ..).trans (calm_setReg ..))

theorem calm_closeLoad (d : Device) : Calm d d.closeLoad := by
  unfold Device.closeLoad
  extract_lets +onlyGivenNames e2
  refine Calm.trans (b := e2) ((calm_setF ..).trans (calm_setHeld ..)) ?_
  clear_value e2
  exact Calm.same

theorem calm_refuseWhere (d : Device) (p : Task → Bool) : Calm d (d.refuseWhere p) :=
  (Calm.foldl (fun _ _ => calm_recordUnstarted ..) _ _).trans (Calm.ite (.refl _) (calm_rearmIdle ..))

theorem calm_slotRewritten (d : Device) (s : Nat) (ok : Bool) : Calm d (d.slotRewritten s ok) :=
  (Calm.same).trans (Calm.ite ((calm_setSlotValid ..).trans (calm_noteEval ..)) ((calm_setSlotValid ..).trans
    (calm_refuseWhere ..)))

theorem calm_fabricOff (d : Device) : Calm d d.fabricOff := by
  unfold Device.fabricOff
  extract_lets +onlyGivenNames d1 d2
  have h2 : Calm d d2 :=
    (((calm_setReg ..).trans (calm_setReg ..)).trans (calm_setF ..)).trans (Calm.foldl (fun _ _ => calm_setReg ..) _ _)
  clear_value d2
  exact h2.trans .same

/-- The fabric after a FULL load that failed (R424). -/
theorem calm_fabricFailed {d e : Device} (h : Calm d e) :
    Calm d { e with maintCfg := true, belfry := { d.belfry with cdoneLow := true } } := by
  refine ⟨⟨⟨h.fuses, fun hw => ?_⟩, h.numbers⟩, rfl, rfl⟩
  have hw' := h.wf hw
  rw [wf_iff] at hw' ⊢
  exact hw'

theorem calm_failedKind (d : Device) (l : Load) (code : Nat) : Calm d (d.failedKind l code) := by
  unfold Device.failedKind
  split
  · exact (((calm_fabricFailed (calm_fabricOff d)).trans (calm_setCfgState ..)).trans (calm_dropSlots ..)).trans
      (calm_refuseWhere ..)
  · exact (calm_setCfgState ..).trans (calm_refuseWhere ..)
  · exact Calm.elim (calm_setCfgState ..) (fun _ => (calm_setCfgState ..).trans (calm_slotRewritten ..))
  · exact calm_setCfgState ..

theorem calm_loadFail (d : Device) (code : Nat) : Calm d (d.loadFail code) := by
  unfold Device.loadFail
  split
  · exact .refl _
  · split
    · exact calm_closeLoad ..
    · exact (calm_loadError ..).trans (calm_closeLoad ..)
    · exact (((calm_loadError ..).trans (calm_bump ..)).trans (calm_closeLoad ..)).trans (calm_setCfgState ..)
    · exact (((calm_loadError ..).trans (calm_bump ..)).trans (calm_closeLoad ..)).trans (calm_failedKind ..)

theorem calm_loadFetch (d : Device) : Calm d d.loadFetch := by
  unfold Device.loadFetch
  split
  · exact .refl _
  · exact Calm.ite (.refl _) (Calm.ite (calm_loadFail ..) ((calm_mapLoad ..).trans (calm_newTxn ..)))

theorem calm_loadData (d : Device) (id : Nat) (us : List DUnit) (status off n : Nat) :
    Calm d (d.loadData id us status off n) := by
  unfold Device.loadData
  split
  · exact .refl _
  · exact Calm.ite (.refl _) ((calm_mapLoad ..).trans (Calm.ite (calm_loadFail ..) ((calm_mapLoad ..).trans
      (calm_loadFetch ..))))

end Sys2Proof.Machine
end

section
/-! PROOFS. What the operations of `Sys2Proof/Machine/Network.lean` keep. -/

namespace Sys2Proof.Machine

open Sys2Proof

set_option Elab.async false -- one thread: there are some 800 short proofs

theorem calm_loseTxn (d : Device) (id : Nat) (p : Packet) : Calm d (d.loseTxn id p) :=
  ((calm_bump ..).trans (calm_dropPacket ..)).trans ((calm_mapTxn _ _ _ (by intros; rfl)))

theorem kept_arriveBy (d : Device) (p : Packet) (fuel : Nat) : Kept d (d.arriveBy p fuel) := by
  induction fuel generalizing d with
  | zero => exact .refl _
  | succ fuel ih => exact Kept.ite ((kept_advance ..).trans (ih _)) (.refl _)

theorem kept_onRequest (d : Device) (id : Nat) (f : Device → Txn → Device) (h : ∀ d t, Kept d (f d t)) :
    Kept d (d.onRequest id f) := by
  unfold Device.onRequest
  extract_lets +onlyGivenNames e
  refine Kept.trans (b := e) (kept_arriveBy ..) ?_
  clear_value e
  split
  · exact .refl _
  · exact Kept.ite (.refl _) (h ..)

theorem kept_onResponse (d : Device) (id : Nat) (f : Device → Txn → Device) (h : ∀ d t, Kept d (f d t)) :
    Kept d (d.onResponse id f) := by
  unfold Device.onResponse
  extract_lets +onlyGivenNames e
  refine Kept.trans (b := e) (kept_arriveBy ..) ?_
  clear_value e
  split
  · exact .refl _
  · exact Kept.ite (.refl _) (h ..)

theorem calm_readTiles (d : Device) (t : Txn) (l : Nat) (ecc : List (Nat × Ecc)) : Calm d (d.readTiles t l ecc) :=
  Calm.foldl (fun _ _ => (calm_domeRead ..).trans (calm_deliver ..)) _ _

theorem calm_writeTiles (d : Device) (t : Txn) (l : Nat) (ecc : List (Nat × Ecc)) : Calm d (d.writeTiles t l ecc) :=
  (Calm.foldl (fun _ _ => Calm.ite ((calm_domeRead ..).trans (calm_domeWrite ..)) (calm_domeWrite ..)) _ _).trans
    (calm_respond ..)

theorem calm_serveTile (d : Device) (t : Txn) (l : Nat) (ecc : List (Nat × Ecc)) : Calm d (d.serveTile t l ecc) :=
  Calm.ite (calm_readTiles ..) (calm_writeTiles ..)

theorem calm_gateway (d : Device) (t : Txn) (l : Nat) (ecc : List (Nat × Ecc)) : Calm d (d.gateway t l ecc) :=
  Calm.ite (calm_serveTile ..) (((calm_bump ..).trans ((calm_mapTxn _ _ _ (by intros; rfl)))).trans (Calm.ite
    (calm_requestWake ..) (.refl _)))

theorem calm_gatewayRelease (d : Device) (id : Nat) (ecc : List (Nat × Ecc)) : Calm d (d.gatewayRelease id ecc) := by
  unfold Device.gatewayRelease
  split
  · exact .refl _
  · split
    · exact .refl _
    split
    · exact Calm.ite (calm_serveTile ..) (Calm.ite (calm_requestWake ..) (.refl _))
    · exact .refl _

theorem calm_sendPaths (d : Device) (us : List DomeUnit) : Calm d (d.sendPaths us) :=
  Calm.same

theorem calm_readPaths (d : Device) (t : Txn) (l : Nat) (ecc : List (Nat × Ecc)) : Calm d (d.readPaths t l ecc) :=
  (calm_sendPaths ..).trans ((calm_mapTxn _ _ _ (by intros; rfl)))

theorem calm_writePaths (d : Device) (t : Txn) (l : Nat) : Calm d (d.writePaths t l) :=
  (calm_sendPaths ..).trans ((calm_mapTxn _ _ _ (by intros; rfl)))

theorem calm_sopWrite (d : Device) (w : Word) (init : Nat) : Calm d (d.sopWrite w init) :=
  Calm.ite (calm_startMarker ..) (.refl _)

theorem calm_pushWrite (d : Device) (q : Nat) (t : Txn) (be : Word) : Calm d (d.pushWrite q t be) :=
  Calm.ite (Calm.foldl (fun _ _ => calm_pushUnit ..) _ _) (Calm.ite (calm_pushBytes ..) (Calm.ite (calm_pushBytes ..)
    ((calm_uncorrected ..).trans (calm_pushBytes ..))))

theorem calm_regSpaceWrite (d : Device) (t : Txn) (off : Nat) : Calm d (d.regSpaceWrite t off) :=
  Calm.ite (calm_respond ..) (Calm.ite (calm_portWrite ..) ((Calm.ite (Calm.ite (calm_pushWrite ..) (Calm.ite (.refl _)
    (calm_hostSig ..))) (Calm.ite (.refl _) (calm_sopWrite ..))).trans (calm_respond ..)))

theorem calm_giveCell (d : Device) (id i : Nat) (c : QCell) (e : Ecc) : Calm d (d.giveCell id i c e) := by
  unfold Device.giveCell
  split
  · exact calm_newTxn ..
  · exact (Calm.ite (calm_cellUnit ..) ((calm_cellUnit ..).trans (calm_markPoison ..))).trans (calm_deliver ..)

theorem calm_readCells (d : Device) (id tk stamp q : Nat) (ecc : List (Nat × Ecc)) (n i : Nat) :
    Calm d (d.readCells id tk stamp q ecc n i) := by
  induction n generalizing d i with
  | zero => exact .refl _
  | succ n ih =>
    have next (d : Device) : Calm d (d.mapTxn id (fun t => { t with todo := i + 1 })) := calm_mapTxn _ _ _ (by intros; rfl)
    unfold Device.readCells
    split
    · exact .refl _
    extract_lets +onlyGivenNames f
    split
    · exact ((((next d).trans (calm_bump ..)).trans (calm_markOwner ..)).trans (calm_deliver ..)).trans (ih ..)
    · exact ((next d).trans (calm_deliver ..)).trans (ih ..)
    split
    · exact .refl _
    next c e hc =>
      have he : Calm d e := by simpa only [hc] using calm_takeCell d q
      exact (((he.trans (next e)).trans (Calm.ite (calm_mapThreadOf ..) (.refl _))).trans (calm_giveCell ..)).trans (ih ..)

theorem calm_readQuarter (d : Device) (t : Txn) (k r off : Nat) (ring : Bool) (ecc : List (Nat × Ecc)) :
    Calm d (d.readQuarter t k r off ring ecc) :=
  Calm.foldl (fun _ _ => (Calm.iteSnd (calm_takeRing ..) (calm_readCacheLine ..)).trans (calm_deliver ..)) _ _

theorem calm_readHost (d : Device) (t : Txn) (f a : Nat) : Calm d (d.readHost t f a) := by
  unfold Device.readHost
  extract_lets +onlyGivenNames _
  split
  · exact calm_hostRead ..
  split
  · exact ((calm_hostRead ..).trans (calm_dropTxn ..)).trans (calm_threadFails ..)
  · exact (calm_hostRead ..).trans (calm_refuseRead ..)

theorem calm_userRead (d : Device) (t : Txn) (ap off : Nat) : Calm d (d.userRead t ap off) :=
  Calm.ite (calm_emit ..) (calm_deliverAll ..)

theorem calm_userWrite (d : Device) (t : Txn) (ap off : Nat) : Calm d (d.userWrite t ap off) :=
  (Calm.ite (calm_emit ..) (.refl _)).trans (calm_respond ..)

theorem calm_serveRead (d : Device) (t : Txn) (ecc : List (Nat × Ecc)) : Calm d (d.serveRead t ecc) := by
  unfold Device.serveRead
  extract_lets +onlyGivenNames e2
  refine Calm.trans (b := e2) ((calm_mapTxn _ _ _ (by intros; rfl))) ?_
  clear_value e2
  split
  · split
    · exact calm_hbmReads ..
    · exact calm_gateway ..
    · exact Calm.ite (calm_deliverAll ..) (calm_refuseRead ..)
    · exact calm_refuseRead ..
  · exact calm_readQuarter ..
  · split
    · exact Calm.ite (calm_deliverAll ..) (Calm.ite (.refl _) (calm_readCells ..))
    · exact calm_refuseRead ..
  · exact calm_readHost ..
  · exact calm_sendPacket ..
  · exact calm_readPaths ..
  · exact calm_userRead ..
  · exact .refl _

theorem kept_netRead (d : Device) (id : Nat) (ok : Bool) (ecc : List (Nat × Ecc)) : Kept d (d.netRead id ok ecc) := by
  unfold Device.netRead
  split
  · exact .refl _
  · split
    · exact .refl _
    split
    · exact Kept.ite (kept_onRequest _ _ _ (fun _ _ => (calm_serveRead ..).toKept)) ((calm_loseTxn ..).toKept)
    · exact (calm_serveRead ..).toKept
    · exact .refl _

theorem calm_answerHost (d : Device) (tag off len : Nat) (us : List DUnit) : Calm d (d.answerHost tag off len us) :=
  Calm.ite ((calm_bump ..).trans (calm_emit ..)) (calm_emit ..)

theorem calm_keepPrefetched (d : Device) (u : Nat) (x : DUnit) : Calm d (d.keepPrefetched u x) :=
  Calm.same

theorem calm_finishRead (d : Device) (t : Txn) (us : List DUnit) (status : Nat) : Calm d (d.finishRead t us status) := by
  unfold Device.finishRead
  extract_lets +onlyGivenNames e2
  refine Calm.trans (b := e2) (calm_dropTxn ..) ?_
  clear_value e2
  split
  · exact calm_threadData ..
  · exact calm_answerHost ..
  · split
    · exact Calm.ite (calm_keepPrefetched ..) (.refl _)
    · exact .refl _
  · exact calm_deliver ..
  · exact .refl _
  · exact Calm.ite (calm_emit ..) (.refl _)
  · exact calm_sendPacket ..
  · exact calm_loadData ..
  · exact .refl _
  · exact .refl _

theorem calm_measure (d : Device) (t : Txn) (units : Nat) : Calm d (d.measure t units) := by
  unfold Device.measure
  split
  · exact .refl _
  · exact .refl _
  · exact (calm_statMoved ..).trans (calm_statLatency ..)

theorem calm_passCells (d : Device) (t : Txn) : Calm d (d.passCells t) := by
  unfold Device.passCells
  extract_lets +onlyGivenNames _
  split
  · exact Calm.ite (.refl _) (((calm_mapTxn _ _ _ (by intros; rfl))).trans (calm_threadData ..))
  · exact .refl _

theorem kept_netReadData (d : Device) (id : Nat) (ok : Bool) : Kept d (d.netReadData id ok) := by
  unfold Device.netReadData
  split
  · exact .refl _
  · split
    · exact .refl _
    split
    · exact Kept.ite (kept_onResponse _ _ _ (fun _ _ => ((calm_measure ..).toKept).trans ((calm_finishRead ..).toKept)))
        ((calm_loseTxn ..).toKept)
    · exact Kept.ite ((calm_passCells ..).toKept) (.refl _)
    · exact .refl _

theorem calm_writeUnits (d : Device) (t : Txn) (f : Device → Nat → DUnit → Device) (h : ∀ d i u, Calm d (f d i u)) :
    Calm d (d.writeUnits t f) :=
  (Calm.foldl (fun _ _ => Calm.ite (calm_discardLate ..) (h ..)) _ _).trans (calm_respond ..)

theorem calm_writeQuarter (d : Device) (k r : Nat) (n off i : Nat) (ring : Bool) (u : DUnit) :
    Calm d (d.writeQuarter k r n off i ring u) :=
  Calm.ite ((calm_setQuarter ..).trans (calm_writeCacheLine ..)) (calm_writeCacheLine ..)

theorem calm_threadMarker (d : Device) (t : Txn) (q : Nat) : Calm d (d.threadMarker t q) := by
  unfold Device.threadMarker
  split
  · exact Calm.elim (.refl _) (fun _ => calm_startMarker ..)
  · exact .refl _

theorem calm_writeHost (d : Device) (t : Txn) (f a : Nat) (u : DUnit) (be : Word) : Calm d (d.writeHost t f a u be) :=
  (Calm.ite ((Calm.ite ((calm_bump ..).trans (Calm.ite (calm_markPoison ..) (.refl _))) (.refl _)).trans
    (calm_markPoison ..)) (Calm.ite ((calm_bump ..).trans (Calm.ite (calm_markPoison ..) (.refl _))) (.refl _))).trans
      (calm_hostWrite ..)

theorem calm_serveWrite (d : Device) (t : Txn) (ecc : Ecc) (reread : Ecc) : Calm d (d.serveWrite t ecc reread) := by
  unfold Device.serveWrite
  extract_lets +onlyGivenNames _
  split
  · split
    · exact calm_hbmWrites ..
    · exact calm_gateway ..
    · exact calm_regSpaceWrite ..
    · exact calm_respond ..
  · exact calm_writeUnits _ _ _ (fun _ _ _ => calm_writeQuarter ..)
  · exact (calm_threadMarker ..).trans (calm_writeUnits _ _ _ (fun _ _ _ => calm_pushUnit ..))
  · exact Calm.ite (Calm.ite ((calm_emit ..).trans ((calm_mapTxn _ _ _ (by intros; rfl)))) (.refl _))
      (calm_writeUnits _ _ _ (fun _ _ _ => calm_writeHost ..))
  · exact (calm_sendPacket ..).trans ((calm_mapTxn _ _ _ (by intros; rfl)))
  · exact calm_writePaths ..
  · exact calm_userWrite ..
  · exact .refl _

theorem kept_arriveWrite (d : Device) (id : Nat) (cmd : NetCmd) (ok : Bool) (ecc : Ecc) (reread : Ecc) :
    Kept d (d.arriveWrite id cmd ok ecc reread) := by
  unfold Device.arriveWrite
  split
  · exact .refl _
  · split
    · exact .refl _
    split
    · exact Kept.ite (kept_onRequest _ _ _ (fun _ _ => (calm_serveWrite ..).toKept)) ((calm_loseTxn ..).toKept)
    · exact (calm_serveWrite ..).toKept
    · exact .refl _

theorem calm_finishWrite (d : Device) (t : Txn) (status : Nat) : Calm d (d.finishWrite t status) := by
  unfold Device.finishWrite
  extract_lets +onlyGivenNames e2
  refine Calm.trans (b := e2) (calm_dropTxn ..) ?_
  clear_value e2
  split
  · exact calm_threadAck ..
  · exact Calm.ite (calm_emit ..) (.refl _)
  · exact calm_sendPacket ..
  · exact .refl _
  · exact .refl _
  · exact calm_acceptCopy ..
  · exact .refl _
  · exact .refl _
  · exact .refl _
  · exact .refl _

theorem kept_netWriteAck (d : Device) (id : Nat) (ok : Bool) : Kept d (d.netWriteAck id ok) := by
  unfold Device.netWriteAck
  split
  · exact .refl _
  · exact Kept.ite (.refl _) (Kept.ite (kept_onResponse _ _ _ (fun _ _ => ((calm_measure ..).toKept).trans
      ((calm_finishWrite ..).toKept))) ((calm_loseTxn ..).toKept))

theorem kept_injectNext (d : Device) (i : Nat) : Kept d (d.injectNext i) := by
  unfold Device.injectNext
  split
  · exact .refl _
  split
  · exact .refl _
  · extract_lets +onlyGivenNames _ _
    split
    · split
      · exact .refl _
      · exact (kept_advance ..).trans ((((calm_takePort ..).toKept).trans ((calm_takeTokens ..).toKept)).trans
          ((calm_inject ..).toKept))
    exact ((kept_advance ..).trans ((calm_takeTokens ..).toKept)).trans ((calm_inject ..).toKept)

/-- The transaction `id` waits, and its number has been given. -/
theorem txn_below {d : Device} {id : Nat} {t : Txn} (h : d.txn id = some t) (hwf : ∀ t ∈ d.net.txns, t.id < d.net.nextId) :
    t.id < d.net.nextId := hwf t (List.mem_of_find?_eq_some h)

theorem kept_addTxn {d e : Device} (h :
    Kept d e) {t : Txn} (ht : (∀ t ∈ d.net.txns, t.id < d.net.nextId) → t.id < d.net.nextId) :
    Kept d { e with net := { e.net with txns := t :: e.net.txns } } := by
  refine ⟨⟨h.fuses, fun hw => ?_⟩, h.numbers⟩
  have hw' := h.wf hw
  rw [wf_iff] at hw hw' ⊢
  obtain ⟨hr, hm, htile, hs, hg, hx⟩ := hw'
  obtain ⟨-, -, -, -, -, hx0⟩ := hw
  exact ⟨hr, hm, htile, hs, hg, List.forall_mem_cons.2 ⟨(ht hx0).trans_le h.numbers, hx⟩⟩

theorem kept_timeoutTxn (d : Device) (id : Nat) : Kept d (d.timeoutTxn id) := by
  unfold Device.timeoutTxn
  split
  · exact .refl _
  next t ht =>
    split
    iterate 3 exact .refl _
    extract_lets +onlyGivenNames d1 d2 d3 d4
    have h3 : Kept d d3 := (kept_advance ..).trans ((calm_bump ..).trans (Calm.ite (calm_markPoison ..) (.refl _))).toKept
    have h4 : Kept d3 d4 := Kept.ite ((calm_bump ..).toKept.trans (calm_finishRead ..).toKept) (calm_finishWrite ..).toKept
    have h : Kept d d4 := h3.trans h4
    clear_value d4
    have hid : (∀ t ∈ d.net.txns, t.id < d.net.nextId) → t.id < d.net.nextId := txn_below ht
    exact Kept.ite h (kept_addTxn h hid)

theorem calm_regulator (d : Device) (i : Nat) (w : Word) : Calm d (d.regulator i w) := by
  unfold Device.regulator
  split
  · exact .refl _
  extract_lets +onlyGivenNames e2
  refine Calm.trans (b := e2) (calm_setReg ..) ?_
  clear_value e2
  exact Calm.same

theorem calm_statClear (d : Device) (w : BitVec 32) : Calm d (d.statClear w) :=
  Calm.ite (.refl _) (.ofParts (regs := fun h => mapWf_mapClear h ..))

theorem calm_statControl (d : Device) (w : BitVec 32) : Calm d (d.statControl w) :=
  calm_setReg ..

end Sys2Proof.Machine
end

section
/-! PROOFS. What the operations of `Sys2Proof/Machine/Slots.lean` keep. -/

namespace Sys2Proof.Machine

open Sys2Proof

set_option Elab.async false -- one thread: there are some 800 short proofs

theorem calm_setMap (d : Device) (ws : List Word) : Calm d (d.setMap ws) :=
  Calm.foldl (fun _ _ => (calm_setReg ..).trans (calm_setReg ..)) _ _

end Sys2Proof.Machine
end

section
/-! PROOFS. What the operations of `Sys2Proof/Machine/CfgLoad.lean` keep. -/

namespace Sys2Proof.Machine

open Sys2Proof

set_option Elab.async false -- one thread: there are some 800 short proofs

theorem calm_showMember (d : Device) (m : Option Member) : Calm d (d.showMember m) := by
  unfold Device.showMember
  split
  · exact calm_setFs ..
  · exact calm_setFs ..

/-- What a FULL load clears beside the registers (R430). -/
theorem calm_clearedPlanes (d : Device) :
    Calm d { d with
      cfgMem := [], tile := Store.initial, maintCfg := true,
      belfry := { d.belfry with cdoneLow := true },
      net := { d.net with routes := [], routeMap := [] },
      cluster := { d.cluster with member := none, groups := [] },
      streams := { d.streams with quarters := [] },
      lantern := { d.lantern with rewriting := [] } } :=
  .ofParts (tile := fun _ => rfl) (cfgMem := fun _ => rfl)

theorem calm_fullClear (d : Device) : Calm d d.fullClear := by
  unfold Device.fullClear
  extract_lets +onlyGivenNames d1 d2
  have h1 : Calm d d1 := (((((calm_dropSlots ..).trans (calm_setMap ..)).trans (calm_clearCache ..)).trans
    (calm_fabricOff ..)).trans (calm_setF ..)).trans ((calm_showMember ..).trans (calm_setF ..))
  have h2 : Calm d1 d2 := (calm_setDomeValid ..).trans (calm_setSchedValid ..)
  clear_value d2
  exact ((h1.trans h2).trans (calm_clearedPlanes d2)).trans (calm_judgeLinks ..)

theorem calm_clearCfg (d : Device) (lo hi : Nat) : Calm d { d with cfgMem := mapClear d.cfgMem lo hi } :=
  .ofParts (cfgMem := fun h => mapWf_mapClear h ..)

theorem calm_clearDome (d : Device) (lo hi : Nat) :
    Calm d { d.setDomeValid false with cfgMem := mapClear d.cfgMem lo hi, tile := Store.initial, maintCfg := true } := by
  have h : Calm d (d.setDomeValid false) := calm_setDomeValid ..
  have hc : (d.setDomeValid false).cfgMem = d.cfgMem := rfl
  revert h hc
  generalize d.setDomeValid false = e
  intro h hc
  exact h.trans (.ofParts (tile := fun _ => rfl) (cfgMem := fun h => mapWf_mapClear (hc ▸ h) ..))

theorem calm_reloadClear (d : Device) (planes : Nat) : Calm d (d.reloadClear planes) := by
  unfold Device.reloadClear
  extract_lets +onlyGivenNames d0 d1 d2
  have h1 : Calm d d1 := Calm.ite (calm_clearDome ..) (.refl _)
  have h2 : Calm d1 d2 := ((calm_setSchedValid ..).trans (calm_dropSlots ..)).trans (calm_clearCache ..)
  clear_value d2
  exact h1.trans (.ite (h2.trans (calm_clearCfg ..)) (.refl _))

theorem calm_writeCfgCtl (d : Device) (v : BitVec 32) : Calm d (d.writeCfgCtl v) :=
  (calm_setF ..).trans (calm_setF ..)

theorem calm_startLoad (d : Device) (src : Nat) : Calm d (d.startLoad src) := by
  unfold Device.startLoad
  split
  · exact .refl _
  extract_lets +onlyGivenNames e2
  refine Calm.trans (b := e2) (((calm_setReg ..).trans (calm_setReg ..)).trans (calm_setFs ..)) ?_
  clear_value e2
  exact (Calm.same).trans (calm_loadFetch ..)

theorem calm_portBytes (d : Device) (bs : List Byte) : Calm d (d.portBytes bs) := by
  unfold Device.portBytes
  split
  · exact .refl _
  · exact Calm.ite (.refl _) (calm_mapLoad ..)

theorem kept_idleLimit (d : Device) : Kept d d.idleLimit := by
  unfold Device.idleLimit
  split
  · exact .refl _
  · exact Kept.ite (.refl _) ((kept_advance ..).trans ((calm_loadFail ..).toKept))

theorem calm_beginBody (d : Device) : Calm d d.beginBody := by
  unfold Device.beginBody
  split
  · exact .refl _
  · extract_lets +onlyGivenNames e4
    split
    · exact (((calm_setHeld ..).trans (calm_fullClear ..)).trans (calm_setFs ..)).trans (calm_mapLoad ..)
    · exact (((calm_setHeld ..).trans (calm_reloadClear ..)).trans (calm_mapLoad ..)).trans (calm_loadFetch ..)
    · exact ((calm_setHeld ..).trans (calm_mapLoad ..)).trans (calm_loadFetch ..)

theorem calm_acceptHeader (d : Device) (l : Load) : Calm d (d.acceptHeader l) :=
  (((calm_bump ..).trans (calm_mapLoad ..)).trans (calm_setCfgState ..)).trans (Calm.ite (calm_setHeld ..)
    (calm_beginBody ..))

theorem calm_refuseHeader (d : Device) (l : Load) (code : Nat) : Calm d (d.refuseHeader l code) :=
  ((calm_loadError ..).trans (calm_bump ..)).trans (Calm.ite (calm_mapLoad ..) (calm_closeLoad ..))

theorem calm_loadHeader (d : Device) : Calm d d.loadHeader := by
  unfold Device.loadHeader
  split
  · exact .refl _
  · split
    · exact .refl _
    split
    · exact calm_refuseHeader ..
    · exact calm_acceptHeader ..

theorem calm_clearDone (d : Device) : Calm d d.clearDone := by
  unfold Device.clearDone
  split
  · exact Calm.ite ((calm_mapLoad ..).trans (calm_loadFetch ..)) (.refl _)
  · exact .refl _

theorem calm_screen (d : Device) : Calm d d.screen := by
  unfold Device.screen
  split
  · exact .refl _
  · exact Calm.ite (.refl _) (Calm.ite (calm_loadFail ..) (Calm.ite (calm_loadFail ..) (.refl _)))

theorem calm_consume (d : Device) (l : Load) : Calm d (d.consume l) :=
  (calm_mapLoad ..).trans (calm_screen ..)

theorem calm_takeBlock (d : Device) : Calm d d.takeBlock := by
  unfold Device.takeBlock
  split
  · exact .refl _
  extract_lets +onlyGivenNames n data tr g plain
  refine Calm.ite (.refl _) ?_
  cases plain with
  | none => exact calm_loadFail ..
  | some bs => exact ((calm_mapLoad ..).trans (calm_screen ..)).trans (calm_loadFetch ..)

theorem calm_nopPacket (d : Device) : Calm d d.nopPacket :=
  Calm.elim (.refl _) (fun _ => calm_consume ..)

theorem calm_setAddr (d : Device) : Calm d d.setAddr := by
  unfold Device.setAddr
  split
  · exact .refl _
  · exact (calm_mapLoad ..).trans (Calm.ite (calm_loadFail ..) (calm_consume ..))

theorem calm_cfgWrite (d : Device) (a : Nat) (bs : List Byte) : Calm d { d with cfgMem := memWrite d.cfgMem a bs } :=
  .ofParts (cfgMem := fun h => memWf_memWrite h ..)

theorem calm_writeFrame (d : Device) (a : BitVec 40) (bs : List Byte) : Calm d (d.writeFrame a bs) := by
  unfold Device.writeFrame
  split
  · exact .refl _
  split
  · exact calm_loadFail ..
  next i _ =>
    exact Calm.ite (calm_loadFail ..)
      ((((calm_cfgWrite d (1024 * i) bs).trans (calm_setF ..)).trans (calm_bump ..)).trans (calm_mapLoad ..))

theorem calm_writeFrames (d : Device) (n : Nat) (bs : List Byte) : Calm d (d.writeFrames n bs) := by
  induction n generalizing d bs with
  | zero => exact .refl _
  | succ n ih =>
    unfold Device.writeFrames
    split
    · exact .refl _
    · exact Calm.ite (calm_loadFail ..) (((calm_writeFrame ..).trans (calm_mapLoad ..)).trans (ih ..))

theorem calm_framesPacket (d : Device) : Calm d d.framesPacket := by
  unfold Device.framesPacket
  split
  · exact .refl _
  · split
    · exact calm_loadFail ..
    · exact (calm_mapLoad ..).trans ((calm_writeFrames ..).trans (calm_consume ..))

theorem calm_replicate (d : Device) (bs : List Byte) (unit : Bool) (n : Nat) (a : BitVec 40) :
    Calm d (d.replicate bs unit n a) := by
  induction n generalizing d a with
  | zero => exact .refl _
  | succ n ih => exact (calm_writeFrame ..).trans (ih ..)

theorem calm_replicatePacket (d : Device) : Calm d d.replicatePacket := by
  unfold Device.replicatePacket
  split
  · exact .refl _
  · exact (calm_replicate ..).trans (calm_consume ..)

theorem calm_startupPacket (d : Device) : Calm d d.startupPacket :=
  Calm.elim (.refl _) (fun _ => (calm_setReg ..).trans (calm_consume ..))

theorem calm_checkSlot (d : Device) (s : Nat) : Calm d (d.checkSlot s) := by
  unfold Device.checkSlot
  split
  · exact calm_slotRewritten ..
  split
  · exact calm_slotRewritten ..
  · exact ((calm_setReg ..).trans (calm_bump ..)).trans (calm_slotRewritten ..)

theorem calm_openSlot (d : Device) (s : Nat) : Calm d (d.openSlot s) := by
  unfold Device.openSlot
  extract_lets +onlyGivenNames e2
  refine Calm.trans (b := e2) (calm_setSlotValid ..) ?_
  clear_value e2
  exact Calm.same

theorem kept_slotBegins (d : Device) : Kept d d.slotBegins := by
  unfold Device.slotBegins
  split
  · exact .refl _
  · exact (Kept.ite (kept_selectNext ..) (.refl _)).trans (Kept.ite (((calm_mapLoad ..).toKept).trans
      ((calm_setHeld ..).toKept)) ((((calm_openSlot ..).toKept).trans ((calm_mapLoad ..).toKept)).trans
        ((calm_consume ..).toKept)))

theorem calm_slotEnds (d : Device) : Calm d d.slotEnds := by
  unfold Device.slotEnds
  split
  · exact .refl _
  · exact ((calm_checkSlot ..).trans (calm_mapLoad ..)).trans (calm_consume ..)

theorem kept_holdReleased (d : Device) : Kept d d.holdReleased := by
  unfold Device.holdReleased
  split
  · exact .refl _
  · exact Kept.ite (Kept.ite ((calm_beginBody ..).toKept) (.refl _)) (Kept.ite ((((calm_mapLoad ..).toKept).trans
      ((calm_setHeld ..).toKept)).trans (kept_slotBegins ..)) (.refl _))

theorem calm_setAps (d : Device) (r : Nat) (b : Bool) : Calm d (d.setAps r b) :=
  Calm.foldl (fun _ _ => Calm.ite (calm_setF ..) (.refl _)) _ _

theorem calm_setRegion (d : Device) (r : Nat) (b : Bool) : Calm d (d.setRegion r b) :=
  Calm.same

theorem calm_regionBegins (d : Device) : Calm d d.regionBegins := by
  unfold Device.regionBegins
  split
  · exact .refl _
  · exact ((((calm_engage ..).trans (calm_setF ..)).trans (calm_setAps ..)).trans (calm_setRegion ..)).trans
      ((calm_mapLoad ..).trans (calm_consume ..))

theorem calm_releaseIo (d : Device) (p : Nat → Bool) : Calm d (d.releaseIo p) := by
  unfold Device.releaseIo
  extract_lets +onlyGivenNames e2
  refine Calm.trans (b := e2) (Calm.foldl (fun _ _ => Calm.ite (calm_setF ..) (.refl _)) _ _) ?_
  clear_value e2
  refine Calm.foldl (fun _ _ => ?_) _ _
  split
  · split
    · exact calm_setF ..
    · exact calm_setF ..
  exact .refl _

theorem calm_restartRegion (d : Device) (r : Nat) : Calm d (d.restartRegion r) :=
  Calm.same

theorem calm_regionEnds (d : Device) : Calm d d.regionEnds := by
  unfold Device.regionEnds
  split
  · exact .refl _
  · extract_lets +onlyGivenNames _
    split
    · exact calm_loadFail ..
    · exact ((((calm_restartRegion ..).trans (calm_setRegion ..)).trans (calm_releaseIo ..)).trans
        (calm_setAps ..)).trans (((calm_setF ..).trans (calm_mapLoad ..)).trans (calm_consume ..))

theorem calm_memberState (d : Device) (old : Option Member) (new : Option Member) : Calm d (d.memberState old new) :=
  (calm_setF ..).trans (calm_setF ..)

/-- What a new plane puts in force beside the registers (R422). -/
theorem calm_newPlane (d : Device) (n : Net) (c : Cluster) (ht : n.txns = d.net.txns) (hi : n.nextId = d.net.nextId) :
    Calm d { d with net := n, cluster := c } := .same (txns := ht) (nextId := hi)

theorem calm_installPlane (d : Device) : Calm d d.installPlane := by
  unfold Device.installPlane
  extract_lets +onlyGivenNames old new groups d1 _ _ d2
  have h1 : Calm d d1 := calm_setMap ..
  have h2 : Calm d1 d2 := calm_newPlane d1 _ _ rfl rfl
  clear_value d2
  exact (h1.trans h2).trans (((((calm_showMember ..).trans (calm_memberState ..)).trans (calm_setF ..)).trans
    (calm_judgeLinks ..)).trans (calm_alignChildren ..))

theorem calm_checkSlots (d : Device) : Calm d d.checkSlots :=
  Calm.foldl (fun _ _ => calm_checkSlot ..) _ _

theorem calm_endSchedule (d : Device) : Calm d d.endSchedule := by
  unfold Device.endSchedule
  split
  · exact calm_loadFail ..
  · exact (((calm_installPlane ..).trans (calm_setSchedValid ..)).trans (calm_checkSlots ..)).trans (calm_reevaluate ..)

/-- The measurement of a load that ends (R447). -/
theorem calm_measured (d : Device) (m : List Byte) : Calm d { d with keep := { d.keep with measure := m } } := .same

theorem calm_loadDone (d : Device) (l : Load) : Calm d (d.loadDone l) := by
  unfold Device.loadDone
  extract_lets +onlyGivenNames base m _ _ d1 d2 d3
  have h1 : Calm d d1 := ((calm_setCfgState ..).trans (calm_closeLoad ..)).trans (calm_measured ..)
  have h2 : Calm d1 d2 := Calm.ite ((calm_setReg ..).trans (calm_setStage ..)) (.refl _)
  have h3 : Calm d2 d3 := Calm.elim (.refl _) fun _ => calm_slotRewritten ..
  exact ((h1.trans h2).trans h3).trans ((calm_refuseWhere ..).trans (calm_reevaluate ..))

theorem calm_endFull (d : Device) : Calm d d.endFull := by
  unfold Device.endFull
  split
  · exact calm_loadFail ..
  · extract_lets +onlyGivenNames e4
    refine Calm.trans (b := e4) ((calm_setDomeValid ..).trans (calm_endSchedule ..)) ?_
    clear_value e4
    split
    · exact calm_setDomeValid ..
    · exact ((calm_setCfgState ..).trans (calm_setStage ..)).trans (calm_mapLoad ..)

theorem calm_domeConfigured (d : Device) : Calm d { d.setDomeValid true with maintCfg := false } :=
  (calm_setDomeValid d true).trans .same

theorem calm_endReload (d : Device) (l : Load) : Calm d (d.endReload l) := by
  unfold Device.endReload
  extract_lets +onlyGivenNames d1
  have h1 : Calm d d1 := Calm.ite (calm_endSchedule ..) (.refl _)
  clear_value d1
  refine h1.trans ?_
  split
  · exact .refl _
  · exact (Calm.ite (calm_domeConfigured ..) (.refl _)).trans (calm_loadDone ..)

theorem calm_endPacket (d : Device) : Calm d d.endPacket := by
  unfold Device.endPacket
  split
  · exact .refl _
  · split
    · exact calm_loadFail ..
    extract_lets +onlyGivenNames e4
    refine Calm.trans (b := e4) (calm_mapLoad ..) ?_
    clear_value e4
    split
    · exact calm_endFull ..
    · exact calm_endReload ..
    · exact calm_loadDone ..

theorem calm_lockStage (d : Device) : Calm d d.lockStage := by
  unfold Device.lockStage
  split
  · exact Calm.ite ((calm_setF ..).trans (calm_mapLoad ..)) (.refl _)
  · exact .refl _

theorem kept_lockLimit (d : Device) : Kept d d.lockLimit := by
  unfold Device.lockLimit
  split
  · exact Kept.ite ((kept_advance ..).trans ((calm_loadFail ..).toKept)) (.refl _)
  · exact .refl _

theorem kept_afterGap (d : Device) (l : Load) : Kept d (d.afterGap l) :=
  kept_advance ..

theorem kept_stage (d : Device) (code : Nat) (f : Device → Device) (h : ∀ d, Kept d (f d)) : Kept d (d.stage code f) := by
  unfold Device.stage
  split
  · exact .refl _
  split
  · exact Kept.ite ((((kept_afterGap ..).trans (calm_setStage ..).toKept).trans (h _)).trans (calm_mapLoad ..).toKept)
      (.refl _)
  · exact .refl _

theorem calm_outRel (d : Device) : Calm d d.outRel :=
  ((calm_releaseIo ..).trans (calm_setReg ..)).trans (calm_setReg ..)

theorem calm_wrEn (d : Device) : Calm d d.wrEn :=
  Calm.same

theorem calm_rstRel (d : Device) : Calm d d.rstRel :=
  Calm.same

theorem kept_cdoneStage (d : Device) : Kept d d.cdoneStage := by
  unfold Device.cdoneStage
  split
  · exact .refl _
  · split
    · extract_lets +onlyGivenNames e6
      exact (((kept_afterGap ..).trans ((calm_setStage ..).toKept)).trans (Kept.same)).trans (Kept.ite
        (((calm_setCfgState ..).toKept).trans ((calm_mapLoad ..).toKept)) ((calm_loadDone ..).toKept))
    exact .refl _

theorem calm_cdoneRose (d : Device) : Calm d d.cdoneRose := by
  unfold Device.cdoneRose
  split
  · exact .refl _
  extract_lets +onlyGivenNames _ e2
  refine Calm.trans (b := e2) (Calm.same) ?_
  clear_value e2
  split
  · exact Calm.ite (calm_loadDone ..) (.refl _)
  · exact .refl _

theorem calm_setRbData (d : Device) (bs : List Byte) : Calm d (d.setRbData bs) :=
  Calm.foldl (fun _ _ => calm_setReg ..) _ _

theorem calm_readback (d : Device) (w : Word) : Calm d (d.readback w) :=
  (calm_setReg ..).trans (Calm.ite (.refl _) (Calm.ite ((calm_setRbData ..).trans (calm_setReg ..)) (calm_setReg ..)))

theorem calm_readbackDone (d : Device) : Calm d d.readbackDone := by
  unfold Device.readbackDone
  split
  · exact .refl _
  split
  · exact .refl _
  · exact (calm_setRbData ..).trans (calm_setReg ..)

end Sys2Proof.Machine
end

section
/-! PROOFS. What the operations of `Sys2Proof/Machine/Cluster.lean` keep. -/

namespace Sys2Proof.Machine

open Sys2Proof

set_option Elab.async false -- one thread: there are some 800 short proofs

theorem calm_alignReceived (d : Device) (n t1 at_ : Nat) : Calm d (d.alignReceived n t1 at_) :=
  Calm.ite ((Calm.same).trans (calm_sendControl ..)) (.refl _)

theorem calm_alignEcho (d : Device) (n at_ : Nat) : Calm d (d.alignEcho n at_) :=
  Calm.ite (calm_sendControl ..) (.refl _)

theorem calm_noteTheta (d : Device) (n : Nat) (theta : ℤ) : Calm d (d.noteTheta n theta) :=
  calm_setReg ..

theorem kept_applyStep (d : Device) (c : Int) : Kept d (d.applyStep c) :=
  Kept.trans .ofParts (((calm_bump ..).trans (calm_setF ..)).trans (calm_alignChildren ..)).toKept

theorem calm_alignLost (d : Device) (n : Nat) (theta : ℤ) : Calm d (d.alignLost n theta) :=
  ((calm_setF ..).trans (calm_bump ..)).trans (Calm.ite ((calm_faultRecord ..).trans (calm_faultTask ..)) (.refl _))

theorem calm_takeStamps (d : Device) (n : Nat) (theta : Int) :
    Calm d (({ d with cluster := { d.cluster with t1 := none, t2 := none, t3 := none } } : Device).noteTheta n theta) :=
  Calm.trans .same (calm_noteTheta ..)

theorem calm_planStep (d : Device) (s : Option Int) : Calm d { d with cluster := { d.cluster with step := s } } := .same

theorem calm_trim (d : Device) (e t : Int) (g : Nat) :
    Calm d { d with belfry := { d.belfry with edge64 := e, trim := t, trimFrom := g } } := .same

theorem kept_alignResult (d : Device) (n t4 : Nat) : Kept d (d.alignResult n t4) := by
  unfold Device.alignResult
  split
  next t1 t2 t3 _ _ _ _ =>
    refine (calm_takeStamps d n (offset64 t1 t2 t3 t4)).toKept.trans ?_
    refine Kept.ite (Kept.ite (calm_planStep ..).toKept (kept_applyStep ..)) (Kept.ite ?_ (.refl _))
    exact Kept.ite (calm_trim ..).toKept (calm_alignLost ..).toKept
  · exact .refl _

theorem kept_alignmentStep (d : Device) : Kept d d.alignmentStep := by
  unfold Device.alignmentStep
  split
  · exact .refl _
  split
  · exact (calm_setF ..).toKept
  split
  · exact kept_applyStep ..
  · exact .refl _

theorem kept_alignCheck (d : Device) : Kept d d.alignCheck :=
  Kept.ite ((kept_advance ..).trans ((calm_alignChildren ..).toKept)) (.refl _)

theorem calm_realign (d : Device) : Calm d d.realign := by
  unfold Device.realign
  split
  · exact .refl _
  extract_lets +onlyGivenNames e2
  refine Calm.trans (b := e2) (calm_setF ..) ?_
  clear_value e2
  exact Calm.same

theorem calm_frequencyLock (d : Device) : Calm d d.frequencyLock :=
  Calm.ite (calm_setF ..) (.refl _)

theorem kept_cdoneFell (d : Device) : Kept d d.cdoneFell := by
  unfold Device.cdoneFell
  split
  · exact .refl _
  extract_lets +onlyGivenNames _ e2
  refine Kept.trans (b := e2) ((Kept.same).trans ((calm_bump ..).toKept)) ?_
  clear_value e2
  split
  · exact Kept.ite (kept_decideAbort ..) (.refl _)
  · exact .refl _

theorem calm_flooded (d : Device) (n typ seq : Nat) (words : List Nat) (act : Device → Device) (h : ∀ d, Calm d (act d)) :
    Calm d (d.flooded n typ seq words act) :=
  Calm.ite (.refl _) (((calm_noteFlood ..).trans (calm_sendFlood ..)).trans (h _))

theorem calm_dropAttempt (d : Device) (ctx : Nat) : Calm d (d.dropAttempt ctx) := by
  unfold Device.dropAttempt
  split
  · exact .refl _
  · exact Calm.ite ((Calm.foldl (fun _ _ => calm_rewindQueue ..) _ _).trans (((((calm_stopThreads ..).trans
      (calm_loadIdleWheels ..)).trans (calm_dropTables ..)).trans (calm_dropTask ..)).trans (calm_freeDome ..))) (.refl _)

theorem calm_startReceived (d : Device) (n start : Nat) (slot epoch ctx : Nat) (restart : Bool) (seq : Nat) :
    Calm d (d.startReceived n start slot epoch ctx restart seq) := by
  unfold Device.startReceived
  refine (calm_flooded _ _ _ _ _ _ (fun _ => ?_))
  split
  · exact .refl _
  extract_lets +onlyGivenNames _ e2
  refine Calm.trans (b := e2) (Calm.ite (calm_dropAttempt ..) (.refl _)) ?_
  clear_value e2
  exact (Calm.same).trans (calm_requestWake ..)

theorem kept_noStart (d : Device) (dev reason : Nat) : Kept d (d.noStart dev reason) := by
  unfold Device.noStart
  split
  · exact Kept.ite (((calm_faultRecord ..).toKept).trans (kept_decideAbort ..)) (.refl _)
  · exact .refl _

/-- The task of another member is taken (R350). -/
theorem calm_takeMember (d : Device) (ts : List Task) (n b : Nat) (p : Option CluPending) :
    Calm d { d with lantern := { d.lantern with tasks := ts, nextId := n, bank := b, cluPend := p } } := .same

theorem calm_notIdle {d e : Device} (h : Calm d e) : Calm d { e with belfry := { d.belfry with idleFrom := none } } := by
  refine ⟨⟨⟨h.fuses, fun hw => ?_⟩, h.numbers⟩, rfl, rfl⟩
  have hw' := h.wf hw
  rw [wf_iff] at hw' ⊢
  exact hw'

theorem kept_startMember (d : Device) (p : CluPending) (ecc : List (Fin 16 × Bool)) : Kept d (d.startMember p ecc) := by
  unfold Device.startMember
  extract_lets +onlyGivenNames t bank
  refine ((calm_takeMember d (d.lantern.tasks ++ [t]) (t.id + 1) (1 - bank) none).trans ?_).toKept.trans (kept_startTask ..)
  exact calm_notIdle (((calm_setRun ..).trans (calm_ctxEccs ..)).trans (calm_loadBank ..))

theorem kept_startReadiness (d : Device) (ecc : List (Fin 16 × Bool)) : Kept d (d.startReadiness ecc) := by
  unfold Device.startReadiness
  split
  · extract_lets +onlyGivenNames e4
    split
    · exact (kept_advance ..).trans (kept_startMember ..)
    · exact ((kept_advance ..).trans (Kept.same)).trans (((calm_bump ..).toKept).trans ((calm_sendUp ..).toKept))
  · split
    · exact .refl _
    · split
      · split
        · exact .refl _
        extract_lets +onlyGivenNames e8
        refine Kept.trans (b := e8) (kept_advance ..) ?_
        clear_value e8
        split
        · exact kept_startTask ..
        · exact ((calm_bump ..).toKept).trans (kept_noStart ..)
      · exact .refl _

theorem kept_noStartReceived (d : Device) (dev reason : Nat) : Kept d (d.noStartReceived dev reason) :=
  Kept.ite (kept_noStart ..) ((calm_relayUp ..).toKept)

theorem calm_reportIdle (d : Device) : Calm d d.reportIdle :=
  calm_sendUp ..

theorem calm_abortReceived (d : Device) (n ctx seq : Nat) : Calm d (d.abortReceived n ctx seq) := by
  unfold Device.abortReceived
  refine (calm_flooded _ _ _ _ _ _ (fun _ => ?_))
  split
  · exact .refl _
  extract_lets +onlyGivenNames e2
  refine Calm.trans (b := e2) (calm_abortClusterLocal ..) ?_
  clear_value e2
  split
  · exact Calm.ite (calm_reportIdle ..) (Calm.ite (.refl _) ((Calm.same).trans (calm_sendUp ..)))
  · exact calm_reportIdle ..

theorem kept_abortAsked (d : Device) (dev ctx : Nat) : Kept d (d.abortAsked dev ctx) :=
  Kept.ite (Kept.ite (kept_decideAbort ..) (.refl _)) ((calm_relayUp ..).toKept)

theorem kept_abortTimeout (d : Device) : Kept d d.abortTimeout := by
  unfold Device.abortTimeout
  split
  · exact (kept_advance ..).trans ((calm_clusterAborted ..).toKept)
  · exact .refl _

theorem calm_report (d : Device) (l : List (Nat × ReportUnit)) :
    Calm d { d with cluster := { d.cluster with reports := l } } := .same

theorem kept_reportReceived (d : Device) (n : Nat) (rep : ReportUnit) : Kept d (d.reportReceived n rep) := by
  unfold Device.reportReceived
  extract_lets +onlyGivenNames _ store running
  have hstore : Kept d store := (calm_report ..).toKept
  clear_value running
  split
  · cases running with
    | none => exact .refl _
    | some r =>
      exact Kept.ite ((calm_report ..).toKept.trans (kept_tryClusterAborted ..))
        (Kept.ite (Kept.ite (kept_decideAbort ..) (.refl _)) (Kept.ite hstore (.refl _)))
  · split
    · exact Kept.ite (calm_relayUp ..).toKept (Kept.ite (.refl _) hstore)
    · exact (calm_relayUp ..).toKept

theorem kept_reportSend (d : Device) : Kept d d.reportSend := by
  unfold Device.reportSend
  split
  · split
    · split
      · exact .refl _
      extract_lets +onlyGivenNames e6
      refine Kept.trans (b := e6) (kept_advance ..) ?_
      clear_value e6
      exact (Kept.same).trans ((calm_sendUp ..).toKept)
    · exact .refl _
  · exact .refl _

theorem calm_noteMissing (d : Device) (rep : ReportUnit) : Calm d (d.noteMissing rep) := by
  unfold Device.noteMissing
  split
  · exact calm_faultRecord ..
  · exact .refl _

theorem kept_reportDeadline (d : Device) (ecc : List (Fin 16 × Bool)) : Kept d (d.reportDeadline ecc) := by
  unfold Device.reportDeadline
  split
  · exact .refl _
  · split
    · exact .refl _
    extract_lets +onlyGivenNames _ e4 _ e4
    exact (Kept.ite ((((kept_advance ..).trans ((calm_noteMissing ..).toKept)).trans (Kept.same)).trans
      ((calm_bump ..).toKept)) (((kept_advance ..).trans ((calm_noteMissing ..).toKept)).trans (Kept.same))).trans
        (Kept.ite ((calm_restartTask ..).toKept) (((calm_originate ..).toKept).trans ((calm_finishTask ..).toKept)))

theorem calm_finalReceived (d : Device) (n status seq : Nat) : Calm d (d.finalReceived n status seq) := by
  unfold Device.finalReceived
  refine (calm_flooded _ _ _ _ _ _ (fun _ => ?_))
  split
  · split
    · exact Calm.ite (.refl _) ((Calm.ite (calm_bump ..) (.refl _)).trans (calm_finishTask ..))
    · exact .refl _
  · exact .refl _

end Sys2Proof.Machine
end

section
/-! PROOFS. What the operations of `Sys2Proof/Machine/Dome.lean` keep. -/

namespace Sys2Proof.Machine

open Sys2Proof

set_option Elab.async false -- one thread: there are some 800 short proofs

theorem kept_dopStep (d : Device) (env : DopEnv) : Kept d (d.dopStep env) := by
  unfold Device.dopStep
  split
  · exact .refl _
  · exact ((kept_issueStep ..).trans ((calm_mapRun ..).toKept)).trans ((calm_launch ..).toKept)

theorem calm_setMaint (d : Device) (n : Nat) (on : Bool) : Calm d (d.setMaint n on) :=
  calm_setF ..

theorem calm_maintReq (d : Device) (n : Nat) (on : Bool) : Calm d (d.maintReq n on) :=
  (calm_setF ..).trans (Calm.ite (calm_setMaint ..) (Calm.ite (.refl _) (calm_setMaint ..)))

theorem calm_maintEntry (d : Device) : Calm d d.maintEntry :=
  Calm.ite (.refl _) (Calm.foldl (fun _ _ => calm_setMaint ..) _ _)

theorem calm_vxStart (d : Device) (n pc : Nat) : Calm d (d.vxStart n pc) :=
  Calm.ite (calm_setF ..) (((calm_setF ..).trans (calm_domeTo ..)).trans (calm_startProgram ..))

theorem calm_armInjection (d : Device) (n row col : Nat) : Calm d (d.armInjection n row col) :=
  (calm_setFs ..).trans (Calm.ite (calm_setF ..) (.refl _))

end Sys2Proof.Machine
end

section
/-! PROOFS. What the operations of `Sys2Proof/Machine/HostIf.lean` keep. -/

namespace Sys2Proof.Machine

open Sys2Proof

set_option Elab.async false -- one thread: there are some 800 short proofs

theorem calm_mapHif (d : Device) (f : Hif → Hif) : Calm d (d.mapHif f) :=
  Calm.same

theorem calm_linkUse (d : Device) : Calm d d.linkUse :=
  calm_mapHif ..

theorem calm_aerLog (d : Device) (f statusBit severity : Nat) : Calm d (d.aerLog f statusBit severity) :=
  (calm_setFunc ..).trans (calm_emit ..)

theorem calm_aerCorrect (d : Device) (f statusBit : Nat) : Calm d (d.aerCorrect f statusBit) :=
  calm_setFunc ..

theorem calm_poisonedTlp (d : Device) (f : Nat) : Calm d (d.poisonedTlp f) :=
  ((calm_bump ..).trans (calm_aerCorrect ..)).trans (calm_aerLog ..)

theorem calm_logRead (d : Device) (f : Nat) (x2 : ReadResult) : Calm d (d.logRead f x2) := by
  unfold Device.logRead
  split
  · exact .refl _
  · exact calm_aerLog ..
  · exact calm_aerLog ..
  · exact calm_poisonedTlp ..

theorem calm_unsupported (d : Device) (f : Nat) (tag : Option Nat) : Calm d (d.unsupported f tag) :=
  (calm_aerLog ..).trans (Calm.elim (.refl _) (fun _ => calm_emit ..))

theorem calm_aerError (d : Device) (f : Nat) (x2 : TlpError) : Calm d (d.aerError f x2) := by
  unfold Device.aerError
  split
  · exact calm_aerLog ..
  · exact calm_aerLog ..
  · exact calm_aerLog ..
  · exact calm_aerLog ..
  · exact calm_aerLog ..
  · exact (calm_aerCorrect ..).trans (calm_emit ..)
  · exact (calm_aerCorrect ..).trans (calm_emit ..)
  · exact (calm_aerCorrect ..).trans (calm_emit ..)
  · exact (calm_aerCorrect ..).trans (calm_emit ..)
  · exact (calm_aerCorrect ..).trans (calm_emit ..)

theorem calm_badTlp (d : Device) (f : Option Nat) (k : TlpError) : Calm d (d.badTlp f k) :=
  Calm.foldl (fun _ _ => calm_aerError ..) _ _

theorem calm_doorbell (d : Device) (f off : Nat) (bytes : List (Option Byte)) : Calm d (d.doorbell f off bytes) := by
  unfold Device.doorbell
  extract_lets +onlyGivenNames _ _ _
  split
  · exact calm_bump ..
  · exact Calm.ite (calm_bump ..) (calm_setF ..)

theorem calm_fetchError (d : Device) (r : Nat) : Calm d (d.fetchError r) :=
  (calm_raise ..).trans (calm_mapHif ..)

theorem calm_ringRead (d : Device) : Calm d d.ringRead := by
  unfold Device.ringRead
  split
  · exact .refl _
  extract_lets +onlyGivenNames _
  split
  · exact .refl _
  · exact Calm.ite ((calm_mapHif ..).trans (calm_hostRead ..)) (((calm_mapHif ..).trans (calm_hostRead ..)).trans
      (calm_fetchError ..))

theorem calm_nextInput (d : Device) (q fuel : Nat) : Calm d (d.nextInput q fuel) := by
  induction fuel generalizing d with
  | zero => exact .refl _
  | succ fuel ih =>
    unfold Device.nextInput
    split
    · exact .refl _
    refine Calm.ite (.refl _) ?_
    extract_lets +onlyGivenNames e drop
    refine Calm.trans (b := e) (((calm_startMarker ..).trans (calm_pushUnit ..)).trans (calm_linkedLater ..)) ?_
    clear_value e
    refine Calm.ite ((calm_mapHif ..).trans (ih _)) ((calm_hostRead ..).trans (Calm.ite (calm_mapHif ..) ?_))
    exact ((((calm_mapHif ..).trans (calm_bump ..)).trans (calm_pushBytes ..)).trans (calm_linkedLater ..)).trans (ih _)

theorem calm_finishInput (d : Device) (x : Input) (res : ReadResult) : Calm d (d.finishInput x res) := by
  unfold Device.finishInput
  extract_lets +onlyGivenNames d1 d2
  have h1 : Calm d d1 := calm_mapHif ..
  have h2 : Calm d1 d2 := by
    unfold d2
    cases res with
    | ok bs => exact calm_pushBytes ..
    | _ => exact ((calm_logRead ..).trans (calm_bump ..)).trans (calm_pushBytes ..)
  exact (h1.trans h2).trans ((calm_linkedLater ..).trans (calm_nextInput ..))

theorem calm_reject (d : Device) (r idx cause : Nat) : Calm d (d.reject r idx cause) :=
  (calm_bump ..).trans (Calm.ite (.refl _) ((calm_setFs ..).trans (calm_raise ..)))

theorem calm_accept (d : Device) (r : Nat) (q : List Word) : Calm d (d.accept r q) := by
  unfold Device.accept
  extract_lets +onlyGivenNames _ _ e2
  exact Calm.ite (((calm_bump ..).trans (Calm.same)).trans (calm_recordUnstarted ..)) ((Calm.ite
    ((((((calm_bump ..).trans (Calm.same)).trans (calm_setF ..)).trans (calm_refreshPend ..)).trans
      (calm_mapHif ..)).trans (calm_nextInput ..)) ((((calm_bump ..).trans (Calm.same)).trans (calm_setF ..)).trans
        (calm_refreshPend ..))).trans (calm_nextHead ..))

theorem calm_takeEntry (d : Device) (r : Nat) (q : List Word) : Calm d (d.takeEntry r q) := by
  unfold Device.takeEntry
  extract_lets +onlyGivenNames _ e2
  refine Calm.trans (b := e2) (calm_setF ..) ?_
  clear_value e2
  split
  · exact calm_reject ..
  · exact calm_accept ..

theorem calm_takeEntries (d : Device) (r n : Nat) (ws : List Word) : Calm d (d.takeEntries r n ws) := by
  induction n generalizing d ws with
  | zero => exact .refl _
  | succ n ih => exact (calm_takeEntry ..).trans (ih ..)

theorem calm_ringData (d : Device) (r : Nat) (res : ReadResult) : Calm d (d.ringData r res) := by
  unfold Device.ringData
  split
  · exact .refl _
  · split
    · exact (calm_mapHif ..).trans (calm_takeEntries ..)
    · exact (calm_logRead ..).trans (calm_fetchError ..)

theorem calm_settleInvals (d : Device) : Calm d d.settleInvals :=
  (calm_mapHif ..).trans (Calm.foldl (fun _ _ => calm_emit ..) _ _)

theorem calm_ringOff (d : Device) (r : Nat) : Calm d (d.ringOff r) :=
  (calm_setF ..).trans (calm_setF ..)

theorem calm_ringOn (d : Device) (r : Nat) (w : Word) : Calm d (d.ringOn r w) :=
  (calm_setReg ..).trans (Calm.ite (.refl _) (calm_setF ..))

theorem calm_ringReady (d : Device) (r : Nat) : Calm d (d.ringReady r) :=
  Calm.ite (.refl _) (((calm_setReg ..).trans (calm_setReg ..)).trans (calm_setReg ..))

theorem calm_inputData (d : Device) (id : Nat) (res : ReadResult) : Calm d (d.inputData id res) := by
  unfold Device.inputData
  split
  · exact .refl _
  · exact calm_finishInput ..

theorem calm_prefetch (d : Device) (a : ℤ) : Calm d (d.prefetch a) :=
  Calm.ite (.refl _) (calm_newTxn ..)

theorem calm_detect (d : Device) (f a : Nat) : Calm d (d.detect f a) := by
  unfold Device.detect
  extract_lets +onlyGivenNames _ _ _ _
  split
  · exact Calm.same
  · exact (Calm.same).trans (Calm.ite (.refl _) (Calm.ite (calm_prefetch ..) (Calm.foldl (fun _ _ => calm_prefetch ..) _ _)))

theorem calm_readPrefetched (d : Device) (u : Nat) (x : DUnit) (e : Ecc) : Calm d (d.readPrefetched u x e).2 :=
  calm_eccCount ..

theorem calm_readPrefetcheds (d : Device) (ecc : List (Nat × Ecc)) (i : Nat) (us : List (Nat × DUnit)) :
    Calm d (d.readPrefetcheds ecc i us).2 := by
  induction us generalizing d i with
  | nil => exact .refl _
  | cons u us ih => exact (calm_readPrefetched ..).trans (ih ..)

theorem calm_bar2Read (d : Device) (f off : Nat) (len tag : Nat) (ecc : List (Nat × Ecc)) :
    Calm d (d.bar2Read f off len tag ecc) := by
  unfold Device.bar2Read
  extract_lets +onlyGivenNames _ _ _ _
  split
  · exact (((calm_bump ..).trans (calm_readPrefetcheds ..)).trans (calm_detect ..)).trans (calm_answerHost ..)
  · exact (Calm.ite ((calm_bump ..).trans (calm_detect ..)) (calm_bump ..)).trans (calm_newTxn ..)

theorem calm_bar2Lines (d : Device) (f : Nat) (ep : Bool) (fuel : Nat) (ls : List (Nat × List (Option Byte))) :
    Calm d (d.bar2Lines f ep fuel ls) := by
  induction fuel generalizing d ls with
  | zero => exact .refl _
  | succ fuel ih =>
    unfold Device.bar2Lines
    extract_lets +onlyGivenNames unit
    cases ls with
    | nil => exact .refl _
    | cons l rest => exact Calm.ite ((calm_newTxn ..).trans (ih ..)) (Calm.ite (ih ..) ((calm_newTxn ..).trans (ih ..)))

theorem calm_bar2Write (d : Device) (f off : Nat) (bytes : List (Option Byte)) (ep : Bool) :
    Calm d (d.bar2Write f off bytes ep) :=
  (Calm.ite (calm_poisonedTlp ..) (.refl _)).trans (calm_bar2Lines ..)

theorem calm_hostData (d : Device) (id : Nat) (res : ReadResult) : Calm d (d.hostData id res) := by
  unfold Device.hostData
  split
  · exact .refl _
  · split
    · split
      · exact calm_deliverAll ..
      · extract_lets +onlyGivenNames e8
        refine Calm.trans (b := e8) (calm_logRead ..) ?_
        clear_value e8
        split
        · exact (calm_dropTxn ..).trans (calm_threadFails ..)
        · exact calm_refuseRead ..
    · exact .refl _

theorem calm_releaseAts (d : Device) (e : AtsEntry) (h : AtsHeld) : Calm d (d.releaseAts e h) := by
  unfold Device.releaseAts
  extract_lets +onlyGivenNames _
  split
  · exact Calm.ite (calm_emit ..) (calm_bump ..)
  · split
    · exact calm_emit ..
    split
    · exact calm_fetchError ..
    · exact calm_inputData ..
    · exact calm_hostData ..
  · exact calm_emit ..

theorem calm_atsDone (d : Device) (e : AtsEntry) : Calm d (d.atsDone e) :=
  (calm_mapHif ..).trans ((calm_mapHif ..).trans (Calm.foldl (fun _ _ => calm_releaseAts ..) _ _))

theorem calm_atsInvalidate (d : Device) (f page : Nat) : Calm d (d.atsInvalidate f page) :=
  (Calm.ite (calm_emit ..) (.refl _)).trans ((calm_mapHif ..).trans (calm_settleInvals ..))

theorem calm_failReads (d : Device) (f : Nat) : Calm d (d.failReads f) :=
  ((Calm.foldl (fun _ _ => calm_hostData ..) _ _).trans (Calm.foldl (fun _ _ => calm_finishInput ..) _ _)).trans
    (Calm.foldl (fun _ _ => calm_fetchError ..) _ _)

theorem kept_resetFunc (d : Device) (f : Nat) : Kept d (d.resetFunc f) :=
  ((((((Kept.ite (.refl _) ((calm_bump ..).toKept)).trans ((calm_setFunc ..).toKept)).trans
    ((calm_mapHif ..).toKept)).trans ((calm_failReads ..).toKept)).trans ((calm_setFunc ..).toKept)).trans (Kept.foldl
      (fun _ _ => Kept.ite ((calm_ringOff ..).toKept) (.refl _)) _ _)).trans (Kept.foldl
        (fun _ _ => kept_abortRequest ..) _ _)

/-- Registers that are put back: the others stay in their canonical form. -/
theorem calm_filterRegs (d : Device) (p : Nat × Word → Bool) : Calm d { d with regs := d.regs.filter p } :=
  .ofParts (regs := fun h => mapWf_filter h p)

theorem kept_resetPf (d : Device) : Kept d d.resetPf :=
  (Kept.foldl (fun _ _ => kept_resetFunc ..) (List.range 64) d).trans (calm_filterRegs ..).toKept

theorem kept_flr (d : Device) (f : Nat) : Kept d (d.flr f) :=
  Kept.ite (kept_resetPf ..) (kept_resetFunc ..)

theorem kept_loseLink (d : Device) : Kept d d.loseLink :=
  (((calm_setReg ..).toKept).trans (kept_resetPf ..)).trans ((calm_mapHif ..).toKept)

theorem calm_perstLow (d : Device) : Calm d { d with belfry := { d.belfry with perstN := false } } := .same

theorem kept_perst (d : Device) : Kept d d.perst :=
  ((kept_loseLink d).trans (calm_mapHif ..).toKept).trans (calm_perstLow _).toKept

theorem calm_perstRise (d : Device) : Calm d d.perstRise :=
  (Calm.same).trans (Calm.ite (calm_mapHif ..) (.refl _))

theorem calm_linkUp (d : Device) (st : BitVec 32) : Calm d (d.linkUp st) :=
  Calm.ite (.refl _) (((calm_setReg ..).trans (calm_mapHif ..)).trans (calm_linkUse ..))

theorem calm_l0p (d : Device) (w : Nat) : Calm d (d.l0p w) :=
  Calm.ite (calm_setF ..) (.refl _)

theorem kept_aspm (d : Device) : Kept d d.aspm :=
  Kept.ite (.refl _) ((kept_advance ..).trans ((calm_mapHif ..).toKept))

theorem calm_configWrite (d : Device) (f r : Nat) (v : BitVec 32) : Calm d (d.configWrite f r v) :=
  calm_setFunc ..

theorem calm_configRequest (d : Device) (f r tag : Nat) (wr : Option (BitVec 32)) : Calm d (d.configRequest f r tag wr) := by
  unfold Device.configRequest
  split
  · exact .refl _
  · split
    · exact calm_emit ..
    split
    · exact (calm_configWrite ..).trans (calm_emit ..)
    · exact calm_emit ..

theorem calm_deny (d : Device) : Calm d d.deny :=
  calm_bump ..

theorem kept_vfAbort (d : Device) (v : Nat) (w : BitVec 32) : Kept d (d.vfAbort v w) :=
  Kept.ite (.refl _) (Kept.ite ((calm_deny ..).toKept) (kept_lntAbort ..))

theorem calm_vfSig (d : Device) (v : Nat) (w : Word) : Calm d (d.vfSig v w) :=
  Calm.ite (calm_deny ..) (Calm.ite (.refl _) (calm_arrive ..))

theorem calm_vfSop (d : Device) (v : Nat) (w : Word) : Calm d (d.vfSop v w) :=
  Calm.ite (calm_deny ..) ((calm_requestWake ..).trans (calm_sopWrite ..))

theorem calm_flushWrite (d : Device) (w : BitVec 32) : Calm d (d.flushWrite w) :=
  Calm.ite ((calm_flushQueue ..).trans (calm_serveCopies ..)) (.refl _)

theorem calm_vfFlush (d : Device) (v : Nat) (w : BitVec 32) : Calm d (d.vfFlush v w) :=
  Calm.ite (calm_deny ..) (calm_flushWrite ..)

end Sys2Proof.Machine
end

section
/-! PROOFS. What the operations of `Sys2Proof/Machine/Keep.lean` keep. -/

namespace Sys2Proof.Machine

open Sys2Proof

set_option Elab.async false -- one thread: there are some 800 short proofs

theorem calm_writeRecords (d : Device) (r : List Byte) : Calm d (d.writeRecords r) :=
  Calm.same

theorem calm_setPhase (d : Device) (x : Nat) : Calm d (d.setPhase x) :=
  calm_setF ..

theorem calm_keepDown (d : Device) (phase : Nat) : Calm d (d.keepDown phase) := by
  unfold Device.keepDown
  extract_lets +onlyGivenNames e
  exact Calm.trans (b := e) ((calm_setPhase ..).trans (calm_setFs ..)) .same

theorem calm_loseJob (d : Device) : Calm d d.loseJob := by
  unfold Device.loseJob
  split
  · exact .refl _
  · exact Calm.same

theorem update_fuses (k : Keep) (keysB : Bool) (t e : Nat) (b : Bool) (env : UpdateEnv) :
    (k.update keysB t e b env).1.fuses = k.fuses := by
  unfold Keep.update
  dsimp only
  split
  · rfl
  split
  · rfl
  split
  · rfl
  split
  · rfl
  · split <;> rfl

theorem calm_recoverFromCard (d : Device) : Calm d d.recoverFromCard := by
  unfold Device.recoverFromCard
  split
  · exact .refl _
  extract_lets +onlyGivenNames entry
  split
  next e1 e2 e3 _ _ _ =>
    extract_lets +onlyGivenNames ok
    have h1 := update_fuses d.keep false 1 e1 false ok
    generalize d.keep.update false 1 e1 false ok = a at h1 ⊢
    obtain ⟨k1, r1⟩ := a
    have h2 := update_fuses k1 false 2 e2 false ok
    dsimp only at h1 ⊢
    generalize k1.update false 2 e2 false ok = a at h2 ⊢
    obtain ⟨k2, r2⟩ := a
    have h3 := update_fuses k2 false 3 e3 false ok
    dsimp only at h2 ⊢
    generalize k2.update false 3 e3 false ok = a at h3 ⊢
    obtain ⟨k3, r3⟩ := a
    have hk : k3.fuses = d.keep.fuses := h3.trans (h2.trans h1)
    refine Calm.trans (.same (fuses := hk)) (Calm.ite ?_ (.refl _))
    exact (calm_writeRecords ..).trans (calm_keepDown ..)
  · exact .refl _

theorem calm_enterRecovery (d : Device) : Calm d d.enterRecovery := by
  unfold Device.enterRecovery
  extract_lets +onlyGivenNames _ e2
  exact (Calm.ite (calm_setPhase ..) (((calm_setPhase ..).trans (Calm.same)).trans (Calm.foldl
    (fun _ _ => calm_raise ..) _ _))).trans (calm_recoverFromCard ..)

theorem calm_bootWith (d : Device) (slots trial : Nat) : Calm d (d.bootWith slots trial) := by
  unfold Device.bootWith
  extract_lets +onlyGivenNames e2
  refine Calm.trans (b := e2) ((calm_setPhase ..).trans (calm_setFs ..)) ?_
  clear_value e2
  exact Calm.same

theorem calm_keepBoot (d : Device) : Calm d d.keepBoot := by
  unfold Device.keepBoot
  split
  · exact .refl _
  extract_lets +onlyGivenNames e2 e2
  split
  · exact Calm.ite (((Calm.ite (.refl _) ((calm_loseJob ..).trans (calm_keepDown ..))).trans (calm_setF ..)).trans
      (calm_bootWith ..)) (((Calm.ite (.refl _) ((calm_loseJob ..).trans (calm_keepDown ..))).trans
        (calm_setF ..)).trans (calm_enterRecovery ..))
  split
  · exact ((Calm.ite (.refl _) ((calm_loseJob ..).trans (calm_keepDown ..))).trans (calm_setF ..)).trans
      (calm_enterRecovery ..)
  · exact (Calm.ite ((((Calm.ite (.refl _) ((calm_loseJob ..).trans (calm_keepDown ..))).trans (calm_setF ..)).trans
      (calm_writeRecords ..)).trans (calm_bump ..)) ((Calm.ite (.refl _) ((calm_loseJob ..).trans
        (calm_keepDown ..))).trans (calm_setF ..))).trans (calm_bootWith ..)

theorem calm_cfgBefore (d : Device) (x : Nat) :
    Calm d { d.setCfgState x with keep := { d.keep with cfgBefore := none } } :=
  (calm_setCfgState d x).trans (.same)

theorem calm_restoreCfg (d : Device) : Calm d d.restoreCfg := by
  unfold Device.restoreCfg
  split
  · exact .refl _
  · exact calm_cfgBefore ..

theorem calm_mgmtReady (d : Device) : Calm d d.mgmtReady := by
  unfold Device.mgmtReady
  split
  · exact .refl _
  extract_lets +onlyGivenNames _ _ e2 e2 _ e2 e2
  refine Calm.trans (b := e2) (((Calm.ite (((((calm_setPhase ..).trans (calm_setFs ..)).trans (calm_setReg ..)).trans
    (calm_writeRecords ..)).trans (calm_bump ..)) ((Calm.ite ((((calm_setPhase ..).trans (calm_setFs ..)).trans
      (calm_setReg ..)).trans (calm_writeRecords ..)) (((calm_setPhase ..).trans (calm_setFs ..)).trans
        (calm_setReg ..))).trans (Calm.ite (calm_bump ..) (.refl _)))).trans (calm_setF ..)).trans (calm_restoreCfg ..)) ?_
  clear_value e2
  exact Calm.same

theorem calm_reverting (d : Device) (b : Bool) : Calm d { d with keep := { d.keep with reverting := b } } := .same

theorem kept_revert (d : Device) (g : Nat) :
    Kept d { (d.advance g).keepDown 3 with keep := { ((d.advance g).keepDown 3).keep with reverting := true } } :=
  ((kept_advance ..).trans (calm_keepDown ..).toKept).trans (calm_reverting ..).toKept

theorem kept_trialExpires (d : Device) : Kept d d.trialExpires := by
  unfold Device.trialExpires
  exact Kept.ite (kept_revert ..) (.refl _)

/-- The card of the module changes (R444). -/
theorem calm_card (d : Device) (v : Nat) (c : Option (List (Nat × List Byte))) :
    Calm d { d.setF Reg.kepStatus 8 1 v with keep := { d.keep with card := c } } :=
  (calm_setF d Reg.kepStatus 8 1 v).trans .same

theorem calm_cardIn (d : Device) (extents : List (Nat × List Byte)) : Calm d (d.cardIn extents) :=
  (calm_card ..).trans (Calm.ite (calm_recoverFromCard ..) (.refl _))

theorem calm_setMailData (d : Device) (bs : List Byte) : Calm d (d.setMailData bs) :=
  Calm.foldl (fun _ _ => Calm.ite (calm_setReg ..) (.refl _)) _ _

theorem calm_keepAnswer (d : Device) (p : KeepPort) (r : Nat) (out : List Byte) : Calm d (d.keepAnswer p r out) := by
  unfold Device.keepAnswer
  extract_lets +onlyGivenNames e2
  refine Calm.trans (b := e2) (calm_bump ..) ?_
  clear_value e2
  split
  · exact (calm_setMailData ..).trans (calm_setFs ..)
  · exact calm_emit ..

theorem calm_keepBusy (d : Device) (p : KeepPort) : Calm d (d.keepBusy p) := by
  unfold Device.keepBusy
  split
  · exact calm_setF ..
  · exact calm_emit ..

theorem calm_keepCommand (d : Device) (p : KeepPort) (f : Device → Device × Nat × List Byte) (h : ∀ d, Calm d (f d).1) :
    Calm d (d.keepCommand p f) :=
  Calm.ite (calm_keepAnswer ..) (Calm.ite (calm_keepBusy ..) ((h d).trans (calm_keepAnswer ..)))

theorem calm_getInfo (d : Device) (p : KeepPort) (arg : Nat) : Calm d (d.getInfo p arg) :=
  calm_keepCommand _ _ _ (fun _ => Calm.iteFst (.refl _) (.refl _))

theorem calm_startUpdate (d : Device) (p : KeepPort) (arg : BitVec 32) (env : UpdateEnv) :
    Calm d (d.startUpdate p arg env) := by
  unfold Device.startUpdate
  refine Calm.ite (calm_keepAnswer ..) (Calm.ite (calm_keepBusy ..) ((calm_bump d Reg.kepUpdateCnt 1).trans ?_))
  extract_lets +onlyGivenNames d1 d2
  refine Calm.ite ((calm_bump ..).trans (calm_keepAnswer ..)) ?_
  have h2 : Calm d1 d2 := by
    unfold d2
    cases p with
    | mailbox => exact calm_setFs ..
    | mctp _ => exact .refl _
  clear_value d2
  exact h2.trans .same

theorem calm_keepWork (d : Device) : Calm d d.keepWork := by
  unfold Device.keepWork
  split
  · exact .refl _
  next j hj =>
    split
    next k r heq =>
    have hk : k.fuses = d.keep.fuses := by rw [← update_fuses d.keep, heq]
    exact (Calm.same (fuses := hk)).trans ((Calm.ite (.refl _) (calm_bump ..)).trans (calm_keepAnswer ..))

theorem calm_cardOut (d : Device) : Calm d d.cardOut :=
  (calm_card d 0 none).trans (calm_keepWork ..)

/-- The slots that an activation starts are no longer staged (R443): no fuse is touched. -/
theorem unstage_fuses (arg : BitVec 32) (slot : Nat → Bool) (l : List Nat) (k : Keep) :
    (l.foldl (fun k t => if bit arg (t - 1) then k.setSlot t (slot t) { k.slot t
      (slot t) with staged := false } else k) k).fuses =
      k.fuses := by
  induction l generalizing k with
  | nil => rfl
  | cons t l ih =>
    rw [List.foldl_cons, ih]
    split <;> rfl

theorem calm_trialRecord (d : Device) (p : KeepPort) (w : List Byte) {k : Keep} (h : k.fuses = d.keep.fuses) :
    Calm d (((Device.writeRecords { d with keep := k } w).keepAnswer p 0 []).setCfgState 7 |>.keepDown 3) :=
  (((Calm.trans (.same (fuses := h)) (calm_writeRecords ..)).trans (calm_keepAnswer ..)).trans (calm_setCfgState ..)).trans
    (calm_keepDown ..)

theorem calm_activateTrial (d : Device) (p : KeepPort) (arg : BitVec 32) : Calm d (d.activateTrial p arg) := by
  unfold Device.activateTrial
  extract_lets +onlyGivenNames bad
  cases bad with
  | some r => exact calm_keepCommand _ _ _ (fun _ => .refl _)
  | none =>
    refine Calm.ite (calm_keepCommand _ _ _ fun _ => .refl _) (calm_trialRecord (h := ?_) ..)
    exact unstage_fuses arg (fun t => !d.slotB t) [1, 2, 3, 4] d.keep

theorem FusesKept.blow {f : Fuses} {g : FuseCopy → FuseCopy} (h : ∀ c, CopyKept c (g c)) : FusesKept f (f.blow g) :=
  ⟨h _, h _, rfl, rfl, fun _ => ⟨rfl, rfl⟩⟩

/-- A new value of the fuses in which what was blown stays blown. -/
theorem calm_fuses (d : Device) {f : Fuses} (h : FusesKept d.keep.fuses f) :
    Calm d { d with keep := { d.keep with fuses := f } } :=
  ⟨⟨⟨h, id⟩, le_rfl⟩, rfl, rfl⟩

/-- A bit that is set stays set under an OR. -/
theorem bit_or_left {w : Nat} (x y : BitVec w) (i : Nat) (h : bit x i = true) : bit (x ||| y) i = true := by
  unfold bit at h ⊢
  rw [BitVec.getLsbD_or, h, Bool.true_or]

/-- A bit of an SVN field that is set stays set when another value is ORed into one of them. -/
theorem svn_or_kept (l : List Word) (k : Nat) (m : Word) (t i : Nat) (h : bit (l.getD t 0) i = true) :
    bit ((l.set k (l.getD k 0 ||| m)).getD t 0) i = true := by
  rw [List.getD_eq_getElem?_getD, List.getElem?_set]
  split
  next hk =>
    subst hk
    split
    · exact bit_or_left _ _ i h
    next hlen => rw [List.getD_eq_default _ _ (not_lt.1 hlen)] at h; exact h
  · rwa [← List.getD_eq_getElem?_getD]

theorem calm_commitSvn (d : Device) (p : KeepPort) (arg : BitVec 32) : Calm d (d.commitSvn p arg) := by
  unfold Device.commitSvn
  refine calm_keepCommand _ _ _ fun d => .iteFst (.refl _) (.iteFst (.refl _) (calm_fuses d ?_))
  split
  · exact .refl _
  · exact .blow fun c => ⟨rfl, rfl, id, fun _ => id, fun _ => id, svn_or_kept _ _ _⟩

theorem calm_getAttest (d : Device) (p : KeepPort) (arg : Nat) : Calm d (d.getAttest p arg) := by
  unfold Device.getAttest
  refine calm_keepCommand _ _ _ fun d => .iteFst (.refl _) (.iteFst (.refl _) ?_)
  exact .refl d

theorem calm_getCert (d : Device) (p : KeepPort) (arg : Nat) : Calm d (d.getCert p arg) :=
  calm_keepCommand _ _ _ (fun _ => Calm.iteFst (.refl _) (Calm.iteFst (.refl _) (.refl _)))

theorem calm_bbramWrite (d : Device) (p : KeepPort) (arg : Nat) : Calm d (d.bbramWrite p arg) := by
  unfold Device.bbramWrite
  extract_lets +onlyGivenNames _
  refine (calm_keepCommand _ _ _ (fun _ => ?_))
  split
  · exact .refl _
  split
  · exact .refl _
  extract_lets +onlyGivenNames _ e2
  refine Calm.trans (b := e2) (Calm.same) ?_
  clear_value e2
  exact .refl _

theorem calm_bbramErase (d : Device) (p : KeepPort) (arg : Nat) : Calm d (d.bbramErase p arg) :=
  calm_keepCommand _ _ _ (fun _ => Calm.iteFst (.refl _) (Calm.same))

theorem calm_fuseProgram (d : Device) (p : KeepPort) (arg : Nat) : Calm d (d.fuseProgram p arg) := by
  unfold Device.fuseProgram
  extract_lets +onlyGivenNames input
  refine calm_keepCommand _ _ _ fun d => .iteFst (.refl _) (.iteFst ?_ (.iteFst ?_ (.iteFst ?_ (.refl _))))
  · split
    · exact .refl _
    next hset =>
      exact calm_fuses d ⟨⟨rfl, rfl, fun _ => rfl, fun _ => id, fun _ => id, fun _ _ => id⟩,
        ⟨rfl, rfl, fun _ => rfl, fun _ => id, fun _ => id, fun _ _ => id⟩, rfl, rfl, fun h => absurd h hset⟩
  · exact calm_fuses d (.blow fun c => ⟨rfl, rfl, id, fun i => bit_or_left _ _ i, fun _ => id, fun _ _ => id⟩)
  · exact calm_fuses d (.blow fun c => ⟨rfl, rfl, id, fun _ => id, fun i => bit_or_left _ _ i, fun _ _ => id⟩)

theorem calm_mailCommand (d : Device) (w : Word) : Calm d (d.mailCommand w) := by
  unfold Device.mailCommand
  extract_lets +onlyGivenNames _
  split
  · exact .refl _
  split
  · exact calm_getInfo ..
  · exact calm_startUpdate ..
  · exact calm_activateTrial ..
  · exact calm_commitSvn ..
  · exact calm_getAttest ..
  · exact calm_getCert ..
  · exact calm_bbramWrite ..
  · exact calm_bbramErase ..
  · exact calm_fuseProgram ..
  · exact calm_keepCommand _ _ _ (fun _ => .refl _)

theorem kept_tick (d : Device) : Kept d d.tick := by
  unfold Device.tick
  extract_lets +onlyGivenNames e2
  refine Kept.trans (b := e2) ((kept_advance ..).trans ((calm_serveCopies ..).toKept)) ?_
  clear_value e2
  exact Kept.ite ((calm_keepWork ..).toKept) (.refl _)

end Sys2Proof.Machine
end

section
/-! PROOFS. What the operations of `Sys2Proof/Machine/Fabric.lean` keep. -/

namespace Sys2Proof.Machine

open Sys2Proof

set_option Elab.async false -- one thread: there are some 800 short proofs

theorem calm_setTree (d : Device) (n : Nat) (f : ClockTree → ClockTree) : Calm d (d.setTree n f) :=
  Calm.ite (calm_mapFabric ..) (.refl _)

theorem calm_pllLoses (d : Device) (p : Nat) : Calm d (d.pllLoses p) :=
  Calm.ite (((calm_setF ..).trans (calm_raise ..)).trans (calm_bump ..)) (.refl _)

theorem calm_pllLocks (d : Device) (p : Nat) : Calm d (d.pllLocks p) :=
  Calm.ite (calm_setF ..) (.refl _)

theorem calm_setDelay (d : Device) (n : Nat) (x : DelayLine) : Calm d (d.setDelay n x) :=
  calm_mapFabric ..

theorem calm_stepDelay (d : Device) (n : Nat) (inc : Bool) : Calm d (d.stepDelay n inc) :=
  Calm.ite (.refl _) (Calm.ite (calm_setDelay ..) (Calm.ite (calm_setDelay ..) ((calm_takeFree d 9).trans
    (calm_setDelay ..))))

theorem calm_loadDelay (d : Device) (n t : Nat) : Calm d (d.loadDelay n t) :=
  calm_setDelay ..

theorem calm_apEntry (d : Device) (u : ApUnit) (be : Word) : Calm d (d.apEntry u be).2 := by
  unfold Device.apEntry
  extract_lets +onlyGivenNames _ _
  split
  · exact .refl _
  split
  · exact .refl _
  · exact Calm.iteSnd (.refl _) (calm_bump ..)

theorem calm_apEntries (d : Device) (be : Word) (us : List ApUnit) : Calm d (d.apEntries be us).2 := by
  induction us generalizing d with
  | nil => exact .refl _
  | cons u us ih => exact (calm_apEntry ..).trans (ih _)

theorem calm_apIssue (d : Device) (ap : Nat) (q : ApRequest) : Calm d (d.apIssue ap q) := by
  unfold Device.apIssue
  extract_lets +onlyGivenNames _
  split
  · exact .refl _
  split
  · exact (calm_bump ..).trans (calm_emit ..)
  · split
    · exact calm_newTxn ..
    · exact (calm_apEntries ..).trans (calm_newTxn ..)
    · exact (calm_apEntry ..).trans (calm_newTxn ..)

theorem calm_userWindow (d : Device) (ap off : Nat) (x : UserAccess) : Calm d (d.userWindow ap off x) := by
  unfold Device.userWindow
  split
  · exact calm_newTxn ..
  · exact calm_newTxn ..

theorem calm_userAnswer (d : Device) (ap : Nat) (data : Word) (pois : Bool) : Calm d (d.userAnswer ap data pois) := by
  unfold Device.userAnswer
  split
  · exact .refl _
  · exact Calm.ite (calm_deliver ..) (.refl _)

theorem calm_codeword (d : Device) (l : Nat) (corrected : Option Nat) (words : List (BitVec 257)) :
    Calm d (d.codeword l corrected words) := by
  unfold Device.codeword
  refine Calm.ite (.refl _) ?_
  extract_lets +onlyGivenNames locked
  split
  extract_lets +onlyGivenNames run d1 d2 d3
  have h3 : Calm d2 d3 := by
    unfold d3
    cases corrected with
    | none => exact .ite (calm_bump ..) (.refl _)
    | some n => exact calm_bump ..
  exact (((calm_mapFabric ..).trans (calm_setF ..)).trans h3).trans (.ite (calm_emit ..) (.refl _))

theorem calm_clearLanePrbs (d : Device) (l : Nat) : Calm d (d.clearLanePrbs l) :=
  (calm_setReg ..).trans (calm_setReg ..)

theorem calm_cdrLock (d : Device) (l : Nat) (b : Bool) : Calm d (d.cdrLock l b) :=
  Calm.ite (calm_setF ..) (.refl _)

theorem calm_ramRead (d : Device) (n port w : Nat) (mode : WriteMode) (reg ecc undef : Bool) (old : Nat) (x : RamAccess)
    (e : Ecc) : Calm d (d.ramRead n port w mode reg ecc undef old x e) := by
  unfold Device.ramRead
  extract_lets +onlyGivenNames p put
  have hput : ∀ (d : Device) v, Calm d (put d v) := fun d v => calm_mapFabric ..
  refine Calm.ite (.refl _) (Calm.ite ((calm_takeFree d 144).trans (hput ..)) ?_)
  split
  · exact hput ..
  · exact hput ..
  · exact (Calm.ite (calm_bump ..) (Calm.ite (calm_bump ..) (.refl _))).trans (hput ..)

theorem calm_ramWrite (d : Device) (n w : Nat) (x : RamAccess) : Calm d (d.ramWrite n w x) := by
  unfold Device.ramWrite
  split
  · exact .refl _
  · exact Calm.ite (.ofParts (cfgMem := fun h => memWf_memWrite h ..)) (.refl _)

theorem calm_fifoTurn (d : Device) (n : Nat) (c : RamSetup) (a b : Option RamAccess) :
    Calm d (d.fifoTurn n c a b).2.2 := by
  unfold Device.fifoTurn
  split
  · exact .refl _
  · dsimp only
    exact calm_mapFabric ..

theorem calm_ramAccess (d : Device) (n : Nat) (a b : Option RamAccess) (near : Bool) (ea eb : Ecc) :
    Calm d (d.ramAccess n a b near ea eb) := by
  unfold Device.ramAccess
  refine (calm_fifoTurn d n (Config.ramSetup d.cfgMem n) a b).trans ?_
  extract_lets +onlyGivenNames c
  rcases d.fifoTurn n c a b with ⟨a', b', d'⟩
  refine .trans ?_ (Calm.elim (.refl _) fun _ => calm_ramWrite ..)
  refine .trans ?_ (Calm.elim (.refl _) fun _ => calm_ramWrite ..)
  exact (Calm.elim (.refl _) fun _ => calm_ramRead ..).trans (Calm.elim (.refl _) fun _ => calm_ramRead ..)

end Sys2Proof.Machine
end

section
/-! PROOFS. What the operations of `Sys2Proof/Machine/Hbm.lean` keep. -/

namespace Sys2Proof.Machine

open Sys2Proof

set_option Elab.async false -- one thread: there are some 800 short proofs

theorem calm_markReader (d : Device) (id : Nat) : Calm d (d.markReader id) :=
  Calm.ite (calm_markPoison ..) (.refl _)

theorem calm_putUnit (d : Device) (a : Nat) (u : DUnit) :
    Calm d { d with hbm := { d.hbm with mem := d.hbm.mem.putUnit a u } } :=
  .ofParts (hbm := fun h => wf_putUnit h ..)

theorem calm_issueAccess (d : Device) (pk : Nat) (a : Access) : Calm d (d.issueAccess pk a) := by
  unfold Device.issueAccess
  extract_lets +onlyGivenNames x y opened
  cases a with
  | wr w => exact ((calm_putUnit d w.unit w.data).trans (calm_setPc ..)).trans (calm_takeInputs ..)
  | rd r => exact Calm.ite ((calm_setPc ..).trans (calm_deliver ..)) (calm_setPc ..)

theorem kept_hbmIssue (d : Device) (s pc : Nat) : Kept d (d.hbmIssue s pc) := by
  unfold Device.hbmIssue
  extract_lets +onlyGivenNames _ e2
  refine Kept.trans (b := e2) (Kept.ite (.refl _) (kept_advance ..)) ?_
  clear_value e2
  split
  · exact .refl _
  split
  · exact .refl _
  · exact (calm_issueAccess ..).toKept

theorem calm_hbmComplete (d : Device) (s pc : Nat) (e : Ecc) : Calm d (d.hbmComplete s pc e) := by
  unfold Device.hbmComplete
  extract_lets +onlyGivenNames _ _
  split
  · exact .refl _
  · exact (Calm.ite ((calm_setPc ..).trans (calm_corrected ..)) (calm_setPc ..)).trans (Calm.ite (calm_deliver ..)
      (Calm.ite (calm_deliver ..) (Calm.ite ((Calm.ite (calm_bump ..) (.refl _)).trans (calm_deliver ..)) (Calm.ite
        (((calm_uncorrected ..).trans (calm_markReader ..)).trans (calm_deliver ..)) (calm_setPc ..)))))

theorem kept_hbmRefresh (d : Device) : Kept d d.hbmRefresh := by
  unfold Device.hbmRefresh
  split
  · exact .refl _
  extract_lets +onlyGivenNames _ _ _ _ _ e2 _ e2
  refine Kept.trans (b := e2) ((kept_advance ..).trans (Kept.foldl (fun _ _ => (calm_setF ..).toKept) _ _)) ?_
  clear_value e2
  exact Kept.same

theorem calm_loseWrite (d : Device) (pk u : Nat) : Calm d (d.loseWrite pk u) :=
  Calm.ite (.refl _) (Calm.ite (calm_raise ..) (calm_setPc ..))

theorem calm_abandon (d : Device) (pk : Nat) : Calm d (d.abandon pk) := by
  unfold Device.abandon
  extract_lets +onlyGivenNames s x reads writes flying d1 d2 d3 full d4 d5
  have h2 : Calm d d2 := (calm_setPc ..).trans (Calm.foldl (fun _ _ => (calm_bump ..).trans (calm_deliver ..)) _ _)
  have h3 : Calm d2 d3 := Calm.foldl (fun _ _ => .ofParts (hbm := fun h => wf_putUnit h ..)) _ _
  have h4 : Calm d3 d4 := Calm.foldl (fun _ _ => (calm_loseWrite ..).trans (calm_bump ..)) _ _
  exact (((h2.trans h3).trans h4).trans (calm_markPoison ..)).trans (calm_faultRecord ..)

theorem calm_parityAlert (d : Device) (s pc : Nat) (writeData : Bool) : Calm d (d.parityAlert s pc writeData) :=
  Calm.ite (.refl _) ((calm_bump ..).trans (Calm.ite (calm_abandon ..) ((calm_bump ..).trans (calm_setPc ..))))

theorem calm_confirm (d : Device) (s pc : Nat) : Calm d (d.confirm s pc) := by
  unfold Device.confirm
  extract_lets +onlyGivenNames _ _
  split
  · exact .refl _
  · exact calm_setPc ..

theorem calm_clearSuspect (d : Device) (s : Nat) (v : BitVec 32) : Calm d (d.clearSuspect s v) :=
  (calm_clearBits ..).trans (Calm.foldl (fun _ _ => Calm.ite (calm_setPc ..) (.refl _)) _ _)

theorem calm_clrRetain (d : Device) (s : Nat) : Calm d (d.clrRetain s) :=
  Calm.same

theorem calm_retainRecord (d : Device) (s : Nat) : Calm d (d.retainRecord s) := by
  unfold Device.retainRecord
  extract_lets +onlyGivenNames r
  have h : Calm d r.2 := calm_takeFree ..
  clear_value r
  exact h.trans .same

theorem calm_trained (d : Device) (s : Nat) (o : TrainOutcome) : Calm d (d.trained s o) :=
  Calm.ite (.refl _) (Calm.ite (calm_setF ..) ((((calm_setF ..).trans (calm_setF ..)).trans
    (calm_retainRecord ..)).trans (Calm.ite (.refl _) (calm_raise ..))))

end Sys2Proof.Machine
end

section
/-! PROOFS. What the operations of `Sys2Proof/Machine/Frames.lean` keep. -/

namespace Sys2Proof.Machine

open Sys2Proof

set_option Elab.async false -- one thread: there are some 800 short proofs

theorem calm_driveFlit (d : Device) (n : Nat) (fl : Flit) : Calm d (d.driveFlit n fl) := by
  unfold Device.driveFlit
  exact calm_mapLink ..

theorem calm_driveMarker (d : Device) (n f : Nat) : Calm d (d.driveMarker n f) := by
  unfold Device.driveMarker
  exact calm_mapLink ..

end Sys2Proof.Machine
end

section
/-! PROOFS. What the operations of `Sys2Proof/Machine/Links.lean` keep. -/

namespace Sys2Proof.Machine

open Sys2Proof

set_option Elab.async false -- one thread: there are some 800 short proofs

theorem calm_enableLink (d : Device) (n : Nat) : Calm d (d.enableLink n) :=
  (calm_setF ..).trans (calm_startLink ..)

theorem calm_disableLink (d : Device) (n : Nat) : Calm d (d.disableLink n) :=
  ((calm_setF ..).trans (calm_setF ..)).trans (calm_toLinkState ..)

theorem calm_retrainLink (d : Device) (n : Nat) : Calm d (d.retrainLink n) :=
  (calm_setF ..).trans (Calm.ite ((calm_toLinkState ..).trans (calm_mapLink ..)) (.refl _))

theorem calm_clearLinkRetain (d : Device) (n : Nat) : Calm d (d.clearLinkRetain n) :=
  calm_mapLink ..

theorem calm_detectTermination (d : Device) (n : Nat) (present : Bool) : Calm d (d.detectTermination n present) :=
  (calm_startLink ..).trans (Calm.ite (calm_toLinkState ..) (.refl _))

theorem calm_loseClock (d : Device) (n : Nat) : Calm d (d.loseClock n) :=
  Calm.ite (.refl _) ((Calm.ite ((calm_setFs ..).trans (calm_bump ..)) (((calm_setFs ..).trans (calm_bump ..)).trans
    (calm_toLinkState ..))).trans (Calm.ite ((calm_setF ..).trans (calm_bump ..)) (.refl _)))

theorem calm_restoreClock (d : Device) (n : Nat) : Calm d (d.restoreClock n) :=
  (calm_startLink ..).trans (calm_setF ..)

theorem calm_linkTrained (d : Device) (n : Nat) (verified : Bool) : Calm d (d.linkTrained n verified) :=
  Calm.ite (.refl _) ((Calm.ite (calm_setF ..) ((((calm_setF ..).trans (calm_setF ..)).trans (calm_takeFree ..)).trans
    (calm_mapLink ..))).trans ((calm_setF ..).trans (calm_toLinkState ..)))

theorem calm_symbolLocked (d : Device) (n lanes : Nat) : Calm d (d.symbolLocked n lanes) :=
  Calm.ite (.refl _) (((calm_mapLink ..).trans (calm_setF ..)).trans (calm_toLinkState ..))

theorem calm_bringUpFailed (d : Device) (n : Nat) : Calm d (d.bringUpFailed n) :=
  Calm.ite (.refl _) ((Calm.ite (calm_setF ..) (.refl _)).trans ((calm_bump ..).trans (calm_toLinkState ..)))

theorem calm_exchanged (d : Device) (n : Nat) (u : Exchanged) : Calm d (d.exchanged n u) :=
  Calm.ite (.refl _) (Calm.ite (((((calm_setReg ..).trans (calm_setReg ..)).trans (calm_mapLink ..)).trans
    (calm_toLinkState ..)).trans (calm_mapLink ..)) (((((calm_setReg ..).trans (calm_setReg ..)).trans
      (calm_mapLink ..)).trans (calm_setFs ..)).trans ((calm_mapLink ..).trans (calm_activate ..))))

theorem calm_exchReceived (d : Device) (n : Nat) (u : ExchUnit) : Calm d (d.exchReceived n u) :=
  Calm.ite (Calm.ite (calm_mapLink ..) ((calm_toLinkState ..).trans (calm_mapLink ..))) (Calm.ite
    ((calm_mapLink ..).trans (Calm.ite (calm_exchanged ..) (.refl _))) (.refl _))

theorem calm_useTable (d : Device) (n stamp : Nat) (t : SlotTable) : Calm d (d.useTable n stamp t) :=
  Calm.same

theorem kept_linktabStep (d : Device) : Kept d d.linktabStep := by
  unfold Device.linktabStep
  split
  · exact .refl _
  · exact (kept_issueStep ..).trans (Kept.foldl (fun _ _ => (calm_useTable ..).toKept) _ _)

theorem kept_frameStart (d : Device) (n : Nat) : Kept d (d.frameStart n) :=
  Kept.ite (.refl _) (((kept_advance ..).trans ((calm_driveMarker ..).toKept)).trans ((calm_mapLink ..).toKept))

theorem calm_takePeer (d : Device) (tk k fuel : Nat) : Calm d (d.takePeer tk k fuel).2 := by
  induction fuel generalizing d k with
  | zero => cases k <;> exact .refl _
  | succ fuel ih =>
    cases k with
    | zero => exact .refl _
    | succ k =>
      unfold Device.takePeer
      split
      · exact .refl _
      split
      · exact .refl _
      · exact (calm_setThread ..).trans (Calm.iteSnd ((calm_lateUnit ..).trans (ih ..)) ((calm_commitUnit ..).trans (ih ..)))

theorem calm_takeControl (d : Device) (n at_ : Nat) : Calm d (d.takeControl n at_).2 :=
  Calm.same

theorem calm_unboundSlot (d : Device) (n at_ : Nat) : Calm d (d.unboundSlot n at_).2 :=
  Calm.iteSnd (calm_takeControl ..) (Calm.iteSnd (.refl _) (Calm.same))

theorem calm_slotBody (d : Device) (n f : Nat) (k at_ : Nat) : Calm d (d.slotBody n f k at_).2 := by
  unfold Device.slotBody
  split
  · exact Calm.iteSnd (calm_unboundSlot ..) (Calm.iteSnd (Calm.iteSnd (.refl _) (calm_takeControl ..)) (Calm.iteSnd
      (.refl _) (Calm.iteSnd (calm_takePeer ..) (calm_takePeer ..))))
  · exact calm_unboundSlot ..

theorem kept_transmit (d : Device) (n : Nat) : Kept d (d.transmit n) := by
  unfold Device.transmit
  extract_lets +onlyGivenNames x st
  refine Kept.ite (.refl _) ?_
  extract_lets +onlyGivenNames f k at_ d1 nak again
  have h1 : Kept d d1 := kept_advance ..
  have hcount (d : Device) (p : Prop) [Decidable p] (g : Link → Link) :
      Calm d ((if p then d else d.bump (Reg.turTxFlitCnt n) 1).mapLink n g) :=
    (Calm.ite (.refl _) (calm_bump ..)).trans (calm_mapLink ..)
  clear_value again d1
  refine h1.trans ?_
  cases again with
  | some g => exact ((((calm_bump ..).trans (calm_emit ..)).trans (calm_driveFlit ..)).trans (hcount ..)).toKept
  | none =>
    extract_lets +onlyGivenNames r fl d2
    have hr : Calm d1 r.2 := by
      refine Calm.iteSnd (Calm.iteSnd ?_ (.refl _)) (calm_slotBody ..)
      dsimp only
      exact calm_mapLink ..
    have h2 : Calm r.2 d2 := (calm_emit ..).trans (calm_driveFlit ..)
    exact ((hr.trans h2).trans (hcount ..)).toKept

theorem calm_creditReceived (d : Device) (eng thread total : Nat) : Calm d (d.creditReceived eng thread total) :=
  (calm_mapThread ..).trans (calm_sendCredit ..)

theorem calm_signalUnit (d : Device) (ws : List Nat) : Calm d (d.signalUnit ws) :=
  Calm.ite (calm_sendControl ..) (calm_remoteSignal ..)

theorem kept_controlUnit (d : Device) (n at_ typ : Nat) (ws : List Nat) : Kept d (d.controlUnit n at_ typ ws) :=
  Kept.ite ((calm_exchReceived ..).toKept) (Kept.ite (.refl _) (Kept.ite ((calm_creditReceived ..).toKept) (Kept.ite
    ((calm_signalUnit ..).toKept) (Kept.ite ((calm_requestWake ..).toKept) (Kept.ite ((calm_alignReceived ..).toKept)
      (Kept.ite ((calm_alignEcho ..).toKept) (Kept.ite (kept_alignResult ..) (Kept.ite ((calm_startReceived ..).toKept)
        (Kept.ite ((calm_abortReceived ..).toKept) (Kept.ite ((calm_finalReceived ..).toKept) (Kept.ite (Kept.ite
          (kept_reportReceived ..) (.refl _)) (Kept.ite (Kept.ite (kept_noStartReceived ..) (.refl _)) (Kept.ite
            ((calm_detachedBy ..).toKept) (Kept.ite (Kept.ite (kept_abortAsked ..) (.refl _))
              ((calm_bump ..).toKept)))))))))))))))

theorem calm_remoteRequest (d : Device) (n : Nat) (h : Line) (us : List DUnit) : Calm d (d.remoteRequest n h us) :=
  Calm.ite (calm_bump ..) (Calm.trans (.ofParts (numbers := Nat.le_succ _) (txns := fun h => txns_below_of_added h rfl))
    (Calm.ite (calm_launchRequest ..) (calm_respond ..)))

theorem calm_remoteResponse (d : Device) (n : Nat) (h : Line) (us : List DUnit) : Calm d (d.remoteResponse n h us) := by
  unfold Device.remoteResponse
  extract_lets +onlyGivenNames _
  split
  · exact .refl _
  · exact ((calm_mapTxn _ _ _ (by intros; rfl))).trans (calm_answer ..)

theorem kept_packetIn (d : Device) (n : Nat) (vcr : Bool) (h : DUnit) (us : List DUnit) : Kept d (d.packetIn n vcr h us) :=
  Kept.ite ((calm_bump ..).toKept) (Kept.ite ((calm_remoteResponse ..).toKept) (Kept.ite
    ((calm_remoteRequest ..).toKept) (kept_controlUnit ..)))

theorem kept_netFlitIn (d : Device) (n : Nat) (u : NetFlit) : Kept d (d.netFlitIn n u) := by
  unfold Device.netFlitIn
  extract_lets +onlyGivenNames key a fs _ keep
  have hkeep : ∀ l, Kept d (keep l) := fun l => (calm_assembly ..).toKept
  clear_value fs keep
  split
  · exact .refl _
  · exact Kept.ite ((hkeep _).trans (kept_packetIn ..)) (hkeep _)

theorem calm_dropScheduled (d : Device) (n : Nat) (tk : Option Nat) : Calm d (d.dropScheduled n tk) :=
  (Calm.elim (.refl _) (fun _ => Calm.foldl (fun _ _ => calm_linkDeliver ..) _ _)).trans ((calm_bump ..).trans
    (calm_markPoison ..))

theorem calm_dropFlit (d : Device) (n f : Nat) (fl : Flit) : Calm d (d.dropFlit n f fl) := by
  unfold Device.dropFlit
  extract_lets +onlyGivenNames _
  split
  · exact (calm_dropScheduled ..).trans (calm_mapLink ..)
  · exact calm_dropScheduled ..
  · extract_lets +onlyGivenNames e4
    refine Calm.trans (b := e4) (calm_bump ..) ?_
    clear_value e4
    exact Calm.same
  · exact .refl _

theorem calm_scheduledIn (d : Device) (n f : Nat) (fl : Flit) (eng thread : Nat) (us : List (Option DUnit)) :
    Calm d (d.scheduledIn n f fl eng thread us) :=
  Calm.ite ((calm_mapLink ..).trans (Calm.foldl (fun _ _ => calm_linkDeliver ..) _ _)) ((Calm.elim (calm_mapLink ..)
    (fun _ => (calm_mapLink ..).trans (Calm.foldl (fun _ _ => calm_linkDeliver ..) _ _))).trans ((calm_bump ..).trans
      (calm_cfgIntegrity ..)))

theorem kept_deliverFlit (d : Device) (n f at_ : Nat) (fl : Flit) : Kept d (d.deliverFlit n f at_ fl) := by
  unfold Device.deliverFlit
  split
  · exact .refl _
  · exact Kept.ite ((calm_scheduledIn ..).toKept) (.refl _)
  · exact Kept.foldl (fun _ _ => kept_netFlitIn ..) _ _
  · exact Kept.foldl (fun _ _ => kept_controlUnit ..) _ _

theorem kept_releaseHeld (d : Device) (n upto fuel : Nat) : Kept d (d.releaseHeld n upto fuel) := by
  induction fuel generalizing d with
  | zero => exact .refl _
  | succ fuel ih =>
    unfold Device.releaseHeld
    split
    · exact .refl _
    next h rest _ =>
      have hn : Kept d (d.mapLink n (fun x => { x with held := rest })) := (calm_mapLink ..).toKept
      refine Kept.ite ((hn.trans (kept_deliverFlit ..)).trans (ih _)) (Kept.ite ?_ (.refl _))
      exact (hn.trans ((calm_mapLink ..).trans (calm_dropFlit ..)).toKept).trans (ih _)

theorem kept_release (d : Device) (n upto : Nat) : Kept d (d.release n upto) :=
  kept_releaseHeld ..

theorem calm_nakReceived (d : Device) (n : Nat) (nak : Option (Nat × Nat)) : Calm d (d.nakReceived n nak) := by
  unfold Device.nakReceived
  split
  · exact .refl _
  · exact calm_mapLink ..

theorem calm_corruptedIn (d : Device) (n f : Nat) (fl : Flit) : Calm d (d.corruptedIn n f fl) :=
  Calm.ite (Calm.ite (calm_bump ..) ((calm_bump ..).trans (calm_dropFlit ..))) (((calm_bump ..).trans
    (calm_mapLink ..)).trans (Calm.ite (.refl _) (calm_mapLink ..)))

theorem kept_replayIn (d : Device) (n f k : Nat) (fl : Flit) : Kept d (d.replayIn n f k fl) :=
  Kept.ite ((((calm_bump ..).toKept).trans ((calm_mapLink ..).toKept)).trans (kept_release ..)) (.refl _)

theorem kept_receive (d : Device) (n : Nat) (fl : Flit) (corrected : Nat) (corrupted : Bool) :
    Kept d (d.receive n fl corrected corrupted) := by
  unfold Device.receive
  extract_lets +onlyGivenNames _
  split
  · exact .refl _
  extract_lets +onlyGivenNames _ e2 _ _ e2
  split
  · exact Kept.ite ((Kept.ite ((kept_advance ..).trans ((calm_bump ..).toKept)) (kept_advance ..)).trans
      ((calm_corruptedIn ..).toKept)) ((Kept.ite ((kept_advance ..).trans ((calm_bump ..).toKept))
        (kept_advance ..)).trans ((calm_bump ..).toKept))
  extract_lets +onlyGivenNames e2 e2
  refine Kept.trans (b := e2) (Kept.ite ((Kept.ite ((kept_advance ..).trans ((calm_bump ..).toKept))
    (kept_advance ..)).trans ((calm_nakReceived ..).toKept)) (((Kept.ite ((kept_advance ..).trans
      ((calm_bump ..).toKept)) (kept_advance ..)).trans ((calm_nakReceived ..).toKept)).trans ((calm_bump ..).toKept))) ?_
  clear_value e2
  split
  · exact kept_replayIn ..
  · exact Kept.ite (kept_deliverFlit ..) ((calm_mapLink ..).toKept)

theorem kept_replayOver (d : Device) (n f : Nat) : Kept d (d.replayOver n f) :=
  Kept.ite (.refl _) ((kept_advance ..).trans (kept_release ..))

theorem kept_slotDropped (d : Device) (n f k : Nat) : Kept d (d.slotDropped n f k) := by
  unfold Device.slotDropped
  split
  · exact .refl _
  · exact Kept.ite (.refl _) (((kept_advance ..).trans ((calm_dropScheduled ..).toKept)).trans ((calm_mapLink ..).toKept))

theorem calm_markersLost (d : Device) (n : Nat) : Calm d (d.markersLost n) :=
  Calm.ite ((calm_bump ..).trans (calm_toLinkState ..)) (.refl _)

theorem calm_setLoop (d : Device) (n loop : Nat) : Calm d (d.setLoop n loop) :=
  (calm_setReg ..).trans (Calm.ite (calm_toLinkState ..) (Calm.ite (calm_toLinkState ..) (.refl _)))

theorem calm_clearPrbs (d : Device) (n : Nat) : Calm d (d.clearPrbs n) :=
  Calm.foldl (fun _ _ => (calm_setReg ..).trans (calm_setReg ..)) _ _

theorem calm_injectPrbs (d : Device) (n : Nat) : Calm d (d.injectPrbs n) :=
  Calm.ite (calm_emit ..) (.refl _)

theorem calm_linkPrbs (d : Device) (n l : Nat) (e : PrbsEvent) : Calm d (d.linkPrbs n l e) := by
  unfold Device.linkPrbs
  split
  · exact .refl _
  split
  · exact calm_setF ..
  · exact calm_setF ..
  · exact Calm.ite ((calm_bump ..).trans (calm_bump ..)) (.refl _)

theorem calm_lanePrbs (d : Device) (l : Nat) (e : PrbsEvent) : Calm d (d.lanePrbs l e) := by
  unfold Device.lanePrbs
  split
  · exact .refl _
  split
  · exact calm_setF ..
  · exact calm_setF ..
  · exact Calm.ite ((calm_bump ..).trans (calm_bump ..)) (.refl _)

end Sys2Proof.Machine
end

section
/-! PROOFS. What the operations of `Sys2Proof/Machine/Power.lean` keep. -/

namespace Sys2Proof.Machine

open Sys2Proof

set_option Elab.async false -- one thread: there are some 800 short proofs

theorem calm_setPwrBit (d : Device) (i : Nat) (b : Bool) : Calm d (d.setPwrBit i b) :=
  calm_setF ..

theorem calm_showRefclk (d : Device) : Calm d d.showRefclk :=
  (calm_setPwrBit ..).trans (calm_setPwrBit ..)

theorem safe_powerOff (d : Device) (trip vin : Bool) : Safe d (d.powerOff trip vin) :=
  .ofParts (regs := fun _ => rfl) (hbm := fun _ => rfl) (tile := fun _ => rfl) (cache := fun _ => rfl)
    (cfgMem := fun _ => rfl) (txns := fun _ t ht => absurd ht List.not_mem_nil)

theorem wf_drained (ws : List WrEntry) (m : Store) (h : m.wf = true) :
    (ws.foldl (fun m w => m.putUnit w.unit w.data) m).wf = true := by
  induction ws generalizing m with
  | nil => exact h
  | cons w ws ih => exact ih _ (wf_putUnit h ..)

theorem calm_drainWrites (d : Device) : Calm d d.drainWrites := .ofParts (hbm := wf_drained _ _)

theorem calm_drainAll (d : Device) (fuel : Nat) : Calm d (d.drainAll fuel) := by
  induction fuel generalizing d with
  | zero => exact calm_drainWrites d
  | succ fuel ih =>
    exact (calm_drainWrites d).trans (Calm.ite (.refl _) ((Calm.foldl (fun _ _ => calm_takeInputs ..) _ _).trans (ih _)))

theorem safe_moduleReset (d : Device) : Safe d d.moduleReset := by
  unfold Device.moduleReset
  extract_lets +onlyGivenNames e
  refine Safe.trans (Safe.trans (b := e) (calm_drainWrites d).toSafe ?_) (calm_showRefclk ..).toSafe
  clear_value e
  exact .ofParts (regs := fun h => mapWf_filter h _) (tile := fun _ => rfl) (cache := fun _ => rfl) (cfgMem := fun _ => rfl)
    (txns := fun _ t ht => absurd ht List.not_mem_nil)

theorem calm_comeUp (d : Device) : Calm d d.comeUp :=
  (Calm.same).trans ((Calm.same).trans (calm_startLinks ..))

theorem safe_vinRises (d : Device) : Safe d d.vinRises :=
  Safe.ite ((safe_powerOff d false true).trans .same) (.refl _)

theorem calm_standbyGood (d : Device) (cmstr pucfgN : Bool) (vsel : BitVec 8) : Calm d (d.standbyGood cmstr pucfgN vsel) :=
  Calm.ite ((Calm.same).trans (Calm.same)) (.refl _)

theorem kept_pllLock (d : Device) : Kept d d.pllLock :=
  Kept.ite (Kept.same) (.refl _)

theorem calm_pwrgd (d : Device) : Calm d d.pwrgd :=
  Calm.ite ((Calm.same).trans (calm_comeUp ..)) (.refl _)

theorem safe_turnOff (d : Device) (c : TurnOff) : Safe d (d.turnOff c) :=
  safe_powerOff ..

theorem calm_vbatLoss (d : Device) : Calm d d.vbatLoss :=
  (Calm.same).trans (Calm.ite (Calm.same) (.refl _))

theorem safe_mrstLow (d : Device) : Safe d d.mrstLow :=
  Safe.ite (Safe.same) (safe_moduleReset ..)

theorem kept_mrstHigh (d : Device) : Kept d d.mrstHigh :=
  Kept.ite (.refl _) ((Kept.same).trans (Kept.ite ((Kept.same).trans ((calm_comeUp ..).toKept)) (.refl _)))

theorem calm_refclkLoss (d : Device) : Calm d d.refclkLoss :=
  Calm.ite (.refl _) ((Calm.same).trans (Calm.ite (((calm_showRefclk ..).trans (calm_bump ..)).trans (calm_raise ..))
    (.refl _)))

theorem calm_refclkReturn (d : Device) : Calm d d.refclkReturn :=
  (Calm.same).trans (Calm.ite (calm_showRefclk ..) (.refl _))

theorem calm_evalHolds (d : Device) : Calm d d.evalHolds :=
  (calm_setF ..).trans (Calm.ite (.refl _) ((calm_bump ..).trans (calm_raise ..)))

theorem calm_alert (d : Device) (i : Nat) (b : Bool) : Calm d (d.alert i b) :=
  Calm.ite (calm_raise ..) (.refl _)

theorem calm_sampled (d : Device) (p i : List Nat) :
    Calm d (d.mapBelfry (fun b => { b with power := p, iin := i })) := .same

theorem calm_enterSample (d : Device) (vin iin : BitVec 16) (tj : Word) : Calm d (d.enterSample vin iin tj) := by
  unfold Device.enterSample
  extract_lets +onlyGivenNames pin d1 w
  have h1 : Calm d (d1.bump Reg.pwrEnergy pin) := ((calm_setReg ..).trans (calm_setReg ..)).trans (calm_bump ..)
  clear_value d1 pin w
  exact h1.trans (calm_sampled ..)

theorem safe_sample (d : Device) (vin iin : BitVec 16) (tj : Word) (converter : BitVec 8) :
    Safe d (d.sample vin iin tj converter) :=
  Safe.ite (.refl _) ((((((((Safe.ite ((((calm_enterSample ..).toKept.toSafe).trans
    ((calm_bump ..).toKept.toSafe)).trans ((calm_alert ..).toKept.toSafe)) ((calm_enterSample ..).toKept.toSafe)).trans
      ((calm_alert ..).toKept.toSafe)).trans ((calm_alert ..).toKept.toSafe)).trans
        ((calm_alert ..).toKept.toSafe)).trans ((calm_alert ..).toKept.toSafe)).trans
          ((calm_alert ..).toKept.toSafe)).trans ((calm_evalHolds ..).toKept.toSafe)).trans (Safe.ite (safe_powerOff ..)
            (.refl _)))

theorem calm_stackTemp (d : Device) (s : Nat) (temp : BitVec 8) : Calm d (d.stackTemp s temp) := by
  unfold Device.stackTemp
  extract_lets +onlyGivenNames e2
  exact ((calm_setF ..).trans (Calm.same)).trans ((calm_alert ..).trans (calm_evalHolds ..))

theorem calm_swHold (d : Device) (b : Bool) : Calm d (d.swHold b) :=
  (calm_setF ..).trans (calm_evalHolds ..)

theorem calm_runWake (d : Device) : Calm d d.runWake := by
  unfold Device.runWake
  split
  · exact .refl _
  · exact ((calm_bump ..).trans (calm_setPower ..)).trans (Calm.same)

theorem calm_selfRefresh (d : Device) (on : Bool) : Calm d (d.selfRefresh on) :=
  (Calm.ite (calm_drainAll ..) (.refl _)).trans (Calm.foldl (fun _ _ => calm_setF ..) _ _)

theorem calm_standbyReq (d : Device) : Calm d d.standbyReq :=
  Calm.ite (.refl _) (calm_setPwrBit ..)

theorem calm_standbyEntry (d : Device) : Calm d d.standbyEntry :=
  Calm.ite ((((calm_setPwrBit ..).trans (calm_setPower ..)).trans (Calm.same)).trans (calm_downLinks ..)) (.refl _)

theorem calm_coldEntered (d : Device) : Calm d d.coldEntered :=
  Calm.ite ((((calm_selfRefresh ..).trans (calm_keepAlive ..)).trans (calm_setPower ..)).trans (calm_runWake ..)) (.refl _)

theorem calm_standbyEntered (d : Device) : Calm d d.standbyEntered :=
  Calm.ite (((calm_selfRefresh ..).trans (calm_setPower ..)).trans (calm_runWake ..)) (.refl _)

theorem calm_returnCold (d : Device) : Calm d d.returnCold :=
  Calm.ite ((((calm_selfRefresh ..).trans (calm_clearCache ..)).trans (calm_keepAlive ..)).trans (calm_startLinks ..))
    (.refl _)

theorem calm_leaveStandby (d : Device) : Calm d d.leaveStandby := by
  unfold Device.leaveStandby
  split
  · extract_lets +onlyGivenNames e4
    refine Calm.trans (b := e4) (calm_setF ..) ?_
    clear_value e4
    exact Calm.same
  exact .refl _

theorem kept_wakeDone (d : Device) : Kept d d.wakeDone := by
  unfold Device.wakeDone
  split
  · exact Kept.ite (.refl _) ((((Kept.ite (((kept_advance ..).trans (Kept.same)).trans ((calm_leaveStandby ..).toKept))
      ((kept_advance ..).trans (Kept.same))).trans ((calm_setPower ..).toKept)).trans
        ((calm_returnCold ..).toKept)).trans (Kept.ite ((calm_chooseStart ..).toKept) ((calm_armIdle ..).toKept)))
  · exact .refl _

theorem calm_errInj (d : Device) (v : BitVec 32) : Calm d (d.errInj v) :=
  (calm_setF ..).trans (Calm.ite (calm_setF ..) (.refl _))

end Sys2Proof.Machine
end

section
/-! PROOFS. What the operations of `Sys2Proof/Machine/Queues.lean` keep. -/

namespace Sys2Proof.Machine

open Sys2Proof

set_option Elab.async false -- one thread: there are some 800 short proofs

theorem calm_pushPort (d : Device) (f q : Nat) (bytes : List (Option Byte)) (ep : Bool) : Calm d (d.pushPort f q bytes ep) :=
  (Calm.ite (calm_poisonedTlp ..) (.refl _)).trans (Calm.ite (calm_deny ..) ((calm_requestWake ..).trans
    (calm_pushBytes ..)))

theorem calm_latchCell (d : Device) (c : QCell) (e : Ecc) : Calm d (d.latchCell c e).2 :=
  calm_cellUnit ..

theorem calm_latched (d : Device) (p : Option PopLatch) : Calm d { d with pop := p } := .same

theorem calm_popStatus (d : Device) (e : Ecc) : Calm d (d.popStatus e) := by
  unfold Device.popStatus
  extract_lets +onlyGivenNames q x empty
  have hempty : ∀ d, Calm d (empty d) := fun d => (calm_latched d none).trans (calm_emit ..)
  clear_value empty
  refine Calm.ite ((calm_bump ..).trans (hempty _)) (Calm.ite (hempty _) ?_)
  split
  · exact hempty _
  next c rest _ =>
    extract_lets +onlyGivenNames d1 r
    have h1 : Calm d d1 := (calm_gateQueue ..).trans (calm_bump ..)
    have hr : Calm d1 r.2 := calm_latchCell ..
    clear_value r
    exact (h1.trans hr).trans ((calm_latched ..).trans ((calm_emit ..).trans (calm_serveCopies ..)))

theorem calm_popMeta (d : Device) (h : Half) : Calm d (d.popMeta h) := by
  unfold Device.popMeta
  split
  · exact calm_emit ..
  · exact (Calm.same).trans (calm_emit ..)

theorem calm_popData (d : Device) (h : Half) : Calm d (d.popData h) := by
  unfold Device.popData
  split
  · exact calm_emit ..
  · exact (Calm.same).trans (calm_emit ..)

theorem calm_queueConfig (d : Device) (w : Word) : Calm d (d.queueConfig w) :=
  calm_gateQueue ..

end Sys2Proof.Machine
end

section
/-! PROOFS. What the operations of `Sys2Proof/Machine/RegWrite.lean` keep. -/

namespace Sys2Proof.Machine

open Sys2Proof

set_option Elab.async false -- one thread: there are some 800 short proofs

theorem calm_plainWrite (d : Device) (a : Nat) (v : Word) (h : Half) : Calm d (d.plainWrite a v h) := by
  unfold Device.plainWrite
  split
  · exact .refl _
  · exact calm_setReg ..

theorem calm_writeRingCtl (d : Device) (r : Nat) (v : Word) (h : Half) (vf : Bool) : Calm d (d.writeRingCtl r v h vf) :=
  Calm.ite (calm_ringOn ..) ((calm_setReg ..).trans (calm_ringOff ..))

theorem calm_writeLinkCtl (d : Device) (n : Nat) (v : Word) : Calm d (d.writeLinkCtl n v) :=
  (Calm.ite ((Calm.ite ((calm_setFs ..).trans (calm_clearLinkRetain ..)) (calm_setFs ..)).trans (calm_retrainLink ..))
    (Calm.ite ((calm_setFs ..).trans (calm_clearLinkRetain ..)) (calm_setFs ..))).trans (Calm.ite (calm_enableLink ..)
      (calm_disableLink ..))

theorem calm_writeVxCtl (d : Device) (n : Nat) (v : Word) : Calm d (d.writeVxCtl n v) :=
  (Calm.ite (.refl _) (calm_maintReq ..)).trans (Calm.ite (calm_vxStart ..) (calm_setF ..))

theorem calm_writePwrCtl (d : Device) (v : Word) : Calm d (d.writePwrCtl v) :=
  (Calm.ite (((calm_setF ..).trans (calm_swHold ..)).trans (calm_standbyReq ..)) ((calm_setF ..).trans
    (calm_swHold ..))).trans (Calm.ite (calm_requestWake ..) (.refl _))

theorem calm_writeCfg (d : Device) (v : BitVec 32) : Calm d (d.writeCfg v) :=
  (Calm.ite ((calm_writeCfgCtl ..).trans (calm_startLoad ..)) (calm_writeCfgCtl ..)).trans (Calm.ite (calm_loadFail ..)
    (.refl _))

theorem calm_writeHbcCtl (d : Device) (s : Nat) (v : Word) : Calm d (d.writeHbcCtl s v) :=
  (calm_setF ..).trans (Calm.ite (calm_clrRetain ..) (.refl _))

theorem kept_writeSmall (d e : Device) (a : Nat) (v : BitVec 32) (h : d.writeSmall a v = some e) : Kept d e := by
  unfold Device.writeSmall at h
  split at h
  · cases h; exact (calm_writeCfg ..).toKept
  split at h
  · cases h; exact kept_lntAbort ..
  split at h
  · cases h; exact (calm_flushWrite ..).toKept
  split at h
  · cases h; exact (calm_statControl ..).toKept
  split at h
  · cases h; exact (calm_statClear ..).toKept
  split at h
  · cases h; exact ((calm_setF ..).trans (Calm.ite (calm_realign ..) (.refl _))).toKept
  split at h
  · cases h; exact (calm_attach ..).toKept
  split at h
  · cases h; exact (calm_writePwrCtl ..).toKept
  split at h
  · cases h; exact ((calm_plainWrite ..).trans (calm_evalHolds ..)).toKept
  split at h
  · cases h; exact (calm_errInj ..).toKept
  · cases h

theorem calm_writeBlocks (d e : Device) (a : Nat) (v : Word) (h : d.writeBlocks a v = some e) : Calm d e := by
  unfold Device.writeBlocks at h
  split at h
  · cases h; exact Calm.ite (calm_armInjection ..) (calm_setFs ..)
  · cases h; exact calm_writeVxCtl ..
  · cases h; exact calm_writeLinkCtl ..
  · cases h; exact calm_setLoop ..
  · cases h; exact (calm_plainWrite ..).trans (Calm.ite (calm_clearPrbs ..) (.refl _))
  · cases h; exact (calm_plainWrite ..).trans (Calm.ite (calm_injectPrbs ..) (.refl _))
  · cases h
    exact ((calm_plainWrite ..).trans (Calm.ite (calm_clearLanePrbs ..) (.refl _))).trans (Calm.ite (calm_emit ..) (.refl _))
  · cases h

theorem calm_writeArrays (d e : Device) (a : Nat) (v : Word) (x : Half) (h : d.writeArrays a v x = some e) : Calm d e := by
  unfold Device.writeArrays at h
  split at h
  · cases h; exact calm_writeRingCtl ..
  · split at h
    · cases h; exact .refl _
    · cases h; exact calm_writeHbcCtl ..
  · split at h
    · cases h; exact .refl _
    · cases h; exact calm_clearSuspect ..
  · cases h; exact calm_regulator ..
  · cases h; exact calm_writeContext ..
  · cases h

theorem calm_writeWide (d e : Device) (a : Nat) (v : Word) (x : Half) (h : d.writeWide a v x = some e) : Calm d e := by
  unfold Device.writeWide at h
  split at h
  · cases h; exact calm_mailCommand ..
  split at h
  · cases h; exact calm_readback ..
  split at h
  · cases h; exact calm_queueConfig ..
  split at h
  · cases h; exact (calm_requestWake ..).trans (calm_sopWrite ..)
  split at h
  · cases h; exact calm_tlbInv ..
  split at h
  · cases h; exact calm_hostSig ..
  · cases h

theorem kept_writeWord (d : Device) (a : Nat) (v : Word) (h : Half) : Kept d (d.writeWord a v h) := by
  unfold Device.writeWord
  split
  · extract_lets +onlyGivenNames one e high
    have hone (d : Device) (a : Nat) (x : BitVec 32) : Calm d (one d a x) := Calm.ite (calm_writeTally ..)
      (calm_writeTmap ..)
    have he : Calm d e := Calm.ite (.refl _) (hone ..)
    exact (he.trans (Calm.ite (.refl _) (Calm.ite (calm_dueAt ..) (hone ..)))).toKept
  · extract_lets +onlyGivenNames low
    have hsmall (e : Device) (h : (if low then d.writeSmall a (v.setWidth 32) else none) = some e) : Kept d e := by
      split at h
      · exact kept_writeSmall _ _ _ _ h
      · cases h
    have hblocks (e : Device) (h : (if low then d.writeBlocks a v else none) = some e) : Kept d e := by
      split at h
      · exact (calm_writeBlocks _ _ _ _ h).toKept
      · cases h
    split
    · exact hsmall _ ‹_›
    · exact hblocks _ ‹_›
    · exact (calm_writeArrays _ _ _ _ _ ‹_›).toKept
    · exact (calm_writeWide _ _ _ _ _ ‹_›).toKept
    · exact (calm_plainWrite ..).toKept

theorem kept_writeSplit (d : Device) (off : Nat) (bytes : List (Option Byte)) (f : Device → Nat → Word → Half → Device)
    (h : ∀ d a v x, Kept d (f d a v x)) : Kept d (d.writeSplit off bytes f) := by
  refine Kept.foldl (fun e a => ?_) _ _
  split
  · exact h ..
  · exact .refl _

theorem calm_writeUser (d : Device) (off : Nat) (bytes : List (Option Byte)) : Calm d (d.writeUser off bytes) :=
  Calm.foldl (fun _ _ => Calm.ite (.refl _) (calm_userWindow ..)) _ _

theorem kept_writeBar0 (d : Device) (off : Nat) (bytes : List (Option Byte)) : Kept d (d.writeBar0 off bytes) :=
  Kept.ite ((calm_portBytes ..).toKept) (Kept.ite ((calm_pushPort ..).toKept) (Kept.ite ((calm_portWrite ..).toKept)
    (Kept.ite ((calm_writeUser ..).toKept) (kept_writeSplit _ _ _ _ (fun _ _ _ _ => kept_writeWord ..)))))

theorem kept_writeVfWord (f : Nat) (d : Device) (a : Nat) (v : Word) (h : Half) : Kept d (Device.writeVfWord f d a v h) := by
  unfold Device.writeVfWord
  extract_lets +onlyGivenNames _
  split
  · exact Kept.ite (kept_vfAbort ..) (.refl _)
  split
  · exact (calm_vfSig ..).toKept
  split
  · exact Kept.ite ((calm_setFunc ..).toKept) (.refl _)
  split
  · exact (calm_vfSop ..).toKept
  split
  · exact Kept.ite ((calm_vfFlush ..).toKept) (.refl _)
  split
  · exact Kept.ite ((calm_deny ..).toKept) ((calm_writeContext ..).toKept)
  split
  · split
    · exact (calm_deny ..).toKept
    · exact Kept.ite ((calm_writeRingCtl ..).toKept) ((calm_plainWrite ..).toKept)
  exact .refl _

theorem kept_writeVf (d : Device) (f off : Nat) (bytes : List (Option Byte)) : Kept d (d.writeVf f off bytes) :=
  Kept.ite ((calm_pushPort ..).toKept) (kept_writeSplit _ _ _ _ (fun _ _ _ _ => kept_writeVfWord ..))

end Sys2Proof.Machine
end

section
/-! PROOFS. What the operations of `Sys2Proof/Machine/Tap.lean` keep. -/

namespace Sys2Proof.Machine

open Sys2Proof

set_option Elab.async false -- one thread: there are some 800 short proofs

theorem calm_mapTap (d : Device) (f : Tap → Tap) : Calm d (d.mapTap f) :=
  Calm.same

theorem kept_takePins (d : Device) : Kept d d.takePins :=
  (Kept.foldl (fun _ _ => Kept.ite ((calm_toLinkState ..).toKept) (.refl _)) _ _).trans (kept_loseLink ..)

theorem calm_returnPins (d : Device) : Calm d d.returnPins :=
  Calm.ite (Calm.same) (.refl _)

theorem kept_setIr (d : Device) (op : BitVec 8) : Kept d (d.setIr op) :=
  ((calm_mapTap ..).toKept).trans (Kept.ite (kept_takePins ..) (Kept.ite ((calm_returnPins ..).toKept) (.refl _)))

theorem kept_loadIr (d : Device) (op : BitVec 8) : Kept d (d.loadIr op) :=
  ((calm_emit ..).toKept).trans (kept_setIr ..)

theorem calm_boundaryCapture (d : Device) (pins : BitVec 1016) : Calm d (d.boundaryCapture pins).2 :=
  Calm.iteSnd (calm_takeFree d 704) (Calm.iteSnd (.refl _) (.refl _))

theorem calm_boundaryScan (d : Device) (scan : Option (BitVec 1016 × BitVec 1016)) : Calm d (d.boundaryScan scan) := by
  unfold Device.boundaryScan
  split
  · exact .refl _
  · exact ((calm_boundaryCapture ..).trans (calm_emit ..)).trans (calm_mapTap ..)

theorem kept_bypass (d : Device) (op : BitVec 8) : Kept d (d.bypass op) :=
  (kept_loadIr ..).trans ((calm_emit ..).toKept)

theorem calm_windowAccess (d : Device) (off : Nat) (f : Device → Nat → Device × TapResult) (h : ∀ d n, Calm d (f d n).1) :
    Calm d (d.windowAccess off f).1 := by
  unfold Device.windowAccess
  extract_lets +onlyGivenNames n
  refine Calm.iteFst ((calm_domeTo ..).trans (h ..)) ?_
  dsimp only
  exact calm_mapTap ..

theorem kept_windowAccess (d : Device) (off : Nat) (f : Device → Nat → Device × TapResult) (h : ∀ d n, Kept d (f d n).1) :
    Kept d (d.windowAccess off f).1 := by
  unfold Device.windowAccess
  extract_lets +onlyGivenNames n
  refine Kept.iteFst ((calm_domeTo ..).toKept.trans (h ..)) ?_
  dsimp only
  exact (calm_mapTap ..).toKept

theorem kept_tapWrite (d : Device) (w64 : Bool) (addr : BitVec 26) (data : Word) : Kept d (d.tapWrite w64 addr data).1 := by
  unfold Device.tapWrite
  extract_lets +onlyGivenNames off
  refine Kept.iteFst (.refl _) (Kept.iteFst (.refl _) (Kept.iteFst (kept_windowAccess _ _ _ fun d n => ?_)
    (kept_writeBar0 ..)))
  refine Kept.iteFst (.refl _) ?_
  dsimp only
  exact (calm_mapVx ..).toKept

theorem calm_tapRead (d : Device) (w64 : Bool) (addr : BitVec 26) (ecc : Ecc) : Calm d (d.tapRead w64 addr ecc).1 := by
  unfold Device.tapRead
  extract_lets +onlyGivenNames off
  refine Calm.iteFst (.refl _) (Calm.iteFst (calm_windowAccess _ _ _ fun _ _ => .refl _) ?_)
  dsimp only
  split
  · exact calm_ctxEcc ..
  · exact .refl _

theorem calm_tapPort (d : Device) (bytes : List Byte) : Calm d (d.tapPort bytes).1 :=
  Calm.iteFst (.refl _) ((Calm.ite (calm_startLoad ..) (.refl _)).trans (calm_portBytes ..))

theorem calm_cfgScan (d : Device) (early : Bool) (f : Device → Device × TapResult) (h : ∀ d, Calm d (f d).1) :
    Calm d (d.cfgScan early f) := by
  unfold Device.cfgScan
  refine Calm.ite (.refl _) ?_
  extract_lets +onlyGivenNames e
  have he : Calm d (e.emit (.tdo 96 e.tap.result.bits)) := Calm.trans (b := e) (Calm.ite (calm_mapTap ..) (.refl _))
    (calm_emit ..)
  exact (he.trans (h _)).trans (calm_mapTap ..)

theorem kept_cfgScan (d : Device) (early : Bool) (f : Device → Device × TapResult) (h : ∀ d, Kept d (f d).1) :
    Kept d (d.cfgScan early f) := by
  unfold Device.cfgScan
  refine Kept.ite (.refl _) ?_
  extract_lets +onlyGivenNames e
  have he : Calm d (e.emit (.tdo 96 e.tap.result.bits)) := Calm.trans (b := e) (Calm.ite (calm_mapTap ..) (.refl _))
    (calm_emit ..)
  exact (he.toKept.trans (h _)).trans (calm_mapTap ..).toKept

theorem kept_bistSelect (d : Device) : Kept d d.bistSelect :=
  (kept_loadIr ..).trans (Kept.ite ((calm_emit ..).toKept) ((calm_emit ..).toKept))

theorem calm_bistBegin (d : Device) (ret : Bool) (target : BitVec 9) : Calm d (d.bistBegin ret target) :=
  Calm.ite (.refl _) ((calm_emit ..).trans (Calm.ite (calm_setReg ..) (((calm_setReg ..).trans (calm_bump ..)).trans
    (calm_mapTap ..))))

theorem calm_clearRegs (d : Device) (lo hi : Nat) :
    Calm d (d.clearRegs lo hi) := .ofParts (regs := fun h => mapWf_mapClear h ..)

theorem calm_bistZero (d : Device) (target : BitVec 9) : Calm d (d.bistZero target) := by
  unfold Device.bistZero
  extract_lets +onlyGivenNames g d1 d2 d3 d4 d5
  have h1 : Calm d d1 := Calm.ite (.ofParts (tile := fun _ => rfl)) (.refl _)
  have h2 : Calm d1 d2 := Calm.ite (calm_clearCache ..) (.refl _)
  have h3 : Calm d2 d3 := Calm.ite (calm_clearRegs ..) (.refl _)
  have h4 : Calm d3 d4 := Calm.ite (calm_clearRegs ..) (.refl _)
  have h5 : Calm d4 d5 := Calm.ite .same (.refl _)
  exact ((((h1.trans h2).trans h3).trans h4).trans h5).trans
    (Calm.ite (((calm_fullClear ..).trans (calm_setCfgState ..)).trans (calm_setStage ..)) (.refl _))

theorem calm_bistDone (d : Device) (fail : BitVec 9) (words : BitVec 32) : Calm d (d.bistDone fail words) := by
  unfold Device.bistDone
  split
  · exact ((calm_bistZero ..).trans (calm_setReg ..)).trans ((calm_mapTap ..).trans (calm_reevaluate ..))
  · exact .refl _

end Sys2Proof.Machine
end

section
/-! PROOFS. What the operations of `Sys2Proof/Machine/Vx.lean` keep. -/

namespace Sys2Proof.Machine

open Sys2Proof

set_option Elab.async false -- one thread: there are some 800 short proofs

theorem kept_vxCommand (d : Device) (n : Nat) (env : VxEnv) (opc : Option Nat) : Kept d (d.vxCommand n env opc) := by
  unfold Device.vxCommand
  split
  · exact .refl _
  · extract_lets +onlyGivenNames e4
    split
    · exact .refl _
    · exact Kept.ite (((((kept_advance ..).trans ((calm_domeTo ..).toKept)).trans ((calm_domeHead ..).toKept)).trans
        ((calm_spireClock ..).toKept)).trans ((calm_mapSpire ..).toKept)) (.refl _)

end Sys2Proof.Machine
end

section
/-! PROOFS. The commands and the steps of the module: what each keeps, and when it is served. -/

namespace Sys2Proof.Machine

open Sys2Proof

set_option Elab.async false -- one thread: there are some 800 short proofs

/-! ### Time passes to the gcyc asked for -/

/-- One gcyc passes. -/
theorem gcycStep_now (d : Device) : d.gcycStep.now = d.now + 1 ∧ d.gcycStep.belfry.counting = d.belfry.counting := by
  unfold Device.gcycStep
  extract_lets +onlyGivenNames g d1 d2 d3
  have h1 : Calm d d1 := (calm_countHeld ..).trans (calm_domeTo ..)
  have h2 : Calm d1 d2 := Calm.ite (.refl _) ((calm_netClock ..).trans (calm_netClock ..))
  have h3 : Calm d2 d3 := calm_fabricClock ..
  have h := (h1.trans h2).trans h3
  clear_value d3
  have he : ∀ e : Device, Calm e e.compareReads.offerCells := fun e => (calm_compareReads ..).trans (calm_offerCells ..)
  exact ⟨(he _).now, (he _).counting.trans h.counting⟩

theorem clockRun_now (d : Device) (n : Nat) :
    (d.clockRun n).now = d.now + n ∧ (d.clockRun n).belfry.counting = d.belfry.counting := by
  induction n generalizing d with
  | zero => exact ⟨rfl, rfl⟩
  | succ n ih =>
    unfold Device.clockRun
    split
    · have h : Calm d ((d.countHeld (n + 1)).domeTo (4 * (d.now + (n + 1)))) := (calm_countHeld ..).trans (calm_domeTo ..)
      exact ⟨rfl, h.counting⟩
    · obtain ⟨hnow, hcount⟩ := gcycStep_now d
      obtain ⟨hrun, hrunc⟩ := ih d.gcycStep
      exact ⟨by omega, hrunc.trans hcount⟩

/-- The clock moves to the gcyc asked for, and never back. -/
theorem clockTo_now (d : Device) (g : Nat) (h : d.belfry.counting = true) :
    (d.clockTo g).now = max d.now g ∧ (d.clockTo g).belfry.counting = true := by
  unfold Device.clockTo
  split
  · next hg =>
    have ho := calm_offerCells d
    obtain ⟨hrun, hrunc⟩ := clockRun_now d.offerCells (g - d.now)
    refine ⟨?_, hrunc.trans (ho.counting.trans h)⟩
    have := ho.now
    omega
  · next hg =>
    have : ¬ d.now < g := fun hlt => hg ⟨hlt, h⟩
    exact ⟨by omega, h⟩

/-- A due that is found is not behind the gcyc asked for. -/
theorem firstDue_le {g : Nat} {l : List Due} {u : Due} (h : firstDue g l = some u) : u.at_ ≤ g := by
  induction l generalizing u with
  | nil => exact absurd h (by simp [firstDue])
  | cons v l ih =>
    unfold firstDue at h
    dsimp only at h
    split at h
    · exact ih h
    next hv =>
    split at h
    · obtain rfl := Option.some.inj h
      exact not_lt.1 hv
    · exact ih h

theorem calm_dropDue (d : Device) (l : List Due) : Calm d { d with lantern := { d.lantern with dues := l } } := .same

/-- Serving what is due up to `g` does not move the clock beyond it. -/
theorem runDues_now (d : Device) (g fuel : Nat) (h : d.belfry.counting = true) (hg : d.now ≤ g) :
    (d.runDues g fuel).now ≤ g ∧ (d.runDues g fuel).belfry.counting = true := by
  induction fuel generalizing d with
  | zero => exact ⟨hg, h⟩
  | succ fuel ih =>
    unfold Device.runDues
    split
    · exact ⟨hg, h⟩
    next u hu =>
    obtain ⟨hnow, hcount⟩ := clockTo_now d u.at_ h
    have hle := firstDue_le hu
    have ha := (calm_dropDue (d.clockTo u.at_) ((d.clockTo u.at_).lantern.dues.erase u)).trans (calm_act _ u.at_ u.act)
    exact ih _ (ha.counting.trans hcount) (by have := ha.now; omega)

/-- Time passes to the gcyc asked for. -/
theorem advance_now (d : Device) (g : Nat) (h : d.belfry.counting = true) (hg : d.now ≤ g) : (d.advance g).now = g := by
  unfold Device.advance
  split
  · obtain ⟨hnow, hcount⟩ := runDues_now d g (d.lantern.dues.length + 4 * d.lantern.tasks.length + 1) h hg
    rw [(clockTo_now _ g hcount).1]
    exact max_eq_right hnow
  next hn =>
    have : ¬ d.now < g := fun hlt => hn ⟨hlt, h⟩
    omega

/-- A step with an empty queue lets one gcyc pass. -/
theorem tick_now (d : Device) (h : d.belfry.counting = true) : d.tick.now = d.now + 1 := by
  unfold Device.tick
  extract_lets +onlyGivenNames d1
  have hc : Calm (d.advance (d.now + 1)) d1 := calm_serveCopies ..
  have he : Calm d1 (if d1.alive then d1.keepWork else d1) := Calm.ite (calm_keepWork ..) (.refl _)
  exact (he.now.trans hc.now).trans (advance_now d (d.now + 1) h (Nat.le_succ _))

/-! ### What a command does to the device -/

/-- A command does one thing to the device, whatever waits behind it: fuses are only blown and the canonical forms stay; without
power, and in module reset, a command of the running module changes nothing (R457 - R459). -/
def ServedAs (i : Instr) (f : Device → Device) : Prop :=
  (∀ s, exec i s = tookAlways s f) ∧ (∀ d, Safe d (f d)) ∧ (alwaysServed i = false → ∀ d, d.alive = false → f d = d)

theorem servedAs_took {i : Instr} {f : Device → Device} (h : ∀ s, exec i s = took s f) (hf : ∀ d, Safe d (f d)) :
    ∃ g, ServedAs i g :=
  ⟨fun d => if d.alive then f d else d, h, fun d => Safe.ite (hf d) (.refl d), fun _ d hd => if_neg (by simp [hd])⟩

theorem servedAs_always {i : Instr} {f : Device → Device} (hi : alwaysServed i = true) (h : ∀ s, exec i s = tookAlways s f)
    (hf : ∀ d, Safe d (f d)) : ∃ g, ServedAs i g :=
  ⟨f, h, hf, fun hn => absurd (hi.symm.trans hn) (by decide)⟩

theorem servedAs_tap {i : Instr} {f : Device → Device} (hi : alwaysServed i = true) (h : ∀ s, exec i s = tapTook s f)
    (hf : ∀ d, Safe d (f d)) : ∃ g, ServedAs i g :=
  servedAs_always hi h fun d => Safe.ite (hf d) (.refl d)

theorem kept_countDenied {d : Device} {x : Device × TapResult} (h : Kept d x.1) : Kept d (countDenied x).1 :=
  Kept.iteFst (h.trans (calm_bump ..).toKept) h

theorem exec_servedAs (i : Instr) : ∃ f, ServedAs i f := by
  cases i with
  | registerWrite =>
    exact servedAs_took (fun _ => rfl) (fun d => Safe.ite ((calm_linkUse d).toKept.trans (kept_writeBar0 ..)).toSafe
      ((calm_linkUse d).toKept.trans (kept_writeVf ..)).toSafe)
  | doorbell =>
    exact servedAs_took (fun _ => rfl) (fun d => ((calm_linkUse d).toKept.trans (calm_doorbell ..).toKept).toSafe)
  | ringRead =>
    exact servedAs_took (fun _ => rfl) (fun d => ((calm_linkUse d).toKept.trans (calm_ringRead ..).toKept).toSafe)
  | ringReadCompletion =>
    exact servedAs_took (fun _ => rfl) (fun d => ((calm_linkUse d).toKept.trans ((calm_ringData ..).toKept.trans
      (calm_settleInvals ..).toKept)).toSafe)
  | fetchErrClear => exact servedAs_took (fun _ => rfl) (fun _ => (calm_clearBits ..).toKept.toSafe)
  | ringDisable => exact servedAs_took (fun _ => rfl) (fun _ => (calm_ringOff ..).toKept.toSafe)
  | ringEnable => exact servedAs_took (fun _ => rfl) (fun _ => (calm_ringOn ..).toKept.toSafe)
  | ringEnableEffective => exact servedAs_took (fun _ => rfl) (fun _ => (calm_ringReady ..).toKept.toSafe)
  | inputReadCompletion =>
    exact servedAs_took (fun _ => rfl) (fun d => ((calm_linkUse d).toKept.trans ((calm_inputData ..).toKept.trans
      (calm_settleInvals ..).toKept)).toSafe)
  | bar2Read =>
    exact servedAs_took (fun _ => rfl) (fun d => ((calm_linkUse d).toKept.trans (calm_bar2Read ..).toKept).toSafe)
  | bar2Write =>
    exact servedAs_took (fun _ => rfl) (fun d => ((calm_linkUse d).toKept.trans (calm_bar2Write ..).toKept).toSafe)
  | hostReadCompletion =>
    exact servedAs_took (fun _ => rfl) (fun d => ((calm_linkUse d).toKept.trans ((calm_hostData ..).toKept.trans
      (calm_settleInvals ..).toKept)).toSafe)
  | completionTimeout =>
    exact servedAs_took (fun _ => rfl) (fun _ => ((calm_hostData ..).toKept.trans (calm_settleInvals ..).toKept).toSafe)
  | functionLevelReset => exact servedAs_took (fun _ => rfl) (fun _ => (kept_flr ..).toSafe)
  | perstN => exact servedAs_took (fun _ => rfl) (fun _ => safe_pinEvent _ _ fun _ => (kept_perst ..).toSafe)
  | hotReset => exact servedAs_took (fun _ => rfl) (fun _ => (kept_loseLink ..).toSafe)
  | pcieLinkDown => exact servedAs_took (fun _ => rfl) (fun _ => (kept_loseLink ..).toSafe)
  | l0pRequest => exact servedAs_took (fun _ => rfl) (fun _ => (calm_l0p ..).toKept.toSafe)
  | aspmL1Entry => exact servedAs_took (fun _ => rfl) (fun _ => (kept_aspm ..).toSafe)
  | atsTranslationCompletion =>
    exact servedAs_took (fun _ => rfl) (fun d => ((calm_linkUse d).toKept.trans (calm_atsDone ..).toKept).toSafe)
  | atsInvalidationRequest => exact servedAs_took (fun _ => rfl) (fun _ => (calm_atsInvalidate ..).toKept.toSafe)
  | configurationRequest => exact servedAs_took (fun _ => rfl) (fun _ => (calm_configRequest ..).toKept.toSafe)
  | hifVfAbort => exact servedAs_took (fun _ => rfl) (fun _ => (kept_vfAbort ..).toSafe)
  | hifVfSig => exact servedAs_took (fun _ => rfl) (fun _ => (calm_vfSig ..).toKept.toSafe)
  | hifVfSop => exact servedAs_took (fun _ => rfl) (fun _ => (calm_vfSop ..).toKept.toSafe)
  | hifVfFlush => exact servedAs_took (fun _ => rfl) (fun _ => (calm_vfFlush ..).toKept.toSafe)
  | startConditionEvaluation => exact servedAs_took (fun _ => rfl) (fun _ => (kept_evaluateHeads ..).toSafe)
  | taskSelection => exact servedAs_took (fun _ => rfl) (fun _ => (kept_selectNext ..).toSafe)
  | taskStart => exact servedAs_took (fun _ => rfl) (fun _ => (kept_startLocal ..).toSafe)
  | dopStep => exact servedAs_took (fun _ => rfl) (fun _ => (kept_dopStep ..).toSafe)
  | streamStep => exact servedAs_took (fun _ => rfl) (fun _ => (kept_streamStep ..).toSafe)
  | linktabStep => exact servedAs_took (fun _ => rfl) (fun _ => (kept_linktabStep ..).toSafe)
  | splitStep => exact servedAs_took (fun _ => rfl) (fun _ => (kept_splitStep ..).toSafe)
  | signalStep => exact servedAs_took (fun _ => rfl) (fun _ => (kept_signalStep ..).toSafe)
  | endStep => exact servedAs_took (fun _ => rfl) (fun _ => (kept_endStep ..).toSafe)
  | endStateDecision => exact servedAs_took (fun _ => rfl) (fun _ => (kept_decideEnd ..).toSafe)
  | tallySaveComplete => exact servedAs_took (fun _ => rfl) (fun _ => (kept_saveDone ..).toSafe)
  | idleTimerWarm => exact servedAs_took (fun _ => rfl) (fun _ => (kept_idleWarm ..).toSafe)
  | idleTimerCold => exact servedAs_took (fun _ => rfl) (fun _ => (kept_idleCold ..).toSafe)
  | lntAbort => exact servedAs_took (fun _ => rfl) (fun _ => (kept_lntAbort ..).toSafe)
  | abortCompletion => exact servedAs_took (fun _ => rfl) (fun _ => (kept_abortDone ..).toSafe)
  | contextRecordWrite => exact servedAs_took (fun _ => rfl) (fun _ => (calm_writeContext ..).toKept.toSafe)
  | tallyWrite => exact servedAs_took (fun _ => rfl) (fun _ => (calm_writeTally ..).toKept.toSafe)
  | translationEntryWrite => exact servedAs_took (fun _ => rfl) (fun _ => (calm_writeTmap ..).toKept.toSafe)
  | tlyHostSig => exact servedAs_took (fun _ => rfl) (fun _ => (calm_hostSig ..).toKept.toSafe)
  | remoteSignal =>
    exact servedAs_took (fun _ => rfl) (fun _ => Safe.ite (calm_remoteSignal ..).toKept.toSafe (calm_bump ..).toKept.toSafe)
  | signalApply => exact servedAs_took (fun _ => rfl) (fun _ => (kept_applySignals ..).toSafe)
  | fenceRelease => exact servedAs_took (fun _ => rfl) (fun _ => (kept_releaseFence ..).toSafe)
  | fenceExpiry => exact servedAs_took (fun _ => rfl) (fun _ => (kept_expireFence ..).toSafe)
  | streamRequestIssue => exact servedAs_took (fun _ => rfl) (fun _ => (kept_streamIssue ..).toSafe)
  | layerDrain => exact servedAs_took (fun _ => rfl) (fun _ => (kept_layerDrain ..).toSafe)
  | threadDone => exact servedAs_took (fun _ => rfl) (fun _ => (calm_threadDone ..).toKept.toSafe)
  | threadFinished => exact servedAs_took (fun _ => rfl) (fun _ => (calm_threadFinished ..).toKept.toSafe)
  | translationWalk => exact servedAs_took (fun _ => rfl) (fun _ => (kept_walk ..).toSafe)
  | steTlbInv => exact servedAs_took (fun _ => rfl) (fun _ => (calm_tlbInv ..).toKept.toSafe)
  | tlbInvalidationComplete => exact servedAs_took (fun _ => rfl) (fun _ => (calm_tlbInvDone ..).toKept.toSafe)
  | hbmAccessIssue => exact servedAs_took (fun _ => rfl) (fun _ => (kept_hbmIssue ..).toSafe)
  | hbmReadComplete => exact servedAs_took (fun _ => rfl) (fun _ => (calm_hbmComplete ..).toKept.toSafe)
  | hbmRefresh => exact servedAs_took (fun _ => rfl) (fun _ => (kept_hbmRefresh ..).toSafe)
  | parityAlert => exact servedAs_took (fun _ => rfl) (fun _ => (calm_parityAlert ..).toKept.toSafe)
  | commandConfirmed => exact servedAs_took (fun _ => rfl) (fun _ => (calm_confirm ..).toKept.toSafe)
  | hbcSuspectClear => exact servedAs_took (fun _ => rfl) (fun _ => (calm_clearSuspect ..).toKept.toSafe)
  | hbcClrRetain => exact servedAs_took (fun _ => rfl) (fun _ => (calm_clrRetain ..).toKept.toSafe)
  | hbmTrainingComplete => exact servedAs_took (fun _ => rfl) (fun _ => (calm_trained ..).toKept.toSafe)
  | netRead => exact servedAs_took (fun _ => rfl) (fun _ => (kept_netRead ..).toSafe)
  | netReadData => exact servedAs_took (fun _ => rfl) (fun _ => (kept_netReadData ..).toSafe)
  | netWrite => exact servedAs_took (fun _ => rfl) (fun _ => (kept_arriveWrite ..).toSafe)
  | netWritePartial => exact servedAs_took (fun _ => rfl) (fun _ => (kept_arriveWrite ..).toSafe)
  | netWriteAck => exact servedAs_took (fun _ => rfl) (fun _ => (kept_netWriteAck ..).toSafe)
  | packetInjection => exact servedAs_took (fun _ => rfl) (fun _ => (kept_injectNext ..).toSafe)
  | responseTimeout => exact servedAs_took (fun _ => rfl) (fun _ => (kept_timeoutTxn ..).toSafe)
  | sncRegWrite => exact servedAs_took (fun _ => rfl) (fun _ => (calm_regulator ..).toKept.toSafe)
  | sncStatClr => exact servedAs_took (fun _ => rfl) (fun _ => (calm_statClear ..).toKept.toSafe)
  | sncStatCtl => exact servedAs_took (fun _ => rfl) (fun _ => (calm_statControl ..).toKept.toSafe)
  | gatewayHoldRelease => exact servedAs_took (fun _ => rfl) (fun _ => (calm_gatewayRelease ..).toKept.toSafe)
  | qmgSop =>
    exact servedAs_took (fun _ => rfl) (fun _ => ((calm_requestWake ..).toKept.trans (calm_sopWrite ..).toKept).toSafe)
  | pushPortWrite => exact servedAs_took (fun _ => rfl) (fun _ => (calm_pushPort ..).toKept.toSafe)
  | qmgFlush => exact servedAs_took (fun _ => rfl) (fun _ => (calm_flushWrite ..).toKept.toSafe)
  | qmgPopStatus => exact servedAs_took (fun _ => rfl) (fun _ => (calm_popStatus ..).toKept.toSafe)
  | qmgPopMeta => exact servedAs_took (fun _ => rfl) (fun _ => (calm_popMeta ..).toKept.toSafe)
  | qmgPopData => exact servedAs_took (fun _ => rfl) (fun _ => (calm_popData ..).toKept.toSafe)
  | qmgQcfg => exact servedAs_took (fun _ => rfl) (fun _ => (calm_queueConfig ..).toKept.toSafe)
  | linkEnable => exact servedAs_took (fun _ => rfl) (fun _ => (calm_enableLink ..).toKept.toSafe)
  | linkDisable => exact servedAs_took (fun _ => rfl) (fun _ => (calm_disableLink ..).toKept.toSafe)
  | linkRetrain => exact servedAs_took (fun _ => rfl) (fun _ => (calm_retrainLink ..).toKept.toSafe)
  | turClrRetain => exact servedAs_took (fun _ => rfl) (fun _ => (calm_clearLinkRetain ..).toKept.toSafe)
  | terminationDetect =>
    exact servedAs_took (fun _ => rfl) (fun _ => safe_pinEvent _ _ fun _ => (calm_detectTermination ..).toKept.toSafe)
  | lossOfClock => exact servedAs_took (fun _ => rfl) (fun _ => (calm_loseClock ..).toKept.toSafe)
  | clockRestored => exact servedAs_took (fun _ => rfl) (fun _ => (calm_restoreClock ..).toKept.toSafe)
  | trainComplete => exact servedAs_took (fun _ => rfl) (fun _ => (calm_linkTrained ..).toKept.toSafe)
  | symbolLock => exact servedAs_took (fun _ => rfl) (fun _ => (calm_symbolLocked ..).toKept.toSafe)
  | bringUpTimeout => exact servedAs_took (fun _ => rfl) (fun _ => (calm_bringUpFailed ..).toKept.toSafe)
  | exch => exact servedAs_took (fun _ => rfl) (fun _ => (calm_exchReceived ..).toKept.toSafe)
  | frameStart => exact servedAs_took (fun _ => rfl) (fun _ => (kept_frameStart ..).toSafe)
  | flitTransmit => exact servedAs_took (fun _ => rfl) (fun _ => (kept_transmit ..).toSafe)
  | flitReceive => exact servedAs_took (fun _ => rfl) (fun _ => (kept_receive ..).toSafe)
  | replayDeadline => exact servedAs_took (fun _ => rfl) (fun _ => (kept_replayOver ..).toSafe)
  | linkSlotDrop => exact servedAs_took (fun _ => rfl) (fun _ => (kept_slotDropped ..).toSafe)
  | alignmentMarkerLoss => exact servedAs_took (fun _ => rfl) (fun _ => (calm_markersLost ..).toKept.toSafe)
  | linkWake link =>
    exact servedAs_took (f := fun d => if d.linkState link = 5 then d.requestWake false else d) (fun _ => rfl)
      (fun _ => Safe.ite (calm_requestWake ..).toKept.toSafe (.refl _))
  | linkCredit link engine thread total headerOk =>
    exact servedAs_took (f := fun d => if d.linkState link ≠ 5 then d else if headerOk then d.creditReceived engine thread total else d.bump Reg.sncHdrDropCnt 1) (fun _ => rfl) (fun _ => Safe.ite (.refl _) (Safe.ite (calm_creditReceived ..).toKept.toSafe (calm_bump ..).toKept.toSafe))
  | loopback => exact servedAs_took (fun _ => rfl) (fun _ => (calm_setLoop ..).toKept.toSafe)
  | turPrbsClr => exact servedAs_took (fun _ => rfl) (fun _ => (calm_clearPrbs ..).toKept.toSafe)
  | prbsInject => exact servedAs_took (fun _ => rfl) (fun _ => (calm_injectPrbs ..).toKept.toSafe)
  | cluAlign => exact servedAs_took (fun _ => rfl) (fun _ => (calm_alignReceived ..).toKept.toSafe)
  | cluAlignEcho => exact servedAs_took (fun _ => rfl) (fun _ => (calm_alignEcho ..).toKept.toSafe)
  | cluAlignResult => exact servedAs_took (fun _ => rfl) (fun _ => (kept_alignResult ..).toSafe)
  | alignmentStep => exact servedAs_took (fun _ => rfl) (fun _ => (kept_alignmentStep ..).toSafe)
  | alignCheck => exact servedAs_took (fun _ => rfl) (fun _ => (kept_alignCheck ..).toSafe)
  | realign => exact servedAs_took (fun _ => rfl) (fun _ => (calm_realign ..).toKept.toSafe)
  | frequencyLock => exact servedAs_took (fun _ => rfl) (fun _ => (calm_frequencyLock ..).toKept.toSafe)
  | cdoneFall => exact servedAs_took (fun _ => rfl) (fun _ => safe_pinEvent _ _ fun _ => (kept_cdoneFell ..).toSafe)
  | cdoneRise => exact servedAs_took (fun _ => rfl) (fun _ => safe_pinEvent _ _ fun _ => (calm_cdoneRose ..).toKept.toSafe)
  | cluStart => exact servedAs_took (fun _ => rfl) (fun _ => (calm_startReceived ..).toKept.toSafe)
  | startReadiness => exact servedAs_took (fun _ => rfl) (fun _ => (kept_startReadiness ..).toSafe)
  | cluAbort => exact servedAs_took (fun _ => rfl) (fun _ => (calm_abortReceived ..).toKept.toSafe)
  | cluFinal => exact servedAs_took (fun _ => rfl) (fun _ => (calm_finalReceived ..).toKept.toSafe)
  | cluReport link report =>
    exact servedAs_took (f := fun d => if d.isUpLink link then d else d.reportReceived link report) (fun _ => rfl)
      (fun _ => Safe.ite (.refl _) (kept_reportReceived ..).toSafe)
  | reportSend => exact servedAs_took (fun _ => rfl) (fun _ => (kept_reportSend ..).toSafe)
  | reportDeadline => exact servedAs_took (fun _ => rfl) (fun _ => (kept_reportDeadline ..).toSafe)
  | cluNoStart link device reason =>
    exact servedAs_took (f := fun d => if d.isUpLink link then d else d.noStartReceived device reason) (fun _ => rfl)
      (fun _ => Safe.ite (.refl _) (kept_noStartReceived ..).toSafe)
  | cluAbortReq link device ctx =>
    exact servedAs_took (f := fun d => if d.isUpLink link then d else d.abortAsked device ctx) (fun _ => rfl)
      (fun _ => Safe.ite (.refl _) (kept_abortAsked ..).toSafe)
  | clusterAbortTimeout => exact servedAs_took (fun _ => rfl) (fun _ => (kept_abortTimeout ..).toSafe)
  | multicastPortWrite => exact servedAs_took (fun _ => rfl) (fun _ => (calm_portWrite ..).toKept.toSafe)
  | outputDetach => exact servedAs_took (fun _ => rfl) (fun _ => (kept_detachOutput ..).toSafe)
  | mcDetach => exact servedAs_took (fun _ => rfl) (fun _ => (calm_detachedBy ..).toKept.toSafe)
  | cluMcAttach => exact servedAs_took (fun _ => rfl) (fun _ => (calm_attach ..).toKept.toSafe)
  | cfgStart =>
    exact servedAs_took (fun _ => rfl) (fun _ => ((calm_writeCfgCtl ..).toKept.trans (calm_startLoad ..).toKept).toSafe)
  | cfgAbort =>
    exact servedAs_took (fun _ => rfl) (fun _ => ((calm_writeCfgCtl ..).toKept.trans (calm_loadFail ..).toKept).toSafe)
  | cfgPort => exact servedAs_took (fun _ => rfl) (fun _ => (calm_portBytes ..).toKept.toSafe)
  | bitstreamHeader => exact servedAs_took (fun _ => rfl) (fun _ => (calm_loadHeader ..).toKept.toSafe)
  | loadHoldRelease => exact servedAs_took (fun _ => rfl) (fun _ => (kept_holdReleased ..).toSafe)
  | fullClearComplete => exact servedAs_took (fun _ => rfl) (fun _ => (calm_clearDone ..).toKept.toSafe)
  | cfgBlock => exact servedAs_took (fun _ => rfl) (fun _ => (calm_takeBlock ..).toKept.toSafe)
  | nopPacket => exact servedAs_took (fun _ => rfl) (fun _ => (calm_nopPacket ..).toKept.toSafe)
  | cfgSetAddr => exact servedAs_took (fun _ => rfl) (fun _ => (calm_setAddr ..).toKept.toSafe)
  | cfgFrames => exact servedAs_took (fun _ => rfl) (fun _ => (calm_framesPacket ..).toKept.toSafe)
  | cfgReplicate => exact servedAs_took (fun _ => rfl) (fun _ => (calm_replicatePacket ..).toKept.toSafe)
  | cfgStartupPacket => exact servedAs_took (fun _ => rfl) (fun _ => (calm_startupPacket ..).toKept.toSafe)
  | slotBegin => exact servedAs_took (fun _ => rfl) (fun _ => (kept_slotBegins ..).toSafe)
  | slotEnd => exact servedAs_took (fun _ => rfl) (fun _ => (calm_slotEnds ..).toKept.toSafe)
  | regionBegin => exact servedAs_took (fun _ => rfl) (fun _ => (calm_regionBegins ..).toKept.toSafe)
  | regionEnd => exact servedAs_took (fun _ => rfl) (fun _ => (calm_regionEnds ..).toKept.toSafe)
  | endPacket => exact servedAs_took (fun _ => rfl) (fun _ => (calm_endPacket ..).toKept.toSafe)
  | idleLimitExpiry => exact servedAs_took (fun _ => rfl) (fun _ => (kept_idleLimit ..).toSafe)
  | lockStage => exact servedAs_took (fun _ => rfl) (fun _ => (calm_lockStage ..).toKept.toSafe)
  | lockLimitExpiry => exact servedAs_took (fun _ => rfl) (fun _ => (kept_lockLimit ..).toSafe)
  | outRel => exact servedAs_took (fun _ => rfl) (fun _ => (kept_stage _ _ _ fun _ => (calm_outRel ..).toKept).toSafe)
  | wrEn => exact servedAs_took (fun _ => rfl) (fun _ => (kept_stage _ _ _ fun _ => (calm_wrEn ..).toKept).toSafe)
  | rstRel => exact servedAs_took (fun _ => rfl) (fun _ => (kept_stage _ _ _ fun _ => (calm_rstRel ..).toKept).toSafe)
  | cdoneStage => exact servedAs_took (fun _ => rfl) (fun _ => (kept_cdoneStage ..).toSafe)
  | readback => exact servedAs_took (fun _ => rfl) (fun _ => (calm_readback ..).toKept.toSafe)
  | readbackComplete => exact servedAs_took (fun _ => rfl) (fun _ => (calm_readbackDone ..).toKept.toSafe)
  | getInfo => exact servedAs_took (fun _ => rfl) (fun _ => (calm_getInfo ..).toKept.toSafe)
  | keepUpdate => exact servedAs_took (fun _ => rfl) (fun _ => (calm_startUpdate ..).toKept.toSafe)
  | keepActivate => exact servedAs_took (fun _ => rfl) (fun _ => (calm_activateTrial ..).toKept.toSafe)
  | commitSvn => exact servedAs_took (fun _ => rfl) (fun _ => (calm_commitSvn ..).toKept.toSafe)
  | getAttest => exact servedAs_took (fun _ => rfl) (fun _ => (calm_getAttest ..).toKept.toSafe)
  | getCert => exact servedAs_took (fun _ => rfl) (fun _ => (calm_getCert ..).toKept.toSafe)
  | bbramWrite => exact servedAs_took (fun _ => rfl) (fun _ => (calm_bbramWrite ..).toKept.toSafe)
  | bbramZeroise => exact servedAs_took (fun _ => rfl) (fun _ => (calm_bbramErase ..).toKept.toSafe)
  | fuseProgram => exact servedAs_took (fun _ => rfl) (fun _ => (calm_fuseProgram ..).toKept.toSafe)
  | keepRestart => exact servedAs_took (fun _ => rfl) (fun _ => (calm_keepBoot ..).toKept.toSafe)
  | cardInsertion => exact servedAs_took (fun _ => rfl) (fun _ => (calm_cardIn ..).toKept.toSafe)
  | mgmtReady => exact servedAs_took (fun _ => rfl) (fun _ => (calm_mgmtReady ..).toKept.toSafe)
  | trialWatchdog => exact servedAs_took (fun _ => rfl) (fun _ => (kept_trialExpires ..).toSafe)
  | powerUp => exact servedAs_always rfl (fun _ => rfl) (fun _ => (safe_vinRises ..))
  | standbyRailGood => exact servedAs_always rfl (fun _ => rfl) (fun _ => (calm_standbyGood ..).toKept.toSafe)
  | referencePllLock => exact servedAs_always rfl (fun _ => rfl) (fun _ => (kept_pllLock ..).toSafe)
  | telemetrySample => exact servedAs_always rfl (fun _ => rfl) (fun _ => (safe_sample ..))
  | inputTurnOff => exact servedAs_always rfl (fun _ => rfl) (fun _ => (safe_turnOff ..))
  | mrstNAssert => exact servedAs_always rfl (fun _ => rfl) (fun _ => safe_pinEvent _ _ fun _ => (safe_mrstLow ..))
  | mrstNRelease => exact servedAs_always rfl (fun _ => rfl) (fun _ => safe_pinEvent _ _ fun _ => (kept_mrstHigh ..).toSafe)
  | refclkLoss => exact servedAs_always rfl (fun _ => rfl) (fun _ => (calm_refclkLoss ..).toKept.toSafe)
  | refclkReturn => exact servedAs_always rfl (fun _ => rfl) (fun _ => (calm_refclkReturn ..).toKept.toSafe)
  | standbyReq => exact servedAs_took (fun _ => rfl) (fun _ => (calm_standbyReq ..).toKept.toSafe)
  | standbyEntry => exact servedAs_took (fun _ => rfl) (fun _ => (calm_standbyEntry ..).toKept.toSafe)
  | coldEntryComplete => exact servedAs_took (fun _ => rfl) (fun _ => (calm_coldEntered ..).toKept.toSafe)
  | pwrCtlWake => exact servedAs_took (fun _ => rfl) (fun _ => (calm_requestWake ..).toKept.toSafe)
  | pwrCtlHold => exact servedAs_took (fun _ => rfl) (fun _ => (calm_swHold ..).toKept.toSafe)
  | smbusWake => exact servedAs_took (fun _ => rfl) (fun _ => safe_pinEvent _ _ fun _ => (calm_requestWake ..).toKept.toSafe)
  | wakeComplete => exact servedAs_took (fun _ => rfl) (fun _ => (kept_wakeDone ..).toSafe)
  | errInj => exact servedAs_took (fun _ => rfl) (fun _ => (calm_errInj ..).toKept.toSafe)
  | tapReset => exact servedAs_tap rfl (fun _ => rfl) (fun _ => (kept_setIr ..).toSafe)
  | tapExtest =>
    exact servedAs_tap rfl (fun _ => rfl) (fun _ => ((kept_loadIr ..).trans (calm_boundaryScan ..).toKept).toSafe)
  | tapIdcode =>
    exact servedAs_tap (f := fun d => (d.loadIr 0x01).emit (.tdo 32 (d.regF Reg.bfyId 0 32))) rfl (fun _ => rfl)
      (fun _ => ((kept_loadIr ..).trans (calm_emit ..).toKept).toSafe)
  | tapSamplePreload =>
    exact servedAs_tap rfl (fun _ => rfl) (fun _ => ((kept_loadIr ..).trans (calm_boundaryScan ..).toKept).toSafe)
  | tapExtestPulse =>
    exact servedAs_tap rfl (fun _ => rfl) (fun _ => ((kept_loadIr ..).trans (calm_boundaryScan ..).toKept).toSafe)
  | tapExtestTrain =>
    exact servedAs_tap rfl (fun _ => rfl) (fun _ => ((kept_loadIr ..).trans (calm_boundaryScan ..).toKept).toSafe)
  | tapClamp => exact servedAs_tap rfl (fun _ => rfl) (fun _ => (kept_bypass ..).toSafe)
  | tapHighz => exact servedAs_tap rfl (fun _ => rfl) (fun _ => (kept_bypass ..).toSafe)
  | tapBypass => exact servedAs_tap rfl (fun _ => rfl) (fun _ => (kept_bypass ..).toSafe)
  | cfgAccess => exact servedAs_tap rfl (fun _ => rfl) (fun _ => (kept_loadIr ..).toSafe)
  | cfgAccessNop => exact servedAs_tap rfl (fun _ => rfl) (fun _ => (calm_cfgScan _ _ _ fun _ => .refl _).toKept.toSafe)
  | cfgAccessPort =>
    exact servedAs_tap rfl (fun _ => rfl) (fun _ => (kept_cfgScan _ _ _ fun _ => kept_countDenied
      (calm_tapPort ..).toKept).toSafe)
  | cfgAccessWrite =>
    exact servedAs_tap rfl (fun _ => rfl) (fun _ => (kept_cfgScan _ _ _ fun _ => kept_countDenied (kept_tapWrite ..)).toSafe)
  | cfgAccessRead =>
    exact servedAs_tap rfl (fun _ => rfl) (fun _ => (kept_cfgScan _ _ _ fun _ => kept_countDenied
      (calm_tapRead ..).toKept).toSafe)
  | bistRun => exact servedAs_tap rfl (fun _ => rfl) (fun _ => (kept_bistSelect ..).toSafe)
  | bistStart => exact servedAs_tap rfl (fun _ => rfl) (fun _ => (calm_bistBegin ..).toKept.toSafe)
  | bistComplete => exact servedAs_took (fun _ => rfl) (fun _ => (calm_bistDone ..).toKept.toSafe)
  | maintReq => exact servedAs_took (fun _ => rfl) (fun _ => (calm_maintReq ..).toKept.toSafe)
  | maintEntry => exact servedAs_took (fun _ => rfl) (fun _ => (calm_maintEntry ..).toKept.toSafe)
  | sprVxCtlStart => exact servedAs_took (fun _ => rfl) (fun _ => (calm_vxStart ..).toKept.toSafe)
  | rckInjArm => exact servedAs_took (fun _ => rfl) (fun _ => (calm_armInjection ..).toKept.toSafe)
  | vxNop => exact servedAs_took (fun _ => rfl) (fun _ => (kept_vxCommand ..).toSafe)
  | vxHalt => exact servedAs_took (fun _ => rfl) (fun _ => (kept_vxCommand ..).toSafe)
  | vxLoop => exact servedAs_took (fun _ => rfl) (fun _ => (kept_vxCommand ..).toSafe)
  | vxSeta => exact servedAs_took (fun _ => rfl) (fun _ => (kept_vxCommand ..).toSafe)
  | vxLdi => exact servedAs_took (fun _ => rfl) (fun _ => (kept_vxCommand ..).toSafe)
  | vxDrn => exact servedAs_took (fun _ => rfl) (fun _ => (kept_vxCommand ..).toSafe)
  | vxMov => exact servedAs_took (fun _ => rfl) (fun _ => (kept_vxCommand ..).toSafe)
  | vxAdd => exact servedAs_took (fun _ => rfl) (fun _ => (kept_vxCommand ..).toSafe)
  | vxSub => exact servedAs_took (fun _ => rfl) (fun _ => (kept_vxCommand ..).toSafe)
  | vxMax => exact servedAs_took (fun _ => rfl) (fun _ => (kept_vxCommand ..).toSafe)
  | vxMin => exact servedAs_took (fun _ => rfl) (fun _ => (kept_vxCommand ..).toSafe)
  | vxAbs => exact servedAs_took (fun _ => rfl) (fun _ => (kept_vxCommand ..).toSafe)
  | vxNeg => exact servedAs_took (fun _ => rfl) (fun _ => (kept_vxCommand ..).toSafe)
  | vxCsel => exact servedAs_took (fun _ => rfl) (fun _ => (kept_vxCommand ..).toSafe)
  | vxNrm => exact servedAs_took (fun _ => rfl) (fun _ => (kept_vxCommand ..).toSafe)
  | vxMpy => exact servedAs_took (fun _ => rfl) (fun _ => (kept_vxCommand ..).toSafe)
  | vxMac => exact servedAs_took (fun _ => rfl) (fun _ => (kept_vxCommand ..).toSafe)
  | vxMsu => exact servedAs_took (fun _ => rfl) (fun _ => (kept_vxCommand ..).toSafe)
  | vxAdda => exact servedAs_took (fun _ => rfl) (fun _ => (kept_vxCommand ..).toSafe)
  | vxSuba => exact servedAs_took (fun _ => rfl) (fun _ => (kept_vxCommand ..).toSafe)
  | vxMaxa => exact servedAs_took (fun _ => rfl) (fun _ => (kept_vxCommand ..).toSafe)
  | vxClr => exact servedAs_took (fun _ => rfl) (fun _ => (kept_vxCommand ..).toSafe)
  | vxScl => exact servedAs_took (fun _ => rfl) (fun _ => (kept_vxCommand ..).toSafe)
  | vxTapm => exact servedAs_took (fun _ => rfl) (fun _ => (kept_vxCommand ..).toSafe)
  | vxNrw => exact servedAs_took (fun _ => rfl) (fun _ => (kept_vxCommand ..).toSafe)
  | vxLsum => exact servedAs_took (fun _ => rfl) (fun _ => (kept_vxCommand ..).toSafe)
  | vxLmax => exact servedAs_took (fun _ => rfl) (fun _ => (kept_vxCommand ..).toSafe)
  | vxPkst => exact servedAs_took (fun _ => rfl) (fun _ => (kept_vxCommand ..).toSafe)
  | vxPkld => exact servedAs_took (fun _ => rfl) (fun _ => (kept_vxCommand ..).toSafe)
  | vxPkfl => exact servedAs_took (fun _ => rfl) (fun _ => (kept_vxCommand ..).toSafe)
  | vxIllegalEncoding => exact servedAs_took (fun _ => rfl) (fun _ => (kept_vxCommand ..).toSafe)
  | clockMuxSwitch tree sel =>
    exact servedAs_took (f := fun d => d.setTree tree (fun t => t.switchTo sel d.now)) (fun _ => rfl) (fun _ =>
      (calm_setTree ..).toKept.toSafe)
  | dividerChange => exact servedAs_took (fun _ => rfl) (fun _ => (calm_setTree ..).toKept.toSafe)
  | pllLossOfLock => exact servedAs_took (fun _ => rfl) (fun _ => (calm_pllLoses ..).toKept.toSafe)
  | pllRelock => exact servedAs_took (fun _ => rfl) (fun _ => (calm_pllLocks ..).toKept.toSafe)
  | delayStep => exact servedAs_took (fun _ => rfl) (fun _ => (calm_stepDelay ..).toKept.toSafe)
  | delayLoad => exact servedAs_took (fun _ => rfl) (fun _ => (calm_loadDelay ..).toKept.toSafe)
  | apRequest => exact servedAs_took (fun _ => rfl) (fun _ => (calm_apIssue ..).toKept.toSafe)
  | fabricUserWindowAccess =>
    exact servedAs_took (fun _ => rfl) (fun d => ((calm_linkUse d).toKept.trans (calm_userWindow ..).toKept).toSafe)
  | fecCodewordReceive => exact servedAs_took (fun _ => rfl) (fun _ => (calm_codeword ..).toKept.toSafe)
  | lanePrbsClr => exact servedAs_took (fun _ => rfl) (fun _ => (calm_clearLanePrbs ..).toKept.toSafe)
  | laneInjOnce => exact servedAs_took (fun _ => rfl) (fun _ => (calm_emit ..).toKept.toSafe)
  | standbyEntryComplete => exact servedAs_took (fun _ => rfl) (fun _ => (calm_standbyEntered ..).toKept.toSafe)
  | pwrgdHigh => exact servedAs_always rfl (fun _ => rfl) (fun _ => (calm_pwrgd ..).toKept.toSafe)
  | pcieLinkUp => exact servedAs_took (fun _ => rfl) (fun _ => safe_pinEvent _ _ fun _ => (calm_linkUp ..).toKept.toSafe)
  | perstNRelease =>
    exact servedAs_took (fun _ => rfl) (fun _ => safe_pinEvent _ _ fun _ => (calm_perstRise ..).toKept.toSafe)
  | unsupportedRequest => exact servedAs_took (fun _ => rfl) (fun _ => (calm_unsupported ..).toKept.toSafe)
  | malformedTlp => exact servedAs_took (fun _ => rfl) (fun _ => (calm_badTlp ..).toKept.toSafe)
  | apTargetResponse => exact servedAs_took (fun _ => rfl) (fun _ => (calm_userAnswer ..).toKept.toSafe)
  | blockRamAccess => exact servedAs_took (fun _ => rfl) (fun _ => (calm_ramAccess ..).toKept.toSafe)
  | prbsCheckerSynchronisation =>
    exact servedAs_took (fun _ => rfl) (fun _ => Safe.ite (calm_linkPrbs ..).toKept.toSafe (calm_lanePrbs ..).toKept.toSafe)
  | fabricLaneCdrLock => exact servedAs_took (fun _ => rfl) (fun _ => (calm_cdrLock ..).toKept.toSafe)
  | cardRemoval => exact servedAs_took (fun _ => rfl) (fun _ => (calm_cardOut ..).toKept.toSafe)
  | vbatLoss => exact servedAs_always rfl (fun _ => rfl) (fun _ => (calm_vbatLoss ..).toKept.toSafe)
  | hbmTemperatureReading => exact servedAs_took (fun _ => rfl) (fun _ => (calm_stackTemp ..).toKept.toSafe)

theorem safe_of_next {d e : Device} {p : List Instr} {t : State} (hk : Safe d e)
    (h : (.next { dev := e, pending := p } : Host.Outcome State Fault Refusal) = .next t) : Safe d t.dev := by
  cases h
  exact hk

theorem exec_safe {i : Instr} {s t : State} (h : exec i s = .next t) : Safe s.dev t.dev := by
  obtain ⟨f, hexec, hsafe, -⟩ := exec_servedAs i
  rw [hexec] at h
  cases h
  exact hsafe s.dev

theorem step_idle (d : Device) : step { dev := d, pending := [] } = .next { dev := d.tick, pending := [] } := rfl

/-- Every step keeps fuses and canonical forms. -/
theorem step_safe {s t : State} (h : step s = .next t) : Safe s.dev t.dev := by
  obtain ⟨dev, pending⟩ := s
  cases pending with
  | nil =>
    rw [step_idle] at h
    exact safe_of_next (kept_tick dev).toSafe h
  | cons c rest => exact exec_safe (s := { dev := dev, pending := rest }) h

/-- Settles O59. -/
theorem everyStepOnlyBlowsFuses : Obligations.EveryStepOnlyBlowsFuses :=
  fun _ _ h => (step_safe h).fuses

/-- Settles O58. -/
theorem everyStepKeepsTheCanonicalForms : Obligations.EveryStepKeepsTheCanonicalForms :=
  fun _ _ hwf h => (step_safe h).wf hwf

/-- Settles O55: a command is taken from the front; with none waiting, time passes by one gcyc. -/
theorem stepServesTheFrontCommand : Obligations.StepServesTheFrontCommand := by
  refine ⟨fun c s rest h => ?_, fun s h hc => ⟨s.dev.tick, ?_, tick_now s.dev hc⟩⟩
  · simp only [step, h]
  · simp only [step, h]

/-- A command leaves the queue as it is, and does to the device what it does with nothing waiting. -/
theorem exec_deviceAfter (c : Instr) (d : Device) (rest : List Instr) :
    exec c { dev := d, pending := rest } = .next { dev := deviceAfter d c, pending := rest } := by
  obtain ⟨f, hexec, -⟩ := exec_servedAs c
  unfold deviceAfter
  rw [hexec, hexec]
  rfl

theorem runSteps_pending (l : List Instr) (d : Device) :
    runSteps l.length { dev := d, pending := l } = .next { dev := l.foldl deviceAfter d, pending := [] } := by
  induction l generalizing d with
  | nil => rfl
  | cons c rest ih =>
    have hstep : step { dev := d, pending := c :: rest } = .next { dev := deviceAfter d c, pending := rest } :=
      exec_deviceAfter c d rest
    rw [List.length_cons, runSteps, hstep]
    exact ih (deviceAfter d c)

/-- Settles O56: by induction on the queue. -/
theorem commandsRunInOrderWhilePowered : Obligations.CommandsRunInOrderWhilePowered := by
  refine ⟨fun i s hdead hi => ?_, fun s => runSteps_pending s.pending s.dev⟩
  obtain ⟨f, hexec, -, hnone⟩ := exec_servedAs i
  rw [hexec, tookAlways, hnone hi s.dev hdead]

end Sys2Proof.Machine
end

section
/-! PROOFS. The memory BIST over the TAP (R483, R491). -/

namespace Sys2Proof.Machine

open Sys2Proof

/-- A command of the TAP, in every state except Off (R482). -/
theorem completes_tap {c : Instr} {s : State} {f : Device → Device} {P : Device → Prop} (hc : exec c s = tapTook s f)
    (h : s.dev.belfryRuns = true) (hp : P (f s.dev)) : Completes c s P :=
  completes_tookAlways hc (by rwa [if_pos h])

theorem dbgBistRunCnt_ne_dbgBistStatus : Reg.dbgBistStatus ≠ Reg.dbgBistRunCnt := by decide

/-- A refused command shows REFUSED, and a run that goes on still as running. -/
theorem bistBegin_refused {d : Device} (ret : Bool) (g : BitVec 9) (hir : d.tap.ir = 0x21) (h : d.bistRefused = true) :
    d.bistBegin ret g = (d.emit (.tdo 64 (d.reg Reg.dbgBistStatus).toNat)).setReg Reg.dbgBistStatus
      (mkWord [(2, 1), (0, d.regF Reg.dbgBistStatus 0 1)]) := by
  unfold Device.bistBegin
  rw [if_neg (not_not.2 hir)]
  exact if_pos h

/-- A command that is taken shows a run, and nothing of the one before. -/
theorem bistBegin_taken {d : Device} (ret : Bool) (g : BitVec 9) (hir : d.tap.ir = 0x21) (h : d.bistRefused = false) :
    d.bistBegin ret g = (((d.emit (.tdo 64 (d.reg Reg.dbgBistStatus).toNat)).setReg Reg.dbgBistStatus 1).bump
      Reg.dbgBistRunCnt 1).mapTap (fun t => { t with bist := some g, bistRet := ret }) := by
  unfold Device.bistBegin
  rw [if_neg (not_not.2 hir)]
  exact if_neg (Bool.eq_false_iff.1 h)

theorem reg_bistBegin {d : Device} (ret : Bool) (g : BitVec 9) (hir : d.tap.ir = 0x21) :
    ∃ b : Bool, (d.bistBegin ret g).reg Reg.dbgBistStatus = mkWord [(2, b2n b), (0, 1)] ∨
      (d.bistBegin ret g).reg Reg.dbgBistStatus = mkWord [(2, 1), (0, b2n b)] := by
  cases h : d.bistRefused with
  | true =>
    refine ⟨d.regBit Reg.dbgBistStatus 0, .inr ?_⟩
    rw [bistBegin_refused ret g hir h, reg_setReg, regF_one]
  | false =>
    refine ⟨false, .inl ?_⟩
    rw [bistBegin_taken ret g hir h]
    exact (reg_bump_ne _ 1 dbgBistRunCnt_ne_dbgBistStatus).trans (reg_setReg _ _ _)

/-- An instruction that leaves the pins to the module emits nothing when it is loaded. -/
theorem setIr_out {d : Device} {op : BitVec 8} (h : ({ d.tap with ir := op } : Tap).pinControl = false) :
    (d.setIr op).out = d.out := by
  unfold Device.setIr
  extract_lets was e
  have he : e.pinsTaken = false := by
    have : e.tap.pinControl = false := h
    simp [Device.pinsTaken, this]
  rw [he, Bool.false_and, if_neg (by decide)]
  split
  · unfold Device.returnPins
    split <;> rfl
  · rfl

theorem captureIr_testBit (d : Device) : d.captureIr.testBit 3 = d.regBit Reg.dbgBistStatus 1 := by
  unfold Device.captureIr
  cases d.regBit Reg.dbgBistStatus 1 <;> cases d.tapDisabled <;> rfl

theorem bistSelect_out (d : Device) : ∃ l, d.bistSelect.out = d.out ++ .tdo 8 d.captureIr :: l := by
  have hload : (d.loadIr 0x21).out = d.out ++ [.tdo 8 d.captureIr] := by
    unfold Device.loadIr
    refine (setIr_out ?_).trans rfl
    split <;> rfl
  unfold Device.bistSelect
  extract_lets e
  split
  · exact ⟨[.tdo 64 (e.reg Reg.dbgBistStatus).toNat], by rw [emit_out, hload, List.append_assoc]; rfl⟩
  · exact ⟨[.tdo 1 0], by rw [emit_out, hload, List.append_assoc]; rfl⟩

/-- Settles O54: the status of a BIST command is written as a whole, with DONE, FAIL and FAIL_WORDS 0. -/
theorem bistCommandClearsItsStatus : Obligations.BistCommandClearsItsStatus := by
  intro s hrun
  refine ⟨fun hir ret g => completes_tap (f := (·.bistBegin ret g)) rfl hrun ?_, captureIr_testBit _, completes_tap rfl hrun (bistSelect_out _)⟩
  obtain ⟨b, h⟩ := reg_bistBegin ret g hir
  unfold Device.regBit Device.regF
  rcases h with h | h <;> rw [h] <;> cases b <;> decide

end Sys2Proof.Machine
end
section
/-! PROOFS. Telemetry and the thermal trip (R456, R462, R464, R466). -/

namespace Sys2Proof.Machine

open Sys2Proof

/-! ### What the alerts and holds leave -/

theorem RaisedOnly.mono {as bs : List Nat} {d d' : Device} (h : RaisedOnly as d d') (hs : ∀ a ∈ as, a ∈ bs) :
    RaisedOnly bs d d' := ⟨h.1, fun a ha => h.2 a fun hx => ha (hs a hx)⟩

theorem RaisedOnly.trans {as : List Nat} {d d' d'' : Device} (h : RaisedOnly as d d') (h' : RaisedOnly as d' d'') :
    RaisedOnly as d d'' := by
  obtain ⟨he, hr⟩ := h
  obtain ⟨he', hr'⟩ := h'
  exact ⟨by rw [he', he], fun a ha => (hr' a ha).trans (hr a ha)⟩

/-- An alert sets its own bit of PWR_ALERT and no other. -/
theorem regBit_alert_ne (d : Device) {i j : Nat} (b : Bool) (h : j ≠ i) :
    (d.alert i b).regBit Reg.pwrAlert j = d.regBit Reg.pwrAlert j := by
  cases b with
  | false => rfl
  | true =>
    rw [Device.alert, if_pos rfl, Device.regBit, reg_raise, bit, BitVec.getLsbD_or, BitVec.getLsbD_ofNat,
      Nat.testBit_two_pow_of_ne h.symm]
    simp [Device.regBit, bit]

/-- PWR_STATUS shows the holds in force. -/
theorem regBit_evalHolds (d : Device) (i : Fin 5) : d.evalHolds.regBit Reg.pwrStatus (8 + i) = d.holds.getD i false := by
  have hreg : d.evalHolds.reg Reg.pwrStatus = d.showHolds.reg Reg.pwrStatus := by
    rw [evalHolds_eq]
    split
    · rfl
    · rw [reg_raise_ne _ _ (by decide), reg_bump_ne _ _ (by decide)]
  have hbits : ∀ (i : Fin 5) (a b c e f : Bool),
      ([a, b, c, e, f].foldr (fun b a => b2n b + 2 * a) 0).testBit i = [a, b, c, e, f].getD i false := by decide
  rw [Device.regBit, hreg, Device.showHolds, reg_setF, bit_putFld, if_pos (by omega), Nat.add_sub_cancel_left, Device.holds]
  exact hbits i _ _ _ _ _

theorem power_evalHolds (d : Device) : d.evalHolds.power = d.power := by
  have hshow : d.showHolds.power = d.power := regF_setF_ne _ _ _ (by decide)
  rw [evalHolds_eq]
  split
  · exact hshow
  · refine (power_congr ?_).trans hshow
    rw [reg_raise_ne _ _ (by decide), reg_bump_ne _ _ (by decide)]

/-- The holds raise PWR_ALERT.HOLD, bit 0, and no other alert. -/
theorem regBit_evalHolds_alert_ne (d : Device) {i : Nat} (h : i ≠ 0) :
    d.evalHolds.regBit Reg.pwrAlert i = d.regBit Reg.pwrAlert i := by
  have hshow : d.showHolds.reg Reg.pwrAlert = d.reg Reg.pwrAlert := reg_setF_ne _ _ _ _ (by decide)
  rw [evalHolds_eq]
  split
  · exact regBit_congr hshow i
  · have hone : BitVec.getLsbD (1 : Word) i = false := by simp [h]
    rw [Device.regBit, reg_raise, reg_bump_ne _ _ (by decide), hshow, bit, BitVec.getLsbD_or, hone, Bool.or_false]
    rfl

/-! ### A sample -/

/-- A die sensor at or above `x` °C. -/
def Device.dieAt (d : Device) (x : Nat) : Bool := d.dieTemps.any (fun t => decide (x ≤ t))

theorem dieAt_iff {d : Device} {tj : Word} (h : d.reg Reg.pwrTj = tj) (x : Nat) :
    d.dieAt x = true ↔ ∃ k < 8, x ≤ fld tj (8 * k) 8 := by
  simp [Device.dieAt, Device.dieTemps, Device.regF, h]

/-- The alerts that a sample raises beside TJMAX: VIN_RANGE, IIN_HIGH, CAP, REFCLK and HBM_TEMP. -/
def Device.inputAlerts (d : Device) : Device :=
  let d := ((d.alert 2 d.vinRange).alert 3 d.iinHigh).alert 4 d.capReached
  (d.alert 5 (!d.belfry.refclk)).alert 6 (d.stackTemps.any (fun t => decide (95 ≤ t)))

theorem raisedOnly_inputAlerts (d : Device) : RaisedOnly [Reg.pwrAlert] d d.inputAlerts :=
  (((raisedOnly_alert ..).trans (raisedOnly_alert ..)).trans (raisedOnly_alert ..)).trans
    ((raisedOnly_alert ..).trans (raisedOnly_alert ..))

theorem regBit_inputAlerts (d : Device) : d.inputAlerts.regBit Reg.pwrAlert 1 = d.regBit Reg.pwrAlert 1 := by
  unfold Device.inputAlerts
  extract_lets e
  rw [regBit_alert_ne _ _ (by decide), regBit_alert_ne _ _ (by decide), regBit_alert_ne _ _ (by decide),
    regBit_alert_ne _ _ (by decide), regBit_alert_ne _ _ (by decide)]

/-- Alert TJMAX and its count, by the die sensors. -/
def Device.tjmaxAlert (d : Device) : Device := if d.dieAt 105 then (d.bump Reg.pwrTjmaxCnt 1).alert 1 true else d

/-- The device after a sample, before a thermal trip turns it off. -/
def Device.sampled (d : Device) (vin iin : BitVec 16) (tj : Word) : Device :=
  (d.enterSample vin iin tj).tjmaxAlert.inputAlerts.evalHolds

theorem sample_eq {d : Device} (vin iin : BitVec 16) (tj : Word) (cv : BitVec 8) (h : d.belfryRuns = true) :
    d.sample vin iin tj cv =
      if (d.sampled vin iin tj).dieAt 115 || decide (125 ≤ cv.toNat) then (d.sampled vin iin tj).powerOff true true
      else d.sampled vin iin tj :=
  if_neg (by rw [h]; decide)

/-- The registers that hold a sample. -/
def sampleRegs : List Nat := [Reg.pwrInput, Reg.pwrTj, Reg.pwrEnergy]

/-- The entry of a sample: three registers, and the histories of the input. -/
theorem enterSample_eq (d : Device) (vin iin : BitVec 16) (tj : Word) : ∃ g : Belfry → Belfry,
    d.enterSample vin iin tj = (((d.setReg Reg.pwrInput (mkWord [(32, vin.toNat * iin.toNat / 1000 % 65536),
      (16, iin.toNat), (0, vin.toNat)])).setReg Reg.pwrTj tj).bump Reg.pwrEnergy (vin.toNat * iin.toNat / 1000)).mapBelfry g ∧
    ∀ b, g b = { b with power := (g b).power, iin := (g b).iin } := by
  unfold Device.enterSample
  exact ⟨_, rfl, fun _ => rfl⟩

/-- What the entry of a sample leaves. -/
theorem enterSample_effect (d : Device) (vin iin : BitVec 16) (tj : Word) {e : Device} (he : e = d.enterSample vin iin tj) :
    e.reg Reg.pwrTj = tj ∧
    e.reg Reg.pwrInput = mkWord [(32, vin.toNat * iin.toNat / 1000 % 65536), (16, iin.toNat), (0, vin.toNat)] ∧
    e.reg Reg.pwrEnergy = d.reg Reg.pwrEnergy + BitVec.ofNat 64 (vin.toNat * iin.toNat / 1000) ∧
    SameRegs sampleRegs d e ∧
    e = { d with regs := e.regs, belfry := e.belfry } ∧
    e.belfry = { d.belfry with power := e.belfry.power, iin := e.belfry.iin } := by
  obtain ⟨g, heq, hg⟩ := enterSample_eq d vin iin tj
  rw [heq] at he
  generalize vin.toNat * iin.toNat / 1000 = p at he ⊢
  subst he
  refine ⟨?_, ?_, ?_, fun a ha => ?_, mapBelfry_only .., hg d.belfry⟩
  · rw [reg_mapBelfry, reg_bump_ne _ _ (by decide), reg_setReg]
  · rw [reg_mapBelfry, reg_bump_ne _ _ (by decide), reg_setReg_ne _ _ (by decide), reg_setReg]
  · rw [reg_mapBelfry, reg_bump, reg_setReg_ne _ _ (by decide), reg_setReg_ne _ _ (by decide)]
  · simp only [sampleRegs, List.mem_cons, List.not_mem_nil, or_false, not_or] at ha
    obtain ⟨hi, ht, hn⟩ := ha
    rw [reg_mapBelfry, reg_bump_ne _ _ hn, reg_setReg_ne _ _ ht, reg_setReg_ne _ _ hi]

/-- The registers that the alerts and holds of a sample may change. -/
def alertRegs : List Nat := [Reg.pwrTjmaxCnt, Reg.pwrAlert, Reg.pwrStatus, Reg.pwrHoldCnt]

theorem raisedOnly_tjmaxAlert (d : Device) : RaisedOnly alertRegs d d.tjmaxAlert := by
  unfold Device.tjmaxAlert
  split
  · refine RaisedOnly.trans (d' := d.bump Reg.pwrTjmaxCnt 1) ⟨rfl, fun a ha => reg_bump_ne _ _ ?_⟩
      ((raisedOnly_alert ..).mono (by simp [alertRegs]))
    exact List.ne_of_not_mem_cons ha
  · exact ⟨rfl, fun _ _ => rfl⟩

theorem power_tjmaxAlert (d : Device) : d.tjmaxAlert.power = d.power := by
  unfold Device.tjmaxAlert
  split
  · refine power_congr ?_
    rw [Device.alert, if_pos rfl, reg_raise_ne _ _ (by decide), reg_bump_ne _ _ (by decide)]
  · rfl

/-- What follows the entry of a sample: alert TJMAX with its count by the die sensors, and the holds. -/
theorem sampled_effect (d : Device) (vin iin : BitVec 16) (tj : Word) {e f : Device} (he : e = d.enterSample vin iin tj)
    (hf : f = d.sampled vin iin tj) :
    RaisedOnly alertRegs e f ∧ f.power = e.power ∧
    (e.dieAt 105 = true → f.reg Reg.pwrTjmaxCnt = e.reg Reg.pwrTjmaxCnt + 1 ∧ f.regBit Reg.pwrAlert 1 = true) ∧
    (e.dieAt 105 = false → f.reg Reg.pwrTjmaxCnt = e.reg Reg.pwrTjmaxCnt ∧
      f.regBit Reg.pwrAlert 1 = e.regBit Reg.pwrAlert 1) ∧
    (e.regBit Reg.pwrStatus 8 = false → f.regBit Reg.pwrStatus 8 = e.dieAt 100) := by
  obtain ⟨h, hh⟩ : ∃ h, h = e.tjmaxAlert := ⟨_, rfl⟩
  obtain ⟨a, ha⟩ : ∃ a, a = h.inputAlerts := ⟨_, rfl⟩
  have hf : f = a.evalHolds := by rw [hf, Device.sampled, ← he, ← hh, ← ha]
  have htj : RaisedOnly alertRegs e h := hh ▸ raisedOnly_tjmaxAlert e
  have hin : RaisedOnly [Reg.pwrAlert] h a := ha ▸ raisedOnly_inputAlerts h
  have hev := raisedOnly_evalHolds a
  rw [← hf] at hev
  have hall : RaisedOnly alertRegs e f := (htj.trans (hin.mono (by simp [alertRegs]))).trans (hev.mono (by simp [alertRegs]))
  have hcount : f.reg Reg.pwrTjmaxCnt = h.reg Reg.pwrTjmaxCnt := (hev.2 _ (by decide)).trans (hin.2 _ (by decide))
  have hbit : f.regBit Reg.pwrAlert 1 = h.regBit Reg.pwrAlert 1 := by
    rw [hf, regBit_evalHolds_alert_ne _ (by decide), ha, regBit_inputAlerts]
  refine ⟨hall, ?_, fun hhot => ?_, fun hcool => ?_, fun hwas => ?_⟩
  · rw [hf, power_evalHolds, power_congr (hin.2 _ (by decide)), hh, power_tjmaxAlert]
  · have hh' : h = (e.bump Reg.pwrTjmaxCnt 1).alert 1 true := hh.trans (if_pos hhot)
    rw [hcount, hbit, hh', regBit_alert _ (by decide)]
    exact ⟨((raisedOnly_alert _ 1 true).2 _ (by decide)).trans (reg_bump ..), rfl⟩
  · have hh' : h = e := hh.trans (if_neg (by rw [hcool]; decide))
    rw [hcount, hbit, hh']
    exact ⟨rfl, rfl⟩
  · have hstatus : a.reg Reg.pwrStatus = e.reg Reg.pwrStatus := by
      rw [hin.2 _ (by decide), hh]
      unfold Device.tjmaxAlert
      split
      · rw [(raisedOnly_alert _ 1 true).2 _ (by decide), reg_bump_ne _ _ (by decide)]
      · rfl
    have htemp : a.reg Reg.pwrTj = e.reg Reg.pwrTj := (hin.2 _ (by decide)).trans (htj.2 _ (by decide))
    have hwas' : a.regBit Reg.pwrStatus 8 = false := (regBit_congr hstatus 8).trans hwas
    rw [hf]
    refine (regBit_evalHolds a 0).trans ?_
    have hdie : a.dieAt 100 = e.dieAt 100 := by
      simp only [Device.dieAt, Device.dieTemps, Device.regF, htemp]
    rw [← hdie]
    exact if_neg (fun h : a.regBit Reg.pwrStatus 8 = true => Bool.noConfusion (hwas'.symm.trans h))

theorem sampled_dieAt (d : Device) (vin iin : BitVec 16) (tj : Word) (x : Nat) :
    (d.sampled vin iin tj).dieAt x = true ↔ ∃ k < 8, x ≤ fld tj (8 * k) 8 := by
  obtain ⟨htj, -⟩ := enterSample_effect d vin iin tj rfl
  obtain ⟨hraised, -⟩ := sampled_effect d vin iin tj rfl rfl
  exact dieAt_iff ((hraised.2 _ (by decide)).trans htj) x

section
variable {d : Device} {vin iin : BitVec 16} {tj : Word} {cv : BitVec 8} (hrun : d.belfryRuns = true)
include hrun

/-- Below the trip, operation goes on. -/
theorem sample_of_cool (hdie : ∀ k < 8, fld tj (8 * k) 8 < 115) (hcv : cv.toNat < 125) :
    d.sample vin iin tj cv = d.sampled vin iin tj := by
  rw [sample_eq _ _ _ _ hrun]
  refine if_neg ?_
  rw [Bool.or_eq_true, sampled_dieAt, decide_eq_true_eq]
  rintro (⟨k, hk, h⟩ | h)
  · exact absurd (hdie k hk) (by omega)
  · omega

/-- A thermal trip turns the module off, and holds it there. -/
theorem sample_of_trip (h : (∃ k < 8, 115 ≤ fld tj (8 * k) 8) ∨ 125 ≤ cv.toNat) :
    d.sample vin iin tj cv = (d.sampled vin iin tj).powerOff true true := by
  rw [sample_eq _ _ _ _ hrun]
  refine if_pos ?_
  rw [Bool.or_eq_true, sampled_dieAt, decide_eq_true_eq]
  exact h

end

/-- What a sample leaves of the rest of the device. -/
theorem sampled_rest (d : Device) (vin iin : BitVec 16) (tj : Word) {f : Device} (hf : f = d.sampled vin iin tj) :
    f.alive = d.alive ∧ f.power = d.power ∧ f.lantern = d.lantern ∧ f.dome = d.dome ∧ SameMemory d f := by
  obtain ⟨e, he⟩ : ∃ e, e = d.enterSample vin iin tj := ⟨_, rfl⟩
  obtain ⟨-, -, -, hregs, hframe, hbelfry⟩ := enterSample_effect d vin iin tj he
  obtain ⟨⟨hf', -⟩, hpower, -⟩ := sampled_effect d vin iin tj he hf
  have hbf : f.belfry = e.belfry := by rw [hf']
  refine ⟨?_, hpower.trans (power_congr (hregs _ (by decide))), ?_, ?_, ?_⟩
  · rw [Device.alive, hbf, hbelfry, Device.alive]
  all_goals
    rw [hf', hframe]
  · exact ⟨rfl, rfl, rfl, rfl⟩

/-- Settles O52: a sample below the trip only raises alerts, one at the trip turns the module off, and only the removal of the
input ends the trip. -/
theorem thermalTripTurnsTheModuleOff : Obligations.ThermalTripTurnsTheModuleOff := by
  intro s vin iin tj cv
  refine ⟨fun hrun => ⟨fun hdie hcv => ?cool, fun h => ?trip⟩, fun htrip hoff => ⟨?power, fun c => ?turn⟩⟩
  case cool =>
    refine completes_tookAlways (f := (·.sample vin iin tj cv)) rfl ?_
    rw [sample_of_cool hrun hdie hcv]
    obtain ⟨htj, -, -, hregs, -⟩ := enterSample_effect s.dev vin iin tj rfl
    obtain ⟨-, -, hhot, hcool, -⟩ := sampled_effect s.dev vin iin tj rfl rfl
    have hcount := hregs Reg.pwrTjmaxCnt (by decide)
    have halert := regBit_congr (hregs Reg.pwrAlert (by decide)) 1
    refine ⟨fun h => ?_, fun h => ?_, sampled_rest s.dev vin iin tj rfl⟩
    · obtain ⟨hc, hb⟩ := hhot ((dieAt_iff htj 105).2 h)
      exact ⟨hc.trans (by rw [hcount]), hb⟩
    · have hno : ¬ (s.dev.enterSample vin iin tj).dieAt 105 = true := by
        rw [dieAt_iff htj]
        rintro ⟨k, hk, hle⟩
        exact absurd (h k hk) (by omega)
      obtain ⟨hc, hb⟩ := hcool (Bool.eq_false_iff.2 hno)
      exact ⟨hc.trans hcount, hb.trans halert⟩
  case trip =>
    refine completes_tookAlways (f := (·.sample vin iin tj cv)) rfl ?_
    rw [sample_of_trip hrun h]
    exact ⟨rfl, rfl, rfl, rfl⟩
  case power =>
    refine completes_tookAlways (f := Device.vinRises) rfl (if_neg ?_)
    rw [htrip]
    exact fun h => Bool.noConfusion h.2
  case turn =>
    refine completes_tookAlways (f := (·.turnOff c)) rfl ⟨rfl, ?_⟩
    show (s.dev.belfry.thermTrip && decide (c ≠ .removed)) = _
    rw [htrip, Bool.true_and]

end Sys2Proof.Machine
end
section
/-! PROOFS. The supply, the reset of the module and the reference clock (R453, R455 - R458, R462, R465, R482). -/

namespace Sys2Proof.Machine

open Sys2Proof

/-! ### Supply and reset -/

/-- The module comes up: host interface and idle timer start, and the links begin. -/
theorem comeUp_effect (d : Device) :
    d.comeUp.belfry = { d.belfry with idleFrom := some d.now } ∧
    d.comeUp.hif.readyFrom = (if d.belfry.perstN then some d.now else none) ∧ d.comeUp.lantern = d.lantern ∧
    SameMemory d d.comeUp := by
  obtain ⟨x, hx⟩ : ∃ x, x = ({ d with hif := { d.hif with readyFrom := if d.belfry.perstN then some d.now else none } } :
      Device).mapBelfry (fun b => { b with idleFrom := some d.now }) := ⟨_, rfl⟩
  have heq : d.comeUp = x.startLinks := by rw [hx]; rfl
  have h := linksOnly_startLinks x
  obtain ⟨-, -, -, -, hbelfry, hlantern⟩ := h.parts
  have hhif : x.startLinks.hif = x.hif := by rw [h.1]
  rw [heq]
  refine ⟨hbelfry.trans (by rw [hx]; rfl), by rw [hhif, hx]; rfl, hlantern.trans (by rw [hx]; rfl), ?_⟩
  exact SameMemory.trans (by rw [hx]; exact ⟨rfl, rfl, rfl, rfl⟩) h.sameMemory

/-- Registers kept over a reset, and the others at their reset values. -/
theorem reg_filter (d : Device) (p : Nat → Bool) (a : Nat) :
    ({ d with regs := d.regs.filter (fun e => p e.1) } : Device).reg a = if p a then d.reg a else regReset a := by
  unfold Device.reg
  rw [mapFind_filter]
  split <;> rfl

theorem reg_showRefclk_ne (d : Device) {a : Nat} (h : a ≠ Reg.pwrStatus) : d.showRefclk.reg a = d.reg a := by
  rw [Device.showRefclk, Device.setPwrBit, reg_setF_ne _ _ _ _ h, Device.setPwrBit, reg_setF_ne _ _ _ _ h]

/-- The registers that MRST_N leaves as they were, and those that it resets (R457, R467). -/
theorem reg_moduleReset (d : Device) {a : Nat} (h : a ≠ Reg.pwrStatus) :
    d.moduleReset.reg a = if keptAtReset a then d.reg a else regReset a := by
  unfold Device.moduleReset
  extract_lets e
  rw [reg_showRefclk_ne _ h]
  exact reg_filter d keptAtReset a

theorem pwrStatus_not_kept : keptAtReset Reg.pwrStatus = false := by decide

/-- What MRST_N ends, and what it leaves. -/
theorem moduleReset_effect (d : Device) :
    d.moduleReset.alive = false ∧ d.moduleReset.lantern = Lantern.initial ∧ d.moduleReset.queues = [] ∧
    d.moduleReset.cfgMem = [] ∧ d.moduleReset.tile = Store.initial ∧ d.moduleReset.load = none ∧ d.moduleReset.net.txns = [] ∧
    (d.hbm.pcs = [] → d.moduleReset.hbm.mem = d.hbm.mem) ∧ d.moduleReset.keep.fuses = d.keep.fuses := by
  refine ⟨Bool.and_false _, rfl, rfl, rfl, rfl, rfl, rfl, fun h => ?_, rfl⟩
  have hmem : d.moduleReset.hbm.mem = d.drainWrites.hbm.mem := rfl
  rw [hmem, Device.drainWrites, h]
  rfl

/-- MRST_N is not seen while the pins follow the TAP. -/
theorem pinEvent_open {d : Device} (f : Device → Device) (h : d.pinsTaken = false) : d.pinEvent f = f d :=
  if_neg (by rw [h]; decide)

theorem pinEvent_taken {d : Device} (f : Device → Device) (h : d.pinsTaken = true) : d.pinEvent f = d := if_pos h

theorem mrstLow_of_up {d : Device} (h : d.belfry.rail = .up) : d.mrstLow = d.moduleReset :=
  if_neg (by rw [h]; decide)

theorem mrstHigh_of_up {d : Device} (h : d.belfry.rail = .up) (hr : d.belfry.inReset = true) :
    d.mrstHigh = ((d.mapBelfry (fun b => { b with inReset := false })).mapBelfry
      (fun b => { b with gcyc := 0, counting := true })).comeUp := by
  unfold Device.mrstHigh
  rw [if_neg (by rw [hr]; decide)]
  exact if_pos h

theorem mrstHigh_of_high {d : Device} (h : d.belfry.inReset = false) : d.mrstHigh = d := if_pos h

theorem mrstHigh_effect {d : Device} (h : d.belfry.rail = .up) (hr : d.belfry.inReset = true) :
    d.mrstHigh.alive = true ∧ d.mrstHigh.now = 0 ∧ d.mrstHigh.belfry.counting = true ∧ d.mrstHigh.lantern = d.lantern ∧
    SameMemory d d.mrstHigh := by
  rw [mrstHigh_of_up h hr]
  obtain ⟨e, he⟩ : ∃ e, e = (d.mapBelfry (fun b => { b with inReset := false })).mapBelfry
      (fun b => { b with gcyc := 0, counting := true }) := ⟨_, rfl⟩
  obtain ⟨hb, -, hl, hm⟩ := comeUp_effect e
  rw [← he]
  refine ⟨?_, ?_, ?_, hl.trans (by rw [he]; rfl), SameMemory.trans (by rw [he]; exact ⟨rfl, rfl, rfl, rfl⟩) hm⟩
  · rw [Device.alive, hb, he]
    show (d.belfry.rail == .up && true) = true
    rw [h]
    rfl
  · rw [Device.now, hb, he]
    rfl
  · rw [hb, he]
    rfl

/-! ### The reference clock -/

theorem refclkRuns {d : Device} (b : Bool) (h : d.belfryRuns = true) :
    (d.mapBelfry (fun x => { x with refclk := b })).belfryRuns = true := h

/-- PWR_STATUS shows whether the reference clock is lost. -/
theorem showRefclk_effect (d : Device) :
    d.showRefclk.regBit Reg.pwrStatus 15 = !d.belfry.refclk ∧ d.showRefclk.regBit Reg.pwrStatus 14 = !d.belfry.refclk ∧
    OnlyRegs [Reg.pwrStatus] d d.showRefclk := by
  have hb : ∀ b : Bool, (b2n b).testBit 0 = b := by decide
  refine ⟨?_, ?_, ((OnlyRegs.refl d _).setF (by simp) ..).setF (by simp) ..⟩
  · rw [Device.showRefclk, Device.setPwrBit, regBit_setF, if_neg (by decide), Device.setPwrBit,
      regBit_setF_one _ _ _ (by decide), hb]
  · rw [Device.showRefclk, Device.setPwrBit, regBit_setF_one _ _ _ (by decide), hb]

theorem refclkLoss_eq {d : Device} (hrun : d.belfryRuns = true) (h : d.belfry.refclk = true) :
    d.refclkLoss = ((d.mapBelfry (fun b => { b with refclk := false })).showRefclk.bump Reg.pwrRefclkLostCnt 1).raise
      Reg.pwrAlert 0x20 := by
  unfold Device.refclkLoss
  rw [if_neg (by rw [h]; decide)]
  exact if_pos (refclkRuns false hrun)

theorem refclkLoss_effect {d : Device} (hrun : d.belfryRuns = true) (h : d.belfry.refclk = true) {e : Device}
    (he : e = d.refclkLoss) :
    e.reg Reg.pwrRefclkLostCnt = d.reg Reg.pwrRefclkLostCnt + 1 ∧ e.regBit Reg.pwrAlert 5 = true ∧
    e.regBit Reg.pwrStatus 15 = true ∧ e.regBit Reg.pwrStatus 14 = true ∧ e.belfry = { d.belfry with refclk := false } ∧
    OnlyRegs [Reg.pwrRefclkLostCnt, Reg.pwrAlert, Reg.pwrStatus] { d with belfry := e.belfry, justSet := e.justSet } e := by
  obtain ⟨x, hx⟩ : ∃ x, x = d.mapBelfry (fun b => { b with refclk := false }) := ⟨_, rfl⟩
  rw [refclkLoss_eq hrun h, ← hx] at he
  obtain ⟨h15, h14, -, hregs⟩ := showRefclk_effect x
  have hst : e.reg Reg.pwrStatus = x.showRefclk.reg Reg.pwrStatus := by
    rw [he, reg_raise_ne _ _ (by decide), reg_bump_ne _ _ (by decide)]
  have hlost : (!x.belfry.refclk) = true := by rw [hx]; rfl
  refine ⟨?_, ?_, ?_, ?_, by rw [he, hx]; rfl, by rw [he, hx]; rfl, fun a ha => ?_⟩
  · rw [he, reg_raise_ne _ _ (by decide), reg_bump, hregs _ (by decide), hx]
    rfl
  · rw [he, Device.regBit, reg_raise, bit, BitVec.getLsbD_or]
    exact Bool.or_true _
  · rw [regBit_congr hst, h15, hlost]
  · rw [regBit_congr hst, h14, hlost]
  · simp only [List.mem_cons, List.not_mem_nil, or_false, not_or] at ha
    obtain ⟨hc, hal, hs⟩ := ha
    rw [he, reg_raise_ne _ _ hal, reg_bump_ne _ _ hc, hregs a (by simpa using hs), hx]
    rfl

theorem refclkReturn_effect {d : Device} (hrun : d.belfryRuns = true) {e : Device} (he : e = d.refclkReturn) :
    e.regBit Reg.pwrStatus 15 = false ∧ e.regBit Reg.pwrStatus 14 = false ∧
    e.belfry = { d.belfry with refclk := true } ∧ OnlyRegs [Reg.pwrStatus] { d with belfry := e.belfry } e := by
  have heq : d.refclkReturn = (d.mapBelfry (fun b => { b with refclk := true })).showRefclk := if_pos (refclkRuns true hrun)
  rw [heq] at he
  obtain ⟨h15, h14, hf⟩ := showRefclk_effect (d.mapBelfry (fun b => { b with refclk := true }))
  rw [← he] at h15 h14 hf
  refine ⟨h15, h14, by rw [he]; rfl, by rw [he]; rfl, hf.2⟩

/-! ### The hold of PWR_CTL -/

theorem swHold_effect (d : Device) (h : Bool) {e : Device} (he : e = d.swHold h) :
    e.regBit Reg.pwrCtl 29 = h ∧ e.regBit Reg.pwrStatus 12 = h ∧
    (h = true → d.regBit Reg.pwrStatus 12 = false → e.regBit Reg.pwrAlert 0 = true) ∧
    OnlyRegs [Reg.pwrCtl, Reg.pwrStatus, Reg.pwrAlert, Reg.pwrHoldCnt] { d with justSet := e.justSet } e := by
  obtain ⟨x, hx⟩ : ∃ x, x = d.setF Reg.pwrCtl 29 1 (b2n h) := ⟨_, rfl⟩
  have he : e = x.evalHolds := by rw [he, hx]; rfl
  obtain ⟨hframe, hregs⟩ := raisedOnly_evalHolds x
  rw [← he] at hframe hregs
  have hctl : x.regBit Reg.pwrCtl 29 = h := by
    rw [hx, regBit_setF_one _ _ _ (by decide)]
    cases h <;> rfl
  refine ⟨(regBit_congr (hregs _ (by decide)) 29).trans hctl, ?_, fun hon hwas => ?_, ?_, fun a ha => ?_⟩
  · rw [he]
    exact (regBit_evalHolds x 4).trans hctl
  · have hx12 : x.regBit Reg.pwrStatus 12 = false := by rw [hx, regBit_setF_other _ _ _ _ _ (by decide), hwas]
    have hnew : x.newHolds ≠ 0 := by
      refine List.ne_nil_iff_length_pos.1 (List.ne_nil_of_mem (a := 4) (List.mem_filter.2 ⟨by decide, ?_⟩)) |>.ne'
      rw [show x.holds.getD 4 false = true from hctl.trans hon, hx12]
      rfl
    rw [he, evalHolds_eq, if_neg hnew, Device.regBit, reg_raise, bit, BitVec.getLsbD_or]
    exact Bool.or_true _
  · rw [hframe, hx]
    rfl
  · simp only [List.mem_cons, List.not_mem_nil, or_false, not_or] at ha
    obtain ⟨hc, hs, hal, hh⟩ := ha
    rw [hregs a (by simp [hs, hal, hh]), hx, reg_setF_ne _ _ _ _ hc]
    rfl

/-! ### Telemetry -/

theorem input_fields (vin iin p : Nat) (hv : vin < 65536) (hi : iin < 65536) :
    fld (mkWord [(32, p % 65536), (16, iin), (0, vin)]) 0 16 = vin ∧
    fld (mkWord [(32, p % 65536), (16, iin), (0, vin)]) 16 16 = iin ∧
    fld (mkWord [(32, p % 65536), (16, iin), (0, vin)]) 32 16 = p % 65536 := by
  simp only [fld_mkWord, List.foldl_cons, List.foldl_nil]
  omega

theorem sample_cool_effect {d : Device} {vin iin : BitVec 16} {tj : Word} {cv : BitVec 8} (hrun : d.belfryRuns = true)
    (hdie : ∀ k < 8, fld tj (8 * k) 8 < 115) (hcv : cv.toNat < 125) {f : Device} (hf : f = d.sample vin iin tj cv) :
    f.reg Reg.pwrTj = tj ∧ f.regF Reg.pwrInput 0 16 = vin.toNat ∧ f.regF Reg.pwrInput 16 16 = iin.toNat ∧
    f.regF Reg.pwrInput 32 16 = vin.toNat * iin.toNat / 1000 % 65536 ∧
    f.reg Reg.pwrEnergy = d.reg Reg.pwrEnergy + BitVec.ofNat 64 (vin.toNat * iin.toNat / 1000) ∧
    ((∃ k < 8, 105 ≤ fld tj (8 * k) 8) →
      f.reg Reg.pwrTjmaxCnt = d.reg Reg.pwrTjmaxCnt + 1 ∧ f.regBit Reg.pwrAlert 1 = true) ∧
    (d.regBit Reg.pwrStatus 8 = false → (f.regBit Reg.pwrStatus 8 = true ↔ ∃ k < 8, 100 ≤ fld tj (8 * k) 8)) ∧
    SameMemory d f ∧ f.lantern = d.lantern := by
  rw [sample_of_cool hrun hdie hcv] at hf
  obtain ⟨e, he⟩ : ∃ e, e = d.enterSample vin iin tj := ⟨_, rfl⟩
  obtain ⟨htj, hin, hen, hregs, -⟩ := enterSample_effect d vin iin tj he
  obtain ⟨⟨-, hraised⟩, -, hhot, -, hhold⟩ := sampled_effect d vin iin tj he hf
  obtain ⟨-, -, hlantern, -, hmem⟩ := sampled_rest d vin iin tj hf
  obtain ⟨h0, h16, h32⟩ := input_fields vin.toNat iin.toNat (vin.toNat * iin.toNat / 1000) vin.isLt iin.isLt
  have hinput : f.reg Reg.pwrInput = _ := (hraised _ (by decide)).trans hin
  refine ⟨(hraised _ (by decide)).trans htj, ?_, ?_, ?_, (hraised _ (by decide)).trans hen, fun h => ?_, fun hwas => ?_,
    hmem, hlantern⟩
  · rw [Device.regF, hinput, h0]
  · rw [Device.regF, hinput, h16]
  · rw [Device.regF, hinput, h32]
  · obtain ⟨hc, hb⟩ := hhot ((dieAt_iff htj 105).2 h)
    rw [hregs _ (by decide)] at hc
    exact ⟨hc, hb⟩
  · rw [hhold ((regBit_congr (hregs _ (by decide)) 8).trans hwas), dieAt_iff htj]

/-- Settles O40: supply, reset, reference clock, telemetry and hold, each by the command that it is about. -/
theorem supplyResetAndTelemetry : Obligations.SupplyResetAndTelemetry := by
  intro s
  refine ⟨fun hoff htrip => ?power, fun hoff htrip => ?held, fun cm pu v hr hc => ?standby, fun hr hc hm => ?lock,
    fun hr hc => ?up, fun c => ?off, fun hr hp => ?low, fun hr hp hm => ?high, fun hm => ?idle, fun hp c hc => ?taken,
    fun hrun => ⟨fun hc => ?loss, ?back, fun vin iin tj cv => ⟨fun hdie hcv => ?cool, fun h => ?trip⟩⟩, fun ha h => ?hold⟩
  case power =>
    refine completes_tookAlways (f := Device.vinRises) rfl ?_
    rw [Device.vinRises, if_pos ⟨hoff, htrip⟩]
    exact ⟨rfl, rfl, rfl, rfl, rfl, rfl, rfl⟩
  case held =>
    refine completes_tookAlways (f := Device.vinRises) rfl (if_neg ?_)
    rw [htrip]
    exact fun h => Bool.noConfusion h.2
  case standby => exact completes_tookAlways (f := (·.standbyGood cm pu v)) rfl (if_pos ⟨hr, hc⟩)
  case lock => exact completes_tookAlways (f := Device.pllLock) rfl (if_pos ⟨hr, hc, hm⟩)
  case up =>
    refine completes_tookAlways (f := Device.pwrgd) rfl ?_
    rw [Device.pwrgd, if_pos ⟨hr, hc⟩]
    obtain ⟨hb, hh, hl, hmem⟩ := comeUp_effect (s.dev.mapBelfry (fun b => { b with rail := .up }))
    exact ⟨by rw [hb]; rfl, by rw [hb]; rfl, hh, hl, hmem⟩
  case off => exact completes_tookAlways (f := (·.turnOff c)) rfl ⟨rfl, rfl, rfl, rfl, rfl, rfl, rfl, rfl, rfl, rfl⟩
  case low =>
    refine completes_tookAlways (f := (·.pinEvent Device.mrstLow)) rfl ?_
    rw [pinEvent_open _ hp, mrstLow_of_up hr]
    obtain ⟨h1, h2, h3, h4, h5, h6, h7, h8, h9⟩ := moduleReset_effect s.dev
    refine ⟨h1, h2, h3, h4, h5, h6, h7, h8, h9, fun a hk => ?_, fun a hk hne => ?_⟩
    · have hne : a ≠ Reg.pwrStatus := fun h => by rw [h, pwrStatus_not_kept] at hk; exact Bool.noConfusion hk
      rw [reg_moduleReset _ hne, if_pos hk]
    · rw [reg_moduleReset _ hne, if_neg (by rw [hk]; decide)]
  case high =>
    refine completes_tookAlways (f := (·.pinEvent Device.mrstHigh)) rfl ?_
    rw [pinEvent_open _ hp]
    exact mrstHigh_effect hr hm
  case idle =>
    refine completes_tookAlways (f := (·.pinEvent Device.mrstHigh)) rfl ?_
    unfold Device.pinEvent
    rw [mrstHigh_of_high hm, ite_self]
  case taken =>
    simp only [List.mem_cons, List.not_mem_nil, or_false] at hc
    rcases hc with rfl | rfl | rfl
    · exact completes_tookAlways (f := (·.pinEvent Device.mrstLow)) rfl (pinEvent_taken _ hp)
    · exact completes_tookAlways (f := (·.pinEvent Device.mrstHigh)) rfl (pinEvent_taken _ hp)
    · refine ⟨s.dev, ?_, rfl⟩
      show took s (·.pinEvent (·.requestWake false)) = _
      rw [took, tookAlways, pinEvent_taken _ hp, ite_self]
  case loss => exact completes_tookAlways (f := Device.refclkLoss) rfl (refclkLoss_effect hrun hc rfl)
  case back => exact completes_tookAlways (f := Device.refclkReturn) rfl (refclkReturn_effect hrun rfl)
  case cool => exact completes_tookAlways (f := (·.sample vin iin tj cv)) rfl (sample_cool_effect hrun hdie hcv rfl)
  case trip =>
    refine completes_tookAlways (f := (·.sample vin iin tj cv)) rfl ?_
    rw [sample_of_trip hrun h]
    exact ⟨rfl, rfl, rfl, rfl⟩
  case hold => exact completes_took (f := (·.swHold h)) rfl ha (swHold_effect s.dev h rfl)

end Sys2Proof.Machine
end
section
/-! PROOFS. Ring reads and the records that they bring (R370 - R372, R374). -/

namespace Sys2Proof.Machine

open Sys2Proof

/-! ### What the host interface does to itself -/

/-- Besides registers at the offsets `as`, only the host interface's own state, the note of bits just set and what is sent out
may differ. -/
def HifOnly (as : List Nat) (d d' : Device) : Prop :=
  d' = { d with regs := d'.regs, justSet := d'.justSet, hif := d'.hif, out := d'.out } ∧ SameRegs as d d'

namespace HifOnly
variable {as bs : List Nat} {d d' d'' : Device}

theorem refl (as : List Nat) (d : Device) : HifOnly as d d := ⟨rfl, fun _ _ => rfl⟩

theorem trans (h : HifOnly as d d') (h' : HifOnly as d' d'') : HifOnly as d d'' := by
  obtain ⟨he, hr⟩ := h
  obtain ⟨he', hr'⟩ := h'
  exact ⟨by rw [he', he], fun a ha => (hr' a ha).trans (hr a ha)⟩

theorem mono (h : HifOnly as d d') (hs : ∀ a ∈ as, a ∈ bs) : HifOnly bs d d' := ⟨h.1, fun a ha => h.2 a fun hx => ha (hs a hx)⟩

theorem of_onlyRegs (h : OnlyRegs as d d') : HifOnly as d d' := ⟨by rw [h.1], h.2⟩

theorem lantern_eq (h : HifOnly as d d') : d'.lantern = d.lantern := by rw [h.1]

theorem queues_eq (h : HifOnly as d d') : d'.queues = d.queues := by rw [h.1]

theorem belfry_eq (h : HifOnly as d d') : d'.belfry = d.belfry := by rw [h.1]

theorem sameMemory (h : HifOnly as d d') : SameMemory d d' := by
  rw [h.1]
  exact ⟨rfl, rfl, rfl, rfl⟩

end HifOnly

theorem hifOnly_mapHif (as : List Nat) (d : Device) (f : Hif → Hif) : HifOnly as d (d.mapHif f) := ⟨rfl, fun _ _ => rfl⟩

theorem hifOnly_linkUse (as : List Nat) (d : Device) : HifOnly as d d.linkUse := hifOnly_mapHif as d _

theorem hifOnly_raise (d : Device) (a : Nat) (m : Word) : HifOnly [a] d (d.raise a m) :=
  ⟨rfl, fun _ hb => reg_raise_ne d m (by simpa using hb)⟩

theorem hifOnly_aerLog (as : List Nat) (d : Device) (f b s : Nat) : HifOnly as d (d.aerLog f b s) := ⟨rfl, fun _ _ => rfl⟩

theorem hifOnly_poisonedTlp (d : Device) (f : Nat) : HifOnly [Reg.hifPoisRxCnt] d (d.poisonedTlp f) :=
  (HifOnly.of_onlyRegs (onlyRegs_bump d _ 1)).trans ⟨rfl, fun _ _ => rfl⟩

theorem hifOnly_logRead (d : Device) (f : Nat) (e : ReadResult) : HifOnly [Reg.hifPoisRxCnt] d (d.logRead f e) := by
  cases e with
  | ok _ => exact .refl _ d
  | timeout => exact hifOnly_aerLog ..
  | unsuccessful => exact hifOnly_aerLog ..
  | poisoned => exact hifOnly_poisonedTlp ..

theorem logRead_fetches (d : Device) (f : Nat) (e : ReadResult) : (d.logRead f e).hif.fetches = d.hif.fetches := by
  cases e <;> rfl

theorem hifOnly_settleInvals (as : List Nat) (d : Device) : HifOnly as d d.settleInvals := by
  refine ⟨?_, fun a _ => ?_⟩
  · conv_lhs => rw [settleInvals_only]
    rw [settleInvals_only]
  · rw [settleInvals_only]
    rfl

theorem settleInvals_fetches (d : Device) : d.settleInvals.hif.fetches = d.hif.fetches := by rw [settleInvals_only]

/-! ### A ring read that fails (R371) -/

theorem hifOnly_fetchError (d : Device) (r : Nat) : HifOnly [Reg.hifRingStatus r] d (d.fetchError r) :=
  (hifOnly_raise d _ _).trans (hifOnly_mapHif _ _ _)

theorem regBit_fetchError (d : Device) (r : Nat) : (d.fetchError r).regBit (Reg.hifRingStatus r) 63 = true := by
  unfold Device.fetchError
  rw [Device.regBit, reg_mapHif, reg_raise, bit, BitVec.getLsbD_or]
  exact Bool.or_true _

theorem hifPoisRxCnt_ne_ring (r : Nat) : Reg.hifRingPtr r ≠ Reg.hifPoisRxCnt ∧ Reg.hifRingStatus r ≠ Reg.hifPoisRxCnt := by
  unfold Reg.hifRingPtr Reg.hifRingStatus Reg.hifPoisRxCnt
  omega

theorem ringHead_congr {d d' : Device} {r : Nat} (h : d'.reg (Reg.hifRingPtr r) = d.reg (Reg.hifRingPtr r)) :
    ringHead d' r = ringHead d r := by rw [ringHead, Device.regF, h, ringHead, Device.regF]

theorem ringTail_congr {d d' : Device} {r : Nat} (h : d'.reg (Reg.hifRingPtr r) = d.reg (Reg.hifRingPtr r)) :
    ringTail d' r = ringTail d r := by rw [ringTail, Device.regF, h, ringTail, Device.regF]

/-- The failure of a read of ring `r`, once a read of it is in flight. -/
theorem ringData_failed {d : Device} {r : Nat} (hin : ∃ f ∈ d.hif.fetches, f.ring = r) {e : ReadResult}
    (he : ∀ bs, e ≠ .ok bs) : d.ringData r e = (d.logRead (ringFunc d r) e).fetchError r := by
  obtain ⟨f, hf, hr⟩ := hin
  have hsome : (d.hif.fetches.find? (fun f => f.ring == r)).isSome := List.find?_isSome.2 ⟨f, hf, by simp [hr]⟩
  obtain ⟨g, hg⟩ := Option.isSome_iff_exists.1 hsome
  unfold Device.ringData
  rw [hg]
  cases e with
  | ok bs => exact absurd rfl (he bs)
  | timeout => rfl
  | unsuccessful => rfl
  | poisoned => rfl

/-- What a completion of a ring read does: link use, data, and the invalidations that waited for it. -/
def Device.ringCompletes (d : Device) (r : Nat) (e : ReadResult) : Device := (d.linkUse.ringData r e).settleInvals

theorem ringReadCompletion_completes {s : State} (r : Fin 256) (e : ReadResult) {P : Device → Prop} (ha : s.dev.alive = true)
    (hp : P (s.dev.ringCompletes r e)) : Completes (.ringReadCompletion r e) s P :=
  completes_took (f := fun d => (d.linkUse.ringData r e).settleInvals) rfl ha hp

theorem ringCompletes_failed {d : Device} {r : Nat} (hin : ∃ f ∈ d.hif.fetches, f.ring = r) {e : ReadResult}
    (he : ∀ bs, e ≠ .ok bs) {d' : Device} (hd : d' = d.ringCompletes r e) :
    d'.regBit (Reg.hifRingStatus r) 63 = true ∧ ringHead d' r = ringHead d r ∧ d'.lantern = d.lantern ∧
    (∀ g ∈ d'.hif.fetches, g.ring ≠ r) ∧ SameMemory d d' := by
  obtain ⟨x, hx⟩ : ∃ x, x = (d.linkUse.logRead (ringFunc d.linkUse r) e).fetchError r := ⟨_, rfl⟩
  have hd : d' = x.settleInvals := by
    rw [hd, Device.ringCompletes, ringData_failed (d := d.linkUse) hin he, ← hx]
  have hfail : HifOnly [Reg.hifPoisRxCnt, Reg.hifRingStatus r] d x := by
    rw [hx]
    exact (hifOnly_linkUse _ d).trans (((hifOnly_logRead ..).mono (by simp)).trans ((hifOnly_fetchError ..).mono (by simp)))
  have hset : HifOnly [] x d' := hd ▸ hifOnly_settleInvals [] x
  have hall := hfail.trans (hset.mono (by simp))
  have hptr := hall.2 (Reg.hifRingPtr r) (by simp [hifPoisRxCnt_ne_ring, hifRingPtr_ne_hifRingStatus])
  refine ⟨?_, ringHead_congr hptr, hall.lantern_eq, fun g hg => ?_, hall.sameMemory⟩
  · rw [regBit_congr (hset.2 _ List.not_mem_nil), hx, regBit_fetchError]
  · rw [hd, settleInvals_fetches, hx] at hg
    simpa using (List.mem_filter.1 hg).2

/-! ### A ring read is sent (R370) -/

/-- The rings in the turn that the next ring read takes. -/
def Device.ringTurn (d : Device) : List Nat := (List.range 256).map (fun i => (d.hif.nextRing + i) % 256)

/-- Ring `r` may be read: it acts as enabled, has pending entries and no failed read. -/
def Device.ringAsks (d : Device) (r : Nat) : Bool :=
  d.ringLive r && !d.regBit (Reg.hifRingStatus r) 63 && decide (0 < d.ringPending r)

/-- The first entry and the number of entries that a read of ring `r` asks for. -/
def Device.fetchOf (d : Device) (r : Nat) : RingFetch :=
  let first := (ringHead d r + d.inFlight r) % 4096
  { ring := r, first := first, count := min (min 8 (d.ringPending r)) (min (4096 - first) (16384 - d.stored)) }

/-- The device with a read of ring `r` in flight. -/
def Device.fetching (d : Device) (r : Nat) : Device :=
  d.mapHif (fun h => { h with nextRing := (r + 1) % 256, fetches := h.fetches ++ [d.fetchOf r] })

/-- The read that asks the host for the entries of `f`. -/
def Device.askEntries (d : Device) (r : Nat) (f : RingFetch) : Device × Bool :=
  d.hostRead (ringFunc d r) (d.pasid r) (d.regF (Reg.hifRingBase r) 12 50 * 4096 + 64 * f.first) (64 * f.count) (.ring r)

theorem ringRead_eq (d : Device) :
    d.ringRead = if 16 ≤ d.hif.fetches.length ∨ 16384 ≤ d.stored then d
      else (d.ringTurn.find? d.ringAsks).elim d (fun r =>
        if ((d.fetching r).askEntries r (d.fetchOf r)).2 then ((d.fetching r).askEntries r (d.fetchOf r)).1
        else ((d.fetching r).askEntries r (d.fetchOf r)).1.fetchError r) := by
  unfold Device.ringRead
  split
  · rfl
  · show (match d.ringTurn.find? d.ringAsks with
      | none => d
      | some r => _) = _
    cases d.ringTurn.find? d.ringAsks <;> rfl

theorem hostRead_fetches (d : Device) (f : Nat) (p : Option Nat) (a n : Nat) (w : HostReadFor) :
    (d.hostRead f p a n w).1.hif.fetches = d.hif.fetches := by
  unfold Device.hostRead
  split
  · rfl
  split
  · split <;> rfl
  · rfl

/-- A read in flight that a ring read adds is of the ring that it chose. -/
theorem mem_fetches_ringRead {d : Device} {r : Nat} (herr : d.regBit (Reg.hifRingStatus r) 63 = true) {g : RingFetch}
    (hg : g ∈ d.ringRead.hif.fetches) (hr : g.ring = r) : g ∈ d.hif.fetches := by
  rw [ringRead_eq] at hg
  split at hg
  · exact hg
  cases hfind : d.ringTurn.find? d.ringAsks with
  | none =>
    rw [hfind] at hg
    exact hg
  | some k =>
    rw [hfind] at hg
    have hasks : d.ringAsks k = true := List.find?_some hfind
    have hk : k ≠ r := by
      rintro rfl
      simp [Device.ringAsks, herr] at hasks
    have hsub : g ∈ ((d.fetching k).askEntries k (d.fetchOf k)).1.hif.fetches := by
      change g ∈ (if _ then _ else _ : Device).hif.fetches at hg
      split at hg
      · exact hg
      · exact (List.mem_filter.1 hg).1
    rw [Device.askEntries, hostRead_fetches] at hsub
    rcases List.mem_append.1 hsub with h | h
    · exact h
    · obtain rfl := List.mem_singleton.1 h
      exact absurd hr hk

section
variable {d : Device} {r : Nat} (hr : r < 256) (hlen : d.hif.fetches.length < 16) (hstored : d.stored < 16384)
  (hnext : d.hif.nextRing = r) (hask : d.ringAsks r = true) (hissue : d.canIssue (ringFunc d r) = true)
  (hats : d.usesAts (ringFunc d r) = false)

include hr hnext hask in
/-- The ring whose turn it is is read, when it asks. -/
theorem ringTurn_find : d.ringTurn.find? d.ringAsks = some r := by
  obtain ⟨tl, htl⟩ : ∃ tl, d.ringTurn = r :: tl := by
    rw [Device.ringTurn, List.range_succ_eq_map, List.map_cons, hnext, Nat.add_zero, Nat.mod_eq_of_lt hr]
    exact ⟨_, rfl⟩
  rw [htl, List.find?_cons_of_pos hask]

include hissue hats in
theorem askEntries_sent (f : RingFetch) : (d.fetching r).askEntries r f =
    ((d.fetching r).emit (.hostRead (ringFunc d r) (d.pasid r) (d.regF (Reg.hifRingBase r) 12 50 * 4096 + 64 * f.first)
      (64 * f.count)), true) := by
  have hissue' : (d.fetching r).canIssue (ringFunc (d.fetching r) r) = true := hissue
  have hats' : (d.fetching r).usesAts (ringFunc (d.fetching r) r) = false := hats
  rw [Device.askEntries, Device.hostRead, Device.hostOk, hissue', hats']
  rfl

include hr hlen hstored hnext hask hissue hats in
theorem ringRead_sent : d.ringRead = (d.fetching r).emit (.hostRead (ringFunc d r) (d.pasid r)
    (d.regF (Reg.hifRingBase r) 12 50 * 4096 + 64 * (d.fetchOf r).first) (64 * (d.fetchOf r).count)) := by
  rw [ringRead_eq, if_neg (by omega), ringTurn_find hr hnext hask, Option.elim_some, askEntries_sent hissue hats]
  rfl

include hstored hask in
/-- A read asks for at least one entry, at most 8 and no more than are pending, and does not run over the end of the ring. -/
theorem fetchOf_bounds : 1 ≤ (d.fetchOf r).count ∧ (d.fetchOf r).count ≤ 8 ∧ (d.fetchOf r).count ≤ d.ringPending r ∧
    (d.fetchOf r).first + (d.fetchOf r).count ≤ 4096 := by
  have hp : 0 < d.ringPending r := by
    simp only [Device.ringAsks, Bool.and_eq_true, decide_eq_true_eq] at hask
    exact hask.2
  have hf : (d.fetchOf r).first < 4096 := Nat.mod_lt _ (by decide)
  have hc : (d.fetchOf r).count =
      min (min 8 (d.ringPending r)) (min (4096 - (d.fetchOf r).first) (16384 - d.stored)) := rfl
  omega

end

theorem ringRead_completes {s : State} {P : Device → Prop} (ha : s.dev.alive = true) (hp : P s.dev.linkUse.ringRead) :
    Completes .ringRead s P :=
  completes_took (f := fun d => d.linkUse.ringRead) rfl ha hp

theorem ringAsks_of {d : Device} {r : Nat} (hlive : d.ringLive r = true) (herr : d.regBit (Reg.hifRingStatus r) 63 = false)
    (hp : 0 < d.ringPending r) : d.ringAsks r = true := by
  simp [Device.ringAsks, hlive, herr, hp]

/-- With nothing in flight the read begins at HEAD. -/
theorem fetchOf_first_of_idle {d : Device} {r : Nat} (h : d.inFlight r = 0) : (d.fetchOf r).first = ringHead d r := by
  have hlt : ringHead d r < 4096 := fld_lt _ 0 12
  show (ringHead d r + d.inFlight r) % 4096 = _
  rw [h, Nat.add_zero, Nat.mod_eq_of_lt hlt]

/-- Settles O51: the failed read sets FETCH_ERR and is no longer in flight; the ring in error is not chosen; once FETCH_ERR is
clear, the read that follows begins at HEAD. -/
theorem failedRingReadHoldsTheRing : Obligations.FailedRingReadHoldsTheRing := by
  intro s r ha
  refine ⟨fun e he hin => ?failed, fun herr => ?held, ?clear,
    fun herr hlive hnext hidle hp hlen hstored hissue hats => ?again⟩
  case failed => exact ringReadCompletion_completes r e ha (ringCompletes_failed hin he rfl)
  case held => exact ringRead_completes ha fun g hg hr => mem_fetches_ringRead (d := s.dev.linkUse) herr hg hr
  case clear =>
    obtain ⟨d, hexec, hbit, hregs⟩ := fetchErrClear_completes r ha
    have hptr := hregs.2 (Reg.hifRingPtr r) (by simp [hifRingPtr_ne_hifRingStatus])
    exact ⟨d, hexec, hbit, ringHead_congr hptr, ringTail_congr hptr, hregs⟩
  case again =>
    have hask : s.dev.linkUse.ringAsks r = true := ringAsks_of (d := s.dev.linkUse) hlive herr hp
    refine ringRead_completes ha ?_
    rw [ringRead_sent (d := s.dev.linkUse) r.isLt hlen hstored hnext hask hissue hats]
    refine ⟨(s.dev.linkUse.fetchOf r).count, (fetchOf_bounds (d := s.dev.linkUse) hstored hask).1, ?_⟩
    show s.dev.hif.fetches ++ [s.dev.linkUse.fetchOf r] = _
    have hfirst : (s.dev.linkUse.fetchOf r).first = ringHead s.dev r := fetchOf_first_of_idle (d := s.dev.linkUse) hidle
    rw [← hfirst]
    rfl

end Sys2Proof.Machine
end

section
/-! PROOFS. The records that a ring read brings (R370, R372, R374). -/

namespace Sys2Proof.Machine

open Sys2Proof

/-! ### A record is taken or refused -/

/-- The queued task that a record makes. -/
def Device.taskOf (d : Device) (r : Nat) (q : List Word) : Task :=
  { id := d.lantern.nextId, ring := r, words := q, accepted := d.now, state := .queued, since := d.now, consumed := [],
    remote := false }

/-- The device with a record accepted behind the head of its context, before the head is looked at. -/
def Device.queued (d : Device) (r : Nat) (q : List Word) : Device :=
  let ctx := fld (wd q 0) 0 16
  ({ d.bump Reg.hifRrAcceptCnt 1 with
      lantern := { d.lantern with tasks := d.lantern.tasks ++ [d.taskOf r q], nextId := d.lantern.nextId + 1 } }.setF
    (Reg.ctxW0 ctx) 20 4 5).refreshPend ctx

/-- A head that is not QUEUED stays. -/
theorem settleHead_of_busy {d : Device} {n : Nat} {h : Task} (hh : (d.ctxTasks n).head? = some h) (hq : h.state ≠ .queued)
    (g : Nat) : d.settleHead n g = d := by
  obtain ⟨tl, htl⟩ := List.head?_eq_some_iff.1 hh
  unfold Device.settleHead
  rw [htl]
  split
  · rfl
  · exact if_pos hq

theorem accept_behind {d : Device} {r : Nat} {q : List Word} {h : Task} (hctx : fld (wd q 0) 0 16 ≤ 49151)
    (hpush : bit (wd q 0) 37 = false) (hh : (d.ctxTasks (fld (wd q 0) 0 16)).head? = some h) (hq : h.state ≠ .queued) :
    d.accept r q = d.queued r q := by
  have hlantern : (d.queued r q).lantern.tasks = d.lantern.tasks ++ [d.taskOf r q] := by
    have := (onlyRegs_refreshPend ({ d.bump Reg.hifRrAcceptCnt 1 with
      lantern := { d.lantern with tasks := d.lantern.tasks ++ [d.taskOf r q], nextId := d.lantern.nextId + 1 } }.setF
      (Reg.ctxW0 (fld (wd q 0) 0 16)) 20 4 5) (fld (wd q 0) 0 16)).lantern_eq
    exact congrArg Lantern.tasks this
  have hhead : ((d.queued r q).ctxTasks (fld (wd q 0) 0 16)).head? = some h := by
    rw [Device.ctxTasks, hlantern, List.filter_append, List.head?_append]
    exact (congrArg (Option.or · _) hh).trans rfl
  unfold Device.accept
  extract_lets ctx t d1 l d2 d3 qn x d4 d5
  have h3 : d3 = d.queued r q := rfl
  have h5 : d5 = d.queued r q := (if_neg (by rw [hpush]; decide)).trans h3
  rw [if_neg (not_lt.2 hctx), h5]
  refine (if_neg (lt_irrefl _)).trans (settleHead_of_busy hhead hq _)

/-! ### A record that a ring read brings (R370, R372, R374) -/

/-- The device with the one read in flight of ring `r` done and HEAD past its entry. -/
def Device.pastEntry (d : Device) (r : Nat) : Device :=
  (d.linkUse.mapHif (fun h => { h with fetches := [] })).setF (Reg.hifRingPtr r) 0 12 ((ringHead d r + 1) % 4096)

theorem hifOnly_pastEntry (d : Device) (r : Nat) : HifOnly [Reg.hifRingPtr r] d (d.pastEntry r) :=
  (hifOnly_linkUse _ d).trans ((hifOnly_mapHif _ _ _).trans (.of_onlyRegs (onlyRegs_setF _ _ _ _ _)))

theorem ringHead_pastEntry (d : Device) (r : Nat) : ringHead (d.pastEntry r) r = (ringHead d r + 1) % 4096 := by
  rw [ringHead, Device.pastEntry, regF_setF _ _ _ (by decide)]
  exact Nat.mod_mod _ 4096

theorem ringRegs_ne_ctxW0 (r : Fin 256) (n : Nat) :
    Reg.ctxW0 n ∉ [Reg.hifRingPtr r] ∧ Reg.hifRingCtl r ∉ [Reg.hifRingPtr r] ∧
    Reg.hifRingStatus r ≠ Reg.hifRingPtr r ∧ Reg.hifRrRejectCnt ≠ Reg.hifRingPtr r := by
  have := r.isLt
  simp only [List.mem_singleton, Reg.ctxW0, Reg.hifRingPtr, Reg.hifRingCtl, Reg.hifRingStatus, Reg.hifRrRejectCnt]
  omega

theorem recordCause_pastEntry (d : Device) (r : Fin 256) (q : List Word) :
    (d.pastEntry r).recordCause r q = d.recordCause r q := by
  have h := hifOnly_pastEntry d r
  have hctx (n : Nat) : (d.pastEntry r).ctx n 0 = d.ctx n 0 := h.2 _ (ringRegs_ne_ctxW0 r n).1
  have hring : ringFunc (d.pastEntry r) r = ringFunc d r := by
    rw [ringFunc, Device.regF, h.2 _ (ringRegs_ne_ctxW0 r 0).2.1, ringFunc, Device.regF]
  have hqueue (n : Nat) : (d.pastEntry r).queueFunc n = d.queueFunc n := by
    rw [Device.queueFunc, Device.queue, h.queues_eq, Device.queueFunc, Device.queue]
  unfold Device.recordCause Device.ctxFunc Device.ctxQueue
  dsimp only
  rw [hring, hctx, hqueue]

theorem ringCompletes_one {d : Device} {r : Nat} {f : RingFetch} (hf : d.hif.fetches = [f]) (hr : f.ring = r)
    (hc : f.count = 1) (bs : List Byte) : d.ringCompletes r (.ok bs) =
      (match (d.pastEntry r).recordCause r ((List.range 8).map (wordAt bs)) with
        | some c => (d.pastEntry r).reject r (ringHead d r) c
        | none => (d.pastEntry r).accept r ((List.range 8).map (wordAt bs))).settleInvals := by
  have hfind : d.linkUse.hif.fetches.find? (fun f => f.ring == r) = some f := by
    show d.hif.fetches.find? _ = _
    rw [hf, List.find?_cons_of_pos (by simp [hr])]
  have hrest : d.linkUse.mapHif (fun h => { h with fetches := (takeFirst (fun f => f.ring == r) h.fetches).2 }) =
      d.linkUse.mapHif (fun h => { h with fetches := [] }) := by
    show ({ d.linkUse with hif := { d.linkUse.hif with fetches := (takeFirst _ d.hif.fetches).2 } } : Device) = _
    rw [hf, takeFirst, if_pos (by simp [hr])]
    rfl
  unfold Device.ringCompletes Device.ringData
  rw [hfind]
  dsimp only
  rw [hrest, hc]
  rfl

/-! ### An accepted record -/

theorem ctxW1_ne_ring (r : Fin 256) (n : Nat) : Reg.hifRingPtr r ∉ [Reg.hifRrAcceptCnt, Reg.ctxW0 n, Reg.ctxW1 n] ∧
    Reg.hifRrAcceptCnt ≠ Reg.hifRingPtr r ∧ Reg.ctxW0 n ≠ Reg.hifRrAcceptCnt ∧ Reg.ctxW1 n ≠ Reg.hifRrAcceptCnt ∧
    Reg.ctxW0 n ≠ Reg.ctxW1 n := by
  have := r.isLt
  simp only [List.mem_cons, List.not_mem_nil, or_false, Reg.ctxW0, Reg.ctxW1, Reg.hifRingPtr, Reg.hifRrAcceptCnt]
  omega

theorem queued_effect (d : Device) (r : Fin 256) (q : List Word) {n : Nat} (hn : n = fld (wd q 0) 0 16) {e : Device}
    (he : e = d.queued r q) :
    e.lantern = { d.lantern with tasks := d.lantern.tasks ++ [d.taskOf r q], nextId := d.lantern.nextId + 1 } ∧
    e.hif = d.hif ∧ e.queues = d.queues ∧ SameMemory d e ∧ fld (e.ctx n 0) 20 4 = 5 ∧
    e.reg Reg.hifRrAcceptCnt = d.reg Reg.hifRrAcceptCnt + 1 ∧ ringHead e r = ringHead d r := by
  obtain ⟨x, hx⟩ : ∃ x, x = { d.bump Reg.hifRrAcceptCnt 1 with
    lantern := { d.lantern with tasks := d.lantern.tasks ++ [d.taskOf r q], nextId := d.lantern.nextId + 1 } } := ⟨_, rfl⟩
  obtain ⟨y, hy⟩ : ∃ y, y = x.setF (Reg.ctxW0 n) 20 4 5 := ⟨_, rfl⟩
  have hxr (a : Nat) : x.reg a = (d.bump Reg.hifRrAcceptCnt 1).reg a := by rw [hx]; rfl
  have hset : OnlyRegs [Reg.ctxW0 n] x y := hy ▸ onlyRegs_setF x _ _ _ _
  have hpend : OnlyRegs [Reg.ctxW1 n] y e := by
    have := onlyRegs_refreshPend y n
    rwa [show y.refreshPend n = e from by rw [he, hy, hx, hn]; rfl] at this
  obtain ⟨hptr, -, h0, h1, h01⟩ := ctxW1_ne_ring r n
  simp only [List.mem_cons, List.not_mem_nil, or_false, not_or] at hptr
  have hreg {a : Nat} (ha0 : a ≠ Reg.ctxW0 n) (ha1 : a ≠ Reg.ctxW1 n) : e.reg a = (d.bump Reg.hifRrAcceptCnt 1).reg a := by
    rw [hpend.2 a (by simpa using ha1), hset.2 a (by simpa using ha0), hxr]
  refine ⟨?_, ?_, ?_, ?_, ?_, ?_, ?_⟩
  · rw [hpend.1, hset.1, hx]
  · rw [hpend.1, hset.1, hx]
    rfl
  · rw [hpend.1, hset.1, hx]
    rfl
  · rw [hpend.1, hset.1, hx]
    exact ⟨rfl, rfl, rfl, rfl⟩
  · rw [ctx_zero, hpend.2 _ (by simpa using h01), hy]
    exact regF_setF x _ 5 (by decide)
  · rw [hreg h0.symm h1.symm, reg_bump]
    rfl
  · exact ringHead_congr ((hreg hptr.2.1 hptr.2.2).trans (reg_bump_ne d 1 hptr.1))

/-! ### A rejected record -/

/-- The registers that show the rejected records of a ring. -/
def rejectRegs (r : Nat) : List Nat := [Reg.hifRrRejectCnt, Reg.hifRingStatus r]

theorem onlyRegs_reject (d : Device) (r idx c : Nat) : HifOnly (rejectRegs r) d (d.reject r idx c) := by
  have hb : HifOnly (rejectRegs r) d (d.bump Reg.hifRrRejectCnt 1) :=
    (HifOnly.of_onlyRegs (onlyRegs_bump d _ 1)).mono (by simp [rejectRegs])
  unfold Device.reject
  dsimp only
  split
  · exact hb
  · exact hb.trans ((HifOnly.of_onlyRegs (onlyRegs_setFs _ _ _)).mono (by simp [rejectRegs]) |>.trans
      ((hifOnly_raise _ _ _).mono (by simp [rejectRegs])))

theorem raise_hif (d : Device) (a : Nat) (m : Word) : (d.raise a m).hif = d.hif := rfl

theorem reject_hif (d : Device) (r idx c : Nat) : (d.reject r idx c).hif = d.hif := by
  unfold Device.reject
  dsimp only
  split
  · rfl
  · rw [raise_hif, setFs_hif, bump_hif]

/-- Bits set in a word do not move a field that holds none of them. -/
theorem fld_or_of_disjoint (v : Word) {m : Word} {lo w : Nat} (h : ∀ j < w, bit m (lo + j) = false) :
    fld (v ||| m) lo w = fld v lo w :=
  fld_congr fun j hj => by
    have := h j hj
    unfold bit at this ⊢
    rw [BitVec.getLsbD_or, this, Bool.or_false]

/-- A bit that stands alone in its word. -/
theorem bit_top62 (i : Nat) : bit (0x4000000000000000 : Word) i = decide (i = 62) := by
  rw [show (0x4000000000000000 : Word) = BitVec.twoPow 64 62 from by decide, bit, BitVec.getLsbD_twoPow]
  by_cases h : i = 62
  · simp [h]
  · simp [h, Ne.symm h]

theorem hifRrRejectCnt_ne (r : Fin 256) :
    Reg.hifRrRejectCnt ≠ Reg.hifRingStatus r ∧ Reg.hifRingPtr r ≠ Reg.hifRrRejectCnt := by
  have := r.isLt
  simp only [Reg.hifRingStatus, Reg.hifRingPtr, Reg.hifRrRejectCnt]
  omega

theorem reg_reject_cnt (d : Device) (r : Fin 256) (idx c : Nat) :
    (d.reject r idx c).reg Reg.hifRrRejectCnt = d.reg Reg.hifRrRejectCnt + 1 := by
  have hb : (d.bump Reg.hifRrRejectCnt 1).reg Reg.hifRrRejectCnt = d.reg Reg.hifRrRejectCnt + 1 := reg_bump d _ 1
  have hne := (hifRrRejectCnt_ne r).1
  unfold Device.reject
  dsimp only
  split
  · exact hb
  · rw [reg_raise_ne _ _ hne, reg_setFs_ne _ _ hne, hb]

theorem reject_first (d : Device) (r : Fin 256) {idx c : Nat} (hi : idx < 4096) (hc : c < 16)
    (h : d.regBit (Reg.hifRingStatus r) 62 = false) {e : Device} (he : e = d.reject r idx c) :
    e.regBit (Reg.hifRingStatus r) 62 = true ∧ e.regF (Reg.hifRingStatus r) 32 12 = idx ∧
    e.regF (Reg.hifRingStatus r) 0 4 = c := by
  obtain ⟨x, hx⟩ : ∃ x, x = (d.bump Reg.hifRrRejectCnt 1).setFs (Reg.hifRingStatus r) [(32, 12, idx), (0, 4, c)] := ⟨_, rfl⟩
  have hbit : (d.bump Reg.hifRrRejectCnt 1).regBit (Reg.hifRingStatus r) 62 = false := by
    rw [regBit_congr (reg_bump_ne d 1 (hifRrRejectCnt_ne r).1.symm), h]
  have hreg : e.reg (Reg.hifRingStatus r) = x.reg (Reg.hifRingStatus r) ||| 0x4000000000000000 := by
    rw [he, Device.reject, if_neg (by rw [hbit]; decide), ← hx, reg_raise]
  have hfld {lo w : Nat} (hlo : lo + w ≤ 62) : e.regF (Reg.hifRingStatus r) lo w = x.regF (Reg.hifRingStatus r) lo w := by
    rw [Device.regF, hreg, fld_or_of_disjoint _ fun j hj => by rw [bit_top62]; exact decide_eq_false (by omega), Device.regF]
  refine ⟨?_, ?_, ?_⟩
  · rw [Device.regBit, hreg, bit, BitVec.getLsbD_or, ← bit, ← bit, bit_top62]
    exact Bool.or_true _
  · rw [hfld (by decide), hx]
    simp only [Device.setFs]
    rw [regF_setF_ne _ _ _ (by decide), regF_setF _ _ _ (by decide)]
    exact Nat.mod_eq_of_lt hi
  · rw [hfld (by decide), hx]
    simp only [Device.setFs]
    rw [regF_setF _ _ _ (by decide)]
    exact Nat.mod_eq_of_lt hc

theorem recordCause_lt {d : Device} {r : Nat} {q : List Word} {c : Nat} (h : d.recordCause r q = some c) : c < 16 := by
  unfold Device.recordCause at h
  extract_lets ctx len push at h
  split at h
  · obtain rfl := Option.some.inj h; decide
  split at h
  · obtain rfl := Option.some.inj h; decide
  split at h
  · obtain rfl := Option.some.inj h; decide
  split at h
  · obtain rfl := Option.some.inj h; decide
  split at h
  · obtain rfl := Option.some.inj h; decide
  · cases h

/-- Settles O2: what is asked for lies within the pending entries and the ring's end; a failure sets FETCH_ERR and leaves HEAD;
a record moves HEAD past its entry and is queued behind the context's head, or counted with its cause. -/
theorem ringReadsFetchAndDeliverRecords : Obligations.RingReadsFetchAndDeliverRecords := by
  refine ⟨fun s r ha => ⟨fun hlen hstored hnext hlive herr hp hissue hats => ?sent, fun f hf hfr e he => ?failed⟩,
    fun s r f bs q ha hf hr hc hq => ⟨fun h hcause hctx hpush hh hstate => ?accepted, fun c hcause => ?rejected⟩⟩
  case sent =>
    have hask : s.dev.linkUse.ringAsks r = true := ringAsks_of (d := s.dev.linkUse) hlive herr hp
    obtain ⟨hone, height, hpend, hend⟩ := fetchOf_bounds (d := s.dev.linkUse) hstored hask
    refine ringRead_completes ha ?_
    rw [ringRead_sent (d := s.dev.linkUse) r.isLt hlen hstored hnext hask hissue hats]
    exact ⟨_, _, hone, height, hpend, hend, rfl, rfl, rfl, rfl, rfl, rfl, rfl, rfl⟩
  case failed =>
    refine ringReadCompletion_completes r e ha ?_
    obtain ⟨hbit, hhead, hl, hfetches, -⟩ := ringCompletes_failed ⟨f, hf, hfr⟩ he rfl
    exact ⟨hbit, hhead, congrArg Lantern.tasks hl, hfetches⟩
  case accepted =>
    refine ringReadCompletion_completes r (.ok bs) ha ?_
    have hpast := hifOnly_pastEntry s.dev r
    have hhead : ((s.dev.pastEntry r).ctxTasks (fld (wd q 0) 0 16)).head? = some h := by
      rw [Device.ctxTasks, hpast.lantern_eq]
      exact hh
    rw [ringCompletes_one hf hr hc bs, ← hq, recordCause_pastEntry, hcause]
    dsimp only
    rw [accept_behind hctx hpush hhead hstate]
    obtain ⟨e, he⟩ : ∃ e, e = (s.dev.pastEntry r).queued r q := ⟨_, rfl⟩
    rw [← he]
    obtain ⟨hl, hhif, hqueues, hmem, hval, hcnt, hptr⟩ := queued_effect (s.dev.pastEntry r) r q rfl he
    have hset := hifOnly_settleInvals [] e
    rw [hpast.lantern_eq] at hl
    refine ⟨⟨(s.dev.pastEntry r).taskOf r q, ?_, rfl, rfl, rfl, rfl, ?_, ?_⟩, ?_, ?_, ?_, ?_, ?_, ?_, ?_⟩
    · rw [hset.lantern_eq, hl]
    · exact congrArg (fun b : Belfry => b.gcyc) hpast.belfry_eq
    · exact congrArg Lantern.nextId hpast.lantern_eq
    · rw [ringHead_congr (hset.2 _ List.not_mem_nil), hptr, ringHead_pastEntry]
    · rw [settleInvals_fetches, hhif]
      rfl
    · rw [ctx_zero, hset.2 _ List.not_mem_nil, ← ctx_zero, hval]
    · rw [hset.2 _ List.not_mem_nil, hcnt, hpast.2 _ (by simpa using (ctxW1_ne_ring r 0).2.1)]
    · rw [hset.lantern_eq, hl]
    · rw [hset.queues_eq, hqueues, hpast.queues_eq]
    · exact (hpast.sameMemory.trans hmem).trans hset.sameMemory
  case rejected =>
    refine ringReadCompletion_completes r (.ok bs) ha ?_
    have hpast := hifOnly_pastEntry s.dev r
    rw [ringCompletes_one hf hr hc bs, ← hq, recordCause_pastEntry, hcause]
    dsimp only
    obtain ⟨e, he⟩ : ∃ e, e = (s.dev.pastEntry r).reject r (ringHead s.dev r) c := ⟨_, rfl⟩
    rw [← he]
    have hrej : HifOnly (rejectRegs r) (s.dev.pastEntry r) e := he ▸ onlyRegs_reject ..
    have hset := hifOnly_settleInvals [] e
    obtain ⟨-, -, hstat, hrejcnt⟩ := ringRegs_ne_ctxW0 r 0
    have hall : HifOnly [Reg.hifRingPtr r, Reg.hifRrRejectCnt, Reg.hifRingStatus r] s.dev e.settleInvals :=
      (hpast.mono (by simp)).trans ((hrej.mono (by simp [rejectRegs])).trans (hset.mono (by simp)))
    refine ⟨hall.lantern_eq, ?_, ?_, ?_, fun h62 => ?_, hall.2, hall.queues_eq, hall.sameMemory⟩
    · rw [ringHead_congr (hset.2 _ List.not_mem_nil), ringHead_congr (hrej.2 _
        (by simp [rejectRegs, hifRingPtr_ne_hifRingStatus, hifRrRejectCnt_ne])), ringHead_pastEntry]
    · rw [settleInvals_fetches, he, reject_hif]
      rfl
    · rw [hset.2 _ List.not_mem_nil, he, reg_reject_cnt, hpast.2 _ (by simpa using hrejcnt)]
    · have hbefore : (s.dev.pastEntry r).regBit (Reg.hifRingStatus r) 62 = false := by
        rw [regBit_congr (hpast.2 _ (by simpa using hstat)), h62]
      obtain ⟨hbit, hidx, hcau⟩ := reject_first (s.dev.pastEntry r) r (fld_lt _ 0 12) (recordCause_lt hcause) hbefore he
      have hsame := hset.2 (Reg.hifRingStatus r) List.not_mem_nil
      exact ⟨(regBit_congr hsame _).trans hbit, (congrArg (fld · 32 12) hsame).trans hidx,
        (congrArg (fld · 0 4) hsame).trans hcau⟩

end Sys2Proof.Machine
end

section
/-! PROOFS. What is appended to a queue (R298 - R301), and the end of an input (R375). -/

namespace Sys2Proof.Machine

open Sys2Proof

/-! ### A queue that changes, and its gate (R301) -/

/-- The queue that becomes `y` in a gcyc with evaluations from `g` on: where that opens its gate, `g` is noted in it. -/
def Queue.gated (x y : Queue) (g : Nat) : Queue := if x.blocks && !y.blocks then { y with openFrom := g } else y

theorem gated_eq (x y : Queue) (g : Nat) : x.gated y g = { y with openFrom := (x.gated y g).openFrom } := by
  unfold Queue.gated
  split <;> rfl

theorem gateQueue_effect (d : Device) (q lag : Nat) (y : Queue) {e : Device} (he : e = d.gateQueue q lag y) :
    e.queue q = (d.queue q).gated y (d.now + lag) ∧ (∀ p, p ≠ q → e.queue p = d.queue p) ∧
    e = { d with queues := e.queues, lantern := { d.lantern with evals := e.lantern.evals } } := by
  subst he
  unfold Device.gateQueue Queue.gated
  split
  · exact ⟨queue_setQueue d q _, fun p hp => queue_setQueue_ne d _ hp, rfl⟩
  · exact ⟨queue_setQueue d q _, fun p hp => queue_setQueue_ne d _ hp, rfl⟩

/-- A queue whose gate does not open is only put in place. -/
theorem gateQueue_of_not_opens {d : Device} {q lag : Nat} {y : Queue} (h : (d.queue q).blocks = false ∨ y.blocks = true) :
    d.gateQueue q lag y = d.setQueue q y := by
  refine if_neg ?_
  rcases h with h | h <;> simp [h]

/-! ### What appending to a queue changes -/

/-- The registers that appending to a queue may change: the counters of the queue manager, and, for a cell of the spill area,
those of a wake. -/
def pushRegs : List Nat :=
  [Reg.qmgCellsInCnt, Reg.qmgCellsOutCnt, Reg.qmgTruncCnt, Reg.qmgDiscByteCnt, Reg.qmgNospaceCnt, Reg.pwrStatus, Reg.pwrWakeCnt]

/-- Besides queue `q`, the counters and the noted evaluations, what may differ is outside the memories, the tasks and the host
interface. -/
def PushOnly (q : Nat) (d d' : Device) : Prop :=
  OnlyQueue q d d' ∧ d'.lantern = { d.lantern with evals := d'.lantern.evals } ∧ d'.hif = d.hif ∧ SameRegs pushRegs d d'

namespace PushOnly
variable {q : Nat} {d d' d'' : Device}

theorem refl (q : Nat) (d : Device) : PushOnly q d d := ⟨.refl q d, rfl, rfl, fun _ _ => rfl⟩

theorem trans (h : PushOnly q d d') (h' : PushOnly q d' d'') : PushOnly q d d'' := by
  obtain ⟨hq, hl, hh, hr⟩ := h
  obtain ⟨hq', hl', hh', hr'⟩ := h'
  exact ⟨hq.trans hq', by rw [hl', hl], hh'.trans hh, fun a ha => (hr' a ha).trans (hr a ha)⟩

end PushOnly

theorem pushOnly_bump (d : Device) (q n : Nat) {a : Nat} (ha : a ∈ pushRegs) : PushOnly q d (d.bump a n) :=
  ⟨onlyQueue_bump d q a n, rfl, rfl, fun _ hb => reg_bump_ne d n fun h => hb (h ▸ ha)⟩

theorem pushOnly_setQueue (d : Device) (q : Nat) (x : Queue) : PushOnly q d (d.setQueue q x) :=
  ⟨onlyQueue_setQueue d q x, rfl, rfl, fun _ _ => rfl⟩

theorem pushOnly_noteEval (d : Device) (q : Nat) (p : Task → Bool) (g : Nat) : PushOnly q d (d.noteEval p g) :=
  ⟨onlyQueue_noteEval d q p g, rfl, rfl, fun _ _ => rfl⟩

theorem pushOnly_gateQueue (d : Device) (q lag : Nat) (x : Queue) : PushOnly q d (d.gateQueue q lag x) := by
  unfold Device.gateQueue
  split
  · exact (pushOnly_setQueue d q _).trans (pushOnly_noteEval _ q _ _)
  · exact pushOnly_setQueue d q x

theorem pushOnly_spillCell (d : Device) (q : Nat) (c : QCell) : PushOnly q d (d.spillCell c).2 := by
  unfold Device.spillCell
  split
  · exact .refl q d
  · obtain ⟨hl, hmem, hh, hqueues, -, -, -, -, -, hr⟩ := newTxn_rest d 5 .write _ 1 _ 0 _
    exact ⟨.of_queues hqueues hmem, by rw [hl], hh,
      fun a ha => hr a fun hx => ha (List.mem_append_right [_, _, _, _, _] hx)⟩

theorem pushOnly_linkCell (d : Device) (q : Nat) (c : QCell) : PushOnly q d (d.linkCell q c) := by
  have hin : PushOnly q d (d.bump Reg.qmgCellsInCnt 1) := pushOnly_bump d q 1 (by simp [pushRegs])
  unfold Device.linkCell
  dsimp only
  split
  · exact hin.trans ((pushOnly_setQueue _ q _).trans (pushOnly_bump _ q 1 (by simp [pushRegs])))
  · exact hin.trans ((pushOnly_spillCell _ q c).trans (pushOnly_gateQueue _ q 2 _))

theorem pushOnly_truncatePacket (d : Device) (q : Nat) : PushOnly q d (d.truncatePacket q) := by
  unfold Device.truncatePacket
  dsimp only
  split
  · exact .refl q d
  next a _ =>
    have hcount : PushOnly q d ((d.setQueue q { d.queue q with asm := none }).bump Reg.qmgTruncCnt 1) :=
      (pushOnly_setQueue d q _).trans (pushOnly_bump _ q 1 (by simp [pushRegs]))
    split
    · split
      · split
        · exact hcount.trans (pushOnly_setQueue _ q _)
        · exact hcount.trans (pushOnly_gateQueue _ q 2 _)
      · exact hcount
    · exact hcount.trans (pushOnly_linkCell _ q _)

theorem pushOnly_noSpace (d : Device) (q : Nat) : PushOnly q d (d.noSpace q) :=
  (pushOnly_truncatePacket d q).trans (pushOnly_bump _ q 1 (by simp [pushRegs]))

theorem pushOnly_pushLoop (d : Device) (q : Nat) (check : Option (BitVec 32)) (bad : Bool) (fuel : Nat) (bs : List Byte) :
    PushOnly q d (d.pushLoop q check bad fuel bs) := by
  induction fuel generalizing d bs with
  | zero => exact .refl q d
  | succ fuel ih =>
    unfold Device.pushLoop
    split
    · exact .refl q d
    split
    · exact pushOnly_bump d q _ (by simp [pushRegs])
    extract_lets opens
    split
    · exact (pushOnly_noSpace d q).trans (pushOnly_bump _ q _ (by simp [pushRegs]))
    split
    · exact (pushOnly_setQueue d q _).trans ((pushOnly_linkCell _ q _).trans (ih _ _))
    · exact (pushOnly_setQueue d q _).trans (ih _ _)

theorem pushOnly_pushBytes (d : Device) (q : Nat) (bs : List Byte) (poisoned : Bool) :
    PushOnly q d (d.pushBytes q bs poisoned) := pushOnly_pushLoop ..

theorem pushOnly_linkedLater (d : Device) (q : Nat) : PushOnly q d (d.linkedLater q) := by
  unfold Device.linkedLater
  dsimp only
  split
  · exact (pushOnly_setQueue d q _).trans (pushOnly_noteEval _ q _ _)
  · exact .refl q d

/-- An evaluation one gcyc later does not change what the queue holds. -/
theorem queue_linkedLater (d : Device) (q : Nat) : ∃ g, (d.linkedLater q).queue q = { d.queue q with openFrom := g } := by
  unfold Device.linkedLater
  dsimp only
  split
  · exact ⟨_, queue_setQueue d q _⟩
  · exact ⟨(d.queue q).openFrom, rfl⟩

theorem reg_linkedLater (d : Device) (q a : Nat) : (d.linkedLater q).reg a = d.reg a := by
  unfold Device.linkedLater
  dsimp only
  split <;> rfl

/-! ### One write that ends its packet in one cell (R298) -/

/-- The cell of a packet's last bytes `bs`, that come in one write. -/
def Assembly.lastCell (a : Assembly) (bs : List Byte) : QCell :=
  { data := bytesLine bs, check := lineCheck (bytesLine bs), vbytes := bs.length, sop := !a.linked, eop := true,
    trunc := false, pois := false, chkOk := true, init := a.init, length := a.length, spilled := none }

/-- The queue has room in the pool for one more cell, and links it. -/
def Device.hasRoom (d : Device) (q : Nat) : Prop :=
  (d.queue q).atLimit = false ∧ d.spills q = false ∧ 0 < d.poolFree ∧ (d.queue q).freeing = false

/-- The device with `c` linked at the tail of queue `q`, whose packet it ends. -/
def Device.linkLast (d : Device) (q : Nat) (c : QCell) : Device :=
  ((d.setQueue q { d.queue q with asm := none }).bump Reg.qmgCellsInCnt 1).gateQueue q 2
    { d.queue q with asm := none, cells := (d.queue q).cells ++ [c] }

theorem pushLoop_nil (d : Device) (q : Nat) (check : Option (BitVec 32)) (bad : Bool) (fuel : Nat) :
    d.pushLoop q check bad fuel [] = d := by cases fuel <;> rfl

theorem linkCell_last {d : Device} {q : Nat} (hfree : (d.queue q).freeing = false) {c : QCell} (hc : c.spilled = none) :
    (d.setQueue q { d.queue q with asm := none }).linkCell q c = d.linkLast q c := by
  have hq : (d.setQueue q { d.queue q with asm := none }).queue q = { d.queue q with asm := none } := queue_setQueue d q _
  unfold Device.linkCell
  rw [hq, if_neg (by simp [hfree]), Device.spillCell, hc]
  rfl

section
variable {d : Device} {q : Nat} {a : Assembly} {bs : List Byte} (hasm : (d.queue q).asm = some a) (hopen : a.opened = [])
  (hne : bs ≠ []) (hlen : bs.length ≤ 64) (hlast : a.length = a.got + bs.length) (hroom : d.hasRoom q)
include hasm hopen hne hlen hlast hroom

theorem pushBytes_last : d.pushBytes q bs false = d.linkLast q (a.lastCell bs) := by
  obtain ⟨hlimit, hspill, hpool, hfree⟩ := hroom
  have hspace : ((d.queue q).atLimit || (!d.spills q && d.poolFree == 0)) = false := by
    simp [hlimit, hspill]
    omega
  have hn : min (64 - a.opened.length) (a.length - a.got) = bs.length := by
    rw [hopen, hlast, List.length_nil]
    omega
  unfold Device.pushBytes Device.pushLoop
  rw [if_neg (by simpa using hne), hasm]
  dsimp only
  rw [hspace, Bool.and_false, if_neg Bool.false_ne_true, hn, List.take_length, List.drop_length, pushLoop_nil, hopen, hspill,
    List.nil_append]
  have hgot : a.got + bs.length = a.length := hlast.symm
  simp only [hgot, List.isEmpty_nil, if_true, or_true, Bool.or_self, Bool.false_eq_true, if_false, beq_self_eq_true]
  refine (linkCell_last hfree ?_).trans (congrArg (d.linkLast q) ?_)
  · rfl
  · simp [Assembly.close, Assembly.lastCell]

end

theorem linkLast_effect (d : Device) (q : Nat) (c : QCell) {e : Device} (he : e = d.linkLast q c) :
    e.queue q = (d.queue q).gated { d.queue q with asm := none, cells := (d.queue q).cells ++ [c] } (d.now + 2) ∧
    (∀ p, p ≠ q → e.queue p = d.queue p) ∧ e.reg Reg.qmgCellsInCnt = d.reg Reg.qmgCellsInCnt + 1 ∧
    SameRegs [Reg.qmgCellsInCnt] d e ∧ e.lantern = { d.lantern with evals := e.lantern.evals } ∧
    SameMemory d e ∧ e.out = d.out := by
  obtain ⟨x, hx⟩ : ∃ x, x = (d.setQueue q { d.queue q with asm := none }).bump Reg.qmgCellsInCnt 1 := ⟨_, rfl⟩
  have hxq : x.queue q = { d.queue q with asm := none } := by
    rw [hx]
    exact queue_setQueue d q _
  obtain ⟨hq, hp, hrest⟩ := gateQueue_effect x q 2 _ (he.trans (by rw [Device.linkLast, ← hx]))
  have hreg (b : Nat) : e.reg b = x.reg b := by rw [hrest]; rfl
  refine ⟨?_, fun p hne => ?_, ?_, fun b hb => ?_, ?_, ?_, ?_⟩
  · rw [hq, hxq, hx]
    rfl
  · rw [hp p hne, hx]
    exact queue_setQueue_ne d _ hne
  · rw [hreg, hx, reg_bump]
    rfl
  · rw [hreg, hx, reg_bump_ne _ _ (by simpa using hb)]
    rfl
  · rw [hrest, hx]
    rfl
  · rw [hrest, hx]
    exact ⟨rfl, rfl, rfl, rfl⟩
  · rw [hrest, hx]
    rfl

/-! ### An input ends (R375) -/

/-- The device without the inputs that are not yet read. -/
theorem nextInput_of_none {d : Device} (h : d.hif.inputs = []) (q fuel : Nat) : d.nextInput q fuel = d := by
  cases fuel with
  | zero => rfl
  | succ fuel => rw [Device.nextInput, h]; rfl

/-- What the read of an input brings: its bytes, or poison that is counted. -/
def Device.inputBytes (d : Device) (x : Input) : ReadResult → Device
  | .ok bs => d.pushBytes x.queue ((bs ++ List.replicate x.len 0).take x.len) false
  | r => ((d.logRead x.func r).bump Reg.hifInFailCnt 1).pushBytes x.queue (List.replicate x.len 0) true

/-- The device without its one input. -/
def Device.noInputs (d : Device) : Device := d.linkUse.mapHif (fun h => { h with inputs := [] })

theorem inputData_only {d : Device} {x : Input} (hin : d.hif.inputs = [x]) (hst : x.started = true) (e : ReadResult)
    (hhif : (d.noInputs.inputBytes x e).hif.inputs = []) :
    d.linkUse.inputData x.id e = (d.noInputs.inputBytes x e).linkedLater x.queue := by
  have hfind : d.linkUse.hif.inputs.find? (fun i => i.id == x.id && i.started) = some x := by
    show d.hif.inputs.find? _ = _
    rw [hin, List.find?_cons_of_pos (by simp [hst])]
  have hrest : d.linkUse.mapHif (fun h => { h with inputs := h.inputs.filter (fun i => i.id != x.id) }) = d.noInputs := by
    show ({ d.linkUse with hif := { d.linkUse.hif with inputs := d.hif.inputs.filter _ } } : Device) = _
    rw [hin, List.filter_cons_of_neg (by simp), List.filter_nil]
    rfl
  have hlater : ((d.noInputs.inputBytes x e).linkedLater x.queue).hif.inputs = [] :=
    (congrArg Hif.inputs (pushOnly_linkedLater _ x.queue).2.2.1).trans hhif
  unfold Device.inputData Device.finishInput
  rw [hfind]
  dsimp only
  rw [hrest]
  cases e with
  | ok bs => exact nextInput_of_none hlater _ _
  | timeout => exact nextInput_of_none hlater _ _
  | unsuccessful => exact nextInput_of_none hlater _ _
  | poisoned => exact nextInput_of_none hlater _ _

/-- The device in which the read of the one input has brought `e`. -/
def Device.inputEnded (d : Device) (x : Input) (e : ReadResult) : Device :=
  ((d.noInputs.inputBytes x e).linkedLater x.queue).settleInvals

/-- What a failed read adds to the counter of failed inputs. -/
def inputFails : ReadResult → Word
  | .ok _ => 0
  | _ => 1

theorem inputFailed_effect (d : Device) (x : Input) (r : ReadResult) {e : Device} (hin : d.hif.inputs = [])
    (he : e = ((d.logRead x.func r).bump Reg.hifInFailCnt 1).pushBytes x.queue (List.replicate x.len 0) true) :
    e.hif.inputs = [] ∧ (∀ q, q ≠ x.queue → e.queue q = d.queue q) ∧
    e.lantern = { d.lantern with evals := e.lantern.evals } ∧ SameMemory d e ∧
    e.reg Reg.hifInFailCnt = d.reg Reg.hifInFailCnt + 1 := by
  obtain ⟨y, hy⟩ : ∃ y, y = (d.logRead x.func r).bump Reg.hifInFailCnt 1 := ⟨_, rfl⟩
  rw [← hy] at he
  have hlog := hifOnly_logRead d x.func r
  have hcount : HifOnly [Reg.hifPoisRxCnt, Reg.hifInFailCnt] d y := by
    rw [hy]
    exact (hlog.mono (by simp)).trans ((HifOnly.of_onlyRegs (onlyRegs_bump _ _ 1)).mono (by simp))
  obtain ⟨⟨hq, hmem⟩, hl, hh, hr⟩ : PushOnly x.queue y e := he ▸ pushOnly_pushBytes ..
  have hinputs : y.hif.inputs = d.hif.inputs := by
    rw [hy]
    cases r <;> rfl
  refine ⟨?_, fun q hne => ?_, ?_, hcount.sameMemory.trans hmem, ?_⟩
  · rw [hh, hinputs, hin]
  · rw [hq q hne, Device.queue, hcount.queues_eq, Device.queue]
  · rw [hl, hcount.lantern_eq]
  · rw [hr _ (by decide), hy, reg_bump, hlog.2 _ (by decide)]
    rfl

theorem inputBytes_effect (d : Device) (x : Input) (r : ReadResult) {e : Device} (hin : d.hif.inputs = [])
    (he : e = d.inputBytes x r) :
    e.hif.inputs = [] ∧ (∀ q, q ≠ x.queue → e.queue q = d.queue q) ∧
    e.lantern = { d.lantern with evals := e.lantern.evals } ∧ SameMemory d e ∧
    e.reg Reg.hifInFailCnt = d.reg Reg.hifInFailCnt + inputFails r := by
  cases r with
  | ok bs =>
    obtain ⟨⟨hq, hmem⟩, hl, hh, hr⟩ : PushOnly x.queue d e := he ▸ pushOnly_pushBytes ..
    exact ⟨hh ▸ hin, hq, hl, hmem, (hr _ (by decide)).trans (BitVec.add_zero _).symm⟩
  | timeout => exact inputFailed_effect d x .timeout hin he
  | unsuccessful => exact inputFailed_effect d x .unsuccessful hin he
  | poisoned => exact inputFailed_effect d x .poisoned hin he

theorem inputReadCompletion_completes {s : State} {x : Input} (e : ReadResult) {P : Device → Prop} (ha : s.dev.alive = true)
    (hin : s.dev.hif.inputs = [x]) (hst : x.started = true) (hp : P (s.dev.inputEnded x e)) :
    Completes (.inputReadCompletion x.id e) s P := by
  refine completes_took (f := fun d => (d.linkUse.inputData x.id e).settleInvals) rfl ha ?_
  rw [inputData_only hin hst e (inputBytes_effect s.dev.noInputs x e rfl rfl).1]
  exact hp

/-- Settles O3: the bytes of an input, or its poison, are appended to its queue; nothing but the queue, the evaluations that
wait for it and counters changes; a whole last cell is linked with the check of its bytes. -/
theorem inputReadCompletes : Obligations.InputReadCompletes := by
  intro s x ha hin hst
  refine ⟨fun e => ?ends, fun bs a hbs hlen hasm hopen hlast hfree hlimit hspill hpool => ?cell⟩
  case ends =>
    refine inputReadCompletion_completes e ha hin hst ?_
    obtain ⟨y, hy⟩ : ∃ y, y = s.dev.noInputs.inputBytes x e := ⟨_, rfl⟩
    obtain ⟨z, hz⟩ : ∃ z, z = y.linkedLater x.queue := ⟨_, rfl⟩
    obtain ⟨hinputs, hq, hl, hmem, hfail⟩ := inputBytes_effect s.dev.noInputs x e rfl hy
    obtain ⟨⟨hqz, hmemz⟩, hlz, hhz, hrz⟩ : PushOnly x.queue y z := hz ▸ pushOnly_linkedLater ..
    have hset := hifOnly_settleInvals [] z
    rw [Device.inputEnded, ← hy, ← hz]
    refine ⟨?_, fun q hne => ?_, ?_, ?_, ?_⟩
    · rw [settleInvals_only]
      exact (congrArg Hif.inputs hhz).trans hinputs
    · rw [Device.queue, hset.queues_eq, ← Device.queue, hqz q hne, hq q hne]
      rfl
    · rw [hset.lantern_eq, hlz, hl]
      rfl
    · exact (hmem.trans hmemz).trans hset.sameMemory
    · rw [hset.2 _ List.not_mem_nil, hrz _ (by decide), hfail]
      cases e <;> rfl
  case cell =>
    refine inputReadCompletion_completes (.ok bs) ha hin hst ?_
    have hbytes : (bs ++ List.replicate x.len 0).take x.len = bs := by rw [hlen, ← hbs, List.take_left]
    have hne : bs ≠ [] := by
      rintro rfl
      cases hbs
    obtain ⟨y, hy⟩ : ∃ y, y = s.dev.noInputs.linkLast x.queue (a.lastCell bs) := ⟨_, rfl⟩
    have hpush : s.dev.noInputs.inputBytes x (.ok bs) = y := by
      show s.dev.noInputs.pushBytes x.queue ((bs ++ List.replicate x.len 0).take x.len) false = y
      rw [hbytes, hy]
      exact pushBytes_last (d := s.dev.noInputs) hasm hopen hne (le_of_eq hbs) (hbs ▸ hlast)
        ⟨hlimit, hspill, hpool, hfree⟩
    obtain ⟨z, hz⟩ : ∃ z, z = y.linkedLater x.queue := ⟨_, rfl⟩
    have hset := hifOnly_settleInvals [] z
    obtain ⟨hq, -, hcnt, -⟩ := linkLast_effect s.dev.noInputs x.queue (a.lastCell bs) hy
    obtain ⟨g, hqz⟩ := queue_linkedLater y x.queue
    have hqueue : z.settleInvals.queue x.queue = { s.dev.queue x.queue with
        asm := none, cells := (s.dev.queue x.queue).cells ++ [a.lastCell bs], openFrom := g } := by
      rw [Device.queue, hset.queues_eq, ← Device.queue, hz, hqz, hq, gated_eq]
      rfl
    rw [Device.inputEnded, hpush, ← hz, hqueue]
    refine ⟨rfl, ?_, a.lastCell bs, rfl, rfl, hbs, rfl, rfl, rfl, rfl⟩
    rw [hset.2 _ List.not_mem_nil, hz, reg_linkedLater, hcnt]
    rfl

end Sys2Proof.Machine
end

section
/-! PROOFS. Markers, pushes, flushes and pops of queues (R295 - R310, R384). -/

namespace Sys2Proof.Machine

open Sys2Proof

/-! ### Markers, pushes and flushes -/

theorem truncatePacket_of_none {d : Device} {q : Nat} (h : (d.queue q).asm = none) : d.truncatePacket q = d := by
  unfold Device.truncatePacket
  dsimp only
  rw [h]

theorem startMarker_of_empty {d : Device} {q len : Nat} (init : Nat) (h : (d.queue q).asm = none) (hpos : 1 ≤ len)
    (hmax : len ≤ 1048576) : d.startMarker q len init = d.setQueue q { d.queue q with
      cfgNow := (d.queue q).cfg,
      asm := some { init := init, length := len, got := 0, opened := [], bad := false, checkBad := false,
                    spilled := none, linked := false } } := by
  unfold Device.startMarker
  rw [truncatePacket_of_none h, if_neg (by omega)]

theorem startMarker_refused {d : Device} {q len : Nat} (init : Nat) (h : (d.queue q).asm = none)
    (hlen : len = 0 ∨ 1048576 < len) : d.startMarker q len init = d.bump Reg.qmgBadlenCnt 1 := by
  unfold Device.startMarker
  rw [truncatePacket_of_none h, if_pos hlen]

theorem pushBytes_discarded {d : Device} {q : Nat} {bs : List Byte} (hne : bs ≠ []) (h : (d.queue q).asm = none)
    (bad : Bool) : d.pushBytes q bs bad = d.bump Reg.qmgDiscByteCnt bs.length := by
  unfold Device.pushBytes Device.pushLoop
  rw [if_neg (by simpa using hne), h]

theorem filterMap_some (bs : List Byte) : (bs.map some).filterMap id = bs := by simp [List.filterMap_map]

theorem pushPort_own (d : Device) (q : Nat) (bs : List (Option Byte)) (hpower : d.power ≤ 1) :
    d.pushPort 0 q bs false = d.pushBytes q (bs.filterMap id) false := by
  unfold Device.pushPort
  dsimp only
  rw [if_neg Bool.false_ne_true, if_neg (by simp), requestWake_of_awake hpower]

theorem pushPort_foreign {d : Device} {f q : Nat} (hf : f ≠ 0) (hq : d.queueFunc q ≠ f) (bs : List (Option Byte)) :
    d.pushPort f q bs false = d.deny := by
  unfold Device.pushPort
  dsimp only
  rw [if_neg Bool.false_ne_true, if_pos ⟨hf, hq⟩]

/-- A flushed queue: the cells before the read position stay. -/
def Queue.flushed (x : Queue) : Queue := { x with cells := x.cells.take (x.rd - x.head), asm := none, freeing := false }

/-- The bytes that a flush discards. -/
def Queue.flushBytes (x : Queue) : Nat :=
  ((x.cells.drop (x.rd - x.head)).map (fun c => c.vbytes)).sum + x.asm.elim 0 (fun a => a.opened.length)

/-- A flush leaves no cell at the read position, so that it does not open a gate. -/
theorem flushed_blocks {x : Queue} (h : x.blocks = true) : x.flushed.blocks = true := by
  unfold Queue.blocks at h ⊢
  rw [Bool.and_eq_true] at h
  have hdrop : x.flushed.cells.drop (x.flushed.rd - x.flushed.head) = [] :=
    List.drop_eq_nil_of_le (List.length_take_le _ _)
  rw [hdrop, Bool.and_eq_true]
  exact ⟨h.1, rfl⟩

theorem flushQueue_eq (d : Device) (q : Nat) : d.flushQueue q =
    if (d.queue q).flushBytes = 0 then d.setQueue q (d.queue q).flushed
    else (d.setQueue q (d.queue q).flushed).bump Reg.qmgDiscByteCnt (d.queue q).flushBytes := by
  have hgate : d.gateQueue q 1 (d.queue q).flushed = d.setQueue q (d.queue q).flushed := by
    refine gateQueue_of_not_opens ?_
    cases h : (d.queue q).blocks with
    | false => exact .inl rfl
    | true => exact .inr (flushed_blocks h)
  rw [← hgate]
  rfl

theorem flushQueue_whole (d : Device) (q : Nat) {e : Device} (he : e = d.flushQueue q) :
    e.queue q = (d.queue q).flushed ∧ (∀ p, p ≠ q → e.queue p = d.queue p) ∧
    e.reg Reg.qmgDiscByteCnt = d.reg Reg.qmgDiscByteCnt + BitVec.ofNat 64 (d.queue q).flushBytes ∧
    OnlyRegs [Reg.qmgDiscByteCnt] { d with queues := e.queues } e ∧ e.cluster = d.cluster := by
  rw [flushQueue_eq] at he
  split at he
  next h =>
    subst he
    refine ⟨queue_setQueue d q _, fun p hp => queue_setQueue_ne d _ hp, ?_, OnlyRegs.refl _ _, rfl⟩
    rw [h]
    exact (BitVec.add_zero _).symm
  next h =>
    subst he
    exact ⟨queue_setQueue d q _, fun p hp => queue_setQueue_ne d _ hp, reg_bump _ _ _, onlyRegs_bump _ _ _, rfl⟩

/-! ### Pops (R308) -/

/-- What a read of the pop latch shows of `c`, whose data is clean: a poisoned cell reads as zeros. -/
def QCell.popped (c : QCell) : QCell := if c.pois then { c with data := 0, check := zeroCheck, chkOk := false } else c

theorem latchCell_clean (d : Device) {c : QCell} (h : c.spilled = none) : d.latchCell c .clean = (c.popped, d) := by
  have hcount : d.eccCount Reg.qmgCorrCnt Reg.qmgUncorrCnt .clean = d := rfl
  unfold Device.latchCell Device.cellUnit QCell.popped
  rw [h]
  dsimp only
  rw [hcount]
  obtain ⟨data, check, vbytes, sop, eop, trunc, pois, chkOk, init, length, spilled⟩ := c
  obtain rfl : spilled = none := h
  cases pois
  · simp [Ecc.bad]
  · simp [poisonUnit]

theorem bit_of_fld {v : Word} {i : Nat} {b : Bool} (h : fld v i 1 = b2n b) : bit v i = b := by
  rw [fld_one] at h
  cases hv : bit v i <;> cases b <;> simp_all [b2n]

theorem b2n_le (b : Bool) : b2n b ≤ 1 := by cases b <;> decide

/-- The word that a pop returns, by its fields (R308). -/
theorem popWord_fields {q : Nat} {c : QCell} (hq : q < 65536) (hv : c.vbytes ≤ 64) :
    bit (popWord q c) 31 = false ∧ bit (popWord q c) 30 = c.sop ∧ bit (popWord q c) 29 = c.eop ∧
    bit (popWord q c) 28 = c.trunc ∧ bit (popWord q c) 27 = c.pois ∧ fld (popWord q c) 8 16 = q ∧
    fld (popWord q c) 0 7 = c.vbytes := by
  have hs := b2n_le c.sop
  have he := b2n_le c.eop
  have ht := b2n_le c.trunc
  have hp := b2n_le c.pois
  have hfld (lo w : Nat) : fld (popWord q c) lo w = (b2n c.sop * 2 ^ 30 + b2n c.eop * 2 ^ 29 + b2n c.trunc * 2 ^ 28 +
      b2n c.pois * 2 ^ 27 + q * 2 ^ 8 + c.vbytes) % 2 ^ 64 / 2 ^ lo % 2 ^ w := by
    rw [popWord, fld_mkWord]
    simp only [List.foldl_cons, List.foldl_nil, Nat.zero_add, Nat.pow_zero, Nat.mul_one]
  refine ⟨bit_of_fld (b := false) ?_, bit_of_fld ?_, bit_of_fld ?_, bit_of_fld ?_, bit_of_fld ?_, ?_, ?_⟩ <;> rw [hfld]
  · rw [show b2n false = 0 from rfl]
    omega
  all_goals omega

theorem laneValue_both (v : Word) : laneValue v .both = v := mergeWord_all 0 v

/-- What is shown of a latched cell beside its data, by its fields (R308). -/
theorem popMeta_fields {c : QCell} (hl : c.length < 2 ^ 21) (hi : c.init < 256) {v : Word}
    (hv : v = mkWord [(32, c.check.toNat), (22, c.init), (21, b2n c.chkOk), (0, c.length)]) :
    fld v 0 21 = c.length ∧ bit v 21 = c.chkOk ∧ fld v 22 8 = c.init ∧ fld v 32 32 = c.check.toNat := by
  have hc := c.check.isLt
  have ho := b2n_le c.chkOk
  have hfld (lo w : Nat) : fld v lo w = (c.check.toNat * 2 ^ 32 + c.init * 2 ^ 22 + b2n c.chkOk * 2 ^ 21 + c.length) %
      2 ^ 64 / 2 ^ lo % 2 ^ w := by
    rw [hv, fld_mkWord]
    simp only [List.foldl_cons, List.foldl_nil, Nat.zero_add, Nat.pow_zero, Nat.mul_one]
  refine ⟨?_, bit_of_fld ?_, ?_, ?_⟩ <;> rw [hfld] <;> omega

theorem popMeta_of_some {d : Device} {p : PopLatch} (h : d.pop = some p) :
    d.popMeta .both = { d with
      pop := some { p with metaLeft := false },
      out := d.out ++ [.value (if p.metaLeft then
        mkWord [(32, p.cell.check.toNat), (22, p.cell.init), (21, b2n p.cell.chkOk), (0, p.cell.length)] else 0)] } := by
  unfold Device.popMeta
  rw [h]
  dsimp only
  rw [laneValue_both]
  rfl

theorem popData_of_some {d : Device} {p : PopLatch} (h : d.pop = some p) :
    d.popData .both = { d with
      pop := some { p with word := min 8 (p.word + 1) },
      out := d.out ++ [.value (if p.word < 8 then BitVec.ofNat 64 (fld p.cell.data (64 * p.word) 64) else 0)] } := by
  unfold Device.popData
  rw [h]
  dsimp only
  rw [laneValue_both]
  rfl

theorem popMeta_of_none {d : Device} (h : d.pop = none) (l : Half) : d.popMeta l = d.emit (.value 0) := by
  unfold Device.popMeta
  rw [h]

theorem popData_of_none {d : Device} (h : d.pop = none) (l : Half) : d.popData l = d.emit (.value 0) := by
  unfold Device.popData
  rw [h]

/-- A pop that returns EMPTY. -/
def Device.popEmpty (d : Device) : Device := { d with pop := none, out := d.out ++ [.value 0xFFFFFFFF] }

/-- The queue whose head cell is popped. -/
def Queue.popHead (x : Queue) (rest : List QCell) : Queue := { x with cells := rest, head := x.head + 1, rd := x.head + 1 }

/-- The device with the head of queue `q` in the pop latch. -/
def Device.popTaken (d : Device) (q : Nat) (c : QCell) (rest : List QCell) : Device :=
  { (d.gateQueue q 1 ((d.queue q).popHead rest)).bump Reg.qmgCellsOutCnt 1 with
    pop := some { cell := c.popped, metaLeft := true, word := 0 } }.emit (.value (popWord q c.popped))

section
variable {d : Device} {q : Nat} (hsel : d.regF Reg.qmgPopSel 0 16 = q)
include hsel

theorem popStatus_held (h : (d.queue q).held = true) (e : Ecc) : d.popStatus e = (d.bump Reg.qmgPopBusyCnt 1).popEmpty := by
  unfold Device.popStatus
  rw [hsel]
  exact if_pos h

theorem popStatus_not_ready (h : (d.queue q).held = false) (hready : (d.queue q).headReady = false) (e : Ecc) :
    d.popStatus e = d.popEmpty := by
  unfold Device.popStatus
  rw [hsel]
  exact (if_neg (by simp [h])).trans (if_pos hready)

theorem popStatus_taken {c : QCell} {rest : List QCell} (h : (d.queue q).held = false)
    (hready : (d.queue q).headReady = true) (hcells : (d.queue q).cells = c :: rest) (hc : c.spilled = none) :
    d.popStatus .clean = (d.popTaken q c rest).serveCopies := by
  unfold Device.popStatus
  rw [hsel]
  dsimp only
  rw [if_neg (by simp [h]), if_neg (by simp [hready]), hcells]
  dsimp only
  rw [latchCell_clean _ hc]
  rfl

end

theorem popTaken_effect (d : Device) (q : Nat) (c : QCell) (rest : List QCell) {e : Device} (he : e = d.popTaken q c rest) :
    e.queue q = (d.queue q).gated ((d.queue q).popHead rest) (d.now + 1) ∧ (∀ p, p ≠ q → e.queue p = d.queue p) ∧
    e.pop = some { cell := c.popped, metaLeft := true, word := 0 } ∧ e.out = d.out ++ [.value (popWord q c.popped)] ∧
    e.reg Reg.qmgCellsOutCnt = d.reg Reg.qmgCellsOutCnt + 1 ∧ SameRegs [Reg.qmgCellsOutCnt] d e ∧
    SameMemory d e ∧ e.lantern = { d.lantern with evals := e.lantern.evals } ∧ e.cluster = d.cluster := by
  obtain ⟨g, hg⟩ : ∃ g, g = d.gateQueue q 1 ((d.queue q).popHead rest) := ⟨_, rfl⟩
  obtain ⟨hq, hp, hrest⟩ := gateQueue_effect d q 1 _ hg
  have hreg (a : Nat) : e.reg a = (g.bump Reg.qmgCellsOutCnt 1).reg a := by rw [he, hg]; rfl
  have hsame (a : Nat) : g.reg a = d.reg a := by rw [hrest]; rfl
  have hqueues : e.queues = g.queues := by rw [he, hg]; rfl
  have hlantern : e.lantern = g.lantern := by rw [he, hg]; rfl
  refine ⟨?_, fun p hne => ?_, ?_, ?_, ?_, fun a ha => ?_, ?_, ?_, ?_⟩
  · rw [Device.queue, hqueues]
    exact hq
  · rw [Device.queue, hqueues]
    exact hp p hne
  · rw [he]
    rfl
  · have hout : g.out = d.out := by rw [hrest]
    rw [he, Device.popTaken, ← hg, ← hout]
    rfl
  · rw [hreg, reg_bump, hsame]
    rfl
  · rw [hreg, reg_bump_ne _ _ (by simpa using ha), hsame]
  · have hmem : SameMemory g e := by
      rw [he, hg]
      exact ⟨rfl, rfl, rfl, rfl⟩
    refine SameMemory.trans ?_ hmem
    rw [hrest]
    exact ⟨rfl, rfl, rfl, rfl⟩
  · rw [hlantern, hrest]
  · have hclu : e.cluster = g.cluster := by rw [he, hg]; rfl
    rw [hclu, hrest]

theorem popped_rest (c : QCell) : c.popped.sop = c.sop ∧ c.popped.eop = c.eop ∧ c.popped.trunc = c.trunc ∧
    c.popped.pois = c.pois ∧ c.popped.vbytes = c.vbytes := by
  unfold QCell.popped
  split <;> exact ⟨rfl, rfl, rfl, rfl, rfl⟩

/-- The evaluations noted where a gate opens are those of the waiting tasks of the queue. -/
theorem evals_gateQueue {d : Device} {q lag : Nat} {y : Queue} (hx : (d.queue q).blocks = true) (hy : y.blocks = false)
    {t : Task} (ht : t ∈ d.lantern.tasks) (hw : t.state = .waiting) (hq : d.ctxQueue t.ctx = q) :
    (t.ctx, d.now + lag) ∈ (d.gateQueue q lag y).lantern.evals := by
  have hnew : (t.ctx, d.now + lag) ∈ (d.lantern.tasks.filter (fun t => t.state == .waiting && d.ctxQueue t.ctx == q)).map
      (fun t => (t.ctx, d.now + lag)) := List.mem_map.2 ⟨t, List.mem_filter.2 ⟨ht, by simp [hw, hq]⟩, rfl⟩
  unfold Device.gateQueue
  rw [if_pos (by simp [hx, hy])]
  by_cases hin : (t.ctx, d.now + lag) ∈ d.lantern.evals
  · exact List.mem_append_left _ hin
  · have hnot : (!d.lantern.evals.contains (t.ctx, d.now + lag)) = true := by
      rw [List.contains_eq_mem, Bool.not_eq_true']
      exact decide_eq_false hin
    exact List.mem_append_right _ (List.mem_filter.2 ⟨hnew, hnot⟩)

theorem flush_completes {s : State} {w : BitVec 32} {P : Device → Prop} (ha : s.dev.alive = true) (hw : bit w 31 = true)
    (hcopies : s.dev.cluster.copies = []) (hp : P (s.dev.flushQueue (fld w 0 16))) : Completes (.qmgFlush w) s P := by
  refine completes_took (f := (·.flushWrite w)) rfl ha ?_
  obtain ⟨-, -, -, -, hclu⟩ := flushQueue_whole s.dev (fld w 0 16) rfl
  rw [Device.flushWrite, if_pos hw, serveCopies_of_none (hclu ▸ hcopies)]
  exact hp

theorem sop_completes {s : State} {w : Word} {P : Device → Prop} (ha : s.dev.alive = true) (hpower : s.dev.power ≤ 1)
    (hp : P (s.dev.sopWrite w 0x80)) : Completes (.qmgSop w) s P := by
  refine completes_took (f := fun d => (d.requestWake false).sopWrite w 0x80) rfl ha ?_
  rw [requestWake_of_awake hpower]
  exact hp

theorem push_completes {s : State} (q : Fin 65536) (bs : List Byte) {P : Device → Prop} (ha : s.dev.alive = true)
    (hpower : s.dev.power ≤ 1) (hp : P (s.dev.pushBytes q bs false)) :
    Completes (.pushPortWrite 0 q (bs.map some) false) s P := by
  refine completes_took (f := (·.pushPort 0 q (bs.map some) false)) rfl ha ?_
  rw [pushPort_own _ _ _ hpower, filterMap_some]
  exact hp

/-- Settles O26: each form of a write to a queue, and each form of a pop, by the equation for it above. -/
theorem queuesTakeAndReturnCells : Obligations.QueuesTakeAndReturnCells := by
  refine ⟨fun s q x ha hx hpower => ⟨fun w hw hvalid hasm => ⟨fun hpos hmax => ?opens, fun hlen => ?refused⟩,
      fun w hvalid => ?noMarker, fun bs hne => ⟨fun hasm => ?discarded,
        fun a hasm hopen hgot hlen h64 hlimit hspill hpool hfree => ?pushed⟩, fun f bs hf hq => ?denied,
      fun w hw hcopies => ⟨fun hvalid => ?noFlush, fun hvalid => ?flush⟩⟩,
    fun s q x ha hsel hx => ⟨fun hheld e => ?held, fun hheld hready e => ?empty,
      fun c rest hheld hready hcells h64 hc hcopies => ?popped,
      fun hpop l => ⟨?noMeta, ?noData⟩, fun p hpop hl hi => ⟨?metadata, fun hword => ?data, fun hword => ?dataEnd⟩,
      fun w n hn => ?config⟩⟩
  case opens =>
    refine sop_completes ha hpower ?_
    rw [Device.sopWrite, if_pos hvalid, hw, startMarker_of_empty 0x80 (hx ▸ hasm) hpos hmax, hx]
    exact ⟨queue_setQueue _ _ _, fun p hp => queue_setQueue_ne _ _ hp, rfl⟩
  case refused =>
    refine sop_completes ha hpower ?_
    rw [Device.sopWrite, if_pos hvalid, hw, startMarker_refused 0x80 (hx ▸ hasm) hlen]
    exact ⟨reg_bump _ _ _, onlyRegs_bump _ _ _⟩
  case noMarker =>
    refine sop_completes ha hpower ?_
    rw [Device.sopWrite, if_neg (by simp [hvalid])]
  case discarded =>
    refine push_completes q bs ha hpower ?_
    rw [pushBytes_discarded hne (hx ▸ hasm)]
    exact ⟨reg_bump _ _ _, onlyRegs_bump _ _ _⟩
  case pushed =>
    refine push_completes q bs ha hpower ?_
    rw [pushBytes_last (hx ▸ hasm) hopen hne h64 (by omega) ⟨hx ▸ hlimit, hspill, hpool, hx ▸ hfree⟩]
    obtain ⟨hq, hp, hcnt, hregs, hl, hmem, hout⟩ := linkLast_effect s.dev q (a.lastCell bs) rfl
    rw [hx] at hq
    exact ⟨⟨_, rfl, hq⟩, hcnt, hregs, hp, (congrArg Lantern.tasks hl).trans rfl, hmem, hout⟩
  case denied =>
    refine completes_took (f := (·.pushPort f q bs false)) rfl ha ?_
    rw [pushPort_foreign (fun h => hf (Fin.ext h)) hq]
    exact deny_effect s.dev
  case noFlush =>
    refine completes_took (f := (·.flushWrite w)) rfl ha ?_
    rw [Device.flushWrite, if_neg (by simp [hvalid])]
  case flush =>
    refine flush_completes ha hvalid hcopies ?_
    obtain ⟨hq, hp, hcnt, honly, -⟩ := flushQueue_whole s.dev (fld w 0 16) rfl
    rw [hw, hx] at hq hcnt
    rw [hw] at hp honly ⊢
    exact ⟨hq, hp, hcnt, honly⟩
  case held =>
    refine completes_took (f := (·.popStatus e)) rfl ha ?_
    rw [popStatus_held hsel (hx ▸ hheld)]
    have hcount := onlyRegs_bump s.dev Reg.qmgPopBusyCnt 1
    exact ⟨rfl, rfl, reg_bump _ _ _, rfl, hcount.2, rfl, rfl, rfl, rfl⟩
  case empty =>
    refine completes_took (f := (·.popStatus e)) rfl ha ?_
    rw [popStatus_not_ready hsel (hx ▸ hheld) (hx ▸ hready)]
    rfl
  case popped =>
    refine completes_took (f := (·.popStatus .clean)) rfl ha ?_
    obtain ⟨hq, hp, hpop, hout, hcnt, hregs, hmem, hl, hclu⟩ := popTaken_effect s.dev q c rest rfl
    obtain ⟨hsop, heop, htrunc, hpois, hbytes⟩ := popped_rest c
    have hq16 : q < 65536 := hsel ▸ fld_lt (s.dev.reg Reg.qmgPopSel) 0 16
    have hfields := popWord_fields (c := c.popped) hq16 (by rw [hbytes]; exact h64)
    rw [hsop, heop, htrunc, hpois, hbytes] at hfields
    rw [popStatus_taken hsel (hx ▸ hheld) (hx ▸ hready) (hx ▸ hcells) hc, serveCopies_of_none (hclu ▸ hcopies)]
    rw [hx] at hq
    exact ⟨⟨_, rfl, hq⟩, hpop, hcnt, ⟨_, hout, hfields⟩, hp, hregs, hmem, hl⟩
  case noMeta =>
    refine completes_took (f := (·.popMeta l)) rfl ha ?_
    rw [popMeta_of_none hpop]
    rfl
  case noData =>
    refine completes_took (f := (·.popData l)) rfl ha ?_
    rw [popData_of_none hpop]
    rfl
  case metadata =>
    refine completes_took (f := (·.popMeta .both)) rfl ha ?_
    rw [popMeta_of_some hpop]
    refine ⟨rfl, _, rfl, fun hleft => ?_, fun hleft => if_neg (by simp [hleft])⟩
    exact popMeta_fields hl hi (if_pos hleft)
  case data =>
    refine completes_took (f := (·.popData .both)) rfl ha ?_
    rw [popData_of_some hpop, if_pos hword, Nat.min_eq_right (by omega)]
  case dataEnd =>
    refine completes_took (f := (·.popData .both)) rfl ha ?_
    have hsame : ({ p with word := min 8 (p.word + 1) } : PopLatch) = p := by
      obtain ⟨cell, metaLeft, word⟩ := p
      obtain rfl : word = 8 := hword
      rfl
    rw [popData_of_some hpop, hsame, if_neg (by omega), ← hpop]
  case config =>
    refine completes_took (f := (·.queueConfig w)) rfl ha ?_
    obtain ⟨y, hy⟩ : ∃ y : Queue, y = { s.dev.queue n with cfg := w &&& 0xFF00003FFFF87FFF } := ⟨_, rfl⟩
    have hcfg : s.dev.queueConfig w = s.dev.gateQueue n 1 y := by
      unfold Device.queueConfig
      rw [hn, hy]
    obtain ⟨hq, hp, hrest⟩ := gateQueue_effect s.dev n 1 y rfl
    rw [hcfg]
    refine ⟨⟨y, hy, fun hstays => ?_, fun hblocked hfree => ⟨?_, fun t ht hw hctx => ?_⟩⟩, hp, ?_, ?_, ?_⟩
    · rw [gateQueue_of_not_opens hstays]
      exact ⟨queue_setQueue _ _ _, rfl⟩
    · rw [hq, Queue.gated, if_pos (by simp [hblocked, hfree])]
    · exact evals_gateQueue hblocked hfree ht hw hctx
    · rw [hrest]
    · rw [hrest]
    · rw [hrest]
      exact ⟨rfl, rfl, rfl, rfl⟩

end Sys2Proof.Machine
end


section
/-! PROOFS. Links from outside: enabling, detection, clocks, wakes, credits, loopback and PRBS (R314 - R318, R325, R335 - R338). -/

namespace Sys2Proof.Machine

open Sys2Proof

/-! ### What a change of state does to a link (R314, R317 - R319) -/

/-- A link that has dropped what it held for an ACTIVE link. -/
def Link.dropped (x : Link) : Link := { x with sent := [], naks := [], nakTx := none, bad := [], badFrames := [], held := [] }

/-- A link as it enters state `st`. -/
def Link.entered (x : Link) (st : Nat) : Link :=
  if st ≤ 1 then { x with gen2 := false }
  else if st = 4 then { x with last := none, same := 0, echoed := false, sentTs := [], ts := none } else x

/-- The device in which link `n` has left ACTIVE, before its new state shows. -/
def Device.leaveActive (d : Device) (n : Nat) : Device :=
  let d := d.setFs (Reg.turLinkStatus n) [(48, 1, 0), (50, 2, 0), (53, 3, 0)]
  let d := { d with links := { d.links with asm := mapPut [] (mapPut [] d.links.asm (2 * n) []) (2 * n + 1) [] } }
  d.mapLink n Link.dropped

/-- The device in which the new state `st` of link `n` shows. -/
def Device.showState (d : Device) (n st : Nat) : Device :=
  let d := d.setF (Reg.turLinkStatus n) 0 4 st
  if st ≤ 1 then (d.setF (Reg.turLinkStatus n) 44 4 0).mapLink n (fun x => { x with gen2 := false })
  else if st = 4 then
    d.mapLink n (fun x => { x with last := none, same := 0, echoed := false, sentTs := [], ts := none })
  else d

theorem toLinkState_leaves {d : Device} {n st : Nat} (h : d.linkState n = 5) (hst : st ≠ 5) :
    d.toLinkState n st = (d.leaveActive n).showState n st := by
  show (if d.linkState n = 5 ∧ st ≠ 5 then d.leaveActive n else d).showState n st = _
  rw [if_pos ⟨h, hst⟩]

theorem toLinkState_stays {d : Device} {n st : Nat} (h : d.linkState n ≠ 5 ∨ st = 5) :
    d.toLinkState n st = d.showState n st := by
  show (if d.linkState n = 5 ∧ st ≠ 5 then d.leaveActive n else d).showState n st = _
  rw [if_neg (by tauto)]

theorem regF_showState (d : Device) (n st : Nat) {lo w : Nat} (h : 4 ≤ lo) (h' : lo + w ≤ 44 ∨ 48 ≤ lo) :
    (d.showState n st).regF (Reg.turLinkStatus n) lo w = d.regF (Reg.turLinkStatus n) lo w := by
  have hset : (d.setF (Reg.turLinkStatus n) 0 4 st).regF (Reg.turLinkStatus n) lo w = d.regF (Reg.turLinkStatus n) lo w :=
    regF_setF_ne d _ st (.inl (by omega))
  unfold Device.showState
  dsimp only
  split
  · rw [Device.regF, reg_mapLink, ← Device.regF, regF_setF_ne _ _ _ (by omega), hset]
  split
  · exact hset
  · exact hset

theorem linkState_showState (d : Device) (n : Nat) {st : Nat} (h : st < 16) : (d.showState n st).linkState n = st := by
  have hset : (d.setF (Reg.turLinkStatus n) 0 4 st).linkState n = st :=
    (regF_setF d _ st (by decide)).trans (Nat.mod_eq_of_lt h)
  unfold Device.showState
  dsimp only
  split
  · exact (regF_setF_ne _ _ _ (.inr (by decide))).trans hset
  split
  · exact hset
  · exact hset

theorem link_showState (d : Device) (n st : Nat) : (d.showState n st).link n = (d.link n).entered st := by
  unfold Device.showState Link.entered
  dsimp only
  split
  · exact link_mapLink _ n _
  split
  · exact link_mapLink _ n _
  · rfl

theorem regF_leaveActive (d : Device) (n : Nat) {lo w : Nat} (h : lo + w ≤ 48 ∨ 56 ≤ lo ∨ lo = 49 ∧ w = 1 ∨ lo = 52 ∧ w = 1) :
    (d.leaveActive n).regF (Reg.turLinkStatus n) lo w = d.regF (Reg.turLinkStatus n) lo w := by
  unfold Device.leaveActive
  simp only [Device.setFs]
  rw [Device.regF, reg_mapLink]
  refine (regF_setF_ne _ _ _ (by omega)).trans ((regF_setF_ne _ _ _ (by omega)).trans (regF_setF_ne _ _ _ (by omega)))

theorem link_leaveActive (d : Device) (n : Nat) : (d.leaveActive n).link n = (d.link n).dropped := by
  refine (link_mapLink _ n _).trans (congrArg Link.dropped ?_)
  show mapGet Link.initial (d.setFs _ _).links.link n = _
  rw [setFs_links]
  rfl

/-- The link as it is when it has gone to state `st`. -/
theorem link_toLinkState (d : Device) (n st : Nat) : (d.toLinkState n st).link n =
    (if d.linkState n = 5 ∧ st ≠ 5 then (d.link n).dropped else d.link n).entered st := by
  split
  next h => rw [toLinkState_leaves h.1 h.2, link_showState, link_leaveActive]
  next => rw [toLinkState_stays (by tauto), link_showState]

theorem linkState_toLinkState (d : Device) (n : Nat) {st : Nat} (h : st < 16) : (d.toLinkState n st).linkState n = st := by
  by_cases hst : d.linkState n = 5 ∧ st ≠ 5
  · rw [toLinkState_leaves hst.1 hst.2, linkState_showState _ n h]
  · rw [toLinkState_stays (by tauto), linkState_showState _ n h]

/-- The fields of TUR_LINK_STATUS that no change of state touches. -/
theorem regF_toLinkState (d : Device) (n st : Nat) {lo w : Nat} (h : 4 ≤ lo)
    (h' : lo + w ≤ 44 ∨ 56 ≤ lo ∨ lo = 49 ∧ w = 1 ∨ lo = 52 ∧ w = 1) :
    (d.toLinkState n st).regF (Reg.turLinkStatus n) lo w = d.regF (Reg.turLinkStatus n) lo w := by
  by_cases hst : d.linkState n = 5 ∧ st ≠ 5
  · rw [toLinkState_leaves hst.1 hst.2, regF_showState _ n st h (by omega), regF_leaveActive d n (by omega)]
  · rw [toLinkState_stays (by tauto), regF_showState _ n st h (by omega)]

theorem bit_of_regF {d d' : Device} {a b i : Nat} (h : d'.regF a i 1 = d.regF b i 1) : d'.regBit a i = d.regBit b i := by
  rw [regF_one, regF_one] at h
  cases hx : d'.regBit a i <;> cases hy : d.regBit b i <;> simp_all [b2n]

/-- RATE_LIMIT and LOSS of a link stay when it changes state. -/
theorem regBit_toLinkState (d : Device) (n st : Nat) {i : Nat} (h : i = 49 ∨ i = 52) :
    (d.toLinkState n st).regBit (Reg.turLinkStatus n) i = d.regBit (Reg.turLinkStatus n) i :=
  bit_of_regF (regF_toLinkState d n st (by omega) (by omega))

theorem linkState_congr {d d' : Device} {n : Nat} (h : d'.reg (Reg.turLinkStatus n) = d.reg (Reg.turLinkStatus n)) :
    d'.linkState n = d.linkState n := by rw [Device.linkState, Device.regF, h, Device.linkState, Device.regF]

/-! ### Enabling, disabling and retraining (R314, R316) -/

theorem turLinkCtl_ne_status (n : Nat) : Reg.turLinkCtl n ≠ Reg.turLinkStatus n := by
  unfold Reg.turLinkCtl Reg.turLinkStatus
  omega

theorem turLinkCtl_ne_pwrStatus (n : Nat) : Reg.turLinkCtl n ≠ Reg.pwrStatus := by
  unfold Reg.turLinkCtl Reg.pwrStatus
  omega

theorem enableLink_effect (d : Device) (n : Nat) {e : Device} (he : e = d.enableLink n) :
    e.regBit (Reg.turLinkCtl n) 31 = true ∧ (d.linkState n = 0 → d.power ≠ 3 → d.power ≠ 5 → e.linkState n = 1) ∧
    (d.linkState n ≠ 0 ∨ d.power = 3 ∨ d.power = 5 → e.linkState n = d.linkState n) ∧
    LinksOnly [Reg.turLinkCtl n, Reg.turLinkStatus n] d e := by
  obtain ⟨x, hx⟩ : ∃ x, x = d.setF (Reg.turLinkCtl n) 31 1 1 := ⟨_, rfl⟩
  have hctl : x.regBit (Reg.turLinkCtl n) 31 = true := by rw [hx, regBit_setF_one _ _ _ (by decide)]; rfl
  have hset : LinksOnly [Reg.turLinkCtl n, Reg.turLinkStatus n] d x := by
    rw [hx]
    exact (LinksOnly.of_onlyRegs (onlyRegs_setF _ _ _ _ _)).mono (by simp)
  have hstate : x.linkState n = d.linkState n := linkState_congr (by rw [hx, reg_setF_ne _ _ _ _ (turLinkCtl_ne_status n).symm])
  have hpower : x.power = d.power := power_congr (by rw [hx, reg_setF_ne _ _ _ _ (turLinkCtl_ne_pwrStatus n).symm])
  have hstart : e = x.startLink n := by rw [he, hx]; rfl
  rw [Device.startLink, hstate, hpower] at hstart
  split at hstart
  next h =>
    obtain ⟨h0, -, h3, h5⟩ := h
    have honly := linksOnly_toLinkState x n 1
    refine ⟨?_, fun _ _ _ => ?_, fun hor => by tauto, hset.trans (hstart ▸ honly.mono (by simp))⟩
    · rw [hstart, regBit_congr (honly.2 _ (by simpa using turLinkCtl_ne_status n)), hctl]
    · rw [hstart, linkState_toLinkState _ _ (by decide)]
  next h => exact ⟨hstart ▸ hctl, fun h0 h3 h5 => absurd ⟨h0, hctl, h3, h5⟩ h, fun _ => hstart ▸ hstate, hstart ▸ hset⟩

theorem disableLink_effect (d : Device) (n : Nat) {e : Device} (he : e = d.disableLink n) :
    e.regBit (Reg.turLinkCtl n) 31 = false ∧ e.linkState n = 0 ∧ e.regBit (Reg.turLinkStatus n) 49 = false ∧
    (e.link n).gen2 = false ∧ LinksOnly [Reg.turLinkCtl n, Reg.turLinkStatus n] d e := by
  obtain ⟨x, hx⟩ : ∃ x, x = (d.setF (Reg.turLinkCtl n) 31 1 0).setF (Reg.turLinkStatus n) 49 1 0 := ⟨_, rfl⟩
  have hset : LinksOnly [Reg.turLinkCtl n, Reg.turLinkStatus n] d x := by
    rw [hx]
    exact ((LinksOnly.refl _ d).setF (by simp) 31 1 0).setF (by simp) 49 1 0
  have hto : e = x.toLinkState n 0 := by rw [he, hx]; rfl
  have honly := linksOnly_toLinkState x n 0
  refine ⟨?_, ?_, ?_, ?_, hto ▸ hset.trans (honly.mono (by simp))⟩
  · rw [hto, regBit_congr (honly.2 _ (by simpa using turLinkCtl_ne_status n)), hx, regBit_setF_other _ _ _ _ _
      (turLinkCtl_ne_status n), regBit_setF_one _ _ _ (by decide)]
    rfl
  · rw [hto, linkState_toLinkState_down]
  · rw [hto, regBit_toLinkState _ _ _ (.inl rfl), hx, regBit_setF_one _ _ _ (by decide)]
    rfl
  · rw [hto, link_toLinkState]
    rfl

theorem retrainLink_effect (d : Device) (n : Nat) {e : Device} (he : e = d.retrainLink n) :
    e.regBit (Reg.turLinkStatus n) 49 = false ∧ (d.linkState n = 5 → e.linkState n = 2 ∧ (e.link n).gen2 = false) ∧
    (d.linkState n ≠ 5 → e.linkState n = d.linkState n ∧ e.links = d.links) ∧
    LinksOnly [Reg.turLinkStatus n] d e := by
  obtain ⟨x, hx⟩ : ∃ x, x = d.setF (Reg.turLinkStatus n) 49 1 0 := ⟨_, rfl⟩
  have hset : LinksOnly [Reg.turLinkStatus n] d x := hx ▸ .of_onlyRegs (onlyRegs_setF _ _ _ _ _)
  have hbit : x.regBit (Reg.turLinkStatus n) 49 = false := by rw [hx, regBit_setF_one _ _ _ (by decide)]; rfl
  have hstate : x.linkState n = d.linkState n := by
    rw [hx]
    exact regF_setF_ne _ _ _ (.inr (by decide))
  have hto : e = if x.linkState n = 5 then (x.toLinkState n 2).mapLink n (fun x => { x with gen2 := false }) else x := by
    rw [he, hx]
    rfl
  rw [hstate] at hto
  split at hto
  next h =>
    refine ⟨?_, fun _ => ⟨?_, ?_⟩, fun hne => absurd h hne, ?_⟩
    · rw [hto, regBit_congr (reg_mapLink _ _ _ _), regBit_toLinkState _ _ _ (.inl rfl), hbit]
    · rw [hto, linkState_congr (reg_mapLink _ _ _ _), linkState_toLinkState _ _ (by decide)]
    · rw [hto, link_mapLink]
    · rw [hto]
      exact (hset.trans (linksOnly_toLinkState x n 2)).mapLink n _
  next h => exact ⟨hto ▸ hbit, fun h5 => absurd h5 h, fun _ => ⟨hto ▸ hstate, by rw [hto, hx]; rfl⟩, hto ▸ hset⟩

/-! ### Termination and the forwarded clock (R314, R318, R343) -/

theorem startLink_of_up {d : Device} {n : Nat} (h : d.linkState n ≠ 0) : d.startLink n = d := if_neg fun hx => h hx.1

/-- A state that holds nothing of its own only shows. -/
theorem toLinkState_plain {d : Device} {n st : Nat} (h : d.linkState n ≠ 5) (hst : 2 ≤ st) (h4 : st ≠ 4) :
    d.toLinkState n st = d.setF (Reg.turLinkStatus n) 0 4 st := by
  rw [toLinkState_stays (.inl h), Device.showState, if_neg (by omega), if_neg h4]

theorem detectTermination_found {d : Device} {n : Nat} (h : d.linkState n = 1) (hclock : d.regBit (Reg.turLinkStatus n) 52 = false)
    (hphy : d.keep.noPhy = false) : d.detectTermination n true = d.setF (Reg.turLinkStatus n) 0 4 2 := by
  unfold Device.detectTermination
  rw [startLink_of_up (by omega)]
  exact (if_pos ⟨h, rfl, hclock, hphy⟩).trans (toLinkState_plain (by omega) (by decide) (by decide))

theorem detectTermination_idle {d : Device} {n : Nat} {present : Bool} (h : d.linkState n = 1)
    (hno : present = false ∨ d.keep.noPhy = true ∨ d.regBit (Reg.turLinkStatus n) 52 = true) :
    d.detectTermination n present = d := by
  unfold Device.detectTermination
  rw [startLink_of_up (by omega)]
  refine if_neg ?_
  rintro ⟨-, rfl, hclock, hphy⟩
  simp [hclock, hphy] at hno

/-- The device in which the clock of link `n` is lost, before its state follows. -/
def Device.clockLost (d : Device) (n : Nat) : Device :=
  (d.setFs (Reg.turLinkStatus n) [(52, 1, 1), (49, 1, 0)]).bump (Reg.turAbsentCnt n) 1

/-- The link whose clock is lost goes to DETECT, unless it is DOWN or in TEST. -/
def Device.clockDetect (d : Device) (n : Nat) : Device :=
  if (d.clockLost n).linkState n = 0 ∨ (d.clockLost n).linkState n = 6 then d.clockLost n else (d.clockLost n).toLinkState n 1

theorem loseClock_eq {d : Device} {n : Nat} (h : d.regBit (Reg.turLinkStatus n) 52 = false) : d.loseClock n =
    if (d.clockDetect n).isUpLink n && decide ((d.clockDetect n).freq = 2) then
      ((d.clockDetect n).setF Reg.cluStatus 2 3 3).bump Reg.cluHoldoverCnt 1 else d.clockDetect n := by
  unfold Device.loseClock
  rw [if_neg (by simp [h])]
  rfl

theorem turAbsentCnt_ne_status (n : Nat) : Reg.turAbsentCnt n ≠ Reg.turLinkStatus n := by
  unfold Reg.turAbsentCnt Reg.turLinkStatus
  omega

theorem cluster_ne_turLink {n : Nat} (h : n < 64) : Reg.cluStatus ∉ [Reg.turLinkStatus n, Reg.turAbsentCnt n] ∧
    Reg.cluHoldoverCnt ∉ [Reg.turLinkStatus n, Reg.turAbsentCnt n] := by
  simp only [List.mem_cons, List.not_mem_nil, or_false, Reg.cluStatus, Reg.cluHoldoverCnt, Reg.turLinkStatus, Reg.turAbsentCnt]
  omega

theorem clockLost_effect (d : Device) (n : Nat) {e : Device} (he : e = d.clockLost n) :
    e.regBit (Reg.turLinkStatus n) 52 = true ∧ e.regBit (Reg.turLinkStatus n) 49 = false ∧ e.linkState n = d.linkState n ∧
    e.reg (Reg.turAbsentCnt n) = d.reg (Reg.turAbsentCnt n) + 1 ∧ LinksOnly [Reg.turLinkStatus n, Reg.turAbsentCnt n] d e := by
  obtain ⟨x, hx⟩ : ∃ x, x = (d.setF (Reg.turLinkStatus n) 52 1 1).setF (Reg.turLinkStatus n) 49 1 0 := ⟨_, rfl⟩
  have hbump : e = x.bump (Reg.turAbsentCnt n) 1 := by rw [he, hx]; rfl
  have hst : e.reg (Reg.turLinkStatus n) = x.reg (Reg.turLinkStatus n) := by
    rw [hbump, reg_bump_ne _ _ (turAbsentCnt_ne_status n).symm]
  have hcnt : x.reg (Reg.turAbsentCnt n) = d.reg (Reg.turAbsentCnt n) := by
    rw [hx, reg_setF_ne _ _ _ _ (turAbsentCnt_ne_status n), reg_setF_ne _ _ _ _ (turAbsentCnt_ne_status n)]
  refine ⟨?_, ?_, ?_, ?_, ?_⟩
  · rw [regBit_congr hst, hx, regBit_setF_outside _ _ _ (by decide), regBit_setF_one _ _ _ (by decide)]
    rfl
  · rw [regBit_congr hst, hx, regBit_setF_one _ _ _ (by decide)]
    rfl
  · rw [linkState_congr hst, hx]
    exact (regF_setF_ne _ _ _ (.inr (by decide))).trans (regF_setF_ne _ _ _ (.inr (by decide)))
  · rw [hbump, reg_bump, hcnt]
    rfl
  · rw [hbump, hx]
    exact ((((LinksOnly.refl _ d).setF (by simp) 52 1 1).setF (by simp) 49 1 0)).trans
      ((LinksOnly.of_onlyRegs (onlyRegs_bump _ _ 1)).mono (by simp))

theorem clockDetect_effect (d : Device) (n : Nat) {e : Device} (he : e = d.clockDetect n) :
    e.regBit (Reg.turLinkStatus n) 52 = true ∧ e.regBit (Reg.turLinkStatus n) 49 = false ∧
    e.reg (Reg.turAbsentCnt n) = d.reg (Reg.turAbsentCnt n) + 1 ∧
    (d.linkState n ≠ 0 → d.linkState n ≠ 6 → e.linkState n = 1) ∧
    (d.linkState n = 0 ∨ d.linkState n = 6 → e.linkState n = d.linkState n) ∧
    LinksOnly [Reg.turLinkStatus n, Reg.turAbsentCnt n] d e := by
  obtain ⟨h52, h49, hstate, hcnt, honly⟩ := clockLost_effect d n rfl
  rw [Device.clockDetect, hstate] at he
  split at he
  next h =>
    subst he
    exact ⟨h52, h49, hcnt, fun h0 h6 => absurd h (by tauto), fun _ => hstate, honly⟩
  next h =>
    have hto := linksOnly_toLinkState (d.clockLost n) n 1
    refine ⟨?_, ?_, ?_, fun _ _ => ?_, fun hor => absurd hor h, he ▸ honly.trans (hto.mono (by simp))⟩
    · rw [he, regBit_toLinkState _ _ _ (.inr rfl), h52]
    · rw [he, regBit_toLinkState _ _ _ (.inl rfl), h49]
    · rw [he, hto.2 _ (by simpa using turAbsentCnt_ne_status n), hcnt]
    · rw [he, linkState_toLinkState _ _ (by decide)]

theorem loseClock_effect {d : Device} {n : Nat} (hn : n < 64) (h : d.regBit (Reg.turLinkStatus n) 52 = false) {e : Device}
    (he : e = d.loseClock n) :
    e.regBit (Reg.turLinkStatus n) 52 = true ∧ e.regBit (Reg.turLinkStatus n) 49 = false ∧
    e.reg (Reg.turAbsentCnt n) = d.reg (Reg.turAbsentCnt n) + 1 ∧
    (d.linkState n ≠ 0 → d.linkState n ≠ 6 → e.linkState n = 1) ∧
    (d.linkState n = 0 ∨ d.linkState n = 6 → e.linkState n = d.linkState n) ∧
    (d.isUpLink n = true → d.freq = 2 → e.freq = 3 ∧ e.reg Reg.cluHoldoverCnt = d.reg Reg.cluHoldoverCnt + 1) ∧
    (d.isUpLink n = false ∨ d.freq ≠ 2 → e.freq = d.freq) ∧
    LinksOnly [Reg.turLinkStatus n, Reg.turAbsentCnt n, Reg.cluStatus, Reg.cluHoldoverCnt] d e := by
  obtain ⟨x, hx⟩ : ∃ x, x = d.clockDetect n := ⟨_, rfl⟩
  obtain ⟨h52, h49, hcnt, hdetect, hstays, honly⟩ := clockDetect_effect d n hx
  obtain ⟨hclu, hhold⟩ := cluster_ne_turLink hn
  have hfreq : x.freq = d.freq := by rw [Device.freq, Device.regF, honly.2 _ hclu, Device.freq, Device.regF]
  have hup : x.isUpLink n = d.isUpLink n := by rw [honly.1]; rfl
  rw [loseClock_eq h, ← hx, hfreq, hup] at he
  split at he
  next hlost =>
    simp only [Bool.and_eq_true, decide_eq_true_eq] at hlost
    have hsame {a : Nat} (ha : a ∈ [Reg.turLinkStatus n, Reg.turAbsentCnt n]) : e.reg a = x.reg a := by
      rw [he, reg_bump_ne _ _ (ne_of_mem_of_not_mem ha hhold), reg_setF_ne _ _ _ _ (ne_of_mem_of_not_mem ha hclu)]
    have hst : e.reg (Reg.turLinkStatus n) = x.reg (Reg.turLinkStatus n) := hsame (by simp)
    refine ⟨?_, ?_, ?_, fun h0 h6 => ?_, fun hor => ?_, fun _ _ => ⟨?_, ?_⟩, fun hor => ?_, ?_⟩
    · rw [regBit_congr hst, h52]
    · rw [regBit_congr hst, h49]
    · rw [hsame (by simp), hcnt]
    · rw [linkState_congr hst, hdetect h0 h6]
    · rw [linkState_congr hst, hstays hor]
    · rw [Device.freq, Device.regF, he, reg_bump_ne _ _ (by decide), ← Device.regF, regF_setF _ _ _ (by decide)]
      rfl
    · rw [he, reg_bump, reg_setF_ne _ _ _ _ (by decide), honly.2 _ hhold]
      rfl
    · simp [hlost] at hor
    · rw [he]
      exact ((honly.mono (by simp)).setF (by simp) 2 3 3).trans ((LinksOnly.of_onlyRegs (onlyRegs_bump _ _ 1)).mono (by simp))
  next hnot =>
    subst he
    refine ⟨h52, h49, hcnt, hdetect, hstays, fun hu hf => absurd ?_ hnot, fun _ => hfreq, honly.mono (by simp)⟩
    simp [hu, hf]

/-! ### Wakes and credits (R325, R335, R459) -/

/-- A total of credits that a live thread receives. -/
theorem creditReceived_effect {d : Device} {k t total : Nat} {x : Thread} (h : d.thread (256 * k + t) = some x) {e : Device}
    (he : e = d.creditReceived k t total) :
    (∃ m, e.thread (256 * k + t) = some { x with credits := some (total - x.next), offered := m }) ∧
    (∀ tk, tk ≠ 256 * k + t → e.thread tk = d.thread tk) ∧ e.regs = d.regs ∧ SameMemory d e := by
  obtain ⟨y, hy⟩ : ∃ y : Device, y = d.setThread (256 * k + t) (some { x with credits := some (total - x.next) }) := ⟨_, rfl⟩
  have hsend : e = y.sendCredit (256 * k + t) := by
    rw [he, Device.creditReceived, Device.mapThread, h, hy]
  have hthread : y.thread (256 * k + t) = some { x with credits := some (total - x.next) } := by rw [hy, thread_setThread]
  obtain ⟨⟨m, hm⟩, heq⟩ := sendCredit_effect hthread
  have hother (tk : Nat) (hne : tk ≠ 256 * k + t) : (y.sendCredit (256 * k + t)).thread tk = y.thread tk := by
    unfold Device.sendCredit
    rw [hthread]
    dsimp only
    split
    · rfl
    · rw [sendMessage_only]
      exact thread_setThread_ne y _ hne
  rw [hsend]
  refine ⟨⟨m, hm⟩, fun tk hne => ?_, ?_, ?_⟩
  · rw [hother tk hne, hy, thread_setThread_ne d _ hne]
  · rw [heq, hy]
    rfl
  · rw [heq, hy]
    exact ⟨rfl, rfl, rfl, rfl⟩

/-! ### Loopback (R337) -/

theorem turLinkTest_ne_status (n : Nat) : Reg.turLinkTest n ≠ Reg.turLinkStatus n := by
  unfold Reg.turLinkTest Reg.turLinkStatus
  omega

theorem setLoop_effect (d : Device) (n : Nat) {loop : Nat} {e : Device} (he : e = d.setLoop n loop) :
    (1 ≤ loop ∧ loop ≤ 3 → e.linkState n = 6) ∧
    (loop = 0 ∨ 3 < loop → e.linkState n =
      if d.linkState n = 6 ∨ (3 < loop ∧ d.linkState n ≠ 0) then 1 else d.linkState n) ∧
    e.reg (Reg.turLinkTest n) = BitVec.ofNat 64 loop ∧ LinksOnly [Reg.turLinkTest n, Reg.turLinkStatus n] d e := by
  obtain ⟨x, hx⟩ : ∃ x, x = d.setReg (Reg.turLinkTest n) (BitVec.ofNat 64 loop) := ⟨_, rfl⟩
  have hset : LinksOnly [Reg.turLinkTest n, Reg.turLinkStatus n] d x := by
    rw [hx]
    exact (LinksOnly.of_onlyRegs (onlyRegs_setReg _ _ _)).mono (by simp)
  have hstate : x.linkState n = d.linkState n :=
    linkState_congr (by rw [hx, reg_setReg_ne _ _ (turLinkTest_ne_status n).symm])
  have htest : x.reg (Reg.turLinkTest n) = BitVec.ofNat 64 loop := by rw [hx, reg_setReg]
  have hto (st : Nat) : LinksOnly [Reg.turLinkTest n, Reg.turLinkStatus n] d (x.toLinkState n st) ∧
      (x.toLinkState n st).reg (Reg.turLinkTest n) = BitVec.ofNat 64 loop := by
    have honly := linksOnly_toLinkState x n st
    exact ⟨hset.trans (honly.mono (by simp)), (honly.2 _ (by simpa using turLinkTest_ne_status n)).trans htest⟩
  have hloop : e = if 1 ≤ loop ∧ loop ≤ 3 then x.toLinkState n 6
      else if d.linkState n = 6 ∨ (loop ≠ 0 ∧ d.linkState n ≠ 0) then x.toLinkState n 1 else x := by
    rw [he, Device.setLoop, ← hx, hstate]
  split at hloop
  next h =>
    obtain ⟨honly, hreg⟩ := hto 6
    exact ⟨fun _ => hloop ▸ linkState_toLinkState x n (by decide), fun hor => by omega, hloop ▸ hreg, hloop ▸ honly⟩
  next h =>
    split at hloop
    next h1 =>
      obtain ⟨honly, hreg⟩ := hto 1
      refine ⟨fun hx => absurd hx h, fun hor => ?_, hloop ▸ hreg, hloop ▸ honly⟩
      rw [hloop, linkState_toLinkState x n (by decide), if_pos (by omega)]
    next h1 =>
      refine ⟨fun hx => absurd hx h, fun hor => ?_, hloop ▸ htest, hloop ▸ hset⟩
      rw [hloop, hstate, if_neg (by omega)]

/-! ### PRBS (R338, R401) -/

theorem turPrbs_injective (n : Nat) : Function.Injective (Reg.turPrbsBits n) ∧ Function.Injective (Reg.turPrbsErr n) ∧
    ∀ i j, Reg.turPrbsBits n i ≠ Reg.turPrbsErr n j := by
  refine ⟨fun i j h => ?_, fun i j h => ?_, fun i j h => ?_⟩
  · unfold Reg.turPrbsBits at h
    omega
  · unfold Reg.turPrbsErr at h
    omega
  · unfold Reg.turPrbsBits Reg.turPrbsErr at h
    omega

/-- The counters of the first `k` lanes of link `n` are cleared. -/
theorem clearPrbs_lanes (d : Device) (n k : Nat) {e : Device}
    (he : e = (List.range k).foldl (fun d l => (d.setReg (Reg.turPrbsBits n l) 0).setReg (Reg.turPrbsErr n l) 0) d) :
    (∀ i < k, e.reg (Reg.turPrbsBits n i) = 0 ∧ e.reg (Reg.turPrbsErr n i) = 0) ∧
    OnlyRegs ((List.range k).map (Reg.turPrbsBits n) ++ (List.range k).map (Reg.turPrbsErr n)) d e := by
  obtain ⟨hbits, herr, hne⟩ := turPrbs_injective n
  induction k generalizing e with
  | zero => exact ⟨fun i hi => absurd hi (Nat.not_lt_zero i), he ▸ OnlyRegs.refl d _⟩
  | succ k ih =>
    rw [List.range_succ, List.foldl_append, List.foldl_cons, List.foldl_nil] at he
    obtain ⟨hclear, honly⟩ := ih rfl
    obtain ⟨x, hx⟩ : ∃ x, x = (List.range k).foldl
      (fun d l => (d.setReg (Reg.turPrbsBits n l) 0).setReg (Reg.turPrbsErr n l) 0) d := ⟨_, rfl⟩
    rw [← hx] at he hclear honly
    refine ⟨fun i hi => ?_, ?_⟩
    · by_cases hik : i = k
      · subst hik
        rw [he, reg_setReg, reg_setReg_ne _ _ (hne i i), reg_setReg]
        exact ⟨rfl, rfl⟩
      · rw [he, reg_setReg_ne _ _ (hne i k), reg_setReg_ne _ _ (hbits.ne hik), reg_setReg_ne _ _ (herr.ne hik),
          reg_setReg_ne _ _ (hne k i).symm]
        exact hclear i (by omega)
    · rw [he]
      have hk (f : Nat → Nat) : f k ∈ (List.range (k + 1)).map f := List.mem_map_of_mem (List.mem_range.2 (Nat.lt_succ_self k))
      refine OnlyRegs.trans (honly.mono fun a ha => ?_) ((onlyRegs_setReg x _ 0).mono ?_ |>.trans
        ((onlyRegs_setReg _ _ 0).mono ?_))
      rotate_left
      · simpa only [List.forall_mem_singleton] using List.mem_append_left _ (hk _)
      · simpa only [List.forall_mem_singleton] using List.mem_append_right _ (hk _)
      simp only [List.mem_append, List.mem_map, List.mem_range] at ha ⊢
      rcases ha with ⟨i, hi, rfl⟩ | ⟨i, hi, rfl⟩
      · exact .inl ⟨i, by omega, rfl⟩
      · exact .inr ⟨i, by omega, rfl⟩

/-- What a checker counts. -/
theorem counted_effect (d : Device) {a b : Nat} (h : a ≠ b) (x y : Nat) {e : Device} (he : e = (d.bump a x).bump b y) :
    e.reg a = d.reg a + BitVec.ofNat 64 x ∧ e.reg b = d.reg b + BitVec.ofNat 64 y ∧ OnlyRegs [a, b] d e := by
  subst he
  refine ⟨?_, ?_, ((onlyRegs_bump d a x).mono (by simp)).trans ((onlyRegs_bump _ b y).mono (by simp))⟩
  · rw [reg_bump_ne _ _ h, reg_bump]
  · rw [reg_bump, reg_bump_ne _ _ h.symm]

/-- What an event of the checker of lane `l` of link `n` leaves. -/
def Device.checkerEvent (d : Device) (n l : Nat) : PrbsEvent → Device
  | .gained => d.setF (Reg.turPrbsCtl n) (18 + l) 1 1
  | .lost => d.setF (Reg.turPrbsCtl n) (18 + l) 1 0
  | .counted bits errors => if d.regBit (Reg.turPrbsCtl n) (18 + l) then
      (d.bump (Reg.turPrbsBits n l) bits).bump (Reg.turPrbsErr n l) errors else d

/-- The checker of a lane acts on its link under test. -/
theorem linkPrbs_checked {d : Device} {n l : Nat} (hon : d.prbsOn n = true) (hcheck : d.regBit (Reg.turPrbsCtl n) 30 = true)
    (hlane : d.regBit (Reg.turPrbsCtl n) (24 + l) = true) (e : PrbsEvent) : d.linkPrbs n l e = d.checkerEvent n l e := by
  unfold Device.linkPrbs
  rw [if_neg (by simp [hon, hcheck, hlane])]
  cases e <;> rfl

theorem prbs_completes {s : State} (l : Fin 272) (ev : PrbsEvent) {P : Device → Prop} (ha : s.dev.alive = true)
    (hp : P (if l.val < 256 then s.dev.linkPrbs (l / 4) (l % 4) ev else s.dev.lanePrbs (l - 256) ev)) :
    Completes (.prbsCheckerSynchronisation l ev) s P :=
  completes_took (f := fun d => if l.val < 256 then d.linkPrbs (l / 4) (l % 4) ev else d.lanePrbs (l - 256) ev) rfl ha hp

theorem credit_completes {s : State} (n : Fin 64) (k : Fin 4) (t : Fin 256) (total : Nat) (ok : Bool) {P : Device → Prop}
    (ha : s.dev.alive = true) (hp : P (if s.dev.linkState n ≠ 5 then s.dev else if ok then s.dev.creditReceived k t total
      else s.dev.bump Reg.sncHdrDropCnt 1)) : Completes (.linkCredit n k t total ok) s P :=
  completes_took (f := fun d => if d.linkState n ≠ 5 then d else if ok then d.creditReceived k t total
    else d.bump Reg.sncHdrDropCnt 1) rfl ha hp

/-- Settles O28, command by command: each claim is the effect lemma of its operation. -/
theorem linksDetectCreditWakeAndTest : Obligations.LinksDetectCreditWakeAndTest := by
  refine ⟨fun s n ha => ⟨?enable, ?disable, ?retrain, ?retain,
      fun hpins hst => ⟨fun hclock hphy => ?found, fun hno => ?notFound, ?absent⟩, fun hlost => ?lostAgain, fun hclock => ?lost,
      fun hst => ?restored⟩,
    fun s n ha => ⟨fun hst => ⟨?noWake, fun k t total ok => ?noCredit⟩,
      fun hst => ⟨fun hp => ?wake, fun k t total x hx => ⟨?badHeader, ?credit⟩⟩,
      fun l => ⟨fun h1 h3 => ?loop, fun hl => ?loopEnd⟩, ?clear, ?inject,
      fun l i b e hl hn hi hon hcheck hlane => ⟨?synced, fun hs => ?counted, fun hs => ?notSynced⟩,
      fun l i b e hl hi hon hs => ?fabric⟩⟩
  case enable =>
    refine completes_took (f := (·.enableLink n)) rfl ha ?_
    obtain ⟨hen, hstart, hstays, honly⟩ := enableLink_effect s.dev n rfl
    exact ⟨hen, hstart, hstays, honly.sameMemory, honly.2⟩
  case disable =>
    refine completes_took (f := (·.disableLink n)) rfl ha ?_
    obtain ⟨hen, hst, hrate, hgen, honly⟩ := disableLink_effect s.dev n rfl
    exact ⟨hen, hst, hrate, hgen, honly.sameMemory, honly.2⟩
  case retrain =>
    refine completes_took (f := (·.retrainLink n)) rfl ha ?_
    obtain ⟨hrate, hactive, hother, honly⟩ := retrainLink_effect s.dev n rfl
    exact ⟨hrate, hactive, hother, honly.sameMemory, honly.2⟩
  case retain =>
    refine completes_took (f := (·.clearLinkRetain n)) rfl ha ?_
    exact ⟨link_mapLink _ _ _, fun m hm => link_mapLink_ne _ _ hm, rfl, rfl, rfl, rfl, rfl⟩
  case found =>
    refine completes_took (f := (·.pinEvent (·.detectTermination n true))) rfl ha ?_
    rw [pinEvent_open _ hpins, detectTermination_found hst hclock hphy]
    exact ⟨(regF_setF _ _ _ (by decide)).trans rfl, onlyRegs_setF _ _ _ _ _⟩
  case notFound =>
    refine completes_took (f := (·.pinEvent (·.detectTermination n true))) rfl ha ?_
    rw [pinEvent_open _ hpins, detectTermination_idle hst (.inr hno)]
  case absent =>
    refine completes_took (f := (·.pinEvent (·.detectTermination n false))) rfl ha ?_
    rw [pinEvent_open _ hpins, detectTermination_idle hst (.inl rfl)]
  case lostAgain => exact completes_took (f := (·.loseClock n)) rfl ha (if_pos hlost)
  case lost =>
    refine completes_took (f := (·.loseClock n)) rfl ha ?_
    obtain ⟨h52, h49, hcnt, hdetect, hstays, hhold, hfree, honly⟩ := loseClock_effect n.isLt hclock rfl
    exact ⟨h52, h49, hcnt, hdetect, hstays, hhold, hfree, honly.sameMemory, honly.2⟩
  case restored =>
    refine completes_took (f := (·.restoreClock n)) rfl ha ?_
    rw [Device.restoreClock, startLink_of_up hst]
    exact ⟨(regBit_setF_one _ _ _ (by decide)).trans rfl, regF_setF_ne _ _ _ (.inr (by decide)), onlyRegs_setF _ _ _ _ _⟩
  case noWake => exact completes_took (f := fun d => if d.linkState n = 5 then d.requestWake false else d) rfl ha (if_neg hst)
  case noCredit => exact credit_completes n k t total ok ha (if_pos hst)
  case wake =>
    refine completes_took (f := fun d => if d.linkState n = 5 then d.requestWake false else d) rfl ha ?_
    rw [if_pos hst]
    obtain ⟨hpower, hcnt, hwake, hregs, hmem, hl⟩ := requestWake_warm_effect (d := s.dev) (.inl hp)
    rw [hp] at hwake
    exact ⟨hpower, hwake, hcnt, fun a ha => hregs a (by simpa [or_comm] using ha), hmem, hl⟩
  case badHeader =>
    refine credit_completes n k t total false ha ?_
    rw [if_neg (not_not.2 hst)]
    exact ⟨reg_bump _ _ _, onlyRegs_bump _ _ _⟩
  case credit =>
    refine credit_completes n k t total true ha ?_
    rw [if_neg (not_not.2 hst)]
    exact creditReceived_effect hx rfl
  case loop =>
    refine completes_took (f := (·.setLoop n l)) rfl ha ?_
    obtain ⟨htest, -, hreg, honly⟩ := setLoop_effect s.dev n (loop := l) rfl
    exact ⟨htest ⟨h1, h3⟩, hreg, honly.sameMemory, honly.2⟩
  case loopEnd =>
    refine completes_took (f := (·.setLoop n l)) rfl ha ?_
    obtain ⟨-, hend, hreg, honly⟩ := setLoop_effect s.dev n (loop := l) rfl
    exact ⟨hend hl, hreg, honly.sameMemory, honly.2⟩
  case clear => exact completes_took (f := (·.clearPrbs n)) rfl ha (clearPrbs_lanes s.dev n 4 rfl)
  case inject =>
    refine completes_took (f := (·.injectPrbs n)) rfl ha ⟨fun hon => ?_, fun hoff => ?_⟩
    · exact if_pos hon
    · exact if_neg (by simp [hoff])
  case synced =>
    subst hi
    refine prbs_completes l _ ha ?_
    rw [if_pos hl, ← hn, linkPrbs_checked hon hcheck hlane]
    exact ⟨(regBit_setF_one _ _ _ (by omega)).trans rfl, onlyRegs_setF _ _ _ _ _⟩
  case counted =>
    subst hi
    refine prbs_completes l _ ha ?_
    rw [if_pos hl, ← hn, linkPrbs_checked hon hcheck hlane, Device.checkerEvent, if_pos hs]
    exact counted_effect s.dev ((turPrbs_injective n).2.2 _ _) b e rfl
  case notSynced =>
    subst hi
    refine prbs_completes l _ ha ?_
    rw [if_pos hl, ← hn, linkPrbs_checked hon hcheck hlane]
    exact if_neg (by simp [hs])
  case fabric =>
    have hlane : (l : Nat) - 256 = i := by omega
    refine prbs_completes l _ ha ?_
    rw [if_neg (by omega), hlane]
    unfold Device.lanePrbs
    rw [if_neg (by simp [hon])]
    dsimp only
    rw [if_pos hs]
    refine counted_effect s.dev ?_ b e rfl
    unfold Reg.cfgFabLanePrbsBits Reg.cfgFabLanePrbsErr
    omega

end Sys2Proof.Machine
end

section
/-! PROOFS. Training, lock and exchange of a link (R314, R316 - R319, R336). -/

namespace Sys2Proof.Machine

open Sys2Proof

/-! ### Training (R316) -/

/-- The training of link `n` is the short one. -/
def Device.trainsShort (d : Device) (n : Nat) (verified : Bool) : Bool :=
  d.linkRecordValid n && verified && !(d.link n).fullNext && !d.regBit (Reg.turLinkCtl n) 24

/-- TUR_LINK_STATUS.GEN of a link that trains. -/
def Link.genCode (x : Link) : Nat := if x.gen2 then 2 else 1

/-- The record that a full training of link `n` leaves. -/
def Device.trainedRecord (d : Device) (n : Nat) : LinkRecord :=
  LinkRecord.make (BitVec.ofNat 64 (Config.freeValue d.freeIx)) (d.regF Reg.bfyId 28 4) (d.peerIdentity n)

/-- The device after a full training of link `n`, before it goes to LOCK. -/
def Device.fullTrained (d : Device) (n : Nat) : Device :=
  (((d.setF (Reg.turLinkStatus n) 41 2 2).setF (Reg.turLinkCtl n) 24 1 0).takeFree 64).2.mapLink n
    (fun x => { x.setRecord (some (d.trainedRecord n)) with fullNext := false })

theorem linkTrained_eq {d : Device} {n : Nat} (h : d.linkState n = 2) (v : Bool) : d.linkTrained n v =
    ((if d.trainsShort n v then d.setF (Reg.turLinkStatus n) 41 2 1 else d.fullTrained n).setF (Reg.turLinkStatus n) 46 2
      (d.link n).genCode).toLinkState n 3 := by
  unfold Device.linkTrained
  exact if_neg (not_not.2 h)

/-- A link that trained, whose training shows in `x`, goes to LOCK. -/
theorem trained_locks {d x : Device} {n : Nat} (h : d.linkState n = 2) (hx : x.linkState n = d.linkState n) {e : Device}
    (he : e = (x.setF (Reg.turLinkStatus n) 46 2 (d.link n).genCode).toLinkState n 3) :
    e.linkState n = 3 ∧ e.regF (Reg.turLinkStatus n) 41 2 = x.regF (Reg.turLinkStatus n) 41 2 ∧
    e.regF (Reg.turLinkStatus n) 46 2 = (d.link n).genCode ∧ OnlyRegs [Reg.turLinkStatus n] x e := by
  have hst : (x.setF (Reg.turLinkStatus n) 46 2 (d.link n).genCode).linkState n = 2 :=
    (regF_setF_ne _ _ _ (.inr (by decide))).trans (hx.trans h)
  have hgen : (d.link n).genCode % 2 ^ 2 = (d.link n).genCode := by
    unfold Link.genCode
    split <;> rfl
  rw [toLinkState_plain (by omega) (by decide) (by decide)] at he
  subst he
  refine ⟨(regF_setF _ _ _ (by decide)).trans rfl, ?_, ?_, ((OnlyRegs.refl x _).setF (by simp) 46 2 _).setF (by simp) 0 4 3⟩
  · rw [regF_setF_ne _ _ _ (.inl (by decide)), regF_setF_ne _ _ _ (.inr (by decide))]
  · rw [regF_setF_ne _ _ _ (.inl (by decide)), regF_setF _ _ _ (by decide), hgen]

theorem record_setRecord (x : Link) (r : Option LinkRecord) : ({ x.setRecord r with fullNext := false } : Link).record = r := by
  unfold Link.setRecord Link.record
  split <;> rfl

theorem fullTrained_effect (d : Device) (n : Nat) {e : Device} (he : e = d.fullTrained n) :
    e.linkState n = d.linkState n ∧ e.regF (Reg.turLinkStatus n) 41 2 = 2 ∧ e.regBit (Reg.turLinkCtl n) 24 = false ∧
    (e.link n).record = some (d.trainedRecord n) ∧ (e.link n).fullNext = false ∧ SameMemory d e ∧
    SameRegs [Reg.turLinkCtl n, Reg.turLinkStatus n] d e := by
  obtain ⟨x, hx⟩ : ∃ x, x = (d.setF (Reg.turLinkStatus n) 41 2 2).setF (Reg.turLinkCtl n) 24 1 0 := ⟨_, rfl⟩
  have hset : OnlyRegs [Reg.turLinkCtl n, Reg.turLinkStatus n] d x := by
    rw [hx]
    exact ((OnlyRegs.refl d _).setF (by simp) 41 2 2).setF (by simp) 24 1 0
  have hreg (a : Nat) : e.reg a = x.reg a := by rw [he, hx]; rfl
  have hlink : e.link n = { (d.link n).setRecord (some (d.trainedRecord n)) with fullNext := false } := by
    rw [he]
    exact link_mapLink _ n _
  have hst : x.reg (Reg.turLinkStatus n) = (d.setF (Reg.turLinkStatus n) 41 2 2).reg (Reg.turLinkStatus n) := by
    rw [hx, reg_setF_ne _ _ _ _ (turLinkCtl_ne_status n).symm]
  refine ⟨?_, ?_, ?_, ?_, ?_, ?_, fun a ha => (hreg a).trans (hset.2 a ha)⟩
  · rw [linkState_congr ((hreg _).trans hst)]
    exact regF_setF_ne _ _ _ (.inr (by decide))
  · rw [Device.regF, hreg, hst]
    exact regF_setF _ _ _ (by decide)
  · rw [regBit_congr (hreg _), hx, regBit_setF_one _ _ _ (by decide)]
    rfl
  · rw [hlink, record_setRecord]
  · rw [hlink]
  · rw [he]
    exact ⟨rfl, rfl, rfl, rfl⟩

theorem bfyId_ne_link (n : Nat) : Reg.bfyId ∉ [Reg.turLinkCtl n, Reg.turLinkStatus n] := by
  simp only [List.mem_cons, List.not_mem_nil, or_false, Reg.bfyId, Reg.turLinkCtl, Reg.turLinkStatus]
  omega

/-- The record of a full training is valid as long as the version of the device stands. -/
theorem trainedRecord_valid {d e : Device} {n : Nat} (hrec : (e.link n).record = some (d.trainedRecord n))
    (hreg : e.reg Reg.bfyId = d.reg Reg.bfyId) : e.linkRecordValid n = true := by
  have hver : e.regF Reg.bfyId 28 4 = d.regF Reg.bfyId 28 4 := by rw [Device.regF, hreg, Device.regF]
  unfold Device.linkRecordValid
  rw [hrec, Option.elim_some, hver, Bool.and_eq_true]
  exact ⟨beq_self_eq_true _, beq_self_eq_true _⟩

/-! ### Lock and its failure (R314, R316, R336) -/

theorem symbolLocked_effect {d : Device} {n l : Nat} (h : d.linkState n = 3) (hl : l ≠ 0) (h4 : l < 4) {e : Device}
    (he : e = d.symbolLocked n l) :
    e.linkState n = 4 ∧ e.regF (Reg.turLinkStatus n) 44 2 = l ∧ (e.link n).lanes = l ∧ (e.link n).same = 0 ∧
    (e.link n).echoed = false ∧ LinksOnly [Reg.turLinkStatus n] d e := by
  obtain ⟨x, hx⟩ : ∃ x, x = (d.mapLink n (fun x => { x with lanes := l })).setF (Reg.turLinkStatus n) 44 2 l := ⟨_, rfl⟩
  have hst : x.linkState n = 3 := by
    rw [hx]
    exact (regF_setF_ne _ _ _ (.inr (by decide))).trans h
  have hlink : x.link n = { d.link n with lanes := l } := by
    rw [hx]
    exact link_mapLink d n (fun x => { x with lanes := l })
  have hx44 : x.regF (Reg.turLinkStatus n) 44 2 = l := by
    rw [hx, regF_setF _ _ _ (by decide)]
    exact Nat.mod_eq_of_lt h4
  have hto : e = x.toLinkState n 4 := by
    rw [he, Device.symbolLocked, if_neg (by simp [h, hl]), hx]
  have hshow : e.link n = (x.link n).entered 4 := by
    rw [hto, link_toLinkState, if_neg (by omega)]
  rw [hlink] at hshow
  refine ⟨hto ▸ linkState_toLinkState x n (by decide), ?_, by rw [hshow]; rfl, by rw [hshow]; rfl, by rw [hshow]; rfl, ?_⟩
  · rw [hto, toLinkState_stays (.inl (by omega)), ← hx44]
    exact regF_setF_ne _ _ _ (.inl (by decide))
  · rw [hto]
    have hmap : LinksOnly [Reg.turLinkStatus n] d x := by
      rw [hx]
      exact ((LinksOnly.refl _ d).mapLink n _).setF (by simp) 44 2 l
    exact hmap.trans (linksOnly_toLinkState x n 4)

theorem turTrainFailCnt_ne_status (n : Nat) : Reg.turTrainFailCnt n ≠ Reg.turLinkStatus n := by
  unfold Reg.turTrainFailCnt Reg.turLinkStatus
  omega

theorem turLockLossCnt_ne_status (n : Nat) : Reg.turLockLossCnt n ≠ Reg.turLinkStatus n := by
  unfold Reg.turLockLossCnt Reg.turLinkStatus
  omega

/-- A failure of link `n` is counted in `a`, and the link goes to `st`. -/
theorem counted_toLinkState (d : Device) {n a st : Nat} (ha : a ≠ Reg.turLinkStatus n) (hst : st < 16) {e : Device}
    (he : e = (d.bump a 1).toLinkState n st) :
    e.linkState n = st ∧ e.reg a = d.reg a + 1 ∧
    e.link n = (if d.linkState n = 5 ∧ st ≠ 5 then (d.link n).dropped else d.link n).entered st ∧
    e.regBit (Reg.turLinkStatus n) 49 = d.regBit (Reg.turLinkStatus n) 49 ∧ LinksOnly [Reg.turLinkStatus n, a] d e := by
  have honly := linksOnly_toLinkState (d.bump a 1) n st
  have hreg : (d.bump a 1).reg (Reg.turLinkStatus n) = d.reg (Reg.turLinkStatus n) := reg_bump_ne d 1 ha.symm
  subst he
  refine ⟨linkState_toLinkState _ n hst, ?_, ?_, ?_, ?_⟩
  · rw [honly.2 _ (by simpa using ha), reg_bump]
    rfl
  · rw [link_toLinkState, linkState_congr hreg]
    rfl
  · rw [regBit_toLinkState _ _ _ (.inl rfl), regBit_congr hreg]
  · exact ((LinksOnly.of_onlyRegs (onlyRegs_bump d a 1)).mono (by simp)).trans (honly.mono (by simp))

theorem bringUpFailed_effect {d : Device} {n : Nat} (h2 : 2 ≤ d.linkState n) (h4 : d.linkState n ≤ 4) {e : Device}
    (he : e = d.bringUpFailed n) :
    e.linkState n = 1 ∧ e.reg (Reg.turTrainFailCnt n) = d.reg (Reg.turTrainFailCnt n) + 1 ∧
    e.regBit (Reg.turLinkStatus n) 49 =
      (d.regBit (Reg.turLinkStatus n) 49 || ((d.link n).gen2 && decide (d.linkState n ≠ 4))) ∧
    (e.link n).gen2 = false ∧ LinksOnly [Reg.turLinkStatus n, Reg.turTrainFailCnt n] d e := by
  obtain ⟨x, hx⟩ : ∃ x, x = if (d.link n).gen2 ∧ d.linkState n ≠ 4 then d.setF (Reg.turLinkStatus n) 49 1 1 else d := ⟨_, rfl⟩
  have hto : e = (x.bump (Reg.turTrainFailCnt n) 1).toLinkState n 1 := by
    rw [he, hx]
    exact if_neg (by omega)
  have hbit : x.regBit (Reg.turLinkStatus n) 49 =
      (d.regBit (Reg.turLinkStatus n) 49 || ((d.link n).gen2 && decide (d.linkState n ≠ 4))) := by
    split at hx
    next h =>
      rw [hx, regBit_setF_one _ _ _ (by decide)]
      simp [h.1, h.2]
    next h =>
      rw [hx]
      cases hg : (d.link n).gen2
      · simp
      · have : d.linkState n = 4 := by simpa [hg] using h
        simp [this]
  have hset : OnlyRegs [Reg.turLinkStatus n] d x := by
    split at hx
    · exact hx ▸ onlyRegs_setF _ _ _ _ _
    · rw [hx]
      exact OnlyRegs.refl d _
  obtain ⟨hst, hcnt, hlink, h49, honly⟩ := counted_toLinkState x (turTrainFailCnt_ne_status n) (by decide) hto
  refine ⟨hst, ?_, h49.trans hbit, ?_, ((LinksOnly.of_onlyRegs hset).mono (by simp)).trans honly⟩
  · rw [hcnt, hset.2 _ (by simpa using turTrainFailCnt_ne_status n)]
  · rw [hlink]
    rfl

/-! ### The exchange (R317 - R319) -/

/-- An EXCH unit in EXCHANGE, noted in the link. -/
def Device.noteExch (d : Device) (n : Nat) (u : ExchUnit) : Device :=
  let x := d.link n
  let e : Exchanged := { peer := u.peer, epoch := u.epoch }
  let echo := x.sentTs.contains u.echoTs
  let rtt := ((d.now % 2 ^ 32 + 2 ^ 33 - u.echoTs % 2 ^ 32 - u.echoHold % 2 ^ 32) % 2 ^ 32)
  d.mapLink n (fun x => { x with
    last := some e, same := if x.last = some e then x.same + 1 else 1, ts := some (u.ts, d.now),
    echoed := x.echoed || echo, rtt := if echo then rtt else x.rtt })

/-- A unit like the last one is counted, whatever its time stamps. -/
theorem noteExch_again {d : Device} {n : Nat} {u : ExchUnit}
    (hlast : (d.link n).last = some { peer := u.peer, epoch := u.epoch }) (hsame : (d.link n).same = 3)
    (hecho : (d.link n).echoed = true) (hts : (d.link n).sentTs = []) {e : Device} (he : e = d.noteExch n u) :
    ∃ ts rtt, e.link n = { d.link n with ts := ts, same := 4, rtt := rtt } := by
  refine ⟨some (u.ts, d.now), (d.link n).rtt, ?_⟩
  rw [he, Device.noteExch, link_mapLink, if_pos hlast]
  generalize d.link n = x at *
  obtain ⟨gen2, lanes, last, same, echoed, sentTs, rtt⟩ := x
  obtain rfl : last = _ := hlast
  obtain rfl : same = 3 := hsame
  obtain rfl : echoed = true := hecho
  obtain rfl : sentTs = [] := hts
  rfl

theorem exchReceived_exchange {d : Device} {n : Nat} (h : d.linkState n = 4) (u : ExchUnit) : d.exchReceived n u =
    if 4 ≤ ((d.noteExch n u).link n).same ∧ ((d.noteExch n u).link n).echoed = true then
      (d.noteExch n u).exchanged n { peer := u.peer, epoch := u.epoch } else d.noteExch n u := by
  unfold Device.exchReceived
  dsimp only
  rw [if_neg (by omega), if_pos h]
  rfl

theorem exchReceived_active {d : Device} {n : Nat} (h : d.linkState n = 5) (u : ExchUnit) : d.exchReceived n u =
    if (d.link n).done = some { peer := u.peer, epoch := u.epoch } then
      d.mapLink n (fun x => { x with ts := some (u.ts, d.now) })
    else (d.toLinkState n 4).mapLink n (fun x => { x with
      last := some { peer := u.peer, epoch := u.epoch }, same := 1, ts := some (u.ts, d.now) }) := by
  unfold Device.exchReceived
  dsimp only
  rw [if_pos h]

/-- A link is judged in MISMATCH and DEGRADED alone. -/
theorem judgeLink_effect (d : Device) (n : Nat) {e : Device} (he : e = d.judgeLink n) :
    (∀ lo w, lo + w ≤ 50 ∨ 52 ≤ lo → e.regF (Reg.turLinkStatus n) lo w = d.regF (Reg.turLinkStatus n) lo w) ∧
    OnlyRegs [Reg.turLinkStatus n] d e := by
  subst he
  unfold Device.judgeLink
  split
  · refine ⟨fun lo w h => ?_, onlyRegs_setFs _ _ _⟩
    simp only [Device.setFs]
    rw [regF_setF_ne _ _ _ (by omega), regF_setF_ne _ _ _ (by omega)]
  · exact ⟨fun lo w h => regF_setF_ne _ _ _ (by omega), onlyRegs_setF _ _ _ _ _⟩

theorem linksOnly_sendAlign (as : List Nat) (d : Device) (n : Nat) : LinksOnly as d (d.sendAlign n) := ⟨rfl, fun _ _ => rfl⟩

/-- A link that becomes ACTIVE: its state and its fitness show, and the frequency lock may begin. -/
theorem activate_effect (d : Device) {n : Nat} (hn : n < 64) {e : Device} (he : e = d.activate n) :
    e.linkState n = 5 ∧ e.link n = d.link n ∧
    (∀ lo w, 4 ≤ lo → lo + w ≤ 50 ∨ 52 ≤ lo → e.regF (Reg.turLinkStatus n) lo w = d.regF (Reg.turLinkStatus n) lo w) ∧
    LinksOnly [Reg.turLinkStatus n, Reg.cluStatus] d e := by
  obtain ⟨x, hx⟩ : ∃ x, x = (d.setF (Reg.turLinkStatus n) 0 4 5).judgeLink n := ⟨_, rfl⟩
  obtain ⟨hfields, hjudged⟩ := judgeLink_effect _ n hx
  have hto : d.toLinkState n 5 = d.setF (Reg.turLinkStatus n) 0 4 5 := by
    rw [toLinkState_stays (.inr rfl), Device.showState, if_neg (by decide), if_neg (by decide)]
  have hset : LinksOnly [Reg.turLinkStatus n, Reg.cluStatus] d x :=
    ((LinksOnly.refl _ d).setF (by simp) 0 4 5).trans ((LinksOnly.of_onlyRegs hjudged).mono (by simp))
  have hlink : x.link n = d.link n := by
    rw [hjudged.1]
    rfl
  have hstate : x.linkState n = 5 := (hfields 0 4 (.inl (by decide))).trans ((regF_setF _ _ _ (by decide)).trans rfl)
  have hclu : Reg.turLinkStatus n ≠ Reg.cluStatus := by
    unfold Reg.turLinkStatus Reg.cluStatus
    omega
  obtain ⟨y, hy⟩ : ∃ y, y = if x.isUpLink n && x.cluster.member.elim false (·.freqSrc) &&
      (decide (x.freq = 0) || decide (x.freq = 3)) then x.setF Reg.cluStatus 2 3 1 else x := ⟨_, rfl⟩
  have hxy : LinksOnly [Reg.cluStatus] x y ∧ y.link n = x.link n := by
    split at hy <;> subst hy
    · exact ⟨.of_onlyRegs (onlyRegs_setF _ _ _ _ _), rfl⟩
    · exact ⟨.refl _ _, rfl⟩
  have hend : e = if y.alignsChild n then y.sendAlign n else y := by
    rw [he, Device.activate, hto, ← hx, hy]
  have hye : LinksOnly [] y e ∧ e.link n = y.link n := by
    split at hend <;> subst hend
    · exact ⟨linksOnly_sendAlign _ _ _, rfl⟩
    · exact ⟨.refl _ _, rfl⟩
  have hreg : e.reg (Reg.turLinkStatus n) = x.reg (Reg.turLinkStatus n) :=
    (hye.1.2 _ List.not_mem_nil).trans (hxy.1.2 _ (by simpa using hclu))
  refine ⟨(linkState_congr hreg).trans hstate, hye.2.trans (hxy.2.trans hlink), fun lo w h4 h => ?_,
    hset.trans ((hxy.1.mono (by simp)).trans (hye.1.mono (by simp)))⟩
  rw [Device.regF, hreg, ← Device.regF, hfields lo w h, regF_setF_ne _ _ _ (.inl (by omega))]

/-- The device in which the exchange of link `n` with `u` is noted, before the link is ACTIVE. -/
def Device.agreed (d : Device) (n : Nat) (u : Exchanged) : Device :=
  let x := d.link n
  let y := (d.setReg (Reg.turLinkPeer n) u.peer).setReg (Reg.turLinkPeerEpoch n) (BitVec.ofNat 64 u.epoch)
  let y := y.mapLink n (fun x => keepRecords x (decide (d.regF (Reg.turLinkStatus n) 41 2 = 2)) (y.peerIdentity n))
  (y.setFs (Reg.turLinkStatus n)
    [(46, 2, x.genCode), (44, 2, 3), (43, 1, b2n (y.choosesCorrect n u.peer x.gen2)),
     (24, 12, min 4095 ((x.rtt + 1) / 2)), (53, 3, max 1 (min 4 (y.wantedFrames n)))]).mapLink n
    (fun x => { x with done := some u })

theorem exchanged_agrees {d : Device} {n : Nat} {u : Exchanged} (hlanes : (d.link n).lanes = 3) (hwidth : fld u.peer 12 2 = 3)
    (hgen : d.choosesGen2 n u.peer = (d.link n).gen2) : d.exchanged n u = (d.agreed n u).activate n := by
  unfold Device.exchanged
  dsimp only
  rw [hlanes, hwidth, hgen, if_neg (by simp), if_neg (not_not.2 rfl)]
  rfl

theorem peerRegs_ne (n : Nat) : Reg.turLinkPeer n ≠ Reg.turLinkStatus n ∧ Reg.turLinkPeerEpoch n ≠ Reg.turLinkStatus n ∧
    Reg.turLinkPeer n ≠ Reg.turLinkPeerEpoch n ∧ Reg.turLinkCtl n ≠ Reg.turLinkPeer n ∧
    Reg.turLinkCtl n ≠ Reg.turLinkPeerEpoch n := by
  unfold Reg.turLinkPeer Reg.turLinkStatus Reg.turLinkPeerEpoch Reg.turLinkCtl
  omega

theorem agreed_effect (d : Device) (n : Nat) (u : Exchanged) {e : Device} (he : e = d.agreed n u) :
    e.linkState n = d.linkState n ∧ e.reg (Reg.turLinkPeer n) = u.peer ∧ (e.link n).done = some u ∧
    e.regF (Reg.turLinkStatus n) 44 2 = 3 ∧ e.regF (Reg.turLinkStatus n) 46 2 = (d.link n).genCode ∧
    e.regF (Reg.turLinkStatus n) 43 1 = b2n (d.choosesCorrect n u.peer (d.link n).gen2) ∧
    1 ≤ e.regF (Reg.turLinkStatus n) 53 3 ∧ e.regF (Reg.turLinkStatus n) 53 3 ≤ 4 ∧
    LinksOnly [Reg.turLinkStatus n, Reg.turLinkPeer n, Reg.turLinkPeerEpoch n] d e := by
  obtain ⟨hps, hes, hpe, hcp, hce⟩ := peerRegs_ne n
  obtain ⟨x, hx⟩ : ∃ x, x = (d.setReg (Reg.turLinkPeer n) u.peer).setReg (Reg.turLinkPeerEpoch n) (BitVec.ofNat 64 u.epoch) :=
    ⟨_, rfl⟩
  obtain ⟨y, hy⟩ : ∃ y, y = x.mapLink n (fun l => keepRecords l (decide (d.regF (Reg.turLinkStatus n) 41 2 = 2))
    (x.peerIdentity n)) := ⟨_, rfl⟩
  obtain ⟨rtt, hrtt⟩ : ∃ rtt, rtt = min 4095 (((d.link n).rtt + 1) / 2) := ⟨_, rfl⟩
  obtain ⟨frames, hframes⟩ : ∃ k, k = max 1 (min 4 (y.wantedFrames n)) := ⟨_, rfl⟩
  obtain ⟨z, hz⟩ : ∃ z, z = y.setFs (Reg.turLinkStatus n) [(46, 2, (d.link n).genCode), (44, 2, 3),
    (43, 1, b2n (y.choosesCorrect n u.peer (d.link n).gen2)), (24, 12, rtt), (53, 3, frames)] := ⟨_, rfl⟩
  have hend : e = z.mapLink n (fun l => { l with done := some u }) := by rw [he, hz, hrtt, hframes, hy, hx]; rfl
  have hyreg (a : Nat) : y.reg a = x.reg a := by rw [hy]; rfl
  have hstatus : y.reg (Reg.turLinkStatus n) = d.reg (Reg.turLinkStatus n) := by
    rw [hyreg, hx, reg_setReg_ne _ _ hes.symm, reg_setReg_ne _ _ hps.symm]
  have hctl : y.regF (Reg.turLinkCtl n) 26 2 = d.regF (Reg.turLinkCtl n) 26 2 := by
    rw [Device.regF, hyreg, hx, reg_setReg_ne _ _ hce, reg_setReg_ne _ _ hcp, Device.regF]
  have hfec : y.choosesCorrect n u.peer (d.link n).gen2 = d.choosesCorrect n u.peer (d.link n).gen2 := by
    unfold Device.choosesCorrect
    rw [hctl]
  have hgen : (d.link n).genCode % 2 ^ 2 = (d.link n).genCode := by
    unfold Link.genCode
    split <;> rfl
  have hbit : b2n (d.choosesCorrect n u.peer (d.link n).gen2) % 2 ^ 1 = b2n (d.choosesCorrect n u.peer (d.link n).gen2) :=
    Nat.mod_eq_of_lt (by have := b2n_le (d.choosesCorrect n u.peer (d.link n).gen2); omega)
  have hfld (lo w : Nat) : e.regF (Reg.turLinkStatus n) lo w = z.regF (Reg.turLinkStatus n) lo w := by
    rw [hend, Device.regF, reg_mapLink, Device.regF]
  simp only [Device.setFs] at hz
  have h53 : e.regF (Reg.turLinkStatus n) 53 3 = frames := by
    rw [hfld, hz, regF_setF _ _ _ (by decide)]
    omega
  have hset : LinksOnly [Reg.turLinkStatus n, Reg.turLinkPeer n, Reg.turLinkPeerEpoch n] d y := by
    rw [hy, hx]
    exact (((LinksOnly.of_onlyRegs (onlyRegs_setReg d _ _)).mono (by simp)).trans
      ((LinksOnly.of_onlyRegs (onlyRegs_setReg _ _ _)).mono (by simp))).mapLink n _
  refine ⟨?_, ?_, ?_, ?_, ?_, ?_, ?_, ?_, ?_⟩
  · rw [Device.linkState, hfld, hz]
    iterate 5 rw [regF_setF_ne _ _ _ (.inr (by decide))]
    rw [Device.regF, hstatus]
    rfl
  · rw [hend, reg_mapLink, hz]
    iterate 5 rw [reg_setF_ne _ _ _ _ hps]
    rw [hyreg, hx, reg_setReg_ne _ _ hpe, reg_setReg]
  · rw [hend, link_mapLink]
  · rw [hfld, hz, regF_setF_ne _ _ _ (.inr (by decide)), regF_setF_ne _ _ _ (.inl (by decide)),
      regF_setF_ne _ _ _ (.inl (by decide)), regF_setF _ _ _ (by decide)]
    rfl
  · rw [hfld, hz, regF_setF_ne _ _ _ (.inr (by decide)), regF_setF_ne _ _ _ (.inl (by decide)),
      regF_setF_ne _ _ _ (.inl (by decide)), regF_setF_ne _ _ _ (.inl (by decide)), regF_setF _ _ _ (by decide), hgen]
  · rw [hfld, hz, regF_setF_ne _ _ _ (.inr (by decide)), regF_setF_ne _ _ _ (.inl (by decide)), regF_setF _ _ _ (by decide),
      hfec, hbit]
  · omega
  · omega
  · rw [hend, hz]
    exact ((((((hset.setF (by simp) 46 2 _).setF (by simp) 44 2 _).setF (by simp) 43 1 _).setF (by simp) 24 12 _).setF
      (by simp) 53 3 _).mapLink n _)

/-- Settles O29: the form of the training follows the record; a fourth identical EXCH unit makes the link ACTIVE through
`exchanged_agrees`; the other claims are effect lemmas of one change of state. -/
theorem linksTrainLockAndExchange : Obligations.LinksTrainLockAndExchange := by
  intro s n x ha hx
  refine ⟨fun hst => ⟨fun hrec hfull hctl => ?short, fun v hno => ?full⟩, fun hst v => ?notTraining,
    fun l => ⟨fun hst hl => ?locks, fun hor => ?notLocks⟩, fun h2 h4 => ?fails, fun hor => ?notFails,
    fun u e he => ⟨fun hst hlast => ?first, fun hst hlast hsame hecho hts hlanes hwidth hgen => ?fourth,
      fun hst => ⟨fun hdone => ?again, fun hdone => ?differs⟩⟩, fun hst => ?markers, fun hst => ?noMarkers⟩
  case short =>
    refine completes_took (f := (·.linkTrained n true)) rfl ha ?_
    have hshort : s.dev.trainsShort n true = true := by simp [Device.trainsShort, hrec, hx, hfull, hctl]
    obtain ⟨y, hy⟩ : ∃ y, y = s.dev.setF (Reg.turLinkStatus n) 41 2 1 := ⟨_, rfl⟩
    have hform : y.regF (Reg.turLinkStatus n) 41 2 = 1 := by
      rw [hy]
      exact regF_setF _ _ 1 (by decide)
    have hset : OnlyRegs [Reg.turLinkStatus n] s.dev y := hy ▸ onlyRegs_setF _ _ _ _ _
    obtain ⟨e, he⟩ : ∃ e, e = (y.setF (Reg.turLinkStatus n) 46 2 (s.dev.link n).genCode).toLinkState n 3 := ⟨_, rfl⟩
    obtain ⟨hstate, h41, h46, honly⟩ := trained_locks hst (hy ▸ regF_setF_ne _ _ _ (.inr (by decide))) he
    rw [linkTrained_eq hst, if_pos hshort, ← hy, ← he]
    exact ⟨hstate, h41.trans hform, by rw [h46, hx]; rfl, hset.trans honly⟩
  case full =>
    refine completes_took (f := (·.linkTrained n v)) rfl ha ?_
    have hshort : s.dev.trainsShort n v = false := by
      unfold Device.trainsShort
      rw [hx]
      rcases hno with h | h | h | h <;> simp [h]
    obtain ⟨hfst, hf41, hf24, hfrec, hffull, hfmem, hfregs⟩ := fullTrained_effect s.dev n rfl
    obtain ⟨e, he⟩ : ∃ e, e = ((s.dev.fullTrained n).setF (Reg.turLinkStatus n) 46 2 (s.dev.link n).genCode).toLinkState n 3 :=
      ⟨_, rfl⟩
    obtain ⟨hstate, h41, -, honly⟩ := trained_locks hst hfst he
    rw [linkTrained_eq hst, if_neg (by simp [hshort]), ← he]
    have hsame : SameRegs [Reg.turLinkCtl n, Reg.turLinkStatus n] s.dev e := fun a h =>
      (honly.2 a fun hm => h (List.mem_cons_of_mem _ hm)).trans (hfregs a h)
    have hlink : e.link n = (s.dev.fullTrained n).link n := by
      rw [honly.1]
      rfl
    refine ⟨hstate, h41.trans hf41, ?_, trainedRecord_valid (hlink ▸ hfrec) (hsame _ (bfyId_ne_link n)), ?_, ?_,
      hfmem.trans honly.sameMemory, hsame⟩
    · rw [regBit_congr (honly.2 _ (by simpa using turLinkCtl_ne_status n)), hf24]
    · rw [hlink, hfrec]
      rfl
    · rw [hlink, hffull]
  case notTraining => exact completes_took (f := (·.linkTrained n v)) rfl ha (if_pos hst)
  case locks =>
    refine completes_took (f := (·.symbolLocked n l)) rfl ha ?_
    obtain ⟨hstate, h44, hlanes, hsame, hecho, honly⟩ :=
      symbolLocked_effect hst (fun h => hl (Fin.ext h)) l.isLt rfl
    exact ⟨hstate, h44, hlanes, hsame, hecho, honly.sameMemory, honly.2⟩
  case notLocks =>
    refine completes_took (f := (·.symbolLocked n l)) rfl ha (if_pos ?_)
    exact hor.imp id (congrArg Fin.val)
  case fails =>
    refine completes_took (f := (·.bringUpFailed n)) rfl ha ?_
    obtain ⟨hstate, hcnt, h49, hgen, honly⟩ := bringUpFailed_effect h2 h4 rfl
    rw [hx] at h49
    exact ⟨hstate, hcnt, h49, hgen, honly.sameMemory, honly.2⟩
  case notFails => exact completes_took (f := (·.bringUpFailed n)) rfl ha (if_pos hor)
  case first =>
    subst he
    refine completes_took (f := (·.exchReceived n u)) rfl ha ?_
    have hlink : ((s.dev.noteExch n u).link n).same = 1 := by
      unfold Device.noteExch
      rw [link_mapLink, hx]
      exact if_neg hlast
    rw [exchReceived_exchange hst, if_neg (by omega)]
    refine ⟨hst, ?_, hlink, rfl, rfl, rfl, rfl, rfl⟩
    unfold Device.noteExch
    rw [link_mapLink]
  case fourth =>
    refine completes_took (f := (·.exchReceived n u)) rfl ha ?_
    obtain ⟨y, hy⟩ : ∃ y, y = s.dev.noteExch n u := ⟨_, rfl⟩
    obtain ⟨ts, rtt, hlink⟩ := noteExch_again (hx ▸ he ▸ hlast) (hx ▸ hsame) (hx ▸ hecho) (hx ▸ hts) hy
    have honly : LinksOnly [] s.dev y := hy ▸ ⟨rfl, fun _ _ => rfl⟩
    have hgen' : y.choosesGen2 n u.peer = (y.link n).gen2 := by
      rw [hlink, hx, ← hgen, hy]
      rfl
    have hcorrect : y.choosesCorrect n u.peer (y.link n).gen2 = s.dev.choosesCorrect n u.peer x.gen2 := by
      rw [hlink, hx, hy]
      rfl
    have hcode : (y.link n).genCode = if x.gen2 then 2 else 1 := by
      rw [hlink, hx]
      rfl
    obtain ⟨z, hz⟩ : ∃ z, z = y.agreed n e := ⟨_, rfl⟩
    obtain ⟨e', he'⟩ : ∃ e', e' = z.activate n := ⟨_, rfl⟩
    have hend : s.dev.exchReceived n u = e' := by
      rw [exchReceived_exchange hst, ← hy, if_pos (by rw [hlink]; exact ⟨le_rfl, hx ▸ hecho⟩), ← he, he', hz]
      exact exchanged_agrees (by rw [hlink, hx]; exact hlanes) (by rw [he]; exact hwidth) (by rw [he]; exact hgen')
    obtain ⟨-, hpeer, hdone, h44, h46, h43, hone, hfour, hset⟩ := agreed_effect y n e hz
    obtain ⟨hstate, hlast', hfields, hact⟩ := activate_effect z n.isLt he'
    rw [hend]
    have hpeer' : Reg.turLinkPeer n ∉ [Reg.turLinkStatus n, Reg.cluStatus] := by
      simp only [List.mem_cons, List.not_mem_nil, or_false, Reg.turLinkPeer, Reg.turLinkStatus, Reg.cluStatus]
      omega
    have hall : LinksOnly [Reg.turLinkStatus n, Reg.turLinkPeer n, Reg.turLinkPeerEpoch n, Reg.cluStatus] s.dev e' :=
      (honly.mono (by simp)).trans ((hset.mono (by simp)).trans (hact.mono (by simp)))
    have h53 := hfields 53 3 (by decide) (.inr (by decide))
    refine ⟨hstate, ?_, ?_, ?_, ?_, bit_of_fld ?_, by omega, by omega, hall.sameMemory, hall.2⟩
    · rw [hact.2 _ hpeer', hpeer, he]
    · rw [hlast', hdone]
    · rw [hfields 44 2 (by decide) (.inl (by decide)), h44]
    · rw [hfields 46 2 (by decide) (.inl (by decide)), h46, hcode]
    · rw [← hcorrect, ← Device.regF, hfields 43 1 (by decide) (.inl (by decide)), h43, he]
  case again =>
    subst he
    refine completes_took (f := (·.exchReceived n u)) rfl ha ?_
    rw [exchReceived_active hst, if_pos (hx ▸ hdone)]
    refine ⟨?_, rfl, rfl, rfl, rfl, rfl⟩
    rw [link_mapLink, hx]
  case differs =>
    subst he
    refine completes_took (f := (·.exchReceived n u)) rfl ha ?_
    rw [exchReceived_active hst, if_neg (hx ▸ hdone)]
    have honly := linksOnly_toLinkState s.dev n 4
    refine ⟨?_, ?_, ?_, ?_, honly.sameMemory, honly.2⟩
    · exact linkState_toLinkState s.dev n (by decide)
    · rw [link_mapLink]
    · rw [link_mapLink]
    · rw [link_mapLink, link_toLinkState, if_pos ⟨hst, by decide⟩]
      rfl
  case markers =>
    refine completes_took (f := (·.markersLost n)) rfl ha ?_
    obtain ⟨hstate, hcnt, hlink, -, honly⟩ := counted_toLinkState s.dev (turLockLossCnt_ne_status n) (st := 3) (by decide) rfl
    rw [Device.markersLost, if_pos hst]
    rw [if_pos ⟨hst, by decide⟩] at hlink
    exact ⟨hstate, hcnt, by rw [hlink]; rfl, honly.sameMemory, honly.2⟩
  case noMarkers => exact completes_took (f := (·.markersLost n)) rfl ha (if_neg hst)

end Sys2Proof.Machine
end

section
/-! PROOFS. Frames, slots and flits of an ACTIVE link (R320 - R324, R330 - R334). -/

namespace Sys2Proof.Machine

open Sys2Proof

/-! ### Transmission (R320, R322, R330) -/

theorem frameLen_pos (d : Device) (n : Nat) : 0 < d.frameLen n := by
  unfold Device.frameLen
  split <;> decide

/-- A frame that begins now is the one that the frame length names. -/
theorem frameStart_now {d : Device} {n : Nat} (hst : d.linkState n = 5) (hnow : d.now % d.frameLen n = 0)
    (hnew : (d.link n).txFrame ≠ d.now / d.frameLen n) {e : Device} (he : e = d.frameStart n) :
    (e.link n).txFrame = d.now / d.frameLen n ∧ (e.link n).txSlot = 0 ∧ e = { d with links := e.links } := by
  have hlen := frameLen_pos d n
  obtain ⟨k, hk⟩ : ∃ k, d.now = d.frameLen n * k := ⟨_, (Nat.mul_div_cancel' (Nat.dvd_of_mod_eq_zero hnow)).symm⟩
  have hdiv : d.now / d.frameLen n = k := by rw [hk, Nat.mul_div_cancel_left _ hlen]
  have hceil : (d.now + d.frameLen n - 1) / d.frameLen n = k := by
    rw [hk, show d.frameLen n * k + d.frameLen n - 1 = (d.frameLen n - 1) + d.frameLen n * k from by omega,
      Nat.add_mul_div_left _ _ hlen, Nat.div_eq_of_lt (by omega), Nat.zero_add]
  have hadv : d.advance (k * d.frameLen n) = d := advance_past (by rw [hk, Nat.mul_comm])
  have hnew' : ¬k = (d.link n).txFrame := fun h => hnew (by rw [hdiv, h])
  unfold Device.frameStart at he
  dsimp only at he
  rw [hst, if_neg (by decide), hceil, if_neg hnew', hadv] at he
  refine ⟨?_, ?_, ?_⟩
  · rw [he, link_mapLink, hdiv]
  · rw [he, link_mapLink]
  · rw [he]
    rfl

/-- The flit that slot `x.txSlot` of the frame in transmission carries with `body`. -/
def Link.flitOf (x : Link) (body : FlitBody) : Flit :=
  { slot := x.txSlot, frame := x.txFrame % 2048, replay := none, nak := none, body := body }

/-- The device in which `body` has left in the next slot of link `n`. -/
def Device.slotSent (d : Device) (n : Nat) (x : Link) (body : FlitBody) : Device :=
  let e := (d.emit (.flit n (x.flitOf body))).driveFlit n (x.flitOf body)
  (if body matches .idle then e else e.bump (Reg.turTxFlitCnt n) 1).mapLink n (fun y => { y with
    txSlot := x.txSlot + 1,
    sent := if x.txSlot = 31 then y.sent else y.sent ++ [{ frame := x.txFrame, flit := x.flitOf body }] })

theorem transmit_slot {d : Device} {n : Nat} {x : Link} (hx : d.link n = x) (hst : d.linkState n = 5) (hslot : x.txSlot < 31)
    (hbegin : d.slotBegin n x.txFrame x.txSlot ≤ d.now) (hnak : x.nakTx = none) : d.transmit n =
      (d.slotBody n x.txFrame x.txSlot (d.slotBegin n x.txFrame x.txSlot)).2.slotSent n x
        (d.slotBody n x.txFrame x.txSlot (d.slotBegin n x.txFrame x.txSlot)).1 := by
  unfold Device.transmit
  dsimp only
  rw [hst, hx, if_neg (by omega), advance_past hbegin, hnak, if_neg (by omega)]
  dsimp only
  rw [if_neg (show ¬(5 : Nat) = 4 by decide)]
  rfl

theorem slotBody_free {d : Device} {n f k at_ : Nat} (h : d.slotEntry n f k = none) :
    d.slotBody n f k at_ = d.unboundSlot n at_ := by
  unfold Device.slotBody
  rw [h]

theorem unboundSlot_idle {d : Device} {n at_ : Nat} (hctrl : d.links.ctrl = []) (hdyn : mapGet [] d.links.dyn n = []) :
    d.unboundSlot n at_ = (.idle, d) := by
  have hnone : (d.takeControl n at_).1 = [] := by
    unfold Device.takeControl
    rw [hctrl]
    rfl
  unfold Device.unboundSlot
  dsimp only
  rw [hnone, hdyn]
  rfl

/-- One control unit without time stamps takes a free slot. -/
theorem unboundSlot_control {d : Device} {n at_ : Nat} {u : CtrlUnit} (hctrl : d.links.ctrl = [u]) (hlink : u.link = n)
    (h10 : u.typ ≠ 0x10) (h11 : u.typ ≠ 0x11) (hfit : d.regBit (Reg.turLinkStatus n) 50 = false) :
    d.unboundSlot n at_ = (.ctrl [(u.typ, u.words)], { d with links := { d.links with ctrl := [] } }) := by
  have hstamp : d.stampControl at_ u = (u.typ, u.words) := by
    unfold Device.stampControl
    dsimp only
    rw [if_neg h10, if_neg h11]
  have htake : d.takeControl n at_ = ([(u.typ, u.words)], { d with links := { d.links with ctrl := [] } }) := by
    have hmine : (d.links.ctrl.filter (fun u => u.link == n)).take 4 = [u] := by
      rw [hctrl, List.filter_cons_of_pos (by simp [hlink])]
      rfl
    have hrest : [u].foldl (fun l u => l.erase u) d.links.ctrl = [] := by simp [hctrl]
    unfold Device.takeControl
    dsimp only
    rw [hmine, hrest, List.map_singleton, hstamp, List.filter_cons_of_neg (by simpa using h11)]
    rfl
  unfold Device.unboundSlot
  dsimp only
  rw [htake, hfit]
  rfl

/-! ### Reception (R323, R331 - R333) -/

theorem receive_corrupted {d : Device} {n f : Nat} {fl : Flit} (hst : d.linkState n = 5) (hf : d.rxFrame n fl.frame = f)
    (harr : d.arrival n (d.regF (Reg.turLinkStatus n) 24 12) f fl.slot ≤ d.now) (c : Nat) : d.receive n fl c true =
      d.corruptedIn n f fl := by
  unfold Device.receive
  dsimp only
  rw [hst, hf, advance_past harr]
  simp

/-- The first corrupted flit of its frame keeps its place and is asked for again. -/
theorem corruptedIn_first {d : Device} {n f : Nat} {fl : Flit} (hslot : fl.slot < 31) (hheld : (d.link n).held = [])
    (hbad : (d.link n).badFrames.contains f = false) {e : Device} (he : e = d.corruptedIn n f fl) :
    (e.link n).held = [{ frame := f, flit := fl, ok := false, at_ := d.now }] ∧
    (e.link n).nakTx = some (f, fl.slot, (d.link n).txFrame + 1) ∧ (e.link n).bad = (d.link n).bad ++ [(f, fl.slot)] ∧
    e.reg (Reg.turFlitBadCnt n) = d.reg (Reg.turFlitBadCnt n) + 1 ∧ LinksOnly [Reg.turFlitBadCnt n] d e := by
  obtain ⟨y, hy⟩ : ∃ y, y = (d.bump (Reg.turFlitBadCnt n) 1).mapLink n
    (fun x => { x with held := x.held ++ [{ frame := f, flit := fl, ok := false, at_ := d.now }] }) := ⟨_, rfl⟩
  have hlink : y.link n = { d.link n with held := (d.link n).held ++ [{ frame := f, flit := fl, ok := false, at_ := d.now }] } := by
    rw [hy]
    exact link_mapLink (d.bump (Reg.turFlitBadCnt n) 1) n _
  have hend : e = y.mapLink n (fun x => { x with
      bad := x.bad ++ [(f, fl.slot)], badFrames := f :: x.badFrames.take 7, nakTx := some (f, fl.slot, x.txFrame + 1) }) := by
    have hno : ¬(y.link n).badFrames.contains f = true := by
      rw [hlink]
      simp only [hbad, Bool.false_eq_true, not_false_eq_true]
    rw [he, Device.corruptedIn, if_neg (by omega)]
    exact (congrArg (fun z : Device => if (z.link n).badFrames.contains f then z else z.mapLink n _) hy.symm).trans (if_neg hno)
  have hcount : LinksOnly [Reg.turFlitBadCnt n] d (d.bump (Reg.turFlitBadCnt n) 1) := .of_onlyRegs (onlyRegs_bump d _ 1)
  refine ⟨?_, ?_, ?_, ?_, ?_⟩
  · rw [hend, link_mapLink, hlink, hheld]
    rfl
  · rw [hend, link_mapLink, hlink]
  · rw [hend, link_mapLink, hlink]
  · rw [hend, hy]
    exact reg_bump d _ 1
  · rw [hend, hy]
    exact (hcount.mapLink n _).mapLink n _

/-- The device in which an intact flit of link `n`, with `c` corrected symbols, has been counted. -/
def Device.flitCounted (d : Device) (n c : Nat) : Device := (d.bump (Reg.turFecCorrCnt n) c).bump (Reg.turRxFlitCnt n) 1

theorem receive_intact {d : Device} {n f c : Nat} {fl : Flit} {us : List NetFlit} (hst : d.linkState n = 5)
    (hf : d.rxFrame n fl.frame = f) (harr : d.arrival n (d.regF (Reg.turLinkStatus n) 24 12) f fl.slot ≤ d.now)
    (hrep : fl.replay = none) (hnak : fl.nak = none) (hbody : fl.body = .dyn us) (hok : flitOk fl = true)
    (hfec : d.regBit (Reg.turLinkStatus n) 43 = true) (hheld : (d.link n).held = []) :
    d.receive n fl c false = us.foldl (fun d u => d.netFlitIn n u) (d.flitCounted n c) := by
  have hheld' : ((d.flitCounted n c).link n).held = [] := hheld
  unfold Device.receive
  dsimp only
  rw [hst, hf, advance_past harr, hfec, hok, hnak, hbody, hrep]
  simp only [Device.nakReceived, Bool.not_false, Bool.and_true, Bool.not_true, Bool.false_or, Bool.false_and, if_true,
    Bool.false_eq_true, if_false, ne_eq, not_true_eq_false, and_false]
  show (if ((d.flitCounted n c).link n).held.isEmpty then (d.flitCounted n c).deliverFlit n f (d.flitCounted n c).now fl else _) = _
  rw [hheld']
  show (d.flitCounted n c).deliverFlit n f (d.flitCounted n c).now fl = _
  unfold Device.deliverFlit
  rw [hbody]

theorem netFlitIn_head (d : Device) {n : Nat} {u : NetFlit} (hhead : u.head = true) (htail : u.tail = false) :
    d.netFlitIn n u = { d with links := { d.links with asm := mapPut [] d.links.asm (2 * n + b2n u.vcr) [u] } } := by
  unfold Device.netFlitIn
  dsimp only
  rw [hhead, if_pos rfl]
  dsimp only
  rw [htail]
  rfl

/-! ### The replay deadline (R332, R333) -/

/-- The device in which the only held flit `h` of link `n` waits no more. -/
def Device.unheld (d : Device) (n : Nat) (h : RxSlot) : Device :=
  (d.mapLink n (fun x => { x with held := [] })).mapLink n
    (fun x => { x with bad := x.bad.filter (· != (h.frame, h.flit.slot)) })

theorem unheld_held (d : Device) (n : Nat) (h : RxSlot) : ((d.unheld n h).link n).held = [] :=
  (congrArg Link.held (link_mapLink _ n _)).trans (congrArg Link.held (link_mapLink d n _))

theorem releaseHeld_corrupt {d : Device} {n upto : Nat} {h : RxSlot} (hheld : (d.link n).held = [h]) (hbad : h.ok = false)
    (hf : h.frame < upto) : d.release n upto = (d.unheld n h).dropFlit n h.frame h.flit := by
  unfold Device.release
  rw [hheld, List.length_singleton, Device.releaseHeld, hheld]
  dsimp only
  rw [hbad, if_neg Bool.false_ne_true, if_pos hf]
  rfl

theorem dropFlit_dyn {d : Device} {n f : Nat} {fl : Flit} {us : List NetFlit} (hentry : d.slotEntry n f fl.slot = none)
    (hbody : fl.body = .dyn us) : d.dropFlit n f fl = { d.bump (Reg.turDropDynCnt n) 1 with links := { d.links with
      asm := mapPut [] (mapPut [] d.links.asm (2 * n) []) (2 * n + 1) [] } } := by
  unfold Device.dropFlit
  dsimp only
  rw [hentry, hbody]
  rfl

/-! ### A slot without scheduled traffic (R334) -/

/-- Besides registers at the offsets `as`, only the running task may differ, and it still runs. -/
def RunOnly (as : List Nat) (d d' : Device) : Prop :=
  d' = { d with regs := d'.regs, lantern := { d.lantern with run := d'.lantern.run } } ∧ SameRegs as d d' ∧
  d'.lantern.run.isSome = d.lantern.run.isSome

namespace RunOnly
variable {as bs : List Nat} {d d' d'' : Device}

theorem refl (as : List Nat) (d : Device) : RunOnly as d d := ⟨rfl, fun _ _ => rfl, rfl⟩

theorem trans (h : RunOnly as d d') (h' : RunOnly as d' d'') : RunOnly as d d'' :=
  ⟨by rw [h'.1, h.1], fun a ha => (h'.2.1 a ha).trans (h.2.1 a ha), h'.2.2.trans h.2.2⟩

theorem mono (h : RunOnly as d d') (hs : ∀ a ∈ as, a ∈ bs) : RunOnly bs d d' :=
  ⟨h.1, fun a ha => h.2.1 a fun hx => ha (hs a hx), h.2.2⟩

theorem of_onlyRegs (h : OnlyRegs as d d') : RunOnly as d d' := ⟨by rw [h.1], h.2, by rw [h.1]⟩

theorem sameMemory (h : RunOnly as d d') : SameMemory d d' := by
  rw [h.1]
  exact ⟨rfl, rfl, rfl, rfl⟩

theorem thread_eq (h : RunOnly as d d') (tk : Nat) : d'.thread tk = d.thread tk := by
  rw [h.1]
  rfl

end RunOnly

theorem runOnly_markPoison (as : List Nat) (d : Device) (c : Nat) : RunOnly as d (d.markPoison c) :=
  ⟨rfl, fun _ _ => rfl, Option.isSome_map ..⟩

/-- A running task that has been marked is POISONED, for the cause that the mark names. -/
theorem markPoison_run {d : Device} {c : Nat} (h : d.lantern.run.isSome) :
    ∃ r, d.lantern.run = some r ∧ (d.markPoison c).lantern.run =
      some { r with poisoned := true, cause := r.cause ||| BitVec.ofNat 8 (2 ^ (c - 48)) } := by
  obtain ⟨r, hr⟩ := Option.isSome_iff_exists.1 h
  exact ⟨r, hr, (congrArg (Option.map _) hr).trans rfl⟩

/-- Units for a thread that does not exist are counted. -/
theorem linkDeliver_none {d : Device} {tk : Nat} (h : d.thread tk = none) (u : DUnit) :
    d.linkDeliver tk u = (d.bump (Reg.steLinkDropCnt (tk / 256)) 1).markPoison 50 := by
  unfold Device.linkDeliver
  rw [h]

theorem linkDeliver_many {d : Device} {tk : Nat} (h : d.thread tk = none) (u : DUnit) (k : Nat) {e : Device}
    (he : e = (List.range k).foldl (fun d _ => d.linkDeliver tk u) d) :
    e.reg (Reg.steLinkDropCnt (tk / 256)) = d.reg (Reg.steLinkDropCnt (tk / 256)) + BitVec.ofNat 64 k ∧
    RunOnly [Reg.steLinkDropCnt (tk / 256)] d e := by
  induction k generalizing e with
  | zero => exact ⟨by rw [he]; exact (BitVec.add_zero _).symm, he ▸ RunOnly.refl _ d⟩
  | succ k ih =>
    obtain ⟨x, hx⟩ : ∃ x, x = (List.range k).foldl (fun d _ => d.linkDeliver tk u) d := ⟨_, rfl⟩
    obtain ⟨hcnt, honly⟩ := ih hx
    have hend : e = (x.bump (Reg.steLinkDropCnt (tk / 256)) 1).markPoison 50 := by
      rw [he, List.range_succ, List.foldl_append, ← hx]
      exact linkDeliver_none ((honly.thread_eq tk).trans h) u
    refine ⟨?_, ?_⟩
    · rw [hend, reg_markPoison, reg_bump, hcnt, BitVec.add_assoc, ← BitVec.ofNat_add]
    · rw [hend]
      exact honly.trans ((RunOnly.of_onlyRegs (onlyRegs_bump x _ 1)).trans (runOnly_markPoison _ _ 50))

theorem rxThread_lt {e : Option Word} {tk : Nat} (h : rxThread e = some tk) : tk < 1024 := by
  cases e with
  | none => cases h
  | some w =>
    have hb : (if bit w 12 && !bit w 13 then some (256 * fld w 14 2 + fld w 16 8) else none) = some tk := h
    split at hb
    · have h2 := fld_lt w 14 2
      have h8 := fld_lt w 16 8
      obtain rfl := Option.some.inj hb
      omega
    · cases hb

theorem dropScheduled_effect {d : Device} {n tk : Nat} (hn : n < 64) (htk : tk < 1024) (h : d.thread tk = none) {e : Device}
    (he : e = d.dropScheduled n (some tk)) :
    e.reg (Reg.steLinkDropCnt (tk / 256)) = d.reg (Reg.steLinkDropCnt (tk / 256)) + 4 ∧
    e.reg (Reg.turDropSchedCnt n) = d.reg (Reg.turDropSchedCnt n) + 1 ∧
    (∀ r, d.lantern.run = some r → e.lantern.run.map (fun u => u.poisoned && bit u.cause 2) = some true) ∧
    RunOnly [Reg.steLinkDropCnt (tk / 256), Reg.turDropSchedCnt n] d e := by
  obtain ⟨x, hx⟩ : ∃ x, x = (List.range 4).foldl (fun d _ => d.linkDeliver tk poisonUnit) d := ⟨_, rfl⟩
  obtain ⟨hcnt, honly⟩ := linkDeliver_many h poisonUnit 4 hx
  have hend : e = (x.bump (Reg.turDropSchedCnt n) 1).markPoison 50 := by rw [he, hx]; rfl
  have hne : Reg.steLinkDropCnt (tk / 256) ≠ Reg.turDropSchedCnt n := by
    unfold Reg.steLinkDropCnt Reg.turDropSchedCnt
    omega
  refine ⟨?_, ?_, fun r hr => ?_, ?_⟩
  · rw [hend, reg_markPoison, reg_bump_ne _ _ hne, hcnt]
    rfl
  · rw [hend, reg_markPoison, reg_bump, honly.2.1 _ (by simpa using hne.symm)]
    rfl
  · have hrun : (x.bump (Reg.turDropSchedCnt n) 1).lantern.run.isSome := by
      show x.lantern.run.isSome
      rw [honly.2.2, hr]
      rfl
    obtain ⟨u, -, hu⟩ := markPoison_run (c := 50) hrun
    rw [hend, hu, Option.map_some]
    have hbit : bit (u.cause ||| BitVec.ofNat 8 (2 ^ (50 - 48))) 2 = true := by
      unfold bit
      rw [BitVec.getLsbD_or]
      exact Bool.or_true _
    rw [hbit]
    rfl
  · rw [hend]
    exact (honly.mono (by simp)).trans (((RunOnly.of_onlyRegs (onlyRegs_bump x _ 1)).mono (by simp)).trans
      (runOnly_markPoison _ _ 50))

/-- Driving a flit onto the lanes touches what the lanes carry. -/
theorem driveFlit_eq (d : Device) (n : Nat) (fl : Flit) :
    ∃ scr wire, d.driveFlit n fl = d.mapLink n (fun x => { x with scramblers := scr, wire := wire }) := ⟨_, _, rfl⟩

theorem slotSent_effect (d : Device) (n : Nat) (x : Link) (body : FlitBody) {e : Device} (he : e = d.slotSent n x body) :
    (e.link n).txSlot = x.txSlot + 1 ∧ e.out = d.out ++ [.flit n (x.flitOf body)] ∧ e.links.ctrl = d.links.ctrl ∧
    SameMemory d e ∧ (body = .idle → e.regs = d.regs) ∧
    (body ≠ .idle → e.reg (Reg.turTxFlitCnt n) = d.reg (Reg.turTxFlitCnt n) + 1 ∧ SameRegs [Reg.turTxFlitCnt n] d e) := by
  obtain ⟨scr, wire, hdrive⟩ := driveFlit_eq (d.emit (.flit n (x.flitOf body))) n (x.flitOf body)
  unfold Device.slotSent at he
  dsimp only at he
  rw [hdrive] at he
  cases body with
  | idle =>
    subst he
    exact ⟨congrArg Link.txSlot (link_mapLink _ n _), rfl, rfl, ⟨rfl, rfl, rfl, rfl⟩, fun _ => rfl, fun h => absurd rfl h⟩
  | sched | dyn | ctrl =>
    subst he
    refine ⟨congrArg Link.txSlot (link_mapLink _ n _), rfl, rfl, ⟨rfl, rfl, rfl, rfl⟩, fun h => (nomatch h), fun _ => ⟨?_, ?_⟩⟩
    · exact reg_bump _ _ 1
    · exact fun a ha => reg_bump_ne _ 1 (by simpa using ha)

theorem receive_completes {s : State} (n : Fin 64) (fl : Flit) (c : Nat) (bad : Bool) {P : Device → Prop}
    (ha : s.dev.alive = true) (hp : P (s.dev.receive n fl c bad)) : Completes (.flitReceive n fl c bad) s P :=
  completes_took (f := (·.receive n fl c bad)) rfl ha hp

/-- Settles O30: each claim is one form of a slot: what leaves in it, a corrupted or an intact flit received in it, its drop at
the replay deadline, or poison in its place. -/
theorem framesCarryFlits : Obligations.FramesCarryFlits := by
  intro s n x ha hx hst
  refine ⟨fun hnow hnew => ?starts, fun hslot hbegin hentry hnak hdyn => ⟨fun hctrl => ?idle,
      fun u hctrl hlink h10 h11 hfit => ?control⟩,
    fun fl f hf hslot hrep hnak hheld harr => ⟨fun hbad c => ?corrupted,
      fun u c hbody hhead htail hok hfec => ?intact⟩,
    fun h us hheld hbad hbody hentry harr => ?deadline,
    fun f k => ⟨fun hor => ?carried, fun tk hrx hsched hnext hthread harr => ?poison⟩⟩
  case starts =>
    refine completes_took (f := (·.frameStart n)) rfl ha ?_
    obtain ⟨hframe, hslot, honly⟩ := frameStart_now hst hnow (hx ▸ hnew) rfl
    rw [honly] at hframe hslot ⊢
    exact ⟨hframe, hslot, rfl, ⟨rfl, rfl, rfl, rfl⟩, rfl⟩
  case idle =>
    refine completes_took (f := (·.transmit n)) rfl ha ?_
    rw [transmit_slot hx hst hslot hbegin hnak, slotBody_free hentry, unboundSlot_idle hctrl hdyn]
    obtain ⟨hslot', hout, -, hmem, hregs, -⟩ := slotSent_effect s.dev n x .idle rfl
    exact ⟨hout, hslot', hregs rfl, hmem⟩
  case control =>
    refine completes_took (f := (·.transmit n)) rfl ha ?_
    rw [transmit_slot hx hst hslot hbegin hnak, slotBody_free hentry, unboundSlot_control hctrl hlink h10 h11 hfit]
    obtain ⟨y, hy⟩ : ∃ y : Device, y = { s.dev with links := { s.dev.links with ctrl := [] } } := ⟨_, rfl⟩
    obtain ⟨hslot', hout, hctrl', hmem, -, hcount⟩ := slotSent_effect y n x (.ctrl [(u.typ, u.words)]) rfl
    obtain ⟨hcnt, hsame⟩ := hcount (by simp)
    dsimp only
    rw [← hy]
    have hregs (a : Nat) : y.reg a = s.dev.reg a := by rw [hy]; rfl
    have hmem' : SameMemory s.dev y := by
      rw [hy]
      exact ⟨rfl, rfl, rfl, rfl⟩
    refine ⟨?_, ?_, hslot', ?_, fun a h => (hsame a h).trans (hregs a), hmem'.trans hmem⟩
    · rw [hctrl', hy]
    · rw [hout, hy]
      rfl
    · rw [hcnt, hregs]
  case corrupted =>
    refine receive_completes n fl c true ha ?_
    rw [receive_corrupted hst hf harr]
    obtain ⟨h1, h2, h3, h4, honly⟩ := corruptedIn_first hslot (hx ▸ hheld) (hx ▸ hbad) rfl
    rw [hx] at h2 h3
    exact ⟨h1, h2, h3, h4, honly.2, honly.sameMemory, by rw [honly.1]⟩
  case intact =>
    refine receive_completes n fl c false ha ?_
    rw [receive_intact hst hf harr hrep hnak hbody hok hfec (hx ▸ hheld)]
    rw [List.foldl_cons, List.foldl_nil, netFlitIn_head _ hhead htail]
    have hne : Reg.turFecCorrCnt n ≠ Reg.turRxFlitCnt n := by
      unfold Reg.turFecCorrCnt Reg.turRxFlitCnt
      omega
    obtain ⟨hfecs, hrx, honly⟩ := counted_effect s.dev hne c 1 rfl
    refine ⟨mapGet_mapPut .., hrx, hfecs, fun a h => honly.2 a ?_, ⟨rfl, rfl, rfl, rfl⟩, rfl⟩
    simpa [or_comm] using h
  case deadline =>
    refine completes_took (f := (·.replayOver n h.frame)) rfl ha ?_
    have hentry' : (s.dev.unheld n h).slotEntry n h.frame h.flit.slot = none := hentry
    rw [Device.replayOver, if_neg (not_not.2 hst), advance_past harr,
      releaseHeld_corrupt (hx ▸ hheld) hbad (Nat.lt_succ_self _), dropFlit_dyn hentry' hbody]
    refine ⟨?_, reg_bump _ _ 1, ?_, ?_, fun a h => reg_bump_ne _ 1 (by simpa using h), rfl, rfl, rfl, rfl⟩
    · exact unheld_held s.dev n h
    · exact (mapGet_mapPut_ne _ _ _ (by omega)).trans (mapGet_mapPut ..)
    · exact mapGet_mapPut ..
  case carried =>
    refine completes_took (f := (·.slotDropped n f k)) rfl ha ?_
    unfold Device.slotDropped
    split
    · rfl
    next tk hrx =>
      rw [hrx] at hor
      exact if_pos (.inl (hor.resolve_left (by simp)))
  case poison =>
    refine completes_took (f := (·.slotDropped n f k)) rfl ha ?_
    obtain ⟨e, he⟩ : ∃ e, e = s.dev.dropScheduled n (some tk) := ⟨_, rfl⟩
    obtain ⟨hste, htur, hrun, honly⟩ := dropScheduled_effect n.isLt (rxThread_lt hrx) hthread he
    have hend : s.dev.slotDropped n f k = e.mapLink n (fun x => { x with dropNext := 31 * f + k + 1 }) := by
      unfold Device.slotDropped
      rw [hrx]
      dsimp only
      rw [if_neg (by rw [hsched, hx]; simpa using hnext), advance_past harr, ← he]
    rw [hend]
    exact ⟨hste, htur, congrArg Link.dropNext (link_mapLink _ _ _), hrun, honly.2.1, honly.sameMemory⟩

end Sys2Proof.Machine
end


section
/-! PROOFS. Multicast groups: copies offered, outputs detached and attached again (R356 - R360). -/

namespace Sys2Proof.Machine

open Sys2Proof

/-! ### A write to a group's port (R356, R357) -/

/-- A write of this device that the group does not take is counted. -/
theorem portWrite_refused {d : Device} {g init : Nat} {full : Bool} {u : DUnit}
    (h : full = false ∨ ∀ x, d.group g = some x → x.en = false ∨ x.root = false) :
    d.portWrite g init none full u none = d.bump Reg.cluMcBadwrCnt 1 := by
  have hno : (full && (d.group g).elim false (fun x => x.en && x.root)) = false := by
    rcases h with h | h
    · rw [h]
      rfl
    · cases hg : d.group g with
      | none => exact Bool.and_false _
      | some x => rcases h x hg with h | h <;> simp [h]
  exact if_pos hno

/-- The copies of a group when the one held is `c`, once settled. -/
theorem settleCopies_one {d : Device} {c : McCopy} (hcopies : d.cluster.copies = [c]) (hwaits : d.cluster.waits = [])
    (htxn : c.txn = none) : d.settleCopies = d.setCopies (if c.waiting.isEmpty then [] else [c]) := by
  unfold Device.settleCopies Device.finishCopies
  rw [hwaits, hcopies]
  cases hw : c.waiting.isEmpty
  · simp [Device.admitCopies, hw]
  · simp [Device.admitCopies, hw, htxn]

/-- A local queue takes no copy that waits for links alone. -/
theorem serveCopies_of_links {d : Device} {c : McCopy} (hcopies : d.cluster.copies = [c]) (h : c.waiting.contains 64 = false) :
    d.serveCopies = d := by
  have hfind (g : Nat) : d.cluster.copies.find? (fun c => c.group == g && c.waiting.contains 64) = none := by
    rw [hcopies, List.find?_cons_of_neg (by rw [h]; simp), List.find?_nil]
  unfold Device.serveCopies
  generalize List.range 256 = gs
  induction gs with
  | nil => rfl
  | cons g gs ih =>
    rw [List.foldl_cons, hfind]
    cases d.group g <;> exact ih

section
variable {d : Device} {g l : Nat} {x : McGroup} (hg : d.group g = some x) (hen : x.en = true) (hroot : x.root = true)
  (hout : groupOutputs x = [l]) (hl : l < 64) (hcopies : d.cluster.copies = []) (hwaits : d.cluster.waits = [])

/-- The copy of `v` that group `g` holds for the outputs `w`. -/
def Device.heldCopy (d : Device) (g : Nat) (v : Line) (w : List Nat) : McCopy :=
  { group := g, data := freshUnit v, waiting := w, since := d.now, init := 0x80, txn := none }

include hg hen hroot hcopies hwaits in
theorem portWrite_taken (v : Line) : d.portWrite g 0x80 none true (freshUnit v) none =
    (d.offerCopy (d.heldCopy g v [])).settleCopies.serveCopies := by
  have hfull : d.groupFull g = false := by
    unfold Device.groupFull Device.groupCopies
    rw [hcopies]
    rfl
  unfold Device.portWrite
  rw [hg, hfull, hwaits]
  dsimp only [Option.elim_some]
  rw [hen, hroot]
  rfl

/-- The device in which the attached outputs `w` of group `g` have been offered `v`, before the copies for links are sent. -/
def Device.offered (d : Device) (g : Nat) (v : Line) (w : List Nat) (dropped : Nat) : Device :=
  (d.bump Reg.cluMcDropCnt dropped).setCopies [d.heldCopy g v w]

include hg hout hl hcopies in
theorem offerCopy_attached (hdet : d.isDetached g l = false) (v : Line) :
    d.offerCopy (d.heldCopy g v []) = (d.offered g v [l] 0).sendCopy g l (freshUnit v) := by
  have hatt : (groupOutputs x).filter (fun o => !d.isDetached g o) = [l] := by
    rw [hout, List.filter_cons_of_pos (by simp [hdet]), List.filter_nil]
  have hlink : [l].filter (· < 64) = [l] := by
    rw [List.filter_cons_of_pos (by simpa using hl), List.filter_nil]
  unfold Device.offerCopy
  dsimp only [Device.heldCopy]
  rw [hg]
  dsimp only
  rw [hatt, hout, hlink, bump_cluster, hcopies]
  rfl

include hg hout hcopies in
theorem offerCopy_detached (hdet : d.isDetached g l = true) (v : Line) :
    d.offerCopy (d.heldCopy g v []) = d.offered g v [] 1 := by
  have hatt : (groupOutputs x).filter (fun o => !d.isDetached g o) = [] := by
    rw [hout, List.filter_cons_of_neg (by simp [hdet]), List.filter_nil]
  unfold Device.offerCopy
  dsimp only [Device.heldCopy]
  rw [hg]
  dsimp only
  rw [hatt, hout, bump_cluster, hcopies]
  rfl

/-- What a copy for link `l` is: a WRITE to the same port of the device there. -/
theorem sendCopy_awake {d : Device} {g l : Nat} (u : DUnit) (hpower : d.power ≤ 1) : ∃ t : Txn, ∃ net : Net,
    d.sendCopy g l u = { d with net := net } ∧ net.txns = d.net.txns ++ [t] ∧ t.cmd = .write ∧ t.sched = false ∧
    t.data = [u] ∧ t.purpose = .multicast g l ∧ t.target = .remote l (d.regF (Reg.turLinkPeer l) 0 10) (0x20000910000 + 64 * g) := by
  refine ⟨Txn.fresh d.net.nextId (8 + l / 8) false .write (.remote l (d.regF (Reg.turLinkPeer l) 0 10)
    (0x20000000000 + mcPort g)) 1 [u] 0 (.multicast g l), _, requestWake_of_awake hpower, rfl, rfl, rfl, rfl, rfl, ?_⟩
  show NetTarget.remote l _ (0x20000000000 + mcPort g) = _
  rw [show 0x20000000000 + mcPort g = 0x20000910000 + 64 * g from by unfold mcPort; omega]

include hg hen hroot hout hl hcopies hwaits in
theorem portWrite_attached (hdet : d.isDetached g l = false) (hpower : d.power ≤ 1) (v : Line) {e : Device}
    (he : e = d.portWrite g 0x80 none true (freshUnit v) none) :
    e.cluster.copies = [d.heldCopy g v [l]] ∧
    (∃ t : Txn, e.net.txns = d.net.txns ++ [t] ∧ t.cmd = .write ∧ t.sched = false ∧ t.data = [freshUnit v] ∧
      t.purpose = .multicast g l ∧ t.target = .remote l (d.regF (Reg.turLinkPeer l) 0 10) (0x20000910000 + 64 * g)) ∧
    e.queues = d.queues ∧ SameMemory d e ∧ SameRegs [Reg.cluMcDropCnt] d e := by
  obtain ⟨y, hy⟩ : ∃ y, y = d.offered g v [l] 0 := ⟨_, rfl⟩
  have hyreg (a : Nat) (ha : a ∉ [Reg.cluMcDropCnt]) : y.reg a = d.reg a := by
    rw [hy]
    exact reg_bump_ne d 0 (by simpa using ha)
  have hypower : y.power ≤ 1 := (power_congr (hyreg _ (by decide))).symm ▸ hpower
  obtain ⟨t, net, hsend, htxns, hcmd, hsched, hdata, hpurpose, htarget⟩ := sendCopy_awake (g := g) (l := l) (freshUnit v) hypower
  have hpeer : y.regF (Reg.turLinkPeer l) 0 10 = d.regF (Reg.turLinkPeer l) 0 10 := by
    rw [Device.regF, hyreg _ (by simp only [List.mem_singleton, Reg.turLinkPeer, Reg.cluMcDropCnt]; omega), Device.regF]
  have hheld : ({ y with net := net } : Device).cluster.copies = [d.heldCopy g v [l]] := by rw [hy]; rfl
  have hnowait : ({ y with net := net } : Device).cluster.waits = [] := by
    rw [hy]
    exact hwaits
  have hset : e = ({ y with net := net } : Device).setCopies [d.heldCopy g v [l]] := by
    rw [he, portWrite_taken hg hen hroot hcopies hwaits, offerCopy_attached hg hout hl hcopies hdet, ← hy, hsend,
      settleCopies_one hheld hnowait rfl]
    exact serveCopies_of_links rfl (by simp [Device.heldCopy]; omega)
  refine ⟨by rw [hset]; rfl, ⟨t, ?_, hcmd, hsched, hdata, hpurpose, htarget.trans (by rw [hpeer])⟩, ?_, ?_, fun a ha => ?_⟩
  · rw [hset]
    exact htxns.trans (by rw [hy]; rfl)
  · rw [hset, hy]
    rfl
  · rw [hset, hy]
    exact ⟨rfl, rfl, rfl, rfl⟩
  · rw [hset]
    exact hyreg a ha

include hg hen hroot hout hcopies hwaits in
theorem portWrite_detached (hdet : d.isDetached g l = true) (v : Line) {e : Device}
    (he : e = d.portWrite g 0x80 none true (freshUnit v) none) :
    e.cluster.copies = [] ∧ e.reg Reg.cluMcDropCnt = d.reg Reg.cluMcDropCnt + 1 ∧ e.net = d.net ∧ e.queues = d.queues ∧
    SameMemory d e ∧ SameRegs [Reg.cluMcDropCnt] d e := by
  have hset : e = (d.offered g v [] 1).setCopies [] := by
    rw [he, portWrite_taken hg hen hroot hcopies hwaits, offerCopy_detached hg hout hcopies hdet,
      settleCopies_one (d := d.offered g v [] 1) (c := d.heldCopy g v []) rfl hwaits rfl]
    exact serveCopies_of_none rfl
  subst hset
  exact ⟨rfl, reg_bump d _ 1, rfl, rfl, ⟨rfl, rfl, rfl, rfl⟩, fun a ha => reg_bump_ne d 1 (by simpa using ha)⟩

end

/-! ### Detachment (R358) -/

/-- The device in which output `o` of group `g` counts as detached. -/
def Device.detaching (d : Device) (g o : Nat) : Device :=
  ({ d with cluster := { d.cluster with detached := d.cluster.detached ++ [128 * g + o] } }.bump Reg.cluMcDetachCnt 1).setDetachedBit g

theorem detachOutput_head {d : Device} {g o : Nat} {c : McCopy} (hcopies : d.cluster.copies = [c]) (hgroup : c.group = g)
    (hwait : c.waiting = [o]) (hlimit : c.since + d.regF Reg.cluMcCtl 0 24 ≤ d.now) : d.detachOutput g o =
      if o = 64 then ((d.detaching g o).dropCopies g o).markPoison 53
      else ((d.detaching g o).dropCopies g o).sendControl o 0x18 [g] := by
  have hhead : (d.groupCopies g).head? = some c := by
    unfold Device.groupCopies
    rw [hcopies, List.filter_cons_of_pos (by simp [hgroup])]
    rfl
  unfold Device.detachOutput
  rw [hhead]
  dsimp only
  rw [if_neg (by simp [hwait]), advance_past hlimit]
  rfl

theorem dropCopies_only {d : Device} {g o : Nat} {c : McCopy} (hcopies : d.cluster.copies = [c]) (hgroup : c.group = g)
    (hwait : c.waiting = [o]) (htxn : c.txn = none) (hwaits : d.cluster.waits = []) : ∃ net, d.dropCopies g o =
      ({ d with net := net }.bump Reg.cluMcDropCnt 1).setCopies [] := by
  have hn : (d.cluster.copies.filter (fun c => c.group == g && c.waiting.contains o)).length = 1 := by
    rw [hcopies, List.filter_cons_of_pos (by simp [hgroup, hwait])]
    rfl
  have hmap : d.cluster.copies.map (fun c => if c.group == g then { c with waiting := c.waiting.filter (· != o) } else c) =
      [{ c with waiting := [] }] := by
    rw [hcopies, List.map_singleton, if_pos (by simp [hgroup]), hwait, List.filter_cons_of_neg (by simp), List.filter_nil]
  refine ⟨{ d.net with txns := d.net.txns.map (fun (t : Txn) =>
    if t.purpose = NetFor.multicast g o then { t with purpose := .nobody } else t) }, ?_⟩
  unfold Device.dropCopies
  dsimp only
  rw [hn, hmap]
  exact settleCopies_one (c := { c with waiting := [] }) rfl hwaits htxn

theorem cluMcDetached_ne (g : Nat) : Reg.cluMcDetached (g / 64) ≠ Reg.cluMcDetachCnt ∧
    Reg.cluMcDetached (g / 64) ≠ Reg.cluMcDropCnt := by
  unfold Reg.cluMcDetached Reg.cluMcDetachCnt Reg.cluMcDropCnt
  omega

theorem detachOutput_effect {d : Device} {g o : Nat} {c : McCopy} (hcopies : d.cluster.copies = [c])
    (hgroup : c.group = g) (hwait : c.waiting = [o]) (htxn : c.txn = none) (hwaits : d.cluster.waits = [])
    {e : Device} (he : e = (d.detaching g o).dropCopies g o) :
    e.isDetached g o = true ∧ e.cluster.copies = [] ∧ e.reg Reg.cluMcDetachCnt = d.reg Reg.cluMcDetachCnt + 1 ∧
    e.reg Reg.cluMcDropCnt = d.reg Reg.cluMcDropCnt + 1 ∧ e.regBit (Reg.cluMcDetached (g / 64)) (g % 64) = true ∧
    e.links = d.links ∧ e.lantern = d.lantern ∧ SameMemory d e ∧
    SameRegs [Reg.cluMcDetachCnt, Reg.cluMcDropCnt, Reg.cluMcDetached (g / 64)] d e := by
  obtain ⟨hcnt, hdrop⟩ := cluMcDetached_ne g
  obtain ⟨net, hnet⟩ := dropCopies_only (d := d.detaching g o) hcopies hgroup hwait htxn hwaits
  rw [hnet] at he
  have hreg (a : Nat) (ha : a ≠ Reg.cluMcDropCnt) : e.reg a = (d.detaching g o).reg a := by
    rw [he]
    exact reg_bump_ne _ 1 ha
  have hset (a : Nat) (ha : a ≠ Reg.cluMcDetached (g / 64)) : (d.detaching g o).reg a = (d.bump Reg.cluMcDetachCnt 1).reg a :=
    reg_setF_ne (d.bump Reg.cluMcDetachCnt 1) _ _ _ ha
  refine ⟨?_, ?_, ?_, ?_, ?_, ?_, ?_, ?_, fun a ha => ?_⟩
  · rw [he]
    show (d.cluster.detached ++ [128 * g + o]).contains (128 * g + o) = true
    simp
  · rw [he]
    rfl
  · rw [hreg _ (by decide), hset _ hcnt.symm, reg_bump]
    rfl
  · have hbump : e.reg Reg.cluMcDropCnt = (d.detaching g o).reg Reg.cluMcDropCnt + 1 := by
      rw [he]
      exact reg_bump _ _ 1
    rw [hbump, hset _ hdrop.symm, reg_bump_ne _ _ (by decide)]
  · rw [regBit_congr (hreg _ hdrop)]
    exact (regBit_setF_one _ _ _ (Nat.mod_lt _ (by decide))).trans rfl
  · rw [he]
    rfl
  · rw [he]
    rfl
  · rw [he]
    exact ⟨rfl, rfl, rfl, rfl⟩
  · simp only [List.mem_cons, List.not_mem_nil, or_false, not_or] at ha
    rw [hreg a ha.2.1, hset a ha.2.2, reg_bump_ne _ _ ha.1]

/-! ### Attachment (R358, R360) -/

theorem attach_effect {d : Device} {w : BitVec 32} {g : Nat} (hw : bit w 31 = true) (hg : fld w 0 8 = g) {e : Device}
    (he : e = d.attach w) :
    (∀ o < 65, e.isDetached g o = false) ∧ e.regBit (Reg.cluMcDetached (g / 64)) (g % 64) = false ∧
    (∀ h < 256, h ≠ g → ∀ o < 65, e.isDetached h o = d.isDetached h o) ∧ e.cluster.copies = d.cluster.copies ∧
    OnlyRegs [Reg.cluMcDetached (g / 64)] { d with cluster := e.cluster } e := by
  have hend : e = { d with cluster := { d.cluster with detached := d.cluster.detached.filter (fun n => n / 128 != g) } }.setF
      (Reg.cluMcDetached (g / 64)) (g % 64) 1 0 := by
    rw [he, Device.attach, if_neg (by simp [hw]), hg]
  have hdet (h o : Nat) : e.isDetached h o = (d.cluster.detached.filter (fun n => n / 128 != g)).contains (128 * h + o) := by
    rw [hend]
    rfl
  refine ⟨fun o ho => ?_, ?_, fun h _ hne o ho => ?_, ?_, ?_⟩
  · rw [hdet, List.contains_eq_mem, decide_eq_false_iff_not, List.mem_filter]
    rintro ⟨-, hin⟩
    rw [show (128 * g + o) / 128 = g by omega] at hin
    simp at hin
  · rw [hend]
    exact (regBit_setF_one _ _ _ (Nat.mod_lt _ (by decide))).trans rfl
  · have hkeep : ((128 * h + o) / 128 != g) = true := by
      rw [show (128 * h + o) / 128 = h by omega]
      simpa using hne
    rw [hdet, Device.isDetached, List.contains_eq_mem, List.contains_eq_mem]
    simp only [List.mem_filter, hkeep, and_true]
  · rw [hend]
    rfl
  · rw [hend]
    exact onlyRegs_setF _ _ _ _ _

/-- Settles O27: the write is refused, offered to the one link, or dropped for it; the detachment of the one output that a copy
waits for; and the attachment of the group's outputs. -/
theorem multicastGroupsCopyAndDetach : Obligations.MulticastGroupsCopyAndDetach := by
  intro s g v ha
  refine ⟨fun hno full ep => ?refused, fun ep => ?partialWrite,
    fun x l hg hen hroot hout hl hcopies hwaits => ⟨fun hdet hpower => ?offered, fun hdet => ?dropped⟩,
    fun o c hcopies hgroup hwait htxn hwaits hlimit => ?detach, ?detachedHere, fun w => ⟨fun hw => ?idle, fun hw hg => ?attach⟩⟩
  case refused =>
    refine completes_took (f := (·.portWrite g 0x80 none full (if ep then poisonUnit else freshUnit v) none)) rfl ha ?_
    rw [portWrite_refused (.inr hno)]
    exact ⟨reg_bump _ _ 1, onlyRegs_bump _ _ 1⟩
  case partialWrite =>
    refine completes_took (f := (·.portWrite g 0x80 none false (if ep then poisonUnit else freshUnit v) none)) rfl ha ?_
    rw [portWrite_refused (.inl rfl)]
    exact ⟨reg_bump _ _ 1, onlyRegs_bump _ _ 1⟩
  case offered =>
    exact completes_took (f := (·.portWrite g 0x80 none true (freshUnit v) none)) rfl ha
      (portWrite_attached hg hen hroot hout hl hcopies hwaits hdet hpower v rfl)
  case dropped =>
    exact completes_took (f := (·.portWrite g 0x80 none true (freshUnit v) none)) rfl ha
      (portWrite_detached hg hen hroot hout hcopies hwaits hdet v rfl)
  case detach =>
    refine completes_took (f := (·.detachOutput g o)) rfl ha ?_
    obtain ⟨y, hy⟩ : ∃ y, y = (s.dev.detaching g o).dropCopies g o := ⟨_, rfl⟩
    obtain ⟨hdet, hempty, hcnt, hdrop, hbit, hlinks, hl, hmem, hregs⟩ :=
      detachOutput_effect hcopies hgroup hwait htxn hwaits hy
    rw [detachOutput_head hcopies hgroup hwait hlimit, ← hy]
    split
    next h64 =>
      refine ⟨hdet, hempty, hcnt, hdrop, hbit, fun hlt => by omega, fun r hr _ => ?_, hmem, hregs⟩
      obtain ⟨u, -, hu⟩ := markPoison_run (d := y) (c := 53) (by rw [hl, hr]; rfl)
      rw [hu]
      rfl
    next hne =>
      refine ⟨hdet, hempty, hcnt, hdrop, hbit, fun _ => ?_, fun _ _ h64 => absurd h64 hne, hmem, hregs⟩
      exact ⟨_, by rw [sendControl_eq, hlinks], rfl, rfl, rfl⟩
  case detachedHere =>
    refine completes_took (f := (·.detachedBy g)) rfl ha ?_
    refine ⟨(regBit_setF_one _ _ _ (Nat.mod_lt _ (by decide))).trans rfl, fun r hr => ?_, ⟨rfl, rfl, rfl, rfl⟩, fun a h => ?_⟩
    · obtain ⟨u, -, hu⟩ := markPoison_run (d := s.dev) (c := 53) (by rw [hr]; rfl)
      have hbit : bit (u.cause ||| BitVec.ofNat 8 (2 ^ (53 - 48))) 5 = true := by
        unfold bit
        rw [BitVec.getLsbD_or]
        exact Bool.or_true _
      show (s.dev.markPoison 53).lantern.run.map _ = _
      rw [hu, Option.map_some, hbit]
      rfl
    · exact reg_setF_ne (s.dev.markPoison 53) _ _ _ (by simpa using h)
  case idle => exact completes_took (f := (·.attach w)) rfl ha (if_pos hw)
  case attach => exact completes_took (f := (·.attach w)) rfl ha (attach_effect hw hg rfl)

end Sys2Proof.Machine
end

section
/-! PROOFS. Frequency lock and alignment of a member (R343 - R346, R360). -/

namespace Sys2Proof.Machine

open Sys2Proof

/-! ### Handshakes with the children (R344, R346) -/

/-- Handshakes with the children among the first `k` links, in their order. -/
def Device.alignFirst (d : Device) (k : Nat) : Device :=
  (List.range k).foldl (fun d n => if d.alignsChild n then d.sendAlign n else d) d

theorem alignFirst_succ (d : Device) (k : Nat) : d.alignFirst (k + 1) =
    if (d.alignFirst k).alignsChild k then (d.alignFirst k).sendAlign k else d.alignFirst k := by
  unfold Device.alignFirst
  rw [List.range_succ, List.foldl_append]
  rfl

/-- They add control units to those that wait, and nothing else. -/
theorem alignFirst_eq (d : Device) (k : Nat) : ∃ us, d.alignFirst k = { d with links := { d.links with ctrl := d.links.ctrl ++ us } } ∧
    ∀ i < k, d.alignsChild i = true → { link := i, typ := 0x10, words := [0] } ∈ us := by
  induction k with
  | zero => exact ⟨[], by rw [List.append_nil]; rfl, fun i hi => absurd hi (Nat.not_lt_zero i)⟩
  | succ k ih =>
    obtain ⟨us, heq, hmem⟩ := ih
    have hchild : (d.alignFirst k).alignsChild k = d.alignsChild k := by rw [heq]; rfl
    rw [alignFirst_succ, hchild]
    split
    next h =>
      refine ⟨us ++ [{ link := k, typ := 0x10, words := [0] }], ?_, fun i hi hc => ?_⟩
      · rw [heq, Device.sendAlign, sendControl_eq, ← List.append_assoc]
      · by_cases hik : i = k
        · exact List.mem_append_right _ (by simp [hik])
        · exact List.mem_append_left _ (hmem i (by omega) hc)
    next h =>
      refine ⟨us, heq, fun i hi hc => ?_⟩
      by_cases hik : i = k
      · exact absurd (hik ▸ hc) h
      · exact hmem i (by omega) hc

theorem alignChildren_eq (d : Device) : ∃ us, d.alignChildren = { d with
      links := { d.links with ctrl := d.links.ctrl ++ us }, cluster := { d.cluster with lastCheck := d.now } } ∧
    ∀ i < 64, d.alignsChild i = true → { link := i, typ := 0x10, words := [0] } ∈ us := by
  obtain ⟨us, heq, hmem⟩ := alignFirst_eq d 64
  refine ⟨us, ?_, hmem⟩
  show { d.alignFirst 64 with cluster := { (d.alignFirst 64).cluster with lastCheck := (d.alignFirst 64).now } } = _
  rw [heq]
  rfl

/-! ### Steps and trims of the counter (R344 - R346) -/

theorem now64_of_no_trim {d : Device} (h : d.belfry.trim = 0) : d.now64 = 64 * (d.now : Int) + d.belfry.edge64 := by
  have hleft : d.trimLeft d.now = 0 := by
    unfold Device.trimLeft
    rw [h]
    simp
  unfold Device.now64 Device.at64
  rw [hleft, Int.sub_zero]

/-- A step to a counter value that is not negative: the counter has it at once. -/
theorem applyStep_effect {d : Device} {c : Int} (h : 0 ≤ d.now64 + c) {e : Device} (he : e = d.applyStep c) :
    e.now64 = d.now64 + c ∧ e.alignState = 1 ∧ e.cluster.step = none ∧
    e.reg Reg.cluAlignStepCnt = d.reg Reg.cluAlignStepCnt + 1 ∧ SameRegs [Reg.cluAlignStepCnt, Reg.cluStatus] d e ∧
    SameMemory d e := by
  obtain ⟨x, hx⟩ : ∃ x : Int, x = d.now64 + c := ⟨_, rfl⟩
  obtain ⟨y, hy⟩ : ∃ y : Device, y = { d with
    belfry := { d.belfry with gcyc := (max 0 (x / 64)).toNat, edge64 := x % 64, trim := 0, trimFrom := 0 },
    cluster := { d.cluster with step := none } } := ⟨_, rfl⟩
  obtain ⟨z, hz⟩ : ∃ z, z = (y.bump Reg.cluAlignStepCnt 1).setF Reg.cluStatus 5 2 1 := ⟨_, rfl⟩
  have hend : e = z.alignChildren := by rw [he, hz, hy, hx]; rfl
  obtain ⟨us, heq, -⟩ := alignChildren_eq z
  rw [heq] at hend
  have hbelfry : e.belfry = y.belfry := by rw [hend, hz]; rfl
  have hreg (a : Nat) : e.reg a = z.reg a := by rw [hend]; rfl
  have hyreg (a : Nat) : y.reg a = d.reg a := by rw [hy]; rfl
  have hnow : (e.now : Int) = x / 64 := by
    have hpos : 0 ≤ x / 64 := Int.ediv_nonneg (hx ▸ h) (by decide)
    show ((e.belfry.gcyc : Nat) : Int) = _
    rw [hbelfry, hy]
    show (((max 0 (x / 64)).toNat : Nat) : Int) = _
    omega
  refine ⟨?_, ?_, ?_, ?_, fun a ha => ?_, ?_⟩
  · have htrim : e.belfry.trim = 0 := by rw [hbelfry, hy]
    have hedge : e.belfry.edge64 = x % 64 := by rw [hbelfry, hy]
    rw [now64_of_no_trim htrim, hnow, hedge, ← hx]
    omega
  · rw [Device.alignState, Device.regF, hreg, hz]
    exact regF_setF _ _ 1 (by decide)
  · rw [hend, hz, hy]
    rfl
  · rw [hreg, hz, reg_setF_ne _ _ _ _ (by decide), reg_bump, hyreg]
    rfl
  · simp only [List.mem_cons, List.not_mem_nil, or_false, not_or] at ha
    rw [hreg, hz, reg_setF_ne _ _ _ _ ha.2, reg_bump_ne _ _ ha.1, hyreg]
  · rw [hend, hz, hy]
    exact ⟨rfl, rfl, rfl, rfl⟩

/-- A trim of a phase does not move the counter at once: what is to come of it is in the edge. -/
theorem now64_trimmed (d : Device) (theta : Int) : ({ d with belfry := { d.belfry with
      edge64 := d.belfry.edge64 - d.trimLeft d.now - theta, trim := -theta, trimFrom := d.now } } : Device).now64 = d.now64 := by
  have hleft : ({ d with belfry := { d.belfry with
      edge64 := d.belfry.edge64 - d.trimLeft d.now - theta, trim := -theta, trimFrom := d.now } } : Device).trimLeft d.now =
      -theta := by
    unfold Device.trimLeft
    dsimp only
    rw [Nat.sub_self, Nat.sub_zero]
    split <;> omega
  show 64 * (d.now : Int) + (d.belfry.edge64 - d.trimLeft d.now - theta) - _ = 64 * (d.now : Int) + d.belfry.edge64 - d.trimLeft d.now
  refine (congrArg (fun k => 64 * (d.now : Int) + (d.belfry.edge64 - d.trimLeft d.now - theta) - k) hleft).trans ?_
  omega

/-! ### The offset of a child (R344) -/

/-- The device that has noted the offset `theta` of a handshake on link `n`. -/
def Device.thetaNoted (d : Device) (n : Nat) (theta : Int) : Device :=
  { d with cluster := { d.cluster with t1 := none, t2 := none, t3 := none } }.noteTheta n theta

section
variable {d : Device} {n t1 t2 t3 t4 : Nat} {theta : Int} (hup : d.isUpLink n = true) (h1 : d.cluster.t1 = some t1)
  (h2 : d.cluster.t2 = some t2) (h3 : d.cluster.t3 = some t3)
  (htheta : theta = (stampDiff t2 t1 - stampDiff t4 t3) / 2)

theorem reg_thetaNoted (d : Device) (n : Nat) (theta : Int) {a : Nat} (ha : a ≠ Reg.cluAlign) :
    (d.thetaNoted n theta).reg a = d.reg a :=
  reg_setReg_ne _ _ ha

theorem regF_thetaNoted (d : Device) {n : Nat} (hn : n < 64) (theta : Int) : (d.thetaNoted n theta).regF Reg.cluAlign 32 6 = n := by
  have hlow : ((max (-2 ^ 31) (min (2 ^ 31 - 1) theta)) % 2 ^ 32).toNat < 2 ^ 32 := by
    have := Int.emod_lt_of_pos (max (-2 ^ 31) (min (2 ^ 31 - 1) theta)) (show (0 : Int) < 2 ^ 32 by decide)
    omega
  generalize hv : ((max (-2 ^ 31) (min (2 ^ 31 - 1) theta)) % 2 ^ 32).toNat = v at hlow
  have hreg : (d.thetaNoted n theta).reg Reg.cluAlign = mkWord [(32, n), (0, v)] := by
    rw [← hv]
    exact reg_setReg _ _ _
  rw [Device.regF, hreg, fld_mkWord_pair]
  omega

include hup h1 h2 h3 htheta in
theorem alignResult_eq : d.alignResult n t4 =
    if d.alignState = 0 then
      if d.lantern.run.isSome then
        { d.thetaNoted n theta with cluster := { (d.thetaNoted n theta).cluster with step := some (-theta) } }
      else (d.thetaNoted n theta).applyStep (-theta)
    else if d.alignState = 1 then
      if theta.natAbs ≤ 32 then
        { d.thetaNoted n theta with belfry := { d.belfry with
            edge64 := d.belfry.edge64 - d.trimLeft d.now - theta, trim := -theta, trimFrom := d.now } }
      else (d.thetaNoted n theta).alignLost n theta
    else d.thetaNoted n theta := by
  have hstate : (d.thetaNoted n theta).alignState = d.alignState := by
    rw [Device.alignState, Device.regF, reg_thetaNoted _ _ _ (by decide), Device.alignState, Device.regF]
  have hoff : offset64 t1 t2 t3 t4 = theta := htheta.symm
  unfold Device.alignResult
  rw [hup, h1, h2, h3]
  dsimp only
  rw [hoff]
  show (if (d.thetaNoted n theta).alignState = 0 then _ else if (d.thetaNoted n theta).alignState = 1 then _ else _) = _
  rw [hstate]
  rfl

end

/-- Alignment that is LOST while the Dome is free: it shows, and is counted. -/
theorem alignLost_free {d : Device} (h : d.lantern.run = none) (n : Nat) (theta : Int) :
    d.alignLost n theta = (d.setF Reg.cluStatus 5 2 2).bump Reg.cluAlignLostCnt 1 := by
  unfold Device.alignLost
  dsimp only
  refine if_neg ?_
  show ¬(d.lantern.run.elim false (·.cluster)) = true
  rw [h]
  exact Bool.false_ne_true

/-- The alignment state that a write of CLU_STATUS.ALIGN leaves, and the frequency state it does not touch. -/
theorem setAlign_effect (d : Device) {x : Nat} (hx : x < 4) :
    (d.setF Reg.cluStatus 5 2 x).alignState = x ∧ (d.setF Reg.cluStatus 5 2 x).freq = d.freq :=
  ⟨(regF_setF _ _ x (by decide)).trans (Nat.mod_eq_of_lt hx), regF_setF_ne _ _ _ (.inr (by decide))⟩

/-- Settles O31: the stamps that are noted and answered; the offset that they give, applied as a step, kept as one, trimmed or
LOST (`alignResult_eq`); and what ends or repeats an alignment. -/
theorem membersAlignTheirCounters : Obligations.MembersAlignTheirCounters := by
  intro s n ha
  refine ⟨fun t1 => ⟨fun hup hset hst => ?echo, fun hno => ?noEcho⟩,
    fun t2 t3 => ⟨fun hchild => ?result, fun hno => ?noResult⟩,
    fun t1 t2 t3 t4 theta hup h1 h2 h3 htheta => ⟨fun hst hrun hpos => ?steps, fun r hst hrun => ?waits,
      fun hst hsmall => ?trims, fun hst hbig hrun => ?lost⟩,
    fun r hrun => ?held, fun hrun hst => ?unaligned, fun c hrun hst hstep hpos => ?stepped, fun m hst hm hdue => ?checked,
    fun hno => ?notChecked, fun hm => ?master, fun hm => ?realigned, fun hf => ?locks, fun hf => ?notLocks⟩
  case echo =>
    refine completes_took (f := fun d => d.alignReceived n t1 d.now) rfl ha ?_
    rw [Device.alignReceived, if_pos (by simp [hup, hset, hst])]
    exact ⟨rfl, rfl, rfl, rfl, rfl, rfl, rfl⟩
  case noEcho =>
    refine completes_took (f := fun d => d.alignReceived n t1 d.now) rfl ha (if_neg ?_)
    rcases hno with h | h | h <;> simp [h]
  case result => exact completes_took (f := fun d => d.alignEcho n d.now) rfl ha (if_pos hchild)
  case noResult => exact completes_took (f := fun d => d.alignEcho n d.now) rfl ha (if_neg (by simp [hno]))
  case steps =>
    refine completes_took (f := (·.alignResult n t4)) rfl ha ?_
    rw [alignResult_eq hup h1 h2 h3 htheta, if_pos hst, if_neg (by simp [hrun])]
    obtain ⟨hnow, hal, -, hcnt, hregs, hmem⟩ := applyStep_effect (d := s.dev.thetaNoted n theta) hpos rfl
    refine ⟨hnow, hal, ?_, ?_, fun a h => ?_, hmem⟩
    · rw [hcnt, reg_thetaNoted _ _ _ (by decide)]
    · rw [Device.regF, hregs _ (by decide)]
      exact regF_thetaNoted _ n.isLt theta
    · simp only [List.mem_cons, List.not_mem_nil, or_false, not_or] at h
      rw [hregs a (by simp [h.2.1, h.2.2]), reg_thetaNoted _ _ _ h.1]
  case waits =>
    refine completes_took (f := (·.alignResult n t4)) rfl ha ?_
    rw [alignResult_eq hup h1 h2 h3 htheta, if_pos hst, if_pos (by simp [hrun])]
    exact ⟨rfl, rfl, rfl, fun a h => reg_thetaNoted _ _ _ (by simpa using h), rfl, rfl, rfl, rfl⟩
  case trims =>
    refine completes_took (f := (·.alignResult n t4)) rfl ha ?_
    rw [alignResult_eq hup h1 h2 h3 htheta, if_neg (by omega), if_pos hst, if_pos hsmall]
    refine ⟨rfl, now64_trimmed s.dev theta, ?_, fun a h => reg_thetaNoted _ _ _ (by simpa using h), rfl, rfl, rfl, rfl⟩
    exact (congrArg (fld · 5 2) (reg_thetaNoted s.dev n theta (a := Reg.cluStatus) (by decide))).trans hst
  case lost =>
    refine completes_took (f := (·.alignResult n t4)) rfl ha ?_
    rw [alignResult_eq hup h1 h2 h3 htheta, if_neg (by omega), if_pos hst, if_neg (by omega), alignLost_free (d := s.dev.thetaNoted n theta) hrun]
    refine ⟨?_, ?_, rfl, fun a h => ?_, rfl, rfl, rfl, rfl⟩
    · rw [Device.alignState, Device.regF, reg_bump_ne _ _ (by decide)]
      exact regF_setF _ _ 2 (by decide)
    · rw [reg_bump, reg_setF_ne _ _ _ _ (by decide), reg_thetaNoted _ _ _ (by decide)]
      rfl
    · simp only [List.mem_cons, List.not_mem_nil, or_false, not_or] at h
      rw [reg_bump_ne _ _ h.2.1, reg_setF_ne _ _ _ _ h.2.2, reg_thetaNoted _ _ _ h.1]
  case held => exact completes_took (f := Device.alignmentStep) rfl ha (if_pos (by simp [hrun]))
  case unaligned =>
    refine completes_took (f := Device.alignmentStep) rfl ha ?_
    rw [Device.alignmentStep, if_neg (by simp [hrun]), if_pos hst]
    obtain ⟨hal, hfreq⟩ := setAlign_effect s.dev (x := 0) (by decide)
    exact ⟨hal, hfreq, onlyRegs_setF _ _ _ _ _⟩
  case stepped =>
    refine completes_took (f := Device.alignmentStep) rfl ha ?_
    have hend : s.dev.alignmentStep = s.dev.applyStep c := by
      unfold Device.alignmentStep
      rw [if_neg (by simp [hrun]), if_neg (by omega), hst, hstep]
      rfl
    obtain ⟨hnow, hal, hnone, -, hregs, hmem⟩ := applyStep_effect hpos rfl
    rw [hend]
    exact ⟨hnow, hal, hnone, hregs, hmem⟩
  case checked =>
    refine completes_took (f := Device.alignCheck) rfl ha ?_
    obtain ⟨us, heq, hmem⟩ := alignChildren_eq s.dev
    rw [Device.alignCheck, if_pos ⟨hst, by simp [hm]⟩, advance_past hdue, heq]
    exact ⟨rfl, rfl, ⟨rfl, rfl, rfl, rfl⟩, fun i hi hc => List.mem_append_right _ (hmem i hi hc),
      fun u hu => List.mem_append_left _ hu⟩
  case notChecked =>
    refine completes_took (f := Device.alignCheck) rfl ha (if_neg ?_)
    rintro ⟨hst, hm⟩
    rcases hno with h | h
    · exact h hst
    · simp [h] at hm
  case master => exact completes_took (f := Device.realign) rfl ha (if_pos hm)
  case realigned =>
    refine completes_took (f := Device.realign) rfl ha ?_
    obtain ⟨hal, hfreq⟩ := setAlign_effect s.dev (x := 0) (by decide)
    rw [Device.realign, if_neg (by simp [hm])]
    exact ⟨hal, hfreq, rfl, fun a h => reg_setF_ne s.dev _ _ _ (by simpa using h), rfl, rfl, rfl, rfl⟩
  case locks =>
    refine completes_took (f := Device.frequencyLock) rfl ha ?_
    rw [Device.frequencyLock, if_pos hf]
    exact ⟨regF_setF _ _ 2 (by decide), regF_setF_ne _ _ _ (.inl (by decide)), onlyRegs_setF _ _ _ _ _⟩
  case notLocks => exact completes_took (f := Device.frequencyLock) rfl ha (if_neg hf)

end Sys2Proof.Machine
end

section
/-!
PROOFS. A load from START to its body (R347, R408 - R412, R422, R423, R430).
-/
namespace Sys2Proof.Machine

open Sys2Proof

/-! ### Errors and the end of a load whose header has not passed (R412, R422) -/

/-- CFG_ERR of a load whose header has not passed shows the code, and that it holds an error. -/
theorem cfgErr_errored_header (d : Device) {l : Load} (hphase : l.phase = .header) {code : Nat} (hcode : code < 256) :
    (d.errored l code).regF Reg.cfgErr 48 8 = code ∧ (d.errored l code).regBit Reg.cfgErr 63 = true := by
  have hsame : d.errored l code =
      (d.errored { l with done := 0 } code) := by
    simp [Device.errored, Load.offset, Load.accepted, hphase]
  rw [hsame]
  exact cfgErr_errored d (l := { l with done := 0 }) (Nat.two_pow_pos 40) hcode

theorem cfgErr_closeLoad (d : Device) (lo w i : Nat) :
    d.closeLoad.regF Reg.cfgErr lo w = d.regF Reg.cfgErr lo w ∧ d.closeLoad.regBit Reg.cfgErr i = d.regBit Reg.cfgErr i :=
  have h := sameRegs_closeLoad d Reg.cfgErr (by decide)
  ⟨by rw [Device.regF, h, ← Device.regF], regBit_congr h i⟩

/-- An abort of a load whose header has not passed. -/
theorem abort_header_effect {d : Device} {l : Load} (hl : d.load = some l) (hphase : l.phase = .header)
    (hfirst : d.regBit Reg.cfgErr 63 = false) {code : Nat} (hcode : code < 256) {e : Device} (he : e = d.loadFail code) :
    e.load = none ∧ e.regBit Reg.cfgErr 63 = true ∧ e.regF Reg.cfgErr 48 8 = code ∧ e.regBit Reg.cfgStatus 4 = false ∧
    e.cfgState = d.cfgState ∧ SameMemory d e ∧ SameRegs [Reg.cfgErr, Reg.cfgErrLoc, Reg.cfgStatus] d e := by
  subst he
  rw [loadFail_header hl hphase hfirst]
  obtain ⟨hshown, hset⟩ := cfgErr_errored_header d hphase hcode
  obtain ⟨hfield, hbit⟩ := cfgErr_closeLoad (d.errored l code) 48 8 63
  have herr := onlyRegs_errored d l code
  refine ⟨rfl, hbit.trans hset, hfield.trans hshown, regBit_closeLoad _, ?_,
    herr.sameMemory.trans (sameMemory_closeLoad _), fun a ha => ?_⟩
  · rw [cfgState_closeLoad, Device.cfgState, Device.regF, herr.2 _ (by decide), ← Device.regF, ← Device.cfgState]
  · simp only [List.mem_cons, List.not_mem_nil, or_false, not_or] at ha
    obtain ⟨h1, h2, h3⟩ := ha
    rw [sameRegs_closeLoad _ _ (by simp [h3]), herr.2 _ (by simp [h1, h2])]

theorem loadFail_of_none {d : Device} (h : d.load = none) (code : Nat) : d.loadFail code = d := by
  simp [Device.loadFail, h]

/-! ### START (R408) -/

theorem writeCfgCtl_effect (d : Device) (v : BitVec 32) :
    (d.writeCfgCtl v).regF Reg.cfgCtl 28 2 = fld v 28 2 ∧ (d.writeCfgCtl v).regF Reg.cfgCtl 0 24 = fld v 0 24 ∧
    OnlyRegs [Reg.cfgCtl] d (d.writeCfgCtl v) := by
  have hsrc := fld_lt v 28 2
  have hlimit := fld_lt v 0 24
  refine ⟨?_, ?_, ((OnlyRegs.refl d _).setF (by simp) _ _ _).setF (by simp) _ _ _⟩
  · rw [Device.writeCfgCtl, regF_setF_ne _ _ _ (by omega), regF_setF _ _ _ (by omega)]
    omega
  · rw [Device.writeCfgCtl, regF_setF _ _ _ (by omega)]
    omega

/-- The status of a device whose load has just started. -/
def Device.started (d : Device) : Device :=
  ((d.setReg Reg.cfgErr 0).setReg Reg.cfgErrLoc 0).setFs Reg.cfgStatus [(32, 32, 0), (4, 1, 1)]

/-- A load whose bytes come through the port asks for none. -/
theorem loadFetch_port {d : Device} {l : Load} (hl : d.load = some l) (hsrc : 2 ≤ l.src) : d.loadFetch = d := by
  simp [Device.loadFetch, hl, hsrc]

/-- A load from the port starts, and asks nobody for bytes. -/
theorem startLoad_port {d : Device} (hload : d.load = none) (hstate : d.cfgState ≠ 7) (hkeep : d.regF Reg.kepStatus 28 4 ≠ 4) :
    d.startLoad 2 = { d.started with
      load := some (newLoad 2 (d.started.reg Reg.cfgSrcAddr).toNat (d.started.regF Reg.cfgSrcLen 0 48) d.started.now) } := by
  have hgo : ¬(d.load.isSome ∨ 2 = 3 ∨ d.cfgState = 7 ∨ d.regF Reg.kepStatus 28 4 = 4) := by
    simp [hload, hstate, hkeep]
  rw [Device.startLoad, if_neg hgo]
  exact loadFetch_port rfl (le_refl 2)

theorem startLoad_busy {d : Device} (h : d.load.isSome = true) (src : Nat) : d.startLoad src = d := if_pos (.inl h)

theorem started_effect (d : Device) {e : Device} (he : e = d.started) :
    e.reg Reg.cfgErr = 0 ∧ e.reg Reg.cfgErrLoc = 0 ∧ e.regBit Reg.cfgStatus 4 = true ∧ e.regF Reg.cfgStatus 32 32 = 0 ∧
    e.cfgState = d.cfgState ∧ OnlyRegs [Reg.cfgErr, Reg.cfgErrLoc, Reg.cfgStatus] d e := by
  have hset : e = (((d.setReg Reg.cfgErr 0).setReg Reg.cfgErrLoc 0).setF Reg.cfgStatus 32 32 0).setF Reg.cfgStatus 4 1 1 := he
  rw [hset]
  refine ⟨?_, ?_, ?_, ?_, ?_, ((((OnlyRegs.refl d _).setReg (by simp) _).setReg (by simp) _).setF (by simp) _ _ _).setF
    (by simp) _ _ _⟩
  · rw [reg_setF_ne _ _ _ _ (by decide), reg_setF_ne _ _ _ _ (by decide), reg_setReg_ne _ _ (by decide), reg_setReg]
  · rw [reg_setF_ne _ _ _ _ (by decide), reg_setF_ne _ _ _ _ (by decide), reg_setReg]
  · rw [regBit_setF_one _ _ _ (by omega)]
    rfl
  · rw [regF_setF_ne _ _ _ (by omega), regF_setF _ _ _ (by omega)]
    rfl
  · rw [Device.cfgState, regF_setF_ne _ _ _ (by omega), regF_setF_ne _ _ _ (by omega), regF_setReg_ne _ _ _ _ (by decide),
      regF_setReg_ne _ _ _ _ (by decide), ← Device.cfgState]

/-! ### The header (R411, R412) -/

section
variable {d : Device} {l : Load} (hl : d.load = some l)
include hl

theorem mapLoad_some (f : Load → Load) : d.mapLoad f = { d with load := some (f l) } := by simp [Device.mapLoad, hl]

/-- Bytes of the port join those of a load that takes them. -/
theorem portBytes_taken (hsrc : l.src = 2) (hphase : l.phase ≠ .refused) (bs : List Byte) :
    d.portBytes bs = { d with load := some { l with buf := l.buf ++ bs, waitFrom := d.now } } := by
  simp [Device.portBytes, hl, hsrc, hphase, Device.mapLoad]

theorem portBytes_discarded (hsrc : l.src ≠ 2) (bs : List Byte) : d.portBytes bs = d := by
  simp [Device.portBytes, hl, hsrc]

theorem loadHeader_waits (hlen : l.buf.length < 128) : d.loadHeader = d := by
  simp [Device.loadHeader, hl, hlen]

variable (hphase : l.phase = .header)
include hphase

theorem loadHeader_refused (hlen : 128 ≤ l.buf.length) {c : Nat} (hcode : d.headerCode (l.buf.take 128) = some c) :
    d.loadHeader = d.refuseHeader l c := by
  simp [Device.loadHeader, hl, hphase, Nat.not_lt.2 hlen, hcode]

theorem loadHeader_accepted (hlen : 128 ≤ l.buf.length) (hcode : d.headerCode (l.buf.take 128) = none) :
    d.loadHeader = d.acceptHeader l := by
  simp [Device.loadHeader, hl, hphase, Nat.not_lt.2 hlen, hcode]

/-- A refused header is counted, its code is shown, and the rest of a port's bitstream is to be consumed. -/
theorem refuseHeader_effect (hfirst : d.regBit Reg.cfgErr 63 = false) {c : Nat} (hc : c < 256) {e : Device}
    (he : e = d.refuseHeader l c) :
    e.reg Reg.cfgHdrRefuseCnt = d.reg Reg.cfgHdrRefuseCnt + 1 ∧ e.regF Reg.cfgErr 48 8 = c ∧
    e.regBit Reg.cfgErr 63 = true ∧ e.cfgState = d.cfgState ∧
    (l.src = 2 → e.load = some { l with phase := .refused, buf := [], waitFrom := d.now }) ∧
    (l.src ≠ 2 → e.load = none) ∧ SameMemory d e ∧ e.lantern = d.lantern ∧
    SameRegs [Reg.cfgHdrRefuseCnt, Reg.cfgErr, Reg.cfgErrLoc, Reg.cfgStatus] d e := by
  obtain ⟨x, hx⟩ : ∃ x, x = (d.errored l c).bump Reg.cfgHdrRefuseCnt 1 := ⟨_, rfl⟩
  obtain ⟨hshown, hset⟩ := cfgErr_errored_header d hphase hc
  have honly : OnlyRegs [Reg.cfgHdrRefuseCnt, Reg.cfgErr, Reg.cfgErrLoc] d x := by
    rw [hx]
    exact ((onlyRegs_errored d l c).mono (by simp)).bump (by simp) 1
  have hcount : x.reg Reg.cfgHdrRefuseCnt = d.reg Reg.cfgHdrRefuseCnt + 1 := by
    rw [hx, reg_bump, (onlyRegs_errored d l c).2 _ (by decide)]
    rfl
  have herr : x.reg Reg.cfgErr = (d.errored l c).reg Reg.cfgErr := by rw [hx, reg_bump_ne _ _ (by decide)]
  have hfield : x.regF Reg.cfgErr 48 8 = c := by rw [Device.regF, herr, ← Device.regF, hshown]
  have hbit : x.regBit Reg.cfgErr 63 = true := (regBit_congr herr 63).trans hset
  have hstate : x.cfgState = d.cfgState := by
    rw [Device.cfgState, Device.regF, honly.2 _ (by decide), ← Device.regF, ← Device.cfgState]
  have hmem := honly.sameMemory
  have hlantern := honly.lantern_eq
  have hload : x.load = some l := by rw [hx]; exact hl
  have hnow : x.now = d.now := by rw [honly.1]; rfl
  have hrefuse : d.refuseHeader l c = if l.src = 2 then
      x.mapLoad (fun l => { l with phase := .refused, buf := [], waitFrom := x.now }) else x.closeLoad := by
    rw [Device.refuseHeader, loadError_first hl hfirst, ← hx]
  by_cases hsrc : l.src = 2
  · rw [if_pos hsrc, mapLoad_some hload, hnow] at hrefuse
    rw [he, hrefuse]
    exact ⟨hcount, hfield, hbit, hstate, fun _ => rfl, fun h => absurd hsrc h, hmem, hlantern,
      fun a ha => honly.2 a (fun h => ha (List.mem_of_mem_take (i := 3) h))⟩
  · rw [if_neg hsrc] at hrefuse
    obtain ⟨hfield', hbit'⟩ := cfgErr_closeLoad x 48 8 63
    rw [he, hrefuse]
    refine ⟨?_, hfield'.trans hfield, hbit'.trans hbit, (cfgState_closeLoad x).trans hstate, fun h => absurd h hsrc,
      fun _ => rfl, hmem.trans (sameMemory_closeLoad x), hlantern, fun a ha => ?_⟩
    · rw [sameRegs_closeLoad x _ (by decide), hcount]
    · rw [sameRegs_closeLoad x a (fun h => ha (by simp_all)), honly.2 a (fun h => ha (List.mem_of_mem_take (i := 3) h))]

omit hphase in
/-- A FULL or RELOAD load whose header passes is held while a task has the Dome. -/
theorem acceptHeader_held (hkind : fld (wordAt l.buf 1) 40 4 ≤ 2) {r : Run} (hrun : d.lantern.run = some r) :
    d.acceptHeader l = { ((d.bump Reg.cfgLoadCnt 1).setCfgState 1).setHeld true with load := some { l with
      before := d.cfgState, header := l.buf.take 128, buf := l.buf.drop 128, phase := .held } } := by
  obtain ⟨x, hx⟩ : ∃ x, x = d.bump Reg.cfgLoadCnt 1 := ⟨_, rfl⟩
  have hload : x.load = some l := by rw [hx]; exact hl
  have hlantern : x.lantern = d.lantern := by rw [hx]; rfl
  have htask : (decide (fld (wordAt l.buf 1) 40 4 ≤ 2) && x.lantern.run.isSome) = true := by
    rw [hlantern, hrun, decide_eq_true hkind]
    rfl
  rw [Device.acceptHeader, ← hx, mapLoad_some hload]
  exact if_pos htask

end

/-! ### The clear of a FULL load (R410) -/

theorem lntSlotValid_injective : Function.Injective Reg.lntSlotValid := fun i j h => by unfold Reg.lntSlotValid at h; omega

/-- Every slot is invalid once the slots are dropped. -/
theorem reg_dropSlots (d : Device) {k : Nat} (hk : k < 16) : d.dropSlots.reg (Reg.lntSlotValid k) = 0 :=
  reg_foldl_setReg lntSlotValid_injective (fun _ => 0) 16 d hk

theorem onlyRegs_dropSlots (d : Device) : OnlyRegs ((List.range 16).map Reg.lntSlotValid) d d.dropSlots :=
  OnlyRegs.foldl (fun _ hk e => (OnlyRegs.refl e _).setReg (List.mem_map_of_mem hk) _) d

/-- The words of the interleave map. -/
def mapRegs : List Nat := (List.range 4).flatMap (fun w => [Reg.hbcMapA w, Reg.hbcMapB w])

theorem onlyRegs_setMap (d : Device) (ws : List Word) : OnlyRegs mapRegs d (d.setMap ws) :=
  OnlyRegs.foldl (fun w hw e =>
    ((OnlyRegs.refl e _).setReg (List.mem_flatMap.2 ⟨w, hw, by simp⟩) _).setReg (List.mem_flatMap.2 ⟨w, hw, by simp⟩) _) d

/-- The registers that show regions, access points, banks and lanes. -/
def fabricOffRegs : List Nat := [Reg.cfgRegionValid, Reg.cfgFabApStatus] ++ ioRegs

/-- The registers of the fabric once it is held. -/
def Device.fabricShownOff (d : Device) : Device :=
  (List.range 16).foldl (fun d l => d.setReg (Reg.cfgFabLaneStatus l) 0)
    (((d.setReg Reg.cfgRegionValid 0).setReg Reg.cfgFabApStatus 0).setF Reg.cfgFabBankStatus 8 4 0)

theorem fabricOff_eq (d : Device) : d.fabricOff = { d.fabricShownOff with fabric := Fabric.initial } := rfl

theorem onlyRegs_fabricShownOff (d : Device) : OnlyRegs fabricOffRegs d d.fabricShownOff := by
  refine OnlyRegs.trans (((((OnlyRegs.refl d _).setReg ?_ _).setReg ?_ _).setF ?_ _ _ _)) (OnlyRegs.foldl (fun k hk e => ?_) _)
  · simp [fabricOffRegs]
  · simp [fabricOffRegs]
  · simp [fabricOffRegs, ioRegs]
  · exact (OnlyRegs.refl e _).setReg (List.mem_append_right _ (List.mem_cons_of_mem _ (List.mem_map_of_mem hk))) _

theorem onlyRegs_showMember (d : Device) (m : Option Member) : OnlyRegs [Reg.cluStatus] d (d.showMember m) := by
  cases m <;> exact onlyRegs_setFs d _ _

theorem onlyRegs_judgeLinks (d : Device) : OnlyRegs linkStatusRegs d d.judgeLinks :=
  OnlyRegs.foldl (fun _ hn e => (judgeLink_effect e _ rfl).2.mono (by
    simpa using mem_linkStatusRegs (List.mem_range.1 hn))) d

/-- The registers that a clear writes, apart from the validity of the slots. -/
def clearRegs : List Nat :=
  mapRegs ++ fabricOffRegs ++ [Reg.cfgFabPllStatus, Reg.cluStatus, Reg.cfgStatus] ++ linkStatusRegs

theorem lntSlotValid_not_mem_clearRegs {k : Nat} (hk : k < 16) : Reg.lntSlotValid k ∉ clearRegs := by
  have hlink : Reg.lntSlotValid k ∉ linkStatusRegs := not_mem_linkStatusRegs (.inl (by unfold Reg.lntSlotValid; omega))
  have hothers : ∀ i < 16, Reg.lntSlotValid i ∉
      mapRegs ++ fabricOffRegs ++ [Reg.cfgFabPllStatus, Reg.cluStatus, Reg.cfgStatus] := by decide
  exact fun h => (List.mem_append.1 h).elim (hothers k hk) hlink

/-- A device whose planes are clear, before its links are judged again. -/
def Device.planesCleared (d : Device) : Device := { d with
  cfgMem := [], tile := Store.initial, maintCfg := true
  belfry := { d.belfry with cdoneLow := true }
  net := { d.net with routes := [], routeMap := [] }
  cluster := { d.cluster with member := none, groups := [] }
  streams := { d.streams with quarters := [] }
  lantern := { d.lantern with rewriting := [] } }

/-- What a clear shows in the registers of the configuration engine and of the cluster. -/
def Device.clearShown (d : Device) : Device :=
  ((((d.setF Reg.cfgFabPllStatus 0 24 0).showMember none).setF Reg.cluStatus 2 5 0).setDomeValid false).setSchedValid false

theorem onlyRegs_clearShown (d : Device) : OnlyRegs [Reg.cfgFabPllStatus, Reg.cluStatus, Reg.cfgStatus] d d.clearShown :=
  (((((OnlyRegs.refl d _).setF (by simp) _ _ _).trans ((onlyRegs_showMember _ none).mono (by simp))).setF (by simp) _ _ _).setF
    (by simp) _ _ _).setF (by simp) _ _ _

/-- A clear shows the Dome plane and the schedule plane as not valid. -/
theorem regBit_clearShown (d : Device) :
    d.clearShown.regBit Reg.cfgStatus 6 = false ∧ d.clearShown.regBit Reg.cfgStatus 5 = false ∧
    ∀ i, i ≠ 5 → i ≠ 6 → d.clearShown.regBit Reg.cfgStatus i = d.regBit Reg.cfgStatus i := by
  obtain ⟨x, hx⟩ : ∃ x, x = ((d.setF Reg.cfgFabPllStatus 0 24 0).showMember none).setF Reg.cluStatus 2 5 0 := ⟨_, rfl⟩
  have honly : OnlyRegs [Reg.cfgFabPllStatus, Reg.cluStatus] d x := by
    rw [hx]
    exact (((OnlyRegs.refl d _).setF (by simp) _ _ _).trans ((onlyRegs_showMember _ none).mono (by simp))).setF (by simp) _ _ _
  have heq : d.clearShown = (x.setF Reg.cfgStatus 5 1 0).setF Reg.cfgStatus 6 1 0 := by rw [hx]; rfl
  rw [heq]
  refine ⟨regBit_setF_one _ _ _ (by omega), ?_, fun i h5 h6 => ?_⟩
  · rw [regBit_setF_outside _ _ _ (by omega)]
    exact regBit_setF_one _ _ _ (by omega)
  · rw [regBit_setF_outside _ _ _ (by omega), regBit_setF_outside _ _ _ (by omega), regBit_congr (honly.2 _ (by decide))]

theorem fullClear_eq (d : Device) :
    d.fullClear = ((d.dropSlots.setMap defaultMap).clearCache.fabricOff.clearShown.planesCleared).judgeLinks := rfl

/-- What a FULL load's clear leaves. -/
theorem fullClear_effect (d : Device) {e : Device} (he : e = d.fullClear) :
    e.load = d.load ∧ e.cfgMem = [] ∧ e.tile = Store.initial ∧ e.streams.cache = Store.initial ∧ e.maintCfg = true ∧
    e.belfry.cdoneLow = true ∧ (∀ k < 1024, e.slotValid k = false) ∧ e.cluster.member = none ∧
    e.regBit Reg.cfgStatus 6 = false ∧ e.regBit Reg.cfgStatus 5 = false ∧
    (∀ i, i ≠ 5 → i ≠ 6 → e.regBit Reg.cfgStatus i = d.regBit Reg.cfgStatus i) ∧
    e.hbm = d.hbm ∧ e.queues = d.queues ∧ e.out = d.out := by
  obtain ⟨a, ha⟩ : ∃ a, a = d.dropSlots.setMap defaultMap := ⟨_, rfl⟩
  obtain ⟨b, hb⟩ : ∃ b, b = a.clearCache.fabricShownOff := ⟨_, rfl⟩
  obtain ⟨c, hc⟩ : ∃ c, c = ({ b with fabric := Fabric.initial } : Device).clearShown := ⟨_, rfl⟩
  have heq : e = c.planesCleared.judgeLinks := by rw [he, fullClear_eq, fabricOff_eq, ← ha, ← hb, ← hc]
  have hao : OnlyRegs ((List.range 16).map Reg.lntSlotValid ++ mapRegs) d a := by
    rw [ha]
    exact ((onlyRegs_dropSlots d).mono (by simp +contextual)).trans ((onlyRegs_setMap _ _).mono (by simp +contextual))
  have hbo : OnlyRegs fabricOffRegs a.clearCache b := by rw [hb]; exact onlyRegs_fabricShownOff _
  have hco : OnlyRegs [Reg.cfgFabPllStatus, Reg.cluStatus, Reg.cfgStatus] { b with fabric := Fabric.initial } c := by
    rw [hc]; exact onlyRegs_clearShown _
  have heo : OnlyRegs linkStatusRegs c.planesCleared e := by rw [heq]; exact onlyRegs_judgeLinks _
  have hslots (k : Nat) (hk : k < 16) : e.reg (Reg.lntSlotValid k) = 0 := by
    have hnot := lntSlotValid_not_mem_clearRegs hk
    simp only [clearRegs, List.mem_append, not_or] at hnot
    obtain ⟨⟨⟨hmap, hfab⟩, hshown⟩, hlink⟩ := hnot
    calc e.reg (Reg.lntSlotValid k) = c.reg (Reg.lntSlotValid k) := heo.2 _ hlink
      _ = b.reg (Reg.lntSlotValid k) := hco.2 _ hshown
      _ = a.reg (Reg.lntSlotValid k) := hbo.2 _ hfab
      _ = d.dropSlots.reg (Reg.lntSlotValid k) := by rw [ha]; exact (onlyRegs_setMap _ _).2 _ hmap
      _ = 0 := reg_dropSlots d hk
  have hstatus (i : Nat) : e.regBit Reg.cfgStatus i = c.regBit Reg.cfgStatus i :=
    regBit_congr (heo.2 _ (not_mem_linkStatusRegs (.inl (by decide)))) i
  have hkept : b.reg Reg.cfgStatus = d.reg Reg.cfgStatus :=
    (hbo.2 Reg.cfgStatus (by decide)).trans (hao.2 Reg.cfgStatus (by decide))
  have hcleared : c.regBit Reg.cfgStatus 6 = false ∧ c.regBit Reg.cfgStatus 5 = false ∧
      ∀ i, i ≠ 5 → i ≠ 6 → c.regBit Reg.cfgStatus i = b.regBit Reg.cfgStatus i := by
    rw [hc]
    exact regBit_clearShown _
  have hfields : e.load = d.load ∧ e.hbm = d.hbm ∧ e.queues = d.queues ∧ e.out = d.out ∧ e.cfgMem = [] ∧
      e.tile = Store.initial ∧ e.streams.cache = Store.initial ∧ e.maintCfg = true ∧ e.belfry.cdoneLow = true ∧
      e.cluster.member = none ∧ e.lantern.rewriting = [] := by
    rw [heo.1, hco.1, hbo.1, hao.1]
    exact ⟨rfl, rfl, rfl, rfl, rfl, rfl, rfl, rfl, rfl, rfl, rfl⟩
  obtain ⟨hload, hhbm, hqueues, hout, hcfg, htile, hcache, hmaint, hlow, hnone, hrewriting⟩ := hfields
  obtain ⟨h6, h5, hother⟩ := hcleared
  refine ⟨hload, hcfg, htile, hcache, hmaint, hlow, fun k hk => ?_, hnone, (hstatus 6).trans h6,
    (hstatus 5).trans h5, fun i hi hi' => ?_, hhbm, hqueues,
    hout⟩
  · rw [Device.slotValid, Device.regBit, hslots _ (by omega)]
    simp [bit]
  · rw [hstatus, hother i hi hi', regBit_congr hkept]

/-! ### The held load goes on (R410) -/

section
variable {d : Device} {l : Load} (hl : d.load = some l)
include hl

/-- A FULL load that goes on clears the planes and shows whether its body is encrypted. -/
theorem beginBody_full (hkind : l.kind = 1) : d.beginBody = { (d.setHeld false).fullClear.setFs Reg.cfgStatus
    [(16, 4, 0), (8, 1, fld (wordAt l.header 1) 49 1), (7, 1, fld (wordAt l.header 1) 48 1)] with
      load := some { l with phase := .clearing } } := by
  obtain ⟨x, hx⟩ : ∃ x, x = (d.setHeld false).fullClear.setFs Reg.cfgStatus
    [(16, 4, 0), (8, 1, fld (wordAt l.header 1) 49 1), (7, 1, fld (wordAt l.header 1) 48 1)] := ⟨_, rfl⟩
  have hload : x.load = some l := by
    rw [hx, setFs_load]
    exact (fullClear_effect (d.setHeld false) rfl).1.trans hl
  simp only [Device.beginBody, hl, hkind, ← hx]
  exact mapLoad_some hload _

/-- What such a load leaves. -/
theorem beginBody_full_effect (hkind : l.kind = 1) {e : Device} (he : e = d.beginBody) :
    (e.load.map (fun k => (k.phase, k.header))) = some (.clearing, l.header) ∧ e.cfgMem = [] ∧
    e.tile = Store.initial ∧ e.streams.cache = Store.initial ∧ e.maintCfg = true ∧ e.belfry.cdoneLow = true ∧
    (∀ k < 1024, e.slotValid k = false) ∧ e.cluster.member = none ∧
    e.regBit Reg.cfgStatus 12 = false ∧ e.regBit Reg.cfgStatus 6 = false ∧ e.regBit Reg.cfgStatus 5 = false ∧
    e.hbm = d.hbm ∧ e.queues = d.queues ∧ e.out = d.out := by
  obtain ⟨x, hx⟩ : ∃ x, x = (d.setHeld false).fullClear := ⟨_, rfl⟩
  obtain ⟨-, hcfg, htile, hcache, hmaint, hlow, hslots, hnone, h6, h5, hother, hhbm, hqueues, hout⟩ := fullClear_effect _ hx
  obtain ⟨y, hy⟩ : ∃ y, y = x.setFs Reg.cfgStatus
    [(16, 4, 0), (8, 1, fld (wordAt l.header 1) 49 1), (7, 1, fld (wordAt l.header 1) 48 1)] := ⟨_, rfl⟩
  have hstatus (i : Nat) (hi : i < 7 ∨ 8 < i ∧ i < 16) : y.regBit Reg.cfgStatus i = x.regBit Reg.cfgStatus i := by
    rw [hy]
    simp only [Device.setFs]
    rw [regBit_setF_outside _ _ _ (by omega), regBit_setF_outside _ _ _ (by omega), regBit_setF_outside _ _ _ (by omega)]
  have hyo : OnlyRegs [Reg.cfgStatus] x y := by rw [hy]; exact onlyRegs_setFs x _ _
  have hheld : x.regBit Reg.cfgStatus 12 = false := by
    rw [hother 12 (by decide) (by decide), Device.setHeld, regBit_setF_one _ _ _ (by omega)]
    rfl
  have hyslots (k : Nat) (hk : k < 1024) : y.slotValid k = false := by
    have hlantern := hyo.lantern_eq
    rw [← hslots k hk, Device.slotValid, Device.slotValid, hlantern, regBit_congr (hyo.2 _ (by
      simp only [List.mem_singleton, Reg.lntSlotValid, Reg.cfgStatus]; omega))]
  have hmem := hyo.sameMemory
  have hfields : y.maintCfg = x.maintCfg ∧ y.belfry = x.belfry ∧ y.cluster = x.cluster ∧ y.hbm = x.hbm ∧
      y.queues = x.queues ∧ y.out = x.out := by
    rw [hyo.1]
    exact ⟨rfl, rfl, rfl, rfl, rfl, rfl⟩
  obtain ⟨hm, hb, hc, hh, hq, ho⟩ := hfields
  obtain ⟨-, htile', hstreams', hcfg'⟩ := hmem
  rw [he, beginBody_full hl hkind, ← hx, ← hy]
  exact ⟨rfl, hcfg'.trans hcfg, htile'.trans htile, hstreams'.trans hcache, hm.trans hmaint,
    (congrArg Belfry.cdoneLow hb).trans hlow, hyslots, (congrArg Cluster.member hc).trans hnone,
    (hstatus 12 (by omega)).trans hheld, (hstatus 6 (by omega)).trans h6, (hstatus 5 (by omega)).trans h5,
    hh.trans hhbm, hq.trans hqueues, ho.trans hout⟩

theorem holdReleased_held (hphase : l.phase = .held) : d.holdReleased = if d.lantern.run.isNone then d.beginBody else d := by
  simp [Device.holdReleased, hl, hphase]

theorem clearDone_port (hphase : l.phase = .clearing) (hsrc : l.src = 2) :
    d.clearDone = { d with load := some { l with phase := .body, waitFrom := d.now } } := by
  simp only [Device.clearDone, hl, if_pos hphase]
  rw [mapLoad_some hl]
  exact loadFetch_port rfl (by rw [hsrc])

theorem clearDone_stays (hphase : l.phase ≠ .clearing) : d.clearDone = d := by
  simp [Device.clearDone, hl, hphase]

/-- A FULL or RELOAD load whose header passes is counted, and waits for the task. -/
theorem acceptHeader_held_effect (hkind : fld (wordAt l.buf 1) 40 4 ≤ 2) {r : Run} (hrun : d.lantern.run = some r) {e : Device}
    (he : e = d.acceptHeader l) :
    e.reg Reg.cfgLoadCnt = d.reg Reg.cfgLoadCnt + 1 ∧ e.cfgState = 1 ∧ e.regBit Reg.cfgStatus 12 = true ∧
    (∃ k : Load, e.load = some k ∧ k.phase = .held ∧ k.header = l.buf.take 128 ∧ k.buf = l.buf.drop 128 ∧
      k.before = d.cfgState) ∧
    SameMemory d e ∧ e.lantern = d.lantern ∧ SameRegs [Reg.cfgLoadCnt, Reg.cfgStatus] d e := by
  obtain ⟨x, hx⟩ : ∃ x, x = ((d.bump Reg.cfgLoadCnt 1).setCfgState 1).setHeld true := ⟨_, rfl⟩
  have honly : OnlyRegs [Reg.cfgLoadCnt, Reg.cfgStatus] d x := by
    rw [hx]
    exact (((OnlyRegs.refl d _).bump (by simp) 1).setF (by simp) _ _ _).setF (by simp) _ _ _
  have hcount : x.reg Reg.cfgLoadCnt = d.reg Reg.cfgLoadCnt + 1 := by
    rw [hx, Device.setHeld, reg_setF_ne _ _ _ _ (by decide), Device.setCfgState, reg_setF_ne _ _ _ _ (by decide), reg_bump]
    rfl
  have hstate : x.cfgState = 1 := by
    rw [hx, Device.cfgState, Device.setHeld, regF_setF_ne _ _ _ (by omega), ← Device.cfgState,
      cfgState_setCfgState _ (by decide)]
  have hheld : x.regBit Reg.cfgStatus 12 = true := by
    rw [hx, Device.setHeld, regBit_setF_one _ _ _ (by omega)]
    rfl
  have hmem := honly.sameMemory
  have hlantern := honly.lantern_eq
  rw [he, acceptHeader_held hl hkind hrun, ← hx]
  exact ⟨hcount, hstate, hheld, ⟨_, rfl, rfl, rfl, rfl, rfl⟩, hmem, hlantern, honly.2⟩

end

/-- What a load's START from the port shows and leaves. -/
theorem start_port_effect {d : Device} {v : BitVec 32} (hv : fld v 28 2 = 2) (hload : d.load = none) (hstate : d.cfgState ≠ 7)
    (hkeep : d.regF Reg.kepStatus 28 4 ≠ 4) {e : Device} (he : e = (d.writeCfgCtl v).startLoad 2) :
    (∃ l : Load, e.load = some l ∧ l.src = 2 ∧ l.phase = .header ∧ l.buf = [] ∧ l.addr = (d.reg Reg.cfgSrcAddr).toNat ∧
      l.len = d.regF Reg.cfgSrcLen 0 48) ∧
    e.reg Reg.cfgErr = 0 ∧ e.reg Reg.cfgErrLoc = 0 ∧ e.regBit Reg.cfgStatus 4 = true ∧ e.regF Reg.cfgStatus 32 32 = 0 ∧
    e.cfgState = d.cfgState ∧ e.regF Reg.cfgCtl 28 2 = 2 ∧ e.regF Reg.cfgCtl 0 24 = fld v 0 24 ∧
    SameRegs [Reg.cfgErr, Reg.cfgErrLoc, Reg.cfgStatus, Reg.cfgCtl] d e ∧ SameMemory d e := by
  obtain ⟨x, hx⟩ : ∃ x, x = d.writeCfgCtl v := ⟨_, rfl⟩
  obtain ⟨hsrc, hlimit, hctl⟩ := writeCfgCtl_effect d v
  rw [← hx] at hsrc hlimit hctl
  obtain ⟨y, hy⟩ : ∃ y, y = x.started := ⟨_, rfl⟩
  obtain ⟨herr, hloc, hbusy, hcount, hsame, honly⟩ := started_effect x hy
  have hfield {a lo w : Nat} (ha : a ≠ Reg.cfgCtl) : x.regF a lo w = d.regF a lo w := by
    rw [Device.regF, hctl.2 a (by simpa using ha), ← Device.regF]
  have hxstate : x.cfgState = d.cfgState := hfield (by decide)
  have hkept {a : Nat} (ha : a ∉ [Reg.cfgErr, Reg.cfgErrLoc, Reg.cfgStatus, Reg.cfgCtl]) : y.reg a = d.reg a := by
    simp only [List.mem_cons, List.not_mem_nil, or_false, not_or] at ha
    obtain ⟨h1, h2, h3, h4⟩ := ha
    rw [honly.2 a (by simp [h1, h2, h3]), hctl.2 a (by simp [h4])]
  have hyctl (lo w : Nat) : y.regF Reg.cfgCtl lo w = x.regF Reg.cfgCtl lo w := by
    rw [Device.regF, honly.2 _ (by decide), ← Device.regF]
  have hmem : SameMemory d y := hctl.sameMemory.trans honly.sameMemory
  have hxload : x.load = none := by rw [hctl.1]; exact hload
  rw [he, ← hx, startLoad_port hxload (by rw [hxstate]; exact hstate) (by rw [hfield (by decide)]; exact hkeep), ← hy]
  refine ⟨⟨_, rfl, rfl, rfl, rfl, ?_, ?_⟩, herr, hloc, hbusy, hcount, hsame.trans hxstate, ((hyctl 28 2).trans hsrc).trans hv,
    (hyctl 0 24).trans hlimit, fun a ha => hkept ha, hmem⟩
  · exact congrArg BitVec.toNat (hkept (by decide))
  · exact congrArg (fld · 0 48) (hkept (by decide))

/-- Settles O34: each of START, ABORT, the port's bytes, the header, the release of the hold and the end of the clear acts as
its phase says. -/
theorem loadsStartAndCheckTheirHeader : Obligations.LoadsStartAndCheckTheirHeader := by
  intro s ha
  refine ⟨fun v hv hstate hkeep => ⟨fun hload => ?start, fun l hl => ?busy⟩, fun v hload => ?abortNone, fun bs hload => ?portNone,
    fun l hl => ⟨fun v hphase hfirst => ?abort, fun bs => ⟨fun hsrc hphase => ?port, fun hsrc => ?noPort⟩,
      fun _ hlen => ?waits, fun c hphase hlen hcode hc hfirst => ?refused, fun r hphase hlen hcode hkind hrun => ?accepted,
      fun r hphase hrun => ?stillHeld, fun hphase hrun hkind => ?released, fun hphase hsrc => ?cleared, fun hphase => ?notClearing⟩⟩
  case start =>
    refine completes_took (f := fun d => (d.writeCfgCtl v).startLoad (fld v 28 2)) rfl ha ?_
    rw [hv]
    exact start_port_effect hv hload hstate hkeep rfl
  case busy =>
    refine completes_took (f := fun d => (d.writeCfgCtl v).startLoad (fld v 28 2)) rfl ha ?_
    obtain ⟨-, hlimit, hctl⟩ := writeCfgCtl_effect s.dev v
    have hbusy : (s.dev.writeCfgCtl v).load.isSome = true := by
      rw [hctl.1]
      simp [hl]
    rw [startLoad_busy hbusy]
    exact ⟨hlimit, hctl⟩
  case abortNone =>
    refine completes_took (f := fun d => (d.writeCfgCtl v).loadFail 0x16) rfl ha ?_
    obtain ⟨-, hlimit, hctl⟩ := writeCfgCtl_effect s.dev v
    have hnone : (s.dev.writeCfgCtl v).load = none := by
      rw [hctl.1]
      exact hload
    rw [loadFail_of_none hnone]
    exact ⟨hlimit, hctl⟩
  case portNone =>
    refine completes_took (f := (·.portBytes (bs.filterMap id))) rfl ha ?_
    simp [Device.portBytes, hload]
  case abort =>
    refine completes_took (f := fun d => (d.writeCfgCtl v).loadFail 0x16) rfl ha ?_
    obtain ⟨x, hx⟩ : ∃ x, x = s.dev.writeCfgCtl v := ⟨_, rfl⟩
    obtain ⟨-, -, hctl⟩ := writeCfgCtl_effect s.dev v
    rw [← hx] at hctl ⊢
    have hxl : x.load = some l := by
      rw [hctl.1]
      exact hl
    obtain ⟨hnone, hset, hcode, hidle, hstate, hmem, hregs⟩ := abort_header_effect hxl hphase
      ((regBit_congr (hctl.2 _ (by decide)) 63).trans hfirst) (code := 0x16) (by decide) rfl
    refine ⟨hnone, hset, hcode, hidle, hstate.trans (congrArg (fld · 0 4) (hctl.2 _ (by decide))), hctl.sameMemory.trans hmem,
      fun a ha => ?_⟩
    rw [hregs a (fun h => ha (List.mem_cons_of_mem _ h)), hctl.2 a (fun h => ha (by simp_all))]
  case port => exact completes_took (f := (·.portBytes (bs.filterMap id))) rfl ha (portBytes_taken hl hsrc hphase _)
  case noPort => exact completes_took (f := (·.portBytes (bs.filterMap id))) rfl ha (portBytes_discarded hl hsrc _)
  case waits => exact completes_took (f := Device.loadHeader) rfl ha (loadHeader_waits hl hlen)
  case refused =>
    refine completes_took (f := Device.loadHeader) rfl ha ?_
    rw [loadHeader_refused hl hphase hlen hcode]
    obtain ⟨hcount, hfield, hbit, hstate, hport, hother, hmem, hlantern, hregs⟩ := refuseHeader_effect hl hphase hfirst hc rfl
    exact ⟨hcount, hfield, hbit, hstate, hregs _ (by decide), hport, hother, hmem, hlantern, hregs⟩
  case accepted =>
    refine completes_took (f := Device.loadHeader) rfl ha ?_
    rw [loadHeader_accepted hl hphase hlen hcode]
    exact acceptHeader_held_effect hl hkind hrun rfl
  case stillHeld =>
    refine completes_took (f := Device.holdReleased) rfl ha ?_
    rw [holdReleased_held hl hphase, hrun]
    rfl
  case released =>
    refine completes_took (f := Device.holdReleased) rfl ha ?_
    rw [holdReleased_held hl hphase, if_pos (by rw [hrun]; rfl)]
    obtain ⟨hphase', hcfg, htile, hcache, hmaint, hlow, hslots, hnone, h12, h6, h5, hhbm, hqueues, hout⟩ :=
      beginBody_full_effect hl hkind rfl
    exact ⟨hphase', hcfg, htile, hcache, hmaint, hlow, hslots, hnone, h12, h6, h5, congrArg Hbm.mem hhbm, hqueues, hout⟩
  case cleared => exact completes_took (f := Device.clearDone) rfl ha (clearDone_port hl hphase hsrc)
  case notClearing => exact completes_took (f := Device.clearDone) rfl ha (clearDone_stays hl hphase)

end Sys2Proof.Machine
end

section
/-!
PROOFS. Start-up after a FULL load, and readback (R347, R424, R428, R430).
-/
namespace Sys2Proof.Machine

open Sys2Proof

/-! ### A FULL load that fails or is done (R422, R424) -/

theorem loadFail_lock {d : Device} {l : Load} (hl : d.load = some l) (hphase : l.phase = .lock)
    (hfirst : d.regBit Reg.cfgErr 63 = false) (code : Nat) :
    d.loadFail code = (((d.errored l code).bump Reg.cfgLoadFailCnt 1).closeLoad).failedKind l code := by
  simp [Device.loadFail, hl, hphase, loadError_first hl hfirst]

/-- MAINT in every Spire, CDONE low and no fabric: what a FULL load that has failed leaves beside the registers. -/
def Device.heldOff (d : Device) : Device :=
  { d with fabric := Fabric.initial, maintCfg := true, belfry := { d.belfry with cdoneLow := true } }

theorem reg_heldOff (d : Device) (a : Nat) : d.heldOff.reg a = d.reg a := rfl

theorem heldOff_effect (d : Device) : d.heldOff.load = d.load ∧ d.heldOff.lantern = d.lantern ∧ d.heldOff.maintCfg = true ∧
    d.heldOff.belfry.cdoneLow = true ∧ SameMemory d d.heldOff := ⟨rfl, rfl, rfl, rfl, rfl, rfl, rfl, rfl⟩

theorem fabricOff_heldOff (d : Device) : { d.fabricOff with maintCfg := true, belfry := { d.belfry with cdoneLow := true } } =
    d.fabricShownOff.heldOff := by
  have hbelfry : d.fabricShownOff.belfry = d.belfry := by rw [(onlyRegs_fabricShownOff d).1]
  rw [Device.heldOff, hbelfry, fabricOff_eq]

theorem failedKind_full {d : Device} {l : Load} (htasks : d.lantern.tasks = []) (hkind : l.kind = 1) {code : Nat}
    (hcode : ¬(code = 0x15 ∨ code = 0x16)) : d.failedKind l code = (d.fabricShownOff.heldOff.setCfgState 6).dropSlots := by
  obtain ⟨y, hy⟩ : ∃ y, y = d.fabricShownOff := ⟨_, rfl⟩
  have hyo : OnlyRegs fabricOffRegs d y := by rw [hy]; exact onlyRegs_fabricShownOff d
  obtain ⟨x, hx⟩ : ∃ x, x = (y.heldOff.setCfgState 6).dropSlots := ⟨_, rfl⟩
  obtain ⟨-, hheld, -⟩ := heldOff_effect y
  have hlantern : x.lantern = d.lantern := by
    rw [hx, (onlyRegs_dropSlots _).lantern_eq, Device.setCfgState, setF_lantern, hheld, hyo.lantern_eq]
  have hfail : d.failedKind l code = x.refuseWhere (fun _ => true) := by
    have hoff := fabricOff_heldOff d
    rw [← hy] at hoff
    simp only [Device.failedKind, hkind, if_neg hcode, hoff, hx]
  rw [hfail, refuseWhere_of_none (by rw [hlantern, htasks]), hx, hy]

/-- What a FULL load that fails for a reason of its own leaves. -/
theorem failedKind_full_effect {d : Device} {l : Load} (htasks : d.lantern.tasks = []) (hkind : l.kind = 1) {code : Nat}
    (hcode : ¬(code = 0x15 ∨ code = 0x16)) {e : Device} (he : e = d.failedKind l code) :
    e.load = d.load ∧ e.cfgState = 6 ∧ e.belfry.cdoneLow = true ∧ e.maintCfg = true ∧ (∀ k < 1024, e.slotValid k = false) ∧
    SameRegs (Reg.cfgStatus :: fabricOffRegs ++ (List.range 16).map Reg.lntSlotValid) d e ∧ SameMemory d e := by
  obtain ⟨y, hy⟩ : ∃ y, y = d.fabricShownOff := ⟨_, rfl⟩
  have hyo : OnlyRegs fabricOffRegs d y := by rw [hy]; exact onlyRegs_fabricShownOff d
  obtain ⟨hyload, -, hymaint, hylow, hymem⟩ := heldOff_effect y
  obtain ⟨x, hx⟩ : ∃ x, x = y.heldOff.setCfgState 6 := ⟨_, rfl⟩
  have hxo : OnlyRegs [Reg.cfgStatus] y.heldOff x := by rw [hx]; exact onlyRegs_setF _ _ _ _ _
  rw [failedKind_full htasks hkind hcode, ← hy, ← hx] at he
  have heo : OnlyRegs ((List.range 16).map Reg.lntSlotValid) x e := by rw [he]; exact onlyRegs_dropSlots x
  have hfields : e.load = y.heldOff.load ∧ e.belfry = y.heldOff.belfry ∧ e.maintCfg = y.heldOff.maintCfg := by
    rw [heo.1, hxo.1]
    exact ⟨rfl, rfl, rfl⟩
  obtain ⟨hload, hbelfry, hmaint⟩ := hfields
  refine ⟨hload.trans (hyload.trans (by rw [hyo.1])), ?_, (congrArg Belfry.cdoneLow hbelfry).trans hylow, hmaint.trans hymaint,
    fun k hk => ?_, fun a ha => ?_, ((hyo.sameMemory.trans hymem).trans hxo.sameMemory).trans heo.sameMemory⟩
  · rw [Device.cfgState, Device.regF, heo.2 _ (by decide), ← Device.regF, ← Device.cfgState, hx,
      cfgState_setCfgState _ (by decide)]
  · rw [Device.slotValid, Device.regBit, he, reg_dropSlots _ (by omega)]
    simp [bit]
  · simp only [List.cons_append, List.mem_cons, List.mem_append, not_or] at ha
    obtain ⟨hstatus, hfab, hslot⟩ := ha
    rw [heo.2 a hslot, hxo.2 a (by simpa using hstatus), reg_heldOff, hyo.2 a hfab]

/-- A device whose FULL load is done, with measurement `m`. -/
def Device.fullDone (d : Device) (l : Load) (m : List Byte) : Device :=
  (({ (d.setCfgState 4).closeLoad with keep := { d.keep with measure := m } } : Device).setReg
    Reg.cfgDesignId (wordAt l.header 2)).setStage 6

/-- A FULL load that is done shows its design, and takes part in no task's end. -/
theorem loadDone_full {d : Device} {l : Load} (htasks : d.lantern.tasks = []) (hkind : l.kind = 1) (hslot : l.openSlot = none) :
    ∃ m, d.loadDone l = d.fullDone l m := by
  refine ⟨Config.shake256 (List.replicate 64 0 ++ l.header ++ l.trailers), ?_⟩
  generalize he : d.fullDone l (Config.shake256 (List.replicate 64 0 ++ l.header ++ l.trailers)) = e
  have hnone : e.lantern.tasks = [] := by rw [← he]; exact htasks
  have hdone : d.loadDone l =
      (e.refuseWhere (fun t => t.state != .queued && !e.slotValid t.slot && !e.lantern.rewriting.contains t.slot)).reevaluate := by
    simp [Device.loadDone, hkind, hslot, ← he, Device.fullDone]
  rw [hdone, refuseWhere_of_none hnone, Device.reevaluate, noteEval_of_none hnone]

theorem loadDone_full_effect {d : Device} {l : Load} (htasks : d.lantern.tasks = []) (hkind : l.kind = 1)
    (hslot : l.openSlot = none) {e : Device} (he : e = d.loadDone l) :
    e.load = none ∧ e.cfgState = 4 ∧ e.regF Reg.cfgStatus 16 4 = 6 ∧ e.belfry = d.belfry ∧
    e.reg Reg.cfgDesignId = wordAt l.header 2 ∧ SameRegs [Reg.cfgStatus, Reg.cfgDesignId] d e ∧ SameMemory d e := by
  obtain ⟨m, hm⟩ := loadDone_full htasks hkind hslot
  obtain ⟨x, hx⟩ : ∃ x, x = (d.setCfgState 4).closeLoad := ⟨_, rfl⟩
  have hstate : OnlyRegs [Reg.cfgStatus] d (d.setCfgState 4) := onlyRegs_setF d _ _ _ _
  have hmem : SameMemory d x := by rw [hx]; exact hstate.sameMemory.trans (sameMemory_closeLoad (d.setCfgState 4))
  have hshown : x.cfgState = 4 := by rw [hx, cfgState_closeLoad, cfgState_setCfgState _ (by decide)]
  have hnone : x.load = none := by rw [hx]; exact load_closeLoad _
  have hbelfry : x.belfry = d.belfry := by rw [hx]; rfl
  have hregs : SameRegs [Reg.cfgStatus] d x := fun a ha => by
    rw [hx]
    exact (sameRegs_closeLoad _ a ha).trans (hstate.2 a ha)
  rw [Device.fullDone, ← hx] at hm
  obtain ⟨y, hy⟩ : ∃ y, y = ({ x with keep := { d.keep with measure := m } } : Device).setReg Reg.cfgDesignId (wordAt l.header 2) :=
    ⟨_, rfl⟩
  have hyo : SameRegs [Reg.cfgDesignId] x y := fun a ha => by
    rw [hy]
    exact reg_setReg_ne _ _ (by simpa using ha)
  have hydesign : y.reg Reg.cfgDesignId = wordAt l.header 2 := by rw [hy, reg_setReg]
  have hyfields : y.load = x.load ∧ y.belfry = x.belfry ∧ SameMemory x y := by
    rw [hy]
    exact ⟨rfl, rfl, rfl, rfl, rfl, rfl⟩
  obtain ⟨hyload, hybelfry, hymem⟩ := hyfields
  have hys : OnlyRegs [Reg.cfgStatus] y e := by rw [he, hm, ← hy]; exact onlyRegs_setF _ _ _ _ _
  have hstage : e = y.setF Reg.cfgStatus 16 4 6 := by rw [he, hm, ← hy]; rfl
  have hload : e.load = y.load := by rw [hys.1]
  have hb : e.belfry = y.belfry := by rw [hys.1]
  refine ⟨hload.trans (hyload.trans hnone), ?_, ?_, hb.trans (hybelfry.trans hbelfry), ?_, fun a ha => ?_,
    (hmem.trans hymem).trans hys.sameMemory⟩
  · rw [hstage, Device.cfgState, regF_setF_ne _ _ _ (by omega), Device.regF, hyo _ (by decide), ← Device.regF, ← Device.cfgState,
      hshown]
  · rw [hstage, regF_setF _ _ _ (by omega)]
    rfl
  · rw [hys.2 _ (by decide), hydesign]
  · simp only [List.mem_cons, List.not_mem_nil, or_false, not_or] at ha
    obtain ⟨hstatus, hdesign⟩ := ha
    rw [hys.2 a (by simpa using hstatus), hyo a (by simpa using hdesign), hregs a (by simpa using hstatus)]

/-! ### The stages (R424) -/

section
variable {d : Device} {l : Load} (hl : d.load = some l)
include hl

theorem lockStage_locked (hphase : l.phase = .lock) : d.lockStage =
    { d.setF Reg.cfgFabPllStatus 0 24 (d.regF Reg.cfgFabPllStatus 0 24 ||| (Config.pllUsed d.cfgMem).toNat) with load := some { l with
      phase := .stages (stageOrder (d.reg Reg.cfgStartup)), waitFrom := d.now } } := by
  simp only [Device.lockStage, hl, if_pos hphase]
  exact mapLoad_some (d := d.setF Reg.cfgFabPllStatus 0 24 _) hl _

theorem lockStage_stays (hphase : l.phase ≠ .lock) : d.lockStage = d := by simp [Device.lockStage, hl, hphase]

theorem lockLimit_stays (hphase : l.phase ≠ .lock) : d.lockLimit = d := by simp [Device.lockLimit, hl, hphase]

theorem lockLimit_past (hphase : l.phase = .lock) (hdue : l.waitFrom + 100000 * d.regF Reg.cfgStartup 24 8 ≤ d.now) :
    d.lockLimit = d.loadFail 0x40 := by
  simp [Device.lockLimit, hl, hphase, advance_past hdue]

/-- LOCK is not reached in time: the FULL load fails with 0x40. -/
theorem lockLimit_effect (hphase : l.phase = .lock) (hdue : l.waitFrom + 100000 * d.regF Reg.cfgStartup 24 8 ≤ d.now)
    (hkind : l.kind = 1) (htasks : d.lantern.tasks = []) (hdone : l.done < 2 ^ 40) (hfirst : d.regBit Reg.cfgErr 63 = false)
    {e : Device} (he : e = d.lockLimit) :
    e.load = none ∧ e.regF Reg.cfgErr 48 8 = 0x40 ∧ e.cfgState = 6 ∧ e.belfry.cdoneLow = true ∧ e.maintCfg = true ∧
    (∀ k < 1024, e.slotValid k = false) ∧ e.reg Reg.cfgLoadFailCnt = d.reg Reg.cfgLoadFailCnt + 1 ∧ SameMemory d e := by
  obtain ⟨x, hx⟩ : ∃ x, x = (d.errored l 0x40).bump Reg.cfgLoadFailCnt 1 := ⟨_, rfl⟩
  obtain ⟨hshown, -⟩ := cfgErr_errored d hdone (code := 0x40) (by decide)
  have herrored := onlyRegs_errored d l 0x40
  have hcount : x.reg Reg.cfgLoadFailCnt = d.reg Reg.cfgLoadFailCnt + 1 := by
    rw [hx, reg_bump, herrored.2 _ (by decide)]
    rfl
  have herr : x.regF Reg.cfgErr 48 8 = 0x40 := by rw [hx, Device.regF, reg_bump_ne _ _ (by decide), ← Device.regF, hshown]
  have hxmem : SameMemory d x := by
    rw [hx]
    exact herrored.sameMemory.trans (onlyRegs_bump _ _ _).sameMemory
  have hxtasks : x.closeLoad.lantern.tasks = [] := by rw [hx]; exact htasks
  rw [lockLimit_past hl hphase hdue, loadFail_lock hl hphase hfirst, ← hx] at he
  obtain ⟨hload, hstate, hlow, hmaint, hslots, hregs, hmem⟩ := failedKind_full_effect hxtasks hkind (code := 0x40) (by decide) he
  have hkept {a : Nat} (ha : a ∉ Reg.cfgStatus :: fabricOffRegs ++ (List.range 16).map Reg.lntSlotValid)
      (ha' : a ≠ Reg.cfgStatus) : e.reg a = x.reg a := (hregs a ha).trans (sameRegs_closeLoad x a (by simpa using ha'))
  refine ⟨hload, ?_, hstate, hlow, hmaint, hslots, (hkept (by decide) (by decide)).trans hcount,
    (hxmem.trans (sameMemory_closeLoad x)).trans hmem⟩
  rw [Device.regF, hkept (by decide) (by decide), ← Device.regF, herr]

omit hl in
theorem afterGap_past (hdue : l.waitFrom + 20 * d.regF Reg.cfgStartup 8 8 ≤ d.now) : d.afterGap l = d := advance_past hdue

omit hl in
/-- The stage that CFG_STATUS shows. -/
theorem regF_setStage (d : Device) {x : Nat} (h : x < 16) : (d.setStage x).regF Reg.cfgStatus 16 4 = x := by
  rw [Device.setStage, regF_setF _ _ _ (by omega)]
  omega

omit hl in
theorem setStage_effect (d : Device) {x : Nat} (h : x < 16) {e : Device} (he : e = d.setStage x) :
    e.regF Reg.cfgStatus 16 4 = x ∧ e.load = d.load ∧ e.now = d.now ∧ OnlyRegs [Reg.cfgStatus] d e := by
  subst he
  exact ⟨regF_setStage d h, rfl, rfl, onlyRegs_setF _ _ _ _ _⟩

/-- The next stage runs. -/
theorem stage_next {c : Nat} {rest : List Nat} (hphase : l.phase = .stages (c :: rest))
    (hdue : l.waitFrom + 20 * d.regF Reg.cfgStartup 8 8 ≤ d.now) {f : Device → Device} {e : Device}
    (he : e = f (d.setStage (4 - rest.length))) (hload : e.load = some l) (hnow : e.now = d.now) :
    d.stage c f = { e with load := some { l with phase := .stages rest, waitFrom := d.now } } := by
  have hstage : d.stage c f = e.mapLoad (fun l => { l with phase := .stages rest, waitFrom := e.now }) := by
    simp only [Device.stage, hl, hphase, if_true, afterGap_past hdue, ← he]
  rw [hstage, mapLoad_some hload, hnow]

theorem stage_other {c : Nat} {rest : List Nat} (hphase : l.phase = .stages (c :: rest)) {code : Nat} (h : c ≠ code)
    (f : Device → Device) : d.stage code f = d := by
  simp [Device.stage, hl, hphase, h]

/-- The last stage releases CDONE; with CDONE_WAIT the engine waits until CDONE reads high. -/
theorem cdoneStage_due (hphase : l.phase = .stages []) (hdue : l.waitFrom + 20 * d.regF Reg.cfgStartup 8 8 ≤ d.now)
    (hpins : d.pinsTaken = false) {e : Device}
    (he : e = { d.setStage 5 with belfry := { d.belfry with cdoneLow := false } }) : d.cdoneStage =
    if d.regBit Reg.cfgStartup 16 = true ∧ d.belfry.cdone = false then { e.setCfgState 3 with load := some { l with phase := .cdone } }
    else e.loadDone l := by
  have hload : (e.setCfgState 3).load = some l := by rw [he]; exact hl
  have hpins' : (d.setStage 5).pinsTaken = false := hpins
  have hwait : e.regBit Reg.cfgStartup 16 = d.regBit Reg.cfgStartup 16 := by
    rw [he]
    exact regBit_setF_other d _ _ _ _ (by decide)
  have hcdone : e.belfry.cdone = d.belfry.cdone := by rw [he]
  have hbelfry : (d.setStage 5).belfry = d.belfry := rfl
  have hstage : d.cdoneStage = if e.regBit Reg.cfgStartup 16 = true ∧ e.belfry.cdone = false then
      (e.setCfgState 3).mapLoad (fun l => { l with phase := .cdone }) else e.loadDone l := by
    simp only [Device.cdoneStage, hl, if_pos hphase, afterGap_past hdue, hpins', hbelfry, ← he, hcdone]
  rw [hstage, mapLoad_some hload, hwait, hcdone]

end

/-- A device that has just released CDONE. -/
theorem cdoneReleased_effect (d : Device) {y : Device}
    (hy : y = { d.setStage 5 with belfry := { d.belfry with cdoneLow := false } }) :
    y.belfry = { d.belfry with cdoneLow := false } ∧ y.regF Reg.cfgStatus 16 4 = 5 ∧ y.lantern = d.lantern ∧
    SameRegs [Reg.cfgStatus] d y ∧ SameMemory d y := by
  obtain ⟨hstage, -, -, honly⟩ := setStage_effect d (x := 5) (by decide) rfl
  rw [hy]
  exact ⟨rfl, hstage, rfl, honly.2, honly.sameMemory⟩

theorem cdoneRose_low {d : Device} (h : d.belfry.cdoneLow = true) : d.cdoneRose = d := if_pos h

theorem cdoneRose_cdone {d : Device} {l : Load} (hlow : d.belfry.cdoneLow = false) (hl : d.load = some l) (hphase : l.phase = .cdone) :
    d.cdoneRose = ({ d with belfry := { d.belfry with cdone := true } } : Device).loadDone l := by
  simp [Device.cdoneRose, hlow, hl, hphase]

/-! ### Readback (R428) -/

theorem cfgRbData_injective : Function.Injective Reg.cfgRbData := fun i j h => by unfold Reg.cfgRbData at h; omega

theorem cfgRbData_ne {a : Nat} (ha : a < 0x190000) (k : Nat) : Reg.cfgRbData k ≠ a := by unfold Reg.cfgRbData; omega

theorem reg_setRbData (d : Device) (bs : List Byte) {k : Nat} (hk : k < 128) :
    (d.setRbData bs).reg (Reg.cfgRbData k) = wordAt bs k := reg_foldl_setReg cfgRbData_injective _ 128 d hk

theorem onlyRegs_setRbData (d : Device) (bs : List Byte) : OnlyRegs ((List.range 128).map Reg.cfgRbData) d (d.setRbData bs) :=
  OnlyRegs.foldl (fun _ hk e => (OnlyRegs.refl e _).setReg (List.mem_map_of_mem hk) _) d

theorem wordAt_nil (k : Nat) : wordAt [] k = 0 := by simp [wordAt, bytesNat]

/-- The device after a write of CFG_RB_ADDR with address `a`. -/
def Device.rbAddressed (d : Device) (w : Word) : Device := d.setReg Reg.cfgRbAddr (BitVec.ofNat 64 (fld w 0 40))

theorem readback_idle (d : Device) {w : Word} (h : bit w 63 = false) : d.readback w = d.rbAddressed w := if_pos h

theorem readback_eq (d : Device) {w : Word} (h : bit w 63 = true) {i : Nat}
    (hi : frameIndex (BitVec.ofNat 40 (fld w 0 40)) = some i) : d.readback w =
    if (d.load.isSome || d.regBit Reg.cfgStatus 7 || bit d.keep.fuses.policy 2) = true then
      ((d.rbAddressed w).setRbData []).setReg Reg.cfgRbStatus 2
    else (d.rbAddressed w).setReg Reg.cfgRbStatus 1 := by
  have hstatus : (d.rbAddressed w).regBit Reg.cfgStatus 7 = d.regBit Reg.cfgStatus 7 := regBit_setReg_ne d _ _ (by decide)
  have hopen : d.readback w = if ((d.rbAddressed w).load.isSome || (d.rbAddressed w).regBit Reg.cfgStatus 7 ||
      bit (d.rbAddressed w).keep.fuses.policy 2 || (frameIndex (BitVec.ofNat 40 (fld w 0 40))).isNone) = true then
      ((d.rbAddressed w).setRbData []).setReg Reg.cfgRbStatus 2 else (d.rbAddressed w).setReg Reg.cfgRbStatus 1 :=
    if_neg (by simp [h])
  rw [hopen, hstatus, hi]
  simp [Device.rbAddressed]

theorem onlyRegs_rbAddressed (d : Device) (w : Word) : OnlyRegs [Reg.cfgRbAddr] d (d.rbAddressed w) := onlyRegs_setReg d _ _

theorem readbackDone_eq (d : Device) (h : d.regBit Reg.cfgRbStatus 0 = true) {i : Nat}
    (hi : frameIndex (BitVec.ofNat 40 (d.regF Reg.cfgRbAddr 0 40)) = some i) :
    d.readbackDone = (d.setRbData (memRead d.cfgMem (1024 * i) 1024)).setReg Reg.cfgRbStatus 4 := by
  simp [Device.readbackDone, h, hi]

/-- What OUT_REL shows. -/
theorem outRel_effect (d : Device) {e : Device} (he : e = d.outRel) :
    e.regF Reg.cfgRegionValid 0 48 = 2 ^ 48 - 1 ∧ e.reg Reg.cfgFabApStatus = -1 ∧
    OnlyRegs (ioRegs ++ [Reg.cfgFabApStatus, Reg.cfgRegionValid]) d e := by
  subst he
  refine ⟨?_, ?_, (((onlyRegs_releaseIo d _).mono (by simp +contextual)).setReg (by simp) _).setReg (by simp) _⟩
  · rw [Device.outRel, Device.regF, reg_setReg]
    decide
  · rw [Device.outRel, reg_setReg_ne _ _ (by decide), reg_setReg]

/-- Settles O37: LOCK, each stage and CDONE by the phase of the load, and a readback by what stands in its way. -/
theorem startupStagesAndReadback : Obligations.StartupStagesAndReadback := by
  intro s ha
  refine ⟨fun l hl => ⟨fun hphase => ⟨?lock, fun hdue hkind htasks hdone hfirst => ?lockLimit⟩,
      fun hphase => ⟨completes_took (f := Device.lockStage) rfl ha (lockStage_stays hl hphase),
        completes_took (f := Device.lockLimit) rfl ha (lockLimit_stays hl hphase)⟩,
      fun c rest hphase hrest hdue => ⟨fun hc => ?outRel, fun hc => ?wrEn, fun hc => ?rstRel,
        fun hc => completes_took (f := (·.stage 1 Device.outRel)) rfl ha (stage_other hl hphase hc _),
        fun hc => completes_took (f := (·.stage 2 Device.wrEn)) rfl ha (stage_other hl hphase hc _),
        fun hc => completes_took (f := (·.stage 3 Device.rstRel)) rfl ha (stage_other hl hphase hc _)⟩,
      fun hphase hdue hpins hwait hcdone => ?waits, fun hphase hdue hpins hwait hkind hslot htasks => ?done,
      fun hpins hlow hphase hkind hslot htasks => ?risen⟩,
    fun hlow => ?low, fun hpins hlow hload => ?noLoad, fun w hw => ?address,
    fun w i hw hi => ⟨fun hload henc hpolicy => ?readback, fun hno => ?noReadback⟩, fun hno => ?notAsked, fun i hgo hi => ?complete⟩
  case lock =>
    refine completes_took (f := Device.lockStage) rfl ha ?_
    obtain ⟨x, hx⟩ : ∃ x, x = s.dev.setF Reg.cfgFabPllStatus 0 24
      (s.dev.regF Reg.cfgFabPllStatus 0 24 ||| (Config.pllUsed s.dev.cfgMem).toNat) := ⟨_, rfl⟩
    have honly : OnlyRegs [Reg.cfgFabPllStatus] s.dev x := by rw [hx]; exact onlyRegs_setF _ _ _ _ _
    have hmem := honly.sameMemory
    rw [lockStage_locked hl hphase, ← hx]
    exact ⟨rfl, honly.2, hmem⟩
  case lockLimit =>
    exact completes_took (f := Device.lockLimit) rfl ha (lockLimit_effect hl hphase hdue hkind htasks hdone hfirst rfl)
  case outRel =>
    subst hc
    refine completes_took (f := (·.stage 1 Device.outRel)) rfl ha ?_
    obtain ⟨x, hx⟩ : ∃ x, x = s.dev.setStage (4 - rest.length) := ⟨_, rfl⟩
    obtain ⟨hstage, hload, hnow, hxo⟩ := setStage_effect s.dev (by omega) hx
    obtain ⟨e, he⟩ : ∃ e, e = x.outRel := ⟨_, rfl⟩
    obtain ⟨hvalid, haps, heo⟩ := outRel_effect x he
    have hkept : e.load = x.load ∧ e.now = x.now := by
      rw [heo.1]
      exact ⟨rfl, rfl⟩
    obtain ⟨hload', hnow'⟩ := hkept
    have hmem := hxo.sameMemory.trans heo.sameMemory
    rw [stage_next hl hphase hdue (he.trans (by rw [hx])) (hload'.trans (hload.trans hl))
      (hnow'.trans hnow)]
    refine ⟨rfl, hvalid, haps, Eq.trans ?_ hstage, hmem⟩
    exact congrArg (fld · 16 4) (heo.2 Reg.cfgStatus (by decide))
  case wrEn =>
    subst hc
    refine completes_took (f := (·.stage 2 Device.wrEn)) rfl ha ?_
    obtain ⟨x, hx⟩ : ∃ x, x = s.dev.setStage (4 - rest.length) := ⟨_, rfl⟩
    obtain ⟨hstage, hload, hnow, hxo⟩ := setStage_effect s.dev (by omega) hx
    have hmem := hxo.sameMemory
    rw [stage_next hl hphase hdue (e := x.wrEn) (by rw [hx]) (hload.trans hl) hnow]
    exact ⟨rfl, rfl, hstage, hxo.2, hmem⟩
  case rstRel =>
    subst hc
    refine completes_took (f := (·.stage 3 Device.rstRel)) rfl ha ?_
    obtain ⟨x, hx⟩ : ∃ x, x = s.dev.setStage (4 - rest.length) := ⟨_, rfl⟩
    obtain ⟨hstage, hload, hnow, hxo⟩ := setStage_effect s.dev (by omega) hx
    have hmem := hxo.sameMemory
    rw [stage_next hl hphase hdue (e := x.rstRel) (by rw [hx]) (hload.trans hl) hnow]
    exact ⟨rfl, rfl, rfl, hstage, hxo.2, hmem⟩
  case waits =>
    refine completes_took (f := Device.cdoneStage) rfl ha ?_
    obtain ⟨y, hy⟩ : ∃ y, y = ({ s.dev.setStage 5 with belfry := { s.dev.belfry with cdoneLow := false } } : Device) := ⟨_, rfl⟩
    obtain ⟨hbelfry, hstage, -, hregs, hmem⟩ := cdoneReleased_effect s.dev hy
    rw [cdoneStage_due hl hphase hdue hpins hy, if_pos ⟨hwait, hcdone⟩]
    refine ⟨hbelfry, cfgState_setCfgState y (by decide), Eq.trans (regF_setF_ne y _ _ (by omega)) hstage, rfl, fun a ha => ?_, hmem⟩
    exact (reg_setF_ne y 0 4 3 (by simpa using ha)).trans (hregs a ha)
  case done =>
    refine completes_took (f := Device.cdoneStage) rfl ha ?_
    obtain ⟨y, hy⟩ : ∃ y, y = ({ s.dev.setStage 5 with belfry := { s.dev.belfry with cdoneLow := false } } : Device) := ⟨_, rfl⟩
    obtain ⟨hbelfry, -, hlantern, hregs, hmem⟩ := cdoneReleased_effect s.dev hy
    rw [cdoneStage_due hl hphase hdue hpins hy, if_neg (by simp [hwait])]
    obtain ⟨hnone, hstate, hstage, hkept, hdesign, hregs', hmem'⟩ := loadDone_full_effect (by rw [hlantern, htasks]) hkind hslot
      (d := y) rfl
    refine ⟨hnone, hstate, hstage, by rw [hkept, hbelfry], hdesign, fun a ha => ?_, hmem.trans hmem'⟩
    rw [hregs' a ha, hregs a (fun h => ha (by simp_all))]
  case risen =>
    refine completes_took (f := (·.pinEvent Device.cdoneRose)) rfl ha ?_
    rw [pinEvent_open _ hpins, cdoneRose_cdone hlow hl hphase]
    obtain ⟨hnone, hstate, -, hbelfry, hdesign, -, hmem⟩ := loadDone_full_effect
      (d := { s.dev with belfry := { s.dev.belfry with cdone := true } }) htasks hkind hslot rfl
    exact ⟨by rw [hbelfry], hnone, hstate, hdesign, hmem⟩
  case low =>
    refine completes_took (f := (·.pinEvent Device.cdoneRose)) rfl ha ?_
    rw [Device.pinEvent, cdoneRose_low hlow, ite_self]
  case noLoad =>
    refine completes_took (f := (·.pinEvent Device.cdoneRose)) rfl ha ?_
    rw [pinEvent_open _ hpins]
    simp [Device.cdoneRose, hlow, hload]
  case address =>
    refine completes_took (f := (·.readback w)) rfl ha ?_
    rw [readback_idle _ hw]
    exact ⟨reg_setReg _ _ _, onlyRegs_rbAddressed _ _⟩
  case readback =>
    refine completes_took (f := (·.readback w)) rfl ha ?_
    rw [readback_eq _ hw hi, if_neg (by simp [hload, henc, hpolicy])]
    exact ⟨(reg_setReg_ne _ _ (by decide)).trans (reg_setReg _ _ _), reg_setReg _ _ _,
      ((onlyRegs_rbAddressed s.dev w).mono (by simp)).setReg (by simp) _⟩
  case noReadback =>
    refine completes_took (f := (·.readback w)) rfl ha ?_
    rw [readback_eq _ hw hi, if_pos (by simpa only [Bool.or_eq_true, or_assoc] using hno)]
    refine ⟨reg_setReg _ _ _, fun k hk => ?_, (((onlyRegs_rbAddressed s.dev w).mono (by simp)).trans
      ((onlyRegs_setRbData _ []).mono fun a ha => List.mem_append_right _ ha)).setReg (by simp) _⟩
    rw [reg_setReg_ne _ _ (cfgRbData_ne (by decide) k), reg_setRbData _ _ hk, wordAt_nil]
  case notAsked => exact completes_took (f := Device.readbackDone) rfl ha (if_pos hno)
  case complete =>
    refine completes_took (f := Device.readbackDone) rfl ha ?_
    rw [readbackDone_eq _ hgo hi]
    refine ⟨reg_setReg _ _ _, fun k hk => ?_,
      ((onlyRegs_setRbData s.dev _).mono fun a ha => List.mem_cons_of_mem _ ha).setReg (by simp) _⟩
    rw [reg_setReg_ne _ _ (cfgRbData_ne (by decide) k), reg_setRbData _ _ hk]

end Sys2Proof.Machine
end

section
/-!
PROOFS. Blocks and packets of a load (R413 - R419, R422, R424).
-/
namespace Sys2Proof.Machine

open Sys2Proof

/-! ### A packet that is past (R414) -/

/-- The load past a packet with `n` bytes of data. -/
def Load.pastPacket (l : Load) (n : Nat) : Load := { l with body := l.body.drop (16 + n), done := l.done + 16 + n }

/-- Past a packet, with less than another one there and room for it in the body, the load waits for more. -/
theorem consume_packet {d : Device} {k l : Load} (hk : d.load = some k) (hphase : k.phase = .body)
    (hlen : k.body.length < l.plen + 32) (hroom : k.done + l.plen + 32 ≤ k.bodyLen) :
    d.consume l = { d with load := some (k.pastPacket l.plen) } := by
  have hbody : ¬(k.pastPacket l.plen).bodyLen < (k.pastPacket l.plen).done + 16 := by
    show ¬k.bodyLen < k.done + 16 + l.plen + 16
    omega
  have hfew : ¬(16 ≤ (k.pastPacket l.plen).body.length ∧ (k.pastPacket l.plen).packetBad = true) := by
    rintro ⟨hlong, -⟩
    simp only [Load.pastPacket, List.length_drop] at hlong
    omega
  have hmap : d.mapLoad (fun x => { x with body := x.body.drop (16 + l.plen), done := x.done + 16 + l.plen }) =
      { d with load := some (k.pastPacket l.plen) } := mapLoad_some hk _
  rw [Device.consume, hmap, Device.screen]
  simp only [hbody, hfew, if_false]
  exact if_neg (not_not.2 hphase)

/-- What the next packet is. -/
theorem packet_whole {d : Device} {op : Nat} {l : Load} (h : d.packet op = some l) : 16 + l.plen ≤ l.body.length := by
  unfold Device.packet at h
  split at h
  · cases h
  next k hk =>
    split at h
    next hc =>
      cases h
      exact hc.2.2.2.1
    · cases h

/-! ### Blocks (R413) -/

section
variable {d : Device} {l : Load} (hl : d.load = some l)
include hl

theorem takeBlock_none (h : l.blocks ≤ l.block) : d.takeBlock = d := by
  simp [Device.takeBlock, hl, h]

section
variable {n : Nat} (hn : n = l.blockLen l.block) (hphase : l.phase = .body) (hblock : l.block < l.blocks)
  (hlen : n + 16 ≤ l.buf.length) (hplain : bit (wordAt l.header 1) 48 = false)
include hn hphase hblock hlen hplain

/-- A block that its CRC confirms joins the body. -/
theorem takeBlock_right
    (hcrc : (l.buf.drop n).take 16 = natBytes 4 (crc32c (l.buf.take n)).toNat ++ List.replicate 12 0) : d.takeBlock =
    (({ d with load := some { l with
      buf := l.buf.drop (n + 16), body := l.body ++ l.buf.take n, block := l.block + 1,
      trailers := l.trailers ++ (l.buf.drop n).take 16, waitFrom := d.now } } : Device).screen).loadFetch := by
  have hgo : ¬(l.phase ≠ .body ∨ l.blocks ≤ l.block ∨ l.buf.length < n + 16) := by
    simp only [hphase, ne_eq, not_true_eq_false, false_or]
    omega
  have hbit : bit (wd ((List.range 16).map (wordAt l.header)) 1) 48 = false := hplain
  simp only [Device.takeBlock, hl, ← hn, if_neg hgo, hbit]
  rw [if_neg (by decide), if_pos hcrc]
  simp [Device.mapLoad, hl]

/-- Any other block ends the load. -/
theorem takeBlock_wrong
    (hcrc : (l.buf.drop n).take 16 ≠ natBytes 4 (crc32c (l.buf.take n)).toNat ++ List.replicate 12 0) :
    d.takeBlock = d.loadFail 0x10 := by
  have hgo : ¬(l.phase ≠ .body ∨ l.blocks ≤ l.block ∨ l.buf.length < n + 16) := by
    simp only [hphase, ne_eq, not_true_eq_false, false_or]
    omega
  have hbit : bit (wd ((List.range 16).map (wordAt l.header)) 1) 48 = false := hplain
  simp only [Device.takeBlock, hl, ← hn, if_neg hgo, hbit]
  rw [if_neg (by decide), if_neg hcrc]

end

/-- A load whose next packet is in order waits. -/
theorem screen_waits (hroom : l.done + 16 ≤ l.bodyLen) (hgood : l.packetBad = false) : d.screen = d := by
  have hfew : ¬(16 ≤ l.body.length ∧ l.packetBad = true) := by simp [hgood]
  simp only [Device.screen, hl, if_neg (Nat.not_lt.2 hroom), if_neg hfew, ite_self]

/-- The error of a load of regions in its body: what is shown, and what is left. -/
theorem loadFail_regions_shows (hphase : l.phase = .body) (hkind : l.kind = 3)
    (hfirst : d.regBit Reg.cfgErr 63 = false) {code : Nat} {e : Device} (he : e = d.loadFail code) :
    e.regBit Reg.cfgStatus 4 = false ∧ SameRegs [Reg.cfgErr, Reg.cfgErrLoc, Reg.cfgLoadFailCnt, Reg.cfgStatus] d e := by
  obtain ⟨x, hx⟩ : ∃ x, x = (d.errored l code).bump Reg.cfgLoadFailCnt 1 := ⟨_, rfl⟩
  have hxo : OnlyRegs [Reg.cfgErr, Reg.cfgErrLoc, Reg.cfgLoadFailCnt] d x := by
    rw [hx]
    exact ((onlyRegs_errored d l code).mono (by simp)).bump (by simp) 1
  rw [loadFail_regions hl hphase hkind hfirst, ← hx] at he
  rw [he]
  refine ⟨?_, fun a ha => ?_⟩
  · rw [Device.setCfgState, regBit_setF_outside _ _ _ (by omega), regBit_closeLoad]
  · rw [Device.setCfgState, reg_setF_ne _ _ _ _ (fun h => ha (by simp [h])), sameRegs_closeLoad x a (fun h => ha (by simp_all)),
      hxo.2 a (fun h => ha (List.mem_of_mem_take (i := 3) h))]

/-! ### Frames (R415, R417, R419) -/

/-- A frame is written where the load may write it. -/
theorem writeFrame_allowed {a : BitVec 40} {i : Nat} (hi : frameIndex a = some i) (hallowed : d.frameAllowed l a = true)
    (bs : List Byte) : d.writeFrame a bs =
    { (d.setF Reg.cfgStatus 32 32 (l.frames + 1)).bump Reg.cfgFrameCnt 1 with
      cfgMem := memWrite d.cfgMem (1024 * i) bs
      load := some { l with
        frames := l.frames + 1, headerIn := l.headerIn || (fld a 38 2 == 2 && some (fld a 0 16) == l.openSlot) } } := by
  simp only [Device.writeFrame, hl, hi, hallowed]
  rw [if_neg (by decide)]
  simp only [Device.mapLoad, bump_load, setF_load, Option.map_some]
  rfl

end

/-- What the write of a frame of 1,024 bytes leaves. -/
theorem frameWritten_effect (d : Device) {l : Load} {a : BitVec 40} {i : Nat} {bs : List Byte} (hl : d.load = some l)
    (hi : frameIndex a = some i) (hallowed : d.frameAllowed l a = true) (hlen : bs.length = 1024) {e : Device}
    (he : e = d.writeFrame a bs) :
    (∃ h, e.load = some { l with frames := l.frames + 1, headerIn := h }) ∧
    memRead e.cfgMem (1024 * i) 1024 = bs ∧
    (∀ b, b < 1024 * i ∨ 1024 * i + 1024 ≤ b → memByte e.cfgMem b = memByte d.cfgMem b) ∧
    e.reg Reg.cfgFrameCnt = d.reg Reg.cfgFrameCnt + 1 ∧ SameRegs [Reg.cfgFrameCnt, Reg.cfgStatus] d e ∧
    e.hbm = d.hbm ∧ e.tile = d.tile ∧ e.streams = d.streams := by
  obtain ⟨x, hx⟩ : ∃ x, x = (d.setF Reg.cfgStatus 32 32 (l.frames + 1)).bump Reg.cfgFrameCnt 1 := ⟨_, rfl⟩
  have hxo : OnlyRegs [Reg.cfgFrameCnt, Reg.cfgStatus] d x := by
    rw [hx]
    exact ((OnlyRegs.refl d _).setF (by simp) _ _ _).bump (by simp) 1
  have hcount : x.reg Reg.cfgFrameCnt = d.reg Reg.cfgFrameCnt + 1 := by
    rw [hx, reg_bump, reg_setF_ne _ _ _ _ (by decide)]
    rfl
  have hkept : x.hbm = d.hbm ∧ x.tile = d.tile ∧ x.streams = d.streams := by
    rw [hx]
    exact ⟨rfl, rfl, rfl⟩
  rw [writeFrame_allowed hl hi hallowed, ← hx] at he
  rw [he]
  refine ⟨⟨_, rfl⟩, ?_, fun b hb => ?_, hcount, hxo.2, hkept⟩
  · rw [← hlen]
    exact memRead_memWrite _ _ _
  · refine (memByte_memWrite _ _ _ _).trans (if_neg ?_)
    rw [hlen]
    omega

/-! ### Packets (R414 - R419) -/

section
variable {d : Device} {l : Load}

theorem nopPacket_eq (h : d.packet 0x00 = some l) : d.nopPacket = d.consume l := by simp [Device.nopPacket, h]

theorem setAddr_eq (h : d.packet 0x01 = some l) : d.setAddr =
    if (frameIndex (BitVec.ofNat 40 (fld l.p1 0 40))).isNone then
      (d.mapLoad (fun x => { x with faddr := BitVec.ofNat 40 (fld l.p1 0 40), past := false })).loadFail 0x12
    else (d.mapLoad (fun x => { x with faddr := BitVec.ofNat 40 (fld l.p1 0 40), past := false })).consume l := by
  simp only [Device.setAddr, h]

theorem startupPacket_eq (h : d.packet 0x04 = some l) : d.startupPacket = (d.setReg Reg.cfgStartup l.p1).consume l := by
  simp [Device.startupPacket, h]

/-- One frame, not compressed. -/
theorem framesPacket_one (h : d.packet 0x02 = some l) (hcomp : bit l.p0 8 = false) (hplen : l.plen = 1024) {f : List Byte}
    (hf : f = (l.body.drop 16).take 1024) (hlen : f.length = 1024) : d.framesPacket =
    ((d.mapLoad (fun x => { x with history := (l.history ++ f).drop ((l.history ++ f).length - 8192) })).writeFrames 1 f).consume l := by
  have hone : f.length / 1024 = 1 := by rw [hlen]
  simp only [Device.framesPacket, h, decodeFrames, hcomp, hplen, ← hf, if_true, hone]

/-- The frame buffer, to one frame. -/
theorem replicatePacket_one (h : d.packet 0x03 = some l) {f : List Byte} (hf : l.frame = some f) (hone : fld l.p1 40 16 = 0) :
    d.replicatePacket = (d.writeFrame (BitVec.ofNat 40 (fld l.p1 0 40)) f).consume l := by
  simp only [Device.replicatePacket, h, hf, hone, Device.replicate, Option.getD_some]

end

/-- Which frames a load may write does not depend on what it has decoded. -/
theorem frameAllowed_history (d : Device) (l : Load) (x : Option Load) (h : List Byte) (a : BitVec 40) :
    ({ d with load := x } : Device).frameAllowed { l with history := h } a = d.frameAllowed l a := rfl

/-- One frame goes to the current frame address, which moves on. -/
theorem writeFrames_one {d : Device} {l : Load} (hl : d.load = some l) (hpast : l.past = false) {f : List Byte}
    (hlen : f.length = 1024) : d.writeFrames 1 f = (d.writeFrame l.faddr f).mapLoad (fun x => { x with
      frame := some f, faddr := (nextFrame x.faddr).getD x.faddr, past := (nextFrame x.faddr).isNone }) := by
  have htake : f.take 1024 = f := List.take_of_length_le (by omega)
  simp only [Device.writeFrames, hl, hpast, htake]
  exact if_neg (by decide)

/-- Settles O35: a block by its trailer, and each packet by its operation and its address. -/
theorem blocksAndPacketsFillThePlanes : Obligations.BlocksAndPacketsFillThePlanes := by
  intro s l ha hl hdone hfirst
  refine ⟨fun n hn hphase hblock hlen hplain => ⟨fun hcrc hsrc hroom k hk hgood => ?blockRight, fun hcrc hkind => ?blockWrong⟩,
    fun hblock => completes_took (f := Device.takeBlock) rfl ha (takeBlock_none hl hblock), ?packets⟩
  case blockRight =>
    refine completes_took (f := Device.takeBlock) rfl ha ?_
    have hkroom : k.done + 16 ≤ k.bodyLen := by
      rw [hk]
      exact hroom
    rw [takeBlock_right hl hn hphase hblock hlen hplain hcrc, ← hk, screen_waits rfl hkroom hgood]
    exact loadFetch_port rfl (by rw [hk]; exact hsrc.ge)
  case blockWrong =>
    refine completes_took (f := Device.takeBlock) rfl ha ?_
    rw [takeBlock_wrong hl hn hphase hblock hlen hplain hcrc]
    obtain ⟨hnone, hcode, hcount, hstate, hmem⟩ := loadFail_regions_effect hl hphase hkind hdone hfirst 0x10
    obtain ⟨hidle, hregs⟩ := loadFail_regions_shows hl hphase hkind hfirst rfl
    exact ⟨hnone, hcode (by decide), hcount, hstate, hidle, hmem, hregs⟩
  intro op hpacket hlen hroom k hk
  obtain ⟨-, hphase, -⟩ := packet_some hpacket
  have hwhole := packet_whole hpacket
  have hkpast : k = l.pastPacket l.plen := hk
  refine ⟨fun hop => ?nop, fun hop i hi => ?address, fun hop hi hkind => ?outside, fun i hop hcomp hplen hpast hi hallowed => ?frame,
    fun i f a hop hf hflen hone haddr hi hallowed => ?replicate, fun hop => ?startup⟩
  case nop =>
    subst hop
    refine completes_took (f := Device.nopPacket) rfl ha ?_
    rw [nopPacket_eq hpacket, consume_packet hl hphase hlen hroom, hkpast]
  case address =>
    subst hop
    refine completes_took (f := Device.setAddr) rfl ha ?_
    obtain ⟨m, hm⟩ : ∃ m, m = ({ l with faddr := BitVec.ofNat 40 (fld l.p1 0 40), past := false } : Load) := ⟨_, rfl⟩
    have hmpast : m.pastPacket l.plen = { k with faddr := BitVec.ofNat 40 (fld l.p1 0 40), past := false } := by rw [hm, hk]; rfl
    rw [setAddr_eq hpacket, hi, if_neg (by simp), mapLoad_some hl, ← hm, ← hmpast]
    refine consume_packet rfl ?_ ?_ ?_
    · rw [hm]; exact hphase
    · rw [hm]; exact hlen
    · rw [hm]; exact hroom
  case outside =>
    subst hop
    refine completes_took (f := Device.setAddr) rfl ha ?_
    rw [setAddr_eq hpacket, hi, Option.isNone_none, if_pos (Eq.refl true), mapLoad_some hl]
    obtain ⟨hnone, hcode, -, hstate, hmem⟩ := loadFail_regions_effect (d := { s.dev with load := some { l with
      faddr := BitVec.ofNat 40 (fld l.p1 0 40), past := false } }) rfl hphase hkind hdone hfirst 0x12
    exact ⟨hnone, hcode (by decide), hstate, hmem⟩
  case frame =>
    subst hop
    refine completes_took (f := Device.framesPacket) rfl ha ?_
    obtain ⟨f, hf⟩ : ∃ f, f = (l.body.drop 16).take 1024 := ⟨_, rfl⟩
    have hflen : f.length = 1024 := by
      rw [hf, List.length_take, List.length_drop]
      omega
    obtain ⟨m, hm⟩ : ∃ m, m = ({ l with history := (l.history ++ f).drop ((l.history ++ f).length - 8192) } : Load) := ⟨_, rfl⟩
    obtain ⟨x, hx⟩ : ∃ x, x = ({ s.dev with load := some m } : Device) := ⟨_, rfl⟩
    obtain ⟨y, hy⟩ : ∃ y, y = x.writeFrame l.faddr f := ⟨_, rfl⟩
    have hxload : x.load = some m := by rw [hx]
    have hxallowed : x.frameAllowed m l.faddr = true := by
      rw [hx, hm, frameAllowed_history, hallowed]
    obtain ⟨⟨h, hload⟩, hread, hother, hcount, hregs, hhbm, htile, hstreams⟩ :=
      frameWritten_effect x hxload hi hxallowed hflen hy
    have hmpast : m.past = false := by rw [hm]; exact hpast
    have hmaddr : m.faddr = l.faddr := by rw [hm]
    obtain ⟨n, hn⟩ : ∃ n, n = ({ m with
      frames := m.frames + 1, headerIn := h, frame := some f, faddr := (nextFrame l.faddr).getD l.faddr
      past := (nextFrame l.faddr).isNone } : Load) := ⟨_, rfl⟩
    have hwritten : x.writeFrames 1 f = { y with load := some n } := by
      rw [writeFrames_one hxload hmpast hflen, hmaddr, ← hy, mapLoad_some hload, hn, hmaddr]
    have hnl : n.frame = some f ∧ n.frames = l.frames + 1 ∧ n.body = l.body ∧ n.done = l.done ∧ n.phase = l.phase ∧
        n.bodyLen = l.bodyLen ∧ n.faddr = (nextFrame l.faddr).getD l.faddr := by
      rw [hn, hm]
      exact ⟨rfl, rfl, rfl, rfl, rfl, rfl, rfl⟩
    obtain ⟨hframe, hframes, hbody, hndone, hnphase, hnlen, hfaddr⟩ := hnl
    rw [framesPacket_one hpacket hcomp hplen hf hflen, mapLoad_some hl, ← hm, ← hx, hwritten,
      consume_packet (d := { y with load := some n }) rfl (by rw [hnphase, hphase]) (by rw [hbody]; exact hlen)
        (by rw [hndone, hnlen]; exact hroom), ← hf]
    rw [hx] at hother hcount hregs hhbm htile hstreams
    refine ⟨hread, hother, ⟨_, rfl, hframe, hframes, ?_, ?_, fun g hg => ?_⟩, hcount, hregs, hhbm, htile, hstreams⟩
    · rw [hk]
      exact congrArg (List.drop (16 + l.plen)) hbody
    · rw [hk]
      exact congrArg (· + 16 + l.plen) hndone
    · exact hfaddr.trans (by rw [hg]; rfl)
  case replicate =>
    subst hop haddr
    refine completes_took (f := Device.replicatePacket) rfl ha ?_
    obtain ⟨x, hx⟩ : ∃ x, x = s.dev.writeFrame (BitVec.ofNat 40 (fld l.p1 0 40)) f := ⟨_, rfl⟩
    obtain ⟨⟨h, hload⟩, hread, hother, hcount, hregs, hhbm, htile, hstreams⟩ :=
      frameWritten_effect s.dev hl hi hallowed hflen hx
    rw [replicatePacket_one hpacket hf hone, ← hx, consume_packet hload hphase hlen hroom]
    exact ⟨hread, hother, ⟨_, rfl, hf, rfl, rfl, by rw [hkpast]; rfl⟩, hcount, hregs, hhbm, htile, hstreams⟩
  case startup =>
    subst hop
    refine completes_took (f := Device.startupPacket) rfl ha ?_
    have honly := onlyRegs_setReg s.dev Reg.cfgStartup l.p1
    have hmem := honly.sameMemory
    rw [startupPacket_eq hpacket, consume_packet (d := s.dev.setReg Reg.cfgStartup l.p1) hl hphase hlen hroom, hkpast]
    exact ⟨reg_setReg s.dev Reg.cfgStartup l.p1, rfl, honly.2, hmem⟩

end Sys2Proof.Machine
end

section
/-!
PROOFS. Resets of the endpoint and the memories (R381).
-/
namespace Sys2Proof.Machine

open Sys2Proof Sys2Proof.Tests

/-! ### Spires in which nothing happens -/

section
variable {d : Device} (hspires : d.dome.spires = [])
include hspires

theorem vx_of_reset (n : Nat) : d.vx n = Spire.initial.vx := by
  rw [Device.vx, Device.spire, hspires]
  rfl

/-- An update that leaves a Spire as it is after reset changes nothing. -/
theorem mapVx_of_reset (n : Nat) {f : Vx → Vx} (hf : f Spire.initial.vx = Spire.initial.vx) : d.mapVx n f = d := by
  have hspire : d.spire n = Spire.initial := by
    rw [Device.spire, hspires]
    rfl
  have hput : mapPut Spire.initial d.dome.spires n { d.spire n with vx := f (d.spire n).vx } = d.dome.spires := by
    have hsame : ({ Spire.initial with vx := Spire.initial.vx } : Spire) = Spire.initial := rfl
    rw [hspire, hf, hspires, hsame]
    simp [mapPut]
  rw [Device.mapVx, Device.mapSpire, Device.setSpire, hput]

variable (hi : DomeIdle d)
include hi

/-- A Spire as after reset, in a Dome in which nothing happens, does nothing. -/
theorem spireClock_of_reset (n x : Nat) : d.spireClock n x VxEnv.clean = d := by
  have hvx := vx_of_reset hspires n
  have hheld : (d.vx n).heldAt x = none := by rw [hvx]; rfl
  have hraise : d.raiseClashes n x = d := by
    rw [Device.raiseClashes, hvx]
    exact mapVx_of_reset hspires n rfl
  have hcommit : d.commitVx n x = d := by
    rw [Device.commitVx, hvx]
    exact mapVx_of_reset hspires n rfl
  have hact : d.actHeld n x = d := by rw [Device.actHeld, hheld]
  have hprog : (d.vx n).prog = none := by rw [hvx]; rfl
  rw [spireClock_of_idle hi, Device.vxClock]
  simp only [hheld, losePort_of_idle hi, hraise, hprog, hcommit, hact]

end

/-- A dclk in which the Dome does only what comes before its programs. -/
theorem domeClock_of_reset {d : Device} {x : Nat} (hi : DomeIdle (d.domeHead x)) (hspires : (d.domeHead x).dome.spires = []) :
    d.domeClock x = d.domeHead x := by
  have hfold : ∀ l : List Nat, l.foldl (fun d n => if x < (d.spire n).ahead then d else d.spireClock n x VxEnv.clean) (d.domeHead x) =
      d.domeHead x := by
    intro l
    induction l with
    | nil => rfl
    | cons n l ih => rw [List.foldl_cons, spireClock_of_reset hspires hi, ite_self, ih]
  exact hfold _

/-! ### An abort that takes a gcyc (R355) -/

/-- What happens in gcyc `g` once the Dome has run. -/
def Device.afterDome (d : Device) (g : Nat) : Device :=
  let d := if d.netQuiet || !d.netRuns then d else (d.netClock (2 * g)).netClock (2 * g + 1)
  let d := d.fabricClock g
  let d := { d with belfry := { d.belfry with gcyc := g + 1 }, net := { d.net with clock := 2 * (g + 1) } }
  d.compareReads.offerCells

theorem gcycStep_eq (d : Device) : d.gcycStep = ((d.countHeld 1).domeTo (4 * (d.now + 1))).afterDome d.now := rfl

/-- The device once the abort of context `c` has been decided. -/
def Device.abortChosen (d : Device) (c : Nat) : Device :=
  (({ d with cluster := { d.cluster with abortFrom := some d.now, reports := [] } } : Device).originate 0x14 [c]).abortClusterLocal c

/-- The device with dclk 3 past, in which the Dome does only what comes before its programs. -/
def Device.headPassed (d : Device) : Device :=
  let e := (d.countHeld 1).domeHead 3
  { e with dome := { e.dome with clock := e.dome.clock + 1 } }

/-- The device a gcyc later. -/
def Device.firstGcyc (d : Device) : Device := d.headPassed.afterDome 0

/-- In gcyc 0, dclk 3 is all that the Dome has left, and it does in it only what comes before its programs. -/
def HeadLeft (d : Device) : Prop :=
  d.now = 0 ∧ d.belfry.counting = true ∧ firstDue 1 d.lantern.dues = none ∧ d.streams.threads = [] ∧ d.quiet = false ∧
    (d.countHeld 1).dome.clock = 3 ∧ (d.countHeld 1).domeBusy = true ∧ ((d.countHeld 1).domeHead 3).dome.dops = [] ∧
    ((d.countHeld 1).domeHead 3).dome.plan = [] ∧ ((d.countHeld 1).domeHead 3).dome.starts = [] ∧
    ((d.countHeld 1).domeHead 3).dome.copies = [] ∧ ((d.countHeld 1).domeHead 3).dome.units = [] ∧
    ((d.countHeld 1).domeHead 3).dome.spires = []

theorem HeadLeft.advance {d : Device} (h : HeadLeft d) : d.advance 1 = d.firstGcyc := by
  obtain ⟨hnow, hcount, hdues, hthreads, hquiet, hclock, hbusy, hdops, hplan, hstarts, hcopies, hunits, hspires⟩ := h
  have hdome : (d.countHeld 1).domeTo 4 = d.headPassed := by
    rw [Device.domeTo, hclock, if_neg (by decide), if_pos hbusy]
    show (have x := (d.countHeld 1).domeClock (d.countHeld 1).dome.clock
      ({ x with dome := { x.dome with clock := x.dome.clock + 1 } } : Device)) = d.headPassed
    rw [hclock, domeClock_of_reset ⟨hdops, hplan, hstarts, hcopies, hunits⟩ hspires]
    rfl
  have hoffer : d.offerCells = d := by rw [Device.offerCells, hthreads, List.filterMap_nil, List.foldl_nil]
  have hstep : d.gcycStep = d.firstGcyc := by rw [gcycStep_eq, hnow, hdome, Device.firstGcyc]
  have hrun : d.runDues 1 (d.lantern.dues.length + 4 * d.lantern.tasks.length + 1) = d := by rw [Device.runDues, hdues]
  have hopen : d.now < 1 ∧ d.belfry.counting = true := ⟨by rw [hnow]; decide, hcount⟩
  rw [Device.advance, if_pos hopen, hrun, Device.clockTo, if_pos hopen, hoffer, hnow, Device.clockRun,
    if_neg (by rw [hquiet]; decide), hstep, Device.clockRun]

/-- The Dome holder of a device, ended by an abort. -/
def Device.holderAborted (d : Device) : Device :=
  let h := d.holder.getD (runOf 0 7, slotTask 0 .completing)
  d.clusterAborted h.1 h.2 d.now

/-- Context `c` holds the Dome with a completing task, this device is all of the cluster, and nothing else is left of gcyc 0. -/
def EndsNextGcyc (d : Device) (c : Nat) : Prop :=
  (d.lantern.run.elim false (fun r => r.cluster && r.ctx == c) || d.lantern.cluPend.elim false (fun p => p.ctx == c)) = true ∧
    d.isMaster = true ∧ d.cluster.abortFrom.isSome = false ∧ (d.abortChosen c).holder.isSome = true ∧
    (d.abortChosen c).holder.elim false (fun p => p.1.decided.isSome) = true ∧
    (d.abortChosen c).cluster.abortFrom = some 0 ∧
    (d.abortChosen c).cluster.member.elim 0 (·.membersM1) ≤ ((d.abortChosen c).cluster.reports.map (fun e => e.2.cover)).sum ∧
    (d.abortChosen c).firstGcyc.holder.isSome = true ∧
    (((d.abortChosen c).firstGcyc.holderAborted.ctxTasks c).drop 1).filter (fun t => t.state == .queued) = []

theorem getD_of_isSome {α : Type} {o : Option α} (h : o.isSome = true) (a b : α) : o.getD a = o.getD b := by
  cases o with
  | none => simp at h
  | some x => rfl

/-- Such a task is ended once that gcyc has passed. -/
theorem EndsNextGcyc.abortRequest {d : Device} {c : Nat} (h : EndsNextGcyc d c) (hleft : HeadLeft (d.abortChosen c)) :
    d.abortRequest c true = (d.abortChosen c).firstGcyc.holderAborted := by
  obtain ⟨hclu, hmaster, hfrom, hholder, hended, habort, hreports, hlater, hqueued⟩ := h
  obtain ⟨p, hp⟩ := Option.isSome_iff_exists.1 hholder
  have hdecide : d.decideAbort c = (d.abortChosen c).tryClusterAborted := by
    rw [Device.decideAbort, if_neg (by rw [hfrom]; decide)]
    rfl
  have hend : d.decideAbort c = (d.abortChosen c).firstGcyc.holderAborted := by
    rw [hp] at hended
    rw [hdecide, Device.tryClusterAborted, hp]
    dsimp only
    rw [if_pos ⟨by rw [habort]; rfl, hended, hreports⟩, habort, Option.getD_some, hleft.advance,
      getD_of_isSome hlater p (runOf 0 7, slotTask 0 .completing), Device.holderAborted]
  rw [Device.abortRequest]
  dsimp only
  rw [if_pos hclu, if_pos hmaster, hend, if_pos rfl, hqueued, List.foldl_nil]

/-! ### A reset that takes a gcyc (R381) -/

/-- The device that resets function `f`, before the tasks of its contexts are aborted. -/
def Device.beforeAborts (d : Device) (f : Nat) : Device :=
  let posted := (d.hif.held.filter (fun x => x.func == f && x.request.posted)).length
  let d := if posted = 0 then d else d.bump Reg.hifWrDiscardCnt posted
  let d := (d.setFunc f Func.initial).mapHif (fun h => { h with
    held := h.held.filter (fun x => x.func != f), ats := h.ats.filter (fun x => x.func != f),
    invals := h.invals.filter (fun x => x.1 != f) })
  let d := (d.failReads f).setFunc f Func.initial
  (List.range 256).foldl (fun d r => if ringFunc d r = f then d.ringOff r else d) d

theorem resetFunc_eq (d : Device) (f : Nat) : d.resetFunc f =
    ((d.beforeAborts f).funcContexts f).foldl (fun d n => d.abortRequest n true) (d.beforeAborts f) := rfl

/-- A unit of the Dome network that reaches line 5 of the tile stores in the next dclk. -/
def arrivingUnit : DomeUnit :=
  { src := .gate, read := 0, write := 0, dst := .line 5 none, hops := [], lost := false, data := some (freshUnit 7), ecc := Ecc.clean }

/-- The completing cluster task of context 7, which is virtual function 1's, in a cluster of one device, with that unit on its way. -/
def arrivingDev : Device :=
  { withRegs fresh [(Reg.ctxW0 7, 1)] with
    dome := { fresh.dome with clock := 3, units := [arrivingUnit] }
    lantern := { fresh.lantern with
      run := some { runOf 0 7 with cluster := true, decided := some 0 }
      tasks := [slotTask 0 .completing] } }

/-- The device before the abort of the function's tasks. -/
def flrDev : Device := arrivingDev.beforeAborts 1

theorem headLeft_flrDev : HeadLeft (flrDev.abortChosen 7) := by
  unfold HeadLeft
  decide +kernel

theorem endsNextGcyc_flrDev : EndsNextGcyc flrDev 7 := by
  unfold EndsNextGcyc
  decide +kernel

theorem flr_arrivingDev : arrivingDev.flr 1 = (flrDev.abortChosen 7).firstGcyc.holderAborted := by
  have hctx : flrDev.funcContexts 1 = [7] := by decide +kernel
  have hflr : arrivingDev.flr 1 = (flrDev.funcContexts 1).foldl (fun d n => d.abortRequest n true) flrDev := rfl
  rw [hflr, hctx, List.foldl_cons, List.foldl_nil, endsNextGcyc_flrDev.abortRequest headLeft_flrDev]

/-- The gcyc in which the task ends has brought the unit to its line. -/
theorem tile_flr_arrivingDev : ((arrivingDev.flr 1).tile.unit 5).data ≠ (arrivingDev.tile.unit 5).data := by
  rw [flr_arrivingDev]
  decide +kernel

/-- Refutes O6: a reset of virtual function 1 aborts its completing task, whose end in a cluster of one takes a gcyc; a unit of the
Dome network arrives in it, and the tile stores change. -/
theorem not_endpointResetsPowerAndConfiguration : ¬ Obligations.EndpointResetsPowerAndConfiguration := by
  intro h
  obtain ⟨⟨d, hexec, -, -, hmem⟩, -⟩ := h.1 { dev := arrivingDev, pending := [] } 1 (by decide +kernel)
  have hd : d = arrivingDev.flr 1 := by
    have hflr : exec (.functionLevelReset 1) { dev := arrivingDev, pending := [] } =
        .next { dev := arrivingDev.flr 1, pending := [] } := took_alive (·.flr 1) (by decide +kernel)
    rw [hflr] at hexec
    have hstate := Host.Outcome.next.inj hexec
    rw [State.mk.injEq] at hstate
    exact hstate.1.symm
  obtain ⟨-, htile, -⟩ := hmem
  refine tile_flr_arrivingDev ?_
  rw [← hd, htile]

end Sys2Proof.Machine
end

section
/-!
PROOFS. Errors of the endpoint, and translations (R380, R382).
-/
namespace Sys2Proof.Machine

open Sys2Proof

/-! ### Error reporting (R382) -/

theorem func_setFunc (d : Device) (f : Nat) (x : Func) : (d.setFunc f x).func f = x := mapGet_mapPut _ _ _ _

/-- What an error of an uncorrectable class leaves. -/
theorem aerLog_effect (d : Device) (f severity : Nat) {i : Nat} (h : i < 32) {e : Device} (he : e = d.aerLog f i severity) :
    bit (e.func f).aer i = true ∧ (e.func f).config = (d.func f).config ∧ e.out = d.out ++ [.aer f severity] ∧
    e.regs = d.regs ∧ SameMemory d e := by
  have hfunc : e.func f = { d.func f with aer := (d.func f).aer ||| BitVec.ofNat 32 (2 ^ i) } := by
    rw [he]
    exact func_setFunc d f _
  have hbit := bit_aerLog d f severity h
  rw [← he] at hbit
  refine ⟨hbit, by rw [hfunc], ?_⟩
  rw [he]
  exact ⟨rfl, rfl, rfl, rfl, rfl, rfl⟩

/-- What an error that the link layer has corrected leaves. -/
theorem aerCorrect_effect (d : Device) (f : Nat) {i : Nat} (h : i < 32) {e : Device}
    (he : e = (d.aerCorrect f i).emit (.aer f 0)) :
    bit (e.func f).aerCor i = true ∧ (e.func f).aer = (d.func f).aer ∧ e.out = d.out ++ [.aer f 0] ∧ e.regs = d.regs ∧
    SameMemory d e := by
  have hfunc : e.func f = { d.func f with aerCor := (d.func f).aerCor ||| BitVec.ofNat 32 (2 ^ i) } := by
    rw [he]
    exact func_setFunc d f _
  refine ⟨?_, by rw [hfunc], ?_⟩
  · rw [hfunc, bit, BitVec.getLsbD_or, BitVec.getLsbD_ofNat, Nat.testBit_two_pow_self]
    simp [h]
  · rw [he]
    exact ⟨rfl, rfl, rfl, rfl, rfl, rfl⟩

theorem badTlp_some (d : Device) (f : Nat) (k : TlpError) : d.badTlp (some f) k = d.aerError f k := rfl

/-! ### Translations (R380) -/

/-- A translation that nothing waits for is kept. -/
theorem atsDone_of_none {d : Device} (h : d.hif.held = []) (e : AtsEntry) : d.atsDone e = d.mapHif (fun h => { h with
    held := [], ats := (e :: h.ats.filter (fun x => !(x.func == e.func && x.page == e.page))).take 512 }) := by
  simp only [Device.atsDone, Device.mapHif, h, Device.splitHeld, List.foldl_nil]

/-- The translation of a page that has just come is found for every address of the page. -/
theorem atsFind_atsDone {d : Device} (h : d.hif.held = []) (e : AtsEntry) :
    (d.atsDone e).atsFind e.func (4096 * e.page) = some e := by
  have hpage : 4096 * e.page / 4096 = e.page := Nat.mul_div_cancel_left _ (by decide)
  rw [atsDone_of_none h, Device.atsFind, hpage]
  exact List.find?_cons_of_pos (by simp)

section
variable {d : Device} {f page : Nat} (hheld : d.hif.held = []) (hinvals : d.hif.invals = []) (hread : d.reading f = false)
include hheld hinvals hread

/-- An invalidation of a function that reads nothing is completed at once. -/
theorem atsInvalidate_idle : d.atsInvalidate f page = (d.mapHif (fun h => { h with
    ats := h.ats.filter (fun e => !(e.func == f && e.page == page)), invals := [] })).emit (.atsInvalidated f (4096 * page)) := by
  obtain ⟨x, hx⟩ : ∃ x, x = d.mapHif (fun h => { h with
    ats := h.ats.filter (fun e => !(e.func == f && e.page == page)), invals := h.invals ++ [(f, page)] }) := ⟨_, rfl⟩
  have hinv : d.atsInvalidate f page = x.settleInvals := by
    simp [Device.atsInvalidate, hheld, hx]
  have hone : x.hif.invals = [(f, page)] := by
    rw [hx]
    exact congrArg (· ++ [(f, page)]) hinvals
  have hxread : x.reading f = false := by rw [hx]; exact hread
  have hdone : x.hif.invals.filter (fun e => !x.reading e.1) = [(f, page)] := by
    rw [hone]
    simp [hxread]
  have hleft : x.hif.invals.filter (fun e => !([(f, page)] : List (Nat × Nat)).contains e) = [] := by
    rw [hone]
    simp
  simp only [hinv, Device.settleInvals, hdone, Device.mapHif, hleft, List.foldl_cons, List.foldl_nil]
  rw [hx]
  rfl

theorem atsFind_atsInvalidate : (d.atsInvalidate f page).atsFind f (4096 * page) = none := by
  have hpage : 4096 * page / 4096 = page := Nat.mul_div_cancel_left _ (by decide)
  rw [atsInvalidate_idle hheld hinvals hread, Device.atsFind, hpage]
  refine List.find?_eq_none.2 fun e he => ?_
  have hkept := (List.mem_filter.1 he).2
  rw [Bool.not_eq_true', ← Bool.not_eq_true] at hkept
  exact hkept

end

/-- Settles O7: each error by its class, and a translation by what waits for it and what is being read. -/
theorem endpointErrorsAndTranslations : Obligations.EndpointErrorsAndTranslations := by
  refine ⟨fun s f ha => ⟨fun tag => ?unsupported, ?malformed, ?ecrc, ?badTlp⟩,
    fun s f page ha hheld => ⟨fun target rd wr => ?translation, fun hinvals hread => ?invalidation⟩⟩
  case unsupported =>
    refine completes_took (f := (·.unsupported f (some tag))) rfl ha ?_
    obtain ⟨hbit, hconfig, hout, hregs, hmem⟩ := aerLog_effect s.dev f 1 (i := 20) (by decide) rfl
    refine ⟨hbit, hconfig, ?_, hregs, hmem⟩
    show (s.dev.aerLog f 20 1).out ++ [Output.completion tag 1 [] false] = _
    rw [hout, List.append_assoc, List.singleton_append]
  case malformed =>
    refine completes_took (f := (·.badTlp (some f.val) .malformed)) rfl ha ?_
    obtain ⟨hbit, -, hrest⟩ := aerLog_effect s.dev f 2 (i := 18) (by decide) rfl
    exact ⟨hbit, hrest⟩
  case ecrc =>
    refine completes_took (f := (·.badTlp (some f.val) .ecrc)) rfl ha ?_
    obtain ⟨hbit, -, hrest⟩ := aerLog_effect s.dev f 1 (i := 19) (by decide) rfl
    exact ⟨hbit, hrest⟩
  case badTlp =>
    exact completes_took (f := (·.badTlp (some f.val) .badTlp)) rfl ha (aerCorrect_effect s.dev f (i := 6) (by decide) rfl)
  case translation =>
    obtain ⟨e, he⟩ : ∃ e, e = ({ func := f, page := page, target := target, read := rd, write := wr } : AtsEntry) := ⟨_, rfl⟩
    refine completes_took (f := fun d => d.linkUse.atsDone { func := f, page := page, target := target, read := rd, write := wr }) rfl
      ha ?_
    have hfind := atsFind_atsDone (d := s.dev.linkUse) hheld { func := f, page := page, target := target, read := rd, write := wr }
    refine ⟨hfind, ?_⟩
    rw [atsDone_of_none (d := s.dev.linkUse) hheld]
    exact ⟨rfl, rfl, rfl, rfl, rfl, rfl⟩
  case invalidation =>
    refine completes_took (f := (·.atsInvalidate f page)) rfl ha ?_
    refine ⟨atsFind_atsInvalidate hheld hinvals hread, ?_⟩
    rw [atsInvalidate_idle hheld hinvals hread]
    exact ⟨rfl, rfl, rfl, rfl, rfl, rfl, rfl⟩

end Sys2Proof.Machine
end

section
/-!
PROOFS. The hard blocks of the fabric (R389, R390, R392 - R395, R398 - R401).
-/
namespace Sys2Proof.Machine

open Sys2Proof

/-! ### Clock trees and PLLs (R392 - R395) -/

section
variable {d : Device} {n : Nat}

theorem setTree_held (h : bit d.fabric.running (n / 16) = false) (f : ClockTree → ClockTree) : d.setTree n f = d :=
  if_neg (by rw [h]; decide)

/-- A tree of a running region changes, and no other. -/
theorem setTree_running (h : bit d.fabric.running (n / 16) = true) (f : ClockTree → ClockTree) {e : Device}
    (he : e = d.setTree n f) :
    e.tree n = f (d.tree n) ∧ (∀ u, u ≠ n → e.tree u = d.tree u) ∧ e.regs = d.regs ∧ SameMemory d e := by
  rw [Device.setTree, if_pos h] at he
  subst he
  refine ⟨?_, fun u hu => ?_, rfl, rfl, rfl, rfl, rfl⟩
  · exact congrArg (Option.getD · _) (mapGet_mapPut none d.fabric.trees n _)
  · exact congrArg (Option.getD · _) (mapGet_mapPut_ne none d.fabric.trees _ hu)

end

/-- A PLL that loses lock: LOCKED falls, LOSS is set and counted. -/
theorem pllLoses_locked {d : Device} {p : Nat} (hp : p < 24) (h : d.regBit Reg.cfgFabPllStatus p = true) {e : Device}
    (he : e = d.pllLoses p) :
    e.regBit Reg.cfgFabPllStatus p = false ∧ e.regBit Reg.cfgFabPllStatus (32 + p) = true ∧
    e.reg Reg.cfgFabPllUnlockCnt = d.reg Reg.cfgFabPllUnlockCnt + 1 ∧
    OnlyRegs [Reg.cfgFabPllStatus, Reg.cfgFabPllUnlockCnt] { d with justSet := e.justSet } e := by
  rw [Device.pllLoses, if_pos h] at he
  subst he
  have hstatus : (((d.setF Reg.cfgFabPllStatus p 1 0).raise Reg.cfgFabPllStatus (BitVec.ofNat 64 (2 ^ (32 + p)))).bump
      Reg.cfgFabPllUnlockCnt 1).reg Reg.cfgFabPllStatus =
      putFld (d.reg Reg.cfgFabPllStatus) p 1 0 ||| BitVec.ofNat 64 (2 ^ (32 + p)) := by
    rw [reg_bump_ne _ _ (by decide), reg_raise, reg_setF]
  have hbit (i : Nat) (hi : i < 64) : (((d.setF Reg.cfgFabPllStatus p 1 0).raise Reg.cfgFabPllStatus
      (BitVec.ofNat 64 (2 ^ (32 + p)))).bump Reg.cfgFabPllUnlockCnt 1).regBit Reg.cfgFabPllStatus i =
      (bit (putFld (d.reg Reg.cfgFabPllStatus) p 1 0) i || decide (32 + p = i)) := by
    rw [Device.regBit, hstatus, bit, BitVec.getLsbD_or, BitVec.getLsbD_ofNat, Nat.testBit_two_pow, decide_eq_true hi, Bool.true_and]
    rfl
  refine ⟨?_, ?_, ?_, rfl, fun a ha => ?_⟩
  · rw [hbit p (by omega), bit_putFld, if_pos (by omega), decide_eq_false (by omega)]
    simp
  · rw [hbit _ (by omega), decide_eq_true rfl, Bool.or_true]
  · rw [reg_bump, reg_raise_ne _ _ (by decide), reg_setF_ne _ _ _ _ (by decide)]
    rfl
  · simp only [List.mem_cons, List.not_mem_nil, or_false, not_or] at ha
    obtain ⟨hstat, hcnt⟩ := ha
    rw [reg_bump_ne _ _ hcnt, reg_raise_ne _ _ hstat, reg_setF_ne _ _ _ _ hstat]
    rfl

/-! ### Delay lines (R398) -/

theorem delayLine_setDelay (d : Device) (n : Nat) (x : DelayLine) : (d.setDelay n x).delayLine n = x :=
  congrArg (Option.getD · _) (mapGet_mapPut none d.fabric.delays n (some x))

section
variable {d : Device} {n tap : Nat}

theorem stepDelay_busy (h : (d.delayLine n).at_ d.now = (tap, true)) (inc : Bool) : d.stepDelay n inc = d := by
  simp [Device.stepDelay, h]

variable (h : (d.delayLine n).at_ d.now = (tap, false))
include h

theorem stepDelay_up (htap : tap < 511) : d.stepDelay n true = d.setDelay n { tap := tap + 1, load := none } := by
  simp [Device.stepDelay, h, htap]

theorem stepDelay_down (htap : 0 < tap) : d.stepDelay n false = d.setDelay n { tap := tap - 1, load := none } := by
  simp [Device.stepDelay, h, htap]

/-- Past the last tap the line stands at some tap. -/
theorem stepDelay_past {inc : Bool} (hend : inc = true ∧ tap = 511 ∨ inc = false ∧ tap = 0) :
    d.stepDelay n inc = (d.takeFree 9).2.setDelay n { tap := (d.takeFree 9).1.toNat, load := none } := by
  have hup : ¬(inc = true ∧ tap < 511) := by
    rintro ⟨rfl, hlt⟩
    simp at hend
    omega
  have hdown : ¬(inc = false ∧ 0 < tap) := by
    rintro ⟨rfl, hlt⟩
    simp at hend
    omega
  simp only [Device.stepDelay, h, if_neg hup, if_neg hdown]
  exact if_neg (by decide)

end

/-- A line that has been told to move to `t` stands where it stood, and is there 2,048 gcyc later. -/
theorem at_loadDelay {d : Device} {n tap t : Nat} {busy : Bool} (h : (d.delayLine n).at_ d.now = (tap, busy)) (htap : tap < 512)
    (ht : t < 512) : ((d.loadDelay n t).delayLine n).at_ d.now = (tap, decide (tap ≠ t)) ∧
    ((d.loadDelay n t).delayLine n).at_ (d.now + 2048) = (t, false) := by
  have hline : (d.loadDelay n t).delayLine n = { tap := tap, load := some (t, d.now) } := by
    rw [Device.loadDelay, delayLine_setDelay, h]
  have hnow : (d.now - d.now) / 4 = 0 := by omega
  have hlater : (d.now + 2048 - d.now) / 4 = 512 := by omega
  rw [hline]
  simp only [DelayLine.at_, hnow, hlater]
  constructor
  · split
    next hle => rw [min_eq_right (by omega), Nat.add_zero]; exact congrArg (Prod.mk tap) (decide_eq_decide.2 (by omega))
    next hgt => rw [max_eq_right (by omega), Nat.sub_zero]; exact congrArg (Prod.mk tap) (decide_eq_decide.2 (by omega))
  · split
    next hle => rw [min_eq_left (by omega), decide_eq_false (by omega)]
    next hgt => rw [max_eq_left (by omega), decide_eq_false (by omega)]

/-! ### Fabric lanes (R399 - R401) -/

/-- The lane after a corrected codeword, before its words go on. -/
def Device.codeGood (d : Device) (l k : Nat) : Device :=
  let run := (min 3 ((mapGet (0, 0) d.fabric.codewords l).1 + 1), 0)
  let lock := if d.regBit (Reg.cfgFabLaneStatus l) 3 then decide (run.2 < 3) else decide (run.1 = 3)
  ((d.mapFabric (fun f => { f with codewords := mapPut (0, 0) f.codewords l run })).setF (Reg.cfgFabLaneStatus l) 3 1
    (b2n lock)).bump (Reg.cfgFabLaneFecCorrCnt l) k

/-- The lane after a codeword that cannot be corrected, before its words go on. -/
def Device.codeBad (d : Device) (l : Nat) : Device :=
  let run := (0, min 3 ((mapGet (0, 0) d.fabric.codewords l).2 + 1))
  let lock := if d.regBit (Reg.cfgFabLaneStatus l) 3 then decide (run.2 < 3) else decide (run.1 = 3)
  let d' := (d.mapFabric (fun f => { f with codewords := mapPut (0, 0) f.codewords l run })).setF (Reg.cfgFabLaneStatus l) 3 1 (b2n lock)
  if d.regBit (Reg.cfgFabLaneStatus l) 3 then d'.bump (Reg.cfgFabLaneFecUncorrCnt l) 1 else d'

section
variable {d : Device} {l : Nat} (hon : d.regBit (Reg.cfgFabLaneStatus l) 7 = true)
include hon

theorem cdrLock_on (b : Bool) : d.cdrLock l b = d.setF (Reg.cfgFabLaneStatus l) 4 1 (b2n b) := if_pos hon

variable (hfec : d.regBit (Reg.cfgFabLaneStatus l) 5 = true)
include hfec

/-- A codeword whose errors have been corrected. -/
theorem codeword_some (k : Nat) (ws : List (BitVec 257)) : d.codeword l (some k) ws =
    if (d.regBit (Reg.cfgFabLaneStatus l) 3 && decide ((d.codeGood l k).regF (Reg.cfgFabLaneTest l) 0 3 = 0)) = true then
      (d.codeGood l k).emit (.laneWords l false ws) else d.codeGood l k := by
  rw [Device.codeword, if_neg (by simp [hon, hfec])]
  rfl

/-- A codeword that cannot be corrected. -/
theorem codeword_none (ws : List (BitVec 257)) : d.codeword l none ws =
    if (d.regBit (Reg.cfgFabLaneStatus l) 3 && decide ((d.codeBad l).regF (Reg.cfgFabLaneTest l) 0 3 = 0)) = true then
      (d.codeBad l).emit (.laneWords l true ws) else d.codeBad l := by
  rw [Device.codeword, if_neg (by simp [hon, hfec])]
  rfl

end

theorem cfgFabLaneFecCorrCnt_ne_status (l : Nat) : Reg.cfgFabLaneFecCorrCnt l ≠ Reg.cfgFabLaneStatus l := by
  unfold Reg.cfgFabLaneFecCorrCnt Reg.cfgFabLaneStatus
  omega

theorem cfgFabLaneFecUncorrCnt_ne_status (l : Nat) : Reg.cfgFabLaneFecUncorrCnt l ≠ Reg.cfgFabLaneStatus l := by
  unfold Reg.cfgFabLaneFecUncorrCnt Reg.cfgFabLaneStatus
  omega

theorem cfgFabLaneTest_ne (l : Nat) : Reg.cfgFabLaneTest l ≠ Reg.cfgFabLaneStatus l ∧
    Reg.cfgFabLaneTest l ≠ Reg.cfgFabLaneFecCorrCnt l := by
  unfold Reg.cfgFabLaneTest Reg.cfgFabLaneStatus Reg.cfgFabLaneFecCorrCnt
  omega

/-- What a corrected codeword shows. -/
theorem codeGood_effect (d : Device) (l k : Nat) {e : Device} (he : e = d.codeGood l k) :
    e.regBit (Reg.cfgFabLaneStatus l) 3 = (d.regBit (Reg.cfgFabLaneStatus l) 3 ||
      decide (min 3 ((mapGet (0, 0) d.fabric.codewords l).1 + 1) = 3)) ∧
    e.reg (Reg.cfgFabLaneFecCorrCnt l) = d.reg (Reg.cfgFabLaneFecCorrCnt l) + BitVec.ofNat 64 k ∧
    e.regF (Reg.cfgFabLaneTest l) 0 3 = d.regF (Reg.cfgFabLaneTest l) 0 3 ∧ e.out = d.out := by
  obtain ⟨htest, htest'⟩ := cfgFabLaneTest_ne l
  have hcorr := cfgFabLaneFecCorrCnt_ne_status l
  subst he
  refine ⟨?_, ?_, ?_, rfl⟩
  · rw [Device.codeGood, Device.regBit, reg_bump_ne _ _ hcorr.symm, ← Device.regBit, regBit_setF_one _ _ _ (by omega), testBit_b2n]
    cases d.regBit (Reg.cfgFabLaneStatus l) 3 <;> rfl
  · rw [Device.codeGood, reg_bump, reg_setF_ne _ _ _ _ hcorr]
    rfl
  · rw [Device.codeGood, Device.regF, reg_bump_ne _ _ htest', reg_setF_ne _ _ _ _ htest]
    rfl

/-- What a codeword that cannot be corrected shows on a locked lane. -/
theorem codeBad_effect {d : Device} {l : Nat} (hlock : d.regBit (Reg.cfgFabLaneStatus l) 3 = true) {e : Device}
    (he : e = d.codeBad l) :
    e.regBit (Reg.cfgFabLaneStatus l) 3 = decide (min 3 ((mapGet (0, 0) d.fabric.codewords l).2 + 1) < 3) ∧
    e.reg (Reg.cfgFabLaneFecUncorrCnt l) = d.reg (Reg.cfgFabLaneFecUncorrCnt l) + 1 := by
  have huncorr := cfgFabLaneFecUncorrCnt_ne_status l
  subst he
  simp only [Device.codeBad, hlock, if_true]
  constructor
  · rw [Device.regBit, reg_bump_ne _ _ huncorr.symm, ← Device.regBit, regBit_setF_one _ _ _ (by omega), testBit_b2n]
  · rw [reg_bump, reg_setF_ne _ _ _ _ huncorr]
    rfl

/-! ### Block RAM (R389, R390) -/

theorem two_pow_word (w a : Nat) : 2 ^ (w * (a + 1)) = 2 ^ (w * a) * 2 ^ w := by rw [Nat.mul_succ, Nat.pow_add]

/-- The bits with a word replaced: those above it, the new word, and those below it. -/
theorem ramPut_eq (bits w a v : Nat) : ramPut bits w a v =
    2 ^ (w * a) * (2 ^ w * (bits / 2 ^ (w * a) / 2 ^ w) + v % 2 ^ w) + bits % 2 ^ (w * a) := by
  have hlow := Nat.div_add_mod bits (2 ^ (w * a))
  have hword := Nat.div_add_mod (bits / 2 ^ (w * a)) (2 ^ w)
  have hsplit : bits = 2 ^ (w * a) * (2 ^ w * (bits / 2 ^ (w * a) / 2 ^ w)) + bits % 2 ^ (w * a) +
      ramWord bits w a * 2 ^ (w * a) := by
    conv_lhs => rw [← hlow, ← hword]
    rw [ramWord]
    ring
  rw [ramPut, Nat.sub_eq_of_eq_add hsplit]
  ring

/-- What lies above the word stays. -/
theorem ramPut_div (bits w a v : Nat) : ramPut bits w a v / 2 ^ (w * (a + 1)) = bits / 2 ^ (w * (a + 1)) := by
  have hp := Nat.two_pow_pos (w * a)
  have hw := Nat.two_pow_pos w
  rw [ramPut_eq, two_pow_word, ← Nat.div_div_eq_div_mul, ← Nat.div_div_eq_div_mul, Nat.mul_add_div hp,
    Nat.div_eq_of_lt (Nat.mod_lt _ hp), Nat.add_zero, Nat.mul_add_div hw, Nat.div_eq_of_lt (Nat.mod_lt _ hw), Nat.add_zero]

/-- What lies below the word stays. -/
theorem ramPut_mod (bits w a v : Nat) : ramPut bits w a v % 2 ^ (w * a) = bits % 2 ^ (w * a) := by
  rw [ramPut_eq, Nat.mul_add_mod, Nat.mod_mod]

theorem ramPut_lt {bits w a n : Nat} (v : Nat) (hbits : bits < 2 ^ n) (ha : w * (a + 1) ≤ n) : ramPut bits w a v < 2 ^ n := by
  have hn : 2 ^ (n - w * (a + 1)) * 2 ^ (w * (a + 1)) = 2 ^ n := by rw [← Nat.pow_add, Nat.sub_add_cancel ha]
  rw [← hn] at hbits ⊢
  rw [← Nat.div_lt_iff_lt_mul (Nat.two_pow_pos _)] at hbits ⊢
  rwa [ramPut_div]

theorem ramWord_ramPut (bits w a v : Nat) : ramWord (ramPut bits w a v) w a = v % 2 ^ w := by
  have hp := Nat.two_pow_pos (w * a)
  rw [ramWord, ramPut_eq, Nat.mul_add_div hp, Nat.div_eq_of_lt (Nat.mod_lt _ hp), Nat.add_zero, Nat.mul_add_mod, Nat.mod_mod]

theorem ramWord_ramPut_ne (bits w : Nat) {a b : Nat} (v : Nat) (h : b ≠ a) :
    ramWord (ramPut bits w a v) w b = ramWord bits w b := by
  rcases Nat.lt_or_gt_of_ne h with hlt | hgt
  · have hdvd : 2 ^ (w * b) * 2 ^ w ∣ 2 ^ (w * a) := by
      rw [← two_pow_word]
      exact Nat.pow_dvd_pow 2 (Nat.mul_le_mul_left w hlt)
    rw [ramWord, ramWord, ← Nat.mod_mul_right_div_self, ← Nat.mod_mul_right_div_self, ← Nat.mod_mod_of_dvd _ hdvd, ramPut_mod,
      Nat.mod_mod_of_dvd _ hdvd]
  · have hsplit : 2 ^ (w * b) = 2 ^ (w * (a + 1)) * 2 ^ (w * (b - (a + 1))) := by
      rw [← Nat.pow_add, ← Nat.mul_add, Nat.add_sub_cancel' hgt]
    rw [ramWord, ramWord, hsplit, ← Nat.div_div_eq_div_mul, ← Nat.div_div_eq_div_mul, ramPut_div]

/-- A write of a port, where it takes place. -/
theorem ramWrite_some (d : Device) {n w a v : Nat} {r : Bool} (hen : bit d.fabric.writeEn (n / 96) = true) (hin : ramIn w a = true) :
    d.ramWrite n w { addr := a, write := some v, read := r } =
      { d with cfgMem := memWrite d.cfgMem (ramBase n) (natBytes 9216 (ramPut (d.ramBits n) w a v)) } := by
  simp [Device.ramWrite, hen, hin]

theorem ramWrite_none (d : Device) (n w a : Nat) (r : Bool) : d.ramWrite n w { addr := a, write := none, read := r } = d := rfl

/-- A write of a port touches nothing but the block. -/
theorem ramWrite_outside (d : Device) (n w : Nat) (x : RamAccess) {e : Device} (he : e = d.ramWrite n w x) :
    (∀ j, j < ramBase n ∨ ramBase n + 9216 ≤ j → memByte e.cfgMem j = memByte d.cfgMem j) ∧ e.regs = d.regs ∧
    e.tile = d.tile ∧ e.hbm = d.hbm := by
  subst he
  unfold Device.ramWrite
  split
  · exact ⟨fun _ _ => rfl, rfl, rfl, rfl⟩
  · split
    · refine ⟨fun j hj => (memByte_memWrite _ _ _ _).trans (if_neg ?_), rfl, rfl, rfl⟩
      rw [natBytes_length]
      omega
    · exact ⟨fun _ _ => rfl, rfl, rfl, rfl⟩

theorem pow_256 (n : Nat) : 256 ^ n = 2 ^ (8 * n) := by rw [Nat.pow_mul]

theorem ramBits_lt (d : Device) (n : Nat) : d.ramBits n < 2 ^ (8 * 9216) := by
  have hlt := bytesNat_lt (memRead d.cfgMem (ramBase n) 9216)
  rw [memRead_length, pow_256] at hlt
  exact hlt

/-- A block whose word `a` has been written. -/
theorem ramBits_written (d : Device) {n w a : Nat} (v : Nat) (hin : ramIn w a = true) {e : Device}
    (he : e.cfgMem = memWrite d.cfgMem (ramBase n) (natBytes 9216 (ramPut (d.ramBits n) w a v))) :
    e.ramBits n = ramPut (d.ramBits n) w a v := by
  have hfit : w * (a + 1) ≤ 8 * 9216 := by
    simp only [ramIn, Bool.and_eq_true, decide_eq_true_eq] at hin
    obtain ⟨hle, -⟩ := hin
    split at hle <;> omega
  have hread := memRead_memWrite d.cfgMem (ramBase n) (natBytes 9216 (ramPut (d.ramBits n) w a v))
  rw [natBytes_length] at hread
  rw [Device.ramBits, he, hread, bytesNat_natBytes, pow_256]
  exact Nat.mod_eq_of_lt (ramPut_lt v (ramBits_lt d n) hfit)

/-- Port A writes alone: the word goes to its address, or where the FIFO's pointer stands. -/
theorem ramAccess_write (d : Device) (n a v : Nat) :
    ((Config.ramSetup d.cfgMem n).fifo = false →
      d.ramAccess n (some { addr := a, write := some v, read := false }) none false .clean .clean =
        d.ramWrite n (Config.ramSetup d.cfgMem n).widthA { addr := a, write := some v, read := false }) ∧
    ∃ (f : Fabric → Fabric) (x : RamAccess), d.ramAccess n (some { addr := a, write := some v, read := false }) none false
      .clean .clean = (d.mapFabric f).ramWrite n (Config.ramSetup d.cfgMem n).widthA x := by
  have hplain : (Config.ramSetup d.cfgMem n).fifo = false →
      d.ramAccess n (some { addr := a, write := some v, read := false }) none false .clean .clean =
        d.ramWrite n (Config.ramSetup d.cfgMem n).widthA { addr := a, write := some v, read := false } := fun hfifo => by
    simp [Device.ramAccess, Device.fifoTurn, hfifo, Option.filter_some]
  refine ⟨hplain, ?_⟩
  cases hfifo : (Config.ramSetup d.cfgMem n).fifo with
  | false => exact ⟨id, _, hplain hfifo⟩
  | true =>
    simp only [Device.ramAccess, Device.fifoTurn, hfifo, Bool.true_eq_false, if_false, Option.bind_some, Option.bind_none,
      Option.elim_none, Option.filter_none]
    split
    · simp only [Option.filter_some, Option.elim_some, Bool.false_eq_true, if_false, Option.elim_none]
      exact ⟨_, _, rfl⟩
    · simp only [Option.filter_none, Option.elim_none]
      exact ⟨_, { addr := 0, write := none, read := false }, (ramWrite_none _ _ _ _ _).symm⟩

/-- A read in which no error is found takes the word that the block held. -/
theorem ramRead_clean {d : Device} {n w a old : Nat} {mode : WriteMode} {r ecc : Bool} {e : Device}
    (he : e = d.ramRead n 0 w mode r ecc false old { addr := a, write := none, read := true } .clean) :
    (ramIn w a = true → (mapGet RamPort.initial e.fabric.ports (2 * n)).latch = { word := ramWord old w a, fix := false, bad := false }) ∧
    e.regs = d.regs ∧ SameMemory d e := by
  cases hin : ramIn w a with
  | false =>
    have hsame : e = d := by simp [he, Device.ramRead, hin]
    rw [hsame]
    exact ⟨fun h => absurd h (by decide), rfl, rfl, rfl, rfl, rfl⟩
  | true =>
    obtain ⟨p, hp⟩ : ∃ p, p = (mapGet RamPort.initial d.fabric.ports (2 * n)).take r
      { word := ramWord old w a, fix := false, bad := false } := ⟨_, rfl⟩
    have htaken : e = d.mapFabric (fun f => { f with ports := mapPut RamPort.initial f.ports (2 * n) p }) := by
      have hfix : (Ecc.clean == Ecc.corrected) = false := rfl
      have hbad : (Ecc.clean == Ecc.uncorrectable) = false := rfl
      simp [he, hp, Device.ramRead, hin, hfix, hbad]
    have hlatch : p.latch = { word := ramWord old w a, fix := false, bad := false } := by
      rw [hp]
      rfl
    rw [htaken]
    exact ⟨fun _ => (congrArg RamPort.latch (mapGet_mapPut RamPort.initial d.fabric.ports (2 * n) p)).trans hlatch, rfl, rfl, rfl, rfl, rfl⟩

/-- Port A reads alone. -/
theorem ramAccess_read (d : Device) (n a : Nat) {e : Device}
    (he : e = d.ramAccess n (some { addr := a, write := none, read := true }) none false .clean .clean) :
    ((Config.ramSetup d.cfgMem n).fifo = false → ramIn (Config.ramSetup d.cfgMem n).widthA a = true →
      (mapGet RamPort.initial e.fabric.ports (2 * n)).latch =
        { word := ramWord (d.ramBits n) (Config.ramSetup d.cfgMem n).widthA a, fix := false, bad := false }) ∧
    e.regs = d.regs ∧ SameMemory d e := by
  cases hfifo : (Config.ramSetup d.cfgMem n).fifo with
  | false =>
    have hread : e = d.ramRead n 0 (Config.ramSetup d.cfgMem n).widthA (Config.ramSetup d.cfgMem n).modeA
        (Config.ramSetup d.cfgMem n).regA (Config.ramSetup d.cfgMem n).ecc false (d.ramBits n)
        { addr := a, write := none, read := true } .clean := by
      simp [he, Device.ramAccess, Device.fifoTurn, hfifo, Option.filter_some, Device.ramWrite]
    obtain ⟨hlatch, hregs, hmem⟩ := ramRead_clean hread
    exact ⟨fun _ hin => hlatch hin, hregs, hmem⟩
  | true =>
    have hquiet : ∃ f, e = d.mapFabric f := by
      simp only [he, Device.ramAccess, Device.fifoTurn, hfifo, Bool.true_eq_false, if_false, Option.bind_some, Option.bind_none,
        Option.isSome_none, Bool.false_eq_true, false_and, Option.elim_none, Option.filter_none]
      exact ⟨_, rfl⟩
    obtain ⟨f, hf⟩ := hquiet
    rw [hf]
    exact ⟨fun h => absurd h (by decide), rfl, rfl, rfl, rfl, rfl⟩

/-- Settles O48: each command of a hard block by the state of the block. -/
theorem fabricBlocksAct : Obligations.FabricBlocksAct := by
  intro s ha
  refine ⟨fun t x => ⟨fun hrun => ⟨?muxSwitch, ?divider⟩, fun hrun => ⟨?muxHeld, ?dividerHeld⟩⟩,
    fun p => ⟨fun hlock => ?pllLoss, fun hlock => ?pllUnlocked, fun hlow hhigh => ?pllRelock⟩,
    fun l inc t tap busy hat htap => ⟨fun hbusy => ?stepBusy, fun hbusy hinc hlt => ?stepUp, fun hbusy hinc hlt => ?stepDown,
      fun hbusy hend => ?stepPast, ?delayLoad⟩,
    fun l ws hon => ⟨fun b => ?cdr, fun hfec => ⟨fun k bad hlock hrun => ?goodLocks, fun good hlock hrun => ?badUnlocks,
      fun k hlock htest => ?goodGoesOn⟩⟩,
    fun l => ⟨?prbsClr, ?injOnce⟩, fun n c a hc => ⟨fun v hen => ?ramWrite, ?ramRead⟩⟩
  case muxSwitch =>
    exact completes_took (f := fun d => d.setTree t (fun u => u.switchTo x d.now)) rfl ha (setTree_running hrun _ rfl)
  case divider => exact completes_took (f := (·.setTree t (fun u => { u with want := x }))) rfl ha (setTree_running hrun _ rfl)
  case muxHeld => exact completes_took (f := fun d => d.setTree t (fun u => u.switchTo x d.now)) rfl ha (setTree_held hrun _)
  case dividerHeld => exact completes_took (f := (·.setTree t (fun u => { u with want := x }))) rfl ha (setTree_held hrun _)
  case pllLoss => exact completes_took (f := (·.pllLoses p)) rfl ha (pllLoses_locked p.isLt hlock rfl)
  case pllUnlocked => exact completes_took (f := (·.pllLoses p)) rfl ha (if_neg (by rw [hlock]; decide))
  case pllRelock =>
    refine completes_took (f := (·.pllLocks p)) rfl ha ?_
    rw [Device.pllLocks, if_pos ⟨hlow, hhigh⟩]
    exact ⟨regBit_setF_one _ _ _ (by omega), onlyRegs_setF _ _ _ _ _⟩
  case stepBusy =>
    subst hbusy
    exact completes_took (f := (·.stepDelay l inc)) rfl ha (stepDelay_busy hat inc)
  case stepUp =>
    subst hbusy hinc
    refine completes_took (f := (·.stepDelay l true)) rfl ha ?_
    rw [stepDelay_up hat hlt]
    exact ⟨delayLine_setDelay _ _ _, rfl, rfl, rfl, rfl, rfl⟩
  case stepDown =>
    subst hbusy hinc
    refine completes_took (f := (·.stepDelay l false)) rfl ha ?_
    rw [stepDelay_down hat hlt]
    exact ⟨delayLine_setDelay _ _ _, rfl, rfl, rfl, rfl, rfl⟩
  case stepPast =>
    subst hbusy
    refine completes_took (f := (·.stepDelay l inc)) rfl ha ?_
    rw [stepDelay_past hat hend]
    exact ⟨_, (s.dev.takeFree 9).1.isLt, delayLine_setDelay _ _ _, rfl⟩
  case delayLoad =>
    refine completes_took (f := (·.loadDelay l t)) rfl ha ?_
    obtain ⟨hstart, hend⟩ := at_loadDelay hat htap t.isLt
    exact ⟨hstart, hend, rfl, rfl, rfl, rfl, rfl⟩
  case cdr =>
    refine completes_took (f := (·.cdrLock l b)) rfl ha ?_
    rw [cdrLock_on hon]
    exact ⟨by rw [regBit_setF_one _ _ _ (by omega), testBit_b2n], onlyRegs_setF _ _ _ _ _⟩
  case goodLocks =>
    refine completes_took (f := (·.codeword l (some k) ws)) rfl ha ?_
    obtain ⟨hlocked, hcount, -, hout⟩ := codeGood_effect s.dev l k rfl
    rw [codeword_some hon hfec, if_neg (by simp [hlock])]
    exact ⟨by rw [hlocked, hrun]; simp, hout, hcount⟩
  case badUnlocks =>
    refine completes_took (f := (·.codeword l none ws)) rfl ha ?_
    obtain ⟨hlocked, hcount⟩ := codeBad_effect hlock rfl
    rw [hrun] at hlocked
    rw [codeword_none hon hfec]
    split
    · exact ⟨hlocked, hcount⟩
    · exact ⟨hlocked, hcount⟩
  case goodGoesOn =>
    refine completes_took (f := (·.codeword l (some k) ws)) rfl ha ?_
    obtain ⟨hlocked, -, hkept, hout⟩ := codeGood_effect s.dev l k rfl
    rw [codeword_some hon hfec, if_pos (by simp [hlock, hkept, htest])]
    exact ⟨by rw [hlock] at hlocked; exact hlocked, congrArg (· ++ [Output.laneWords l false ws]) hout⟩
  case prbsClr =>
    refine completes_took (f := (·.clearLanePrbs l)) rfl ha ?_
    have hne : Reg.cfgFabLanePrbsBits l ≠ Reg.cfgFabLanePrbsErr l := by
      unfold Reg.cfgFabLanePrbsBits Reg.cfgFabLanePrbsErr
      omega
    exact ⟨(reg_setReg_ne _ _ hne).trans (reg_setReg _ _ _), reg_setReg _ _ _,
      ((OnlyRegs.refl _ _).setReg (by simp) _).setReg (by simp) _⟩
  case injOnce => exact completes_took (f := (·.emit (.prbsError (64 + l) 1))) rfl ha rfl
  case ramWrite =>
    subst hc
    refine completes_took (f := (·.ramAccess n (some { addr := a, write := some v, read := false }) none false .clean .clean)) rfl ha ?_
    obtain ⟨hplain, f, x, hwrite⟩ := ramAccess_write s.dev n a v
    obtain ⟨houtside, hregs, htile, hhbm⟩ := ramWrite_outside (s.dev.mapFabric f) n _ x hwrite
    refine ⟨fun hfifo hin => ?_, houtside, hregs, htile, hhbm⟩
    have hbits := ramBits_written s.dev v hin (e := s.dev.ramAccess n (some { addr := a, write := some v, read := false }) none false
      .clean .clean) (by rw [hplain hfifo, ramWrite_some s.dev hen hin])
    rw [hbits]
    exact ⟨ramWord_ramPut _ _ _ _, fun b hb _ => ramWord_ramPut_ne _ _ _ hb⟩
  case ramRead =>
    subst hc
    exact completes_took (f := (·.ramAccess n (some { addr := a, write := none, read := true }) none false .clean .clean)) rfl ha
      (ramAccess_read s.dev n a rfl)

end Sys2Proof.Machine
end

section
/-!
PROOFS. Access points and the user window (R402 - R406, R500 - R502).
-/
namespace Sys2Proof.Machine

open Sys2Proof

/-! ### Units that enter at an access point (R403) -/

theorem bit_allOnes_word {i : Nat} (h : i < 64) : bit (-1 : Word) i = true := by
  have hones : (-1 : Word) = BitVec.allOnes 64 := by decide
  rw [hones, bit, BitVec.getLsbD_allOnes, decide_eq_true h]

/-- The bytes of a line, read one by one. -/
theorem map_getD_lineBytes (v : Line) : (List.range 64).map (fun i => (lineBytes v).getD i 0) = lineBytes v := by
  have hlen : (lineBytes v).length = 64 := natBytes_length 64 _
  refine List.ext_getElem (by rw [List.length_map, List.length_range, hlen]) fun i hi _ => ?_
  rw [List.getElem_map, List.getElem_range, List.getD_eq_getElem _ _ (by simpa [hlen] using hi)]

theorem enabledBytes_all (u : DUnit) : enabledBytes u (-1) = lineBytes u.data := by
  have hall : (List.range 64).filter (fun i => bit (-1 : Word) i) = List.range 64 :=
    List.filter_eq_self.2 fun i hi => bit_allOnes_word (List.mem_range.1 hi)
  rw [enabledBytes, hall, map_getD_lineBytes]

theorem keptBytes_all (v : Line) :
    bytesLine ((List.range 64).map (fun i => if bit (-1 : Word) i then (lineBytes v).getD i 0 else 0)) = v := by
  have hmap : (List.range 64).map (fun i => if bit (-1 : Word) i then (lineBytes v).getD i 0 else 0) =
      (List.range 64).map (fun i => (lineBytes v).getD i 0) :=
    List.map_congr_left fun i hi => if_pos (bit_allOnes_word (List.mem_range.1 hi))
  rw [hmap, map_getD_lineBytes, bytesLine_lineBytes]

/-- A whole unit without a check of its own. -/
theorem apEntry_unchecked (d : Device) {u : ApUnit} (hpois : u.pois = false) (hchk : u.chk = none) :
    d.apEntry u (-1) = (freshUnit u.data, d) := by
  simp only [Device.apEntry, hpois, hchk, keptBytes_all]
  rfl

theorem apEntries_unchecked (d : Device) {us : List ApUnit} (h : ∀ u ∈ us, u.pois = false ∧ u.chk = none) :
    d.apEntries (-1) us = (us.map (fun u => freshUnit u.data), d) := by
  induction us with
  | nil => rfl
  | cons u us ih =>
    obtain ⟨⟨hpois, hchk⟩, hus⟩ := List.forall_mem_cons.1 h
    simp only [Device.apEntries, apEntry_unchecked d hpois hchk, ih hus, List.map_cons]

/-- A unit whose check fails is poisoned zeros, and counted. -/
theorem apEntries_failing (d : Device) {v : Line} {c : BitVec 32} (h : c ≠ lineCheck v) :
    d.apEntries (-1) [{ data := v, chk := some c, pois := false }] = ([poisonUnit], d.bump Reg.cfgFabApChkCnt 1) := by
  have hfail : ¬crc32c (enabledBytes { data := v, check := 0, pois := false } (-1)) = c := by
    rw [enabledBytes_all]
    exact fun he => h he.symm
  simp only [Device.apEntries, Device.apEntry, if_neg hfail]
  rfl

/-! ### Requests of user logic (R402, R404) -/

section
variable {d : Device} {ap : Nat}

theorem apIssue_ignored {q : ApRequest}
    (h : d.apActive ap = false ∨ ∃ t ∈ d.net.txns, t.purpose = .accessPoint ap (apTag q)) : d.apIssue ap q = d := by
  refine if_pos (h.imp_right ?_)
  rintro ⟨t, ht, hpurpose⟩
  exact List.any_eq_true.2 ⟨t, ht, by simp [hpurpose]⟩

variable (hactive : d.apActive ap = true) {tag : Fin 256} (hfree : ∀ t ∈ d.net.txns, t.purpose ≠ .accessPoint ap tag)
include hactive hfree

theorem not_apBusy : ¬(d.apActive ap = false ∨ d.net.txns.any (fun t => t.purpose == .accessPoint ap tag) = true) := by
  rw [hactive, List.any_eq_true]
  rintro (h | ⟨t, ht, hpurpose⟩)
  · exact absurd h (by decide)
  · exact hfree t ht (by simpa using hpurpose)

variable {addr : Word} {x : NetTarget}

theorem apIssue_read (hx : d.apTarget addr.toNat 0 = some x) (k : Nat) : d.apIssue ap (.rd addr k tag) =
    d.newTxn (0x10 + ap) false .read x k [] 0 (.accessPoint ap tag) := by
  have hgo := not_apBusy hactive hfree
  simp only [Device.apIssue, apTag, apAddr, apFirst, if_neg hgo, hx]

theorem apIssue_write (hx : d.apTarget addr.toNat 0 = some x) (us : List ApUnit) : d.apIssue ap (.wr addr us tag) =
    (d.apEntries (-1) us).2.newTxn (0x10 + ap) false .write x (d.apEntries (-1) us).1.length (d.apEntries (-1) us).1 0
      (.accessPoint ap tag) := by
  have hgo := not_apBusy hactive hfree
  simp only [Device.apIssue, apTag, apAddr, apFirst, if_neg hgo, hx]

theorem apIssue_refused (hx : d.apTarget addr.toNat 0 = none) (k : Nat) : d.apIssue ap (.rd addr k tag) =
    (d.bump Reg.cfgFabApRefuseCnt 1).emit (.userData ap tag 1 (List.replicate k poisonUnit)) := by
  have hgo := not_apBusy hactive hfree
  simp only [Device.apIssue, apTag, apAddr, apFirst, if_neg hgo, hx]

end

/-! ### Answers of user logic (R405) -/

/-- No more transactions, and no fewer, once a unit has been delivered. -/
theorem length_txns_deliver (d : Device) (id i : Nat) (u : DUnit) : (d.deliver id i u).net.txns.length = d.net.txns.length := by
  have hanswer (e : Device) : (e.answer id).net.txns.length = e.net.txns.length := by
    unfold Device.answer
    cases e.txn id with
    | none => rfl
    | some t => exact List.length_map _
  unfold Device.deliver
  dsimp only
  split
  · rw [hanswer]
    exact List.length_map _
  · exact List.length_map _

/-- The only transaction, a read of one unit, is answered. -/
theorem txns_deliver_alone {d : Device} {t : Txn} (htxns : d.net.txns = [t]) (hlen : t.len = 1) (hgot : t.got = []) (u : DUnit) :
    (d.deliver t.id 0 u).net.txns = [t.answered u d.net.nextRank] := by
  have ht : d.txn t.id = some t := by
    rw [Device.txn, htxns]
    exact List.find?_cons_of_pos (by simp)
  have hfind := txn_deliver ht hlen hgot u
  have hone := length_txns_deliver d t.id 0 u
  rw [htxns, List.length_singleton] at hone
  obtain ⟨v, hv⟩ := List.length_eq_one_iff.1 hone
  rw [Device.txn, hv] at hfind
  rw [hv, List.mem_singleton.1 (List.mem_of_find?_eq_some hfind)]

theorem userAnswer_alone {d : Device} {t : Txn} {ap off : Nat} (htxns : d.net.txns = [t]) (htarget : t.target = .user ap off)
    (hphase : t.phase = .atTarget) (v : Word) (pois : Bool) : d.userAnswer ap v pois = if d.apActive ap then
      d.deliver t.id 0 (if pois then poisonUnit else freshUnit (bytesLine (natBytes 8 v.toNat))) else d := by
  simp [Device.userAnswer, htxns, htarget, hphase]

/-- Settles O49: each request and answer by whether its access point is active, and by its target. -/
theorem accessPointsCarryUserTraffic : Obligations.AccessPointsCarryUserTraffic := by
  intro s ap ha
  refine ⟨fun q hno => ?ignored, fun addr k tag hactive hfree => ⟨fun x hx => ⟨?read, fun us hus => ?write, fun v c hc => ?failing⟩,
      fun hx => ?refused⟩,
    fun off => ⟨fun len tag => ?windowRead, fun v be => ?windowWrite⟩,
    fun t off v pois htxns htarget hphase hlen hgot => ⟨fun hactive => ?answered, fun hactive => ?inactive⟩⟩
  case ignored => exact completes_took (f := (·.apIssue ap q)) rfl ha (apIssue_ignored hno)
  case read =>
    refine completes_took (f := (·.apIssue ap (.rd addr k tag))) rfl ha ?_
    rw [apIssue_read hactive hfree hx]
    obtain ⟨-, hmem, -, -, -, -, -, -, hout, -⟩ := newTxn_rest s.dev (0x10 + ap) .read x k [] 0 (.accessPoint ap tag)
    rw [newTxn_net]
    exact ⟨⟨_, rfl, rfl, rfl, rfl, rfl, rfl, rfl⟩, hout, hmem⟩
  case write =>
    refine completes_took (f := (·.apIssue ap (.wr addr us tag))) rfl ha ?_
    rw [apIssue_write hactive hfree hx, apEntries_unchecked s.dev hus]
    obtain ⟨-, hmem, -, -, -, -, -, -, -, hregs⟩ := newTxn_rest s.dev (0x10 + ap) .write x
      (us.map (fun u => freshUnit u.data)).length (us.map (fun u => freshUnit u.data)) 0 (.accessPoint ap tag)
    rw [newTxn_net]
    exact ⟨⟨_, rfl, rfl, rfl, rfl, rfl, rfl⟩, hregs _ (by decide), hmem⟩
  case failing =>
    refine completes_took (f := (·.apIssue ap (.wr addr [{ data := v, chk := some c, pois := false }] tag))) rfl ha ?_
    rw [apIssue_write hactive hfree hx, apEntries_failing s.dev hc]
    obtain ⟨-, -, -, -, -, -, -, -, -, hregs⟩ := newTxn_rest (s.dev.bump Reg.cfgFabApChkCnt 1) (0x10 + ap) .write x 1 [poisonUnit] 0
      (.accessPoint ap tag)
    rw [newTxn_net]
    exact ⟨⟨_, rfl, rfl⟩, (hregs _ (by decide)).trans (reg_bump _ _ _)⟩
  case refused =>
    refine completes_took (f := (·.apIssue ap (.rd addr k tag))) rfl ha ?_
    rw [apIssue_refused hactive hfree hx]
    exact ⟨reg_bump _ _ _, rfl, rfl, (onlyRegs_bump _ _ _).2, rfl, rfl, rfl, rfl⟩
  case windowRead =>
    refine completes_took (f := fun d => d.linkUse.userWindow ap off (.read len tag)) rfl ha ?_
    obtain ⟨-, hmem, -⟩ := newTxn_rest s.dev.linkUse 0x80 .read (.user ap off) 1 [] 0 (.bar2 0 tag (off % 8) len)
    refine ⟨⟨_, congrArg Net.txns (newTxn_net s.dev.linkUse 0x80 .read (.user ap off) 1 [] 0 (.bar2 0 tag (off % 8) len)), rfl, rfl, rfl,
      rfl, rfl⟩, hmem⟩
  case windowWrite =>
    refine completes_took (f := fun d => d.linkUse.userWindow ap off (.write v be)) rfl ha ?_
    obtain ⟨-, hmem, -⟩ := newTxn_rest s.dev.linkUse 0x80 .partialWrite (.user ap off) 1
      [freshUnit (bytesLine (natBytes 8 v.toNat))] (BitVec.ofNat 64 be.toNat) (.bar2 0 0 0 0)
    refine ⟨⟨_, congrArg Net.txns (newTxn_net s.dev.linkUse 0x80 .partialWrite (.user ap off) 1
      [freshUnit (bytesLine (natBytes 8 v.toNat))] (BitVec.ofNat 64 be.toNat) (.bar2 0 0 0 0)), rfl, rfl, rfl, rfl, rfl⟩, hmem⟩
  case answered =>
    refine completes_took (f := (·.userAnswer ap v pois)) rfl ha ?_
    rw [userAnswer_alone htxns htarget hphase, if_pos hactive]
    have honly := deliver_only s.dev t.id 0 (if pois then poisonUnit else freshUnit (bytesLine (natBytes 8 v.toNat)))
    exact ⟨_, txns_deliver_alone htxns hlen hgot _, rfl, rfl, rfl, units_answered hlen _ _, regs_of_net honly, sameMemory_of_net honly⟩
  case inactive =>
    refine completes_took (f := (·.userAnswer ap v pois)) rfl ha ?_
    rw [userAnswer_alone htxns htarget hphase, if_neg (by rw [hactive]; decide)]

end Sys2Proof.Machine
end

section
/-!
PROOFS. The commands of the Keep that change no boot state (R433, R436, R446, R448 - R450): what the mailbox shows of an answer,
and what each command does to the fuses, the battery-backed key and the data window.
-/
namespace Sys2Proof.Machine

open Sys2Proof

/-! ### Answers in the mailbox (R449) -/

theorem kepMbData_injective : Function.Injective Reg.kepMbData := fun i j h => by unfold Reg.kepMbData at h; omega

theorem kepMbData_ne {a : Nat} (ha : a < 0x101000) (k : Nat) : a ≠ Reg.kepMbData k := by unfold Reg.kepMbData; omega

theorem not_mem_mailData {a : Nat} (ha : a < 0x101000) : a ∉ (List.range 512).map Reg.kepMbData := fun h => by
  obtain ⟨k, -, hk⟩ := List.mem_map.1 h
  exact kepMbData_ne ha k hk.symm

theorem onlyRegs_setMailData (d : Device) (bs : List Byte) :
    OnlyRegs ((List.range 512).map Reg.kepMbData) d (d.setMailData bs) :=
  OnlyRegs.foldl (fun i _ e => by
    split
    next hi => exact (OnlyRegs.refl e _).setReg (List.mem_map_of_mem (List.mem_range.2 hi)) _
    · exact OnlyRegs.refl e _) d

/-- What an answer in the mailbox may write: its status, the count of commands and the data window. -/
def mailRegs : List Nat := Reg.kepMbStatus :: Reg.kepCmdCnt :: (List.range 512).map Reg.kepMbData

theorem onlyRegs_keepAnswer (d : Device) (r : Nat) (out : List Byte) :
    OnlyRegs mailRegs d (d.keepAnswer .mailbox r out) :=
  (((onlyRegs_bump d Reg.kepCmdCnt 1).mono (by simp)).trans
    ((onlyRegs_setMailData _ out).mono fun _ h => .tail _ (.tail _ h))).trans
    ((onlyRegs_setFs _ Reg.kepMbStatus _).mono (by simp))

/-- The fields of KEP_MB_STATUS after an answer. -/
theorem mailStatus_answered (d : Device) {r : Nat} (hr : r < 256) {e : Device}
    (he : e = d.setFs Reg.kepMbStatus [(31, 1, 0), (30, 1, 1), (8, 8, r)]) :
    e.regF Reg.kepMbStatus 8 8 = r ∧ e.regBit Reg.kepMbStatus 31 = false ∧ e.regBit Reg.kepMbStatus 30 = true := by
  subst he
  refine ⟨(regF_setF _ _ r (by decide)).trans (Nat.mod_eq_of_lt hr), ?_, ?_⟩
  · exact (regBit_setF_outside _ _ r (by decide)).trans
      ((regBit_setF_outside _ _ 1 (by decide)).trans (regBit_setF_one _ _ 0 (by decide)))
  · exact (regBit_setF_outside _ _ r (by decide)).trans (regBit_setF_one _ _ 1 (by decide))

theorem mailReply_keepAnswer (d : Device) {r : Nat} (hr : r < 256) (out : List Byte) :
    MailReply r d (d.keepAnswer .mailbox r out) := by
  have honly := onlyRegs_keepAnswer d r out
  obtain ⟨hres, hbusy, hdone⟩ := mailStatus_answered ((d.bump Reg.kepCmdCnt 1).setMailData out) hr rfl
  refine ⟨hres, hbusy, hdone, ?_, honly.2, honly.sameMemory, ?_⟩
  · have hcnt : (d.keepAnswer .mailbox r out).reg Reg.kepCmdCnt = (d.bump Reg.kepCmdCnt 1).reg Reg.kepCmdCnt :=
      (reg_setFs_ne _ _ (by decide)).trans ((onlyRegs_setMailData _ out).2 _ (not_mem_mailData (by decide)))
    exact hcnt.trans (reg_bump d _ 1)
  · rw [honly.1]

theorem keepAnswer_keep (d : Device) (r : Nat) (out : List Byte) : (d.keepAnswer .mailbox r out).keep = d.keep := by
  rw [(onlyRegs_keepAnswer d r out).1]

/-- A command that the Keep takes is answered with what it gives. -/
theorem keepCommand_open {d : Device} (hphase : d.keepPhase = 2) (hjob : d.keep.job = none) (p : KeepPort)
    {f : Device → Device × Nat × List Byte} {e : Device} {r : Nat} {out : List Byte} (hf : f d = (e, r, out)) :
    d.keepCommand p f = e.keepAnswer p r out := by
  simp [Device.keepCommand, hphase, hjob, hf]

/-- A command of the mailbox that changes nothing. -/
theorem reply_of_command {d : Device} (hphase : d.keepPhase = 2) (hjob : d.keep.job = none)
    {f : Device → Device × Nat × List Byte} {r : Nat} (hr : r < 256) (hf : ∃ out, f d = (d, r, out)) :
    MailReply r d (d.keepCommand .mailbox f) ∧ (d.keepCommand .mailbox f).keep = d.keep := by
  obtain ⟨out, hf⟩ := hf
  rw [keepCommand_open hphase hjob .mailbox hf]
  exact ⟨mailReply_keepAnswer d hr out, keepAnswer_keep d r out⟩

/-- A command of the mailbox that changes the Keep's own state. -/
theorem reply_of_keepCommand {d : Device} (hphase : d.keepPhase = 2) (hjob : d.keep.job = none)
    {f : Device → Device × Nat × List Byte} {k : Keep} (hf : ∃ out, f d = ({ d with keep := k }, 0, out)) :
    MailReply 0 d (d.keepCommand .mailbox f) ∧ (d.keepCommand .mailbox f).keep = k := by
  obtain ⟨out, hf⟩ := hf
  rw [keepCommand_open hphase hjob .mailbox hf]
  exact ⟨mailReply_keepAnswer { d with keep := k } (by decide) out, keepAnswer_keep _ 0 out⟩

/-! ### Security version numbers (R436) -/

theorem toNat_lt_fuseSvn (w : Word) : w.toNat < 2 ^ fuseSvn w := by
  unfold fuseSvn
  split
  next h => simp [h]
  · exact Nat.lt_log2_self

/-- Fuses blown up to bit `v - 1` give the SVN `v`, if they gave a lower one. -/
theorem fuseSvn_or_ones (w : Word) {v : Nat} (hlt : fuseSvn w < v) (hv : v ≤ 64) :
    fuseSvn (w ||| BitVec.ofNat 64 (2 ^ v - 1)) = v := by
  have hone : 1 ≤ 2 ^ v := Nat.one_le_two_pow
  have hmax : 2 ^ v ≤ 2 ^ 64 := Nat.pow_le_pow_right (by decide) hv
  have hw : w.toNat < 2 ^ v := (toNat_lt_fuseSvn w).trans_le (Nat.pow_le_pow_right (by decide) hlt.le)
  have hor : (w ||| BitVec.ofNat 64 (2 ^ v - 1)).toNat = 2 ^ v - 1 := by
    rw [BitVec.toNat_or, BitVec.toNat_ofNat, Nat.mod_eq_of_lt (by omega)]
    refine Nat.eq_of_testBit_eq fun i => ?_
    rw [Nat.testBit_or, Nat.testBit_two_pow_sub_one]
    by_cases hi : i < v
    · simp [hi]
    · simp [hi, Nat.testBit_lt_two_pow (hw.trans_le (Nat.pow_le_pow_right (by decide) (not_lt.1 hi)))]
  have hdouble : 2 ^ v = 2 * 2 ^ (v - 1) := by rw [← pow_succ']; congr 1; omega
  have hpos : 1 ≤ 2 ^ (v - 1) := Nat.one_le_two_pow
  have hne : w ||| BitVec.ofNat 64 (2 ^ v - 1) ≠ 0 := fun h => by
    rw [h] at hor
    simp at hor
    omega
  have hv1 : v - 1 + 1 = v := by omega
  have hlog : (2 ^ v - 1).log2 = v - 1 := (Nat.log2_eq_iff (by omega)).2 ⟨by omega, by rw [hv1]; omega⟩
  rw [fuseSvn, if_neg hne, hor, hlog]
  omega

/-- The fuses of type `t` blown up to SVN `v`. -/
def Fuses.raiseSvn (f : Fuses) (t v : Nat) : Fuses :=
  if v ≤ f.svnOf t then f
  else f.blow (fun c => { c with svn := c.svn.set (t - 1) (c.svn.getD (t - 1) 0 ||| BitVec.ofNat 64 (2 ^ v - 1)) })

theorem fusesKept_raiseSvn (f : Fuses) (t v : Nat) : FusesKept f (f.raiseSvn t v) := by
  unfold Fuses.raiseSvn
  split
  · exact .refl f
  · exact .blow fun c => ⟨rfl, rfl, id, fun _ => id, fun _ => id, svn_or_kept _ _ _⟩

theorem svnOf_raiseSvn {f : Fuses} {t v : Nat} (hA : t < f.copyA.svn.length) (hB : t < f.copyB.svn.length) (hv : v ≤ 64) :
    (f.raiseSvn (t + 1) v).svnOf (t + 1) = max (f.svnOf (t + 1)) v := by
  unfold Fuses.raiseSvn
  split
  next h => exact (Nat.max_eq_left h).symm
  next h =>
    rw [Nat.max_eq_right (not_le.1 h).le]
    have hword : (f.blow (fun c => { c with
        svn := c.svn.set t (c.svn.getD t 0 ||| BitVec.ofNat 64 (2 ^ v - 1)) })).svnWord (t + 1) =
        f.svnWord (t + 1) ||| BitVec.ofNat 64 (2 ^ v - 1) := by
      simp only [Fuses.svnWord, Fuses.blow, Nat.add_sub_cancel, List.getD_eq_getElem?_getD, List.getElem?_set_self hA,
        List.getElem?_set_self hB, Option.getD_some]
      generalize f.copyA.svn[t]?.getD 0 = a, f.copyB.svn[t]?.getD 0 = b
      ac_rfl
    exact (congrArg fuseSvn hword).trans (fuseSvn_or_ones _ (not_le.1 h) hv)

/-! ### A cleared data window (R450) -/

theorem wordAt_zeros (bs : List Byte) {n i : Nat} (h : 8 * i + 8 ≤ n) : wordAt (List.replicate n 0 ++ bs) i = 0 := by
  have hzero : ∀ k, bytesNat (List.replicate k 0) = 0 := fun k => by
    induction k with
    | zero => rfl
    | succ k ih => rw [List.replicate_succ, bytesNat, ih]; rfl
  rw [wordAt, List.drop_append_of_le_length (by simp; omega), List.drop_replicate,
    List.take_append_of_le_length (by simp; omega), List.take_replicate, hzero]
  rfl

theorem reg_setMailData_zeros (d : Device) {i : Nat} (hi : i < 4) :
    (d.setMailData (List.replicate 32 0)).reg (Reg.kepMbData i) = 0 := by
  have hfold : d.setMailData (List.replicate 32 0) = (List.range 4).foldl (fun e k =>
      e.setReg (Reg.kepMbData k) (wordAt (List.replicate 32 0 ++ d.mailData.drop 32) k)) d := rfl
  rw [hfold, reg_foldl_setReg kepMbData_injective _ 4 d hi, wordAt_zeros _ (by omega)]

/-! ### What the commands do -/

section
variable {d : Device} (hphase : d.keepPhase = 2) (hjob : d.keep.job = none)
include hphase hjob

theorem getInfo_reply (arg : BitVec 32) :
    MailReply (if arg = 0 then 0 else 2) d (d.getInfo .mailbox arg.toNat) ∧ (d.getInfo .mailbox arg.toNat).keep = d.keep := by
  by_cases harg : arg = 0
  · subst harg
    exact reply_of_command hphase hjob (by decide) ⟨_, rfl⟩
  · have hne : arg.toNat ≠ 0 := fun h => harg (BitVec.eq_of_toNat_eq h)
    rw [if_neg harg]
    exact reply_of_command hphase hjob (by decide) ⟨_, if_pos hne⟩

theorem commitSvn_badType {arg : BitVec 32} (h : arg.toNat = 0 ∨ 5 ≤ arg.toNat) :
    MailReply 2 d (d.commitSvn .mailbox arg) ∧ (d.commitSvn .mailbox arg).keep = d.keep := by
  unfold Device.commitSvn
  refine reply_of_command hphase hjob (by decide) ?_
  exact ⟨_, if_pos h⟩

theorem commitSvn_unproved {arg : BitVec 32} {t : Fin 4} (harg : arg.toNat = t + 1) (h : bit d.keep.unproved t = true) :
    MailReply 0x0B d (d.commitSvn .mailbox arg) ∧ (d.commitSvn .mailbox arg).keep = d.keep := by
  unfold Device.commitSvn
  refine reply_of_command hphase hjob (by decide) ?_
  exact ⟨_, (if_neg (by omega)).trans (if_pos (by rw [harg]; exact h))⟩

theorem commitSvn_reply {arg : BitVec 32} {t : Fin 4} (harg : arg.toNat = t + 1) (h : bit d.keep.unproved t = false) :
    MailReply 0 d (d.commitSvn .mailbox arg) ∧ (d.commitSvn .mailbox arg).keep =
      { d.keep with fuses := d.keep.fuses.raiseSvn (t + 1) (imageSvn (d.keep.image (t + 1) (d.slotB (t + 1)))) } := by
  unfold Device.commitSvn
  refine reply_of_keepCommand hphase hjob ?_
  exact ⟨_, (if_neg (by omega)).trans ((if_neg (by rw [harg]; simpa using h)).trans (by rw [harg]; rfl))⟩

theorem attest_denied (h : d.keep.fuses.udsValid = false) :
    MailReply 0x0D d (d.getAttest .mailbox 0) ∧ (d.getAttest .mailbox 0).keep = d.keep := by
  unfold Device.getAttest
  refine reply_of_command hphase hjob (by decide) ?_
  exact ⟨_, if_pos h⟩

theorem cert_denied (h : d.keep.fuses.udsValid = false) :
    MailReply 0x0D d (d.getCert .mailbox 0) ∧ (d.getCert .mailbox 0).keep = d.keep := by
  unfold Device.getCert
  refine reply_of_command hphase hjob (by decide) ?_
  exact ⟨_, if_pos h⟩

theorem getAttest_mctp {nonce : List Byte} (hlen : nonce.length = 32) (h : d.keep.fuses.udsValid = true) :
    d.getAttest (.mctp nonce) 0 = (d.bump Reg.kepCmdCnt 1).emit
      (.keepReply 1 0 (d.reportBody nonce ++ Config.mlDsaSign d.aliasSeed (d.reportBody nonce))) := by
  have hinput : (d.keepInput (.mctp nonce)).take 32 = nonce := List.take_left' hlen
  unfold Device.getAttest
  rw [keepCommand_open hphase hjob _ ((if_neg (by decide)).trans (if_neg (by rw [h]; decide))), hinput]
  rfl

theorem getCert_mctp (bs : List Byte) (h : d.keep.fuses.udsValid = true) :
    d.getCert (.mctp bs) 0 = (d.bump Reg.kepCmdCnt 1).emit
      (.keepReply 1 0 (natBytes 4 d.keep.cert.length ++ d.keep.cert)) := by
  unfold Device.getCert
  rw [keepCommand_open hphase hjob _ ((if_neg (by decide)).trans (if_neg (by rw [h]; decide)))]
  rfl

theorem bbramWrite_denied (h : bit d.keep.fuses.policy 3 = true) :
    MailReply 0x0D d (d.bbramWrite .mailbox 0) ∧ (d.bbramWrite .mailbox 0).keep = d.keep := by
  unfold Device.bbramWrite
  refine reply_of_command hphase hjob (by decide) ?_
  exact ⟨_, if_pos h⟩

theorem bbramErase_reply :
    MailReply 0 d (d.bbramErase .mailbox 0) ∧ (d.bbramErase .mailbox 0).keep = { d.keep with bbram := none } := by
  unfold Device.bbramErase
  refine reply_of_keepCommand hphase hjob ?_
  exact ⟨_, rfl⟩

theorem fuseProgram_denied (arg : Nat) (h : bit d.keep.fuses.policy 5 = true) :
    MailReply 0x0D d (d.fuseProgram .mailbox arg) ∧ (d.fuseProgram .mailbox arg).keep = d.keep := by
  unfold Device.fuseProgram
  refine reply_of_command hphase hjob (by decide) ?_
  exact ⟨_, if_pos h⟩

theorem fuseProgram_keySet (h : bit d.keep.fuses.policy 5 = false) (hset : d.keep.fuses.keySet = true) :
    MailReply 0x0E d (d.fuseProgram .mailbox 0) ∧ (d.fuseProgram .mailbox 0).keep = d.keep := by
  unfold Device.fuseProgram
  refine reply_of_command hphase hjob (by decide) ?_
  exact ⟨_, (if_neg (Bool.eq_false_iff.1 h)).trans (if_pos hset)⟩

theorem fuseProgram_key (h : bit d.keep.fuses.policy 5 = false) (hset : d.keep.fuses.keySet = false) :
    MailReply 0 d (d.fuseProgram .mailbox 0) ∧ (d.fuseProgram .mailbox 0).keep = { d.keep with
      fuses := { d.keep.fuses.blow (fun c => { c with keySet := true }) with
        key := BitVec.ofNat 256 (bytesNat (d.mailData.take 32)), keyValid := true } } := by
  unfold Device.fuseProgram
  refine reply_of_keepCommand hphase hjob ?_
  exact ⟨_, (if_neg (Bool.eq_false_iff.1 h)).trans (if_neg (Bool.eq_false_iff.1 hset))⟩

theorem fuseProgram_policy (h : bit d.keep.fuses.policy 5 = false) :
    MailReply 0 d (d.fuseProgram .mailbox 1) ∧ (d.fuseProgram .mailbox 1).keep = { d.keep with
      fuses := d.keep.fuses.blow (fun c => { c with
        policy := c.policy ||| BitVec.ofNat 32 (bytesNat (d.mailData.take 4)) }) } := by
  unfold Device.fuseProgram
  refine reply_of_keepCommand hphase hjob ?_
  exact ⟨_, if_neg (Bool.eq_false_iff.1 h)⟩

theorem fuseProgram_revoke (h : bit d.keep.fuses.policy 5 = false) :
    MailReply 0 d (d.fuseProgram .mailbox 2) ∧ (d.fuseProgram .mailbox 2).keep = { d.keep with
      fuses := d.keep.fuses.blow (fun c => { c with
        revoke := c.revoke ||| BitVec.ofNat 8 (bytesNat (d.mailData.take 1)) }) } := by
  unfold Device.fuseProgram
  refine reply_of_keepCommand hphase hjob ?_
  exact ⟨_, if_neg (Bool.eq_false_iff.1 h)⟩

theorem bbramWrite_eq (h : bit d.keep.fuses.policy 3 = false) :
    d.bbramWrite .mailbox 0 = ({ d with keep := { d.keep with
      bbram := some (BitVec.ofNat 256 (bytesNat (d.mailData.take 32))) } } : Device).keepAnswer .mailbox 0 (List.replicate 32 0) := by
  unfold Device.bbramWrite
  refine keepCommand_open hphase hjob .mailbox ?_
  exact if_neg (Bool.eq_false_iff.1 h)

theorem bbramWrite_reply (h : bit d.keep.fuses.policy 3 = false) :
    MailReply 0 d (d.bbramWrite .mailbox 0) ∧ (d.bbramWrite .mailbox 0).keep =
      { d.keep with bbram := some (BitVec.ofNat 256 (bytesNat (d.mailData.take 32))) } := by
  unfold Device.bbramWrite
  refine reply_of_keepCommand hphase hjob ?_
  exact ⟨_, if_neg (Bool.eq_false_iff.1 h)⟩

theorem bbramWrite_clears (h : bit d.keep.fuses.policy 3 = false) {i : Nat} (hi : i < 4) :
    (d.bbramWrite .mailbox 0).reg (Reg.kepMbData i) = 0 := by
  rw [bbramWrite_eq hphase hjob h]
  exact (reg_setFs_ne _ _ (kepMbData_ne (by decide) i).symm).trans (reg_setMailData_zeros _ hi)

end

/-! ### The attestation report (R448) -/

/-- What lies before the nonce in the report. -/
def Device.reportHead (d : Device) : List Byte :=
  natBytes 4 0x54414B4B ++ natBytes 2 1 ++
    natBytes 2 (d.regF Reg.cfgStatus 7 1 + 2 * d.regF Reg.cfgStatus 8 1 + 4 * b2n (d.keepPhase == 4)) ++
    natBytes 4 (d.reg Reg.bfyId).toNat ++
    natBytes 4 (d.cfgState + 16 * d.regF Reg.cfgStatus 5 1 + 32 * d.regF Reg.cfgStatus 6 1) ++
    natBytes 16 d.keep.fuses.serial.toNat

theorem reportHead_length (d : Device) : d.reportHead.length = 32 := by simp [Device.reportHead]

theorem reportBody_eq (d : Device) (nonce : List Byte) :
    ∃ rest, d.reportBody nonce = d.reportHead ++ (nonce ++ (natBytes 8 d.now ++ rest)) :=
  ⟨_, by simp only [Device.reportBody, Device.reportHead, List.append_assoc]; rfl⟩

theorem reportBody_fields (d : Device) {nonce : List Byte} (hlen : nonce.length = 32) :
    (d.reportBody nonce).take 4 = [0x4B, 0x4B, 0x41, 0x54] ∧ ((d.reportBody nonce).drop 32).take 32 = nonce ∧
      ((d.reportBody nonce).drop 64).take 8 = natBytes 8 d.now := by
  obtain ⟨rest, hbody⟩ := reportBody_eq d nonce
  rw [hbody]
  refine ⟨?_, ?_, ?_⟩
  · have hmagic : d.reportHead.take 4 = [0x4B, 0x4B, 0x41, 0x54] := rfl
    rw [List.take_append_of_le_length (by rw [reportHead_length]; decide), hmagic]
  · rw [List.drop_left' (reportHead_length d), List.take_left' hlen]
  · rw [← List.append_assoc, List.drop_left' (by rw [List.length_append, reportHead_length, hlen]),
      List.take_left' (natBytes_length _ _)]

/-- Settles O38: each command is served by an open Keep, and its answer is that of its own conditions. -/
theorem keepCommandsAnswer : Obligations.KeepCommandsAnswer := by
  unfold Obligations.KeepCommandsAnswer
  intro s arg ha hphase hjob
  refine ⟨?_, ?_, ?_, ?_, ?_, ?_, ?_, ?_, ?_, ?_, ?_⟩
  · exact completes_took (f := (·.getInfo .mailbox arg.toNat)) rfl ha (getInfo_reply hphase hjob arg)
  · intro t harg hA hB hv
    refine ⟨fun h => completes_took (f := (·.commitSvn .mailbox arg)) rfl ha (commitSvn_unproved hphase hjob harg h),
      fun h => completes_took (f := (·.commitSvn .mailbox arg)) rfl ha ?_⟩
    obtain ⟨hreply, hkeep⟩ := commitSvn_reply hphase hjob harg h
    rw [hkeep]
    refine ⟨hreply, fusesKept_raiseSvn _ _ _, svnOf_raiseSvn ?_ ?_ hv, rfl⟩
    · rw [hA]; exact t.isLt
    · rw [hB]; exact t.isLt
  · exact fun h => completes_took (f := (·.commitSvn .mailbox arg)) rfl ha (commitSvn_badType hphase hjob h)
  · exact fun h => ⟨completes_took (f := (·.getAttest .mailbox 0)) rfl ha (attest_denied hphase hjob h),
      completes_took (f := (·.getCert .mailbox 0)) rfl ha (cert_denied hphase hjob h)⟩
  · intro nonce hlen h
    obtain ⟨hmagic, hnonce, hnow⟩ := reportBody_fields s.dev hlen
    exact completes_took (f := (·.getAttest (.mctp nonce) 0)) rfl ha
      ⟨s.dev.reportBody nonce, hmagic, hnonce, hnow, getAttest_mctp hphase hjob hlen h⟩
  · intro bs h
    refine completes_took (f := (·.getCert (.mctp bs) 0)) rfl ha ?_
    rw [getCert_mctp hphase hjob bs h]
    exact ⟨rfl, rfl, (onlyRegs_bump s.dev Reg.kepCmdCnt 1).2⟩
  · exact fun h => completes_took (f := (·.bbramWrite .mailbox 0)) rfl ha (bbramWrite_denied hphase hjob h)
  · intro h
    refine completes_took (f := (·.bbramWrite .mailbox 0)) rfl ha ?_
    obtain ⟨hreply, hkeep⟩ := bbramWrite_reply hphase hjob h
    exact ⟨hreply, hkeep, fun i hi => bbramWrite_clears hphase hjob h hi⟩
  · exact completes_took (f := (·.bbramErase .mailbox 0)) rfl ha (bbramErase_reply hphase hjob)
  · exact fun h => completes_took (f := (·.fuseProgram .mailbox arg.toNat)) rfl ha (fuseProgram_denied hphase hjob arg.toNat h)
  · intro h
    refine ⟨completes_took (f := (·.fuseProgram .mailbox 0)) rfl ha ⟨fuseProgram_keySet hphase hjob h, fun hset => ?_⟩,
      completes_took (f := (·.fuseProgram .mailbox 1)) rfl ha ?_, completes_took (f := (·.fuseProgram .mailbox 2)) rfl ha ?_⟩
    · obtain ⟨hreply, hkeep⟩ := fuseProgram_key hphase hjob h hset
      exact ⟨hreply, congrArg Keep.fuses hkeep⟩
    · obtain ⟨hreply, hkeep⟩ := fuseProgram_policy hphase hjob h
      exact ⟨hreply, congrArg Keep.fuses hkeep⟩
    · obtain ⟨hreply, hkeep⟩ := fuseProgram_revoke hphase hjob h
      exact ⟨hreply, congrArg Keep.fuses hkeep⟩

end Sys2Proof.Machine
end

section
/-!
PROOFS. Updates, activation, the restart of the Keep and its boot, and the card (R434, R439, R442 - R445).
-/
namespace Sys2Proof.Machine

open Sys2Proof

/-! ### What work of the Keep leaves as it was -/

/-- Besides registers and the note of raised bits, only the Keep may differ, and its fuses are as they were. -/
def KeepOnly (d d' : Device) : Prop :=
  d' = { d with regs := d'.regs, justSet := d'.justSet, keep := d'.keep } ∧ d'.keep.fuses = d.keep.fuses

theorem KeepOnly.refl (d : Device) : KeepOnly d d := ⟨rfl, rfl⟩

theorem KeepOnly.trans {d d' d'' : Device} (h : KeepOnly d d') (h' : KeepOnly d' d'') : KeepOnly d d'' := by
  obtain ⟨he, hf⟩ := h
  obtain ⟨he', hf'⟩ := h'
  refine ⟨he'.trans ?_, hf'.trans hf⟩
  rw [he]

theorem OnlyRegs.keepOnly {as : List Nat} {d d' : Device} (h : OnlyRegs as d d') : KeepOnly d d' := by
  obtain ⟨he, -⟩ := h
  have hk : d'.keep = d.keep := by rw [he]
  have hj : d'.justSet = d.justSet := by rw [he]
  exact ⟨by rw [hk, hj]; exact he, by rw [hk]⟩

theorem keepOnly_keep (d : Device) {k : Keep} (h : k.fuses = d.keep.fuses) : KeepOnly d { d with keep := k } := ⟨rfl, h⟩

theorem keepOnly_raise (d : Device) (a : Nat) (m : Word) : KeepOnly d (d.raise a m) := ⟨rfl, rfl⟩

theorem KeepOnly.sameMemory {d d' : Device} (h : KeepOnly d d') : SameMemory d d' := by
  obtain ⟨he, -⟩ := h
  rw [he]
  exact ⟨rfl, rfl, rfl, rfl⟩

theorem KeepOnly.foldl {α : Type} {l : List α} {f : Device → α → Device} (h : ∀ e x, KeepOnly e (f e x)) (d : Device) :
    KeepOnly d (l.foldl f d) := by
  induction l generalizing d with
  | nil => exact .refl d
  | cons x l ih => exact (h d x).trans (ih _)

/-! ### Phases and the mailbox -/

/-- An answer in the mailbox leaves the Keep's other registers. -/
theorem reg_keepAnswer_ne (d : Device) (r : Nat) (out : List Byte) {a : Nat} (hs : a ≠ Reg.kepMbStatus) (hc : a ≠ Reg.kepCmdCnt)
    (ha : a < 0x101000) : (d.keepAnswer .mailbox r out).reg a = d.reg a :=
  (onlyRegs_keepAnswer d r out).2 a fun h => by
    rcases List.mem_cons.1 h with h | h
    · exact hs h
    rcases List.mem_cons.1 h with h | h
    · exact hc h
    · exact not_mem_mailData ha h

/-- A Keep that has gone down in phase `p`. -/
theorem keepDown_effect (d : Device) {p : Nat} (hp : p < 16) {e : Device} (he : e = d.keepDown p) :
    e.keepPhase = p ∧ e.keep = { d.keep with job := none, restartAt := d.now } ∧
      SameRegs [Reg.kepStatus, Reg.kepMbStatus] d e ∧ KeepOnly d e := by
  obtain ⟨x, hx⟩ : ∃ x, x = (d.setPhase p).setFs Reg.kepMbStatus [(31, 1, 0), (8, 8, 1)] := ⟨_, rfl⟩
  have honly : OnlyRegs [Reg.kepStatus, Reg.kepMbStatus] d x := by
    rw [hx]
    exact ((onlyRegs_setF d _ _ _ _).mono (by simp)).trans ((onlyRegs_setFs _ _ _).mono (by simp))
  have hphase : x.keepPhase = p := by
    rw [hx, Device.keepPhase, Device.regF, reg_setFs_ne _ _ (by decide)]
    exact (regF_setF d _ p (by decide)).trans (Nat.mod_eq_of_lt hp)
  have hkeep : x.keep = d.keep := by rw [honly.1]
  have hnow : x.now = d.now := by rw [honly.1]; rfl
  have hdown : e = { x with keep := { x.keep with job := none, restartAt := x.now } } := by rw [he, hx]; rfl
  rw [hdown]
  refine ⟨hphase, by rw [hkeep, hnow], fun a ha => honly.2 a ha, ?_⟩
  exact honly.keepOnly.trans (keepOnly_keep x rfl)

/-- A Keep that BOOT starts with the slots of a record. -/
theorem bootWith_effect (d : Device) {slots trial : Nat} (hs : slots < 16) (ht : trial < 16) {e : Device}
    (he : e = d.bootWith slots trial) :
    e.keepPhase = 1 ∧ e.regF Reg.kepStatus 0 4 = slots ∧ e.regF Reg.kepStatus 4 4 = trial ∧
      e.keep = { d.keep with noPhy := false } ∧ SameRegs [Reg.kepStatus] d e ∧ KeepOnly d e := by
  obtain ⟨x, hx⟩ : ∃ x, x = (d.setPhase 1).setFs Reg.kepStatus [(0, 4, slots), (4, 4, trial)] := ⟨_, rfl⟩
  have honly : OnlyRegs [Reg.kepStatus] d x := by
    rw [hx]
    exact (onlyRegs_setF d _ _ _ _).trans (onlyRegs_setFs _ _ _)
  have hkeep : x.keep = d.keep := by rw [honly.1]
  have hphase : x.keepPhase = 1 := by
    rw [hx]
    exact (regF_setF_ne _ _ _ (by decide)).trans ((regF_setF_ne _ _ _ (by decide)).trans (regF_setF d _ 1 (by decide)))
  have hslots : x.regF Reg.kepStatus 0 4 = slots := by
    rw [hx]
    exact (regF_setF_ne _ _ _ (by decide)).trans ((regF_setF _ _ slots (by decide)).trans (Nat.mod_eq_of_lt hs))
  have htrial : x.regF Reg.kepStatus 4 4 = trial := by
    rw [hx]
    exact (regF_setF _ _ trial (by decide)).trans (Nat.mod_eq_of_lt ht)
  have hboot : e = { x with keep := { x.keep with noPhy := false } } := by rw [he, hx]; rfl
  rw [hboot]
  exact ⟨hphase, hslots, htrial, by rw [hkeep], honly.2, honly.keepOnly.trans (keepOnly_keep x rfl)⟩

/-! ### UPDATE and the removal of the card (R439) -/

section
variable {d : Device} (hphase : d.keepPhase = 2) (hjob : d.keep.job = none)
include hphase hjob

theorem startUpdate_taken {arg : BitVec 32} (env : UpdateEnv) (h1 : 1 ≤ fld arg 0 8) (h4 : fld arg 0 8 ≤ 4)
    (hentry : fld arg 8 24 ≤ 7) :
    d.startUpdate .mailbox arg env = { (d.bump Reg.kepUpdateCnt 1).setFs Reg.kepMbStatus [(31, 1, 1), (30, 1, 0)] with
      keep := { d.keep with job := some { port := .mailbox, type := fld arg 0 8, entry := fld arg 8 8, env := env } } } := by
  have hok : ¬(fld arg 0 8 = 0 ∨ 4 < fld arg 0 8 ∨ 8 ≤ fld arg 8 24) := by omega
  have hopen : ¬(d.keepPhase ≠ 2 ∨ d.keep.job.isSome = true) := by simp [hphase, hjob]
  unfold Device.startUpdate
  rw [if_neg (by omega), if_neg hopen, if_neg hok]
  rfl

theorem startUpdate_refused {arg : BitVec 32} (env : UpdateEnv)
    (h : fld arg 0 8 = 0 ∨ 5 ≤ fld arg 0 8 ∨ 8 ≤ fld arg 8 24) :
    d.startUpdate .mailbox arg env =
      ((d.bump Reg.kepUpdateCnt 1).bump Reg.kepUpdateFailCnt 1).keepAnswer .mailbox 2 [] := by
  have hopen : ¬(d.keepPhase ≠ 2 ∨ d.keep.job.isSome = true) := by simp [hphase, hjob]
  unfold Device.startUpdate
  rw [if_neg (by omega), if_neg hopen]
  exact if_pos h

end

/-- A device whose mailbox has taken an UPDATE. -/
theorem updateTaken_effect (d : Device) (k : Keep) {e : Device}
    (he : e = { (d.bump Reg.kepUpdateCnt 1).setFs Reg.kepMbStatus [(31, 1, 1), (30, 1, 0)] with keep := k }) :
    e.keep = k ∧ e.regBit Reg.kepMbStatus 31 = true ∧ e.reg Reg.kepUpdateCnt = d.reg Reg.kepUpdateCnt + 1 ∧
      OnlyRegs [Reg.kepMbStatus, Reg.kepUpdateCnt] { d with keep := e.keep } e := by
  obtain ⟨x, hx⟩ : ∃ x, x = (d.bump Reg.kepUpdateCnt 1).setFs Reg.kepMbStatus [(31, 1, 1), (30, 1, 0)] := ⟨_, rfl⟩
  have honly : OnlyRegs [Reg.kepMbStatus, Reg.kepUpdateCnt] d x := by
    rw [hx]
    exact ((onlyRegs_bump d _ 1).mono (by simp)).trans ((onlyRegs_setFs _ _ _).mono (by simp))
  have hbusy : x.regBit Reg.kepMbStatus 31 = true := by
    rw [hx]
    exact (regBit_setF_outside _ _ 0 (by decide)).trans (regBit_setF_one _ _ 1 (by decide))
  have hcnt : x.reg Reg.kepUpdateCnt = d.reg Reg.kepUpdateCnt + 1 := by
    rw [hx, reg_setFs_ne _ _ (by decide)]
    exact reg_bump d _ 1
  rw [he, ← hx]
  refine ⟨rfl, hbusy, hcnt, ?_, honly.2⟩
  obtain ⟨heq, -⟩ := honly
  rw [heq]

/-- The registers after an UPDATE that is refused for its argument. -/
theorem updateRefused_effect (d : Device) {e : Device}
    (he : e = ((d.bump Reg.kepUpdateCnt 1).bump Reg.kepUpdateFailCnt 1).keepAnswer .mailbox 2 []) :
    e.keep = d.keep ∧ e.regF Reg.kepMbStatus 8 8 = 2 ∧ e.reg Reg.kepUpdateCnt = d.reg Reg.kepUpdateCnt + 1 ∧
      e.reg Reg.kepUpdateFailCnt = d.reg Reg.kepUpdateFailCnt + 1 := by
  obtain ⟨x, hx⟩ : ∃ x, x = (d.bump Reg.kepUpdateCnt 1).bump Reg.kepUpdateFailCnt 1 := ⟨_, rfl⟩
  obtain ⟨hres, -⟩ := mailReply_keepAnswer x (r := 2) (by decide) []
  rw [he, ← hx]
  refine ⟨(keepAnswer_keep x 2 []).trans (by rw [hx]; rfl), hres, ?_, ?_⟩
  · rw [reg_keepAnswer_ne _ _ _ (by decide) (by decide) (by decide), hx, reg_bump_ne _ _ (by decide)]
    exact reg_bump d _ 1
  · rw [reg_keepAnswer_ne _ _ _ (by decide) (by decide) (by decide), hx, reg_bump, reg_bump_ne _ _ (by decide)]
    rfl

theorem update_noCard {k : Keep} (h : k.card = none) (keysB : Bool) (t e : Nat) (b : Bool) (env : UpdateEnv) :
    k.update keysB t e b env = (k.setSlot t b FlashSlot.initial, 3) := by
  simp [Keep.update, h]

/-- Without a card, the UPDATE in progress fails with 0x03. -/
theorem keepWork_noCard {d : Device} (hcard : d.keep.card = none) {j : UpdateJob} (hjob : d.keep.job = some j)
    (hport : j.port = .mailbox) :
    d.keepWork = (({ d with keep := { d.keep.setSlot j.type (!d.slotB j.type) FlashSlot.initial with job := none } } :
      Device).bump Reg.kepUpdateFailCnt 1).keepAnswer .mailbox 3 [] := by
  simp only [Device.keepWork, hjob, update_noCard hcard, hport]
  rfl

theorem slot_setSlot (k : Keep) (t : Nat) (b : Bool) (x : FlashSlot) : (k.setSlot t b x).slot t b = x :=
  mapGet_mapPut _ _ _ _

theorem slot_setSlot_ne (k : Keep) {t t' : Nat} {b b' : Bool} (x : FlashSlot) (h : slotKey t' b' ≠ slotKey t b) :
    (k.setSlot t b x).slot t' b' = k.slot t' b' := mapGet_mapPut_ne _ _ _ h

/-- The UPDATE that the removal of the card ends: its slot is empty, and everything else of the Keep as it was. -/
theorem cardOut_updating (d : Device) {j : UpdateJob} (hjob : d.keep.job = some j) (hport : j.port = .mailbox)
    (htype : j.type ≤ 4) {e : Device} (he : e = d.cardOut) :
    e.keep = { d.keep.setSlot j.type (!d.slotB j.type) FlashSlot.initial with card := none, job := none } ∧
      e.regBit Reg.kepStatus 8 = false ∧ e.regF Reg.kepMbStatus 8 8 = 3 ∧
      e.reg Reg.kepUpdateFailCnt = d.reg Reg.kepUpdateFailCnt + 1 := by
  obtain ⟨x, hx⟩ : ∃ x : Device, x = { d.setF Reg.kepStatus 8 1 0 with keep := { d.keep with card := none } } := ⟨_, rfl⟩
  have hslot : x.slotB j.type = d.slotB j.type := by
    rw [hx]
    exact regBit_setF_outside d _ 0 (by omega)
  have hkeep : x.keep = { d.keep with card := none } := by rw [hx]
  have hwork := keepWork_noCard (d := x) (by rw [hkeep]) (by rw [hkeep]; exact hjob) hport
  obtain ⟨y, hy⟩ : ∃ y : Device, y =
      ({ x with keep := { x.keep.setSlot j.type (!x.slotB j.type) FlashSlot.initial with job := none } } : Device).bump
        Reg.kepUpdateFailCnt 1 := ⟨_, rfl⟩
  obtain ⟨hres, -⟩ := mailReply_keepAnswer y (r := 3) (by decide) []
  have hout : e = y.keepAnswer .mailbox 3 [] := by
    rw [he, hy, ← hwork, hx]
    rfl
  rw [hout]
  refine ⟨?_, ?_, hres, ?_⟩
  · rw [keepAnswer_keep, hy]
    dsimp only [Device.bump, setReg_keep]
    rw [hslot, hkeep]
    rfl
  · have hbit : (d.setF Reg.kepStatus 8 1 0).regBit Reg.kepStatus 8 = false := regBit_setF_one d _ 0 (by decide)
    rw [Device.regBit, reg_keepAnswer_ne _ _ _ (by decide) (by decide) (by decide), hy, reg_bump_ne _ _ (by decide), hx]
    exact hbit
  · rw [reg_keepAnswer_ne _ _ _ (by decide) (by decide) (by decide), hy, reg_bump, hx]
    exact congrArg (· + 1) (reg_setF_ne d _ _ _ (by decide))

/-! ### ACTIVATE (R445) -/

/-- Why an ACTIVATE of the types `arg` is refused. -/
def Device.activateFault (d : Device) (arg : BitVec 32) : Option Nat :=
  if 16 ≤ arg.toNat then some 0x02
  else if d.load.isSome then some 0x0C
  else if [1, 2, 3, 4].any (fun t => bit arg (t - 1) && !(d.keep.slot t (!d.slotB t)).staged) then some 0x0B
  else none

/-- The Keep that an ACTIVATE leaves: the activated types no longer staged, and unproved until they are ready. -/
def Device.activatedKeep (d : Device) (arg : BitVec 32) : Keep :=
  let k := [1, 2, 3, 4].foldl (fun k t =>
    if bit arg (t - 1) then k.setSlot t (!d.slotB t) { k.slot t (!d.slotB t) with staged := false } else k) d.keep
  { k with unproved := k.unproved ||| BitVec.ofNat 4 arg.toNat, cfgBefore := some d.cfgState, reverting := false }

theorem activatedKeep_fuses (d : Device) (arg : BitVec 32) : (d.activatedKeep arg).fuses = d.keep.fuses :=
  unstage_fuses arg (fun t => !d.slotB t) [1, 2, 3, 4] d.keep

/-- The record of an activation of the types `arg`. -/
def Device.trialRecord (d : Device) (arg : BitVec 32) : List Byte :=
  makeRecord (recordGen d.keep.record + 1) (d.regF Reg.kepStatus 0 4 ^^^ arg.toNat) arg.toNat (d.regF Reg.kepStatus 0 4)

theorem activateTrial_fault {d : Device} {arg : BitVec 32} {r : Nat} (h : d.activateFault arg = some r) (p : KeepPort) :
    d.activateTrial p arg = d.keepCommand p (fun d => (d, r, [])) := by
  unfold Device.activateFault at h
  unfold Device.activateTrial
  dsimp only
  rw [h]

section
variable {d : Device} (hphase : d.keepPhase = 2) (hjob : d.keep.job = none)
include hphase hjob

theorem activateTrial_refused {arg : BitVec 32} {r : Nat} (hr : r < 256) (h : d.activateFault arg = some r) :
    MailReply r d (d.activateTrial .mailbox arg) ∧ (d.activateTrial .mailbox arg).keep = d.keep := by
  rw [activateTrial_fault h]
  exact reply_of_command hphase hjob hr ⟨_, rfl⟩

theorem activateTrial_eq {arg : BitVec 32} (h : d.activateFault arg = none) : d.activateTrial .mailbox arg =
    ((((({ d with keep := d.activatedKeep arg } : Device).writeRecords (d.trialRecord arg)).keepAnswer .mailbox 0 []).setCfgState
      7).keepDown 3) := by
  have hopen : ¬(d.keepPhase ≠ 2 ∨ d.keep.job.isSome = true) := by simp [hphase, hjob]
  unfold Device.activateFault at h
  unfold Device.activateTrial
  dsimp only
  rw [h]
  exact if_neg hopen

end

theorem activateFault_loading {d : Device} {arg : BitVec 32} (harg : arg.toNat < 16) (h : d.load.isSome = true) :
    d.activateFault arg = some 0x0C := by
  simp [Device.activateFault, not_le.2 harg, h]

/-- A type of the argument whose slot is not staged. -/
theorem any_unstaged (d : Device) (arg : BitVec 32) :
    [1, 2, 3, 4].any (fun t => bit arg (t - 1) && !(d.keep.slot t (!d.slotB t)).staged) = true ↔
      ∃ t : Fin 4, bit arg t = true ∧ (d.keep.slot (t + 1) (!d.slotB (t + 1))).staged = false := by
  simp [Fin.exists_fin_succ, List.any_cons]

theorem activateFault_unstaged {d : Device} {arg : BitVec 32} (harg : arg.toNat < 16) (hload : d.load = none) {t : Fin 4}
    (ht : bit arg t = true) (hs : (d.keep.slot (t + 1) (!d.slotB (t + 1))).staged = false) :
    d.activateFault arg = some 0x0B := by
  have hany := (any_unstaged d arg).2 ⟨t, ht, hs⟩
  rw [Device.activateFault, if_neg (not_le.2 harg), if_neg (by simp [hload]), if_pos hany]

theorem activateFault_staged {d : Device} {arg : BitVec 32} (harg : arg.toNat < 16) (hload : d.load = none)
    (h : ∀ t : Fin 4, bit arg t = true → (d.keep.slot (t + 1) (!d.slotB (t + 1))).staged = true) :
    d.activateFault arg = none := by
  have hany := mt (any_unstaged d arg).1 fun ⟨t, ht, hs⟩ => by rw [h t ht] at hs; cases hs
  rw [Device.activateFault, if_neg (not_le.2 harg), if_neg (by simp [hload]), if_neg hany]

/-- A device that has taken an ACTIVATE. -/
theorem activated_effect (d : Device) {k : Keep} (hfuses : k.fuses = d.keep.fuses) (r : List Byte) {e : Device}
    (he : e = ((((({ d with keep := k } : Device).writeRecords r).keepAnswer .mailbox 0 []).setCfgState 7).keepDown 3)) :
    e.keepPhase = 3 ∧ e.cfgState = 7 ∧ e.keep = { k with records := [r, r, r], job := none, restartAt := d.now } ∧
      e.lantern = d.lantern ∧ SameMemory d e := by
  obtain ⟨y, hy⟩ : ∃ y : Device, y = ({ d with keep := k } : Device).writeRecords r := ⟨_, rfl⟩
  obtain ⟨a, ha⟩ : ∃ a, a = y.keepAnswer .mailbox 0 [] := ⟨_, rfl⟩
  obtain ⟨c, hc⟩ : ∃ c, c = a.setCfgState 7 := ⟨_, rfl⟩
  have hyk : y.keep = { k with records := [r, r, r] } := by rw [hy]; rfl
  have hdy : KeepOnly d y := by
    rw [hy]
    exact keepOnly_keep d hfuses
  have hya : KeepOnly y a := ha ▸ (onlyRegs_keepAnswer y 0 []).keepOnly
  have hac : OnlyRegs [Reg.cfgStatus] a c := hc ▸ onlyRegs_setF a _ _ _ _
  have hck : c.keep = y.keep := by rw [hac.1, ha, ← keepAnswer_keep y 0 []]
  have hstate : c.cfgState = 7 := hc ▸ cfgState_setCfgState a (by decide)
  obtain ⟨hphase, hkeep, hsame, hdown⟩ := keepDown_effect c (p := 3) (by decide) (by rw [he, hc, ha, hy] : e = _)
  have hdc : KeepOnly d c := hdy.trans (hya.trans hac.keepOnly)
  have hnow : c.now = d.now := by rw [hdc.1]; rfl
  have hall := hdc.trans hdown
  refine ⟨hphase, ?_, by rw [hkeep, hck, hyk, hnow], by rw [hall.1], hall.sameMemory⟩
  rw [Device.cfgState, Device.regF, hsame _ (by decide)]
  exact hstate

/-! ### The restart (R442, R443) -/

theorem recordSlots_lt (r : List Byte) : recordSlots r < 16 := Nat.mod_lt _ (by decide)
theorem recordTrial_lt (r : List Byte) : recordTrial r < 16 := Nat.mod_lt _ (by decide)

theorem keepBoot_recovery {d : Device} (h : d.keepPhase = 4) : d.keepBoot = d := if_pos h

/-- KEP_STATUS shows whether a card is in the socket. -/
def Device.cardShown (d : Device) : Device := d.setF Reg.kepStatus 8 1 (b2n d.keep.card.isSome)

/-- The records of a candidate are repaired where a copy differs. -/
def Device.repaired (d : Device) (c : List Byte) : Device :=
  if d.keep.records.any (· != c) then (d.writeRecords c).bump Reg.kepBprRepairCnt 1 else d

/-- The device that a restart starts: from the first candidate whose slots are all usable, or in recovery. -/
def Device.resolved (d : Device) : Option (List Byte) → Device
  | none => d.enterRecovery
  | some c => (d.repaired c).bootWith (recordSlots c) (recordTrial c)

theorem keepBoot_eq {d : Device} (hphase : d.keepPhase = 3) (hrev : d.keep.reverting = false) :
    d.keepBoot = d.cardShown.resolved (d.keep.candidates.find? (fun c => d.keep.allUsable (recordSlots c))) := by
  have hrev' : ¬(d.cardShown.keep.reverting = true) := by
    rw [Device.cardShown, setF_keep]
    simp [hrev]
  unfold Device.keepBoot
  rw [if_neg (by omega)]
  dsimp only
  rw [if_pos hphase]
  refine (if_neg hrev').trans ?_
  change _ = d.cardShown.resolved
    (d.cardShown.keep.candidates.find? (fun c => d.cardShown.keep.allUsable (recordSlots c)))
  split
  next h => exact congrArg d.cardShown.resolved h.symm
  next c h => exact congrArg d.cardShown.resolved h.symm

theorem cardShown_only (d : Device) : OnlyRegs [Reg.kepStatus] d d.cardShown := onlyRegs_setF d _ _ _ _

theorem repaired_effect (d : Device) (c : List Byte) {e : Device} (he : e = d.repaired c) :
    (d.keep.records.length = 3 → e.keep.records = [c, c, c]) ∧ SameRegs [Reg.kepBprRepairCnt] d e ∧ KeepOnly d e := by
  rw [he, Device.repaired]
  split
  next h =>
    exact ⟨fun _ => rfl, fun a ha => reg_bump_ne _ _ (by simpa using ha),
      (keepOnly_keep d rfl).trans (onlyRegs_bump _ _ 1).keepOnly⟩
  next h =>
    refine ⟨fun hlen => ?_, fun _ _ => rfl, .refl d⟩
    have hall : ∀ x ∈ d.keep.records, x = c := by simpa using h
    rw [List.eq_replicate_of_mem hall, hlen]
    rfl

/-- The boot of a candidate. -/
theorem resolved_some_effect (d : Device) (c : List Byte) {e : Device} (he : e = d.cardShown.resolved (some c)) :
    KeepOnly d e ∧ e.keepPhase = 1 ∧ e.regF Reg.kepStatus 0 4 = recordSlots c ∧ e.regF Reg.kepStatus 4 4 = recordTrial c ∧
      (d.keep.records.length = 3 → e.keep.records = [c, c, c]) ∧ SameRegs [Reg.kepStatus, Reg.kepBprRepairCnt] d e := by
  have hshown := cardShown_only d
  obtain ⟨y, hy⟩ : ∃ y, y = d.cardShown.repaired c := ⟨_, rfl⟩
  obtain ⟨hrec, hyregs, hyonly⟩ := repaired_effect d.cardShown c hy
  obtain ⟨hphase, hslots, htrial, hkeep, hregs, honly⟩ :=
    bootWith_effect y (recordSlots_lt c) (recordTrial_lt c) (by rw [he, hy, Device.resolved] : e = _)
  refine ⟨hshown.keepOnly.trans (hyonly.trans honly), hphase, hslots, htrial, ?_, fun a ha => ?_⟩
  · rw [hkeep]
    exact hrec
  · rw [hregs a (by simp_all), hyregs a (by simp_all), hshown.2 a (by simp_all)]

/-! ### Recovery (R444) -/

theorem keepOnly_recoverFromCard (d : Device) : KeepOnly d d.recoverFromCard := by
  unfold Device.recoverFromCard
  split
  · exact .refl _
  extract_lets +onlyGivenNames entry
  split
  next e1 e2 e3 _ _ _ =>
    extract_lets +onlyGivenNames ok
    have h1 := update_fuses d.keep false 1 e1 false ok
    generalize d.keep.update false 1 e1 false ok = a at h1 ⊢
    obtain ⟨k1, r1⟩ := a
    have h2 := update_fuses k1 false 2 e2 false ok
    dsimp only at h1 ⊢
    generalize k1.update false 2 e2 false ok = a at h2 ⊢
    obtain ⟨k2, r2⟩ := a
    have h3 := update_fuses k2 false 3 e3 false ok
    dsimp only at h2 ⊢
    generalize k2.update false 3 e3 false ok = a at h3 ⊢
    obtain ⟨k3, r3⟩ := a
    have hk := keepOnly_keep d (k := k3) (h3.trans (h2.trans h1))
    split
    · obtain ⟨-, -, -, hdown⟩ := keepDown_effect (({ d with keep := k3 } : Device).writeRecords
        (makeRecord ((k3.candidates.map recordGen).foldl max 0 + 1) 0 0 0)) (p := 3) (by decide) rfl
      exact hk.trans ((keepOnly_keep _ rfl).trans hdown)
    · exact hk
  · exact .refl _

theorem recoverFromCard_noCard {d : Device} (h : d.keep.card = none) : d.recoverFromCard = d := by
  simp [Device.recoverFromCard, h]

theorem keepOnly_suspectAll (d : Device) :
    KeepOnly d ((List.range 12).foldl (fun d s => d.raise (Reg.hbcSuspect s) 0xFFFFFFFF) d) :=
  KeepOnly.foldl (fun _ _ => keepOnly_raise _ _ _) d

theorem suspectAll_keep (l : List Nat) (d : Device) :
    (l.foldl (fun d s => d.raise (Reg.hbcSuspect s) 0xFFFFFFFF) d).keep = d.keep := by
  induction l generalizing d with
  | nil => rfl
  | cons s l ih => exact ih _

theorem suspectAll_phase (l : List Nat) (d : Device) :
    (l.foldl (fun d s => d.raise (Reg.hbcSuspect s) 0xFFFFFFFF) d).keepPhase = d.keepPhase := by
  induction l generalizing d with
  | nil => rfl
  | cons s l ih =>
    refine (ih _).trans ?_
    rw [Device.keepPhase, Device.regF, reg_raise_ne _ _ (by unfold Reg.hbcSuspect Reg.kepStatus; omega)]
    rfl

/-- The device that has entered recovery, before the card is read. -/
def Device.inRecovery (d : Device) : Device :=
  if [false, true].any (fun b => [false, true].any (fun kb => d.keep.usable kb 4 b)) then d.setPhase 4
  else (List.range 12).foldl (fun d s => d.raise (Reg.hbcSuspect s) 0xFFFFFFFF)
    { d.setPhase 4 with keep := { d.keep with noPhy := true } }

theorem enterRecovery_eq (d : Device) : d.enterRecovery = d.inRecovery.recoverFromCard := rfl

theorem inRecovery_effect (d : Device) {e : Device} (he : e = d.inRecovery) :
    e.keepPhase = 4 ∧ e.keep = { d.keep with noPhy := e.keep.noPhy } ∧ KeepOnly d e := by
  have honly : KeepOnly d (d.setPhase 4) := (onlyRegs_setF d Reg.kepStatus _ _ _).keepOnly
  have hphase : (d.setPhase 4).keepPhase = 4 := regF_setF d Reg.kepStatus (lo := 28) (w := 4) 4 (by decide)
  rw [he, Device.inRecovery]
  split
  · exact ⟨hphase, rfl, honly⟩
  · refine ⟨(suspectAll_phase _ _).trans hphase, ?_, (honly.trans (keepOnly_keep _ rfl)).trans (keepOnly_suspectAll _)⟩
    rw [suspectAll_keep]

/-- The restart that finds nothing to boot. -/
theorem resolved_none_effect (d : Device) {e : Device} (he : e = d.cardShown.resolved none) :
    KeepOnly d e ∧ (d.keep.card = none → e.keepPhase = 4 ∧ e.keep.records = d.keep.records ∧ e.keep.slots = d.keep.slots) := by
  obtain ⟨y, hy⟩ : ∃ y, y = d.cardShown.inRecovery := ⟨_, rfl⟩
  obtain ⟨hphase, hkeep, honly⟩ := inRecovery_effect d.cardShown hy
  have hye : e = y.recoverFromCard := by rw [he, hy, Device.resolved, enterRecovery_eq]
  refine ⟨(cardShown_only d).keepOnly.trans (honly.trans (hye ▸ keepOnly_recoverFromCard y)), fun hcard => ?_⟩
  have hcard' : y.keep.card = none := by rw [hkeep]; exact hcard
  rw [hye, recoverFromCard_noCard hcard']
  refine ⟨hphase, ?_, ?_⟩ <;> rw [hkeep] <;> rfl

/-! ### MGMT_READY (R443, R445) -/

theorem mgmtReady_early {d : Device} (h : d.keepPhase ≠ 1) : d.mgmtReady = d := if_pos h

/-- The mailbox open, and the firmware version shown. -/
def Device.readyShown (d : Device) : Device :=
  let x := (d.setPhase 2).setFs Reg.kepMbStatus [(8, 8, 0)]
  x.setReg Reg.kepFwVersion (BitVec.ofNat 64 (imageVersion (x.keep.image 3 (x.slotB 3))))

/-- A trial that has ended well is recorded, and counted with the activations. -/
def Device.readyRecorded (d : Device) (r : List Byte) (active : Bool) : Device :=
  let x := if recordTrial r ≠ 0 then d.writeRecords (makeRecord (recordGen r + 1) (recordSlots r) 0 (recordPrev r)) else d
  if active ∨ recordTrial r ≠ 0 then x.bump Reg.kepActivateCnt 1 else x

/-- The end of a restart. -/
def Device.restartEnded (d : Device) : Device :=
  let x := (d.setF Reg.kepStatus 4 4 0).restoreCfg
  { x with keep := { x.keep with reverting := false, unproved := 0 } }

theorem mgmtReady_eq {d : Device} (hphase : d.keepPhase = 1) (hrev : d.keep.reverting = false) :
    d.mgmtReady = (d.readyShown.readyRecorded d.keep.record d.keep.cfgBefore.isSome).restartEnded := by
  have hrev' : ¬(d.readyShown.keep.reverting = true) := by
    rw [Device.readyShown, setReg_keep, setFs_keep]
    exact Bool.eq_false_iff.1 hrev
  unfold Device.mgmtReady
  rw [if_neg (by simp [hphase])]
  exact congrArg Device.restartEnded (if_neg hrev')

theorem readyShown_effect (d : Device) {e : Device} (he : e = d.readyShown) :
    e.keepPhase = 2 ∧ e.regF Reg.kepMbStatus 8 8 = 0 ∧ e.keep = d.keep ∧
      e.reg Reg.kepFwVersion = BitVec.ofNat 64 (imageVersion (d.keep.image 3 (d.slotB 3))) ∧ KeepOnly d e := by
  obtain ⟨x, hx⟩ : ∃ x, x = (d.setPhase 2).setFs Reg.kepMbStatus [(8, 8, 0)] := ⟨_, rfl⟩
  have honly : OnlyRegs [Reg.kepStatus, Reg.kepMbStatus] d x := by
    rw [hx]
    exact ((onlyRegs_setF d _ _ _ _).mono (by simp)).trans ((onlyRegs_setFs _ _ _).mono (by simp))
  have hkeep : x.keep = d.keep := by rw [honly.1]
  have hphase : x.regF Reg.kepStatus 28 4 = 2 := by
    rw [hx, Device.regF, reg_setFs_ne _ _ (by decide)]
    exact regF_setF d Reg.kepStatus (lo := 28) (w := 4) 2 (by decide)
  have hslot : x.slotB 3 = d.slotB 3 := by
    rw [hx, Device.slotB, Device.regBit, reg_setFs_ne _ _ (by decide)]
    exact regBit_setF_outside d Reg.kepStatus 2 (by decide)
  have hmail : x.regF Reg.kepMbStatus 8 8 = 0 := by
    rw [hx]
    exact regF_setF _ Reg.kepMbStatus (lo := 8) (w := 8) 0 (by decide)
  have hshown : e = x.setReg Reg.kepFwVersion (BitVec.ofNat 64 (imageVersion (d.keep.image 3 (d.slotB 3)))) := by
    rw [he, Device.readyShown, ← hx, ← hkeep, ← hslot]
  rw [hshown]
  refine ⟨?_, ?_, hkeep, reg_setReg _ _ _, honly.keepOnly.trans (onlyRegs_setReg x _ _).keepOnly⟩
  · exact (regF_setReg_ne x _ _ _ (by decide)).trans hphase
  · exact (regF_setReg_ne x _ _ _ (by decide)).trans hmail

theorem readyRecorded_effect (d : Device) (r : List Byte) (active : Bool) {e : Device} (he : e = d.readyRecorded r active) :
    SameRegs [Reg.kepActivateCnt] d e ∧ e.keep = { d.keep with records := e.keep.records } ∧
      (recordTrial r = 0 → e.keep.records = d.keep.records) ∧ KeepOnly d e := by
  obtain ⟨x, hx⟩ : ∃ x, x = if recordTrial r ≠ 0 then
    d.writeRecords (makeRecord (recordGen r + 1) (recordSlots r) 0 (recordPrev r)) else d := ⟨_, rfl⟩
  have hrec : SameRegs [] d x ∧ x.keep = { d.keep with records := x.keep.records } ∧
      (recordTrial r = 0 → x.keep.records = d.keep.records) ∧ KeepOnly d x := by
    rw [hx]
    split
    next h => exact ⟨fun _ _ => rfl, rfl, fun h0 => absurd h0 h, keepOnly_keep d rfl⟩
    · exact ⟨fun _ _ => rfl, rfl, fun _ => rfl, .refl d⟩
  obtain ⟨hregs, hkeep, hsame, honly⟩ := hrec
  have hlast : e = if active ∨ recordTrial r ≠ 0 then x.bump Reg.kepActivateCnt 1 else x := by rw [he, hx, Device.readyRecorded]
  rw [hlast]
  split
  · exact ⟨fun a ha => (reg_bump_ne _ _ (by simpa using ha)).trans (hregs a (by simp)), hkeep, hsame,
      honly.trans (onlyRegs_bump x _ 1).keepOnly⟩
  · exact ⟨fun a _ => hregs a (by simp), hkeep, hsame, honly⟩

theorem restoreCfg_effect (d : Device) {e : Device} (he : e = d.restoreCfg) :
    SameRegs [Reg.cfgStatus] d e ∧ e.keep = { d.keep with cfgBefore := none } ∧
      (∀ x, d.keep.cfgBefore = some x → x < 16 → e.cfgState = x) ∧ KeepOnly d e := by
  rw [he]
  unfold Device.restoreCfg
  split
  next h => exact ⟨fun _ _ => rfl, by rw [← h], fun x hx => (by rw [h] at hx; cases hx), .refl d⟩
  next y h =>
    have honly : OnlyRegs [Reg.cfgStatus] d (d.setCfgState y) := onlyRegs_setF d _ _ _ _
    refine ⟨honly.2, rfl, fun x hx hlt => ?_, honly.keepOnly.trans (keepOnly_keep _ rfl)⟩
    cases h.symm.trans hx
    exact cfgState_setCfgState d hlt

theorem restartEnded_effect (d : Device) {e : Device} (he : e = d.restartEnded) :
    SameRegs [Reg.kepStatus, Reg.cfgStatus] d e ∧ e.keepPhase = d.keepPhase ∧ e.regF Reg.kepStatus 4 4 = 0 ∧
      e.keep = { d.keep with cfgBefore := none, reverting := false, unproved := 0 } ∧
      (∀ x, d.keep.cfgBefore = some x → x < 16 → e.cfgState = x) ∧ KeepOnly d e := by
  have htrial : OnlyRegs [Reg.kepStatus] d (d.setF Reg.kepStatus 4 4 0) := onlyRegs_setF d _ _ _ _
  obtain ⟨x, hx⟩ : ∃ x, x = (d.setF Reg.kepStatus 4 4 0).restoreCfg := ⟨_, rfl⟩
  obtain ⟨hregs, hkeep, hstate, honly⟩ := restoreCfg_effect (d.setF Reg.kepStatus 4 4 0) hx
  have hend : e = { x with keep := { x.keep with reverting := false, unproved := 0 } } := by rw [he, hx, Device.restartEnded]
  have hstatus : x.reg Reg.kepStatus = (d.setF Reg.kepStatus 4 4 0).reg Reg.kepStatus := hregs _ (by decide)
  rw [hend]
  refine ⟨fun a ha => ?_, ?_, ?_, by rw [hkeep]; rfl, hstate, htrial.keepOnly.trans (honly.trans (keepOnly_keep x rfl))⟩
  · exact (hregs a (by simp_all)).trans (htrial.2 a (by simp_all))
  · exact (congrArg (fld · 28 4) hstatus).trans (regF_setF_ne d Reg.kepStatus 0 (by decide))
  · exact (congrArg (fld · 4 4) hstatus).trans (regF_setF d Reg.kepStatus (lo := 4) (w := 4) 0 (by decide))

/-! ### The trial's watchdog, the card and the battery (R443, R444) -/

theorem trialExpires_late {d : Device} (hphase : d.keepPhase = 1) (hrev : d.keep.reverting = false)
    (htrial : recordTrial d.keep.record ≠ 0) (hlate : d.keep.restartAt + 100000000 ≤ d.now) :
    d.trialExpires = { d.keepDown 3 with keep := { (d.keepDown 3).keep with reverting := true } } := by
  have h : (d.keepPhase = 0 ∨ d.keepPhase = 1 ∨ d.keepPhase = 3) ∧ d.keep.reverting = false ∧ recordTrial d.keep.record ≠ 0 :=
    ⟨.inr (.inl hphase), hrev, htrial⟩
  rw [Device.trialExpires, if_pos h, advance_past hlate]

theorem cardIn_effect (d : Device) (ex : List (Nat × List Byte)) (hphase : d.keepPhase ≠ 4) {e : Device}
    (he : e = d.cardIn ex) :
    e.regBit Reg.kepStatus 8 = true ∧ e.keep = { d.keep with card := some ex } ∧
      OnlyRegs [Reg.kepStatus] { d with keep := e.keep } e := by
  have honly : OnlyRegs [Reg.kepStatus] d (d.setF Reg.kepStatus 8 1 1) := onlyRegs_setF d _ _ _ _
  have hsame : (d.setF Reg.kepStatus 8 1 1).keepPhase = d.keepPhase := regF_setF_ne d Reg.kepStatus 1 (by decide)
  have hin : e = { d.setF Reg.kepStatus 8 1 1 with keep := { d.keep with card := some ex } } := by
    rw [he]
    exact if_neg (hsame.trans_ne hphase)
  rw [hin]
  exact ⟨regBit_setF_one d Reg.kepStatus 1 (by decide), rfl, rfl, honly.2⟩

theorem vbatLoss_powered {d : Device} (h : d.alive = true) :
    d.vbatLoss = { d with belfry := { d.belfry with vbat := false } } := by
  have hup : d.belfry.rail = .up := by
    rw [Device.alive, Bool.and_eq_true, beq_iff_eq] at h
    exact h.1
  refine if_neg ?_
  rw [Device.mapBelfry, hup]
  simp

section
variable {d : Device}

/-- What an ACTIVATE of staged types does. -/
theorem activateTrial_effect (hphase : d.keepPhase = 2) (hjob : d.keep.job = none) {arg : BitVec 32}
    (h : d.activateFault arg = none) :
    let e := d.activateTrial .mailbox arg
    (∃ r : List Byte, e.keep.records = [r, r, r] ∧ r = d.trialRecord arg) ∧ e.keepPhase = 3 ∧ e.cfgState = 7 ∧
      e.keep.cfgBefore = some d.cfgState ∧ e.keep.restartAt = d.now ∧ e.keep.fuses = d.keep.fuses ∧ e.lantern = d.lantern ∧
      SameMemory d e := by
  intro e
  obtain ⟨hph, hstate, hkeep, hlantern, hmem⟩ :=
    activated_effect d (activatedKeep_fuses d arg) (d.trialRecord arg) (activateTrial_eq hphase hjob h : e = _)
  rw [hkeep]
  exact ⟨⟨_, rfl, rfl⟩, hph, hstate, rfl, rfl, activatedKeep_fuses d arg, hlantern, hmem⟩

/-- What the restart of a Keep in phase 3 does. -/
theorem keepBoot_effect (hphase : d.keepPhase = 3) (hrev : d.keep.reverting = false) :
    let e := d.keepBoot
    e.keep.fuses = d.keep.fuses ∧ SameMemory d e ∧
      (∀ c : List Byte, d.keep.candidates.find? (fun c => d.keep.allUsable (recordSlots c)) = some c →
        e.keepPhase = 1 ∧ e.regF Reg.kepStatus 0 4 = recordSlots c ∧ e.regF Reg.kepStatus 4 4 = recordTrial c ∧
        (d.keep.records.length = 3 → e.keep.records = [c, c, c]) ∧ SameRegs [Reg.kepStatus, Reg.kepBprRepairCnt] d e) ∧
      (d.keep.candidates.find? (fun c => d.keep.allUsable (recordSlots c)) = none → d.keep.card = none →
        e.keepPhase = 4 ∧ e.keep.records = d.keep.records ∧ e.keep.slots = d.keep.slots) := by
  intro e
  have he : e = d.cardShown.resolved (d.keep.candidates.find? (fun c => d.keep.allUsable (recordSlots c))) :=
    keepBoot_eq hphase hrev
  clear_value e
  generalize d.keep.candidates.find? (fun c => d.keep.allUsable (recordSlots c)) = found at he ⊢
  cases found with
  | none =>
    obtain ⟨honly, hnone⟩ := resolved_none_effect d he
    exact ⟨honly.2, honly.sameMemory, fun _ hc => (by cases hc), fun _ => hnone⟩
  | some c =>
    obtain ⟨honly, hsome⟩ := resolved_some_effect d c he
    exact ⟨honly.2, honly.sameMemory, fun _ hc => (by cases hc; exact hsome), fun h => (by cases h)⟩

/-- What MGMT_READY does after a restart that reverts nothing. -/
theorem mgmtReady_effect (hphase : d.keepPhase = 1) (hrev : d.keep.reverting = false) :
    let e := d.mgmtReady
    e.keepPhase = 2 ∧ e.regF Reg.kepMbStatus 8 8 = 0 ∧ e.regF Reg.kepStatus 4 4 = 0 ∧ e.keep.unproved = 0 ∧
      e.reg Reg.kepFwVersion = BitVec.ofNat 64 (imageVersion (d.keep.image 3 (d.slotB 3))) ∧
      (recordTrial d.keep.record = 0 → e.keep.records = d.keep.records) ∧ e.keep.slots = d.keep.slots ∧
      (∀ x : Nat, d.keep.cfgBefore = some x → x < 8 → e.cfgState = x) ∧ SameMemory d e := by
  intro e
  obtain ⟨x, hx⟩ : ∃ x, x = d.readyShown := ⟨_, rfl⟩
  obtain ⟨y, hy⟩ : ∃ y, y = x.readyRecorded d.keep.record d.keep.cfgBefore.isSome := ⟨_, rfl⟩
  have he : e = y.restartEnded := by rw [hy, hx]; exact mgmtReady_eq hphase hrev
  obtain ⟨hxphase, hxmail, hxkeep, hxfw, hxonly⟩ := readyShown_effect d hx
  obtain ⟨hyregs, hykeep, hyrec, hyonly⟩ := readyRecorded_effect x d.keep.record d.keep.cfgBefore.isSome hy
  obtain ⟨hregs, hphase', htrial, hkeep, hstate, honly⟩ := restartEnded_effect y he
  clear_value e
  refine ⟨?_, ?_, htrial, by rw [hkeep], ?_, fun h => ?_, ?_, fun v hv hlt => hstate v ?_ (by omega), ?_⟩
  · rw [hphase', Device.keepPhase, Device.regF, hyregs _ (by decide)]
    exact hxphase
  · rw [Device.regF, hregs _ (by decide), hyregs _ (by decide)]
    exact hxmail
  · rw [hregs _ (by decide), hyregs _ (by decide), hxfw]
  · rw [hkeep]
    exact (hyrec h).trans (by rw [hxkeep])
  · rw [hkeep]
    dsimp only
    rw [hykeep, hxkeep]
  · rw [hykeep, hxkeep]
    exact hv
  · exact (hxonly.trans (hyonly.trans honly)).sameMemory

/-- What the end of a trial's time does. -/
theorem trialExpires_effect (hphase : d.keepPhase = 1) (hrev : d.keep.reverting = false)
    (htrial : recordTrial d.keep.record ≠ 0) (hlate : d.keep.restartAt + 100000000 ≤ d.now) :
    let e := d.trialExpires
    e.keepPhase = 3 ∧ e.keep.reverting = true ∧ e.keep.records = d.keep.records ∧
      SameRegs [Reg.kepStatus, Reg.kepMbStatus] d e ∧ SameMemory d e := by
  intro e
  obtain ⟨x, hx⟩ : ∃ x, x = d.keepDown 3 := ⟨_, rfl⟩
  obtain ⟨hph, hkeep, hregs, honly⟩ := keepDown_effect d (p := 3) (by decide) hx
  have he : e = { x with keep := { x.keep with reverting := true } } := by
    rw [hx]
    exact trialExpires_late hphase hrev htrial hlate
  clear_value e
  rw [he]
  exact ⟨hph, rfl, by rw [hkeep], hregs, (honly.trans (keepOnly_keep x rfl)).sameMemory⟩

end

/-- Settles O39: each clause is what the equation of its command and the effects of its parts give. -/
theorem keepUpdatesActivatesAndBoots : Obligations.KeepUpdatesActivatesAndBoots := by
  unfold Obligations.KeepUpdatesActivatesAndBoots
  intro s ha
  refine ⟨fun arg hphase hjob env => ⟨fun h1 h4 hentry => ?_, fun h => ?_⟩, fun j hjob hport htype => ?_,
    fun arg harg hphase hjob => ⟨fun hload => ?_, fun hload t ht hs => ?_, fun hload hstaged => ?_⟩,
    ⟨fun hphase => ?_, fun hphase hrev => ?_⟩, ⟨fun hphase => ?_, fun hphase hrev => ?_⟩, fun hphase hrev htrial hlate => ?_,
    fun ex hphase => ?_, ?_⟩
  · exact completes_took (f := (·.startUpdate .mailbox arg env)) rfl ha
      (updateTaken_effect s.dev _ (startUpdate_taken hphase hjob env h1 h4 hentry))
  · exact completes_took (f := (·.startUpdate .mailbox arg env)) rfl ha
      (updateRefused_effect s.dev (startUpdate_refused hphase hjob env h))
  · refine completes_took (f := Device.cardOut) rfl ha ?_
    obtain ⟨hkeep, hcard, hres, hfail⟩ := cardOut_updating s.dev hjob hport htype rfl
    refine ⟨by rw [hkeep], by rw [hkeep], hcard, hres, ?_, fun t b hne => ?_, hfail, by rw [hkeep]; rfl⟩
    · rw [hkeep]
      exact slot_setSlot _ _ _ _
    · rw [hkeep]
      exact slot_setSlot_ne _ _ hne
  · exact completes_took (f := (·.activateTrial .mailbox arg)) rfl ha
      (activateTrial_refused hphase hjob (by decide) (activateFault_loading harg hload))
  · exact completes_took (f := (·.activateTrial .mailbox arg)) rfl ha
      (activateTrial_refused hphase hjob (by decide) (activateFault_unstaged harg hload ht hs))
  · exact completes_took (f := (·.activateTrial .mailbox arg)) rfl ha
      (activateTrial_effect hphase hjob (activateFault_staged harg hload hstaged))
  · exact completes_took (f := Device.keepBoot) rfl ha (keepBoot_recovery hphase)
  · exact completes_took (f := Device.keepBoot) rfl ha (keepBoot_effect hphase hrev)
  · exact completes_took (f := Device.mgmtReady) rfl ha (mgmtReady_early hphase)
  · exact completes_took (f := Device.mgmtReady) rfl ha (mgmtReady_effect hphase hrev)
  · exact completes_took (f := Device.trialExpires) rfl ha (trialExpires_effect hphase hrev htrial hlate)
  · exact completes_took (f := (·.cardIn ex)) rfl ha (cardIn_effect s.dev ex hphase rfl)
  · exact completes_tookAlways (f := Device.vbatLoss) rfl (vbatLoss_powered ha)

end Sys2Proof.Machine
end

section
/-!
PROOFS. The pins that follow the TAP and the memories (R487).
-/
namespace Sys2Proof.Machine

open Sys2Proof Sys2Proof.Tests

/-! ### A reset of a function without tasks and reads (R381) -/

/-- No task, no transaction, and no read of a ring or of an input. -/
def NoWork (d : Device) : Prop :=
  d.lantern.tasks = [] ∧ d.net.txns = [] ∧ d.hif.inputs = [] ∧ d.hif.fetches = []

theorem failReads_noWork {d : Device} (h : NoWork d) (f : Nat) : d.failReads f = d := by
  obtain ⟨-, htxns, hinputs, hfetches⟩ := h
  simp [Device.failReads, htxns, hinputs, hfetches]

/-- Besides registers, only the functions and requests of the host interface differ, and not its reads. -/
def HifShed (d d' : Device) : Prop :=
  d' = { d with regs := d'.regs, hif := d'.hif } ∧ d'.hif.inputs = d.hif.inputs ∧ d'.hif.fetches = d.hif.fetches

theorem HifShed.refl (d : Device) : HifShed d d := ⟨rfl, rfl, rfl⟩

theorem HifShed.trans {d d' d'' : Device} (h : HifShed d d') (h' : HifShed d' d'') : HifShed d d'' := by
  obtain ⟨he, hin, hfe⟩ := h
  obtain ⟨he', hin', hfe'⟩ := h'
  refine ⟨he'.trans ?_, hin'.trans hin, hfe'.trans hfe⟩
  rw [he]

theorem OnlyRegs.hifShed {as : List Nat} {d d' : Device} (h : OnlyRegs as d d') : HifShed d d' := by
  obtain ⟨he, -⟩ := h
  have hh : d'.hif = d.hif := by rw [he]
  exact ⟨by rw [hh]; exact he, by rw [hh], by rw [hh]⟩

theorem hifShed_setFunc (d : Device) (f : Nat) (x : Func) : HifShed d (d.setFunc f x) := ⟨rfl, rfl, rfl⟩

theorem HifShed.noWork {d d' : Device} (h : HifShed d d') (hd : NoWork d) : NoWork d' := by
  obtain ⟨he, hin, hfe⟩ := h
  obtain ⟨htasks, htxns, hinputs, hfetches⟩ := hd
  exact ⟨by rw [he]; exact htasks, by rw [he]; exact htxns, hin.trans hinputs, hfe.trans hfetches⟩

theorem hifShed_ringsOff (f : Nat) (l : List Nat) (d : Device) :
    HifShed d (l.foldl (fun d r => if ringFunc d r = f then d.ringOff r else d) d) := by
  induction l generalizing d with
  | nil => exact .refl d
  | cons r l ih =>
    refine HifShed.trans ?_ (ih _)
    dsimp only
    split
    · exact (onlyRegs_ringOff d r).hifShed
    · exact .refl d

/-- Before the aborts, a device without work only sheds what belongs to the function. -/
theorem hifShed_beforeAborts {d : Device} (h : NoWork d) (f : Nat) : HifShed d (d.beforeAborts f) := by
  unfold Device.beforeAborts
  extract_lets posted e x y
  have he : HifShed d e := by
    simp only [e]
    split
    · exact .refl d
    · exact (onlyRegs_bump _ _ _).hifShed
  have hx : HifShed d x := he.trans ⟨rfl, rfl, rfl⟩
  have hy : HifShed d y := by
    simp only [y]
    rw [failReads_noWork (hx.noWork h)]
    exact hx.trans (hifShed_setFunc x f _)
  exact hy.trans (hifShed_ringsOff f _ y)

theorem funcContexts_noWork {d : Device} (h : NoWork d) (f : Nat) : d.funcContexts f = [] := by
  obtain ⟨htasks, -⟩ := h
  simp [Device.funcContexts, htasks]

theorem hifShed_resetFunc {d : Device} (h : NoWork d) (f : Nat) : HifShed d (d.resetFunc f) := by
  have hshed := hifShed_beforeAborts h f
  rw [resetFunc_eq, funcContexts_noWork (hshed.noWork h), List.foldl_nil]
  exact hshed

theorem hifShed_resetFuncs (l : List Nat) {d : Device} (h : NoWork d) : HifShed d (l.foldl (fun d f => d.resetFunc f) d) := by
  induction l generalizing d with
  | nil => exact .refl d
  | cons f l ih =>
    have hf := hifShed_resetFunc h f
    exact hf.trans (ih (hf.noWork h))

/-- The registers of the host interface reset. -/
def Device.hifRegsReset (d : Device) : Device := { d with regs := d.regs.filter (fun e => !hifResets e.1) }

theorem hifRegsReset_tile (d : Device) : d.hifRegsReset.tile = d.tile := rfl

theorem mapHif_tile (d : Device) (f : Hif → Hif) : (d.mapHif f).tile = d.tile := rfl

theorem resetPf_eq (d : Device) : d.resetPf = ((List.range 64).foldl (fun d f => d.resetFunc f) d).hifRegsReset := rfl

/-- A reset of every function that leaves no work behind function 0's leaves the tile stores as function 0's reset left them. -/
theorem tile_loseLink {d : Device} (h : NoWork ((d.setReg Reg.hifStatus 0).resetFunc 0)) :
    d.loseLink.tile = ((d.setReg Reg.hifStatus 0).resetFunc 0).tile := by
  have hrange : List.range 64 = 0 :: List.range' 1 63 := by decide
  obtain ⟨he, -⟩ := hifShed_resetFuncs (List.range' 1 63) h
  rw [Device.loseLink, mapHif_tile, resetPf_eq, hifRegsReset_tile, hrange, List.foldl_cons, he]

/-! ### Pins that follow the TAP (R487) -/

/-- The links as they are when the pins follow the TAP. -/
def Device.linksDetect (d : Device) : Device :=
  (List.range 64).foldl (fun d n => if 2 ≤ d.linkState n ∧ d.linkState n ≤ 5 then d.toLinkState n 1 else d) d

/-- The TAP with instruction `op` in force and no Spire selected. -/
def Tap.holding (t : Tap) (op : BitVec 8) : Tap := { t with ir := op, selected := [] }

/-- An instruction of boundary scan that takes the pins. -/
theorem setIr_takes {d : Device} {op : BitVec 8} (hop : op ≠ 0x20) (hwas : d.pinsTaken = false)
    (hnow : (d.mapTap (·.holding op)).pinsTaken = true) : d.setIr op = (d.mapTap (·.holding op)).takePins := by
  have hheld : d.mapTap (fun t => { t with ir := op, selected := if op = 0x20 then t.selected else [] }) =
      d.mapTap (·.holding op) := by
    simp only [if_neg hop]
    rfl
  unfold Device.setIr
  rw [hheld, hwas]
  dsimp only
  rw [hnow]
  rfl

/-- EXTEST loaded where the pins did not follow the TAP. -/
theorem loadIr_extest {d : Device} (hwas : d.pinsTaken = false) (hup : d.belfry.rail = .up) :
    d.loadIr 0 = ((d.emit (.tdo 8 d.captureIr)).mapTap (·.holding 0)).linksDetect.loseLink := by
  have hop : (if d.tapDisabled && ((0 : BitVec 8) == 0x20 || (0 : BitVec 8) == 0x21) then (0xFF : BitVec 8) else 0) = 0 := by
    simp
  have hload : d.loadIr 0 = (d.emit (.tdo 8 d.captureIr)).setIr
      (if d.tapDisabled && ((0 : BitVec 8) == 0x20 || (0 : BitVec 8) == 0x21) then (0xFF : BitVec 8) else 0) := rfl
  rw [hload, hop]
  refine setIr_takes (by decide) hwas ?_
  rw [Device.pinsTaken, Device.mapTap, Device.emit, hup]
  rfl

/-- The completing cluster task of context 7, which is the physical function's, in a cluster of one device, with a unit of the Dome
network on its way. -/
def scannedDev : Device := { arrivingDev with regs := fresh.regs }

/-- That device once EXTEST is in force and the PCIe link is down. -/
def pinnedDev : Device :=
  ((scannedDev.emit (.tdo 8 scannedDev.captureIr)).mapTap (·.holding 0)).linksDetect.setReg
    Reg.hifStatus 0

theorem headLeft_pinnedDev : HeadLeft ((pinnedDev.beforeAborts 0).abortChosen 7) := by
  unfold HeadLeft
  decide +kernel

theorem endsNextGcyc_pinnedDev : EndsNextGcyc (pinnedDev.beforeAborts 0) 7 := by
  unfold EndsNextGcyc
  decide +kernel

/-- The device that the reset of the physical function leaves. -/
def pinnedEnded : Device := ((pinnedDev.beforeAborts 0).abortChosen 7).firstGcyc.holderAborted

theorem resetFunc_pinnedDev : pinnedDev.resetFunc 0 = pinnedEnded := by
  have hctx : (pinnedDev.beforeAborts 0).funcContexts 0 = [7] := by decide +kernel
  rw [resetFunc_eq, hctx, List.foldl_cons, List.foldl_nil, endsNextGcyc_pinnedDev.abortRequest headLeft_pinnedDev, pinnedEnded]

theorem noWork_pinnedEnded : NoWork pinnedEnded := by
  unfold NoWork
  decide +kernel

/-- The gcyc in which the task ends has brought the unit to its line. -/
theorem tile_extest : ((scannedDev.loadIr 0).tile.unit 5).data ≠ (scannedDev.tile.unit 5).data := by
  rw [loadIr_extest (by decide +kernel) (by decide +kernel)]
  rw [tile_loseLink (by exact resetFunc_pinnedDev ▸ noWork_pinnedEnded)]
  show ((pinnedDev.resetFunc 0).tile.unit 5).data ≠ _
  rw [resetFunc_pinnedDev]
  decide +kernel

/-- Refutes O43: EXTEST takes the pins of a device of which the physical function's completing cluster task is aborted; the abort takes
a gcyc, a unit of the Dome network arrives in it, and the tile stores change. -/
theorem not_tapScansAndReachesTheDevice : ¬ Obligations.TapScansAndReachesTheDevice := by
  intro h
  obtain ⟨hscan, -⟩ := h
  obtain ⟨-, -, -, hpins⟩ := hscan { dev := scannedDev, pending := [] } (by decide +kernel)
  obtain ⟨hextest, -⟩ := hpins 0 0
  obtain ⟨-, htake⟩ := hextest (Instr.tapExtest, 0) (by simp)
  obtain ⟨d, hexec, -, -, -, -, -, hmem⟩ := htake (by decide +kernel) (by decide +kernel)
  have hd : d = scannedDev.loadIr 0 := by
    have hnext : exec (.tapExtest none) { dev := scannedDev, pending := [] } =
        .next { dev := scannedDev.loadIr 0, pending := [] } := by
      have hruns : scannedDev.belfryRuns = true := by decide +kernel
      have htap : exec (.tapExtest none) { dev := scannedDev, pending := [] } =
          .next { dev := if scannedDev.belfryRuns then scannedDev.loadIr 0 else scannedDev, pending := [] } := rfl
      rw [htap, if_pos hruns]
    rw [hnext] at hexec
    have hstate := Host.Outcome.next.inj hexec
    rw [State.mk.injEq] at hstate
    exact hstate.1.symm
  obtain ⟨-, htile, -⟩ := hmem
  refine tile_extest ?_
  rw [← hd, htile]

end Sys2Proof.Machine
end
